-- ==== Sys2Proof/Word.lean ====
section
/-!
DEFINITION. The words of the model: bytes and register words (R11, R16), and the sparse table that holds every indexed
store of the machine (register file, DRAM, flash, units) as plain data.
-/
namespace Sys2Proof

/-- A byte of memory (R11). -/
abbrev Byte := BitVec 8

/-- A 32-bit register word (R16). -/
abbrev Word := BitVec 32

/-- A sparse table: pairs of a key and a value, keys strictly rising, no value equal to its key's default. -/
abbrev Tbl (α : Type) := List (Nat × α)

end Sys2Proof
end

