-- ==== Sys2Proof/Syntax.lean ====
section
/-!
DEFINITION. The commands of the block: one constructor per row of the opcode table, with the operands a row needs, and the data that some
operands hold.
-/
namespace Sys2Proof

/-! ### Operands -/

/-- Where a KSP message comes from and where its answer goes (R498, R499): transport 1 Ethernet or 2 the recovery UART; the source address and
port of a datagram. -/
structure Peer where
  transport : Nat
  ip : Nat := 0
  port : Nat := 0
  deriving DecidableEq, Repr

/-- A packet as it arrives on a port (R453): SRC, DST, BCAST, LSEQ, HOPS and EPOCH of its header, its payload, whether the payload CRC and the framing
are good, and whether an SDS token preceded it. -/
structure RxPacket where
  src : Nat
  dst : Nat
  bcast : Bool
  lseq : Nat
  hops : Nat
  epoch : Nat
  payload : List Byte
  crcOk : Bool := true
  framed : Bool := true
  sds : Bool := false
  deriving DecidableEq, Repr

/-- A training set as it arrives on a physical lane (R441): bytes 1 to 15, whether its symbols come inverted, whether the own receiver is satisfied with
this lane, and the request it makes of the partner's transmitter. -/
structure KtsIn where
  lane : Nat
  bytes : List Byte
  inverted : Bool := false
  satisfied : Bool := false
  ask : Nat := 0x0F
  deriving DecidableEq, Repr

/-- A request as it is raised at a Doorway (R416 to R419): who, first address, bytes, whether it asks for a lock, whether a fence of its source stands
before it, and whether it is a read (at PCIe egress a non-posted read of the host, R391). Where `readOver` holds it raises nothing, and reports that the oldest host read of `who` has ended. -/
structure Arrival where
  who : Nat
  addr : Nat
  bytes : Nat
  lock : Bool := false
  fence : Bool := false
  read : Bool := false
  readOver : Bool := false
  deriving DecidableEq, Repr

/-- What the ECC logic found in a transfer (R411). -/
inductive EccResult where
  | clean | corrected | uncorrectable
  deriving DecidableEq, Repr

/-- What a stripe's memories report (R525, R528). -/
inductive SramError where
  | corrected | stripeStore | microcodeStore | microcodeParity
  deriving DecidableEq, Repr

/-- How a read of a chain fails (R402): no completion in time, an error completion, host memory out of reach, or an uncorrectable DRAM error at an
address. -/
inductive ReadFail where
  | timeout | errorCompletion | unavailable
  | dramError (addr : Nat)
  deriving DecidableEq, Repr

/-- A host configuration-space write (R355, R356, R381, R386): memory space enable of the PF, log2 of a new BAR4 size, Bus Master Enable of a function set,
NumVFs, or the MSI-X function mask. -/
inductive CfgWrite where
  | memEnable (on : Bool)
  | bar4Size (log2 : Nat)
  | busMaster (fn : Fin 64)
  | numVfs (n : Fin 64)
  | functionMask (fn : Fin 64) (on : Bool)
  deriving DecidableEq, Repr

/-! ### Commands -/

/-- A command of the block: first, in the order of the table, those with operands, then those without.  Times are in position clocks (2.5 ns) on the scale of POS.TIME; a time that has passed already means now. -/
inductive Instr where
  /-- RESET_RELEASE (R548); operands: `trained`: the DRAM channels that pass training. -/
  | resetRelease (trained : List (Fin 16))
  /-- TEMP_SAMPLE (R559); operands: `quarters`: the readings of the twenty sensors in quarters of a degree. -/
  | tempSample (quarters : List Int)
  /-- ENCODER_EDGE (R24); operands: encoder, levels of its phases, the cycle, and for how many cycles the levels were stable. -/
  | encoderEdge (e : Fin 4) (a b : Bool) (at_ stable : Nat)
  /-- Z_EDGE (R26). -/
  | zEdge (e : Fin 4) (at_ : Nat)
  /-- ENCODER_LOST (R28). -/
  | encoderLost (e : Fin 4) (at_ : Nat)
  /-- MOTION_STOP (R37). -/
  | motionStop (at_ : Nat)
  /-- READMIT (R29); operands: `v`: the other bits of the word written. -/
  | readmit (e : Fin 4) (v : BitVec 32)
  /-- MD_OFFSET_WRITE (R35). -/
  | mdOffsetWrite (v : BitVec 64)
  /-- LTRIG_TARGET (R41). -/
  | ltrigTarget (g : Fin 48) (at_ : Nat)
  /-- TRG_CEIL_EXPIRY (R43). -/
  | trgCeilExpiry (g : Fin 48)
  /-- TRG_FLOOR_EXPIRY (R44). -/
  | trgFloorExpiry (g : Fin 48)
  /-- TRG_CLEAR (R43); operands: `v`: the other bits of the word written. -/
  | trgClear (g : Fin 48) (v : BitVec 32)
  /-- LINE_PASSED (R46); operands: `differs`: a row CRC of a mirroring spare differs. -/
  | linePassed (at_ : Nat) (differs : Bool)
  /-- CMP_FIRE (R51). -/
  | cmpFire (k : Fin 256) (at_ : Nat)
  /-- CMP_ARM (R50); operands: slot, and the value written to its CMP_CTRL. -/
  | cmpArm (k : Fin 256) (v : BitVec 32)
  /-- POS_SYNC_EDGE (R57). -/
  | posSyncEdge (at_ : Nat)
  /-- POS_RECEIVE (R458). -/
  | posReceive (side : Fin 2) (p : RxPacket)
  /-- HOLDOVER (R59). -/
  | holdover (at_ : Nat)
  /-- CAM_TRIG (R65). -/
  | camTrig (p : Fin 16)
  /-- CLG_CC (R72); operands: port m, CC line c + 1. -/
  | clgCc (m c : Fin 4)
  /-- TRIGGER_PULSE_END (R65); operands: ports 16 to 19 are CLG0 to CLG3. -/
  | triggerPulseEnd (p : Fin 20)
  /-- EXPOSURE_STAMP (R39). -/
  | exposureStamp (p : Fin 20)
  /-- CAM_LINE (R67); operands: `planes`: the camera's values, one list for mono and three for a trilinear camera; `elasticFull`: the elastic buffer has no room. -/
  | camLine (p : Fin 20) (at_ : Nat) (planes : List (List Nat)) (elasticFull : Bool)
  /-- ACQ_FRAME_EDGE (R80). -/
  | acqFrameEdge (p : Fin 20) (opens : Bool) (at_ : Nat)
  /-- GC_GO (R69); operands: `v`: the other bits of the word written to GC_CTRL. -/
  | gcGo (p : Fin 16) (v : BitVec 32)
  /-- GC_ANSWER (R69). -/
  | gcAnswer (p : Fin 16) (ok : Bool) (data : List Byte)
  /-- GC_TIMEOUT (R69). -/
  | gcTimeout (p : Fin 16)
  /-- CAM_LANES_SIGNAL (R90). -/
  | camLanesSignal (p : Fin 16)
  /-- CAM_LINK_UP (R90); operands: `skew`: lane skew in ns. -/
  | camLinkUp (p : Fin 16) (skew : Nat)
  /-- DESKEW_RETRY (R62). -/
  | deskewRetry (p : Fin 16) (skew : Nat)
  /-- CAM_IDENTIFY_DONE (R91); operands: `ident`: the bytes that the identity reads returned. -/
  | camIdentifyDone (p : Fin 16) (ident : List Byte)
  /-- CAM_IDENTIFY_WAIT_END (R90). -/
  | camIdentifyWaitEnd (p : Fin 16)
  /-- CAM_RETRY (R90); operands: `v`: the other bits of the word written. -/
  | camRetry (p : Fin 16) (v : BitVec 32)
  /-- ROLE_MISSING_TIMEOUT (R93). -/
  | roleMissingTimeout (p : Fin 20)
  /-- CLG_CLOCK_LOCKED (R74). -/
  | clgClockLocked (m : Fin 4) (mhz : Nat)
  /-- CLG_CLOCK_LOST (R74). -/
  | clgClockLost (m : Fin 4) (ch : Fin 3)
  /-- SER_BYTE_RECEIVE (R73). -/
  | serByteReceive (m : Fin 4) (b : Byte)
  /-- SER_TX_WRITE (R73). -/
  | serTxWrite (m : Fin 4) (v : BitVec 32)
  /-- SER_RX_READ (R73). -/
  | serRxRead (m : Fin 4)
  /-- CAMSIDE_CHUNK (R127); operands: role. -/
  | camsideChunk (r : Fin 16)
  /-- OUTPUT_LINE_COMPUTE (R117); operands: role and channel. -/
  | outputLineCompute (r : Fin 16) (c : Fin 4)
  /-- OUTPUT_LINE_DEADLINE (R117). -/
  | outputLineDeadline (r : Fin 16) (c : Fin 4)
  /-- BAND_LINE_TAKE (R138). -/
  | bandLineTake (r : Fin 16)
  /-- FENCE_COMPLETE (R417); operands: the requester whose fence completes. -/
  | fenceComplete (source : Fin 128)
  /-- WINDOW_RELEASE (R148). -/
  | windowRelease (r : Fin 16)
  /-- APRON_WAIT_EXPIRY (R160). -/
  | apronWaitExpiry (r : Fin 16)
  /-- APRON_RECEIVE (R160). -/
  | apronReceive (side : Fin 2) (p : RxPacket)
  /-- BAR4_READ (R156). -/
  | bar4Read (offset len : Nat) (ecc : EccResult)
  /-- BAR4_WRITE (R157). -/
  | bar4Write (offset : Nat) (bytes : List Byte)
  /-- SEG_ROW (R218). -/
  | segRow (r : Fin 16)
  /-- SEG_SKIP (R222). -/
  | segSkip (r : Fin 16)
  /-- IMAGE_ROW_DELIVER (R379); operands: the context of the subscription. -/
  | imageRowDeliver (ctx : Fin 4096)
  /-- DCA_RESULT (R283); operands: `memError`: an uncorrectable memory error ends the request. -/
  | dcaResult (memError : Bool)
  /-- DCA_DEADLINE (R283). -/
  | dcaDeadline (at_ : Nat)
  /-- MODEL_LOAD_RECEIVED (R275); operands: `host`: what the host buffer holds. -/
  | modelLoadReceived (bank : Fin 2) (host : List Byte)
  /-- MODEL_VERIFY_DONE (R275). -/
  | modelVerifyDone (bank : Fin 2)
  /-- SW_PULSE (R287). -/
  | swPulse (mask : BitVec 16)
  /-- SW_SET (R287). -/
  | swSet (mask : BitVec 16)
  /-- SW_CLEAR (R287). -/
  | swClear (mask : BitVec 16)
  /-- GPIO_EDGE (R299); operands: pin, its new level, the cycle, and for how many cycles it was stable. -/
  | gpioEdge (p : Fin 32) (level : Bool) (at_ stable : Nat)
  /-- GPO (R301). -/
  | gpo (p : Fin 32)
  /-- GPO_PULSE_RISE (R301). -/
  | gpoPulseRise (p : Fin 32)
  /-- GPO_PULSE_END (R301). -/
  | gpoPulseEnd (p : Fin 32)
  /-- TMR_START (R302). -/
  | tmrStart (n : Fin 16)
  /-- TMR_STOP (R302). -/
  | tmrStop (n : Fin 16)
  /-- TMR_EXPIRY (R302). -/
  | tmrExpiry (n : Fin 16)
  /-- MARK_FIRE (R307). -/
  | markFire (k : Fin 8)
  /-- MARK_INHIBIT (R307). -/
  | markInhibit (k : Fin 8)
  /-- MARK_PULSE_END (R307). -/
  | markPulseEnd (k : Fin 8)
  /-- MARK_HOLDOFF_END (R307). -/
  | markHoldoffEnd (k : Fin 8)
  /-- SYNC_REQ_WRITE (R172); operands: `v`: the other bits of the word written to PRF_CTRL. -/
  | syncReqWrite (v : BitVec 32)
  /-- IRQ (R382). -/
  | irq (n : Fin 64)
  /-- DMA_START (R388). -/
  | dmaStart (n : Fin 64)
  /-- PANTRY_WRITE_DONE (R331); operands: `held`: what the flash holds where it did not take what was programmed. -/
  | pantryWriteDone (held : Option (List Byte))
  /-- GAL_UPDATE (R345); operands: `v`: the other bits of the word written to GAL.CTRL. -/
  | galUpdate (v : BitVec 32)
  /-- DP_PLUG (R348); operands: the sink's lane count and rate code, and its EDID. -/
  | dpPlug (lanes rate : Nat) (edid : List Byte)
  /-- IRQ_HPD (R348); operands: `lost`: the link status shows lock lost. -/
  | irqHpd (lost : Bool)
  /-- DP_TRAIN_DONE (R350); operands: `good`: the lane counts with their rate codes at which the sink trains. -/
  | dpTrainDone (good : List (Nat × Nat))
  /-- DP_TRAIN_RETRY (R350). -/
  | dpTrainRetry (lanes rate : Nat) (edid : List Byte)
  /-- SQ_DOORBELL (R359); operands: function, its own number of the queue, and the tail. -/
  | sqDoorbell (fn : Fin 64) (n : Fin 16384) (value : BitVec 16)
  /-- CQ_DOORBELL (R359); operands: function, its own number of the queue, and the head. -/
  | cqDoorbell (fn : Fin 64) (n : Fin 16384) (value : BitVec 16)
  /-- SQ_ENABLE_WRITE (R358); operands: function, its own number of the queue pair, and the value of SQ_CFG. -/
  | sqEnableWrite (fn : Fin 64) (n : Fin 16384) (v : BitVec 32)
  /-- CQ_ENABLE_WRITE (R358); operands: function, its own number of the queue pair, and the value of CQ_CFG. -/
  | cqEnableWrite (fn : Fin 64) (n : Fin 16384) (v : BitVec 32)
  /-- COMMAND_FETCH (R360); operands: queue, and what the reads of its next entries return. -/
  | commandFetch (q : Fin 16384) (entries : List (List Byte))
  /-- CQ_ENTRY_WRITE (R361). -/
  | cqEntryWrite (q : Fin 16384)
  /-- CQ_COAL_EXPIRY (R381). -/
  | cqCoalExpiry (q : Fin 16384)
  /-- MSIX_UNMASK (R381). -/
  | msixUnmask (fn : Fin 64) (vector : Fin 2048)
  /-- IDENTIFY (R369); operands: the queue whose next command starts. -/
  | identify (q : Fin 16384)
  /-- COMMIT (R488); operands: the queue whose next command starts. -/
  | commit (q : Fin 16384)
  /-- MODE_REQUEST (R468); operands: the queue whose next command starts. -/
  | modeRequest (q : Fin 16384)
  /-- RECIPE_SWITCH (R482); operands: the queue whose next command starts. -/
  | recipeSwitch (q : Fin 16384)
  /-- PROFILE_RESET (R172); operands: the queue whose next command starts. -/
  | profileReset (q : Fin 16384)
  /-- CROP_READ (R368); operands: the queue whose next command starts. -/
  | cropRead (q : Fin 16384)
  /-- DMA_RUN (R392); operands: the queue whose next command starts. -/
  | dmaRun (q : Fin 16384)
  /-- CALIBRATE (R326); operands: the queue whose next command starts. -/
  | calibrate (q : Fin 16384)
  /-- TEST (R530); operands: the queue whose next command starts. -/
  | test (q : Fin 16384)
  /-- ATTIC_EXPORT (R371); operands: the queue whose next command starts. -/
  | atticExport (q : Fin 16384)
  /-- REPLAY (R49); operands: the queue whose next command starts. -/
  | replay (q : Fin 16384)
  /-- REPLAY_LOAD_DONE (R466); operands: `first`: WPOS of the first host line's stamp. -/
  | replayLoadDone (first : Int)
  /-- MODEL_LOAD (R276). -/
  | modelLoad (q : Fin 16384)
  /-- LANE_RETRAIN (R371). -/
  | laneRetrain (q : Fin 16384)
  /-- SPARE_ROTATE (R529). -/
  | spareRotate (q : Fin 16384)
  /-- SUSPEND (R372). -/
  | suspend (q : Fin 16384)
  /-- RESUME (R372). -/
  | resume (q : Fin 16384)
  /-- CANCEL (R372); operands: `blocks`, `data`: how far the stream of a cancelled DMA_RUN had come. -/
  | cancel (q : Fin 16384) (blocks : Nat) (data : List Byte)
  /-- OP_STATUS (R373). -/
  | opStatus (q : Fin 16384)
  /-- SUBSCRIBE_RECORDS (R378). -/
  | subscribeRecords (q : Fin 16384)
  /-- SUBSCRIBE_PREVIEW (R352). -/
  | subscribePreview (q : Fin 16384)
  /-- SUBSCRIBE_IMAGE (R379). -/
  | subscribeImage (q : Fin 16384)
  /-- SUBSCRIBE_PROFILE (R186). -/
  | subscribeProfile (q : Fin 16384)
  /-- POST_BUFFER (R375). -/
  | postBuffer (q : Fin 16384)
  /-- UNSUBSCRIBE (R380). -/
  | unsubscribe (q : Fin 16384)
  /-- VF_FLR (R384). -/
  | vfFlr (fn : Fin 64)
  /-- HOST_RESET (R384); operands: `linkDown`: the link went down. -/
  | hostReset (linkDown : Bool)
  /-- VF_BME_CLEAR (R386). -/
  | vfBmeClear (fn : Fin 64)
  /-- DMA_GO (R388). -/
  | dmaGo (n : Fin 64)
  /-- DMA_STOP (R403); operands: `blocks`, `data`: how far the chain's stream had come, and its source where that lies in host memory. -/
  | dmaStop (n : Fin 64) (blocks : Nat) (data : List Byte)
  /-- DMA_CLEAR (R389). -/
  | dmaClear (n : Fin 64)
  /-- DMA_DESC_READ (R401); operands: `host`: what the host returned, for a chain in host memory. -/
  | dmaDescRead (n : Fin 64) (host : List Byte)
  /-- DMA_DESC_DONE (R400); operands: `data`: the source stream, where it lies in host memory. -/
  | dmaDescDone (n : Fin 64) (data : List Byte)
  /-- DMA_READ_FAIL (R402); operands: how the read failed, and how many bytes of the output had been written. -/
  | dmaReadFail (n : Fin 64) (kind : ReadFail) (wrote : Nat) (data : List Byte)
  /-- DOORWAY_DECISION (R420); operands: Doorway (0 to 15 DRAM channels, 16 PCIe egress, 17 and 18 seam egresses), requests raised since its last decision, what the holder of a lock does, what ECC finds. -/
  | doorwayDecision (x : Fin 19) (arrivals : List Arrival) (move release : Bool) (ecc : EccResult)
  /-- LOCK_TIMEOUT (R423). -/
  | lockTimeout (x : Fin 19)
  /-- STARVE (R425); operands: Doorway and requester. -/
  | starve (x : Fin 19) (r : Fin 128)
  /-- REFRESH_DUE (R413); operands: `issued`: refreshes run since the last one fell due. -/
  | refreshDue (c : Fin 16) (bank : Fin 32) (issued : Nat)
  /-- RETRAIN_DUE (R414); operands: `gap`: a gap of 100 ns is there; `drift`: beyond the tracking range. -/
  | retrainDue (c : Fin 16) (gap drift : Bool)
  /-- RETRAIN_FORCED (R414). -/
  | retrainForced (c : Fin 16) (drift : Bool)
  /-- MR4_POLL (R415); operands: refresh multipliers by channel; `hot`: a device is beyond its range. -/
  | mr4Poll (mults : List (Fin 3)) (hot : Bool)
  /-- C0_LOAD_WINDOW (R430). -/
  | c0LoadWindow (c : Fin 16)
  /-- REQ_CLASS_WRITE (R424); operands: requester, and the value written to its REQ_CFG. -/
  | reqClassWrite (r : Fin 128) (v : BitVec 32)
  /-- LANE_LOS (R434). -/
  | laneLos (l : Fin 112)
  /-- LANE_LOL (R434); operands: `bitLock`: bit lock is lost, else block lock after so many code errors. -/
  | laneLol (l : Fin 112) (bitLock : Bool) (errors : Nat)
  /-- BITSLIP (R435); operands: `v`: the other bits of the word written. -/
  | bitslip (l : Fin 112) (v : BitVec 32)
  /-- BITSLIP_APPLY (R435). -/
  | bitslipApply (l : Fin 112)
  /-- DETECT_PROBE (R440); operands: side 0 is West, 1 East; `present`: transmit lanes that find a receiver. -/
  | detectProbe (side : Fin 2) (present : List (Fin 8))
  /-- KTS_RECEIVE (R442); operands: KTS2 rather than KTS1, how many equal sets came on each lane, how many KTS2 were sent meanwhile, the set of each lane. -/
  | ktsReceive (side : Fin 2) (second : Bool) (count sent : Nat) (sets : List KtsIn)
  /-- TRAIN_TIMEOUT (R442). -/
  | trainTimeout (side : Fin 2)
  /-- RATE_IDLE_END (R443). -/
  | rateIdleEnd (side : Fin 2)
  /-- EQ_TIMEOUT (R445). -/
  | eqTimeout (side : Fin 2)
  /-- LOCK_HOLD_DONE (R446). -/
  | lockHoldDone (side : Fin 2)
  /-- PORT_RETRY (R446); operands: `v`: the other bits of the word written. -/
  | portRetry (side : Fin 2) (v : BitVec 32)
  /-- CAP_RECEIVE (R447). -/
  | capReceive (side : Fin 2) (p : RxPacket)
  /-- CAP_RESEND (R447). -/
  | capResend (side : Fin 2)
  /-- ACK_RECEIVE (R456). -/
  | ackReceive (side : Fin 2) (p : RxPacket)
  /-- REPLAY_TIMEOUT (R456). -/
  | replayTimeout (side : Fin 2)
  /-- LINKINFO_RECEIVE (R460). -/
  | linkinfoReceive (side : Fin 2) (p : RxPacket)
  /-- SYNC_RECEIVE (R172). -/
  | syncReceive (side : Fin 2) (p : RxPacket)
  /-- SYNC_REQ_RECEIVE (R172). -/
  | syncReqReceive (side : Fin 2) (p : RxPacket)
  /-- COMMIT_RECEIVE (R491). -/
  | commitReceive (side : Fin 2) (p : RxPacket)
  /-- COMMIT_RESULT_RECEIVE (R491). -/
  | commitResultReceive (side : Fin 2) (p : RxPacket)
  /-- BORDER_RECEIVE (R234). -/
  | borderReceive (side : Fin 2) (p : RxPacket)
  /-- YIELD_RECEIVE (R459). -/
  | yieldReceive (side : Fin 2) (p : RxPacket)
  /-- DOZE_IDLE_EXPIRY (R450). -/
  | dozeIdleExpiry (side : Fin 2)
  /-- DOZE_RECEIVE (R450). -/
  | dozeReceive (side : Fin 2)
  /-- WAKE_DETECT (R450). -/
  | wakeDetect (side : Fin 2)
  /-- WAKE_LOCK_TIMEOUT (R449). -/
  | wakeLockTimeout (side : Fin 2)
  /-- MODE_REQ_WRITE (R468). -/
  | modeReqWrite (v : BitVec 32)
  /-- RESET_REQ_WRITE (R466). -/
  | resetReqWrite (v : BitVec 32)
  /-- SHADOW_OPEN (R483). -/
  | shadowOpen (v : BitVec 32)
  /-- SHADOW_WRITE (R484); operands: a word with RWS fields or a TAP entry, and the value written. -/
  | shadowWrite (addr v : BitVec 32)
  /-- SHADOW_SEAL (R485). -/
  | shadowSeal (v : BitVec 32)
  /-- SEAL_CHECK_DONE (R485); operands: the group whose checks end. -/
  | sealCheckDone (g : Fin 32)
  /-- SHADOW_ABORT (R487). -/
  | shadowAbort (v : BitVec 32)
  /-- COMMIT_REQ_WRITE (R488). -/
  | commitReqWrite (v : BitVec 32)
  /-- HELLO (R503); operands: the sender, and the bytes of the message. -/
  | hello (p : Peer) (raw : List Byte)
  /-- OPEN (R507); operands: the sender, and the bytes of the message. -/
  | openSession (p : Peer) (raw : List Byte)
  /-- CLOSE (R506); operands: the sender, and the bytes of the message. -/
  | closeSession (p : Peer) (raw : List Byte)
  /-- KEEPALIVE (R506); operands: the sender, and the bytes of the message. -/
  | keepalive (p : Peer) (raw : List Byte)
  /-- STATUS (R503); operands: the sender, and the bytes of the message. -/
  | status (p : Peer) (raw : List Byte)
  /-- REG_READ (R504); operands: the sender, and the bytes of the message. -/
  | regRead (p : Peer) (raw : List Byte)
  /-- REG_WRITE (R504); operands: the sender, and the bytes of the message. -/
  | regWrite (p : Peer) (raw : List Byte)
  /-- LOG_READ (R503); operands: the sender, and the bytes of the message. -/
  | logRead (p : Peer) (raw : List Byte)
  /-- KSP_RESET (R505); operands: the sender, and the bytes of the message. -/
  | kspReset (p : Peer) (raw : List Byte)
  /-- UPD_BEGIN (R508); operands: `held`: what the flash holds where it did not take what was programmed. -/
  | updBegin (p : Peer) (raw : List Byte) (held : Option (List Byte))
  /-- UPD_DATA (R509). -/
  | updData (p : Peer) (raw : List Byte)
  /-- UPD_BLOCK_WRITTEN (R509); operands: `held`: what the flash holds where it did not take what was programmed. -/
  | updBlockWritten (block : Nat) (held : Option (List Byte))
  /-- UPD_QUERY (R503). -/
  | updQuery (p : Peer) (raw : List Byte)
  /-- UPD_VERIFY (R510). -/
  | updVerify (p : Peer) (raw : List Byte)
  /-- UPD_ACTIVATE (R512); operands: `held`: what the flash holds where it did not take what was programmed. -/
  | updActivate (p : Peer) (raw : List Byte) (held : Option (List Byte))
  /-- UPD_ABORT (R509). -/
  | updAbort (p : Peer) (raw : List Byte)
  /-- ARP_REQUEST (R498). -/
  | arpRequest (ip : BitVec 32)
  /-- TRIAL_CONFIRM (R514); operands: `held`: what the flash holds where it did not take what was programmed. -/
  | trialConfirm (held : Option (List Byte))
  /-- SELFTEST_DONE (R524); operands: stripe, result, and the unit that failed. -/
  | selftestDone (n : Fin 17) (pass : Bool) (unit : Fin 16)
  /-- STRIPE_ERROR (R525). -/
  | stripeError (n : Fin 17) (e : SramError)
  /-- STRIPE_STALL (R525). -/
  | stripeStall (n : Fin 17)
  /-- DRT_BLOCK (R531); operands: of a TEST rather than of the continuous sweep; what the two reads return where it differs from the pattern; corrected errors. -/
  | drtBlock (ofTest : Bool) (first second : Option (List Byte)) (corrected : Nat)
  /-- EYE_PASS_DONE (R532); operands: lane, the measured opening, and whether it is the full scan of a TEST. -/
  | eyePassDone (l : Fin 112) (width height : Nat) (full : Bool)
  /-- DBG_TOKEN_SUBMIT (R534); operands: `v`: bytes 156 to 159 of DBG_TOKEN. -/
  | dbgTokenSubmit (v : BitVec 32)
  /-- DBG_LOCK (R534). -/
  | dbgLock (v : BitVec 32)
  /-- TMUX_ENABLE (R535); operands: `v`: the other bits of the word written to TMUX_CTRL. -/
  | tmuxEnable (v : BitVec 32)
  /-- JTAG_INSTRUCTION (R537). -/
  | jtagInstruction (op : BitVec 8)
  /-- LIVE64_LOW_READ (R16). -/
  | live64LowRead (addr : BitVec 32)
  /-- RSTAT_READ (R374). -/
  | rstatRead (addr : BitVec 32)
  /-- COUNTER_CLEAR_WRITE (R17). -/
  | counterClearWrite (addr v : BitVec 32)
  /-- REGISTER_WRITE (R21); operands: BAR2 rather than BAR0, function, address in that BAR, 4 or 8 bytes, and the value. -/
  | registerWrite (bar2 : Bool) (fn : Fin 64) (addr : BitVec 32) (size : Nat) (value : BitVec 64)
  /-- PCIE_CONFIG_WRITE (R356). -/
  | pcieConfigWrite (c : CfgWrite)
  /-- REFCLK_RESTORED (R552); operands: `lane`: LANE_REFCLK rather than PCIE_REFCLK. -/
  | refclkRestored (lane : Bool)
  /-- QUEUE_FETCH_ERROR (R360). -/
  | queueFetchError (q : Fin 16384)
  /-- LOCK_FAIL (R446). -/
  | lockFail (side : Fin 2)
  /-- REPLAY_HOST_LINE (R49); operands: port, stamp, values and field of the line. -/
  | replayHostLine (p : Fin 20) (wpos : Int) (planes : List (List Nat)) (field : Fin 4)
  /-- TMUX_STROBE (R535); operands: `seen`: the bits of the sampled word that no state holds. -/
  | tmuxStrobe (seen : BitVec 64)
  /-- ETHERNET_LINK_CHANGE (R498). -/
  | ethernetLinkChange (up : Bool)
  /-- POR_ASSERT (R548). -/
  | porAssert
  /-- RST_N_ASSERT (R548). -/
  | rstNAssert
  /-- SUPPLY_DROOP (R547). -/
  | supplyDroop
  /-- SYS_REFCLK_LOSS (R552). -/
  | sysRefclkLoss
  /-- LANE_REFCLK_LOSS (R552). -/
  | laneRefclkLoss
  /-- PCIE_REFCLK_LOSS (R552). -/
  | pcieRefclkLoss
  /-- PERST_N_ASSERT (R549). -/
  | perstNAssert
  /-- THROTTLE_TICK (R560). -/
  | throttleTick
  /-- THERM_COMPARATOR_TRIP (R561). -/
  | thermComparatorTrip
  /-- WATCHDOG_EXPIRY (R472). -/
  | watchdogExpiry
  /-- SRAM_UE (R472). -/
  | sramUe
  /-- FOYER_COMPLETE (R474). -/
  | foyerComplete
  /-- HEARTBEAT_IDLE (R252). -/
  | heartbeatIdle
  /-- POS_SYNC_PULSE (R56). -/
  | posSyncPulse
  /-- HOLDOVER_EXPIRY (R59). -/
  | holdoverExpiry
  /-- TAP_COPYBACK (R124). -/
  | tapCopyback
  /-- ROW_MERGE (R139). -/
  | rowMerge
  /-- MERGE_HOLD_EXPIRY (R139). -/
  | mergeHoldExpiry
  /-- FLOOR_ROW_MERGE (R143). -/
  | floorRowMerge
  /-- ROW_RESOLVE (R233). -/
  | rowResolve
  /-- SEAM_WAIT_EXPIRY (R233). -/
  | seamWaitExpiry
  /-- YIELD_WAIT_EXPIRY (R237). -/
  | yieldWaitExpiry
  /-- RECORD_SPOOL (R377). -/
  | recordSpool
  /-- RECORD_DELIVER (R377). -/
  | recordDeliver
  /-- RECORD_FLUSH (R376). -/
  | recordFlush
  /-- DCA_CROP_FETCH (R266). -/
  | dcaCropFetch
  /-- DCA_RUN_START (R279). -/
  | dcaRunStart
  /-- MARK_SLOT_ARRIVE (R307). -/
  | markSlotArrive
  /-- DEC_SYNC (R172). -/
  | decSync
  /-- PROFILE_SYNC_PIN (R172). -/
  | profileSyncPin
  /-- COMMIT_INPUT (R488). -/
  | commitInput
  /-- POS_CAPTURE (R303). -/
  | posCapture
  /-- CAL_DECISION (R321). -/
  | calDecision
  /-- CAL_COMPUTE_LATE (R316). -/
  | calComputeLate
  /-- EXT_CAL_SUMS_DONE (R326). -/
  | extCalSumsDone
  /-- EXT_CAL_COMPUTE_DONE (R327). -/
  | extCalComputeDone
  /-- PANTRY_WRITE_START (R330). -/
  | pantryWriteStart
  /-- VBLANK_START (R344). -/
  | vblankStart
  /-- UNDERRUN (R346). -/
  | underrun
  /-- DP_UNPLUG (R348). -/
  | dpUnplug
  /-- REPLAY_ATTIC_ROW (R49). -/
  | replayAtticRow
  /-- REPLAY_DONE (R466). -/
  | replayDone
  /-- LINKINFO_TIMER (R460). -/
  | linkinfoTimer
  /-- CASCADE_COMMIT_TIMEOUT (R491). -/
  | cascadeCommitTimeout
  /-- DISCOVER_READY (R469). -/
  | discoverReady
  /-- DISCOVER_TIMEOUT (R469). -/
  | discoverTimeout
  /-- SESSION_IDLE_TIMEOUT (R506). -/
  | sessionIdleTimeout
  /-- TRIAL_TIMER_EXPIRY (R514). -/
  | trialTimerExpiry
  /-- ROTATION_DUE (R518). -/
  | rotationDue
  /-- ROTATION_SWITCH_DONE (R523). -/
  | rotationSwitchDone
  /-- PCIE_LINK_UP (R355). -/
  | pcieLinkUp
  /-- ATTIC_EXPORT_ROW (R371). -/
  | atticExportRow
  /-- UPD_VERIFY_DONE (R510). -/
  | updVerifyDone
  /-- TRST_N_ASSERT (R548). -/
  | trstNAssert
  deriving DecidableEq, Repr

end Sys2Proof
end

