-- ==== Sys2Proof/Decode.lean ====
section
/-!
DEFINITION. Commands as words.  The opcode table gives none of its rows bits: the commands are events and accesses at the part's pins and buses, and
no word spells one.
-/
namespace Sys2Proof

/-- The command that a word spells: none. -/
def decodeTableWord (_nbits _w : Nat) : Option Instr := none

end Sys2Proof
end

