-- ==== Sys2Proof/Config.lean ====
section
/-!
DEFINITION. What an implementation fixes, and the free values: opaque constants without a body, so that nothing in Lean
can see them.  A free value that may differ from draw to draw takes the counter `Dev.draws` as its argument.
-/
namespace Sys2Proof.Config

/-- LINE of the place address, set by the integrator in the recipe (R6); the spec gives no register that holds it. Log 12 (DESIGN CHOICE, safe). -/
opaque line : BitVec 4

/-- CASCADE of the place address, set in the recipe (R6); the spec gives no register that holds it. Log 12 (DESIGN CHOICE, safe). -/
opaque cascade : BitVec 4

/-- The value of a SOBEL or MINMAX stage (KIND 18 or 22) with a MODE above 3, for which R200 and R207 state no result; the last two
arguments are the gradients, or the input. Log 14 (DESIGN CHOICE, safe). -/
opaque stageMode : Nat → Nat → Int → Int → Int

/-- The SECURE_BOOT fuse (R479). Log 13 (DESIGN CHOICE, safe). -/
opaque secureBoot : Bool

/-- The fused hash of the image key (R479), as a big-endian number. Log 13 (DESIGN CHOICE, safe). -/
opaque keyHash : BitVec 256

/-- The fused hash of the debug key (R534), as a big-endian number. Log 13 (DESIGN CHOICE, safe). -/
opaque debugKeyHash : BitVec 256

/-- The part's fused unique identity TST.UID (R534). Log 13 (DESIGN CHOICE, safe). -/
opaque uid : BitVec 64

/-- A value for which the spec states no result (a division by zero in the arithmetic of a chapter): the number of the place where it
arises, and the operand. Log 14 (DESIGN CHOICE, safe). -/
opaque unstated : Nat → Int → Int

/-- Which columns of an Attic row with COVER_GAP had a contributor: the tag does not say (R49, R192), by row and column. Log 75 (DESIGN CHOICE, safe). -/
opaque covered : Nat → Nat → Bool

/-- A byte of the event log (R472, R503), whose layout the spec does not give: by captures in the log and offset. Log 30 (DESIGN CHOICE, safe). -/
opaque logByte : Nat → Nat → BitVec 8

/-- A byte of the firmware version as text (R369, R503), whose form the spec does not give: by VERSION, BUILD and place. Log 30 (DESIGN CHOICE, safe). -/
opaque versionText : Nat → Nat → Nat → BitVec 8

/-- The link-local address that the part takes within 169.254.1.0–169.254.254.255 (R498). Log 30 (DESIGN CHOICE, safe). -/
opaque linkLocal : BitVec 16

/-- The fused Ethernet address (R500, R501). Log 13 (DESIGN CHOICE, safe). -/
opaque mac : BitVec 48

/-- The colour of a pixel of a Gallery region that has nothing to show yet, or of a blank column of the profile strip (R337, R343 state
none). Log 123 (DESIGN CHOICE, safe). -/
opaque blank : BitVec 24

/-- The fused Vendor ID (R355). Log 13 (DESIGN CHOICE, safe). -/
opaque vendor : BitVec 16

/-- Ryulan's manufacturer code in IDCODE, as fused (R537). -/
opaque manufacturer : BitVec 11

/-- The silicon revision (GLB.ID). Log 13 (DESIGN CHOICE, safe). -/
opaque rev : BitVec 8

/-- The speed grade (R2): true for -A12, false for -A10. Log 13 (DESIGN CHOICE, safe). -/
opaque grade12 : Bool

/-- Whether the service key is provisioned (R507). Log 13 (DESIGN CHOICE, safe). -/
opaque keySet : Bool

/-- The service key K (R507), as a big-endian number. Log 13 (DESIGN CHOICE, safe). -/
opaque serviceKey : BitVec 256

/-- Where a camera's standard identification registers lie (R91): the spec names them and gives no address; by field. Log 238 (DESIGN CHOICE, safe). -/
opaque idAddr : Nat → Nat

/-- How many bytes of a MODEL_LOAD have arrived when it is suspended (R276): the spec gives no rate; by draw. Log 263 (DESIGN CHOICE, safe). -/
opaque loadedSoFar : Nat → Nat

/-- How many idle bytes a seam transmitter sends before a packet (R452): the spec times no byte; by port, cycle and place in the stream.
Log 274 (DESIGN CHOICE, safe). -/
opaque idleBytes : Nat → Nat → Nat → Nat

/-- How many 64 B blocks of its stream a channel had moved when a reset cancels its DMA_RUN (R393, R394): the spec times no byte; by channel and cycle.
Log 278 (DESIGN CHOICE, safe). -/
opaque dmaBlocks : Nat → Nat → Nat

/-- The source bytes that the host had returned to such a chain; by channel and cycle. Log 278 (DESIGN CHOICE, safe). -/
opaque dmaData : Nat → Nat → List (BitVec 8)

/-- A random draw of the part (R507, R534): nonces and session identities, by the number of the draw.
Log 13 (DESIGN CHOICE, safe), 15 (DESIGN CHOICE, safe). -/
opaque random : Nat → BitVec 256

end Sys2Proof.Config
end

