-- ==== Sys2Proof/Machine/RegMap.lean ====
section
/-!
DEFINITION. The register map: where every field of every BAR0 register lies (R14 and the register sections of the
chapters), and for every register word its reset value and the access code of each of its bits (R17).
`R.<BLOCK>_<REGISTER>_<FIELD>` is a field's place; an index argument is the instance number of an indexed register.
A register of one field has the one name `R.<BLOCK>_<REGISTER>`.  A field above 32 bits spans the two words of its
64-bit register (R16).
-/
namespace Sys2Proof.Machine

/-- The place of a register field: the BAR0 byte address of its (low) word, its lowest bit and its width. -/
structure Fld where
  addr : Nat
  lo : Nat
  w : Nat
  deriving DecidableEq, Repr

/-- The live copy of a shadowed field (R18): the same field 0x8000 further on. -/
def liveOf (f : Fld) : Fld := ⟨f.addr + 0x8000, f.lo, f.w⟩

namespace R

def POS_CTRL : Fld := ⟨0x0100000, 0, 32⟩
def POS_CTRL_COMBINE : Fld := ⟨0x0100000, 0, 2⟩
def POS_CTRL_REF_ENC : Fld := ⟨0x0100000, 2, 2⟩
def POS_CTRL_DIR_INVERT : Fld := ⟨0x0100000, 4, 1⟩
def POS_CTRL_ROLE : Fld := ⟨0x0100000, 8, 2⟩
def POS_STATUS : Fld := ⟨0x0100004, 0, 32⟩
def POS_STATUS_STOPPED : Fld := ⟨0x0100004, 0, 1⟩
def POS_STATUS_MOVING : Fld := ⟨0x0100004, 1, 1⟩
def POS_STATUS_REVERSE : Fld := ⟨0x0100004, 2, 1⟩
def POS_STATUS_MASTER : Fld := ⟨0x0100004, 3, 1⟩
def POS_STATUS_HOLDOVER : Fld := ⟨0x0100004, 4, 1⟩
def POS_STATUS_POS_LOST : Fld := ⟨0x0100004, 5, 1⟩
def POS_STATUS_OVERSPEED : Fld := ⟨0x0100004, 6, 1⟩
def POS_STATUS_ENC_USED : Fld := ⟨0x0100004, 8, 4⟩
def POS_FAULT : Fld := ⟨0x0100008, 0, 32⟩
def POS_FAULT_ILLEGAL : Fld := ⟨0x0100008, 0, 4⟩
def POS_FAULT_OVERRATE : Fld := ⟨0x0100008, 4, 4⟩
def POS_FAULT_ZSLIP : Fld := ⟨0x0100008, 8, 4⟩
def POS_FAULT_DISAGREE : Fld := ⟨0x0100008, 12, 4⟩
def POS_FAULT_LOST : Fld := ⟨0x0100008, 16, 4⟩
def POS_FAULT_MASTER_LOST : Fld := ⟨0x0100008, 20, 1⟩
def POS_FAULT_XCHK : Fld := ⟨0x0100008, 21, 1⟩
def POS_FAULT_POS_LOST : Fld := ⟨0x0100008, 22, 1⟩
def POS_FAULT_WR_IGNORED : Fld := ⟨0x0100008, 23, 1⟩
def POS_FAULT_MASK : Fld := ⟨0x010000C, 0, 24⟩
def POS_SCALE : Fld := ⟨0x0100010, 0, 48⟩
def POS_MD_OFFSET : Fld := ⟨0x0100018, 0, 64⟩
def POS_WPOS : Fld := ⟨0x0100020, 0, 64⟩
def POS_MD : Fld := ⟨0x0100028, 0, 64⟩
def POS_HWM : Fld := ⟨0x0100030, 0, 64⟩
def POS_SPEED : Fld := ⟨0x0100038, 0, 32⟩
def POS_MOTION_CFG : Fld := ⟨0x010003C, 0, 32⟩
def POS_MOTION_CFG_SPEED_WIN : Fld := ⟨0x010003C, 0, 4⟩
def POS_MOTION_CFG_STOP_US : Fld := ⟨0x010003C, 4, 20⟩
def POS_MOVE_SPEED : Fld := ⟨0x0100040, 0, 32⟩
def POS_REV_HYST : Fld := ⟨0x0100044, 0, 32⟩
def POS_DISAGREE : Fld := ⟨0x0100048, 0, 32⟩
def POS_XCHK_TOL : Fld := ⟨0x010004C, 0, 32⟩
def POS_OUT_PITCH : Fld := ⟨0x0100050, 0, 32⟩
def POS_FRAME_CFG : Fld := ⟨0x0100054, 0, 5⟩
def POS_GRID_ORIGIN : Fld := ⟨0x0100058, 0, 64⟩
def POS_LINES_PASSED : Fld := ⟨0x0100060, 0, 64⟩
def POS_TIME : Fld := ⟨0x0100068, 0, 64⟩
def POS_SYNC_CFG : Fld := ⟨0x0100070, 0, 16⟩
def POS_SYNC_STATUS : Fld := ⟨0x0100074, 0, 32⟩
def POS_SYNC_STATUS_SYNC_SEQ : Fld := ⟨0x0100074, 0, 16⟩
def POS_SYNC_STATUS_SYNC_OK : Fld := ⟨0x0100074, 16, 1⟩
def POS_XCHK_DIFF : Fld := ⟨0x0100078, 0, 32⟩
def POS_ENC_CFG (i : Nat) : Fld := ⟨0x0101000 + i*0x40, 0, 32⟩
def POS_ENC_CFG_ENABLE (i : Nat) : Fld := ⟨0x0101000 + i*0x40, 0, 1⟩
def POS_ENC_CFG_DECODE (i : Nat) : Fld := ⟨0x0101000 + i*0x40, 1, 2⟩
def POS_ENC_CFG_SWAP_AB (i : Nat) : Fld := ⟨0x0101000 + i*0x40, 3, 1⟩
def POS_ENC_CFG_Z_ENABLE (i : Nat) : Fld := ⟨0x0101000 + i*0x40, 4, 1⟩
def POS_ENC_CFG_FILTER (i : Nat) : Fld := ⟨0x0101000 + i*0x40, 8, 7⟩
def POS_ENC_CFG_READMIT (i : Nat) : Fld := ⟨0x0101000 + i*0x40, 16, 1⟩
def POS_MATCH (i : Nat) : Fld := ⟨0x0101008 + i*0x40, 0, 64⟩
def POS_ECOUNT (i : Nat) : Fld := ⟨0x0101010 + i*0x40, 0, 64⟩
def POS_Z_COUNT (i : Nat) : Fld := ⟨0x0101018 + i*0x40, 0, 32⟩
def POS_Z_TOL (i : Nat) : Fld := ⟨0x010101C + i*0x40, 0, 32⟩
def POS_ERR_COUNT (i : Nat) : Fld := ⟨0x0101020 + i*0x40, 0, 32⟩
def POS_ERR_COUNT_ILLEGAL_CNT (i : Nat) : Fld := ⟨0x0101020 + i*0x40, 0, 16⟩
def POS_ERR_COUNT_ZSLIP_CNT (i : Nat) : Fld := ⟨0x0101020 + i*0x40, 16, 16⟩
def POS_STATE (i : Nat) : Fld := ⟨0x0101024 + i*0x40, 0, 32⟩
def POS_STATE_USED (i : Nat) : Fld := ⟨0x0101024 + i*0x40, 0, 1⟩
def POS_STATE_EXCLUDED (i : Nat) : Fld := ⟨0x0101024 + i*0x40, 1, 1⟩
def POS_TRG_CTRL (i : Nat) : Fld := ⟨0x0102000 + i*0x20, 0, 32⟩
def POS_TRG_CTRL_ENABLE (i : Nat) : Fld := ⟨0x0102000 + i*0x20, 0, 1⟩
def POS_TRG_CTRL_CLEAR (i : Nat) : Fld := ⟨0x0102000 + i*0x20, 31, 1⟩
def POS_TRG_PITCH (i : Nat) : Fld := ⟨0x0102004 + i*0x20, 0, 32⟩
def POS_TRG_PHASE (i : Nat) : Fld := ⟨0x0102008 + i*0x20, 0, 64⟩
def POS_TRG_FLOOR (i : Nat) : Fld := ⟨0x0102010 + i*0x20, 0, 32⟩
def POS_TRG_CEIL (i : Nat) : Fld := ⟨0x0102014 + i*0x20, 0, 32⟩
def POS_TRG_ISSUED (i : Nat) : Fld := ⟨0x0102018 + i*0x20, 0, 32⟩
def POS_TRG_STATUS (i : Nat) : Fld := ⟨0x010201C + i*0x20, 0, 32⟩
def POS_TRG_STATUS_SKIPPED (i : Nat) : Fld := ⟨0x010201C + i*0x20, 0, 16⟩
def POS_TRG_STATUS_OVERSPEED (i : Nat) : Fld := ⟨0x010201C + i*0x20, 16, 1⟩
def POS_TRG_STATUS_WAITING (i : Nat) : Fld := ⟨0x010201C + i*0x20, 17, 1⟩
def POS_CMP_TARGET (i : Nat) : Fld := ⟨0x0104000 + i*0x20, 0, 64⟩
def POS_CMP_PERIOD (i : Nat) : Fld := ⟨0x0104008 + i*0x20, 0, 32⟩
def POS_CMP_LEAD (i : Nat) : Fld := ⟨0x010400C + i*0x20, 0, 32⟩
def POS_CMP_CTRL (i : Nat) : Fld := ⟨0x0104010 + i*0x20, 0, 32⟩
def POS_CMP_CTRL_ARM (i : Nat) : Fld := ⟨0x0104010 + i*0x20, 0, 1⟩
def POS_CMP_CTRL_BOTH (i : Nat) : Fld := ⟨0x0104010 + i*0x20, 1, 1⟩
def POS_CMP_STATUS (i : Nat) : Fld := ⟨0x0104014 + i*0x20, 0, 32⟩
def POS_CMP_STATUS_FIRED (i : Nat) : Fld := ⟨0x0104014 + i*0x20, 0, 1⟩
def POS_CMP_STATUS_LATE (i : Nat) : Fld := ⟨0x0104014 + i*0x20, 1, 1⟩
def POS_CMP_STATUS_FIRE_COUNT (i : Nat) : Fld := ⟨0x0104014 + i*0x20, 16, 16⟩
def CAM_CTRL (i : Nat) : Fld := ⟨0x0200000 + i*0x10000, 0, 32⟩
def CAM_CTRL_ENABLE (i : Nat) : Fld := ⟨0x0200000 + i*0x10000, 0, 1⟩
def CAM_CTRL_BOND (i : Nat) : Fld := ⟨0x0200000 + i*0x10000, 1, 1⟩
def CAM_CTRL_EXP_MODE (i : Nat) : Fld := ⟨0x0200000 + i*0x10000, 2, 1⟩
def CAM_CTRL_FIELDS (i : Nat) : Fld := ⟨0x0200000 + i*0x10000, 3, 2⟩
def CAM_CTRL_FVAL_MODE (i : Nat) : Fld := ⟨0x0200000 + i*0x10000, 5, 2⟩
def CAM_CTRL_PIX_FMT (i : Nat) : Fld := ⟨0x0200000 + i*0x10000, 8, 4⟩
def CAM_CTRL_RETRY (i : Nat) : Fld := ⟨0x0200000 + i*0x10000, 12, 1⟩
def CAM_STATUS (i : Nat) : Fld := ⟨0x0200004 + i*0x10000, 0, 32⟩
def CAM_STATUS_STATE (i : Nat) : Fld := ⟨0x0200004 + i*0x10000, 0, 3⟩
def CAM_STATUS_LANE_UP (i : Nat) : Fld := ⟨0x0200004 + i*0x10000, 4, 8⟩
def CAM_STATUS_FIELD_NEXT (i : Nat) : Fld := ⟨0x0200004 + i*0x10000, 16, 4⟩
def CAM_EVENTS (i : Nat) : Fld := ⟨0x0200008 + i*0x10000, 0, 32⟩
def CAM_EVENTS_SHORT_LINE (i : Nat) : Fld := ⟨0x0200008 + i*0x10000, 0, 1⟩
def CAM_EVENTS_LONG_LINE (i : Nat) : Fld := ⟨0x0200008 + i*0x10000, 1, 1⟩
def CAM_EVENTS_MISSED_LINE (i : Nat) : Fld := ⟨0x0200008 + i*0x10000, 2, 1⟩
def CAM_EVENTS_EXTRA_LINE (i : Nat) : Fld := ⟨0x0200008 + i*0x10000, 3, 1⟩
def CAM_EVENTS_SHORT_FRAME (i : Nat) : Fld := ⟨0x0200008 + i*0x10000, 4, 1⟩
def CAM_EVENTS_LONG_FRAME (i : Nat) : Fld := ⟨0x0200008 + i*0x10000, 5, 1⟩
def CAM_EVENTS_LAND_OVF (i : Nat) : Fld := ⟨0x0200008 + i*0x10000, 6, 1⟩
def CAM_EVENTS_RATE_HIGH (i : Nat) : Fld := ⟨0x0200008 + i*0x10000, 7, 1⟩
def CAM_EVENTS_DESKEW_FAIL (i : Nat) : Fld := ⟨0x0200008 + i*0x10000, 8, 1⟩
def CAM_EVENTS_LINK_LOST (i : Nat) : Fld := ⟨0x0200008 + i*0x10000, 9, 1⟩
def CAM_EVENTS_PLUGGED (i : Nat) : Fld := ⟨0x0200008 + i*0x10000, 10, 1⟩
def CAM_EVENTS_MISMATCH (i : Nat) : Fld := ⟨0x0200008 + i*0x10000, 11, 1⟩
def CAM_EVENTS_GC_COLLIDE (i : Nat) : Fld := ⟨0x0200008 + i*0x10000, 12, 1⟩
def CAM_EVENT_MASK (i : Nat) : Fld := ⟨0x020000C + i*0x10000, 0, 13⟩
def CAM_LANE_MAP0 (i : Nat) : Fld := ⟨0x0200010 + i*0x10000, 0, 32⟩
def CAM_LANE_MAP0_LANE0 (i : Nat) : Fld := ⟨0x0200010 + i*0x10000, 0, 6⟩
def CAM_LANE_MAP0_VALID0 (i : Nat) : Fld := ⟨0x0200010 + i*0x10000, 7, 1⟩
def CAM_LANE_MAP0_LANE1 (i : Nat) : Fld := ⟨0x0200010 + i*0x10000, 8, 6⟩
def CAM_LANE_MAP0_VALID1 (i : Nat) : Fld := ⟨0x0200010 + i*0x10000, 15, 1⟩
def CAM_LANE_MAP0_LANE2 (i : Nat) : Fld := ⟨0x0200010 + i*0x10000, 16, 6⟩
def CAM_LANE_MAP0_VALID2 (i : Nat) : Fld := ⟨0x0200010 + i*0x10000, 23, 1⟩
def CAM_LANE_MAP0_LANE3 (i : Nat) : Fld := ⟨0x0200010 + i*0x10000, 24, 6⟩
def CAM_LANE_MAP0_VALID3 (i : Nat) : Fld := ⟨0x0200010 + i*0x10000, 31, 1⟩
def CAM_LANE_MAP1 (i : Nat) : Fld := ⟨0x0200014 + i*0x10000, 0, 32⟩
def CAM_LANE_MAP1_LANE0 (i : Nat) : Fld := ⟨0x0200014 + i*0x10000, 0, 6⟩
def CAM_LANE_MAP1_VALID0 (i : Nat) : Fld := ⟨0x0200014 + i*0x10000, 7, 1⟩
def CAM_LANE_MAP1_LANE1 (i : Nat) : Fld := ⟨0x0200014 + i*0x10000, 8, 6⟩
def CAM_LANE_MAP1_VALID1 (i : Nat) : Fld := ⟨0x0200014 + i*0x10000, 15, 1⟩
def CAM_LANE_MAP1_LANE2 (i : Nat) : Fld := ⟨0x0200014 + i*0x10000, 16, 6⟩
def CAM_LANE_MAP1_VALID2 (i : Nat) : Fld := ⟨0x0200014 + i*0x10000, 23, 1⟩
def CAM_LANE_MAP1_LANE3 (i : Nat) : Fld := ⟨0x0200014 + i*0x10000, 24, 6⟩
def CAM_LANE_MAP1_VALID3 (i : Nat) : Fld := ⟨0x0200014 + i*0x10000, 31, 1⟩
def CAM_WIDTH (i : Nat) : Fld := ⟨0x0200018 + i*0x10000, 0, 17⟩
def CAM_ACQ_LINES (i : Nat) : Fld := ⟨0x020001C + i*0x10000, 0, 32⟩
def CAM_SHD_EXPOSURE (i : Nat) : Fld := ⟨0x0200020 + i*0x10000, 0, 32⟩
def CAM_SHD_TRG_DELAY (i : Nat) : Fld := ⟨0x0200024 + i*0x10000, 0, 32⟩
def CAM_MID_DELAY (i : Nat) : Fld := ⟨0x0200028 + i*0x10000, 0, 32⟩
def CAM_LAT_MIN (i : Nat) : Fld := ⟨0x020002C + i*0x10000, 0, 32⟩
def CAM_LAT_MAX (i : Nat) : Fld := ⟨0x0200030 + i*0x10000, 0, 32⟩
def CAM_PAD_VALUE (i : Nat) : Fld := ⟨0x0200034 + i*0x10000, 0, 16⟩
def CAM_LINE_RATE_MAX (i : Nat) : Fld := ⟨0x0200038 + i*0x10000, 0, 32⟩
def CAM_LAST_ERR (i : Nat) : Fld := ⟨0x020003C + i*0x10000, 0, 16⟩
def CAM_STREAM_DEST (i j : Nat) : Fld := ⟨0x0200040 + i*0x10000 + j*0x10, 0, 32⟩
def CAM_STREAM_DEST_MODE (i j : Nat) : Fld := ⟨0x0200040 + i*0x10000 + j*0x10, 0, 2⟩
def CAM_STREAM_DEST_STREAM_NUM (i j : Nat) : Fld := ⟨0x0200040 + i*0x10000 + j*0x10, 8, 6⟩
def CAM_STREAM_DEST_ROLE (i j : Nat) : Fld := ⟨0x0200040 + i*0x10000 + j*0x10, 16, 4⟩
def CAM_LAND_BASE (i j : Nat) : Fld := ⟨0x0200044 + i*0x10000 + j*0x10, 0, 64⟩
def CAM_LAND_LINES (i j : Nat) : Fld := ⟨0x020004C + i*0x10000 + j*0x10, 0, 17⟩
def CAM_LINES_RX (i : Nat) : Fld := ⟨0x0200080 + i*0x10000, 0, 32⟩
def CAM_ERR_CNT0 (i : Nat) : Fld := ⟨0x0200084 + i*0x10000, 0, 32⟩
def CAM_ERR_CNT0_MISSED (i : Nat) : Fld := ⟨0x0200084 + i*0x10000, 0, 16⟩
def CAM_ERR_CNT0_EXTRA (i : Nat) : Fld := ⟨0x0200084 + i*0x10000, 16, 16⟩
def CAM_ERR_CNT1 (i : Nat) : Fld := ⟨0x0200088 + i*0x10000, 0, 32⟩
def CAM_ERR_CNT1_SHORT (i : Nat) : Fld := ⟨0x0200088 + i*0x10000, 0, 16⟩
def CAM_ERR_CNT1_LONG (i : Nat) : Fld := ⟨0x0200088 + i*0x10000, 16, 16⟩
def CAM_ERR_CNT2 (i : Nat) : Fld := ⟨0x020008C + i*0x10000, 0, 32⟩
def CAM_ERR_CNT2_LAND_DROP (i : Nat) : Fld := ⟨0x020008C + i*0x10000, 0, 16⟩
def CAM_ERR_CNT2_FRAME_ERR (i : Nat) : Fld := ⟨0x020008C + i*0x10000, 16, 16⟩
def CAM_GC_ADDR (i : Nat) : Fld := ⟨0x02000A0 + i*0x10000, 0, 64⟩
def CAM_GC_CTRL (i : Nat) : Fld := ⟨0x02000A8 + i*0x10000, 0, 32⟩
def CAM_GC_CTRL_GC_LEN (i : Nat) : Fld := ⟨0x02000A8 + i*0x10000, 0, 9⟩
def CAM_GC_CTRL_WRITE (i : Nat) : Fld := ⟨0x02000A8 + i*0x10000, 9, 1⟩
def CAM_GC_CTRL_GO (i : Nat) : Fld := ⟨0x02000A8 + i*0x10000, 10, 1⟩
def CAM_GC_CTRL_BUSY (i : Nat) : Fld := ⟨0x02000A8 + i*0x10000, 11, 1⟩
def CAM_GC_CTRL_DONE (i : Nat) : Fld := ⟨0x02000A8 + i*0x10000, 12, 1⟩
def CAM_GC_CTRL_GC_STATUS (i : Nat) : Fld := ⟨0x02000A8 + i*0x10000, 16, 16⟩
def CAM_GC_TIMEOUT (i : Nat) : Fld := ⟨0x02000AC + i*0x10000, 0, 16⟩
def CAM_ID_MATCH (i : Nat) : Fld := ⟨0x02000B0 + i*0x10000, 0, 2⟩
def CAM_EXPECT_CRC (i : Nat) : Fld := ⟨0x02000B4 + i*0x10000, 0, 32⟩
def CAM_GC_DATA (i j : Nat) : Fld := ⟨0x0200100 + i*0x10000 + j*0x4, 0, 32⟩
def CAM_ID (i j : Nat) : Fld := ⟨0x0200200 + i*0x10000 + j*0x4, 0, 32⟩
def CLG_CTRL (i : Nat) : Fld := ⟨0x0300000 + i*0x1000, 0, 32⟩
def CLG_CTRL_ENABLE (i : Nat) : Fld := ⟨0x0300000 + i*0x1000, 0, 1⟩
def CLG_CTRL_CONFIG (i : Nat) : Fld := ⟨0x0300000 + i*0x1000, 1, 2⟩
def CLG_CTRL_TAPS (i : Nat) : Fld := ⟨0x0300000 + i*0x1000, 4, 4⟩
def CLG_CTRL_TAP_GEOM (i : Nat) : Fld := ⟨0x0300000 + i*0x1000, 8, 1⟩
def CLG_CTRL_FVAL_MODE (i : Nat) : Fld := ⟨0x0300000 + i*0x1000, 9, 2⟩
def CLG_CTRL_EXP_MODE (i : Nat) : Fld := ⟨0x0300000 + i*0x1000, 11, 1⟩
def CLG_CTRL_PIX_FMT (i : Nat) : Fld := ⟨0x0300000 + i*0x1000, 12, 4⟩
def CLG_CTRL_MODE (i : Nat) : Fld := ⟨0x0300000 + i*0x1000, 16, 2⟩
def CLG_CTRL_ROLE (i : Nat) : Fld := ⟨0x0300000 + i*0x1000, 18, 4⟩
def CLG_CTRL_STREAM_NUM (i : Nat) : Fld := ⟨0x0300000 + i*0x1000, 24, 6⟩
def CLG_STATUS (i : Nat) : Fld := ⟨0x0300004 + i*0x1000, 0, 32⟩
def CLG_STATUS_STATE (i : Nat) : Fld := ⟨0x0300004 + i*0x1000, 0, 2⟩
def CLG_STATUS_CLK_OK (i : Nat) : Fld := ⟨0x0300004 + i*0x1000, 2, 3⟩
def CLG_STATUS_PCLK_MHZ (i : Nat) : Fld := ⟨0x0300004 + i*0x1000, 8, 8⟩
def CLG_EVENTS (i : Nat) : Fld := ⟨0x0300008 + i*0x1000, 0, 32⟩
def CLG_EVENTS_SHORT_LINE (i : Nat) : Fld := ⟨0x0300008 + i*0x1000, 0, 1⟩
def CLG_EVENTS_LONG_LINE (i : Nat) : Fld := ⟨0x0300008 + i*0x1000, 1, 1⟩
def CLG_EVENTS_MISSED_LINE (i : Nat) : Fld := ⟨0x0300008 + i*0x1000, 2, 1⟩
def CLG_EVENTS_EXTRA_LINE (i : Nat) : Fld := ⟨0x0300008 + i*0x1000, 3, 1⟩
def CLG_EVENTS_SHORT_FRAME (i : Nat) : Fld := ⟨0x0300008 + i*0x1000, 4, 1⟩
def CLG_EVENTS_LONG_FRAME (i : Nat) : Fld := ⟨0x0300008 + i*0x1000, 5, 1⟩
def CLG_EVENTS_LAND_OVF (i : Nat) : Fld := ⟨0x0300008 + i*0x1000, 6, 1⟩
def CLG_EVENTS_RATE_HIGH (i : Nat) : Fld := ⟨0x0300008 + i*0x1000, 7, 1⟩
def CLG_EVENTS_CLOCK_LOST (i : Nat) : Fld := ⟨0x0300008 + i*0x1000, 8, 1⟩
def CLG_EVENTS_SER_OVF (i : Nat) : Fld := ⟨0x0300008 + i*0x1000, 9, 1⟩
def CLG_EVENT_MASK (i : Nat) : Fld := ⟨0x030000C + i*0x1000, 0, 10⟩
def CLG_WIDTH (i : Nat) : Fld := ⟨0x0300018 + i*0x1000, 0, 17⟩
def CLG_ACQ_LINES (i : Nat) : Fld := ⟨0x030001C + i*0x1000, 0, 32⟩
def CLG_SHD_EXPOSURE (i : Nat) : Fld := ⟨0x0300020 + i*0x1000, 0, 32⟩
def CLG_SHD_TRG_DELAY (i : Nat) : Fld := ⟨0x0300024 + i*0x1000, 0, 32⟩
def CLG_MID_DELAY (i : Nat) : Fld := ⟨0x0300028 + i*0x1000, 0, 32⟩
def CLG_LAT_MIN (i : Nat) : Fld := ⟨0x030002C + i*0x1000, 0, 32⟩
def CLG_LAT_MAX (i : Nat) : Fld := ⟨0x0300030 + i*0x1000, 0, 32⟩
def CLG_PAD_VALUE (i : Nat) : Fld := ⟨0x0300034 + i*0x1000, 0, 16⟩
def CLG_LINE_RATE_MAX (i : Nat) : Fld := ⟨0x0300038 + i*0x1000, 0, 32⟩
def CLG_LAST_ERR (i : Nat) : Fld := ⟨0x030003C + i*0x1000, 0, 16⟩
def CLG_LAND_BASE (i : Nat) : Fld := ⟨0x0300044 + i*0x1000, 0, 64⟩
def CLG_LAND_LINES (i : Nat) : Fld := ⟨0x030004C + i*0x1000, 0, 17⟩
def CLG_CC_CFG (i : Nat) : Fld := ⟨0x0300050 + i*0x1000, 0, 32⟩
def CLG_CC_CFG_CC1 (i : Nat) : Fld := ⟨0x0300050 + i*0x1000, 0, 2⟩
def CLG_CC_CFG_CC2 (i : Nat) : Fld := ⟨0x0300050 + i*0x1000, 2, 2⟩
def CLG_CC_CFG_CC3 (i : Nat) : Fld := ⟨0x0300050 + i*0x1000, 4, 2⟩
def CLG_CC_CFG_CC4 (i : Nat) : Fld := ⟨0x0300050 + i*0x1000, 6, 2⟩
def CLG_SER_CFG (i : Nat) : Fld := ⟨0x0300060 + i*0x1000, 0, 20⟩
def CLG_SER_TX (i : Nat) : Fld := ⟨0x0300064 + i*0x1000, 0, 8⟩
def CLG_SER_RX (i : Nat) : Fld := ⟨0x0300068 + i*0x1000, 0, 32⟩
def CLG_SER_RX_DATA (i : Nat) : Fld := ⟨0x0300068 + i*0x1000, 0, 8⟩
def CLG_SER_RX_VALID (i : Nat) : Fld := ⟨0x0300068 + i*0x1000, 8, 1⟩
def CLG_SER_STATUS (i : Nat) : Fld := ⟨0x030006C + i*0x1000, 0, 32⟩
def CLG_SER_STATUS_RX_COUNT (i : Nat) : Fld := ⟨0x030006C + i*0x1000, 0, 9⟩
def CLG_SER_STATUS_TX_FREE (i : Nat) : Fld := ⟨0x030006C + i*0x1000, 16, 9⟩
def CLG_LINES_RX (i : Nat) : Fld := ⟨0x0300080 + i*0x1000, 0, 32⟩
def CLG_ERR_CNT0 (i : Nat) : Fld := ⟨0x0300084 + i*0x1000, 0, 32⟩
def CLG_ERR_CNT0_MISSED (i : Nat) : Fld := ⟨0x0300084 + i*0x1000, 0, 16⟩
def CLG_ERR_CNT0_EXTRA (i : Nat) : Fld := ⟨0x0300084 + i*0x1000, 16, 16⟩
def CLG_ERR_CNT1 (i : Nat) : Fld := ⟨0x0300088 + i*0x1000, 0, 32⟩
def CLG_ERR_CNT1_SHORT (i : Nat) : Fld := ⟨0x0300088 + i*0x1000, 0, 16⟩
def CLG_ERR_CNT1_LONG (i : Nat) : Fld := ⟨0x0300088 + i*0x1000, 16, 16⟩
def CLG_ERR_CNT2 (i : Nat) : Fld := ⟨0x030008C + i*0x1000, 0, 32⟩
def CLG_ERR_CNT2_LAND_DROP (i : Nat) : Fld := ⟨0x030008C + i*0x1000, 0, 16⟩
def CLG_ERR_CNT2_FRAME_ERR (i : Nat) : Fld := ⟨0x030008C + i*0x1000, 16, 16⟩
def STR_COR_CTRL (i : Nat) : Fld := ⟨0x1000000 + i*0x100000, 0, 32⟩
def STR_COR_CTRL_ENABLE (i : Nat) : Fld := ⟨0x1000000 + i*0x100000, 0, 1⟩
def STR_COR_CTRL_RS_MODE (i : Nat) : Fld := ⟨0x1000000 + i*0x100000, 1, 2⟩
def STR_COR_CTRL_BIN_LOG2 (i : Nat) : Fld := ⟨0x1000000 + i*0x100000, 4, 2⟩
def STR_BAND_COLS (i : Nat) : Fld := ⟨0x1000004 + i*0x100000, 0, 17⟩
def STR_OUT_RATE_MAX (i : Nat) : Fld := ⟨0x1000008 + i*0x100000, 0, 32⟩
def STR_RS_CFG (i : Nat) : Fld := ⟨0x100000C + i*0x100000, 0, 32⟩
def STR_RS_CFG_RS_HOLD (i : Nat) : Fld := ⟨0x100000C + i*0x100000, 0, 8⟩
def STR_RS_CFG_GAP_LIMIT (i : Nat) : Fld := ⟨0x100000C + i*0x100000, 8, 8⟩
def STR_FILL (i : Nat) : Fld := ⟨0x1000010 + i*0x100000, 0, 16⟩
def STR_SEAL_DIAG (i : Nat) : Fld := ⟨0x1000014 + i*0x100000, 0, 32⟩
def STR_SEAL_DIAG_CHECK (i : Nat) : Fld := ⟨0x1000014 + i*0x100000, 0, 8⟩
def STR_SEAL_DIAG_CHAN (i : Nat) : Fld := ⟨0x1000014 + i*0x100000, 8, 2⟩
def STR_CH_CFG (i j : Nat) : Fld := ⟨0x1000100 + i*0x100000 + j*0x40, 0, 32⟩
def STR_CH_CFG_ENABLE (i j : Nat) : Fld := ⟨0x1000100 + i*0x100000 + j*0x40, 0, 1⟩
def STR_CH_CFG_STREAM (i j : Nat) : Fld := ⟨0x1000100 + i*0x100000 + j*0x40, 8, 6⟩
def STR_CH_SRC_BASE (i j : Nat) : Fld := ⟨0x1000104 + i*0x100000 + j*0x40, 0, 15⟩
def STR_CH_REMAP_BASE (i j : Nat) : Fld := ⟨0x1000108 + i*0x100000 + j*0x40, 0, 16⟩
def STR_CH_PEDESTAL (i j : Nat) : Fld := ⟨0x100010C + i*0x100000 + j*0x40, 0, 16⟩
def STR_CH_X0 (i j : Nat) : Fld := ⟨0x1000110 + i*0x100000 + j*0x40, 0, 32⟩
def STR_CH_M (i j : Nat) : Fld := ⟨0x1000114 + i*0x100000 + j*0x40, 0, 32⟩
def STR_CH_K2 (i j : Nat) : Fld := ⟨0x1000118 + i*0x100000 + j*0x40, 0, 32⟩
def STR_CH_K3 (i j : Nat) : Fld := ⟨0x100011C + i*0x100000 + j*0x40, 0, 32⟩
def STR_CH_CENTRE (i j : Nat) : Fld := ⟨0x1000120 + i*0x100000 + j*0x40, 0, 17⟩
def STR_CH_COLOR_XOFS (i j : Nat) : Fld := ⟨0x1000124 + i*0x100000 + j*0x40, 0, 32⟩
def STR_CH_COLOR_XOFS_RED (i j : Nat) : Fld := ⟨0x1000124 + i*0x100000 + j*0x40, 0, 16⟩
def STR_CH_COLOR_XOFS_BLUE (i j : Nat) : Fld := ⟨0x1000124 + i*0x100000 + j*0x40, 16, 16⟩
def STR_CH_REPL (i j : Nat) : Fld := ⟨0x1000128 + i*0x100000 + j*0x40, 0, 16⟩
def STR_COR_STATUS (i : Nat) : Fld := ⟨0x1000800 + i*0x100000, 0, 32⟩
def STR_COR_STATUS_LDS_DEPTH (i : Nat) : Fld := ⟨0x1000800 + i*0x100000, 0, 9⟩
def STR_COR_STATUS_DLY_MAX_LINES (i : Nat) : Fld := ⟨0x1000800 + i*0x100000, 16, 8⟩
def STR_COR_STATUS_ROLE (i : Nat) : Fld := ⟨0x1000800 + i*0x100000, 24, 4⟩
def STR_COR_STATUS_ROLE_VALID (i : Nat) : Fld := ⟨0x1000800 + i*0x100000, 28, 1⟩
def STR_COR_EVENTS (i : Nat) : Fld := ⟨0x1000804 + i*0x100000, 0, 32⟩
def STR_COR_EVENTS_IN_OVF (i : Nat) : Fld := ⟨0x1000804 + i*0x100000, 0, 1⟩
def STR_COR_EVENTS_STAMP_BACK (i : Nat) : Fld := ⟨0x1000804 + i*0x100000, 1, 1⟩
def STR_COR_EVENTS_GAP (i : Nat) : Fld := ⟨0x1000804 + i*0x100000, 2, 1⟩
def STR_COR_EVENTS_HELD (i : Nat) : Fld := ⟨0x1000804 + i*0x100000, 3, 1⟩
def STR_COR_EVENTS_DEPTH (i : Nat) : Fld := ⟨0x1000804 + i*0x100000, 4, 1⟩
def STR_COR_EVENTS_NO_SOURCE (i : Nat) : Fld := ⟨0x1000804 + i*0x100000, 5, 1⟩
def STR_COR_EVENTS_OUT_LATE (i : Nat) : Fld := ⟨0x1000804 + i*0x100000, 6, 1⟩
def STR_COR_EVENTS_EPOCH_MIX (i : Nat) : Fld := ⟨0x1000804 + i*0x100000, 7, 1⟩
def STR_COR_EVENT_MASK (i : Nat) : Fld := ⟨0x1000808 + i*0x100000, 0, 8⟩
def STR_COR_CNT0 (i : Nat) : Fld := ⟨0x1000810 + i*0x100000, 0, 32⟩
def STR_COR_CNT0_IN_DROP (i : Nat) : Fld := ⟨0x1000810 + i*0x100000, 0, 16⟩
def STR_COR_CNT0_STAMP_BACK_CNT (i : Nat) : Fld := ⟨0x1000810 + i*0x100000, 16, 16⟩
def STR_COR_CNT1 (i : Nat) : Fld := ⟨0x1000814 + i*0x100000, 0, 32⟩
def STR_COR_CNT1_HELD_CNT (i : Nat) : Fld := ⟨0x1000814 + i*0x100000, 0, 16⟩
def STR_COR_CNT1_GAP_CNT (i : Nat) : Fld := ⟨0x1000814 + i*0x100000, 16, 16⟩
def STR_LAST_LINE (i : Nat) : Fld := ⟨0x1000818 + i*0x100000, 0, 64⟩
def STR_SEG_CTRL (i : Nat) : Fld := ⟨0x1001000 + i*0x100000, 0, 32⟩
def STR_SEG_CTRL_ENABLE (i : Nat) : Fld := ⟨0x1001000 + i*0x100000, 0, 1⟩
def STR_SEG_CTRL_CHAIN_LEN (i : Nat) : Fld := ⟨0x1001000 + i*0x100000, 4, 5⟩
def STR_SEG_CTRL_FINAL (i : Nat) : Fld := ⟨0x1001000 + i*0x100000, 12, 4⟩
def STR_SEG_CTRL_REF_LAYER (i : Nat) : Fld := ⟨0x1001000 + i*0x100000, 16, 2⟩
def STR_SEG_CTRL_FEAT_SRC (i : Nat) : Fld := ⟨0x1001000 + i*0x100000, 24, 5⟩
def STR_SEG_CTRL_FEAT_VALID (i : Nat) : Fld := ⟨0x1001000 + i*0x100000, 29, 1⟩
def STR_SEG_TAGS (i : Nat) : Fld := ⟨0x1001004 + i*0x100000, 0, 32⟩
def STR_SEG_TAGS_TAG0_STAGE (i : Nat) : Fld := ⟨0x1001004 + i*0x100000, 0, 4⟩
def STR_SEG_TAGS_TAG0_VALID (i : Nat) : Fld := ⟨0x1001004 + i*0x100000, 4, 1⟩
def STR_SEG_TAGS_TAG1_STAGE (i : Nat) : Fld := ⟨0x1001004 + i*0x100000, 8, 4⟩
def STR_SEG_TAGS_TAG1_VALID (i : Nat) : Fld := ⟨0x1001004 + i*0x100000, 12, 1⟩
def STR_SEG_TAGS_TAG2_STAGE (i : Nat) : Fld := ⟨0x1001004 + i*0x100000, 16, 4⟩
def STR_SEG_TAGS_TAG2_VALID (i : Nat) : Fld := ⟨0x1001004 + i*0x100000, 20, 1⟩
def STR_SEG_TAGS_TAG3_STAGE (i : Nat) : Fld := ⟨0x1001004 + i*0x100000, 24, 4⟩
def STR_SEG_TAGS_TAG3_VALID (i : Nat) : Fld := ⟨0x1001004 + i*0x100000, 28, 1⟩
def STR_SEG_LAG (i : Nat) : Fld := ⟨0x1001008 + i*0x100000, 0, 32⟩
def STR_SEG_LAG_SEG_LAG_MAX (i : Nat) : Fld := ⟨0x1001008 + i*0x100000, 0, 16⟩
def STR_SEG_LAG_SEG_RESUME (i : Nat) : Fld := ⟨0x1001008 + i*0x100000, 16, 16⟩
def STR_SEG_DIAG (i : Nat) : Fld := ⟨0x100100C + i*0x100000, 0, 32⟩
def STR_SEG_DIAG_CHECK (i : Nat) : Fld := ⟨0x100100C + i*0x100000, 0, 8⟩
def STR_SEG_DIAG_STAGE (i : Nat) : Fld := ⟨0x100100C + i*0x100000, 8, 4⟩
def STR_SEG_BUDGET (i : Nat) : Fld := ⟨0x1001010 + i*0x100000, 0, 32⟩
def STR_SEG_BUDGET_LAT_CHAIN (i : Nat) : Fld := ⟨0x1001010 + i*0x100000, 0, 8⟩
def STR_SEG_BUDGET_REACH_CHAIN (i : Nat) : Fld := ⟨0x1001010 + i*0x100000, 8, 8⟩
def STR_SEG_BUDGET_COST (i : Nat) : Fld := ⟨0x1001010 + i*0x100000, 16, 16⟩
def STR_SEG_STORE (i : Nat) : Fld := ⟨0x1001014 + i*0x100000, 0, 22⟩
def STR_STAGE_KIND (i j : Nat) : Fld := ⟨0x1001100 + i*0x100000 + j*0x20, 0, 32⟩
def STR_STAGE_KIND_KIND (i j : Nat) : Fld := ⟨0x1001100 + i*0x100000 + j*0x20, 0, 5⟩
def STR_STAGE_KIND_SRC_A (i j : Nat) : Fld := ⟨0x1001100 + i*0x100000 + j*0x20, 8, 5⟩
def STR_STAGE_KIND_SRC_B (i j : Nat) : Fld := ⟨0x1001100 + i*0x100000 + j*0x20, 16, 5⟩
def STR_STAGE_GEOM (i j : Nat) : Fld := ⟨0x1001104 + i*0x100000 + j*0x20, 0, 32⟩
def STR_STAGE_GEOM_RC (i j : Nat) : Fld := ⟨0x1001104 + i*0x100000 + j*0x20, 0, 6⟩
def STR_STAGE_GEOM_RM (i j : Nat) : Fld := ⟨0x1001104 + i*0x100000 + j*0x20, 8, 6⟩
def STR_STAGE_GEOM_SHAPE (i j : Nat) : Fld := ⟨0x1001104 + i*0x100000 + j*0x20, 16, 2⟩
def STR_STAGE_GEOM_MODE (i j : Nat) : Fld := ⟨0x1001104 + i*0x100000 + j*0x20, 20, 4⟩
def STR_STAGE_GEOM_SHIFT (i j : Nat) : Fld := ⟨0x1001104 + i*0x100000 + j*0x20, 24, 5⟩
def STR_STAGE_P0 (i j : Nat) : Fld := ⟨0x1001108 + i*0x100000 + j*0x20, 0, 32⟩
def STR_STAGE_P1 (i j : Nat) : Fld := ⟨0x100110C + i*0x100000 + j*0x20, 0, 32⟩
def STR_STAGE_P2 (i j : Nat) : Fld := ⟨0x1001110 + i*0x100000 + j*0x20, 0, 32⟩
def STR_STAGE_P3 (i j : Nat) : Fld := ⟨0x1001114 + i*0x100000 + j*0x20, 0, 32⟩
def STR_STAGE_PF0 (i j : Nat) : Fld := ⟨0x1001118 + i*0x100000 + j*0x20, 0, 32⟩
def STR_STAGE_PF1 (i j : Nat) : Fld := ⟨0x100111C + i*0x100000 + j*0x20, 0, 32⟩
def STR_SEG_STATUS (i : Nat) : Fld := ⟨0x1001800 + i*0x100000, 0, 32⟩
def STR_SEG_STATUS_RUNNING (i : Nat) : Fld := ⟨0x1001800 + i*0x100000, 0, 1⟩
def STR_SEG_STATUS_TRACK_LO (i : Nat) : Fld := ⟨0x1001800 + i*0x100000, 4, 2⟩
def STR_SEG_STATUS_TRACK_HI (i : Nat) : Fld := ⟨0x1001800 + i*0x100000, 6, 2⟩
def STR_SEG_STATUS_BACKLOG (i : Nat) : Fld := ⟨0x1001800 + i*0x100000, 16, 16⟩
def STR_SEG_EVENTS (i : Nat) : Fld := ⟨0x1001804 + i*0x100000, 0, 32⟩
def STR_SEG_EVENTS_SKIP (i : Nat) : Fld := ⟨0x1001804 + i*0x100000, 0, 1⟩
def STR_SEG_EVENTS_RESTART (i : Nat) : Fld := ⟨0x1001804 + i*0x100000, 1, 1⟩
def STR_SEG_EVENTS_EDGE_REACQ (i : Nat) : Fld := ⟨0x1001804 + i*0x100000, 2, 1⟩
def STR_SEG_EVENTS_EDGE_OFF (i : Nat) : Fld := ⟨0x1001804 + i*0x100000, 3, 1⟩
def STR_SEG_EVENTS_EDGE_LIMIT (i : Nat) : Fld := ⟨0x1001804 + i*0x100000, 4, 1⟩
def STR_SEG_EVENT_MASK (i : Nat) : Fld := ⟨0x1001808 + i*0x100000, 0, 5⟩
def STR_SEG_CNT (i : Nat) : Fld := ⟨0x1001810 + i*0x100000, 0, 32⟩
def STR_SEG_CNT_SKIP_ROWS (i : Nat) : Fld := ⟨0x1001810 + i*0x100000, 0, 16⟩
def STR_SEG_CNT_REJECT_CNT (i : Nat) : Fld := ⟨0x1001810 + i*0x100000, 16, 16⟩
def STR_SEG_LAST_ROW (i : Nat) : Fld := ⟨0x1001818 + i*0x100000, 0, 64⟩
def STR_EDGE_LO_POS (i : Nat) : Fld := ⟨0x1001820 + i*0x100000, 0, 32⟩
def STR_EDGE_HI_POS (i : Nat) : Fld := ⟨0x1001824 + i*0x100000, 0, 32⟩
def STR_LBL_IDCOUNT (i : Nat) : Fld := ⟨0x1002000 + i*0x100000, 0, 64⟩
def STR_LBL_IDCOUNT_NEXT_COUNT (i : Nat) : Fld := ⟨0x1002000 + i*0x100000, 0, 40⟩
def STR_LBL_IDCOUNT_SESSION (i : Nat) : Fld := ⟨0x1002000 + i*0x100000, 40, 9⟩
def STR_LBL_STATUS (i : Nat) : Fld := ⟨0x1002800 + i*0x100000, 0, 32⟩
def STR_LBL_STATUS_OPEN_LABELS (i : Nat) : Fld := ⟨0x1002800 + i*0x100000, 0, 17⟩
def STR_LBL_STATUS_EMITTING (i : Nat) : Fld := ⟨0x1002800 + i*0x100000, 17, 1⟩
def STR_LBL_PEAK (i : Nat) : Fld := ⟨0x1002804 + i*0x100000, 0, 17⟩
def STR_LBL_EVENTS (i : Nat) : Fld := ⟨0x1002808 + i*0x100000, 0, 32⟩
def STR_LBL_EVENTS_LABEL_FULL (i : Nat) : Fld := ⟨0x1002808 + i*0x100000, 0, 1⟩
def STR_LBL_EVENTS_SKIP_CUT (i : Nat) : Fld := ⟨0x1002808 + i*0x100000, 1, 1⟩
def STR_LBL_EVENT_MASK (i : Nat) : Fld := ⟨0x100280C + i*0x100000, 0, 2⟩
def STR_LBL_CNT (i : Nat) : Fld := ⟨0x1002810 + i*0x100000, 0, 32⟩
def BLV_CTRL : Fld := ⟨0x0500000, 0, 32⟩
def BLV_CTRL_ENABLE : Fld := ⟨0x0500000, 0, 1⟩
def BLV_CTRL_BLEND : Fld := ⟨0x0500000, 1, 1⟩
def BLV_STITCH_COLS : Fld := ⟨0x0500004, 0, 19⟩
def BLV_DEV_COL_BASE : Fld := ⟨0x0500008, 0, 32⟩
def BLV_CD_ORIGIN : Fld := ⟨0x050000C, 0, 32⟩
def BLV_CD_PITCH : Fld := ⟨0x0500010, 0, 32⟩
def BLV_MERGE_CFG : Fld := ⟨0x0500014, 0, 8⟩
def BLV_GAP_FILL : Fld := ⟨0x0500018, 0, 16⟩
def BLV_APRON_WAIT : Fld := ⟨0x050001C, 0, 16⟩
def BLV_ATT_BASE : Fld := ⟨0x0500020, 0, 64⟩
def BLV_ATT_TAG_BASE : Fld := ⟨0x0500028, 0, 64⟩
def BLV_ATT_CFG : Fld := ⟨0x0500030, 0, 32⟩
def BLV_ATT_CFG_ROWS_LOG2 : Fld := ⟨0x0500030, 0, 5⟩
def BLV_ATT_CFG_ATT_GUARD : Fld := ⟨0x0500030, 16, 16⟩
def BLV_BAR4_BASE : Fld := ⟨0x0500038, 0, 64⟩
def BLV_LAYER_CFG (i : Nat) : Fld := ⟨0x0500100 + i*0x10, 0, 32⟩
def BLV_LAYER_CFG_ENABLE (i : Nat) : Fld := ⟨0x0500100 + i*0x10, 0, 1⟩
def BLV_LAYER_CFG_FMT (i : Nat) : Fld := ⟨0x0500100 + i*0x10, 1, 1⟩
def BLV_LAYER_CFG_LAYER_BLACK (i : Nat) : Fld := ⟨0x0500100 + i*0x10, 16, 16⟩
def BLV_LAYER_SCALE (i : Nat) : Fld := ⟨0x0500104 + i*0x10, 0, 16⟩
def BLV_LAYER_OFS (i : Nat) : Fld := ⟨0x0500108 + i*0x10, 0, 64⟩
def BLV_BAND_START (i : Nat) : Fld := ⟨0x0501000 + i*0x20, 0, 32⟩
def BLV_OWN_START (i : Nat) : Fld := ⟨0x0501004 + i*0x20, 0, 32⟩
def BLV_OWN_END (i : Nat) : Fld := ⟨0x0501008 + i*0x20, 0, 32⟩
def BLV_LAYER_SRC (i : Nat) : Fld := ⟨0x050100C + i*0x20, 0, 32⟩
def BLV_LAYER_SRC_CHAN0 (i : Nat) : Fld := ⟨0x050100C + i*0x20, 0, 2⟩
def BLV_LAYER_SRC_COMP0 (i : Nat) : Fld := ⟨0x050100C + i*0x20, 2, 2⟩
def BLV_LAYER_SRC_VALID0 (i : Nat) : Fld := ⟨0x050100C + i*0x20, 4, 1⟩
def BLV_LAYER_SRC_CHAN1 (i : Nat) : Fld := ⟨0x050100C + i*0x20, 7, 2⟩
def BLV_LAYER_SRC_COMP1 (i : Nat) : Fld := ⟨0x050100C + i*0x20, 9, 2⟩
def BLV_LAYER_SRC_VALID1 (i : Nat) : Fld := ⟨0x050100C + i*0x20, 11, 1⟩
def BLV_LAYER_SRC_CHAN2 (i : Nat) : Fld := ⟨0x050100C + i*0x20, 14, 2⟩
def BLV_LAYER_SRC_COMP2 (i : Nat) : Fld := ⟨0x050100C + i*0x20, 16, 2⟩
def BLV_LAYER_SRC_VALID2 (i : Nat) : Fld := ⟨0x050100C + i*0x20, 18, 1⟩
def BLV_LAYER_SRC_CHAN3 (i : Nat) : Fld := ⟨0x050100C + i*0x20, 21, 2⟩
def BLV_LAYER_SRC_COMP3 (i : Nat) : Fld := ⟨0x050100C + i*0x20, 23, 2⟩
def BLV_LAYER_SRC_VALID3 (i : Nat) : Fld := ⟨0x050100C + i*0x20, 25, 1⟩
def BLV_ROLE_STATUS (i : Nat) : Fld := ⟨0x0501010 + i*0x20, 0, 32⟩
def BLV_ROLE_STATUS_WAITED (i : Nat) : Fld := ⟨0x0501010 + i*0x20, 0, 1⟩
def BLV_ROLE_STATUS_LATE (i : Nat) : Fld := ⟨0x0501010 + i*0x20, 1, 1⟩
def BLV_ATT_STATE : Fld := ⟨0x0500800, 0, 1⟩
def BLV_EVENTS : Fld := ⟨0x0500804, 0, 32⟩
def BLV_EVENTS_COVER_GAP : Fld := ⟨0x0500804, 0, 1⟩
def BLV_EVENTS_ROLE_LATE : Fld := ⟨0x0500804, 1, 1⟩
def BLV_EVENTS_BAND_DISCARD : Fld := ⟨0x0500804, 2, 1⟩
def BLV_EVENTS_APRON_MISSING : Fld := ⟨0x0500804, 3, 1⟩
def BLV_EVENTS_BAR4_WR_DROP : Fld := ⟨0x0500804, 4, 1⟩
def BLV_EVENTS_EDGE : Fld := ⟨0x0500804, 5, 1⟩
def BLV_EVENT_MASK : Fld := ⟨0x0500808, 0, 6⟩
def BLV_ATT_HEAD : Fld := ⟨0x0500810, 0, 64⟩
def BLV_ATT_OLDEST : Fld := ⟨0x0500818, 0, 64⟩
def BLV_SEAL_DIAG : Fld := ⟨0x0500820, 0, 32⟩
def BLV_SEAL_DIAG_CHECK : Fld := ⟨0x0500820, 0, 8⟩
def BLV_SEAL_DIAG_ROLE : Fld := ⟨0x0500820, 8, 4⟩
def BLV_SEAL_DIAG_LAYER : Fld := ⟨0x0500820, 12, 2⟩
def BLV_CNT0 : Fld := ⟨0x0500828, 0, 32⟩
def BLV_CNT0_ROLE_LATE_CNT : Fld := ⟨0x0500828, 0, 16⟩
def BLV_CNT0_BAND_DISCARD_CNT : Fld := ⟨0x0500828, 16, 16⟩
def BLV_CNT1 : Fld := ⟨0x050082C, 0, 32⟩
def BLV_CNT1_COVER_GAP_CNT : Fld := ⟨0x050082C, 0, 16⟩
def BLV_CNT1_APRON_MISSING_CNT : Fld := ⟨0x050082C, 16, 16⟩
def BLV_PRF_CTRL : Fld := ⟨0x0502000, 0, 32⟩
def BLV_PRF_CTRL_PRF_EN : Fld := ⟨0x0502000, 0, 4⟩
def BLV_PRF_CTRL_CD_BIN_LOG2 : Fld := ⟨0x0502000, 8, 3⟩
def BLV_PRF_CTRL_SYNC_REQ : Fld := ⟨0x0502000, 12, 1⟩
def BLV_PRF_CTRL_BG_LAG : Fld := ⟨0x0502000, 16, 8⟩
def BLV_PRF_CTRL_SYNC_LEAD : Fld := ⟨0x0502000, 24, 8⟩
def BLV_PRF_SEED_KEY : Fld := ⟨0x0502008, 0, 64⟩
def BLV_PRF_CFG (i : Nat) : Fld := ⟨0x0502100 + i*0x10, 0, 32⟩
def BLV_PRF_CFG_RESPONSE (i : Nat) : Fld := ⟨0x0502100 + i*0x10, 0, 4⟩
def BLV_PRF_CFG_MASK_EN (i : Nat) : Fld := ⟨0x0502100 + i*0x10, 4, 1⟩
def BLV_PRF_CFG_BG_SLEW (i : Nat) : Fld := ⟨0x0502100 + i*0x10, 16, 16⟩
def BLV_PRF_FIXED (i : Nat) : Fld := ⟨0x0502104 + i*0x10, 0, 16⟩
def BLV_PRF_STATUS : Fld := ⟨0x0503000, 0, 32⟩
def BLV_PRF_STATUS_WARMUP : Fld := ⟨0x0503000, 0, 1⟩
def BLV_PRF_STATUS_SETTLED : Fld := ⟨0x0503000, 1, 1⟩
def BLV_PRF_STATUS_FILLING : Fld := ⟨0x0503000, 2, 1⟩
def BLV_PRF_STATUS_SYNC_PENDING : Fld := ⟨0x0503000, 3, 1⟩
def BLV_PRF_STATUS_SEEDED : Fld := ⟨0x0503000, 4, 4⟩
def BLV_PRF_EVENTS : Fld := ⟨0x0503004, 0, 32⟩
def BLV_PRF_EVENTS_SYNC_LATE : Fld := ⟨0x0503004, 0, 1⟩
def BLV_PRF_EVENTS_BG_MASK_LATE : Fld := ⟨0x0503004, 1, 1⟩
def BLV_PRF_EVENTS_PROF_DROP : Fld := ⟨0x0503004, 2, 1⟩
def BLV_PRF_EVENTS_SEED_MISMATCH : Fld := ⟨0x0503004, 3, 1⟩
def BLV_PRF_EVENTS_SOURCE_CHANGE : Fld := ⟨0x0503004, 4, 1⟩
def BLV_PRF_EVENT_MASK : Fld := ⟨0x0503008, 0, 5⟩
def BLV_PRF_SYNC_ROW : Fld := ⟨0x0503010, 0, 64⟩
def BLV_PRF_SYNC_COUNT : Fld := ⟨0x0503018, 0, 32⟩
def BLV_PRF_CNT : Fld := ⟨0x050301C, 0, 32⟩
def BLV_PRF_CNT_BG_MASK_LATE_CNT : Fld := ⟨0x050301C, 0, 16⟩
def BLV_PRF_CNT_PROF_DROP_CNT : Fld := ⟨0x050301C, 16, 16⟩
def BLV_PRF_LR (i : Nat) : Fld := ⟨0x0503100 + i*0x10, 0, 64⟩
def BLV_PRF_COLS (i : Nat) : Fld := ⟨0x0503108 + i*0x10, 0, 19⟩
def BLV_PRF_FILLING (i : Nat) : Fld := ⟨0x050310C + i*0x10, 0, 19⟩
def BLV_REC_CTRL : Fld := ⟨0x0504000, 0, 32⟩
def BLV_REC_CTRL_ENABLE : Fld := ⟨0x0504000, 0, 1⟩
def BLV_REC_CTRL_CONN : Fld := ⟨0x0504000, 1, 1⟩
def BLV_REC_CTRL_FOUND_DELAY : Fld := ⟨0x0504000, 8, 8⟩
def BLV_REC_CTRL_MIN_AREA : Fld := ⟨0x0504000, 16, 16⟩
def BLV_REC_CONTINUE_MD : Fld := ⟨0x0504004, 0, 32⟩
def BLV_REC_HB : Fld := ⟨0x0504008, 0, 32⟩
def BLV_REC_HB_HB_FRAMES : Fld := ⟨0x0504008, 0, 16⟩
def BLV_REC_HB_HB_IDLE_MS : Fld := ⟨0x0504008, 16, 16⟩
def BLV_REC_SEAM : Fld := ⟨0x050400C, 0, 16⟩
def BLV_REC_STATUS : Fld := ⟨0x0505000, 0, 32⟩
def BLV_REC_STATUS_OPEN_DEFECTS : Fld := ⟨0x0505000, 0, 16⟩
def BLV_REC_STATUS_MERGE_USED : Fld := ⟨0x0505000, 16, 15⟩
def BLV_REC_EVENTS : Fld := ⟨0x0505004, 0, 32⟩
def BLV_REC_EVENTS_MERGE_FULL : Fld := ⟨0x0505004, 0, 1⟩
def BLV_REC_EVENTS_RECORD_DROP : Fld := ⟨0x0505004, 1, 1⟩
def BLV_REC_EVENTS_SEAM_LATE : Fld := ⟨0x0505004, 2, 1⟩
def BLV_REC_EVENTS_SEAM_PARTIAL : Fld := ⟨0x0505004, 3, 1⟩
def BLV_REC_EVENTS_YIELD_DISCARD : Fld := ⟨0x0505004, 4, 1⟩
def BLV_REC_EVENTS_OWNER_LOST : Fld := ⟨0x0505004, 5, 1⟩
def BLV_REC_EVENT_MASK : Fld := ⟨0x0505008, 0, 6⟩
def BLV_REC_RSEQ : Fld := ⟨0x0505010, 0, 32⟩
def BLV_REC_LOST_TOTAL : Fld := ⟨0x0505014, 0, 32⟩
def BLV_REC_CNT : Fld := ⟨0x0505018, 0, 32⟩
def BLV_REC_CNT_SMALL_CNT : Fld := ⟨0x0505018, 0, 16⟩
def BLV_REC_CNT_YIELD_DISCARD_CNT : Fld := ⟨0x0505018, 16, 16⟩
def BLV_REC_LAST_ERR : Fld := ⟨0x050501C, 0, 16⟩
def BLV_REC_FIFO : Fld := ⟨0x0505020, 0, 32⟩
def BLV_REC_FIFO_LEVEL : Fld := ⟨0x0505020, 0, 12⟩
def BLV_REC_FIFO_PEAK : Fld := ⟨0x0505020, 16, 12⟩
def DCA_CTRL : Fld := ⟨0x0600000, 0, 32⟩
def DCA_CTRL_ENABLE : Fld := ⟨0x0600000, 0, 1⟩
def DCA_CTRL_ACTIVE_BANK : Fld := ⟨0x0600000, 1, 1⟩
def DCA_CTRL_UNCL_POLICY : Fld := ⟨0x0600000, 2, 2⟩
def DCA_CROP_CFG : Fld := ⟨0x0600004, 0, 10⟩
def DCA_CLS_MIN_AREA : Fld := ⟨0x0600008, 0, 32⟩
def DCA_DECIDE_MD : Fld := ⟨0x060000C, 0, 32⟩
def DCA_UNCL_CLASS : Fld := ⟨0x0600010, 0, 10⟩
def DCA_SEAL_DIAG : Fld := ⟨0x0600014, 0, 8⟩
def DCA_STATUS : Fld := ⟨0x0600800, 0, 32⟩
def DCA_STATUS_BANK0 : Fld := ⟨0x0600800, 0, 3⟩
def DCA_STATUS_BANK1 : Fld := ⟨0x0600800, 4, 3⟩
def DCA_STATUS_CLK_MHZ : Fld := ⟨0x0600800, 16, 11⟩
def DCA_EVENTS : Fld := ⟨0x0600804, 0, 32⟩
def DCA_EVENTS_CROP_EXPIRED : Fld := ⟨0x0600804, 0, 1⟩
def DCA_EVENTS_QUEUE_FULL : Fld := ⟨0x0600804, 1, 1⟩
def DCA_EVENTS_MODEL_FAULT : Fld := ⟨0x0600804, 2, 1⟩
def DCA_EVENTS_LATE : Fld := ⟨0x0600804, 3, 1⟩
def DCA_EVENTS_SLOT_BAD : Fld := ⟨0x0600804, 4, 1⟩
def DCA_EVENTS_LOAD_DONE : Fld := ⟨0x0600804, 5, 1⟩
def DCA_EVENT_MASK : Fld := ⟨0x0600808, 0, 6⟩
def DCA_QUEUE : Fld := ⟨0x0600810, 0, 32⟩
def DCA_QUEUE_LEVEL : Fld := ⟨0x0600810, 0, 13⟩
def DCA_QUEUE_PEAK : Fld := ⟨0x0600810, 16, 13⟩
def DCA_CNT0 : Fld := ⟨0x0600814, 0, 32⟩
def DCA_CNT1 : Fld := ⟨0x0600818, 0, 32⟩
def DCA_CNT1_LATE_CNT : Fld := ⟨0x0600818, 0, 16⟩
def DCA_CNT1_EXPIRED_CNT : Fld := ⟨0x0600818, 16, 16⟩
def DCA_CNT2 : Fld := ⟨0x060081C, 0, 16⟩
def DCA_LAST_ERR : Fld := ⟨0x0600820, 0, 16⟩
def DCA_BANK_ID (i : Nat) : Fld := ⟨0x0600900 + i*0x10, 0, 32⟩
def DCA_BANK_SHAPE (i : Nat) : Fld := ⟨0x0600904 + i*0x10, 0, 32⟩
def DCA_BANK_SHAPE_IN_W (i : Nat) : Fld := ⟨0x0600904 + i*0x10, 0, 10⟩
def DCA_BANK_SHAPE_IN_H (i : Nat) : Fld := ⟨0x0600904 + i*0x10, 10, 10⟩
def DCA_BANK_SHAPE_CLASSES (i : Nat) : Fld := ⟨0x0600904 + i*0x10, 20, 11⟩
def DCA_BANK_OPS (i : Nat) : Fld := ⟨0x0600908 + i*0x10, 0, 32⟩
def PLZ_SEAL_DIAG : Fld := ⟨0x0400004, 0, 32⟩
def PLZ_SEAL_DIAG_CHECK : Fld := ⟨0x0400004, 0, 8⟩
def PLZ_SEAL_DIAG_ITEM : Fld := ⟨0x0400004, 8, 10⟩
def PLZ_SW_PULSE : Fld := ⟨0x0400010, 0, 16⟩
def PLZ_SW_SET : Fld := ⟨0x0400014, 0, 16⟩
def PLZ_SW_CLEAR : Fld := ⟨0x0400018, 0, 16⟩
def PLZ_CAP_MD : Fld := ⟨0x0400020, 0, 64⟩
def PLZ_CAP_HWM : Fld := ⟨0x0400028, 0, 64⟩
def PLZ_CAP_LINES : Fld := ⟨0x0400030, 0, 64⟩
def PLZ_CAP_TIME : Fld := ⟨0x0400038, 0, 64⟩
def PLZ_CAP_ADDR : Fld := ⟨0x0400040, 0, 32⟩
def PLZ_CAP_STATUS : Fld := ⟨0x0400044, 0, 1⟩
def PLZ_EVENTS : Fld := ⟨0x0400800, 0, 32⟩
def PLZ_EVENTS_LOOP : Fld := ⟨0x0400800, 0, 1⟩
def PLZ_EVENTS_OVERRUN : Fld := ⟨0x0400800, 1, 1⟩
def PLZ_EVENTS_COINCIDENCE : Fld := ⟨0x0400800, 2, 1⟩
def PLZ_EVENTS_CLASH : Fld := ⟨0x0400800, 3, 1⟩
def PLZ_EVENTS_MARK_MISSED : Fld := ⟨0x0400800, 4, 1⟩
def PLZ_EVENTS_MARK_FULL : Fld := ⟨0x0400800, 5, 1⟩
def PLZ_EVENTS_SLOT_WRITE : Fld := ⟨0x0400800, 6, 1⟩
def PLZ_EVENT_MASK : Fld := ⟨0x0400804, 0, 7⟩
def PLZ_LAST_ERR : Fld := ⟨0x0400808, 0, 16⟩
def PLZ_LOOP_CNT : Fld := ⟨0x040080C, 0, 32⟩
def PLZ_CH_BIND (i : Nat) : Fld := ⟨0x0401000 + i*0x4, 0, 32⟩
def PLZ_CH_BIND_PRODUCER (i : Nat) : Fld := ⟨0x0401000 + i*0x4, 0, 10⟩
def PLZ_CH_BIND_ENABLE (i : Nat) : Fld := ⟨0x0401000 + i*0x4, 15, 1⟩
def PLZ_CH_CNT (i : Nat) : Fld := ⟨0x0402000 + i*0x4, 0, 32⟩
def PLZ_LOOP_MAP (i : Nat) : Fld := ⟨0x0403000 + i*0x4, 0, 32⟩
def PLZ_IN_SEL0 (i : Nat) : Fld := ⟨0x0404000 + i*0x10, 0, 32⟩
def PLZ_IN_SEL0_CH0 (i : Nat) : Fld := ⟨0x0404000 + i*0x10, 0, 10⟩
def PLZ_IN_SEL0_CH1 (i : Nat) : Fld := ⟨0x0404000 + i*0x10, 16, 10⟩
def PLZ_IN_SEL0_COUNT (i : Nat) : Fld := ⟨0x0404000 + i*0x10, 29, 3⟩
def PLZ_IN_SEL1 (i : Nat) : Fld := ⟨0x0404004 + i*0x10, 0, 32⟩
def PLZ_IN_SEL1_CH2 (i : Nat) : Fld := ⟨0x0404004 + i*0x10, 0, 10⟩
def PLZ_IN_SEL1_CH3 (i : Nat) : Fld := ⟨0x0404004 + i*0x10, 16, 10⟩
def PLZ_IN_STATUS (i : Nat) : Fld := ⟨0x0404008 + i*0x10, 0, 32⟩
def PLZ_IN_STATUS_COINCIDENCE (i : Nat) : Fld := ⟨0x0404008 + i*0x10, 0, 1⟩
def PLZ_IN_STATUS_OVERRUN (i : Nat) : Fld := ⟨0x0404008 + i*0x10, 1, 1⟩
def PLZ_IN_STATUS_CLASH (i : Nat) : Fld := ⟨0x0404008 + i*0x10, 2, 1⟩
def PLZ_IN_STATUS_OVERRUN_CNT (i : Nat) : Fld := ⟨0x0404008 + i*0x10, 16, 16⟩
def PLZ_IN_CNT (i : Nat) : Fld := ⟨0x040400C + i*0x10, 0, 32⟩
def PLZ_GPIO_CFG (i : Nat) : Fld := ⟨0x0405000 + i*0x10, 0, 32⟩
def PLZ_GPIO_CFG_DIR (i : Nat) : Fld := ⟨0x0405000 + i*0x10, 0, 1⟩
def PLZ_GPIO_CFG_SOURCE (i : Nat) : Fld := ⟨0x0405000 + i*0x10, 1, 2⟩
def PLZ_GPIO_CFG_MODE (i : Nat) : Fld := ⟨0x0405000 + i*0x10, 3, 1⟩
def PLZ_GPIO_CFG_INVERT (i : Nat) : Fld := ⟨0x0405000 + i*0x10, 4, 1⟩
def PLZ_GPIO_CFG_SAFE (i : Nat) : Fld := ⟨0x0405000 + i*0x10, 5, 2⟩
def PLZ_GPIO_CFG_IN_EDGE (i : Nat) : Fld := ⟨0x0405000 + i*0x10, 8, 3⟩
def PLZ_GPIO_CFG_MARKER (i : Nat) : Fld := ⟨0x0405000 + i*0x10, 12, 3⟩
def PLZ_GPIO_CFG_FILTER (i : Nat) : Fld := ⟨0x0405000 + i*0x10, 16, 7⟩
def PLZ_GPIO_CFG_OUT (i : Nat) : Fld := ⟨0x0405000 + i*0x10, 24, 1⟩
def PLZ_GPIO_DELAY (i : Nat) : Fld := ⟨0x0405004 + i*0x10, 0, 32⟩
def PLZ_GPIO_PULSE (i : Nat) : Fld := ⟨0x0405008 + i*0x10, 0, 32⟩
def PLZ_GPIO_STATUS (i : Nat) : Fld := ⟨0x040500C + i*0x10, 0, 32⟩
def PLZ_GPIO_STATUS_PIN (i : Nat) : Fld := ⟨0x040500C + i*0x10, 0, 1⟩
def PLZ_GPIO_STATUS_PENDING (i : Nat) : Fld := ⟨0x040500C + i*0x10, 1, 3⟩
def PLZ_TMR_CFG (i : Nat) : Fld := ⟨0x0406000 + i*0x10, 0, 32⟩
def PLZ_TMR_CFG_REPEAT (i : Nat) : Fld := ⟨0x0406000 + i*0x10, 0, 1⟩
def PLZ_TMR_CFG_RETRIGGER (i : Nat) : Fld := ⟨0x0406000 + i*0x10, 1, 1⟩
def PLZ_TMR_PERIOD (i : Nat) : Fld := ⟨0x0406004 + i*0x10, 0, 32⟩
def PLZ_TMR_STATUS (i : Nat) : Fld := ⟨0x0406008 + i*0x10, 0, 32⟩
def PLZ_TMR_STATUS_RUNNING (i : Nat) : Fld := ⟨0x0406008 + i*0x10, 0, 1⟩
def PLZ_TMR_STATUS_LINEAGE (i : Nat) : Fld := ⟨0x0406008 + i*0x10, 4, 3⟩
def PLZ_MARK_CFG (i : Nat) : Fld := ⟨0x0407000 + i*0x40, 0, 32⟩
def PLZ_MARK_CFG_ENABLE (i : Nat) : Fld := ⟨0x0407000 + i*0x40, 0, 1⟩
def PLZ_MARK_CFG_SLOT_BASE (i : Nat) : Fld := ⟨0x0407000 + i*0x40, 8, 8⟩
def PLZ_MARK_CFG_SLOT_COUNT (i : Nat) : Fld := ⟨0x0407000 + i*0x40, 16, 7⟩
def PLZ_MARK_CD_LO (i : Nat) : Fld := ⟨0x0407004 + i*0x40, 0, 32⟩
def PLZ_MARK_CD_HI (i : Nat) : Fld := ⟨0x0407008 + i*0x40, 0, 32⟩
def PLZ_MARK_LEAD (i : Nat) : Fld := ⟨0x040700C + i*0x40, 0, 32⟩
def PLZ_MARK_DIST (i : Nat) : Fld := ⟨0x0407010 + i*0x40, 0, 64⟩
def PLZ_MARK_PULSE (i : Nat) : Fld := ⟨0x0407018 + i*0x40, 0, 32⟩
def PLZ_MARK_HOLDOFF (i : Nat) : Fld := ⟨0x040701C + i*0x40, 0, 32⟩
def PLZ_MARK_SPAN_TAIL (i : Nat) : Fld := ⟨0x0407020 + i*0x40, 0, 32⟩
def PLZ_MARK_MAX_SPAN (i : Nat) : Fld := ⟨0x0407024 + i*0x40, 0, 32⟩
def PLZ_MARK_LATE_TOL (i : Nat) : Fld := ⟨0x0407028 + i*0x40, 0, 32⟩
def PLZ_MARK_STATUS (i : Nat) : Fld := ⟨0x040702C + i*0x40, 0, 32⟩
def PLZ_MARK_STATUS_HIGH (i : Nat) : Fld := ⟨0x040702C + i*0x40, 0, 1⟩
def PLZ_MARK_STATUS_INHIBITED (i : Nat) : Fld := ⟨0x040702C + i*0x40, 1, 1⟩
def PLZ_MARK_STATUS_OPEN_SPANS (i : Nat) : Fld := ⟨0x040702C + i*0x40, 8, 8⟩
def PLZ_MARK_STATUS_SLOTS_USED (i : Nat) : Fld := ⟨0x040702C + i*0x40, 16, 7⟩
def PLZ_MARK_CNT0 (i : Nat) : Fld := ⟨0x0407030 + i*0x40, 0, 32⟩
def PLZ_MARK_CNT0_FIRED (i : Nat) : Fld := ⟨0x0407030 + i*0x40, 0, 16⟩
def PLZ_MARK_CNT0_MISSED (i : Nat) : Fld := ⟨0x0407030 + i*0x40, 16, 16⟩
def PLZ_MARK_CNT1 (i : Nat) : Fld := ⟨0x0407034 + i*0x40, 0, 32⟩
def PLZ_MARK_CNT1_FULL (i : Nat) : Fld := ⟨0x0407034 + i*0x40, 0, 16⟩
def PLZ_MARK_CNT1_INHIBIT_CNT (i : Nat) : Fld := ⟨0x0407034 + i*0x40, 16, 16⟩
def PLZ_MARK_NOCLS (i : Nat) : Fld := ⟨0x0407038 + i*0x40, 0, 16⟩
def PLZ_ACTION_TABLE (i j : Nat) : Fld := ⟨0x0410000 + i*0x800 + j*0x4, 0, 32⟩
def PLZ_ACTION_TABLE_E0 (i j : Nat) : Fld := ⟨0x0410000 + i*0x800 + j*0x4, 0, 16⟩
def PLZ_ACTION_TABLE_E1 (i j : Nat) : Fld := ⟨0x0410000 + i*0x800 + j*0x4, 16, 16⟩
def CAL_CTRL : Fld := ⟨0x0B00000, 0, 32⟩
def CAL_CTRL_SELF_EN : Fld := ⟨0x0B00000, 0, 1⟩
def CAL_CTRL_KINDS : Fld := ⟨0x0B00000, 1, 5⟩
def CAL_CTRL_CAL_LAYER : Fld := ⟨0x0B00000, 6, 2⟩
def CAL_CTRL_PANTRY_APPLY : Fld := ⟨0x0B00000, 8, 1⟩
def CAL_CTRL_PERSIST_EN : Fld := ⟨0x0B00000, 9, 1⟩
def CAL_CTRL_MATCH_REF : Fld := ⟨0x0B00000, 12, 4⟩
def CAL_WIN_CFG : Fld := ⟨0x0B00004, 0, 32⟩
def CAL_WIN_CFG_WIN_FRAMES : Fld := ⟨0x0B00004, 0, 8⟩
def CAL_WIN_CFG_COMPUTE_FRAMES : Fld := ⟨0x0B00004, 8, 8⟩
def CAL_WIN_CFG_FLAT_RADIUS : Fld := ⟨0x0B00004, 16, 10⟩
def CAL_STEP : Fld := ⟨0x0B00008, 0, 32⟩
def CAL_STEP_TRIM_STEP_GAIN : Fld := ⟨0x0B00008, 0, 16⟩
def CAL_STEP_TRIM_STEP_MD : Fld := ⟨0x0B00008, 16, 8⟩
def CAL_STEP_TRIM_STEP_CD : Fld := ⟨0x0B00008, 24, 8⟩
def CAL_LIMIT0 : Fld := ⟨0x0B0000C, 0, 32⟩
def CAL_LIMIT0_FLAT_MAX : Fld := ⟨0x0B0000C, 0, 16⟩
def CAL_LIMIT0_MATCH_MAX : Fld := ⟨0x0B0000C, 16, 16⟩
def CAL_LIMIT1 : Fld := ⟨0x0B00010, 0, 32⟩
def CAL_LIMIT1_MDREG_MAX : Fld := ⟨0x0B00010, 0, 16⟩
def CAL_LIMIT1_CDREG_MAX : Fld := ⟨0x0B00010, 16, 16⟩
def CAL_AGREE : Fld := ⟨0x0B00014, 0, 32⟩
def CAL_AGREE_FLAT_AGREE : Fld := ⟨0x0B00014, 0, 8⟩
def CAL_AGREE_MATCH_AGREE : Fld := ⟨0x0B00014, 8, 8⟩
def CAL_AGREE_MD_AGREE : Fld := ⟨0x0B00014, 16, 8⟩
def CAL_AGREE_CD_AGREE : Fld := ⟨0x0B00014, 24, 8⟩
def CAL_CORR_CFG : Fld := ⟨0x0B00018, 0, 32⟩
def CAL_CORR_CFG_MD_LAG : Fld := ⟨0x0B00018, 0, 5⟩
def CAL_CORR_CFG_CD_LAG : Fld := ⟨0x0B00018, 8, 5⟩
def CAL_CORR_CFG_CORR_MIN : Fld := ⟨0x0B00018, 16, 8⟩
def CAL_MIN_CFG : Fld := ⟨0x0B0001C, 0, 32⟩
def CAL_MIN_CFG_FLAT_MIN_SIGNAL : Fld := ⟨0x0B0001C, 0, 16⟩
def CAL_MIN_CFG_MIN_SAMPLES : Fld := ⟨0x0B0001C, 16, 16⟩
def CAL_PERSIST_INTERVAL : Fld := ⟨0x0B00020, 0, 32⟩
def CAL_EXT_CFG : Fld := ⟨0x0B00024, 0, 32⟩
def CAL_EXT_CFG_EXT_MODE : Fld := ⟨0x0B00024, 0, 2⟩
def CAL_EXT_CFG_WHITE_TARGET : Fld := ⟨0x0B00024, 16, 16⟩
def CAL_EXT_CFG1 : Fld := ⟨0x0B00028, 0, 32⟩
def CAL_EXT_CFG1_REF_LINES : Fld := ⟨0x0B00028, 0, 16⟩
def CAL_EXT_CFG1_REF_MIN_SPAN : Fld := ⟨0x0B00028, 16, 16⟩
def CAL_EXT_CFG2 : Fld := ⟨0x0B0002C, 0, 16⟩
def CAL_STATUS : Fld := ⟨0x0B00800, 0, 32⟩
def CAL_STATUS_PHASE : Fld := ⟨0x0B00800, 0, 3⟩
def CAL_STATUS_PANTRY_COPY : Fld := ⟨0x0B00800, 4, 1⟩
def CAL_STATUS_PANTRY_VALID : Fld := ⟨0x0B00800, 5, 2⟩
def CAL_STATUS_PANTRY_PENDING : Fld := ⟨0x0B00800, 7, 1⟩
def CAL_STATUS_STEPPING : Fld := ⟨0x0B00800, 16, 16⟩
def CAL_EVENTS : Fld := ⟨0x0B00804, 0, 32⟩
def CAL_EVENTS_ACCEPT : Fld := ⟨0x0B00804, 0, 1⟩
def CAL_EVENTS_REJECT : Fld := ⟨0x0B00804, 1, 1⟩
def CAL_EVENTS_APPLY_DONE : Fld := ⟨0x0B00804, 2, 1⟩
def CAL_EVENTS_ABANDONED : Fld := ⟨0x0B00804, 3, 1⟩
def CAL_EVENTS_PANTRY_WRITTEN : Fld := ⟨0x0B00804, 4, 1⟩
def CAL_EVENTS_PANTRY_FAIL : Fld := ⟨0x0B00804, 5, 1⟩
def CAL_EVENTS_PANTRY_BAD : Fld := ⟨0x0B00804, 6, 1⟩
def CAL_EVENTS_PANTRY_SKIP : Fld := ⟨0x0B00804, 7, 1⟩
def CAL_EVENTS_SEED_OMITTED : Fld := ⟨0x0B00804, 8, 1⟩
def CAL_EVENTS_EXT_DONE : Fld := ⟨0x0B00804, 9, 1⟩
def CAL_REJECT : Fld := ⟨0x0B00808, 0, 32⟩
def CAL_REJECT_REASON : Fld := ⟨0x0B00808, 0, 16⟩
def CAL_REJECT_ROLE : Fld := ⟨0x0B00808, 16, 4⟩
def CAL_REJECT_KIND : Fld := ⟨0x0B00808, 20, 3⟩
def CAL_REJECT_CHAN : Fld := ⟨0x0B00808, 24, 2⟩
def CAL_CNT : Fld := ⟨0x0B0080C, 0, 32⟩
def CAL_CNT_ACCEPT_CNT : Fld := ⟨0x0B0080C, 0, 16⟩
def CAL_CNT_REJECT_CNT : Fld := ⟨0x0B0080C, 16, 16⟩
def CAL_TRIM_SEQ : Fld := ⟨0x0B00810, 0, 32⟩
def CAL_PANTRY_SEQ : Fld := ⟨0x0B00814, 0, 32⟩
def CAL_SINCE_WRITE : Fld := ⟨0x0B00818, 0, 32⟩
def CAL_WIN_START : Fld := ⟨0x0B00820, 0, 64⟩
def CAL_ROLE_GAIN (i : Nat) : Fld := ⟨0x0B01000 + i*0x10, 0, 32⟩
def CAL_ROLE_MD (i : Nat) : Fld := ⟨0x0B01004 + i*0x10, 0, 32⟩
def CAL_ROLE_CD (i : Nat) : Fld := ⟨0x0B01008 + i*0x10, 0, 32⟩
def CAL_ROLE_STATE (i : Nat) : Fld := ⟨0x0B0100C + i*0x10, 0, 32⟩
def CAL_ROLE_STATE_APPLIED (i : Nat) : Fld := ⟨0x0B0100C + i*0x10, 0, 1⟩
def CAL_ROLE_STATE_SKIPPED (i : Nat) : Fld := ⟨0x0B0100C + i*0x10, 1, 1⟩
def CAL_ROLE_STATE_DEAD_COLS (i : Nat) : Fld := ⟨0x0B0100C + i*0x10, 16, 16⟩
def GAL_CTRL : Fld := ⟨0x0700000, 0, 32⟩
def GAL_CTRL_ENABLE : Fld := ⟨0x0700000, 0, 1⟩
def GAL_CTRL_TIMING_MODE : Fld := ⟨0x0700000, 1, 1⟩
def GAL_CTRL_UPDATE : Fld := ⟨0x0700000, 2, 1⟩
def GAL_CTRL_MAX_LANES : Fld := ⟨0x0700000, 4, 2⟩
def GAL_CTRL_MAX_RATE : Fld := ⟨0x0700000, 8, 2⟩
def GAL_STATUS : Fld := ⟨0x0700004, 0, 32⟩
def GAL_STATUS_HPD : Fld := ⟨0x0700004, 0, 1⟩
def GAL_STATUS_LINK : Fld := ⟨0x0700004, 1, 3⟩
def GAL_STATUS_LANES : Fld := ⟨0x0700004, 4, 2⟩
def GAL_STATUS_RATE : Fld := ⟨0x0700004, 8, 2⟩
def GAL_STATUS_FALLBACK : Fld := ⟨0x0700004, 10, 1⟩
def GAL_STATUS_UPDATE_PENDING : Fld := ⟨0x0700004, 11, 1⟩
def GAL_EVENTS : Fld := ⟨0x0700008, 0, 32⟩
def GAL_EVENTS_PLUGGED : Fld := ⟨0x0700008, 0, 1⟩
def GAL_EVENTS_UNPLUGGED : Fld := ⟨0x0700008, 1, 1⟩
def GAL_EVENTS_IRQ_HPD : Fld := ⟨0x0700008, 2, 1⟩
def GAL_EVENTS_TRAIN_FAIL : Fld := ⟨0x0700008, 3, 1⟩
def GAL_EVENTS_EDID_BAD : Fld := ⟨0x0700008, 4, 1⟩
def GAL_EVENTS_UNDERRUN : Fld := ⟨0x0700008, 5, 1⟩
def GAL_EVENTS_OVL_FULL : Fld := ⟨0x0700008, 6, 1⟩
def GAL_EVENTS_PREV_DROP : Fld := ⟨0x0700008, 7, 1⟩
def GAL_EVENT_MASK : Fld := ⟨0x070000C, 0, 8⟩
def GAL_UNDERRUN_CNT : Fld := ⟨0x0700010, 0, 32⟩
def GAL_PREV_DROP_CNT : Fld := ⟨0x0700014, 0, 32⟩
def GAL_FORCE_H : Fld := ⟨0x0700020, 0, 32⟩
def GAL_FORCE_H_ACTIVE : Fld := ⟨0x0700020, 0, 16⟩
def GAL_FORCE_H_TOTAL : Fld := ⟨0x0700020, 16, 16⟩
def GAL_FORCE_V : Fld := ⟨0x0700024, 0, 32⟩
def GAL_FORCE_V_ACTIVE : Fld := ⟨0x0700024, 0, 16⟩
def GAL_FORCE_V_TOTAL : Fld := ⟨0x0700024, 16, 16⟩
def GAL_FORCE_HSYNC : Fld := ⟨0x0700028, 0, 32⟩
def GAL_FORCE_HSYNC_START : Fld := ⟨0x0700028, 0, 16⟩
def GAL_FORCE_HSYNC_WIDTH : Fld := ⟨0x0700028, 16, 15⟩
def GAL_FORCE_HSYNC_POS : Fld := ⟨0x0700028, 31, 1⟩
def GAL_FORCE_VSYNC : Fld := ⟨0x070002C, 0, 32⟩
def GAL_FORCE_VSYNC_START : Fld := ⟨0x070002C, 0, 16⟩
def GAL_FORCE_VSYNC_WIDTH : Fld := ⟨0x070002C, 16, 15⟩
def GAL_FORCE_VSYNC_POS : Fld := ⟨0x070002C, 31, 1⟩
def GAL_FORCE_PCLK : Fld := ⟨0x0700030, 0, 20⟩
def GAL_CUR_H : Fld := ⟨0x0700040, 0, 32⟩
def GAL_CUR_H_ACTIVE : Fld := ⟨0x0700040, 0, 16⟩
def GAL_CUR_H_TOTAL : Fld := ⟨0x0700040, 16, 16⟩
def GAL_CUR_V : Fld := ⟨0x0700044, 0, 32⟩
def GAL_CUR_V_ACTIVE : Fld := ⟨0x0700044, 0, 16⟩
def GAL_CUR_V_TOTAL : Fld := ⟨0x0700044, 16, 16⟩
def GAL_CUR_HSYNC : Fld := ⟨0x0700048, 0, 32⟩
def GAL_CUR_HSYNC_START : Fld := ⟨0x0700048, 0, 16⟩
def GAL_CUR_HSYNC_WIDTH : Fld := ⟨0x0700048, 16, 15⟩
def GAL_CUR_HSYNC_POS : Fld := ⟨0x0700048, 31, 1⟩
def GAL_CUR_VSYNC : Fld := ⟨0x070004C, 0, 32⟩
def GAL_CUR_VSYNC_START : Fld := ⟨0x070004C, 0, 16⟩
def GAL_CUR_VSYNC_WIDTH : Fld := ⟨0x070004C, 16, 15⟩
def GAL_CUR_VSYNC_POS : Fld := ⟨0x070004C, 31, 1⟩
def GAL_CUR_PCLK : Fld := ⟨0x0700050, 0, 20⟩
def GAL_FB_BASE : Fld := ⟨0x0700100, 0, 64⟩
def GAL_BG_COLOR : Fld := ⟨0x0700108, 0, 24⟩
def GAL_UNDERRUN_COLOR : Fld := ⟨0x070010C, 0, 24⟩
def GAL_PREV_CFG : Fld := ⟨0x0700110, 0, 32⟩
def GAL_PREV_CFG_PREV_DIV : Fld := ⟨0x0700110, 0, 8⟩
def GAL_PREV_CFG_PREV_HZ : Fld := ⟨0x0700110, 8, 8⟩
def GAL_PREV_SIZE : Fld := ⟨0x0700114, 0, 32⟩
def GAL_PREV_SIZE_PREV_W : Fld := ⟨0x0700114, 0, 16⟩
def GAL_PREV_SIZE_PREV_H : Fld := ⟨0x0700114, 16, 16⟩
def GAL_REG_CFG (i : Nat) : Fld := ⟨0x0701000 + i*0x40, 0, 32⟩
def GAL_REG_CFG_ENABLE (i : Nat) : Fld := ⟨0x0701000 + i*0x40, 0, 1⟩
def GAL_REG_CFG_REDUCE (i : Nat) : Fld := ⟨0x0701000 + i*0x40, 1, 2⟩
def GAL_REG_CFG_COLOR (i : Nat) : Fld := ⟨0x0701000 + i*0x40, 3, 1⟩
def GAL_REG_CFG_LAYER_R (i : Nat) : Fld := ⟨0x0701000 + i*0x40, 4, 2⟩
def GAL_REG_CFG_LAYER_G (i : Nat) : Fld := ⟨0x0701000 + i*0x40, 6, 2⟩
def GAL_REG_CFG_LAYER_B (i : Nat) : Fld := ⟨0x0701000 + i*0x40, 8, 2⟩
def GAL_REG_CFG_OVL_EN (i : Nat) : Fld := ⟨0x0701000 + i*0x40, 10, 1⟩
def GAL_REG_CFG_FLOOR_EN (i : Nat) : Fld := ⟨0x0701000 + i*0x40, 11, 1⟩
def GAL_REG_CFG_BIND (i : Nat) : Fld := ⟨0x0701000 + i*0x40, 12, 1⟩
def GAL_REG_CFG_ROLE (i : Nat) : Fld := ⟨0x0701000 + i*0x40, 13, 4⟩
def GAL_REG_CFG_TRACE (i : Nat) : Fld := ⟨0x0701000 + i*0x40, 17, 1⟩
def GAL_REG_POS (i : Nat) : Fld := ⟨0x0701004 + i*0x40, 0, 32⟩
def GAL_REG_POS_X (i : Nat) : Fld := ⟨0x0701004 + i*0x40, 0, 16⟩
def GAL_REG_POS_Y (i : Nat) : Fld := ⟨0x0701004 + i*0x40, 16, 16⟩
def GAL_REG_SIZE (i : Nat) : Fld := ⟨0x0701008 + i*0x40, 0, 32⟩
def GAL_REG_SIZE_W (i : Nat) : Fld := ⟨0x0701008 + i*0x40, 0, 16⟩
def GAL_REG_SIZE_H (i : Nat) : Fld := ⟨0x0701008 + i*0x40, 16, 16⟩
def GAL_REG_COL_LO (i : Nat) : Fld := ⟨0x070100C + i*0x40, 0, 18⟩
def GAL_REG_COL_HI (i : Nat) : Fld := ⟨0x0701010 + i*0x40, 0, 18⟩
def GAL_REG_MD (i : Nat) : Fld := ⟨0x0701014 + i*0x40, 0, 32⟩
def GAL_REG_MD_MD_DECIM (i : Nat) : Fld := ⟨0x0701014 + i*0x40, 0, 16⟩
def GAL_REG_MD_MD_REP (i : Nat) : Fld := ⟨0x0701014 + i*0x40, 16, 3⟩
def GAL_REG_MAP (i : Nat) : Fld := ⟨0x0701018 + i*0x40, 0, 32⟩
def GAL_REG_MAP_MAP_BLACK (i : Nat) : Fld := ⟨0x0701018 + i*0x40, 0, 16⟩
def GAL_REG_MAP_MAP_GAIN (i : Nat) : Fld := ⟨0x0701018 + i*0x40, 16, 16⟩
def GAL_PROF_RANGE : Fld := ⟨0x070105C, 0, 32⟩
def GAL_PROF_RANGE_PROF_MIN : Fld := ⟨0x070105C, 0, 16⟩
def GAL_PROF_RANGE_PROF_MAX : Fld := ⟨0x070105C, 16, 16⟩
def GAL_PROF_COLOR : Fld := ⟨0x0701060, 0, 32⟩
def GAL_PROF_COLOR_PROF_COLOR : Fld := ⟨0x0701060, 0, 24⟩
def GAL_PROF_COLOR_TRACE_DIM : Fld := ⟨0x0701060, 24, 1⟩
def GAL_OVL_PALETTE (i : Nat) : Fld := ⟨0x0702000 + i*0x4, 0, 24⟩
def GAL_EDID (i : Nat) : Fld := ⟨0x0703000 + i*0x4, 0, 32⟩
def QUE_SQ_BASE (i : Nat) : Fld := ⟨0x2800000 + i*0x40, 0, 64⟩
def QUE_CQ_BASE (i : Nat) : Fld := ⟨0x2800008 + i*0x40, 0, 64⟩
def QUE_SQ_CFG (i : Nat) : Fld := ⟨0x2800010 + i*0x40, 0, 32⟩
def QUE_SQ_CFG_ENABLE (i : Nat) : Fld := ⟨0x2800010 + i*0x40, 0, 1⟩
def QUE_SQ_CFG_SIZE_LOG2 (i : Nat) : Fld := ⟨0x2800010 + i*0x40, 4, 5⟩
def QUE_SQ_CFG_CQ_ID (i : Nat) : Fld := ⟨0x2800010 + i*0x40, 16, 14⟩
def QUE_CQ_CFG (i : Nat) : Fld := ⟨0x2800014 + i*0x40, 0, 32⟩
def QUE_CQ_CFG_ENABLE (i : Nat) : Fld := ⟨0x2800014 + i*0x40, 0, 1⟩
def QUE_CQ_CFG_SIZE_LOG2 (i : Nat) : Fld := ⟨0x2800014 + i*0x40, 4, 5⟩
def QUE_CQ_CFG_IRQ_EN (i : Nat) : Fld := ⟨0x2800014 + i*0x40, 9, 1⟩
def QUE_CQ_CFG_VECTOR (i : Nat) : Fld := ⟨0x2800014 + i*0x40, 16, 11⟩
def QUE_CQ_COAL (i : Nat) : Fld := ⟨0x2800018 + i*0x40, 0, 32⟩
def QUE_CQ_COAL_COAL_COUNT (i : Nat) : Fld := ⟨0x2800018 + i*0x40, 0, 8⟩
def QUE_CQ_COAL_COAL_US (i : Nat) : Fld := ⟨0x2800018 + i*0x40, 16, 16⟩
def QUE_OWNER (i : Nat) : Fld := ⟨0x280001C + i*0x40, 0, 32⟩
def QUE_OWNER_FUNCTION (i : Nat) : Fld := ⟨0x280001C + i*0x40, 0, 6⟩
def QUE_OWNER_LOCAL (i : Nat) : Fld := ⟨0x280001C + i*0x40, 8, 8⟩
def QUE_SQ_STATUS (i : Nat) : Fld := ⟨0x2800020 + i*0x40, 0, 32⟩
def QUE_SQ_STATUS_SQ_HEAD (i : Nat) : Fld := ⟨0x2800020 + i*0x40, 0, 16⟩
def QUE_SQ_STATUS_HALTED (i : Nat) : Fld := ⟨0x2800020 + i*0x40, 16, 1⟩
def QUE_SQ_STATUS_CTX_WAIT (i : Nat) : Fld := ⟨0x2800020 + i*0x40, 17, 1⟩
def QUE_SQ_ERR (i : Nat) : Fld := ⟨0x2800024 + i*0x40, 0, 16⟩
def QUE_CQ_STATUS (i : Nat) : Fld := ⟨0x2800028 + i*0x40, 0, 32⟩
def QUE_CQ_STATUS_CQ_TAIL (i : Nat) : Fld := ⟨0x2800028 + i*0x40, 0, 16⟩
def QUE_CQ_STATUS_PHASE (i : Nat) : Fld := ⟨0x2800028 + i*0x40, 16, 1⟩
def QUE_CQ_STATUS_FULL (i : Nat) : Fld := ⟨0x2800028 + i*0x40, 17, 1⟩
def QUE_CQ_STATUS_HALTED (i : Nat) : Fld := ⟨0x2800028 + i*0x40, 18, 1⟩
def QUE_CQ_HEAD (i : Nat) : Fld := ⟨0x280002C + i*0x40, 0, 16⟩
def GLB_ID : Fld := ⟨0x0000000, 0, 32⟩
def GLB_ID_DEVICE : Fld := ⟨0x0000000, 0, 16⟩
def GLB_ID_REV : Fld := ⟨0x0000000, 16, 8⟩
def GLB_ID_GRADE : Fld := ⟨0x0000000, 24, 8⟩
def GLB_MODE : Fld := ⟨0x0000004, 0, 32⟩
def GLB_MODE_MODE : Fld := ⟨0x0000004, 0, 4⟩
def GLB_MODE_PENDING : Fld := ⟨0x0000004, 4, 4⟩
def GLB_MODE_PREV : Fld := ⟨0x0000004, 8, 8⟩
def GLB_MODE_REQ : Fld := ⟨0x0000008, 0, 4⟩
def GLB_MODE_CFG : Fld := ⟨0x0000010, 0, 32⟩
def GLB_MODE_CFG_START_SRC : Fld := ⟨0x0000010, 0, 2⟩
def GLB_MODE_CFG_ALLOW_PARTIAL : Fld := ⟨0x0000010, 4, 1⟩
def GLB_MODE_CFG_AUTO_RETURN : Fld := ⟨0x0000010, 5, 1⟩
def GLB_MODE_CFG_DISCOVER_TIMEOUT : Fld := ⟨0x0000010, 16, 16⟩
def GLB_COMMIT_CFG : Fld := ⟨0x0000014, 0, 16⟩
def GLB_SHADOW_OPEN : Fld := ⟨0x0000100, 0, 5⟩
def GLB_SHADOW_SEAL : Fld := ⟨0x0000104, 0, 5⟩
def GLB_SHADOW_ABORT : Fld := ⟨0x0000108, 0, 5⟩
def GLB_SEAL_RSTAT : Fld := ⟨0x0000110, 0, 32⟩
def GLB_SEAL_RSTAT_READY : Fld := ⟨0x0000110, 0, 1⟩
def GLB_SEAL_RSTAT_FRESH : Fld := ⟨0x0000110, 1, 1⟩
def GLB_SEAL_RSTAT_GROUP : Fld := ⟨0x0000110, 8, 5⟩
def GLB_SEAL_RSTAT_STATUS : Fld := ⟨0x0000110, 16, 16⟩
def GLB_SEAL_VALUE : Fld := ⟨0x0000118, 0, 64⟩
def GLB_COMMIT_REQ : Fld := ⟨0x0000120, 0, 1⟩
def GLB_COMMIT_INDEX : Fld := ⟨0x0000128, 0, 64⟩
def GLB_COMMIT_RSTAT : Fld := ⟨0x0000130, 0, 32⟩
def GLB_COMMIT_RSTAT_READY : Fld := ⟨0x0000130, 0, 1⟩
def GLB_COMMIT_RSTAT_FRESH : Fld := ⟨0x0000130, 1, 1⟩
def GLB_COMMIT_RSTAT_STATUS : Fld := ⟨0x0000130, 16, 16⟩
def GLB_COMMIT_VALUE : Fld := ⟨0x0000138, 0, 64⟩
def GLB_COMMIT_EPOCH : Fld := ⟨0x0000140, 0, 32⟩
def GLB_MODE_RSTAT : Fld := ⟨0x0000150, 0, 32⟩
def GLB_MODE_RSTAT_READY : Fld := ⟨0x0000150, 0, 1⟩
def GLB_MODE_RSTAT_FRESH : Fld := ⟨0x0000150, 1, 1⟩
def GLB_MODE_RSTAT_TARGET : Fld := ⟨0x0000150, 8, 4⟩
def GLB_MODE_RSTAT_STATUS : Fld := ⟨0x0000150, 16, 16⟩
def GLB_MODE_VALUE : Fld := ⟨0x0000158, 0, 4⟩
def GLB_GROUP (i : Nat) : Fld := ⟨0x0000200 + i*0x4, 0, 32⟩
def GLB_GROUP_STATE (i : Nat) : Fld := ⟨0x0000200 + i*0x4, 0, 2⟩
def GLB_GROUP_OWNER (i : Nat) : Fld := ⟨0x0000200 + i*0x4, 2, 2⟩
def GLB_GROUP_WORDS (i : Nat) : Fld := ⟨0x0000200 + i*0x4, 8, 24⟩
def GLB_EPOCH : Fld := ⟨0x0000300, 0, 32⟩
def GLB_FINGERPRINT : Fld := ⟨0x0000308, 0, 64⟩
def GLB_LOCAL_FP : Fld := ⟨0x0000310, 0, 64⟩
def GLB_PENDING : Fld := ⟨0x0000320, 0, 32⟩
def GLB_PENDING_AT_INDEX : Fld := ⟨0x0000320, 0, 3⟩
def GLB_PENDING_NEXT : Fld := ⟨0x0000320, 3, 1⟩
def GLB_NEXT_INDEX : Fld := ⟨0x0000328, 0, 64⟩
def GLB_CASCADE_RESULT : Fld := ⟨0x0000330, 0, 8⟩
def GLB_EVENTS : Fld := ⟨0x0000800, 0, 32⟩
def GLB_EVENTS_CLAIM_CONFLICT : Fld := ⟨0x0000800, 0, 1⟩
def GLB_EVENTS_STRAY_WRITE : Fld := ⟨0x0000800, 1, 1⟩
def GLB_EVENTS_SEAL_REFUSED : Fld := ⟨0x0000800, 2, 1⟩
def GLB_EVENTS_SEAL_STALE : Fld := ⟨0x0000800, 3, 1⟩
def GLB_EVENTS_CASCADE_PARTIAL : Fld := ⟨0x0000800, 4, 1⟩
def GLB_EVENTS_DISCOVER_LATE : Fld := ⟨0x0000800, 5, 1⟩
def GLB_EVENTS_POSITION_MISMATCH : Fld := ⟨0x0000800, 6, 1⟩
def GLB_EVENTS_DISCARDED : Fld := ⟨0x0000800, 7, 1⟩
def GLB_LAST_ERR : Fld := ⟨0x0000804, 0, 16⟩
def GLB_MISSING : Fld := ⟨0x0000810, 0, 32⟩
def GLB_MISSING_ROLES : Fld := ⟨0x0000810, 0, 16⟩
def GLB_MISSING_CAUSE : Fld := ⟨0x0000810, 16, 4⟩
def GLB_MISSING_STRIPE : Fld := ⟨0x0000810, 20, 1⟩
def GLB_FAULT_CAUSE : Fld := ⟨0x0000900, 0, 32⟩
def GLB_FAULT_CAUSE_POS_LOST : Fld := ⟨0x0000900, 0, 1⟩
def GLB_FAULT_CAUSE_DRAM_HOT : Fld := ⟨0x0000900, 1, 1⟩
def GLB_FAULT_CAUSE_THERMAL : Fld := ⟨0x0000900, 2, 1⟩
def GLB_FAULT_CAUSE_WATCHDOG : Fld := ⟨0x0000900, 3, 1⟩
def GLB_FAULT_CAUSE_SRAM_UE : Fld := ⟨0x0000900, 4, 1⟩
def GLB_FAULT_TIME : Fld := ⟨0x0000908, 0, 64⟩
def GLB_BOOT : Fld := ⟨0x0000A00, 0, 32⟩
def GLB_BOOT_RECORD : Fld := ⟨0x0000A00, 0, 1⟩
def GLB_BOOT_FW_SLOT : Fld := ⟨0x0000A00, 1, 1⟩
def GLB_BOOT_RECIPES : Fld := ⟨0x0000A00, 4, 4⟩
def GLB_BOOT_RECIPE : Fld := ⟨0x0000A00, 8, 2⟩
def GLB_BOOT_POSITION : Fld := ⟨0x0000A00, 12, 3⟩
def GLB_BOOT_AUTO_RUN : Fld := ⟨0x0000A00, 15, 1⟩
def GLB_RESET_REQ : Fld := ⟨0x0000A10, 0, 32⟩
def GLB_PLAT_CFG : Fld := ⟨0x0000B00, 0, 32⟩
def GLB_PLAT_CFG_T_THROTTLE : Fld := ⟨0x0000B00, 0, 8⟩
def GLB_PLAT_CFG_THROTTLE_EN : Fld := ⟨0x0000B00, 8, 1⟩
def GLB_PLAT_CFG_HYST : Fld := ⟨0x0000B00, 16, 4⟩
def GLB_PLAT_STATUS : Fld := ⟨0x0000B04, 0, 32⟩
def GLB_PLAT_STATUS_TEMP : Fld := ⟨0x0000B04, 0, 12⟩
def GLB_PLAT_STATUS_HOTTEST : Fld := ⟨0x0000B04, 12, 5⟩
def GLB_PLAT_STATUS_DCA_STEP : Fld := ⟨0x0000B04, 17, 3⟩
def GLB_PLAT_STATUS_HOST_STEP : Fld := ⟨0x0000B04, 20, 3⟩
def GLB_PLAT_STATUS_THROTTLING : Fld := ⟨0x0000B04, 23, 1⟩
def GLB_PLAT_STATUS_TRIP : Fld := ⟨0x0000B04, 24, 1⟩
def GLB_PLAT_STATUS_LANE_REFCLK_OK : Fld := ⟨0x0000B04, 25, 1⟩
def GLB_PLAT_STATUS_PCIE_REFCLK_OK : Fld := ⟨0x0000B04, 26, 1⟩
def GLB_RESET_CAUSE : Fld := ⟨0x0000B08, 0, 32⟩
def GLB_RESET_CAUSE_POR : Fld := ⟨0x0000B08, 0, 1⟩
def GLB_RESET_CAUSE_PIN : Fld := ⟨0x0000B08, 1, 1⟩
def GLB_RESET_CAUSE_REQUEST : Fld := ⟨0x0000B08, 2, 1⟩
def GLB_RESET_CAUSE_PORCH : Fld := ⟨0x0000B08, 3, 1⟩
def GLB_RESET_CAUSE_WATCHDOG : Fld := ⟨0x0000B08, 4, 1⟩
def GLB_RESET_CAUSE_CLOCK_LOSS : Fld := ⟨0x0000B08, 5, 1⟩
def GLB_RESET_CAUSE_TRIAL : Fld := ⟨0x0000B08, 6, 1⟩
def GLB_HOST_CTRL : Fld := ⟨0x0040000, 0, 32⟩
def GLB_HOST_CTRL_SPOOL_POLICY : Fld := ⟨0x0040000, 0, 1⟩
def GLB_HOST_CTRL_HOST_ERR_VECTOR : Fld := ⟨0x0040000, 16, 11⟩
def GLB_HOST_STATUS : Fld := ⟨0x0040004, 0, 32⟩
def GLB_HOST_STATUS_CTX_USED : Fld := ⟨0x0040004, 0, 13⟩
def GLB_HOST_STATUS_LINK_UP : Fld := ⟨0x0040004, 16, 1⟩
def GLB_HOST_STATUS_SUBS : Fld := ⟨0x0040004, 17, 4⟩
def GLB_HOST_EVENTS : Fld := ⟨0x0040008, 0, 32⟩
def GLB_HOST_EVENTS_QUEUE_HALT : Fld := ⟨0x0040008, 0, 1⟩
def GLB_HOST_EVENTS_CTX_FULL : Fld := ⟨0x0040008, 1, 1⟩
def GLB_HOST_EVENTS_VECTOR_BAD : Fld := ⟨0x0040008, 2, 1⟩
def GLB_HOST_EVENTS_IRQ_DROP : Fld := ⟨0x0040008, 3, 1⟩
def GLB_HOST_EVENTS_IMG_SKIP : Fld := ⟨0x0040008, 4, 1⟩
def GLB_HOST_EVENTS_SPOOL_FULL : Fld := ⟨0x0040008, 5, 1⟩
def GLB_HOST_EVENTS_LINK_LOST : Fld := ⟨0x0040008, 6, 1⟩
def GLB_HOST_EVENT_MASK : Fld := ⟨0x004000C, 0, 7⟩
def GLB_SPOOL_BASE : Fld := ⟨0x0040010, 0, 64⟩
def GLB_SPOOL_SIZE : Fld := ⟨0x0040018, 0, 16⟩
def GLB_SPOOL_LEVEL : Fld := ⟨0x004001C, 0, 32⟩
def GLB_SPOOL_DISCARD_CNT : Fld := ⟨0x0040020, 0, 32⟩
def GLB_HOST_LAST_ERR : Fld := ⟨0x0040024, 0, 16⟩
def GLB_IRQ_CFG (i : Nat) : Fld := ⟨0x0041000 + i*0x4, 0, 32⟩
def GLB_IRQ_CFG_IRQ_CQ (i : Nat) : Fld := ⟨0x0041000 + i*0x4, 0, 14⟩
def GLB_IRQ_CFG_ENABLE (i : Nat) : Fld := ⟨0x0041000 + i*0x4, 15, 1⟩
def GLB_OP_RSTAT (i : Nat) : Fld := ⟨0x0042000 + i*0x10, 0, 32⟩
def GLB_OP_RSTAT_READY (i : Nat) : Fld := ⟨0x0042000 + i*0x10, 0, 1⟩
def GLB_OP_RSTAT_FRESH (i : Nat) : Fld := ⟨0x0042000 + i*0x10, 1, 1⟩
def GLB_OP_RSTAT_STATUS (i : Nat) : Fld := ⟨0x0042000 + i*0x10, 16, 16⟩
def GLB_OP_VALUE (i : Nat) : Fld := ⟨0x0042008 + i*0x10, 0, 64⟩
def GLB_CTX_STATE (i : Nat) : Fld := ⟨0x0048000 + i*0x4, 0, 32⟩
def GLB_CTX_STATE_STATE (i : Nat) : Fld := ⟨0x0048000 + i*0x4, 0, 3⟩
def GLB_CTX_STATE_OPCODE (i : Nat) : Fld := ⟨0x0048000 + i*0x4, 8, 8⟩
def GLB_CTX_STATE_SQ (i : Nat) : Fld := ⟨0x0048000 + i*0x4, 16, 14⟩
def DMA_RUNNING : Fld := ⟨0x0800000, 0, 64⟩
def DMA_HALTED : Fld := ⟨0x0800008, 0, 64⟩
def DMA_EVENTS : Fld := ⟨0x0800010, 0, 32⟩
def DMA_EVENTS_HALT : Fld := ⟨0x0800010, 0, 1⟩
def DMA_EVENTS_START_DROP : Fld := ⟨0x0800010, 1, 1⟩
def DMA_EVENTS_START_IGNORED : Fld := ⟨0x0800010, 2, 1⟩
def DMA_EVENT_MASK : Fld := ⟨0x0800014, 0, 3⟩
def DMA_LAST_ERR : Fld := ⟨0x0800018, 0, 32⟩
def DMA_LAST_ERR_CODE : Fld := ⟨0x0800018, 0, 16⟩
def DMA_LAST_ERR_CHANNEL : Fld := ⟨0x0800018, 16, 6⟩
def DMA_CH_CFG (i : Nat) : Fld := ⟨0x0801000 + i*0x40, 0, 32⟩
def DMA_CH_CFG_MODE (i : Nat) : Fld := ⟨0x0801000 + i*0x40, 0, 2⟩
def DMA_CH_CFG_CLASS (i : Nat) : Fld := ⟨0x0801000 + i*0x40, 2, 1⟩
def DMA_CH_CFG_CHAIN_SPACE (i : Nat) : Fld := ⟨0x0801000 + i*0x40, 3, 1⟩
def DMA_CH_CFG_BIND_SQ (i : Nat) : Fld := ⟨0x0801000 + i*0x40, 16, 14⟩
def DMA_CH_LIMIT (i : Nat) : Fld := ⟨0x0801004 + i*0x40, 0, 20⟩
def DMA_CH_CHAIN_ADDR (i : Nat) : Fld := ⟨0x0801008 + i*0x40, 0, 64⟩
def DMA_CH_CTRL (i : Nat) : Fld := ⟨0x0801010 + i*0x40, 0, 32⟩
def DMA_CH_CTRL_GO (i : Nat) : Fld := ⟨0x0801010 + i*0x40, 0, 1⟩
def DMA_CH_CTRL_STOP (i : Nat) : Fld := ⟨0x0801010 + i*0x40, 1, 1⟩
def DMA_CH_CTRL_CLEAR (i : Nat) : Fld := ⟨0x0801010 + i*0x40, 2, 1⟩
def DMA_CH_STATUS (i : Nat) : Fld := ⟨0x0801014 + i*0x40, 0, 32⟩
def DMA_CH_STATUS_STATE (i : Nat) : Fld := ⟨0x0801014 + i*0x40, 0, 2⟩
def DMA_CH_STATUS_PENDING (i : Nat) : Fld := ⟨0x0801014 + i*0x40, 2, 1⟩
def DMA_CH_DESC_DONE (i : Nat) : Fld := ⟨0x0801018 + i*0x40, 0, 32⟩
def DMA_CH_TAG (i : Nat) : Fld := ⟨0x080101C + i*0x40, 0, 32⟩
def DMA_CH_BYTES (i : Nat) : Fld := ⟨0x0801020 + i*0x40, 0, 64⟩
def DMA_CH_ERR_ADDR (i : Nat) : Fld := ⟨0x0801028 + i*0x40, 0, 64⟩
def DMA_CH_ERR (i : Nat) : Fld := ⟨0x0801030 + i*0x40, 0, 32⟩
def DMA_CH_ERR_CODE (i : Nat) : Fld := ⟨0x0801030 + i*0x40, 0, 16⟩
def DMA_CH_ERR_DIAG (i : Nat) : Fld := ⟨0x0801030 + i*0x40, 16, 3⟩
def MEM_DRAM_CFG : Fld := ⟨0x0900000, 0, 32⟩
def MEM_DRAM_CFG_TYPE : Fld := ⟨0x0900000, 0, 1⟩
def MEM_DRAM_CFG_RATE : Fld := ⟨0x0900000, 1, 3⟩
def MEM_DRAM_CFG_CH_CAP : Fld := ⟨0x0900000, 4, 3⟩
def MEM_DRAM_CFG_RANKS : Fld := ⟨0x0900000, 7, 1⟩
def MEM_DRAM_CFG_ECC_EN : Fld := ⟨0x0900000, 8, 1⟩
def MEM_DRAM_CFG_MAP_FALLBACK : Fld := ⟨0x0900000, 9, 1⟩
def MEM_STATUS : Fld := ⟨0x0900004, 0, 32⟩
def MEM_STATUS_TRAINED : Fld := ⟨0x0900004, 0, 16⟩
def MEM_STATUS_DRIFT : Fld := ⟨0x0900004, 16, 16⟩
def MEM_INSTALLED : Fld := ⟨0x0900008, 0, 64⟩
def MEM_MAP (i : Nat) : Fld := ⟨0x0900010 + i*0x4, 0, 32⟩
def MEM_MAP_SEL0 (i : Nat) : Fld := ⟨0x0900010 + i*0x4, 0, 6⟩
def MEM_MAP_VALID0 (i : Nat) : Fld := ⟨0x0900010 + i*0x4, 7, 1⟩
def MEM_MAP_SEL1 (i : Nat) : Fld := ⟨0x0900010 + i*0x4, 8, 6⟩
def MEM_MAP_VALID1 (i : Nat) : Fld := ⟨0x0900010 + i*0x4, 15, 1⟩
def MEM_MAP_SEL2 (i : Nat) : Fld := ⟨0x0900010 + i*0x4, 16, 6⟩
def MEM_MAP_VALID2 (i : Nat) : Fld := ⟨0x0900010 + i*0x4, 23, 1⟩
def MEM_MAP_SEL3 (i : Nat) : Fld := ⟨0x0900010 + i*0x4, 24, 6⟩
def MEM_MAP_VALID3 (i : Nat) : Fld := ⟨0x0900010 + i*0x4, 31, 1⟩
def MEM_RETRAIN_CFG : Fld := ⟨0x0900040, 0, 32⟩
def MEM_RETRAIN_CFG_RETRAIN_MS : Fld := ⟨0x0900040, 0, 16⟩
def MEM_RETRAIN_CFG_RETRAIN_WAIT_US : Fld := ⟨0x0900040, 16, 16⟩
def MEM_MAX_GRANT : Fld := ⟨0x0900044, 0, 32⟩
def MEM_MAX_GRANT_C0 : Fld := ⟨0x0900044, 0, 4⟩
def MEM_MAX_GRANT_C1 : Fld := ⟨0x0900044, 4, 4⟩
def MEM_MAX_GRANT_C2 : Fld := ⟨0x0900044, 8, 4⟩
def MEM_MAX_GRANT_C3 : Fld := ⟨0x0900044, 12, 4⟩
def MEM_MAX_GRANT_C4 : Fld := ⟨0x0900044, 16, 4⟩
def MEM_C0_LIMIT : Fld := ⟨0x0900048, 0, 8⟩
def MEM_EVENTS : Fld := ⟨0x0900800, 0, 32⟩
def MEM_EVENTS_LOCK_BROKEN : Fld := ⟨0x0900800, 0, 1⟩
def MEM_EVENTS_STARVE : Fld := ⟨0x0900800, 1, 1⟩
def MEM_EVENTS_ECC_CE : Fld := ⟨0x0900800, 2, 1⟩
def MEM_EVENTS_ECC_UE : Fld := ⟨0x0900800, 3, 1⟩
def MEM_EVENTS_OUT_OF_RANGE : Fld := ⟨0x0900800, 4, 1⟩
def MEM_EVENTS_DRIFT_LIMIT : Fld := ⟨0x0900800, 5, 1⟩
def MEM_EVENTS_DRAM_HOT : Fld := ⟨0x0900800, 6, 1⟩
def MEM_EVENTS_C0_LOAD : Fld := ⟨0x0900800, 7, 1⟩
def MEM_EVENT_MASK : Fld := ⟨0x0900804, 0, 8⟩
def MEM_LAST_ERR : Fld := ⟨0x0900808, 0, 16⟩
def MEM_LOCK_INFO : Fld := ⟨0x0900810, 0, 32⟩
def MEM_LOCK_INFO_OWNER : Fld := ⟨0x0900810, 0, 7⟩
def MEM_LOCK_INFO_CHANNEL : Fld := ⟨0x0900810, 8, 4⟩
def MEM_LOCK_INFO_CAUSE : Fld := ⟨0x0900810, 12, 1⟩
def MEM_LOCK_FIRST : Fld := ⟨0x0900818, 0, 64⟩
def MEM_LOCK_LAST : Fld := ⟨0x0900820, 0, 64⟩
def MEM_UE_ADDR : Fld := ⟨0x0900828, 0, 64⟩
def MEM_ECC_CNT : Fld := ⟨0x0900830, 0, 32⟩
def MEM_ECC_CNT_CE : Fld := ⟨0x0900830, 0, 16⟩
def MEM_ECC_CNT_UE : Fld := ⟨0x0900830, 16, 16⟩
def MEM_OOR_ADDR : Fld := ⟨0x0900838, 0, 64⟩
def MEM_STARVE_MAP (i : Nat) : Fld := ⟨0x0900840 + i*0x4, 0, 32⟩
def MEM_CH_STATUS (i : Nat) : Fld := ⟨0x0901000 + i*0x20, 0, 32⟩
def MEM_CH_STATUS_REF_MULT (i : Nat) : Fld := ⟨0x0901000 + i*0x20, 0, 2⟩
def MEM_CH_STATUS_REF_BEHIND (i : Nat) : Fld := ⟨0x0901000 + i*0x20, 4, 4⟩
def MEM_CH_LOAD (i : Nat) : Fld := ⟨0x0901004 + i*0x20, 0, 32⟩
def MEM_CH_LOAD_C0_NOW (i : Nat) : Fld := ⟨0x0901004 + i*0x20, 0, 8⟩
def MEM_CH_LOAD_C0_PEAK (i : Nat) : Fld := ⟨0x0901004 + i*0x20, 8, 8⟩
def MEM_CH_RETRAIN_CNT (i : Nat) : Fld := ⟨0x0901008 + i*0x20, 0, 32⟩
def MEM_CH_RETRAIN_CNT_GAP (i : Nat) : Fld := ⟨0x0901008 + i*0x20, 0, 16⟩
def MEM_CH_RETRAIN_CNT_FORCED (i : Nat) : Fld := ⟨0x0901008 + i*0x20, 16, 16⟩
def MEM_CH_REF_CNT (i : Nat) : Fld := ⟨0x090100C + i*0x20, 0, 32⟩
def MEM_REQ_CFG (i : Nat) : Fld := ⟨0x0902000 + i*0x10, 0, 32⟩
def MEM_REQ_CFG_CLASS (i : Nat) : Fld := ⟨0x0902000 + i*0x10, 0, 3⟩
def MEM_REQ_CFG_WAIT_LIMIT (i : Nat) : Fld := ⟨0x0902000 + i*0x10, 16, 16⟩
def MEM_REQ_STATUS (i : Nat) : Fld := ⟨0x0902004 + i*0x10, 0, 32⟩
def MEM_REQ_STATUS_WAITING (i : Nat) : Fld := ⟨0x0902004 + i*0x10, 0, 1⟩
def MEM_REQ_STATUS_HOLDING (i : Nat) : Fld := ⟨0x0902004 + i*0x10, 1, 1⟩
def MEM_REQ_STATUS_LOCKED (i : Nat) : Fld := ⟨0x0902004 + i*0x10, 2, 1⟩
def MEM_REQ_WAIT_MAX (i : Nat) : Fld := ⟨0x0902008 + i*0x10, 0, 32⟩
def KSL_CTRL : Fld := ⟨0x0A00000, 0, 32⟩
def KSL_CTRL_W_EN : Fld := ⟨0x0A00000, 0, 1⟩
def KSL_CTRL_E_EN : Fld := ⟨0x0A00000, 1, 1⟩
def KSL_CTRL_MAX_RATE : Fld := ⟨0x0A00000, 4, 2⟩
def KSL_CTRL_CASCADE_SIZE : Fld := ⟨0x0A00000, 8, 4⟩
def KSL_CASCADE : Fld := ⟨0x0A00004, 0, 32⟩
def KSL_CASCADE_W : Fld := ⟨0x0A00004, 0, 3⟩
def KSL_CASCADE_E : Fld := ⟨0x0A00004, 4, 3⟩
def KSL_CASCADE_SIZE_SEEN : Fld := ⟨0x0A00004, 8, 4⟩
def KSL_CASCADE_READY : Fld := ⟨0x0A00004, 12, 1⟩
def KSL_CASCADE_FIXED : Fld := ⟨0x0A00004, 13, 1⟩
def KSL_CASCADE_DEVICE : Fld := ⟨0x0A00004, 16, 3⟩
def KSL_CASCADE_MASTER_POS : Fld := ⟨0x0A00004, 20, 3⟩
def KSL_EVENTS : Fld := ⟨0x0A00008, 0, 32⟩
def KSL_EVENTS_PORT_UP : Fld := ⟨0x0A00008, 0, 1⟩
def KSL_EVENTS_PORT_DOWN : Fld := ⟨0x0A00008, 1, 1⟩
def KSL_EVENTS_MISMATCH : Fld := ⟨0x0A00008, 2, 1⟩
def KSL_EVENTS_EQ_FAIL : Fld := ⟨0x0A00008, 3, 1⟩
def KSL_EVENTS_CRC_ERR : Fld := ⟨0x0A00008, 4, 1⟩
def KSL_EVENTS_FRAME_ERR : Fld := ⟨0x0A00008, 5, 1⟩
def KSL_EVENTS_REPLAY_FAIL : Fld := ⟨0x0A00008, 6, 1⟩
def KSL_EVENTS_LANE_LOS : Fld := ⟨0x0A00008, 7, 1⟩
def KSL_EVENTS_LANE_LOL : Fld := ⟨0x0A00008, 8, 1⟩
def KSL_EVENTS_BITSLIP_IGNORED : Fld := ⟨0x0A00008, 9, 1⟩
def KSL_EVENTS_CASCADE_CHANGE : Fld := ⟨0x0A00008, 10, 1⟩
def KSL_EVENTS_MASTER_CONFLICT : Fld := ⟨0x0A00008, 11, 1⟩
def KSL_EVENTS_WIDTH_REDUCED : Fld := ⟨0x0A00008, 12, 1⟩
def KSL_EVENTS_LOCK_FAIL : Fld := ⟨0x0A00008, 13, 1⟩
def KSL_EVENT_MASK : Fld := ⟨0x0A0000C, 0, 14⟩
def KSL_LAST_ERR : Fld := ⟨0x0A00010, 0, 32⟩
def KSL_LAST_ERR_CODE : Fld := ⟨0x0A00010, 0, 16⟩
def KSL_LAST_ERR_PORT : Fld := ⟨0x0A00010, 16, 1⟩
def KSL_DEV_EPOCH (i : Nat) : Fld := ⟨0x0A00100 + i*0x10, 0, 32⟩
def KSL_DEV_STATE (i : Nat) : Fld := ⟨0x0A00104 + i*0x10, 0, 32⟩
def KSL_DEV_STATE_VALID (i : Nat) : Fld := ⟨0x0A00104 + i*0x10, 0, 1⟩
def KSL_DEV_STATE_SAME (i : Nat) : Fld := ⟨0x0A00104 + i*0x10, 1, 1⟩
def KSL_DEV_STATE_MODE (i : Nat) : Fld := ⟨0x0A00104 + i*0x10, 8, 8⟩
def KSL_DEV_FP (i : Nat) : Fld := ⟨0x0A00108 + i*0x10, 0, 64⟩
def KSL_PORT_CFG (i : Nat) : Fld := ⟨0x0A01000 + i*0x100, 0, 32⟩
def KSL_PORT_CFG_WIDTH_MAX (i : Nat) : Fld := ⟨0x0A01000 + i*0x100, 0, 2⟩
def KSL_PORT_CFG_EQ_MODE (i : Nat) : Fld := ⟨0x0A01000 + i*0x100, 2, 1⟩
def KSL_PORT_CFG_DOZE_EN (i : Nat) : Fld := ⟨0x0A01000 + i*0x100, 3, 1⟩
def KSL_PORT_CFG_TX_PRESET (i : Nat) : Fld := ⟨0x0A01000 + i*0x100, 4, 4⟩
def KSL_PORT_CFG_RETRY (i : Nat) : Fld := ⟨0x0A01000 + i*0x100, 8, 1⟩
def KSL_PORT_CFG_DOZE_IDLE_US (i : Nat) : Fld := ⟨0x0A01000 + i*0x100, 16, 16⟩
def KSL_PORT_STATUS (i : Nat) : Fld := ⟨0x0A01004 + i*0x100, 0, 32⟩
def KSL_PORT_STATUS_STAGE (i : Nat) : Fld := ⟨0x0A01004 + i*0x100, 0, 3⟩
def KSL_PORT_STATUS_RATE (i : Nat) : Fld := ⟨0x0A01004 + i*0x100, 4, 2⟩
def KSL_PORT_STATUS_WIDTH (i : Nat) : Fld := ⟨0x0A01004 + i*0x100, 6, 2⟩
def KSL_PORT_STATUS_TX_PWR (i : Nat) : Fld := ⟨0x0A01004 + i*0x100, 8, 2⟩
def KSL_PORT_STATUS_RX_PWR (i : Nat) : Fld := ⟨0x0A01004 + i*0x100, 10, 2⟩
def KSL_PORT_STATUS_DATA (i : Nat) : Fld := ⟨0x0A01004 + i*0x100, 12, 1⟩
def KSL_PORT_STATUS_MISMATCH (i : Nat) : Fld := ⟨0x0A01004 + i*0x100, 13, 1⟩
def KSL_PORT_STATUS_REVERSED (i : Nat) : Fld := ⟨0x0A01004 + i*0x100, 14, 1⟩
def KSL_PORT_STATUS_STARVE (i : Nat) : Fld := ⟨0x0A01004 + i*0x100, 15, 1⟩
def KSL_PORT_STATUS_PARTNER_DEV (i : Nat) : Fld := ⟨0x0A01004 + i*0x100, 16, 3⟩
def KSL_PORT_STATUS_PARTNER_MASTER (i : Nat) : Fld := ⟨0x0A01004 + i*0x100, 19, 1⟩
def KSL_PORT_STATUS_EXCLUDED (i : Nat) : Fld := ⟨0x0A01004 + i*0x100, 24, 3⟩
def KSL_PORT_POWER (i : Nat) : Fld := ⟨0x0A01008 + i*0x100, 0, 32⟩
def KSL_PORT_POWER_TX_FORCE (i : Nat) : Fld := ⟨0x0A01008 + i*0x100, 0, 2⟩
def KSL_PORT_POWER_RX_FORCE (i : Nat) : Fld := ⟨0x0A01008 + i*0x100, 2, 2⟩
def KSL_PORT_CNT0 (i : Nat) : Fld := ⟨0x0A0100C + i*0x100, 0, 32⟩
def KSL_PORT_CNT0_CRC_ERR (i : Nat) : Fld := ⟨0x0A0100C + i*0x100, 0, 16⟩
def KSL_PORT_CNT0_FRAME_ERR (i : Nat) : Fld := ⟨0x0A0100C + i*0x100, 16, 16⟩
def KSL_PORT_CNT1 (i : Nat) : Fld := ⟨0x0A01010 + i*0x100, 0, 32⟩
def KSL_PORT_CNT1_REPLAY_CNT (i : Nat) : Fld := ⟨0x0A01010 + i*0x100, 0, 16⟩
def KSL_PORT_CNT1_DOWN_CNT (i : Nat) : Fld := ⟨0x0A01010 + i*0x100, 16, 16⟩
def KSL_PORT_TX_BYTES (i : Nat) : Fld := ⟨0x0A01018 + i*0x100, 0, 64⟩
def KSL_PORT_RX_BYTES (i : Nat) : Fld := ⟨0x0A01020 + i*0x100, 0, 64⟩
def KSL_LANE_CFG (i : Nat) : Fld := ⟨0x0A04000 + i*0x20, 0, 32⟩
def KSL_LANE_CFG_CTLE_MODE (i : Nat) : Fld := ⟨0x0A04000 + i*0x20, 0, 1⟩
def KSL_LANE_CFG_CTLE_CODE (i : Nat) : Fld := ⟨0x0A04000 + i*0x20, 1, 5⟩
def KSL_LANE_CFG_ALIGN (i : Nat) : Fld := ⟨0x0A04000 + i*0x20, 6, 1⟩
def KSL_LANE_CFG_INVERT (i : Nat) : Fld := ⟨0x0A04000 + i*0x20, 7, 1⟩
def KSL_LANE_CFG_BITSLIP (i : Nat) : Fld := ⟨0x0A04000 + i*0x20, 8, 1⟩
def KSL_LANE_CFG_TX_PRESET (i : Nat) : Fld := ⟨0x0A04000 + i*0x20, 9, 4⟩
def KSL_LANE_STATUS (i : Nat) : Fld := ⟨0x0A04004 + i*0x20, 0, 32⟩
def KSL_LANE_STATUS_SIGNAL (i : Nat) : Fld := ⟨0x0A04004 + i*0x20, 0, 1⟩
def KSL_LANE_STATUS_BIT_LOCK (i : Nat) : Fld := ⟨0x0A04004 + i*0x20, 1, 1⟩
def KSL_LANE_STATUS_BLOCK_LOCK (i : Nat) : Fld := ⟨0x0A04004 + i*0x20, 2, 1⟩
def KSL_LANE_STATUS_IN_USE (i : Nat) : Fld := ⟨0x0A04004 + i*0x20, 3, 1⟩
def KSL_LANE_STATUS_PRESET (i : Nat) : Fld := ⟨0x0A04004 + i*0x20, 4, 4⟩
def KSL_LANE_STATUS_PRE (i : Nat) : Fld := ⟨0x0A04004 + i*0x20, 8, 5⟩
def KSL_LANE_STATUS_POST (i : Nat) : Fld := ⟨0x0A04004 + i*0x20, 16, 5⟩
def KSL_LANE_STATUS_CTLE (i : Nat) : Fld := ⟨0x0A04004 + i*0x20, 24, 5⟩
def KSL_LANE_EVENTS (i : Nat) : Fld := ⟨0x0A04008 + i*0x20, 0, 32⟩
def KSL_LANE_EVENTS_LOS (i : Nat) : Fld := ⟨0x0A04008 + i*0x20, 0, 1⟩
def KSL_LANE_EVENTS_LOL (i : Nat) : Fld := ⟨0x0A04008 + i*0x20, 1, 1⟩
def KSL_LANE_EVENTS_BITSLIP_IGNORED (i : Nat) : Fld := ⟨0x0A04008 + i*0x20, 2, 1⟩
def KSL_LANE_ERR_CNT (i : Nat) : Fld := ⟨0x0A0400C + i*0x20, 0, 32⟩
def KSL_LANE_ERR_CNT_CODE_ERR (i : Nat) : Fld := ⟨0x0A0400C + i*0x20, 0, 16⟩
def KSL_LANE_ERR_CNT_LOL_CNT (i : Nat) : Fld := ⟨0x0A0400C + i*0x20, 16, 16⟩
def KSL_LANE_EYE (i : Nat) : Fld := ⟨0x0A04010 + i*0x20, 0, 32⟩
def KSL_LANE_EYE_EYE_W (i : Nat) : Fld := ⟨0x0A04010 + i*0x20, 0, 16⟩
def KSL_LANE_EYE_EYE_H (i : Nat) : Fld := ⟨0x0A04010 + i*0x20, 16, 16⟩
def KSL_LANE_SLIP (i : Nat) : Fld := ⟨0x0A04014 + i*0x20, 0, 32⟩
def KSL_LANE_SLIP_PENDING (i : Nat) : Fld := ⟨0x0A04014 + i*0x20, 0, 6⟩
def KSL_LANE_SLIP_SLIPS (i : Nat) : Fld := ⟨0x0A04014 + i*0x20, 16, 16⟩
def SVC_STATUS : Fld := ⟨0x0C00000, 0, 32⟩
def SVC_STATUS_SESSION : Fld := ⟨0x0C00000, 0, 2⟩
def SVC_STATUS_LINK_UP : Fld := ⟨0x0C00000, 2, 1⟩
def SVC_STATUS_UPD_STATE : Fld := ⟨0x0C00000, 4, 3⟩
def SVC_STATUS_TARGET : Fld := ⟨0x0C00000, 8, 2⟩
def SVC_STATUS_SLOT_A : Fld := ⟨0x0C00000, 12, 2⟩
def SVC_STATUS_SLOT_B : Fld := ⟨0x0C00000, 14, 2⟩
def SVC_STATUS_TRIAL : Fld := ⟨0x0C00000, 16, 1⟩
def SVC_STATUS_KEY_SET : Fld := ⟨0x0C00000, 17, 1⟩
def SVC_EVENTS : Fld := ⟨0x0C00004, 0, 32⟩
def SVC_EVENTS_SESSION_OPEN : Fld := ⟨0x0C00004, 0, 1⟩
def SVC_EVENTS_SESSION_CLOSED : Fld := ⟨0x0C00004, 1, 1⟩
def SVC_EVENTS_AUTH_FAIL : Fld := ⟨0x0C00004, 2, 1⟩
def SVC_EVENTS_VERIFIED : Fld := ⟨0x0C00004, 3, 1⟩
def SVC_EVENTS_FLASH_FAIL : Fld := ⟨0x0C00004, 4, 1⟩
def SVC_EVENTS_FALLBACK : Fld := ⟨0x0C00004, 5, 1⟩
def SVC_EVENT_MASK : Fld := ⟨0x0C00008, 0, 6⟩
def SVC_LAST_ERR : Fld := ⟨0x0C0000C, 0, 16⟩
def SVC_TRIAL_LEFT_S : Fld := ⟨0x0C00010, 0, 16⟩
def SVC_BLOCKS_DONE : Fld := ⟨0x0C00014, 0, 9⟩
def SVC_IP : Fld := ⟨0x0C00020, 0, 32⟩
def SVC_AUTH_FAIL_CNT : Fld := ⟨0x0C00024, 0, 16⟩
def TST_ROT_CTRL : Fld := ⟨0x0D00000, 0, 32⟩
def TST_ROT_CTRL_ROTATE_EN : Fld := ⟨0x0D00000, 0, 1⟩
def TST_ROT_CTRL_ROTATE_PERIOD : Fld := ⟨0x0D00000, 8, 16⟩
def TST_ROT_STATUS : Fld := ⟨0x0D00004, 0, 32⟩
def TST_ROT_STATUS_PHASE : Fld := ⟨0x0D00004, 0, 3⟩
def TST_ROT_STATUS_ROLE : Fld := ⟨0x0D00004, 4, 4⟩
def TST_ROT_STATUS_SPARE : Fld := ⟨0x0D00004, 8, 5⟩
def TST_ROT_STATUS_SPARE_READY : Fld := ⟨0x0D00004, 13, 1⟩
def TST_ROT_STATUS_SOURCE : Fld := ⟨0x0D00004, 16, 5⟩
def TST_ROLE_MAP (i : Nat) : Fld := ⟨0x0D00010 + i*0x4, 0, 32⟩
def TST_ROLE_MAP_STRIPE0 (i : Nat) : Fld := ⟨0x0D00010 + i*0x4, 0, 5⟩
def TST_ROLE_MAP_STRIPE1 (i : Nat) : Fld := ⟨0x0D00010 + i*0x4, 8, 5⟩
def TST_ROLE_MAP_STRIPE2 (i : Nat) : Fld := ⟨0x0D00010 + i*0x4, 16, 5⟩
def TST_ROLE_MAP_STRIPE3 (i : Nat) : Fld := ⟨0x0D00010 + i*0x4, 24, 5⟩
def TST_STALL_US : Fld := ⟨0x0D00020, 0, 16⟩
def TST_ROT_CNT : Fld := ⟨0x0D00024, 0, 32⟩
def TST_EVENTS : Fld := ⟨0x0D00030, 0, 32⟩
def TST_EVENTS_SWITCHED : Fld := ⟨0x0D00030, 0, 1⟩
def TST_EVENTS_MIRROR_DIVERGE : Fld := ⟨0x0D00030, 1, 1⟩
def TST_EVENTS_STRIPE_SUSPECT : Fld := ⟨0x0D00030, 2, 1⟩
def TST_EVENTS_SELFTEST_FAIL : Fld := ⟨0x0D00030, 3, 1⟩
def TST_EVENTS_STRIPE_FAIL : Fld := ⟨0x0D00030, 4, 1⟩
def TST_EVENTS_NO_SPARE : Fld := ⟨0x0D00030, 5, 1⟩
def TST_EVENTS_DRAM_TEST_FAIL : Fld := ⟨0x0D00030, 6, 1⟩
def TST_EVENTS_EYE_LOW : Fld := ⟨0x0D00030, 7, 1⟩
def TST_EVENTS_LOCKED : Fld := ⟨0x0D00030, 8, 1⟩
def TST_EVENTS_TOKEN_BAD : Fld := ⟨0x0D00030, 9, 1⟩
def TST_EVENTS_JTAG_REFUSED : Fld := ⟨0x0D00030, 10, 1⟩
def TST_EVENT_MASK : Fld := ⟨0x0D00034, 0, 11⟩
def TST_LAST_ERR : Fld := ⟨0x0D00038, 0, 32⟩
def TST_LAST_ERR_CODE : Fld := ⟨0x0D00038, 0, 16⟩
def TST_LAST_ERR_STRIPE : Fld := ⟨0x0D00038, 16, 5⟩
def TST_STRIPE_STATE (i : Nat) : Fld := ⟨0x0D00100 + i*0x8, 0, 32⟩
def TST_STRIPE_STATE_STATE (i : Nat) : Fld := ⟨0x0D00100 + i*0x8, 0, 3⟩
def TST_STRIPE_STATE_FAIL_UNIT (i : Nat) : Fld := ⟨0x0D00100 + i*0x8, 8, 4⟩
def TST_STRIPE_STATE_DIVERGE_CNT (i : Nat) : Fld := ⟨0x0D00100 + i*0x8, 16, 4⟩
def TST_STRIPE_STATE_CE_CNT (i : Nat) : Fld := ⟨0x0D00100 + i*0x8, 20, 4⟩
def TST_UCODE_SEQ (i : Nat) : Fld := ⟨0x0D00104 + i*0x8, 0, 32⟩
def TST_DRT_BASE : Fld := ⟨0x0D00200, 0, 64⟩
def TST_DRT_SIZE : Fld := ⟨0x0D00208, 0, 32⟩
def TST_DRT_CFG : Fld := ⟨0x0D0020C, 0, 1⟩
def TST_DRT_STATUS : Fld := ⟨0x0D00210, 0, 32⟩
def TST_DRT_STATUS_SWEEP : Fld := ⟨0x0D00210, 0, 16⟩
def TST_DRT_STATUS_BLOCK : Fld := ⟨0x0D00210, 16, 16⟩
def TST_DRT_ERR_CNT : Fld := ⟨0x0D00214, 0, 32⟩
def TST_DRT_FAIL_ADDR : Fld := ⟨0x0D00218, 0, 64⟩
def TST_EYE_LIMIT : Fld := ⟨0x0D00300, 0, 32⟩
def TST_EYE_LIMIT_EYE_W_MIN : Fld := ⟨0x0D00300, 0, 8⟩
def TST_EYE_LIMIT_EYE_H_MIN : Fld := ⟨0x0D00300, 16, 8⟩
def TST_EYE_LOW_MAP (i : Nat) : Fld := ⟨0x0D00310 + i*0x4, 0, 32⟩
def TST_TMUX_CTRL : Fld := ⟨0x0D00400, 0, 32⟩
def TST_TMUX_CTRL_ENABLE : Fld := ⟨0x0D00400, 0, 1⟩
def TST_TMUX_CTRL_BYTE : Fld := ⟨0x0D00400, 4, 3⟩
def TST_TMUX_CTRL_STB_DIV : Fld := ⟨0x0D00400, 8, 9⟩
def TST_TMUX_SEL : Fld := ⟨0x0D00404, 0, 32⟩
def TST_TMUX_SEL_GROUP : Fld := ⟨0x0D00404, 0, 3⟩
def TST_TMUX_SEL_INDEX : Fld := ⟨0x0D00404, 16, 10⟩
def TST_TMUX_ADDR : Fld := ⟨0x0D00408, 0, 32⟩
def TST_DBG_NONCE (i : Nat) : Fld := ⟨0x0D00500 + i*0x4, 0, 32⟩
def TST_UID : Fld := ⟨0x0D00510, 0, 64⟩
def TST_DBG_TOKEN (i : Nat) : Fld := ⟨0x0D00600 + i*0x4, 0, 32⟩
def TST_DBG_STATUS : Fld := ⟨0x0D006A0, 0, 32⟩
def TST_DBG_STATUS_UNLOCKED : Fld := ⟨0x0D006A0, 0, 1⟩
def TST_DBG_STATUS_RIGHTS : Fld := ⟨0x0D006A0, 16, 2⟩
def TST_DBG_LOCK : Fld := ⟨0x0D006A4, 0, 1⟩

end R

/-- One row of the register tables: `n1` × `n2` words at strides `s1`, `s2`; the bits reset to, and the bits of each
access code (R17).  `clr` are the counter bits that a write of any value clears, `comp` the read-only bits computed from
shadow values (R18), and `live64` marks a word of a 64-bit register whose fields are all read only (R16). -/
structure RegDesc where
  base : Nat
  n1 : Nat
  s1 : Nat
  n2 : Nat
  s2 : Nat
  reset : Nat
  rw : Nat
  rws : Nat
  w1c : Nat
  wo : Nat
  clr : Nat
  comp : Nat
  live64 : Bool
  deriving DecidableEq, Repr

/-- Register words of block POS, part 1. -/
def descPOS0 : List RegDesc := [
  ⟨0x0100000, 1, 0, 1, 0, 0, 0, 0x31F, 0, 0, 0, 0, false⟩,
  ⟨0x0100004, 1, 0, 1, 0, 1, 0, 0, 0, 0, 0, 0, false⟩,
  ⟨0x0100008, 1, 0, 1, 0, 0, 0, 0, 0xFFFFFF, 0, 0, 0, false⟩,
  ⟨0x010000C, 1, 0, 1, 0, 0, 0xFFFFFF, 0, 0, 0, 0, 0, false⟩,
  ⟨0x0100010, 1, 0, 1, 0, 0x1000000, 0, 0xFFFFFFFF, 0, 0, 0, 0, false⟩,
  ⟨0x0100014, 1, 0, 1, 0, 0, 0, 0xFFFF, 0, 0, 0, 0, false⟩,
  ⟨0x0100018, 1, 0, 1, 0, 0, 0xFFFFFFFF, 0, 0, 0, 0, 0, false⟩,
  ⟨0x010001C, 1, 0, 1, 0, 0, 0xFFFFFFFF, 0, 0, 0, 0, 0, false⟩,
  ⟨0x0100020, 1, 0, 1, 0, 0, 0, 0, 0, 0, 0, 0, true⟩,
  ⟨0x0100024, 1, 0, 1, 0, 0, 0, 0, 0, 0, 0, 0, true⟩,
  ⟨0x0100028, 1, 0, 1, 0, 0, 0, 0, 0, 0, 0, 0, true⟩,
  ⟨0x010002C, 1, 0, 1, 0, 0, 0, 0, 0, 0, 0, 0, true⟩,
  ⟨0x0100030, 1, 0, 1, 0, 0, 0, 0, 0, 0, 0, 0, true⟩,
  ⟨0x0100034, 1, 0, 1, 0, 0, 0, 0, 0, 0, 0, 0, true⟩,
  ⟨0x0100038, 1, 0, 1, 0, 0, 0, 0, 0, 0, 0, 0, false⟩,
  ⟨0x010003C, 1, 0, 1, 0, 0x27104, 0xFFFFFF, 0, 0, 0, 0, 0, false⟩,
  ⟨0x0100040, 1, 0, 1, 0, 0x1000, 0xFFFFFFFF, 0, 0, 0, 0, 0, false⟩,
  ⟨0x0100044, 1, 0, 1, 0, 0x3E80, 0xFFFFFFFF, 0, 0, 0, 0, 0, false⟩,
  ⟨0x0100048, 1, 0, 1, 0, 0x27100, 0xFFFFFFFF, 0, 0, 0, 0, 0, false⟩,
  ⟨0x010004C, 1, 0, 1, 0, 0xC3500, 0xFFFFFFFF, 0, 0, 0, 0, 0, false⟩,
  ⟨0x0100050, 1, 0, 1, 0, 0x190, 0, 0xFFFFFFFF, 0, 0, 0, 0, false⟩,
  ⟨0x0100054, 1, 0, 1, 0, 0xB, 0x1F, 0, 0, 0, 0, 0, false⟩,
  ⟨0x0100058, 1, 0, 1, 0, 0, 0, 0, 0, 0, 0, 0, true⟩,
  ⟨0x010005C, 1, 0, 1, 0, 0, 0, 0, 0, 0, 0, 0, true⟩]
/-- Register words of block POS, part 2. -/
def descPOS1 : List RegDesc := [
  ⟨0x0100060, 1, 0, 1, 0, 0, 0, 0, 0, 0, 0, 0, true⟩,
  ⟨0x0100064, 1, 0, 1, 0, 0, 0, 0, 0, 0, 0, 0, true⟩,
  ⟨0x0100068, 1, 0, 1, 0, 0, 0, 0, 0, 0, 0, 0, true⟩,
  ⟨0x010006C, 1, 0, 1, 0, 0, 0, 0, 0, 0, 0, 0, true⟩,
  ⟨0x0100070, 1, 0, 1, 0, 0x3E8, 0xFFFF, 0, 0, 0, 0, 0, false⟩,
  ⟨0x0100074, 1, 0, 1, 0, 0, 0, 0, 0, 0, 0, 0, false⟩,
  ⟨0x0100078, 1, 0, 1, 0, 0, 0, 0, 0, 0, 0, 0, false⟩,
  ⟨0x0101000, 4, 0x40, 1, 0, 0, 0, 0x7F1F, 0, 0x10000, 0, 0, false⟩,
  ⟨0x0101008, 4, 0x40, 1, 0, 0, 0, 0xFFFFFFFF, 0, 0, 0, 0, false⟩,
  ⟨0x010100C, 4, 0x40, 1, 0, 1, 0, 0xFFFFFFFF, 0, 0, 0, 0, false⟩,
  ⟨0x0101010, 4, 0x40, 1, 0, 0, 0, 0, 0, 0, 0, 0, true⟩,
  ⟨0x0101014, 4, 0x40, 1, 0, 0, 0, 0, 0, 0, 0, 0, true⟩,
  ⟨0x0101018, 4, 0x40, 1, 0, 0, 0xFFFFFFFF, 0, 0, 0, 0, 0, false⟩,
  ⟨0x010101C, 4, 0x40, 1, 0, 4, 0xFFFFFFFF, 0, 0, 0, 0, 0, false⟩,
  ⟨0x0101020, 4, 0x40, 1, 0, 0, 0, 0, 0, 0, 0xFFFFFFFF, 0, false⟩,
  ⟨0x0101024, 4, 0x40, 1, 0, 0, 0, 0, 0, 0, 0, 0, false⟩,
  ⟨0x0102000, 48, 0x20, 1, 0, 0, 0, 1, 0, 0x80000000, 0, 0, false⟩,
  ⟨0x0102004, 48, 0x20, 1, 0, 0x190, 0, 0xFFFFFFFF, 0, 0, 0, 0, false⟩,
  ⟨0x0102008, 48, 0x20, 1, 0, 0, 0, 0xFFFFFFFF, 0, 0, 0, 0, false⟩,
  ⟨0x010200C, 48, 0x20, 1, 0, 0, 0, 0xFFFFFFFF, 0, 0, 0, 0, false⟩,
  ⟨0x0102010, 48, 0x20, 1, 0, 0, 0, 0xFFFFFFFF, 0, 0, 0, 0, false⟩,
  ⟨0x0102014, 48, 0x20, 1, 0, 0x3E8, 0, 0xFFFFFFFF, 0, 0, 0, 0, false⟩,
  ⟨0x0102018, 48, 0x20, 1, 0, 0, 0, 0, 0, 0, 0, 0, false⟩,
  ⟨0x010201C, 48, 0x20, 1, 0, 0, 0, 0, 0, 0, 0, 0, false⟩]
/-- Register words of block POS, part 3. -/
def descPOS2 : List RegDesc := [
  ⟨0x0104000, 256, 0x20, 1, 0, 0, 0xFFFFFFFF, 0, 0, 0, 0, 0, false⟩,
  ⟨0x0104004, 256, 0x20, 1, 0, 0, 0xFFFFFFFF, 0, 0, 0, 0, 0, false⟩,
  ⟨0x0104008, 256, 0x20, 1, 0, 0, 0xFFFFFFFF, 0, 0, 0, 0, 0, false⟩,
  ⟨0x010400C, 256, 0x20, 1, 0, 0, 0xFFFFFFFF, 0, 0, 0, 0, 0, false⟩,
  ⟨0x0104010, 256, 0x20, 1, 0, 0, 3, 0, 0, 0, 0, 0, false⟩,
  ⟨0x0104014, 256, 0x20, 1, 0, 0, 0, 0, 3, 0, 0, 0, false⟩]
def descPOS : List RegDesc := descPOS0 ++ descPOS1 ++ descPOS2
/-- Register words of block CAM, part 1. -/
def descCAM0 : List RegDesc := [
  ⟨0x0200000, 16, 0x10000, 1, 0, 0x200, 0, 0xF7F, 0, 0x1000, 0, 0, false⟩,
  ⟨0x0200004, 16, 0x10000, 1, 0, 0, 0, 0, 0, 0, 0, 0, false⟩,
  ⟨0x0200008, 16, 0x10000, 1, 0, 0, 0, 0, 0x1FFF, 0, 0, 0, false⟩,
  ⟨0x020000C, 16, 0x10000, 1, 0, 0, 0x1FFF, 0, 0, 0, 0, 0, false⟩,
  ⟨0x0200010, 16, 0x10000, 1, 0, 0, 0, 0xBFBFBFBF, 0, 0, 0, 0, false⟩,
  ⟨0x0200014, 16, 0x10000, 1, 0, 0, 0, 0xBFBFBFBF, 0, 0, 0, 0, false⟩,
  ⟨0x0200018, 16, 0x10000, 1, 0, 0x4000, 0, 0x1FFFF, 0, 0, 0, 0, false⟩,
  ⟨0x020001C, 16, 0x10000, 1, 0, 0, 0, 0xFFFFFFFF, 0, 0, 0, 0, false⟩,
  ⟨0x0200020, 16, 0x10000, 1, 0, 0x3E8, 0, 0xFFFFFFFF, 0, 0, 0, 0, false⟩,
  ⟨0x0200024, 16, 0x10000, 1, 0, 0, 0, 0xFFFFFFFF, 0, 0, 0, 0, false⟩,
  ⟨0x0200028, 16, 0x10000, 1, 0, 0x1F4, 0, 0, 0, 0, 0, 0xFFFFFFFF, false⟩,
  ⟨0x020002C, 16, 0x10000, 1, 0, 0, 0, 0xFFFFFFFF, 0, 0, 0, 0, false⟩,
  ⟨0x0200030, 16, 0x10000, 1, 0, 0xF4240, 0, 0xFFFFFFFF, 0, 0, 0, 0, false⟩,
  ⟨0x0200034, 16, 0x10000, 1, 0, 0, 0, 0xFFFF, 0, 0, 0, 0, false⟩,
  ⟨0x0200038, 16, 0x10000, 1, 0, 0xF4240, 0, 0xFFFFFFFF, 0, 0, 0, 0, false⟩,
  ⟨0x020003C, 16, 0x10000, 1, 0, 0, 0, 0, 0, 0, 0, 0, false⟩,
  ⟨0x0200040, 16, 0x10000, 4, 0x10, 0, 0, 0xF3F03, 0, 0, 0, 0, false⟩,
  ⟨0x0200044, 16, 0x10000, 4, 0x10, 0, 0, 0xFFFFFFFF, 0, 0, 0, 0, false⟩,
  ⟨0x0200048, 16, 0x10000, 4, 0x10, 0, 0, 0xFFFFFFFF, 0, 0, 0, 0, false⟩,
  ⟨0x020004C, 16, 0x10000, 4, 0x10, 0, 0, 0x1FFFF, 0, 0, 0, 0, false⟩,
  ⟨0x0200080, 16, 0x10000, 1, 0, 0, 0, 0, 0, 0, 0, 0, false⟩,
  ⟨0x0200084, 16, 0x10000, 1, 0, 0, 0, 0, 0, 0, 0xFFFFFFFF, 0, false⟩,
  ⟨0x0200088, 16, 0x10000, 1, 0, 0, 0, 0, 0, 0, 0xFFFFFFFF, 0, false⟩,
  ⟨0x020008C, 16, 0x10000, 1, 0, 0, 0, 0, 0, 0, 0xFFFFFFFF, 0, false⟩]
/-- Register words of block CAM, part 2. -/
def descCAM1 : List RegDesc := [
  ⟨0x02000A0, 16, 0x10000, 1, 0, 0, 0xFFFFFFFF, 0, 0, 0, 0, 0, false⟩,
  ⟨0x02000A4, 16, 0x10000, 1, 0, 0, 0xFFFFFFFF, 0, 0, 0, 0, 0, false⟩,
  ⟨0x02000A8, 16, 0x10000, 1, 0, 0, 0x3FF, 0, 0x1000, 0x400, 0, 0, false⟩,
  ⟨0x02000AC, 16, 0x10000, 1, 0, 0x64, 0xFFFF, 0, 0, 0, 0, 0, false⟩,
  ⟨0x02000B0, 16, 0x10000, 1, 0, 0, 0, 3, 0, 0, 0, 0, false⟩,
  ⟨0x02000B4, 16, 0x10000, 1, 0, 0, 0, 0xFFFFFFFF, 0, 0, 0, 0, false⟩,
  ⟨0x0200100, 16, 0x10000, 64, 4, 0, 0xFFFFFFFF, 0, 0, 0, 0, 0, false⟩,
  ⟨0x0200200, 16, 0x10000, 32, 4, 0, 0, 0, 0, 0, 0, 0, false⟩]
def descCAM : List RegDesc := descCAM0 ++ descCAM1
/-- Register words of block CLG, part 1. -/
def descCLG0 : List RegDesc := [
  ⟨0x0300000, 4, 0x1000, 1, 0, 0x810, 0, 0x3F3FFFF7, 0, 0, 0, 0, false⟩,
  ⟨0x0300004, 4, 0x1000, 1, 0, 0, 0, 0, 0, 0, 0, 0, false⟩,
  ⟨0x0300008, 4, 0x1000, 1, 0, 0, 0, 0, 0x3FF, 0, 0, 0, false⟩,
  ⟨0x030000C, 4, 0x1000, 1, 0, 0, 0x3FF, 0, 0, 0, 0, 0, false⟩,
  ⟨0x0300018, 4, 0x1000, 1, 0, 0x4000, 0, 0x1FFFF, 0, 0, 0, 0, false⟩,
  ⟨0x030001C, 4, 0x1000, 1, 0, 0, 0, 0xFFFFFFFF, 0, 0, 0, 0, false⟩,
  ⟨0x0300020, 4, 0x1000, 1, 0, 0x3E8, 0, 0xFFFFFFFF, 0, 0, 0, 0, false⟩,
  ⟨0x0300024, 4, 0x1000, 1, 0, 0, 0, 0xFFFFFFFF, 0, 0, 0, 0, false⟩,
  ⟨0x0300028, 4, 0x1000, 1, 0, 0x1F4, 0, 0, 0, 0, 0, 0xFFFFFFFF, false⟩,
  ⟨0x030002C, 4, 0x1000, 1, 0, 0, 0, 0xFFFFFFFF, 0, 0, 0, 0, false⟩,
  ⟨0x0300030, 4, 0x1000, 1, 0, 0xF4240, 0, 0xFFFFFFFF, 0, 0, 0, 0, false⟩,
  ⟨0x0300034, 4, 0x1000, 1, 0, 0, 0, 0xFFFF, 0, 0, 0, 0, false⟩,
  ⟨0x0300038, 4, 0x1000, 1, 0, 0xF4240, 0, 0xFFFFFFFF, 0, 0, 0, 0, false⟩,
  ⟨0x030003C, 4, 0x1000, 1, 0, 0, 0, 0, 0, 0, 0, 0, false⟩,
  ⟨0x0300044, 4, 0x1000, 1, 0, 0, 0, 0xFFFFFFFF, 0, 0, 0, 0, false⟩,
  ⟨0x0300048, 4, 0x1000, 1, 0, 0, 0, 0xFFFFFFFF, 0, 0, 0, 0, false⟩,
  ⟨0x030004C, 4, 0x1000, 1, 0, 0, 0, 0x1FFFF, 0, 0, 0, 0, false⟩,
  ⟨0x0300050, 4, 0x1000, 1, 0, 0xA8, 0, 0xFF, 0, 0, 0, 0, false⟩,
  ⟨0x0300060, 4, 0x1000, 1, 0, 0x2580, 0xFFFFF, 0, 0, 0, 0, 0, false⟩,
  ⟨0x0300064, 4, 0x1000, 1, 0, 0, 0, 0, 0, 0xFF, 0, 0, false⟩,
  ⟨0x0300068, 4, 0x1000, 1, 0, 0, 0, 0, 0, 0, 0, 0, false⟩,
  ⟨0x030006C, 4, 0x1000, 1, 0, 0x1000000, 0, 0, 0, 0, 0, 0, false⟩,
  ⟨0x0300080, 4, 0x1000, 1, 0, 0, 0, 0, 0, 0, 0, 0, false⟩,
  ⟨0x0300084, 4, 0x1000, 1, 0, 0, 0, 0, 0, 0, 0xFFFFFFFF, 0, false⟩]
/-- Register words of block CLG, part 2. -/
def descCLG1 : List RegDesc := [
  ⟨0x0300088, 4, 0x1000, 1, 0, 0, 0, 0, 0, 0, 0xFFFFFFFF, 0, false⟩,
  ⟨0x030008C, 4, 0x1000, 1, 0, 0, 0, 0, 0, 0, 0xFFFFFFFF, 0, false⟩]
def descCLG : List RegDesc := descCLG0 ++ descCLG1
/-- Register words of block STR, part 1. -/
def descSTR0 : List RegDesc := [
  ⟨0x1000000, 16, 0x100000, 1, 0, 0, 0, 0x37, 0, 0, 0, 0, false⟩,
  ⟨0x1000004, 16, 0x100000, 1, 0, 0x4000, 0, 0x1FFFF, 0, 0, 0, 0, false⟩,
  ⟨0x1000008, 16, 0x100000, 1, 0, 0x493E0, 0, 0xFFFFFFFF, 0, 0, 0, 0, false⟩,
  ⟨0x100000C, 16, 0x100000, 1, 0, 0x210, 0, 0xFFFF, 0, 0, 0, 0, false⟩,
  ⟨0x1000010, 16, 0x100000, 1, 0, 0, 0, 0xFFFF, 0, 0, 0, 0, false⟩,
  ⟨0x1000014, 16, 0x100000, 1, 0, 0, 0, 0, 0, 0, 0, 0, false⟩,
  ⟨0x1000100, 16, 0x100000, 4, 0x40, 0, 0, 0x3F01, 0, 0, 0, 0, false⟩,
  ⟨0x1000104, 16, 0x100000, 4, 0x40, 0, 0, 0x7FFF, 0, 0, 0, 0, false⟩,
  ⟨0x1000108, 16, 0x100000, 4, 0x40, 0, 0, 0xFFFF, 0, 0, 0, 0, false⟩,
  ⟨0x100010C, 16, 0x100000, 4, 0x40, 0, 0, 0xFFFF, 0, 0, 0, 0, false⟩,
  ⟨0x1000110, 16, 0x100000, 4, 0x40, 0, 0, 0xFFFFFFFF, 0, 0, 0, 0, false⟩,
  ⟨0x1000114, 16, 0x100000, 4, 0x40, 0x40000000, 0, 0xFFFFFFFF, 0, 0, 0, 0, false⟩,
  ⟨0x1000118, 16, 0x100000, 4, 0x40, 0, 0, 0xFFFFFFFF, 0, 0, 0, 0, false⟩,
  ⟨0x100011C, 16, 0x100000, 4, 0x40, 0, 0, 0xFFFFFFFF, 0, 0, 0, 0, false⟩,
  ⟨0x1000120, 16, 0x100000, 4, 0x40, 0, 0, 0x1FFFF, 0, 0, 0, 0, false⟩,
  ⟨0x1000124, 16, 0x100000, 4, 0x40, 0, 0, 0xFFFFFFFF, 0, 0, 0, 0, false⟩,
  ⟨0x1000128, 16, 0x100000, 4, 0x40, 0, 0, 0xFFFF, 0, 0, 0, 0, false⟩,
  ⟨0x1000800, 17, 0x100000, 1, 0, 0, 0, 0, 0, 0, 0, 0, false⟩,
  ⟨0x1000804, 17, 0x100000, 1, 0, 0, 0, 0, 0xFF, 0, 0, 0, false⟩,
  ⟨0x1000808, 17, 0x100000, 1, 0, 0, 0xFF, 0, 0, 0, 0, 0, false⟩,
  ⟨0x1000810, 17, 0x100000, 1, 0, 0, 0, 0, 0, 0, 0xFFFFFFFF, 0, false⟩,
  ⟨0x1000814, 17, 0x100000, 1, 0, 0, 0, 0, 0, 0, 0xFFFFFFFF, 0, false⟩,
  ⟨0x1000818, 17, 0x100000, 1, 0, 0, 0, 0, 0, 0, 0, 0, true⟩,
  ⟨0x100081C, 17, 0x100000, 1, 0, 0, 0, 0, 0, 0, 0, 0, true⟩]
/-- Register words of block STR, part 2. -/
def descSTR1 : List RegDesc := [
  ⟨0x1001000, 16, 0x100000, 1, 0, 0, 0, 0x3F03F1F1, 0, 0, 0, 0, false⟩,
  ⟨0x1001004, 16, 0x100000, 1, 0, 0, 0, 0x1F1F1F1F, 0, 0, 0, 0, false⟩,
  ⟨0x1001008, 16, 0x100000, 1, 0, 0x100040, 0, 0xFFFFFFFF, 0, 0, 0, 0, false⟩,
  ⟨0x100100C, 16, 0x100000, 1, 0, 0, 0, 0, 0, 0, 0, 0, false⟩,
  ⟨0x1001010, 16, 0x100000, 1, 0, 0x80000, 0, 0, 0, 0, 0, 0xFFFFFFFF, false⟩,
  ⟨0x1001014, 16, 0x100000, 1, 0, 0, 0, 0, 0, 0, 0, 0x3FFFFF, false⟩,
  ⟨0x1001100, 16, 0x100000, 16, 0x20, 0, 0, 0x1F1F1F, 0, 0, 0, 0, false⟩,
  ⟨0x1001104, 16, 0x100000, 16, 0x20, 0, 0, 0x1FF33F3F, 0, 0, 0, 0, false⟩,
  ⟨0x1001108, 16, 0x100000, 16, 0x20, 0, 0, 0xFFFFFFFF, 0, 0, 0, 0, false⟩,
  ⟨0x100110C, 16, 0x100000, 16, 0x20, 0, 0, 0xFFFFFFFF, 0, 0, 0, 0, false⟩,
  ⟨0x1001110, 16, 0x100000, 16, 0x20, 0, 0, 0xFFFFFFFF, 0, 0, 0, 0, false⟩,
  ⟨0x1001114, 16, 0x100000, 16, 0x20, 0, 0, 0xFFFFFFFF, 0, 0, 0, 0, false⟩,
  ⟨0x1001118, 16, 0x100000, 16, 0x20, 0, 0, 0xFFFFFFFF, 0, 0, 0, 0, false⟩,
  ⟨0x100111C, 16, 0x100000, 16, 0x20, 0, 0, 0xFFFFFFFF, 0, 0, 0, 0, false⟩,
  ⟨0x1001800, 17, 0x100000, 1, 0, 0, 0, 0, 0, 0, 0, 0, false⟩,
  ⟨0x1001804, 17, 0x100000, 1, 0, 0, 0, 0, 0x1F, 0, 0, 0, false⟩,
  ⟨0x1001808, 17, 0x100000, 1, 0, 0, 0x1F, 0, 0, 0, 0, 0, false⟩,
  ⟨0x1001810, 17, 0x100000, 1, 0, 0, 0, 0, 0, 0, 0xFFFFFFFF, 0, false⟩,
  ⟨0x1001818, 17, 0x100000, 1, 0, 0, 0, 0, 0, 0, 0, 0, true⟩,
  ⟨0x100181C, 17, 0x100000, 1, 0, 0, 0, 0, 0, 0, 0, 0, true⟩,
  ⟨0x1001820, 17, 0x100000, 1, 0, 0, 0, 0, 0, 0, 0, 0, false⟩,
  ⟨0x1001824, 17, 0x100000, 1, 0, 0, 0, 0, 0, 0, 0, 0, false⟩,
  ⟨0x1002000, 16, 0x100000, 1, 0, 0, 0, 0, 0, 0, 0, 0, true⟩,
  ⟨0x1002004, 16, 0x100000, 1, 0, 0, 0, 0, 0, 0, 0, 0, true⟩]
/-- Register words of block STR, part 3. -/
def descSTR2 : List RegDesc := [
  ⟨0x1002800, 17, 0x100000, 1, 0, 0, 0, 0, 0, 0, 0, 0, false⟩,
  ⟨0x1002804, 17, 0x100000, 1, 0, 0, 0, 0, 0, 0, 0x1FFFF, 0, false⟩,
  ⟨0x1002808, 17, 0x100000, 1, 0, 0, 0, 0, 3, 0, 0, 0, false⟩,
  ⟨0x100280C, 17, 0x100000, 1, 0, 0, 3, 0, 0, 0, 0, 0, false⟩,
  ⟨0x1002810, 17, 0x100000, 1, 0, 0, 0, 0, 0, 0, 0xFFFFFFFF, 0, false⟩]
def descSTR : List RegDesc := descSTR0 ++ descSTR1 ++ descSTR2
/-- Register words of block BLV, part 1. -/
def descBLV0 : List RegDesc := [
  ⟨0x0500000, 1, 0, 1, 0, 0, 0, 3, 0, 0, 0, 0, false⟩,
  ⟨0x0500004, 1, 0, 1, 0, 0x40000, 0, 0x7FFFF, 0, 0, 0, 0, false⟩,
  ⟨0x0500008, 1, 0, 1, 0, 0, 0, 0xFFFFFFFF, 0, 0, 0, 0, false⟩,
  ⟨0x050000C, 1, 0, 1, 0, 0, 0, 0xFFFFFFFF, 0, 0, 0, 0, false⟩,
  ⟨0x0500010, 1, 0, 1, 0, 0x190, 0, 0xFFFFFFFF, 0, 0, 0, 0, false⟩,
  ⟨0x0500014, 1, 0, 1, 0, 0x20, 0, 0xFF, 0, 0, 0, 0, false⟩,
  ⟨0x0500018, 1, 0, 1, 0, 0, 0, 0xFFFF, 0, 0, 0, 0, false⟩,
  ⟨0x050001C, 1, 0, 1, 0, 0x64, 0, 0xFFFF, 0, 0, 0, 0, false⟩,
  ⟨0x0500020, 1, 0, 1, 0, 0, 0, 0xFFFFFFFF, 0, 0, 0, 0, false⟩,
  ⟨0x0500024, 1, 0, 1, 0, 0, 0, 0xFFFFFFFF, 0, 0, 0, 0, false⟩,
  ⟨0x0500028, 1, 0, 1, 0, 0, 0, 0xFFFFFFFF, 0, 0, 0, 0, false⟩,
  ⟨0x050002C, 1, 0, 1, 0, 0, 0, 0xFFFFFFFF, 0, 0, 0, 0, false⟩,
  ⟨0x0500030, 1, 0, 1, 0, 0x40000E, 0, 0xFFFF001F, 0, 0, 0, 0, false⟩,
  ⟨0x0500038, 1, 0, 1, 0, 0, 0xFFFFFFFF, 0, 0, 0, 0, 0, false⟩,
  ⟨0x050003C, 1, 0, 1, 0, 0, 0xFFFFFFFF, 0, 0, 0, 0, 0, false⟩,
  ⟨0x0500100, 4, 0x10, 1, 0, 0, 0, 0xFFFF0003, 0, 0, 0, 0, false⟩,
  ⟨0x0500104, 4, 0x10, 1, 0, 0x100, 0, 0xFFFF, 0, 0, 0, 0, false⟩,
  ⟨0x0500108, 4, 0x10, 1, 0, 0, 0, 0, 0, 0, 0, 0xFFFFFFFF, true⟩,
  ⟨0x050010C, 4, 0x10, 1, 0, 0, 0, 0, 0, 0, 0, 0xFFFFFFFF, true⟩,
  ⟨0x0501000, 16, 0x20, 1, 0, 0, 0, 0xFFFFFFFF, 0, 0, 0, 0, false⟩,
  ⟨0x0501004, 16, 0x20, 1, 0, 0, 0, 0xFFFFFFFF, 0, 0, 0, 0, false⟩,
  ⟨0x0501008, 16, 0x20, 1, 0, 0, 0, 0xFFFFFFFF, 0, 0, 0, 0, false⟩,
  ⟨0x050100C, 16, 0x20, 1, 0, 0, 0, 0x3E7CF9F, 0, 0, 0, 0, false⟩,
  ⟨0x0501010, 16, 0x20, 1, 0, 0, 0, 0, 0, 0, 0, 0, false⟩]
/-- Register words of block BLV, part 2. -/
def descBLV1 : List RegDesc := [
  ⟨0x0500800, 1, 0, 1, 0, 0, 0, 0, 0, 0, 0, 0, false⟩,
  ⟨0x0500804, 1, 0, 1, 0, 0, 0, 0, 0x3F, 0, 0, 0, false⟩,
  ⟨0x0500808, 1, 0, 1, 0, 0, 0x3F, 0, 0, 0, 0, 0, false⟩,
  ⟨0x0500810, 1, 0, 1, 0, 0, 0, 0, 0, 0, 0, 0, true⟩,
  ⟨0x0500814, 1, 0, 1, 0, 0, 0, 0, 0, 0, 0, 0, true⟩,
  ⟨0x0500818, 1, 0, 1, 0, 0, 0, 0, 0, 0, 0, 0, true⟩,
  ⟨0x050081C, 1, 0, 1, 0, 0, 0, 0, 0, 0, 0, 0, true⟩,
  ⟨0x0500820, 1, 0, 1, 0, 0, 0, 0, 0, 0, 0, 0, false⟩,
  ⟨0x0500828, 1, 0, 1, 0, 0, 0, 0, 0, 0, 0xFFFFFFFF, 0, false⟩,
  ⟨0x050082C, 1, 0, 1, 0, 0, 0, 0, 0, 0, 0xFFFFFFFF, 0, false⟩,
  ⟨0x0502000, 1, 0, 1, 0, 0x40400000, 0, 0xFFFF070F, 0, 0x1000, 0, 0, false⟩,
  ⟨0x0502008, 1, 0, 1, 0, 0, 0, 0xFFFFFFFF, 0, 0, 0, 0, false⟩,
  ⟨0x050200C, 1, 0, 1, 0, 0, 0, 0xFFFFFFFF, 0, 0, 0, 0, false⟩,
  ⟨0x0502100, 4, 0x10, 1, 0, 0x12, 0, 0xFFFF001F, 0, 0, 0, 0, false⟩,
  ⟨0x0502104, 4, 0x10, 1, 0, 0, 0, 0xFFFF, 0, 0, 0, 0, false⟩,
  ⟨0x0503000, 1, 0, 1, 0, 0, 0, 0, 0, 0, 0, 0, false⟩,
  ⟨0x0503004, 1, 0, 1, 0, 0, 0, 0, 0x1F, 0, 0, 0, false⟩,
  ⟨0x0503008, 1, 0, 1, 0, 0, 0x1F, 0, 0, 0, 0, 0, false⟩,
  ⟨0x0503010, 1, 0, 1, 0, 0, 0, 0, 0, 0, 0, 0, true⟩,
  ⟨0x0503014, 1, 0, 1, 0, 0, 0, 0, 0, 0, 0, 0, true⟩,
  ⟨0x0503018, 1, 0, 1, 0, 0, 0, 0, 0, 0, 0, 0, false⟩,
  ⟨0x050301C, 1, 0, 1, 0, 0, 0, 0, 0, 0, 0xFFFFFFFF, 0, false⟩,
  ⟨0x0503100, 4, 0x10, 1, 0, 0, 0, 0, 0, 0, 0, 0, true⟩,
  ⟨0x0503104, 4, 0x10, 1, 0, 0, 0, 0, 0, 0, 0, 0, true⟩]
/-- Register words of block BLV, part 3. -/
def descBLV2 : List RegDesc := [
  ⟨0x0503108, 4, 0x10, 1, 0, 0, 0, 0, 0, 0, 0, 0, false⟩,
  ⟨0x050310C, 4, 0x10, 1, 0, 0, 0, 0, 0, 0, 0, 0, false⟩,
  ⟨0x0504000, 1, 0, 1, 0, 0x12000, 0, 0xFFFFFF03, 0, 0, 0, 0, false⟩,
  ⟨0x0504004, 1, 0, 1, 0, 0xF42400, 0, 0xFFFFFFFF, 0, 0, 0, 0, false⟩,
  ⟨0x0504008, 1, 0, 1, 0, 0x3E80010, 0, 0xFFFFFFFF, 0, 0, 0, 0, false⟩,
  ⟨0x050400C, 1, 0, 1, 0, 0x64, 0, 0xFFFF, 0, 0, 0, 0, false⟩,
  ⟨0x0505000, 1, 0, 1, 0, 0, 0, 0, 0, 0, 0, 0, false⟩,
  ⟨0x0505004, 1, 0, 1, 0, 0, 0, 0, 0x3F, 0, 0, 0, false⟩,
  ⟨0x0505008, 1, 0, 1, 0, 0, 0x3F, 0, 0, 0, 0, 0, false⟩,
  ⟨0x0505010, 1, 0, 1, 0, 0, 0, 0, 0, 0, 0, 0, false⟩,
  ⟨0x0505014, 1, 0, 1, 0, 0, 0, 0, 0, 0, 0, 0, false⟩,
  ⟨0x0505018, 1, 0, 1, 0, 0, 0, 0, 0, 0, 0xFFFFFFFF, 0, false⟩,
  ⟨0x050501C, 1, 0, 1, 0, 0, 0, 0, 0, 0, 0, 0, false⟩,
  ⟨0x0505020, 1, 0, 1, 0, 0, 0, 0, 0, 0, 0xFFF0000, 0, false⟩]
def descBLV : List RegDesc := descBLV0 ++ descBLV1 ++ descBLV2
/-- Register words of block DCA. -/
def descDCA0 : List RegDesc := [
  ⟨0x0600000, 1, 0, 1, 0, 0, 0, 0xF, 0, 0, 0, 0, false⟩,
  ⟨0x0600004, 1, 0, 1, 0, 0x10, 0, 0x3FF, 0, 0, 0, 0, false⟩,
  ⟨0x0600008, 1, 0, 1, 0, 1, 0, 0xFFFFFFFF, 0, 0, 0, 0, false⟩,
  ⟨0x060000C, 1, 0, 1, 0, 0, 0, 0xFFFFFFFF, 0, 0, 0, 0, false⟩,
  ⟨0x0600010, 1, 0, 1, 0, 0, 0, 0x3FF, 0, 0, 0, 0, false⟩,
  ⟨0x0600014, 1, 0, 1, 0, 0, 0, 0, 0, 0, 0, 0, false⟩,
  ⟨0x0600800, 1, 0, 1, 0, 0, 0, 0, 0, 0, 0, 0, false⟩,
  ⟨0x0600804, 1, 0, 1, 0, 0, 0, 0, 0x3F, 0, 0, 0, false⟩,
  ⟨0x0600808, 1, 0, 1, 0, 0, 0x3F, 0, 0, 0, 0, 0, false⟩,
  ⟨0x0600810, 1, 0, 1, 0, 0, 0, 0, 0, 0, 0x1FFF0000, 0, false⟩,
  ⟨0x0600814, 1, 0, 1, 0, 0, 0, 0, 0, 0, 0, 0, false⟩,
  ⟨0x0600818, 1, 0, 1, 0, 0, 0, 0, 0, 0, 0xFFFFFFFF, 0, false⟩,
  ⟨0x060081C, 1, 0, 1, 0, 0, 0, 0, 0, 0, 0xFFFF, 0, false⟩,
  ⟨0x0600820, 1, 0, 1, 0, 0, 0, 0, 0, 0, 0, 0, false⟩,
  ⟨0x0600900, 2, 0x10, 1, 0, 0, 0, 0, 0, 0, 0, 0, false⟩,
  ⟨0x0600904, 2, 0x10, 1, 0, 0, 0, 0, 0, 0, 0, 0, false⟩,
  ⟨0x0600908, 2, 0x10, 1, 0, 0, 0, 0, 0, 0, 0, 0, false⟩]
def descDCA : List RegDesc := descDCA0
/-- Register words of block PLZ, part 1. -/
def descPLZ0 : List RegDesc := [
  ⟨0x0400004, 1, 0, 1, 0, 0, 0, 0, 0, 0, 0, 0, false⟩,
  ⟨0x0400010, 1, 0, 1, 0, 0, 0, 0, 0, 0xFFFF, 0, 0, false⟩,
  ⟨0x0400014, 1, 0, 1, 0, 0, 0, 0, 0, 0xFFFF, 0, 0, false⟩,
  ⟨0x0400018, 1, 0, 1, 0, 0, 0, 0, 0, 0xFFFF, 0, 0, false⟩,
  ⟨0x0400020, 1, 0, 1, 0, 0, 0, 0, 0, 0, 0, 0, true⟩,
  ⟨0x0400024, 1, 0, 1, 0, 0, 0, 0, 0, 0, 0, 0, true⟩,
  ⟨0x0400028, 1, 0, 1, 0, 0, 0, 0, 0, 0, 0, 0, true⟩,
  ⟨0x040002C, 1, 0, 1, 0, 0, 0, 0, 0, 0, 0, 0, true⟩,
  ⟨0x0400030, 1, 0, 1, 0, 0, 0, 0, 0, 0, 0, 0, true⟩,
  ⟨0x0400034, 1, 0, 1, 0, 0, 0, 0, 0, 0, 0, 0, true⟩,
  ⟨0x0400038, 1, 0, 1, 0, 0, 0, 0, 0, 0, 0, 0, true⟩,
  ⟨0x040003C, 1, 0, 1, 0, 0, 0, 0, 0, 0, 0, 0, true⟩,
  ⟨0x0400040, 1, 0, 1, 0, 0, 0, 0, 0, 0, 0, 0, false⟩,
  ⟨0x0400044, 1, 0, 1, 0, 0, 0, 0, 1, 0, 0, 0, false⟩,
  ⟨0x0400800, 1, 0, 1, 0, 0, 0, 0, 0x7F, 0, 0, 0, false⟩,
  ⟨0x0400804, 1, 0, 1, 0, 0, 0x7F, 0, 0, 0, 0, 0, false⟩,
  ⟨0x0400808, 1, 0, 1, 0, 0, 0, 0, 0, 0, 0, 0, false⟩,
  ⟨0x040080C, 1, 0, 1, 0, 0, 0, 0, 0, 0, 0xFFFFFFFF, 0, false⟩,
  ⟨0x0401000, 1024, 4, 1, 0, 0, 0, 0x83FF, 0, 0, 0, 0, false⟩,
  ⟨0x0402000, 1024, 4, 1, 0, 0, 0, 0, 0, 0, 0, 0, false⟩,
  ⟨0x0403000, 32, 4, 1, 0, 0, 0, 0, 0xFFFFFFFF, 0, 0, 0, false⟩,
  ⟨0x0404000, 256, 0x10, 1, 0, 0, 0, 0xE3FF03FF, 0, 0, 0, 0, false⟩,
  ⟨0x0404004, 256, 0x10, 1, 0, 0, 0, 0x3FF03FF, 0, 0, 0, 0, false⟩,
  ⟨0x0404008, 256, 0x10, 1, 0, 0, 0, 0, 7, 0, 0, 0, false⟩]
/-- Register words of block PLZ, part 2. -/
def descPLZ1 : List RegDesc := [
  ⟨0x040400C, 256, 0x10, 1, 0, 0, 0, 0, 0, 0, 0, 0, false⟩,
  ⟨0x0405000, 32, 0x10, 1, 0, 0, 0x1000000, 0x7F777F, 0, 0, 0, 0, false⟩,
  ⟨0x0405004, 32, 0x10, 1, 0, 0, 0, 0xFFFFFFFF, 0, 0, 0, 0, false⟩,
  ⟨0x0405008, 32, 0x10, 1, 0, 0x3E8, 0, 0xFFFFFFFF, 0, 0, 0, 0, false⟩,
  ⟨0x040500C, 32, 0x10, 1, 0, 0, 0, 0, 0, 0, 0, 0, false⟩,
  ⟨0x0406000, 16, 0x10, 1, 0, 0, 0, 3, 0, 0, 0, 0, false⟩,
  ⟨0x0406004, 16, 0x10, 1, 0, 0x3E8, 0, 0xFFFFFFFF, 0, 0, 0, 0, false⟩,
  ⟨0x0406008, 16, 0x10, 1, 0, 0, 0, 0, 0, 0, 0, 0, false⟩,
  ⟨0x0407000, 8, 0x40, 1, 0, 0x10000, 0, 0x7FFF01, 0, 0, 0, 0, false⟩,
  ⟨0x0407004, 8, 0x40, 1, 0, 0, 0, 0xFFFFFFFF, 0, 0, 0, 0, false⟩,
  ⟨0x0407008, 8, 0x40, 1, 0, 0, 0, 0xFFFFFFFF, 0, 0, 0, 0, false⟩,
  ⟨0x040700C, 8, 0x40, 1, 0, 0, 0, 0xFFFFFFFF, 0, 0, 0, 0, false⟩,
  ⟨0x0407010, 8, 0x40, 1, 0, 0, 0, 0xFFFFFFFF, 0, 0, 0, 0, false⟩,
  ⟨0x0407014, 8, 0x40, 1, 0, 0, 0, 0xFFFFFFFF, 0, 0, 0, 0, false⟩,
  ⟨0x0407018, 8, 0x40, 1, 0, 0xF4240, 0, 0xFFFFFFFF, 0, 0, 0, 0, false⟩,
  ⟨0x040701C, 8, 0x40, 1, 0, 0, 0, 0xFFFFFFFF, 0, 0, 0, 0, false⟩,
  ⟨0x0407020, 8, 0x40, 1, 0, 0, 0, 0xFFFFFFFF, 0, 0, 0, 0, false⟩,
  ⟨0x0407024, 8, 0x40, 1, 0, 0xF42400, 0, 0xFFFFFFFF, 0, 0, 0, 0, false⟩,
  ⟨0x0407028, 8, 0x40, 1, 0, 0, 0, 0xFFFFFFFF, 0, 0, 0, 0, false⟩,
  ⟨0x040702C, 8, 0x40, 1, 0, 0, 0, 0, 0, 0, 0, 0, false⟩,
  ⟨0x0407030, 8, 0x40, 1, 0, 0, 0, 0, 0, 0, 0xFFFFFFFF, 0, false⟩,
  ⟨0x0407034, 8, 0x40, 1, 0, 0, 0, 0, 0, 0, 0xFFFFFFFF, 0, false⟩,
  ⟨0x0407038, 8, 0x40, 1, 0, 0, 0, 0xFFFF, 0, 0, 0, 0, false⟩,
  ⟨0x0410000, 8, 0x800, 512, 4, 0, 0, 0xFFFFFFFF, 0, 0, 0, 0, false⟩]
def descPLZ : List RegDesc := descPLZ0 ++ descPLZ1
/-- Register words of block CAL, part 1. -/
def descCAL0 : List RegDesc := [
  ⟨0x0B00000, 1, 0, 1, 0, 0x33E, 0, 0xF3FF, 0, 0, 0, 0, false⟩,
  ⟨0x0B00004, 1, 0, 1, 0, 0x200420, 0, 0x3FFFFFF, 0, 0, 0, 0, false⟩,
  ⟨0x0B00008, 1, 0, 1, 0, 0x10400010, 0, 0xFFFFFFFF, 0, 0, 0, 0, false⟩,
  ⟨0x0B0000C, 1, 0, 1, 0, 0xCCD0666, 0, 0xFFFFFFFF, 0, 0, 0, 0, false⟩,
  ⟨0x0B00010, 1, 0, 1, 0, 0x4000200, 0, 0xFFFFFFFF, 0, 0, 0, 0, false⟩,
  ⟨0x0B00014, 1, 0, 1, 0, 0x10104020, 0, 0xFFFFFFFF, 0, 0, 0, 0, false⟩,
  ⟨0x0B00018, 1, 0, 1, 0, 0x400808, 0, 0xFF1F1F, 0, 0, 0, 0, false⟩,
  ⟨0x0B0001C, 1, 0, 1, 0, 0x1001000, 0, 0xFFFFFFFF, 0, 0, 0, 0, false⟩,
  ⟨0x0B00020, 1, 0, 1, 0, 0xE10, 0, 0xFFFFFFFF, 0, 0, 0, 0, false⟩,
  ⟨0x0B00024, 1, 0, 1, 0, 0xC0000000, 0, 0xFFFF0003, 0, 0, 0, 0, false⟩,
  ⟨0x0B00028, 1, 0, 1, 0, 0x8000400, 0, 0xFFFFFFFF, 0, 0, 0, 0, false⟩,
  ⟨0x0B0002C, 1, 0, 1, 0, 0x200, 0, 0xFFFF, 0, 0, 0, 0, false⟩,
  ⟨0x0B00800, 1, 0, 1, 0, 0, 0, 0, 0, 0, 0, 0, false⟩,
  ⟨0x0B00804, 1, 0, 1, 0, 0, 0, 0, 0x3FF, 0, 0, 0, false⟩,
  ⟨0x0B00808, 1, 0, 1, 0, 0, 0, 0, 0, 0, 0, 0, false⟩,
  ⟨0x0B0080C, 1, 0, 1, 0, 0, 0, 0, 0, 0, 0xFFFFFFFF, 0, false⟩,
  ⟨0x0B00810, 1, 0, 1, 0, 0, 0, 0, 0, 0, 0, 0, false⟩,
  ⟨0x0B00814, 1, 0, 1, 0, 0, 0, 0, 0, 0, 0, 0, false⟩,
  ⟨0x0B00818, 1, 0, 1, 0, 0, 0, 0, 0, 0, 0, 0, false⟩,
  ⟨0x0B00820, 1, 0, 1, 0, 0, 0, 0, 0, 0, 0, 0, true⟩,
  ⟨0x0B00824, 1, 0, 1, 0, 0, 0, 0, 0, 0, 0, 0, true⟩,
  ⟨0x0B01000, 16, 0x10, 1, 0, 0, 0, 0, 0, 0, 0, 0, false⟩,
  ⟨0x0B01004, 16, 0x10, 1, 0, 0, 0, 0, 0, 0, 0, 0, false⟩,
  ⟨0x0B01008, 16, 0x10, 1, 0, 0, 0, 0, 0, 0, 0, 0, false⟩]
/-- Register words of block CAL, part 2. -/
def descCAL1 : List RegDesc := [
  ⟨0x0B0100C, 16, 0x10, 1, 0, 0, 0, 0, 0, 0, 0, 0, false⟩]
def descCAL : List RegDesc := descCAL0 ++ descCAL1
/-- Register words of block GAL, part 1. -/
def descGAL0 : List RegDesc := [
  ⟨0x0700000, 1, 0, 1, 0, 0x320, 0x333, 0, 0, 4, 0, 0, false⟩,
  ⟨0x0700004, 1, 0, 1, 0, 0, 0, 0, 0, 0, 0, 0, false⟩,
  ⟨0x0700008, 1, 0, 1, 0, 0, 0, 0, 0xFF, 0, 0, 0, false⟩,
  ⟨0x070000C, 1, 0, 1, 0, 0, 0xFF, 0, 0, 0, 0, 0, false⟩,
  ⟨0x0700010, 1, 0, 1, 0, 0, 0, 0, 0, 0, 0xFFFFFFFF, 0, false⟩,
  ⟨0x0700014, 1, 0, 1, 0, 0, 0, 0, 0, 0, 0xFFFFFFFF, 0, false⟩,
  ⟨0x0700020, 1, 0, 1, 0, 0, 0xFFFFFFFF, 0, 0, 0, 0, 0, false⟩,
  ⟨0x0700024, 1, 0, 1, 0, 0, 0xFFFFFFFF, 0, 0, 0, 0, 0, false⟩,
  ⟨0x0700028, 1, 0, 1, 0, 0, 0xFFFFFFFF, 0, 0, 0, 0, 0, false⟩,
  ⟨0x070002C, 1, 0, 1, 0, 0, 0xFFFFFFFF, 0, 0, 0, 0, 0, false⟩,
  ⟨0x0700030, 1, 0, 1, 0, 0, 0xFFFFF, 0, 0, 0, 0, 0, false⟩,
  ⟨0x0700040, 1, 0, 1, 0, 0, 0, 0, 0, 0, 0, 0, false⟩,
  ⟨0x0700044, 1, 0, 1, 0, 0, 0, 0, 0, 0, 0, 0, false⟩,
  ⟨0x0700048, 1, 0, 1, 0, 0, 0, 0, 0, 0, 0, 0, false⟩,
  ⟨0x070004C, 1, 0, 1, 0, 0, 0, 0, 0, 0, 0, 0, false⟩,
  ⟨0x0700050, 1, 0, 1, 0, 0, 0, 0, 0, 0, 0, 0, false⟩,
  ⟨0x0700100, 1, 0, 1, 0, 0, 0xFFFFFFFF, 0, 0, 0, 0, 0, false⟩,
  ⟨0x0700104, 1, 0, 1, 0, 0, 0xFFFFFFFF, 0, 0, 0, 0, 0, false⟩,
  ⟨0x0700108, 1, 0, 1, 0, 0, 0xFFFFFF, 0, 0, 0, 0, 0, false⟩,
  ⟨0x070010C, 1, 0, 1, 0, 0, 0xFFFFFF, 0, 0, 0, 0, 0, false⟩,
  ⟨0x0700110, 1, 0, 1, 0, 0x101, 0xFFFF, 0, 0, 0, 0, 0, false⟩,
  ⟨0x0700114, 1, 0, 1, 0, 0x4380780, 0xFFFFFFFF, 0, 0, 0, 0, 0, false⟩,
  ⟨0x0701000, 10, 0x40, 1, 0, 0, 0x3FFFF, 0, 0, 0, 0, 0, false⟩,
  ⟨0x0701004, 10, 0x40, 1, 0, 0, 0xFFFFFFFF, 0, 0, 0, 0, 0, false⟩]
/-- Register words of block GAL, part 2. -/
def descGAL1 : List RegDesc := [
  ⟨0x0701008, 10, 0x40, 1, 0, 0, 0xFFFFFFFF, 0, 0, 0, 0, 0, false⟩,
  ⟨0x070100C, 10, 0x40, 1, 0, 0, 0x3FFFF, 0, 0, 0, 0, 0, false⟩,
  ⟨0x0701010, 10, 0x40, 1, 0, 0, 0x3FFFF, 0, 0, 0, 0, 0, false⟩,
  ⟨0x0701014, 10, 0x40, 1, 0, 0, 0x7FFFF, 0, 0, 0, 0, 0, false⟩,
  ⟨0x0701018, 10, 0x40, 1, 0, 0, 0xFFFFFFFF, 0, 0, 0, 0, 0, false⟩,
  ⟨0x070105C, 1, 0, 1, 0, 0, 0xFFFFFFFF, 0, 0, 0, 0, 0, false⟩,
  ⟨0x0701060, 1, 0, 1, 0, 0, 0x1FFFFFF, 0, 0, 0, 0, 0, false⟩,
  ⟨0x0702000, 64, 4, 1, 0, 0, 0xFFFFFF, 0, 0, 0, 0, 0, false⟩,
  ⟨0x0703000, 128, 4, 1, 0, 0, 0, 0, 0, 0, 0, 0, false⟩]
def descGAL : List RegDesc := descGAL0 ++ descGAL1
/-- Register words of block QUE. -/
def descQUE0 : List RegDesc := [
  ⟨0x2800000, 16384, 0x40, 1, 0, 0, 0xFFFFFFFF, 0, 0, 0, 0, 0, false⟩,
  ⟨0x2800004, 16384, 0x40, 1, 0, 0, 0xFFFFFFFF, 0, 0, 0, 0, 0, false⟩,
  ⟨0x2800008, 16384, 0x40, 1, 0, 0, 0xFFFFFFFF, 0, 0, 0, 0, 0, false⟩,
  ⟨0x280000C, 16384, 0x40, 1, 0, 0, 0xFFFFFFFF, 0, 0, 0, 0, 0, false⟩,
  ⟨0x2800010, 16384, 0x40, 1, 0, 0, 0x3FFF01F1, 0, 0, 0, 0, 0, false⟩,
  ⟨0x2800014, 16384, 0x40, 1, 0, 0, 0x7FF03F1, 0, 0, 0, 0, 0, false⟩,
  ⟨0x2800018, 16384, 0x40, 1, 0, 0, 0xFFFF00FF, 0, 0, 0, 0, 0, false⟩,
  ⟨0x280001C, 16384, 0x40, 1, 0, 0, 0xFF3F, 0, 0, 0, 0, 0, false⟩,
  ⟨0x2800020, 16384, 0x40, 1, 0, 0, 0, 0, 0, 0, 0, 0, false⟩,
  ⟨0x2800024, 16384, 0x40, 1, 0, 0, 0, 0, 0, 0, 0, 0, false⟩,
  ⟨0x2800028, 16384, 0x40, 1, 0, 0, 0, 0, 0, 0, 0, 0, false⟩,
  ⟨0x280002C, 16384, 0x40, 1, 0, 0, 0, 0, 0, 0, 0, 0, false⟩]
def descQUE : List RegDesc := descQUE0
/-- Register words of block GLB, part 1. -/
def descGLB0 : List RegDesc := [
  ⟨0x0000000, 1, 0, 1, 0, 0, 0, 0, 0, 0, 0, 0, false⟩,
  ⟨0x0000004, 1, 0, 1, 0, 0xF0, 0, 0, 0, 0, 0, 0, false⟩,
  ⟨0x0000008, 1, 0, 1, 0, 0, 0, 0, 0, 0xF, 0, 0, false⟩,
  ⟨0x0000010, 1, 0, 1, 0, 0xBB80002, 0, 0xFFFF0033, 0, 0, 0, 0, false⟩,
  ⟨0x0000014, 1, 0, 1, 0, 0x400, 0, 0xFFFF, 0, 0, 0, 0, false⟩,
  ⟨0x0000100, 1, 0, 1, 0, 0, 0, 0, 0, 0x1F, 0, 0, false⟩,
  ⟨0x0000104, 1, 0, 1, 0, 0, 0, 0, 0, 0x1F, 0, 0, false⟩,
  ⟨0x0000108, 1, 0, 1, 0, 0, 0, 0, 0, 0x1F, 0, 0, false⟩,
  ⟨0x0000110, 1, 0, 1, 0, 0x10040000, 0, 0, 0, 0, 0, 0, false⟩,
  ⟨0x0000118, 1, 0, 1, 0, 0, 0, 0, 0, 0, 0, 0, true⟩,
  ⟨0x000011C, 1, 0, 1, 0, 0, 0, 0, 0, 0, 0, 0, true⟩,
  ⟨0x0000120, 1, 0, 1, 0, 0, 0, 0, 0, 1, 0, 0, false⟩,
  ⟨0x0000128, 1, 0, 1, 0, 0, 0xFFFFFFFF, 0, 0, 0, 0, 0, false⟩,
  ⟨0x000012C, 1, 0, 1, 0, 0, 0xFFFFFFFF, 0, 0, 0, 0, 0, false⟩,
  ⟨0x0000130, 1, 0, 1, 0, 0x10040000, 0, 0, 0, 0, 0, 0, false⟩,
  ⟨0x0000138, 1, 0, 1, 0, 0, 0, 0, 0, 0, 0, 0, true⟩,
  ⟨0x000013C, 1, 0, 1, 0, 0, 0, 0, 0, 0, 0, 0, true⟩,
  ⟨0x0000140, 1, 0, 1, 0, 0, 0, 0, 0, 0, 0, 0, false⟩,
  ⟨0x0000150, 1, 0, 1, 0, 0x10040000, 0, 0, 0, 0, 0, 0, false⟩,
  ⟨0x0000158, 1, 0, 1, 0, 0, 0, 0, 0, 0, 0, 0, true⟩,
  ⟨0x000015C, 1, 0, 1, 0, 0, 0, 0, 0, 0, 0, 0, true⟩,
  ⟨0x0000200, 32, 4, 1, 0, 0, 0, 0, 0, 0, 0, 0, false⟩,
  ⟨0x0000300, 1, 0, 1, 0, 0, 0, 0, 0, 0, 0, 0, false⟩,
  ⟨0x0000308, 1, 0, 1, 0, 0, 0, 0, 0, 0, 0, 0, true⟩]
/-- Register words of block GLB, part 2. -/
def descGLB1 : List RegDesc := [
  ⟨0x000030C, 1, 0, 1, 0, 0, 0, 0, 0, 0, 0, 0, true⟩,
  ⟨0x0000310, 1, 0, 1, 0, 0, 0, 0, 0, 0, 0, 0, true⟩,
  ⟨0x0000314, 1, 0, 1, 0, 0, 0, 0, 0, 0, 0, 0, true⟩,
  ⟨0x0000320, 1, 0, 1, 0, 0, 0, 0, 0, 0, 0, 0, false⟩,
  ⟨0x0000328, 1, 0, 1, 0, 0, 0, 0, 0, 0, 0, 0, true⟩,
  ⟨0x000032C, 1, 0, 1, 0, 0, 0, 0, 0, 0, 0, 0, true⟩,
  ⟨0x0000330, 1, 0, 1, 0, 0, 0, 0, 0, 0, 0, 0, false⟩,
  ⟨0x0000800, 1, 0, 1, 0, 0, 0, 0, 0xFF, 0, 0, 0, false⟩,
  ⟨0x0000804, 1, 0, 1, 0, 0, 0, 0, 0, 0, 0, 0, false⟩,
  ⟨0x0000810, 1, 0, 1, 0, 0, 0, 0, 0, 0, 0, 0, false⟩,
  ⟨0x0000900, 1, 0, 1, 0, 0, 0, 0, 0x1F, 0, 0, 0, false⟩,
  ⟨0x0000908, 1, 0, 1, 0, 0, 0, 0, 0, 0, 0, 0, true⟩,
  ⟨0x000090C, 1, 0, 1, 0, 0, 0, 0, 0, 0, 0, 0, true⟩,
  ⟨0x0000A00, 1, 0, 1, 0, 0, 0, 0, 0, 0, 0, 0, false⟩,
  ⟨0x0000A10, 1, 0, 1, 0, 0, 0, 0, 0, 0xFFFFFFFF, 0, 0, false⟩,
  ⟨0x0000B00, 1, 0, 1, 0, 0x50173, 0xF01FF, 0, 0, 0, 0, 0, false⟩,
  ⟨0x0000B04, 1, 0, 1, 0, 0, 0, 0, 0, 0, 0, 0, false⟩,
  ⟨0x0000B08, 1, 0, 1, 0, 1, 0, 0, 0x7F, 0, 0, 0, false⟩,
  ⟨0x0040000, 1, 0, 1, 0, 1, 0x7FF0001, 0, 0, 0, 0, 0, false⟩,
  ⟨0x0040004, 1, 0, 1, 0, 0, 0, 0, 0, 0, 0, 0, false⟩,
  ⟨0x0040008, 1, 0, 1, 0, 0, 0, 0, 0x7F, 0, 0, 0, false⟩,
  ⟨0x004000C, 1, 0, 1, 0, 0, 0x7F, 0, 0, 0, 0, 0, false⟩,
  ⟨0x0040010, 1, 0, 1, 0, 0, 0xFFFFFFFF, 0, 0, 0, 0, 0, false⟩,
  ⟨0x0040014, 1, 0, 1, 0, 0, 0xFFFFFFFF, 0, 0, 0, 0, 0, false⟩]
/-- Register words of block GLB, part 3. -/
def descGLB2 : List RegDesc := [
  ⟨0x0040018, 1, 0, 1, 0, 0, 0xFFFF, 0, 0, 0, 0, 0, false⟩,
  ⟨0x004001C, 1, 0, 1, 0, 0, 0, 0, 0, 0, 0, 0, false⟩,
  ⟨0x0040020, 1, 0, 1, 0, 0, 0, 0, 0, 0, 0xFFFFFFFF, 0, false⟩,
  ⟨0x0040024, 1, 0, 1, 0, 0, 0, 0, 0, 0, 0, 0, false⟩,
  ⟨0x0041000, 64, 4, 1, 0, 0, 0xBFFF, 0, 0, 0, 0, 0, false⟩,
  ⟨0x0042000, 7, 0x10, 1, 0, 0x10040000, 0, 0, 0, 0, 0, 0, false⟩,
  ⟨0x0042008, 7, 0x10, 1, 0, 0, 0, 0, 0, 0, 0, 0, true⟩,
  ⟨0x004200C, 7, 0x10, 1, 0, 0, 0, 0, 0, 0, 0, 0, true⟩,
  ⟨0x0048000, 4096, 4, 1, 0, 0, 0, 0, 0, 0, 0, 0, false⟩]
def descGLB : List RegDesc := descGLB0 ++ descGLB1 ++ descGLB2
/-- Register words of block DMA. -/
def descDMA0 : List RegDesc := [
  ⟨0x0800000, 1, 0, 1, 0, 0, 0, 0, 0, 0, 0, 0, true⟩,
  ⟨0x0800004, 1, 0, 1, 0, 0, 0, 0, 0, 0, 0, 0, true⟩,
  ⟨0x0800008, 1, 0, 1, 0, 0, 0, 0, 0, 0, 0, 0, true⟩,
  ⟨0x080000C, 1, 0, 1, 0, 0, 0, 0, 0, 0, 0, 0, true⟩,
  ⟨0x0800010, 1, 0, 1, 0, 0, 0, 0, 7, 0, 0, 0, false⟩,
  ⟨0x0800014, 1, 0, 1, 0, 0, 7, 0, 0, 0, 0, 0, false⟩,
  ⟨0x0800018, 1, 0, 1, 0, 0, 0, 0, 0, 0, 0, 0, false⟩,
  ⟨0x0801000, 64, 0x40, 1, 0, 0, 0x3FFF000F, 0, 0, 0, 0, 0, false⟩,
  ⟨0x0801004, 64, 0x40, 1, 0, 0x1000, 0xFFFFF, 0, 0, 0, 0, 0, false⟩,
  ⟨0x0801008, 64, 0x40, 1, 0, 0, 0xFFFFFFFF, 0, 0, 0, 0, 0, false⟩,
  ⟨0x080100C, 64, 0x40, 1, 0, 0, 0xFFFFFFFF, 0, 0, 0, 0, 0, false⟩,
  ⟨0x0801010, 64, 0x40, 1, 0, 0, 0, 0, 0, 7, 0, 0, false⟩,
  ⟨0x0801014, 64, 0x40, 1, 0, 0, 0, 0, 0, 0, 0, 0, false⟩,
  ⟨0x0801018, 64, 0x40, 1, 0, 0, 0, 0, 0, 0, 0, 0, false⟩,
  ⟨0x080101C, 64, 0x40, 1, 0, 0, 0, 0, 0, 0, 0, 0, false⟩,
  ⟨0x0801020, 64, 0x40, 1, 0, 0, 0, 0, 0, 0, 0, 0, true⟩,
  ⟨0x0801024, 64, 0x40, 1, 0, 0, 0, 0, 0, 0, 0, 0, true⟩,
  ⟨0x0801028, 64, 0x40, 1, 0, 0, 0, 0, 0, 0, 0, 0, true⟩,
  ⟨0x080102C, 64, 0x40, 1, 0, 0, 0, 0, 0, 0, 0, 0, true⟩,
  ⟨0x0801030, 64, 0x40, 1, 0, 0, 0, 0, 0, 0, 0, 0, false⟩]
def descDMA : List RegDesc := descDMA0
/-- Register words of block MEM, part 1. -/
def descMEM0 : List RegDesc := [
  ⟨0x0900000, 1, 0, 1, 0, 0, 0, 0, 0, 0, 0, 0, false⟩,
  ⟨0x0900004, 1, 0, 1, 0, 0, 0, 0, 0, 0, 0, 0, false⟩,
  ⟨0x0900008, 1, 0, 1, 0, 0, 0, 0, 0, 0, 0, 0, true⟩,
  ⟨0x090000C, 1, 0, 1, 0, 0, 0, 0, 0, 0, 0, 0, true⟩,
  ⟨0x0900010, 9, 4, 1, 0, 0, 0, 0, 0, 0, 0, 0, false⟩,
  ⟨0x0900040, 1, 0, 1, 0, 0x3E80064, 0xFFFFFFFF, 0, 0, 0, 0, 0, false⟩,
  ⟨0x0900044, 1, 0, 1, 0, 0x66422, 0xFFFFF, 0, 0, 0, 0, 0, false⟩,
  ⟨0x0900048, 1, 0, 1, 0, 0x80, 0xFF, 0, 0, 0, 0, 0, false⟩,
  ⟨0x0900800, 1, 0, 1, 0, 0, 0, 0, 0xFF, 0, 0, 0, false⟩,
  ⟨0x0900804, 1, 0, 1, 0, 0, 0xFF, 0, 0, 0, 0, 0, false⟩,
  ⟨0x0900808, 1, 0, 1, 0, 0, 0, 0, 0, 0, 0, 0, false⟩,
  ⟨0x0900810, 1, 0, 1, 0, 0, 0, 0, 0, 0, 0, 0, false⟩,
  ⟨0x0900818, 1, 0, 1, 0, 0, 0, 0, 0, 0, 0, 0, true⟩,
  ⟨0x090081C, 1, 0, 1, 0, 0, 0, 0, 0, 0, 0, 0, true⟩,
  ⟨0x0900820, 1, 0, 1, 0, 0, 0, 0, 0, 0, 0, 0, true⟩,
  ⟨0x0900824, 1, 0, 1, 0, 0, 0, 0, 0, 0, 0, 0, true⟩,
  ⟨0x0900828, 1, 0, 1, 0, 0, 0, 0, 0, 0, 0, 0, true⟩,
  ⟨0x090082C, 1, 0, 1, 0, 0, 0, 0, 0, 0, 0, 0, true⟩,
  ⟨0x0900830, 1, 0, 1, 0, 0, 0, 0, 0, 0, 0xFFFFFFFF, 0, false⟩,
  ⟨0x0900838, 1, 0, 1, 0, 0, 0, 0, 0, 0, 0, 0, true⟩,
  ⟨0x090083C, 1, 0, 1, 0, 0, 0, 0, 0, 0, 0, 0, true⟩,
  ⟨0x0900840, 4, 4, 1, 0, 0, 0, 0, 0xFFFFFFFF, 0, 0, 0, false⟩,
  ⟨0x0901000, 16, 0x20, 1, 0, 0, 0, 0, 0, 0, 0, 0, false⟩,
  ⟨0x0901004, 16, 0x20, 1, 0, 0, 0, 0, 0, 0, 0xFF00, 0, false⟩]
/-- Register words of block MEM, part 2. -/
def descMEM1 : List RegDesc := [
  ⟨0x0901008, 16, 0x20, 1, 0, 0, 0, 0, 0, 0, 0, 0, false⟩,
  ⟨0x090100C, 16, 0x20, 1, 0, 0, 0, 0, 0, 0, 0xFFFFFFFF, 0, false⟩,
  ⟨0x0902000, 128, 0x10, 1, 0, 0, 0xFFFF0007, 0, 0, 0, 0, 0, false⟩,
  ⟨0x0902004, 128, 0x10, 1, 0, 0, 0, 0, 0, 0, 0, 0, false⟩,
  ⟨0x0902008, 128, 0x10, 1, 0, 0, 0, 0, 0, 0, 0xFFFFFFFF, 0, false⟩]
def descMEM : List RegDesc := descMEM0 ++ descMEM1
/-- Register words of block KSL. -/
def descKSL0 : List RegDesc := [
  ⟨0x0A00000, 1, 0, 1, 0, 0x133, 0x33, 0xF00, 0, 0, 0, 0, false⟩,
  ⟨0x0A00004, 1, 0, 1, 0, 0, 0, 0, 0, 0, 0, 0, false⟩,
  ⟨0x0A00008, 1, 0, 1, 0, 0, 0, 0, 0x3FFF, 0, 0, 0, false⟩,
  ⟨0x0A0000C, 1, 0, 1, 0, 0, 0x3FFF, 0, 0, 0, 0, 0, false⟩,
  ⟨0x0A00010, 1, 0, 1, 0, 0, 0, 0, 0, 0, 0, 0, false⟩,
  ⟨0x0A00100, 8, 0x10, 1, 0, 0, 0, 0, 0, 0, 0, 0, false⟩,
  ⟨0x0A00104, 8, 0x10, 1, 0, 0, 0, 0, 0, 0, 0, 0, false⟩,
  ⟨0x0A00108, 8, 0x10, 1, 0, 0, 0, 0, 0, 0, 0, 0, true⟩,
  ⟨0x0A0010C, 8, 0x10, 1, 0, 0, 0, 0, 0, 0, 0, 0, true⟩,
  ⟨0x0A01000, 2, 0x100, 1, 0, 0x640043, 0xFFFF00FF, 0, 0, 0x100, 0, 0, false⟩,
  ⟨0x0A01004, 2, 0x100, 1, 0, 0, 0, 0, 0, 0, 0, 0, false⟩,
  ⟨0x0A01008, 2, 0x100, 1, 0, 0, 0xF, 0, 0, 0, 0, 0, false⟩,
  ⟨0x0A0100C, 2, 0x100, 1, 0, 0, 0, 0, 0, 0, 0xFFFFFFFF, 0, false⟩,
  ⟨0x0A01010, 2, 0x100, 1, 0, 0, 0, 0, 0, 0, 0xFFFFFFFF, 0, false⟩,
  ⟨0x0A01018, 2, 0x100, 1, 0, 0, 0, 0, 0, 0, 0, 0, true⟩,
  ⟨0x0A0101C, 2, 0x100, 1, 0, 0, 0, 0, 0, 0, 0, 0, true⟩,
  ⟨0x0A01020, 2, 0x100, 1, 0, 0, 0, 0, 0, 0, 0, 0, true⟩,
  ⟨0x0A01024, 2, 0x100, 1, 0, 0, 0, 0, 0, 0, 0, 0, true⟩,
  ⟨0x0A04000, 112, 0x20, 1, 0, 0x820, 0x1EFF, 0, 0, 0x100, 0, 0, false⟩,
  ⟨0x0A04004, 112, 0x20, 1, 0, 0, 0, 0, 0, 0, 0, 0, false⟩,
  ⟨0x0A04008, 112, 0x20, 1, 0, 0, 0, 0, 7, 0, 0, 0, false⟩,
  ⟨0x0A0400C, 112, 0x20, 1, 0, 0, 0, 0, 0, 0, 0xFFFFFFFF, 0, false⟩,
  ⟨0x0A04010, 112, 0x20, 1, 0, 0, 0, 0, 0, 0, 0, 0, false⟩,
  ⟨0x0A04014, 112, 0x20, 1, 0, 0, 0, 0, 0, 0, 0, 0, false⟩]
def descKSL : List RegDesc := descKSL0
/-- Register words of block SVC. -/
def descSVC0 : List RegDesc := [
  ⟨0x0C00000, 1, 0, 1, 0, 0, 0, 0, 0, 0, 0, 0, false⟩,
  ⟨0x0C00004, 1, 0, 1, 0, 0, 0, 0, 0x3F, 0, 0, 0, false⟩,
  ⟨0x0C00008, 1, 0, 1, 0, 0, 0x3F, 0, 0, 0, 0, 0, false⟩,
  ⟨0x0C0000C, 1, 0, 1, 0, 0, 0, 0, 0, 0, 0, 0, false⟩,
  ⟨0x0C00010, 1, 0, 1, 0, 0, 0, 0, 0, 0, 0, 0, false⟩,
  ⟨0x0C00014, 1, 0, 1, 0, 0, 0, 0, 0, 0, 0, 0, false⟩,
  ⟨0x0C00020, 1, 0, 1, 0, 0, 0, 0, 0, 0, 0, 0, false⟩,
  ⟨0x0C00024, 1, 0, 1, 0, 0, 0, 0, 0, 0, 0xFFFF, 0, false⟩]
def descSVC : List RegDesc := descSVC0
/-- Register words of block TST, part 1. -/
def descTST0 : List RegDesc := [
  ⟨0x0D00000, 1, 0, 1, 0, 0x3C01, 0xFFFF01, 0, 0, 0, 0, 0, false⟩,
  ⟨0x0D00004, 1, 0, 1, 0, 0x1000, 0, 0, 0, 0, 0, 0, false⟩,
  ⟨0x0D00010, 4, 4, 1, 0, 0, 0, 0, 0, 0, 0, 0, false⟩,
  ⟨0x0D00020, 1, 0, 1, 0, 0x3E8, 0xFFFF, 0, 0, 0, 0, 0, false⟩,
  ⟨0x0D00024, 1, 0, 1, 0, 0, 0, 0, 0, 0, 0, 0, false⟩,
  ⟨0x0D00030, 1, 0, 1, 0, 0, 0, 0, 0x7FF, 0, 0, 0, false⟩,
  ⟨0x0D00034, 1, 0, 1, 0, 0, 0x7FF, 0, 0, 0, 0, 0, false⟩,
  ⟨0x0D00038, 1, 0, 1, 0, 0, 0, 0, 0, 0, 0, 0, false⟩,
  ⟨0x0D00100, 17, 8, 1, 0, 0, 0, 0, 0, 0, 0, 0, false⟩,
  ⟨0x0D00104, 17, 8, 1, 0, 0, 0, 0, 0, 0, 0, 0, false⟩,
  ⟨0x0D00200, 1, 0, 1, 0, 0, 0xFFFFFFFF, 0, 0, 0, 0, 0, false⟩,
  ⟨0x0D00204, 1, 0, 1, 0, 0, 0xFFFFFFFF, 0, 0, 0, 0, 0, false⟩,
  ⟨0x0D00208, 1, 0, 1, 0, 0, 0xFFFFFFFF, 0, 0, 0, 0, 0, false⟩,
  ⟨0x0D0020C, 1, 0, 1, 0, 0, 1, 0, 0, 0, 0, 0, false⟩,
  ⟨0x0D00210, 1, 0, 1, 0, 0, 0, 0, 0, 0, 0, 0, false⟩,
  ⟨0x0D00214, 1, 0, 1, 0, 0, 0, 0, 0, 0, 0xFFFFFFFF, 0, false⟩,
  ⟨0x0D00218, 1, 0, 1, 0, 0, 0, 0, 0, 0, 0, 0, true⟩,
  ⟨0x0D0021C, 1, 0, 1, 0, 0, 0, 0, 0, 0, 0, 0, true⟩,
  ⟨0x0D00300, 1, 0, 1, 0, 0x80020, 0xFF00FF, 0, 0, 0, 0, 0, false⟩,
  ⟨0x0D00310, 4, 4, 1, 0, 0, 0, 0, 0xFFFFFFFF, 0, 0, 0, false⟩,
  ⟨0x0D00400, 1, 0, 1, 0, 0x800, 0x1FF71, 0, 0, 0, 0, 0, false⟩,
  ⟨0x0D00404, 1, 0, 1, 0, 0, 0x3FF0007, 0, 0, 0, 0, 0, false⟩,
  ⟨0x0D00408, 1, 0, 1, 0, 0, 0xFFFFFFFF, 0, 0, 0, 0, 0, false⟩,
  ⟨0x0D00500, 4, 4, 1, 0, 0, 0, 0, 0, 0, 0, 0, false⟩]
/-- Register words of block TST, part 2. -/
def descTST1 : List RegDesc := [
  ⟨0x0D00510, 1, 0, 1, 0, 0, 0, 0, 0, 0, 0, 0, true⟩,
  ⟨0x0D00514, 1, 0, 1, 0, 0, 0, 0, 0, 0, 0, 0, true⟩,
  ⟨0x0D00600, 40, 4, 1, 0, 0, 0, 0, 0, 0xFFFFFFFF, 0, 0, false⟩,
  ⟨0x0D006A0, 1, 0, 1, 0, 0, 0, 0, 0, 0, 0, 0, false⟩,
  ⟨0x0D006A4, 1, 0, 1, 0, 0, 0, 0, 0, 1, 0, 0, false⟩]
def descTST : List RegDesc := descTST0 ++ descTST1

/-- The table that may hold the word at an address, by the BAR0 block map (R14). -/
def descBlock (a : Nat) : List RegDesc :=
  match a / 0x100000 with
  | 1 => descPOS
  | 2 => descCAM
  | 3 => descCLG
  | 5 => descBLV
  | 6 => descDCA
  | 4 => descPLZ
  | 11 => descCAL
  | 7 => descGAL
  | 40 => descQUE
  | 0 => descGLB
  | 8 => descDMA
  | 9 => descMEM
  | 10 => descKSL
  | 12 => descSVC
  | 13 => descTST
  | b => if 0x10 ≤ b ∧ b ≤ 0x20 then descSTR else []

/-- The instance numbers of the word at address `a` in a table row, if the row holds it. -/
def RegDesc.index (r : RegDesc) (a : Nat) : Option (Nat × Nat) :=
  if a < r.base then none else
  let o := a - r.base
  let i := if r.s1 = 0 then 0 else min (o / r.s1) (r.n1 - 1)
  let o2 := o - i * r.s1
  let j := if r.s2 = 0 then 0 else o2 / r.s2
  if j < r.n2 ∧ o2 = j * r.s2 then some (i, j) else none

/-- The table row of the register word at an address; BOND of an odd camera port reads 0 and is ignored (R88). -/
def findDesc (a : Nat) : Option RegDesc :=
  ((descBlock a).find? fun r => (r.index a).isSome).map fun r =>
    if a / 0x100000 = 2 ∧ a % 0x20000 = 0x10000 then { r with rws := r.rws &&& 0xFFFFFFFD } else r

/-- The reset class of a requester (R418); DMA channels are C3 until CH_CFG.CLASS says otherwise (R390). -/
def resetClass (r : Nat) : Nat := if r ≤ 1 then 0 else if r ≤ 20 then 1 else if r = 21 then 2 else if r = 22 then 3 else if r ≤ 26 then 4 else 3

/-- The reset map's bits of a select (R409): primary and further bits, each with its valid bit. -/
def resetMapOf (s : Nat) : Nat :=
  let bit (i n : Nat) : Nat := (n + 128) * 256 ^ i
  if s < 4 then bit 0 (8 + s) + bit 1 (19 + s) + bit 2 (23 + s) + bit 3 (27 + s)
  else if s < 8 then bit 0 (8 + s) + bit 1 (15 + s) + bit 2 (21 + s)
  else 0

/-- The reset bits of a word, the words that are not one constant for all instances set apart: GLB.ID and TST.UID
(fused), MEM.MAP (R409), MEM.REQ_CFG (R418), TST.ROLE_MAP and TST.STRIPE_STATE (R517). -/
def resetOf (r : RegDesc) (a : Nat) : Nat :=
  if r.base = 0 then 0x1648 + Config.rev.toNat * 2 ^ 16 + (if Config.grade12 then 12 else 10) * 2 ^ 24
  else if r.base = 0x0D00510 then Config.uid.toNat % 2 ^ 32
  else if r.base = 0x0D00514 then Config.uid.toNat / 2 ^ 32
  else if r.base = 0x0900010 then resetMapOf ((a - r.base) / 4)
  else if r.base = 0x0902000 then
    let q := (a - r.base) / 16
    if (27 ≤ q ∧ q < 32) ∨ 96 ≤ q then 0 else
    let c := resetClass q
    c + (if c = 0 then 2 else if c = 1 then 5 else 1000) * 2 ^ 16
  else if r.base = 0x0D00010 then 0x03020100 + (a - r.base) / 4 * 0x04040404
  else if r.base = 0x0D00100 then (if a = r.base + 128 then 1 else 0)
  else r.reset

/-- The reset value of the word at a BAR0 address: of a register, of the live copy of a shadowed word 0x8000 further on
(R18), or zero (R15). -/
def resetWord (a : Nat) : Word :=
  match findDesc a with
  | some r => BitVec.ofNat 32 (resetOf r a)
  | none =>
    match findDesc (a - 0x8000) with
    | some r => if 0x8000 ≤ a then BitVec.ofNat 32 (resetOf r (a - 0x8000) &&& (r.rws ||| r.comp)) else 0
    | none => 0

end Sys2Proof.Machine
end

