-- ==== Sys2Proof/Machine/State.lean ====
section
/-!
DEFINITION. The state of the part as plain data.
-/
namespace Sys2Proof.Machine

/-- The twelve modes (R465). -/
inductive Mode where
  | reset | foyer | recovery | standby | discover | armed | inspect | degraded | calibrate | replay | service | fault
  deriving DecidableEq, Repr

/-- KIND of a Plaza event (R286). -/
inductive EvKind where
  | pulse | set | clear
  deriving DecidableEq, Repr

/-- What a logical lane of a seam port carries (R437, R438): the sync header of a block, a control symbol of K1, or a byte, scrambled where it is data. -/
inductive LaneSym where
  | header (bits : BitVec 4)
  | control (code : Byte)
  | byte (b : Byte)
  deriving DecidableEq, Repr

/-- The ordered sets that are sent between packets (R438). -/
inductive OrderedSet where
  | skp | sds | doze | wake
  deriving DecidableEq, Repr

/-- What the part sends out in a step: messages, packets and writes that leave it, in order. -/
inductive Output where
  /-- A pulse message on the uplink of a CAM port (R65): rising or falling edge. -/
  | pulse (port : Nat) (rising : Bool)
  /-- A CC line of a CLG port changes level (R72). -/
  | ccLine (port cc : Nat) (high : Bool)
  /-- A command-channel transaction starts (R69). -/
  | gcCommand (port : Nat) (write : Bool) (addr len : Nat) (data : List Nat)
  /-- A byte is queued on a serial line (R73). -/
  | serial (port byte : Nat)
  /-- A packet starts on a seam port, 0 West and 1 East: header, payload and CRC (R452, R453). -/
  | seam (side : Nat) (bytes : List Byte)
  /-- An ordered set goes out on every logical lane of a seam port, so many times in a row (R438, R450): its symbols. -/
  | seamSet (side times : Nat) (symbols : List LaneSym)
  /-- A packet on the logical lanes of a seam port, with the idle bytes before it (R437): the symbols of each lane. -/
  | seamLanes (side : Nat) (lanes : List (List LaneSym))
  /-- A panel frame goes out on DisplayPort (R344, R346): width, height, pixels as RGB. -/
  | panel (width height : Nat) (pixels : List Nat)
  /-- POS_SYNC pulses high for 20 ns (R56). -/
  | posSync
  /-- A write to host memory by a function (R362, R376). -/
  | hostWrite (fn addr : Nat) (bytes : List Byte)
  /-- An MSI-X message of a function's vector (R381), with the address and the data of its table entry. -/
  | msix (fn vector addr data : Nat)
  /-- A scan-out pixel that found the FIFO empty (R346). -/
  | underrun (color : Nat)
  /-- What a read through a BAR returns: its bytes, and whether it completes with the poisoned (EP) bit set (R156, R411). -/
  | readData (bytes : List Byte) (poisoned : Bool)
  /-- A training set on a lane of a seam port: KTS1 or KTS2 and its bytes 1 to 15 (R441). -/
  | kts (side lane : Nat) (second : Bool) (bytes : List Byte)
  /-- A KSP message leaves for a peer (R498, R502): a datagram by way of a next hop, or the bytes of a UART frame. -/
  | porch (peer : Peer) (hop : Nat) (bytes : List Byte)
  /-- An ARP reply with the part's IPv4 and Ethernet addresses (R498). -/
  | arpReply (ip mac : Nat)
  /-- The pins TMUX0 to TMUX7 change (R535). -/
  | tmux (byte : Nat)
  deriving DecidableEq, Repr

/-- A counted edge of an encoder: its time (R23), the count it gave, and its direction. -/
structure EncEdge where
  t : Nat
  n : Int
  fwd : Bool
  deriving DecidableEq, Repr

/-- One quadrature encoder (R23 to R33): filtered levels, the integer count, counted edges newest first, the last edge of
each phase (R25), the count at the last forward Z edge (R26), the EXCLUDED mark (R28) and the fraction last shown (R31, R37). -/
structure Enc where
  a : Bool := false
  b : Bool := false
  count : Int := 0
  edges : List EncEdge := []
  lastA : Option Nat := none
  lastB : Option Nat := none
  zRef : Option Int := none
  excluded : Bool := false
  frac : Nat := 0
  deriving DecidableEq, Repr

/-- One line-trigger generator (R41 to R45). -/
structure Gen where
  on : Bool := false
  last : Option Int := none
  next : Int := 0
  waiting : Bool := false
  lastTrig : Option Nat := none
  floorFrom : Nat := 0
  deriving DecidableEq, Repr

/-- What a compare slot read at arming (R50), on which side of the target MD + D lay last (R51), whether it armed late, and the first cycle in which
it may fire: the one after it was armed or its target moved (R52, R53). -/
structure Slot where
  target : Int := 0
  period : Nat := 0
  lead : Nat := 0
  both : Bool := false
  beyond : Bool := false
  late : Bool := false
  since : Nat := 0
  deriving DecidableEq, Repr

/-- A stretch of the output grid of one pitch (R46, R47): `line` sits at `pos`. -/
structure GridSeg where
  line : Nat
  pos : Int
  pitch : Nat
  deriving DecidableEq, Repr

/-- What makes a WPOS an MD (R34): DIR_INVERT, SCALE and MD_OFFSET. -/
structure MdForm where
  invert : Bool
  scale : Nat
  offset : Int
  deriving DecidableEq, Repr

/-- The MD of a WPOS (R34). -/
def MdForm.md (f : MdForm) (wpos : Int) : Int := f.offset + ((if f.invert then -wpos else wpos) * f.scale + 2 ^ 39) / 2 ^ 40

/-- The position message of R56. -/
structure PosMsg where
  seq : Nat
  wpos : Int
  md : Int
  hwm : Int
  speed : Int
  grid : Int
  lines : Nat
  form : MdForm
  deriving DecidableEq, Repr

/-- The encoders in use, ADJ and the WPOS reached up to a past cycle (R29, R30), for the WPOS of an instant before it (R39). -/
structure UsedSet where
  until_ : Nat
  used : List Nat
  adj : Int
  wpos : Int
  deriving DecidableEq, Repr

/-- The position unit. `sets` and `stops` hold the past that an exposure stamp can ask for (R37, R39): the sets of encoders that were in use, and the
intervals of STOPPED that have ended; `stopFrom` is when the last one began. `switched`: the slave runs on its own encoder (R59); `slaveFrom`: when it
entered ARMED. `wroteAt` and `wrote`: the cycle of the last write of a POS register that a rule reads in every cycle, and the words as they were before
that cycle's writes (R21). -/
structure PosState where
  encs : Tbl Enc := []
  used : List Nat := []
  adj : Int := 0
  wpos : Int := 0
  md : Int := 0
  hwm : Int := 0
  speed : Int := 0
  gens : Tbl Gen := []
  slots : Tbl Slot := []
  gridOrigin : Int := 0
  grid : List GridSeg := []
  linesPassed : Nat := 0
  firstLine : Nat := 0
  epochs : List (Nat × Nat) := []
  frameLines : Nat := 2048
  latches : List (Nat × Nat) := []
  synced : Bool := false
  msg : Option (PosMsg × Nat) := none
  unmatched : Nat := 0
  follows : Bool := false
  left : Bool := false
  xAlign : Int := 0
  holdFrom : Nat := 0
  sets : List UsedSet := []
  stops : List (Nat × Nat) := []
  stopFrom : Nat := 0
  switched : Bool := false
  slaveFrom : Nat := 0
  wroteAt : Nat := 0
  wrote : List (Nat × Word) := []
  deriving DecidableEq, Repr

/-- An event on its way to a consumer input (R286, R292): where it goes, what it carries, and when it arrives. -/
structure Delivery where
  input : Nat
  chan : Nat
  kind : EvKind
  lineage : Nat
  addr : Nat
  floor : Bool
  due : Nat
  deriving DecidableEq, Repr

/-- An event that a producer made: what it carries, and the channels it went on (R286, R292). -/
structure Fired where
  producer : Nat
  kind : EvKind
  lineage : Nat
  addr : Nat
  floor : Bool
  chans : List Nat
  deriving DecidableEq, Repr

/-- One GPIO pin (R298 to R301): the filtered level driven from outside, the level of GPOp in LEVEL mode, the rise times of
pending pulses, the end times of running pulses, the level held in FAULT; and of an output the level driven, since when, and the level that
the filter showed before. -/
structure Pin where
  ext : Bool := false
  level : Bool := false
  pend : List Nat := []
  run : List Nat := []
  held : Bool := false
  seen : Bool := false
  since : Nat := 0
  was : Bool := false
  deriving DecidableEq, Repr

/-- A timer: the cycle in which its count expires, and the cycle of its last STOP (R302). -/
structure Timer where
  endAt : Nat := 0
  stopAt : Nat := 0
  deriving DecidableEq, Repr

/-- The Plaza: events in flight, the cycle (plus one) in which each producer last made its event (R286), pins and timers; and the cycles (plus one)
of the last event at DEC_SYNC, of the last sync request of another kind, of the last event at COMMIT and of the last software commit request (R295).
`setAt` and `setNow`: the last cycle in which an event bit (W1C) was set, and the bits set in it by the word's address (R20). `firedAt` and
`fired`: the last cycle in which a producer made an event, and the events made in it (R292). -/
structure PlzState where
  inflight : List Delivery := []
  lastFire : Tbl Nat := []
  pins : Tbl Pin := []
  timers : Tbl Timer := []
  decAt : Nat := 0
  syncAt : Nat := 0
  comAt : Nat := 0
  softAt : Nat := 0
  setAt : Nat := 0
  setNow : Tbl Nat := []
  firedAt : Nat := 0
  fired : List Fired := []
  deriving DecidableEq, Repr

/-- Where a stream of a port goes (R83, R86). -/
structure Dest where
  mode : Nat
  num : Nat
  role : Nat
  base : Nat
  lines : Nat
  deriving DecidableEq, Repr

/-- The settings of a port that a trigger keeps (R95). -/
structure PortCfg where
  width : Nat
  pad : Nat
  latMin : Nat
  latMax : Nat
  mid : Nat
  dests : List Dest
  deriving DecidableEq, Repr

/-- A pending trigger (R64, R67, R68) with the settings that made WPOS an MD when it came, and the stamp of its exposure midpoint once fixed (R39): WPOS
and the MD it gives (R109). -/
structure Trig where
  t : Nat
  floor : Bool
  epoch : Nat
  field : Nat
  framed : Bool
  cfg : PortCfg
  form : MdForm
  stamp : Option (Int × Int) := none
  deriving DecidableEq, Repr

/-- A line on the pixel bus with its side band (R75, R77). `chunks` and `done` are how far stage 2 has taken it (R127). -/
structure BusLine where
  wpos : Int
  md : Int
  trig : Nat
  epoch : Nat
  seq : Nat
  stream : Nat
  color : Nat
  field : Nat
  bondOdd : Bool
  floor : Bool
  padded : Bool
  truncated : Bool
  acqStart : Bool
  acqOutside : Bool
  secondary : Bool
  acqFrame : Nat
  framed : Bool
  pix : List Nat
  chunks : Nat := 0
  done : List Nat := []
  deriving DecidableEq, Repr

/-- A camera line that has arrived but whose trigger has no stamp yet. -/
structure HeldLine where
  trig : Trig
  planes : List (List Nat)
  padded : Bool
  truncated : Bool
  acqStart : Bool
  acqOutside : Bool
  acqFrame : Nat
  deriving DecidableEq, Repr

/-- A landing ring: the slot of the next write, and the unfreed slots in order, each with its address and the side band of its
line (R86). The pixels lie in DRAM. -/
structure Ring where
  next : Nat := 0
  slots : List (Nat × BusLine) := []
  deriving DecidableEq, Repr

/-- A camera port, CAM0 to CAM15 as 0 to 15 and CLG0 to CLG3 as 16 to 19. Its STATE is its STATUS register's field. `deskewAt`: when deskew failed
(R62); `idRead`: the reads of a try that the camera has answered (R90). -/
structure Port where
  trigs : List Trig := []
  held : List HeldLine := []
  fieldNext : Nat := 0
  falls : List (Nat × Nat) := []
  cc : Nat := 0
  acqOpen : Bool := false
  acqCount : Nat := 0
  acqFrame : Nat := 0
  acqLong : Bool := false
  winCount : Nat := 0
  winStart : Nat := 0
  seqs : Tbl Nat := []
  waitBoundary : Bool := false
  acceptFrom : Nat := 0
  outSince : Option Nat := none
  missing : Bool := false
  deskewAt : Option Nat := none
  idTries : Nat := 0
  idRead : Nat := 0
  idWait : Option Nat := none
  gcSince : Nat := 0
  rx : List Nat := []
  tx : List Nat := []
  deriving DecidableEq, Repr

/-- A line in the line-delay store (R107, R109). -/
structure StoredLine where
  m : Int
  epoch : Nat
  pix : List Nat
  deriving DecidableEq, Repr

/-- One component of a channel in the line-delay store: the lines held and the positions of those it no longer holds, both newest first, and the first
and the last position accepted since entry. -/
structure CompStore where
  lines : List StoredLine := []
  first : Option Int := none
  dropped : List Int := []
  last : Option Int := none
  deriving DecidableEq, Repr

/-- A band line leaving a pipeline (R121). -/
structure BandLine where
  role : Nat
  chan : Nat
  comp : Nat
  line : Nat
  epoch : Nat
  lo : Nat
  hi : Nat
  held : Bool := false
  depth : Bool := false
  gap : Bool := false
  noSource : Bool := false
  outLate : Bool := false
  epochMix : Bool := false
  floor : Bool := false
  pix : List Nat
  deriving DecidableEq, Repr

/-- The camera-side channel settings of a role (R104, R105). -/
structure CamChan where
  on : Bool
  stream : Nat
  srcBase : Nat
  pedestal : Nat
  repl : Nat
  deriving DecidableEq, Repr

/-- The output-side channel settings of a role (R111, R123). -/
structure OutChan where
  on : Bool
  stream : Nat
  srcBase : Nat
  remapBase : Nat
  x0 : Int
  m : Int
  k2 : Int
  k3 : Int
  centre : Nat
  xred : Int
  xblue : Int
  deriving DecidableEq, Repr

/-- The output-side settings of a role from an output line on, with the tap tables that go with them (R123). -/
structure OutVer where
  line : Nat
  rsMode : Nat
  binLog2 : Nat
  bandCols : Nat
  chans : List OutChan
  taps : Tbl Word
  deriving DecidableEq, Repr

/-- The camera-side settings of a role with their tap tables (R123), and the epoch they came with. -/
structure CamVer where
  epoch : Nat
  chans : List CamChan
  taps : Tbl Word
  deriving DecidableEq, Repr

/-- The correction pipeline of a role (R101 to R130). -/
structure Corr where
  prim : List BusLine := []
  sec : List BusLine := []
  camLive : Option CamVer := none
  camPrev : Option CamVer := none
  outs : List OutVer := []
  store : Tbl CompStore := []
  computed : Tbl Nat := []
  bands : List BandLine := []
  deriving DecidableEq, Repr

/-- The Boulevard's settings from an output line on (R140). `sources` gives for each role and layer its channel and component. -/
structure BlvVer where
  line : Nat
  enable : Bool
  cut : Bool
  gapFill : Nat
  mergeHold : Nat
  black : List Nat
  scale : List Nat
  bandStart : List Int
  on : List Bool
  cols : List Nat
  sources : List (List (Option (Nat × Nat)))
  deriving DecidableEq, Repr

/-- Row flags of a stitched row, in the bit order of the tag (R142, R152). -/
structure RowFlags where
  coverGap : Bool := false
  roleLate : Bool := false
  held : Bool := false
  gap : Bool := false
  noSource : Bool := false
  epochMix : Bool := false
  warmup : Bool := false
  apronMissing : Bool := false
  deriving DecidableEq, Repr

/-- What the Boulevard keeps of a merged row until its windows have gone: when it was merged, its flags, whether an apron was missing (R160), and for each profiled
layer the background value and state (0 = LIVE, 1 = SEEDED, 2 = FIXED) of every column (R179, R181), and for each enabled layer
which columns had a contributor (R192). -/
structure RowInfo where
  line : Nat
  epoch : Nat
  flags : RowFlags
  mergedAt : Nat
  apronLost : Bool := false
  bg : List (Nat × List (Nat × Nat))
  cover : List (Nat × List Bool)
  deriving DecidableEq, Repr

/-- A row of the apron store (R160): 64 stored values for each enabled layer. -/
structure ApronRow where
  line : Nat
  epoch : Nat
  layers : List (Nat × List Nat)
  deriving DecidableEq, Repr

/-- One side of the apron store. -/
structure ApronSide where
  rows : List ApronRow := []
  replaced : Option Nat := none
  givenUp : Option Nat := none
  deriving DecidableEq, Repr

/-- The Boulevard and the Attic's writer (chapter 04). -/
structure BlvState where
  vers : List BlvVer := []
  taken : List BandLine := []
  nextRow : Nat := 0
  rows : List RowInfo := []
  tagsPending : List (Nat × Nat) := []
  ready : Bool := false
  head : Nat := 0
  west : ApronSide := {}
  east : ApronSide := {}
  nextWin : Tbl Nat := []
  floorBands : List (Nat × BandLine) := []
  floorAt : Option Nat := none
  lateRoles : List Nat := []
  deriving DecidableEq, Repr

/-- A window row as a stripe's segmentation receives it (R147, R148): widened values of each enabled layer, `width` owned
columns with 64 apron columns on each side. -/
structure WinRow where
  line : Nat
  epoch : Nat
  flags : RowFlags
  edgeLo : Bool
  edgeHi : Bool
  start : Nat
  layers : List (Nat × List Nat)
  bg : List (Nat × List (Nat × Nat))
  cover : List (Nat × List Bool)
  deriving DecidableEq, Repr

/-- The profile settings from an output line on (R165 to R185); `init`: the layers that the commit initialises at that line (R171). -/
structure PrfVer where
  line : Nat
  en : List Bool
  cdBin : Nat
  bgLag : Nat
  resp : List Nat
  maskEn : List Bool
  slew : List Nat
  fixed : List Nat
  init : List Bool
  deriving DecidableEq, Repr

/-- A row in the decimators' history: row flags, widened values of the profiled layers, and the defect masks that the roles'
segmentation has handed on for it (R175, R176). -/
structure PrfRow where
  line : Nat
  flags : RowFlags
  vals : List (Nat × List Nat)
  masks : List (Nat × List Bool)
  deriving DecidableEq, Repr

/-- A decimator output of a layer that the background has not taken yet: values by column, none where suppressed (R170). -/
structure PrfOut where
  layer : Nat
  k : Nat
  first : Nat
  last : Nat
  ys : List (Option Nat)
  flags : RowFlags
  maskEn : Bool
  deriving DecidableEq, Repr

/-- A column of a profiled layer: fill start, background value and state (0 = LIVE, 1 = SEEDED, 2 = FIXED) (R170, R177). -/
structure PrfCol where
  f : Nat
  b : Nat
  st : Nat
  deriving DecidableEq, Repr

/-- A profiled layer: its reset row, its columns, whether seeded, and which columns' latest output was suppressed (R171, R183). -/
structure PrfLayer where
  lr : Nat := 0
  cols : List PrfCol := []
  seeded : Bool := false
  filling : List Bool := []
  deriving DecidableEq, Repr

/-- The profile decimators and the background model (chapter 05). `syncLate`: the last sync applied came late; `lateSync`: the pending one did (R174). -/
structure PrfState where
  vers : List PrfVer := []
  layers : Tbl PrfLayer := []
  hist : List PrfRow := []
  pending : List PrfOut := []
  syncRow : Option Nat := none
  syncLate : Bool := false
  lateSync : Bool := false
  settled : Bool := false
  sources : List (Nat × List (List Nat)) := []
  lastSpans : List (Nat × Nat × Nat × Nat) := []
  forced : List (Nat × Nat) := []
  deriving DecidableEq, Repr

/-- A seed profile of the Pantry (R182, R328). -/
structure Seed where
  key : Nat
  layer : Nat
  cols : Nat
  base : Nat
  pitch : Nat
  vals : List Nat
  deriving DecidableEq, Repr

/-- The structure of a segmentation stage (R198): its kind, selectors and geometry word. -/
structure SegStage where
  kind : Nat
  srcA : Nat
  srcB : Nat
  rc : Nat
  rm : Nat
  shape : Nat
  mode : Nat
  shift : Nat
  deriving DecidableEq, Repr

/-- The structure of a chain from boundary row `line` on (R220). -/
structure SegVer where
  line : Nat := 0
  enable : Bool := false
  len : Nat := 0
  final : Nat := 0
  refLayer : Nat := 0
  featSrc : Nat := 0
  featValid : Bool := false
  lagMax : Nat := 0
  resume : Nat := 0
  tagWord : Nat := 0
  tags : List (Option Nat) := []
  stages : List SegStage := []
  deriving DecidableEq, Repr

/-- The parameters of the sixteen stages, P0 to P3, PF0 and PF1 as raw words, for output rows from `line` on (R220). -/
structure SegPar where
  line : Nat
  words : List (List Nat)
  deriving DecidableEq, Repr

/-- A tracked web edge (R212): e_s, REJ and its case (1 = TRACKING, 2 = AT_LIMIT, 3 = OFF_ALL). -/
structure SegEdge where
  es : Int
  rej : Nat
  case : Nat
  deriving DecidableEq, Repr

/-- A role's segmentation chain: its structure and those waiting for their boundary, parameters newest first, L0 once known, the
window rows read newest first, e_s of the LEFT and RIGHT edges of tracked rows, the tracker's state and its next row, the next
row to hand on, whether that row carries RESTART and sets it in SEG_EVENTS, and the chain's last row once it has one (R193, R218). -/
structure Chain where
  ver : SegVer := {}
  later : List SegVer := []
  pars : List SegPar := []
  l0 : Option Nat := none
  rows : List WinRow := []
  track : List (Nat × Int × Int) := []
  left : Option SegEdge := none
  right : Option SegEdge := none
  trackNext : Nat := 0
  next : Nat := 0
  restart : Bool := false
  event : Bool := false
  stop : Option Nat := none
  deriving DecidableEq, Repr

/-- A row handed on by a role's chain (R216 to R218): planes of the owned columns and what goes with them. -/
structure HandRow where
  line : Nat
  epoch : Nat
  flags : RowFlags
  edgeLo : Bool
  edgeHi : Bool
  restart : Bool
  mask : List Bool
  feat : List Int
  tags : List (List Bool)
  deriving DecidableEq, Repr

/-- A seam packet (R453). -/
structure Packet where
  ptype : Nat
  src : Nat
  dst : Nat
  bcast : Bool
  lseq : Nat
  hops : Nat
  epoch : Nat
  payload : List Byte
  deriving DecidableEq, Repr

/-- What a seam port knows of one of its receive lanes in TRAIN (R442, R445): good KTS in a row with one LANE value, that value, whether the
symbols come inverted, the RATES the partner accepts, whether it reports RX_LOCKED, its EQ_DONE, KTS2 received, whether the own receiver
is satisfied, and whether the last request to the own transmitter broke a limit. -/
structure SeamLane where
  count : Nat := 0
  lane : Nat := 0
  inverted : Bool := false
  rates : Nat := 0
  locked : Bool := false
  eqDone : Bool := false
  second : Nat := 0
  satisfied : Bool := false
  atLimit : Bool := false
  deriving DecidableEq, Repr

/-- The byte stream that a seam port sends (R437, R438): bytes since the last SDS, symbol or block periods since the last SKP or SDS, the state of each
logical lane's scrambler, and the cycle of the last SDS. -/
structure SeamLine where
  sent : Nat := 0
  periods : Nat := 0
  keys : List Nat := []
  sdsAt : Nat := 0
  deriving DecidableEq, Repr

/-- One seam port (R439 to R457).  Bring-up: MAX_RATE as taken at DETECT, the present lanes, when TRAIN was entered, its phase (0 handshake at
K1, 1 electrical idle, 2 the target rate), when that phase began, the target, the lanes of W in logical order, KTS2 sent since the first
was received, the receive lanes; when LOCK began; when CAP was last sent; the partner's counts and PLACE.  Packets: LSEQ of the last
reliable one sent and of the highest in-order one received, the unacknowledged ones with the cycle each was sent in, replays of the
oldest, packets that wait, when a packet was last sent, whether the stream is ignored until an SDS, and since when a receiver regains
lock on WAKE, the stream it sends, and whether a checked CAP waits in EXCHANGE for the next DISCOVER (R462). -/
structure SeamPort where
  maxRate : Nat := 3
  present : List Nat := []
  trainAt : Nat := 0
  phase : Nat := 0
  phaseAt : Nat := 0
  target : Nat := 0
  order : List Nat := []
  sent : Nat := 0
  lanes : Tbl SeamLane := []
  lockAt : Nat := 0
  capAt : Nat := 0
  pw : Nat := 0
  pe : Nat := 0
  place : Nat := 0
  txSeq : Nat := 0
  rxSeq : Nat := 0
  unacked : List (Packet × Nat) := []
  replays : Nat := 0
  waiting : List Packet := []
  lastSent : Nat := 0
  ignoring : Bool := false
  wakeAt : Option Nat := none
  line : SeamLine := {}
  held : Bool := false
  deriving DecidableEq, Repr

/-- A request at a Doorway (R420 to R422): who raised it, its first address and bytes, bytes moved, whether it asks for a locked sequence, how
many fences of its source stand before it, since when it waits, whether it is a read, and whether it is one of the host that holds no tag yet (R391). -/
structure DoorReq where
  who : Nat
  addr : Nat
  bytes : Nat
  done : Nat := 0
  lock : Bool := false
  fences : Nat := 0
  since : Nat := 0
  read : Bool := false
  untagged : Bool := false
  deriving DecidableEq, Repr

/-- A tag that a read of the host holds (R391): its requester, and whether the tag is one of the pool. -/
structure ReadTag where
  who : Nat
  pool : Bool
  deriving DecidableEq, Repr

/-- A locked sequence (R422): transfers made, when its first grant was, and the first and last address under it. -/
structure DoorLock where
  made : Nat
  since : Nat
  first : Nat
  last : Nat
  deriving DecidableEq, Repr

/-- A Doorway (R420): raised requests, the grant in progress with the bytes it has moved, its locked sequence, and the requesters whose grants
have ended, oldest first, which rank below all others, and slots decided, modulo 8 (R560). -/
structure Door where
  waiting : List DoorReq := []
  grant : Option (DoorReq × Nat) := none
  lock : Option DoorLock := none
  dropped : List Nat := []
  slot : Nat := 0
  deriving DecidableEq, Repr

/-- The memory side (chapter 14): Doorways 0 to 15 at the DRAM channels, 16 at PCIe egress, 17 and 18 at the West and East seam egress; refresh
lag by channel × 32 + bank; the cycle (plus one) of the tracking steps last due by channel, and whether they wait; C0 slots of the
present window; requesters that have crossed WAIT_LIMIT in their present wait; the tags of the outstanding host reads, oldest first. -/
structure MemState where
  doors : Tbl Door := []
  lag : Tbl Int := []
  stepsAt : Tbl Nat := []
  stepsWait : List Nat := []
  c0Slots : Tbl Nat := []
  starved : List Nat := []
  tags : List ReadTag := []
  deriving DecidableEq, Repr

/-- Sums over the pixels of a record's span (R243); `sumMd` sums MD(row). -/
structure SpanAcc where
  area : Nat := 0
  sumF : Int := 0
  minF : Int := 0
  maxF : Int := 0
  tags : List Nat := [0, 0, 0, 0]
  colMin : Nat := 0
  colMax : Nat := 0
  sumCol : Nat := 0
  sumMd : Int := 0
  deriving DecidableEq, Repr

/-- An open defect (R231, R235, R238 to R243): first pixel (row, global column), owner's role, whether this device owns it, its identity
(0 = none yet), AREA_TOTAL, the present span's sums and flags, flags of every record, PIECE, SPAN_LAST_LINE of its last record, the
roles that held fragments, its box of local columns, the devices whose yields it waits for, and its last row with a pixel. -/
structure Defect where
  key : Nat
  line : Nat
  col : Nat
  role : Nat
  own : Bool
  side : Nat
  ident : Nat
  total : Nat
  acc : SpanAcc
  flags : Nat
  sticky : Nat
  pieces : Nat
  spanLast : Nat
  roles : List Nat
  boxLo : Nat
  boxHi : Nat
  holders : List Nat
  lastRow : Nat
  deriving DecidableEq, Repr

/-- A fragment with a pixel in the last labelled row: its defect (0 = cut off from it), its runs there in local columns, whether it holds
a merge-table entry, whether it touched a border while the table was full, and the defects of the fragments of the row before that it
continues (R227, R232). -/
structure Frag where
  id : Nat
  key : Nat
  role : Nat
  runs : List (Nat × Nat)
  entry : Bool
  full : Bool
  cont : List Nat
  deriving DecidableEq, Repr

/-- Border data of a row from a partner (R234): the BORDER payload's fields. -/
structure BorderRow where
  line : Nat
  set : Bool
  skipped : Bool
  first : Nat
  col : Nat
  ident : Nat
  deriving DecidableEq, Repr

/-- One entry of a YIELD (R459). -/
structure YieldEntry where
  ident : Nat
  acc : SpanAcc
  touch : Bool
  released : Bool
  roles : Nat
  deriving DecidableEq, Repr

/-- The yields of a row from a device, complete once LAST has come (R459). -/
structure YieldRow where
  line : Nat
  device : Nat
  last : Bool
  entries : List YieldEntry
  deriving DecidableEq, Repr

/-- The record settings from an output line on (R260). -/
structure RecVer where
  line : Nat
  enable : Bool
  conn4 : Bool
  foundDelay : Nat
  minArea : Nat
  continueMd : Nat
  seamWait : Nat
  deriving DecidableEq, Repr

/-- A row between labelling and its records (R233): when its first two conditions held, the labelled fragments with their pixels' sums
and flags, the fragments of the row before, joins made (absorbed, survivor), defects cut with their reason, whether the seams have been
joined and when, the LOST records that the row makes (reason, count, first, last, roles, open, least, greatest identity), the defects
that a partner shows to have a pixel in the row, and the identities of other devices that the row releases (R459). -/
structure RowWork where
  line : Nat
  readyAt : Nat
  joinedAt : Option Nat
  frags : List (Frag × SpanAcc × Nat)
  prev : List Frag
  absorbed : List (Nat × Nat)
  cut : List (Defect × Nat)
  lost : List (List Nat)
  alive : List Nat
  released : List Nat
  deriving DecidableEq, Repr

/-- The blob units (chapter 07). `mergedWait`: absorbed defects whose CLOSED record waits for the survivor's identity, with the survivor's key and
the last row of their span (R242). `aliases`: identities that a survivor has absorbed, with the survivor's key. -/
structure BlobState where
  vers : List RecVer := []
  defects : List Defect := []
  frags : List Frag := []
  nextRow : Nat := 0
  nextKey : Nat := 1
  nextFrag : Nat := 1
  work : Option RowWork := none
  west : List BorderRow := []
  east : List BorderRow := []
  yields : List YieldRow := []
  unlabelled : List (Nat × Nat × Nat) := []
  skips : List (Nat × Nat × Nat) := []
  lostRoles : List (Nat × Nat) := []
  session : Nat := 0
  mergedWait : List (Defect × Nat × Nat) := []
  aliases : List (Nat × Nat) := []
  deriving DecidableEq, Repr

/-- A Daled record on its way out: TYPE, the role it concerns, SPAN_LAST_LINE of a blob record, RSEQ, and its 128 bytes. -/
structure Rec where
  ty : Nat
  role : Option Nat
  line : Option Nat
  rseq : Nat
  bytes : List Byte
  deriving DecidableEq, Repr

/-- The pending LOST record of dropped records (R256). -/
structure LostRec where
  reason : Nat
  count : Nat
  rseq : Nat
  first : Option Nat
  last : Nat
  types : Nat
  roles : Nat
  deriving DecidableEq, Repr

/-- The record FIFO, the RSEQ last taken since entry to ARMED (R254), and the heartbeat's counts (R252 to R256): boundaries since
entry to ARMED, the cycle of the last HEARTBEAT, and the boundaries whose HEARTBEAT waits for the records of the rows before (R254). -/
structure RecState where
  rseq : Nat := 0
  fifo : List Rec := []
  lost : Option LostRec := none
  boundaries : Nat := 0
  hbAt : Nat := 0
  hbDue : List Nat := []
  deriving DecidableEq, Repr

/-- A layer descriptor of a model (R271). -/
structure DcaLayer where
  op : Nat
  kernel : Nat
  stride : Nat
  act : Nat
  inC : Nat
  outC : Nat
  src0 : Nat
  src1 : Nat
  wOfs : Nat
  bOfs : Nat
  qOfs : Nat
  pad : Nat
  deriving DecidableEq, Repr

/-- A model as a bank holds it (R269 to R271). -/
structure DcaModel where
  id : Nat
  classes : Nat
  inW : Nat
  inH : Nat
  inCh : Nat
  ops : Nat
  map : List Nat
  layers : List DcaLayer
  weights : List Byte
  lut : List Nat
  deriving DecidableEq, Repr

/-- What the markers and CLASSIFIED and MARKED records need of an identity (R8, R248, R249, R305): its first record's values, the stripe that
processed it among them. -/
structure Subject where
  ident : Nat
  role : Nat
  stripe : Nat
  line : Nat
  md : Int
  col : Nat
  colMin : Nat
  colMax : Nat
  deriving DecidableEq, Repr

/-- A classification request (R263 to R267, R279, R282, R283): its crop in local columns and rows, its bank, its deadline, whether the marker
decision is given, the crop once fetched, and whether it runs. -/
structure DcaReq where
  seq : Nat
  who : Subject
  left : Nat
  top : Nat
  w : Nat
  h : Nat
  bank : Nat
  deadline : Option Int
  decided : Bool
  crop : Option (List (List Int))
  running : Bool
  deriving DecidableEq, Repr

/-- The classifier (chapter 08): models of the two banks, the image bytes that a MODEL_LOAD has received, requests in order, and ACTIVE_BANK and
DECIDE_MD from an output line on. -/
structure DcaState where
  models : Tbl (Option DcaModel) := []
  images : Tbl (List Byte) := []
  reqs : List DcaReq := []
  nextSeq : Nat := 0
  vers : List (Nat × Nat × Nat) := []
  deriving DecidableEq, Repr

/-- What a marker keeps of a pool slot it armed (R306 to R308): whether it is an OFF slot, its partner slot in SPAN mode, the identity, the
ACTION, DECISION and TARGET of its MARKED record. -/
structure MarkSlot where
  marker : Nat
  off : Bool
  pair : Option Nat
  who : Subject
  action : Nat
  decision : Nat
  target : Int
  deriving DecidableEq, Repr

/-- An open span of a marker: its OFF slot, whether that has fired, and the least cycle in which it may close (R307). -/
structure MarkSpan where
  on : Nat
  off : Nat
  offFired : Bool
  closeAt : Nat
  deriving DecidableEq, Repr

/-- A marker output (R307): INHIBIT, the end of the running pulse interval, open spans, the end of holdoff, and what waits on holdoff: a pulse, and
spans, with the LINEAGE of its rise (R288); and the cycle (plus one) of the last INHIBIT event. -/
structure Mark where
  inhibit : Bool := false
  endAt : Nat := 0
  spans : List MarkSpan := []
  high : Bool := false
  holdUntil : Nat := 0
  waitPulse : Bool := false
  waitSpans : List MarkSpan := []
  waitLin : Nat := 0
  inhAt : Nat := 0
  deriving DecidableEq, Repr

/-- The markers (R304 to R309): outputs, what each pool slot was armed for, and firings on their way: slot, cycle of arrival, MD fired, and
what the slot was armed for. -/
structure MarkState where
  outs : Tbl Mark := []
  slots : List (Nat × MarkSlot) := []
  arrivals : List (Nat × Nat × Int × MarkSlot) := []
  deriving DecidableEq, Repr

/-- A correlation (R315): C(k) for k from −K to K, and S_A and S_B. -/
structure CorrSum where
  c : List Int := []
  sa : Int := 0
  sb : Int := 0
  deriving DecidableEq, Repr

/-- The values of two bands in a zone, or of green and another colour in a role's owned columns (R314), in one row: keys of A and B, first
column, values, and whether the row is clean for it, which is known once the row leaves the store. -/
structure CalPair where
  a : Nat
  b : Nat
  lo : Nat
  va : List Nat
  vb : List Nat
  clean : Bool
  deriving DecidableEq, Repr

/-- A row that the statistics unit keeps (R314): its line, whether its flags allow it, zones and colour pairs. -/
structure CalRow where
  line : Nat
  ok : Bool
  zones : List CalPair
  colors : List CalPair
  deriving DecidableEq, Repr

/-- The sums of a pair over a window: column sums of A and of B, clean rows, and both correlations (R314, R315). -/
structure PairSum where
  a : Nat
  b : Nat
  lo : Nat
  sumA : List Int
  sumB : List Int
  rows : Nat
  md : CorrSum
  cd : CorrSum
  deriving DecidableEq, Repr

/-- The sums of a window (R314): sum and count of each column's clean outputs, zones, colours. -/
structure CalSums where
  flat : List (Nat × Nat) := []
  zones : List PairSum := []
  colors : List PairSum := []
  deriving DecidableEq, Repr

/-- A component of an external calibration run (R326): role, channel, component, lines summed so far, and the column sums of each half. -/
structure ExtComp where
  role : Nat
  chan : Nat
  comp : Nat
  lines : Nat
  h1 : List Nat
  h2 : List Nat
  deriving DecidableEq, Repr

/-- A field of a tap word that an external calibration writes (R327): address of the word, lowest bit, width and value. -/
structure TapField where
  addr : Nat
  lo : Nat
  width : Nat
  val : Nat
  deriving DecidableEq, Repr

/-- The external calibration (R326, R327): EXT_MODE, WHITE_TARGET, REF_LINES, REF_MIN_SPAN and REF_AGREE as read at its start, the black sums once
complete, the sums of the present state, the tap fields that APPLY writes, and the dead columns of each role. -/
structure ExtCal where
  mode : Nat
  white : Nat
  lines : Nat
  minSpan : Nat
  agree : Nat
  black : List ExtComp := []
  sums : List ExtComp := []
  results : List TapField := []
  dead : List (Nat × Nat) := []
  deriving DecidableEq, Repr

/-- Self-calibration (R316 to R325): rows in hand, rows that left the store, the sums of both windows, the first line of window 1, the taps and
channel positions (CH_X0, red and blue XOFS by role × 4 + channel) at that line, whether a decision is made, and the targets of taps (by
address: GAIN, MD_DLY), of CH_X0 (by role × 4 + channel) and of XOFS (by (role × 4 + channel) × 2 + blue); `endedAt`: one more than the cycle in
which the last cycle was abandoned (R325). -/
structure CalState where
  rows : List CalRow := []
  left : List CalRow := []
  sums1 : CalSums := {}
  sums2 : CalSums := {}
  start : Nat := 0
  taps : Tbl Word := []
  places : Tbl (Int × Int × Int) := []
  decided : Bool := false
  gain : List (Nat × Nat) := []
  dly : List (Nat × Int) := []
  x0 : List (Nat × Int) := []
  xofs : List (Nat × Int) := []
  ext : Option ExtCal := none
  endedAt : Nat := 0
  deriving DecidableEq, Repr

/-- A section of the Pantry (R328). -/
structure PantrySec where
  ty : Nat
  index : Nat
  comp : Nat
  key : Nat
  width : Nat
  fmt : Nat
  body : List Byte
  deriving DecidableEq, Repr

/-- The contents of a Pantry write as one boundary gave them (R331): its line, TRIM_SEQ there, the sections, and whether a seed was omitted. -/
structure PantryTaken where
  line : Nat
  trimSeq : Nat
  secs : List PantrySec
  omitted : Bool
  deriving DecidableEq, Repr

/-- The Pantry (R328 to R332): sections of the current copy, the write under way (target copy, SEQ, bytes), whether a trigger of R330 has occurred
since the last write, cycles of the last write and of the last failure, whether SETTLED was seen since entry to INSPECT, and the ports whose
trims wait for their boundary, and the contents that the last boundary took for a write that is due. -/
structure PantryState where
  secs : List PantrySec := []
  writing : Option (Nat × Nat × List Byte) := none
  trigger : Bool := false
  lastWrite : Option Nat := none
  failedAt : Option Nat := none
  settledSeen : Bool := false
  ports : List Nat := []
  taken : Option PantryTaken := none
  deriving DecidableEq, Repr

/-- A display line of a Gallery region (R337, R339): its group, or none for a floor row, the region's first column when it was made, and the combined
values of each layer from there on. -/
structure GalLine where
  run : Nat
  group : Option Nat
  lo : Nat
  vals : List (Nat × List Nat)
  deriving DecidableEq, Repr

/-- A region of the Gallery: its groups newest first, and the group that is filling with its rows so far. -/
structure GalRegion where
  lines : List GalLine := []
  filling : Option (Nat × List (List (Nat × List Nat))) := none
  deriving DecidableEq, Repr

/-- A box of the overlay (R340, R341): the run of the output grid that its lines belong to, identity, first and last global column, first and last line, palette entry. -/
structure GalBox where
  run : Nat
  ident : Nat
  lo : Nat
  hi : Nat
  first : Nat
  last : Nat
  entry : Nat
  deriving DecidableEq, Repr

/-- The Gallery (chapter 11): the live copy of its staged registers, regions, boxes, palette entries of classified identities, the newest two
profile lines of PROF_LAYER, the cycle of an UPDATE that waits, frames since the transmitter or composition started, whether the frame
being scanned out met an underrun, the cycle of the last start of vertical blank, the sink's greatest lane count and rate, the cycle of TRAIN_FAIL, the run of the output grid, whose line
numbers begin anew, and whether the link trains again under a picture that goes on (R348). -/
structure GalState where
  live : Tbl Word := []
  regions : Tbl GalRegion := []
  boxes : List GalBox := []
  classes : List (Nat × Nat) := []
  profs : List (List Byte) := []
  updateAt : Option Nat := none
  frames : Nat := 0
  underrun : Bool := false
  sinkLanes : Nat := 0
  sinkRate : Nat := 0
  failAt : Nat := 0
  run : Nat := 0
  blankAt : Nat := 0
  retrain : Bool := false
  deriving DecidableEq, Repr

/-- A command as it was fetched (R360, R363): global queue, function, SQ_HEAD after the fetch, opcode, CID, FENCE, QUIET, whether a reserved
byte or flag was set, ARG, BUF_ADDR, BUF_LEN, SPEC, its context, and whether a reset of R384 has silenced it. -/
structure HostCmd where
  sq : Nat
  fn : Nat
  head : Nat
  op : Nat
  cid : Nat
  fence : Bool
  quiet : Bool
  bad : Bool
  arg : List Byte
  addr : Nat
  len : Nat
  spec : List Byte
  ctx : Option Nat := none
  silent : Bool := false
  waits : Bool := false
  deriving DecidableEq, Repr

/-- A posted buffer (R375): the CID and queue of its POST_BUFFER, its place, bytes and items written, and when its first item came. -/
structure PostBuf where
  cid : Nat
  sq : Nat
  addr : Nat
  len : Nat
  used : Nat := 0
  items : Nat := 0
  firstAt : Nat := 0
  deriving DecidableEq, Repr

/-- A completion entry that waits for room (R361, R364): its fields; the queue it answers, with the context that its writing frees; the context whose
buffer it keeps in use; and the interrupt source that made it. -/
structure CqEntry where
  result : Nat
  detail : Nat
  head : Nat
  sqId : Nat
  cid : Nat
  status : Nat
  ctx : Nat
  kind : Nat
  src : Option Nat := none
  frees : Option Nat := none
  holds : Option Nat := none
  source : Option Nat := none
  deriving DecidableEq, Repr

/-- A queue pair (R358 to R361, R381): the submission tail, completion entries that wait, entries not yet signalled, and when the first of
them was written. -/
structure Queue where
  tail : Nat := 0
  waiting : List CqEntry := []
  unsignalled : Nat := 0
  since : Nat := 0
  deriving DecidableEq, Repr

/-- A context (R370 to R373): its command, STATE (1 RUNNING, 2 SUSPENDED, 3 SUBSCRIBED, 4 COMPLETING), the index of the operation's present state,
progress, the next row or position of an operation or subscription, rows lost, rows or items done, a time, posted buffers, numbers that the
operation keeps, and what its FINAL entry will carry. -/
structure Ctx where
  cmd : HostCmd
  st : Nat := 1
  phase : Nat := 0
  progress : Nat := 0
  next : Nat := 0
  lost : Nat := 0
  done : Nat := 0
  at_ : Nat := 0
  bufs : List PostBuf := []
  keep : List Nat := []
  deriving DecidableEq, Repr

/-- A result register (R374): whether a result exists, whether unread, its STATUS and value, and the value latched by the last read. -/
structure RStat where
  ready : Bool := false
  fresh : Bool := false
  status : Nat := 0x1004
  value : Nat := 0
  latched : Nat := 0
  deriving DecidableEq, Repr

/-- The PCI Express side (R354 to R356, R381): Bus Master Enable by function, memory space enable of the PF, log2 of the BAR4 size in use and as last
written, NumVFs, vectors unmasked and vectors pending (function × 2,048 + vector), functions whose MSI-X is masked whole, and the address and data
words of the MSI-X tables ((function × 2,048 + vector) × 4 + word). -/
structure PcieState where
  bme : List Nat := []
  memEnable : Bool := false
  bar4 : Nat := 28
  bar4Next : Nat := 28
  numVfs : Nat := 0
  unmasked : List Nat := []
  pendingVec : List Nat := []
  masked : List Nat := []
  table : Tbl Word := []
  deriving DecidableEq, Repr

/-- The host interface (chapter 12): queues, commands fetched and not started, contexts, result registers, and the spool's records with the
number of records ever taken out of it, and the submission queue at which the rotation of fetches stands (R360). -/
structure HostState where
  queues : Tbl Queue := []
  fetched : List HostCmd := []
  ctxs : Tbl (Option Ctx) := []
  rstat : Tbl RStat := []
  spool : List Rec := []
  spoolOut : Nat := 0
  pcie : PcieState := {}
  fetchNext : Nat := 0
  deriving DecidableEq, Repr

/-- A DMA channel (chapter 13): whether a start is pending, the address and space of the next descriptor, the descriptor that runs with its address,
CHAIN_LIMIT and descriptors completed, whether the chain touched host memory, the context of its DMA_RUN, and the LINEAGE of DMA_DONE for the
chain that runs and for the start that is pending (R288). -/
structure DmaChan where
  startPending : Bool := false
  next : Nat := 0
  host : Bool := false
  desc : Option (Nat × List Byte) := none
  limit : Nat := 0
  count : Nat := 0
  touched : Bool := false
  ctx : Option Nat := none
  lineage : Nat := 0
  pendLineage : Nat := 0
  deriving DecidableEq, Repr

/-- Spare rotation (R517 to R529).  Switches of a role to another stripe: role, first row of the new stripe, old stripe.  The rotation in
progress (R519): spare and source stripe, its boundary B1, whether it retries, and the context of its SPARE_ROTATE; which of its stripes may still
retry (role).  The role of the last rotation and when it ended or the framed modes were entered; rotations that are due, each with its role and
context; roles that failed and wait for a take-over (role, whether the rotation's mirror period counts); when the first row was merged without a band line
of a role, plus one (R525); and the context of a TEST on a stripe. -/
structure RotState where
  switches : List (Nat × Nat × Nat) := []
  spare : Nat := 16
  source : Nat := 0
  b1 : Nat := 0
  retry : Bool := false
  op : Option Nat := none
  again : Option Nat := none
  last : Option Nat := none
  from_ : Nat := 0
  waiting : List (Nat × Option Nat) := []
  failed : List (Nat × Bool) := []
  stallAt : Tbl Nat := []
  deriving DecidableEq, Repr

/-- Where the outcome of a request goes beside its result register: nowhere more, to the context of a host command, or to another device as a
COMMIT_RESULT for its token. -/
inductive Who where
  | reg
  | host (ctx : Nat)
  | remote (origin token : Nat)
  deriving DecidableEq, Repr

/-- A pending commit (R488): its boundary when it is at an index, who asked, the LINEAGE of the Plaza event that did, the TOKEN under which it was
broadcast with the devices that have refused or answered, and the recipe that another device's COMMIT names. -/
structure CommitReq where
  index : Option Nat
  whos : List Who
  lineage : Nat := 0
  token : Option Nat := none
  refused : List Nat := []
  answered : List Nat := []
  recipe : Option Nat := none
  deriving DecidableEq, Repr

/-- A broadcast commit after its own hand-over (R491): token, who asked, devices that refused, devices that answered, when the hand-over was, and its
fingerprint and epoch. -/
structure CommitWait where
  token : Nat
  whos : List Who
  refused : List Nat
  answered : List Nat
  doneAt : Nat
  fp : Nat
  epoch : Nat
  deriving DecidableEq, Repr

/-- A recipe switch whose group 31 is not yet live (R482): recipe, form and index, who asked, and the words of registers that are not shadowed. -/
structure RecipeRun where
  recipe : Nat
  atIndex : Bool
  index : Nat
  who : Option Who
  words : List (Nat × Nat)
  deriving DecidableEq, Repr

/-- Shadow groups, commits and modes (chapter 16): the group (plus one) that claims each word; when a group's seal was accepted (plus one), and the
groups sealed in a framed mode; the pending next-boundary commit, those at an index, and broadcast ones that wait for answers; the next TOKEN; the
results of the last seal with its group, of the last commit with its epoch, and of the last mode request with its target; the pending mode request; the
recipe switch under way; the recipe store; the values that the last commit made live for words that trims change (R494); whether the
background copy of the tap tables runs; the epochs of the live configuration and the three before it; the sequence number of the master
microcode (R528); since when DISCOVER is in force, with whether it is late; whether a step of
the Foyer has failed, and whether a firmware image runs (R474). -/
structure CfgState where
  claims : Tbl Nat := []
  sealAt : Tbl Nat := []
  sealFramed : List Nat := []
  next : Option CommitReq := none
  atIndex : List CommitReq := []
  waits : List CommitWait := []
  token : Nat := 0
  sealR : RStat := {}
  sealGroup : Nat := 0
  commitR : RStat := {}
  commitEpoch : Nat := 0
  commitEpochLatched : Nat := 0
  modeR : RStat := {}
  modeTarget : Nat := 0
  modeReq : Option (Nat × Who) := none
  recipe : Option RecipeRun := none
  recipes : Tbl (List Byte) := []
  committed : Tbl Word := []
  copying : Bool := false
  history : List Nat := []
  ucode : Nat := 0
  discoverAt : Nat := 0
  late : Bool := false
  foyerBad : Bool := false
  fwRuns : Bool := false
  deriving DecidableEq, Repr

/-- A KSP session (R506): transport, identity, session key, the last SEQ processed with its response, whether it asked for SERVICE, and when its last
valid request came. -/
structure Session where
  transport : Nat
  id : Nat
  key : List Byte
  seq : Nat := 0
  response : List Byte := []
  service : Bool := false
  lastAt : Nat := 0
  deriving DecidableEq, Repr

/-- A held download (R508, R509): target, slot, length, digest, complete blocks, and the staged chunks of incomplete blocks by block × 64 + chunk. -/
structure Download where
  target : Nat
  slot : Nat
  len : Nat
  digest : List Byte
  blocks : List Nat := []
  chunks : Tbl (List Byte) := []
  deriving DecidableEq, Repr

/-- The Porch (chapter 17): the session, the nonce last given with its time and the place it was given with, the boot record in use, the held download, the request that waits for a
verification (peer, SEQ), when the trial timer expires, since when the image has been healthy, and the model or recipe on trial to confirm. -/
structure SvcState where
  session : Option Session := none
  nonce : Option (List Byte × Nat × Nat) := none
  record : List Byte := []
  recordValid : Bool := false
  download : Option Download := none
  verifying : Option (Peer × Nat) := none
  trialEnd : Option Nat := none
  healthyFrom : Nat := 0
  deriving DecidableEq, Repr

/-- Test and debug access (chapter 18): the draw that made DBG_NONCE, the current JTAG instruction, the byte on the pins TMUX0 to TMUX7, and the 64 B block
of the region that the DRAM tester checks next. -/
structure TstState where
  nonce : Nat := 0
  jtag : Nat := 1
  tmux : Nat := 0
  drt : Nat := 0
  deriving DecidableEq, Repr

/-- The platform (chapter 19): readings of 135 °C or above in a row, when the last thermal trip came, whether the comparator has tripped, whether PERST_N is low, and the reference
clocks that are lost (0 SYS, 1 LANE, 2 PCIe). -/
structure PlatState where
  hot : Nat := 0
  tripAt : Option Nat := none
  comparator : Bool := false
  perst : Bool := false
  lost : List Nat := []
  deriving DecidableEq, Repr

/-- A diagnostic capture in the event log (R472): the causes, when it was taken, the mode before, MD, LINES_PASSED, epoch, fingerprint, and the
LAST_ERR words of the blocks. -/
structure LogEntry where
  causes : List Nat
  time : Nat
  mode : Mode
  md : Int
  lines : Nat
  epoch : Nat
  print : Nat
  errs : List Nat
  deriving DecidableEq, Repr

/-- The part itself: everything but the queue of commands.  `time` is POS.TIME in position clocks; `regs` holds every register word and every
live copy; `masters` says which devices of the cascade call themselves master (R461); `hiHost` and `hiPorch` are the high halves latched by reads
of live 64-bit values (R16), by the address of the low word. -/
structure Dev where
  time : Nat := 0
  regs : Tbl Word := []
  mode : Mode := .reset
  faultReq : List Nat := []
  pos : PosState := {}
  plz : PlzState := {}
  ports : Tbl Port := []
  rings : Tbl Ring := []
  corr : Tbl Corr := []
  blv : BlvState := {}
  windows : Tbl (List WinRow) := []
  prf : PrfState := {}
  chains : Tbl Chain := []
  handed : Tbl (List HandRow) := []
  blob : BlobState := {}
  recs : RecState := {}
  dca : DcaState := {}
  marks : MarkState := {}
  rot : RotState := {}
  cal : CalState := {}
  pantry : PantryState := {}
  gal : GalState := {}
  host : HostState := {}
  dma : Tbl DmaChan := []
  seam : Tbl SeamPort := []
  masters : List Nat := []
  mem : MemState := {}
  cfg : CfgState := {}
  svc : SvcState := {}
  tst : TstState := {}
  plat : PlatState := {}
  /-- Random draws made so far; they are never repeated, not even after a reset. -/
  draws : Nat := 0
  hiHost : Tbl Word := []
  hiPorch : Tbl Word := []
  /-- Version and build number of the running firmware. -/
  fwVersion : Nat := 0
  fwBuild : Nat := 0
  /-- The event log in flash, oldest capture first (R472). -/
  log : List LogEntry := []
  prints : Tbl Nat := []
  seeds : List Seed := []
  taps : Tbl Word := []
  tapsLive : Tbl Word := []
  out : List Output := []
  /-- DRAM, byte by byte; a byte that nothing has written reads as zero (the model's choice). -/
  dram : Tbl Byte := []
  /-- The boot flash, byte by byte; an erased byte reads as 0xFF. -/
  flash : Tbl Byte := []
  /-- The writes of this step to DRAM, newest first: an address and the bytes from it on (the model's own; empty between steps). -/
  dramLog : List (Nat × List Byte) := []
  /-- The writes of this step to flash, newest first: an address, a length, and the bytes, 0xFF beyond them (the model's own; empty between
  steps). -/
  flashLog : List (Nat × Nat × List Byte) := []
  deriving DecidableEq, Repr

/-- The state of the block: the commands that wait, first in, first out, and the part. -/
structure State where
  pending : List Instr
  dev : Dev
  deriving DecidableEq, Repr

/-- Why a step can stop.  No command stops: the spec gives every row of the table its effect, and what no state holds is an operand or a free
value.  So there is no reason to name, and no claim can rest on one (safe). -/
inductive Fault where
  deriving DecidableEq, Repr

/-- Why a command can be refused. -/
inductive Refusal where
  /-- The command has no meaning yet. Nobody raises it: every command has its meaning (safe). -/
  | notModelled (mnemonic : String)
  deriving DecidableEq, Repr

/-- The part in RESET with nothing waiting: every register, table and latch at its reset value (R15, R548), DRAM without contents, the boot flash
erased.  The nonce of R534 is the first draw. Log 20 (DESIGN CHOICE, unsafe), 158 (DESIGN CHOICE, unsafe), 162 (DESIGN CHOICE, unsafe). -/
def State.reset : State := { pending := [], dev := { draws := 1 } }

end Sys2Proof.Machine
end

