-- ==== Sys2Proof/Machine/Ops.lean ====
section
/-!
DEFINITION. The named operations over the machine's stores: sparse tables, the register file with its fields, and the
plain arithmetic the chapters share (sign extension, rounding, saturation).
-/
namespace Sys2Proof.Machine

/-! ### Sparse tables -/

/-- The value at a key; an unlisted key has the default. -/
def tget {α : Type} (dflt : α) : Tbl α → Nat → α
  | [], _ => dflt
  | (k, v) :: t, i => if i = k then v else if i < k then dflt else tget dflt t i

/-- The table with a new value at a key, in canonical form: the default value removes the entry. -/
def tset {α : Type} [DecidableEq α] (dflt : α) : Tbl α → Nat → α → Tbl α
  | [], i, x => if x = dflt then [] else [(i, x)]
  | (k, v) :: t, i, x =>
    if i = k then (if x = dflt then t.dropWhile (fun e => e.1 ≤ i) else (i, x) :: t)
    else if i < k then (if x = dflt then (k, v) :: t else (i, x) :: (k, v) :: t)
    else (k, v) :: tset dflt t i x

/-- The canonical form below a lower bound: keys strictly rising and above it, no value equal to its key's default. -/
def tcanonFrom {α : Type} [DecidableEq α] (dflt : Nat → α) : Nat → Tbl α → Bool
  | _, [] => true
  | lo, (k, v) :: t => decide (lo ≤ k) && decide (v ≠ dflt k) && tcanonFrom dflt (k + 1) t

/-- The canonical form of a table. -/
def tcanon {α : Type} [DecidableEq α] (dflt : Nat → α) (t : Tbl α) : Bool := tcanonFrom dflt 0 t

/-- Change the value at a key. -/
def tupd {α : Type} [DecidableEq α] (dflt : α) (t : Tbl α) (i : Nat) (f : α → α) : Tbl α :=
  tset dflt t i (f (tget dflt t i))

/-- The values at `n` keys from `a` on, read in one pass. Log 16 (DESIGN CHOICE, unsafe). -/
def tread {α : Type} (dflt : α) (t : Tbl α) (a n : Nat) : List α := go (t.dropWhile fun x => x.1 < a) a n
where
  /-- The values at keys `a`, `a + 1`, … of a table whose keys are not below `a`. -/
  go (t : Tbl α) (a : Nat) : Nat → List α
    | 0 => []
    | n + 1 => match t with
      | [] => dflt :: go [] (a + 1) n
      | (k, v) :: r => if k = a then v :: go r (a + 1) n else dflt :: go ((k, v) :: r) (a + 1) n

/-- Pair values with the keys they go to. -/
def placed {α : Type} (a : Nat) : List α → List (Nat × α)
  | [] => []
  | b :: bs => (a, b) :: placed (a + 1) bs

/-- The table with `n` keys from `a` on replaced: by the given values, and by the default beyond them. -/
def tfill {α : Type} [DecidableEq α] (dflt : α) (t : Tbl α) (a n : Nat) (bs : List α) : Tbl α :=
  (t.takeWhile fun x => x.1 < a) ++ ((placed a (bs.take n)).filter fun x => x.2 ≠ dflt) ++ t.dropWhile fun x => x.1 < a + n

/-- Values at keys from `a` on, where a run of `n` values from `b` on has replaced those it covers. -/
def overlay {α : Type} (a : Nat) (xs : List α) (b : Nat) (run : List α) : List α :=
  if b + run.length ≤ a ∨ a + xs.length ≤ b then xs
  else if b ≤ a then (run.drop (a - b)).take xs.length ++ xs.drop (b + run.length - a)
  else xs.take (b - a) ++ run.take (a + xs.length - b) ++ xs.drop (b - a + run.length)

/-! ### Numbers -/

/-- The two's-complement value of the low `w` bits. -/
def sx (w v : Nat) : Int :=
  let m := v % 2 ^ w
  if m < 2 ^ (w - 1) then (m : Int) else (m : Int) - 2 ^ w

/-- The low `w` bits of an integer in two's complement. -/
def wrapN (w : Nat) (i : Int) : Nat := (i % (2 ^ w : Int)).toNat

/-- Quotient rounded to the nearest integer, ties away from zero. Log 113 (DEDUCED, unsafe). -/
def roundAway (n : Int) (d : Nat) : Int :=
  let q : Int := ((2 * n.natAbs + d) / (2 * d) : Nat)
  if n < 0 then -q else q

/-- Quotient rounded toward zero. -/
def truncDiv (n : Int) (d : Nat) : Int :=
  let q : Int := (n.natAbs / d : Nat)
  if n < 0 then -q else q

/-- Clamp between two bounds. -/
def clampI (lo hi x : Int) : Int := if x < lo then lo else if hi < x then hi else x

/-- Bits `[lo, lo + w)` of a number. -/
def bits (v lo w : Nat) : Nat := v / 2 ^ lo % 2 ^ w

/-- Replace bits `[lo, lo + w)` of a number. -/
def putBits (v lo w x : Nat) : Nat :=
  v - bits v lo w * 2 ^ lo + (x % 2 ^ w) * 2 ^ lo

/-- One bit of a number. -/
def bitOf (v i : Nat) : Bool := v / 2 ^ i % 2 = 1

/-- 1 for true. -/
def b2n (b : Bool) : Nat := if b then 1 else 0

/-- Whole position-clock cycles (2.5 ns) in a number of nanoseconds, rounded down. -/
def nsFloor (ns : Nat) : Nat := ns * 2 / 5

/-- The least number of position-clock cycles that lasts at least so many nanoseconds. -/
def nsCeil (ns : Nat) : Nat := (ns * 2 + 4) / 5

/-- Position-clock cycles in a number of microseconds (400 MHz). -/
def usCycles (us : Nat) : Nat := us * 400

/-! ### The register file -/

/-- The word at a BAR0 address. -/
def Dev.reg (d : Dev) (a : Nat) : Word := tget (resetWord a) d.regs a

/-- Store a whole word. -/
def Dev.setReg (d : Dev) (a : Nat) (v : Word) : Dev :=
  { d with regs := tset (resetWord a) d.regs a v }

/-- The word, or the two words, that hold a field, as a number. -/
def Dev.cell (d : Dev) (f : Fld) : Nat :=
  (d.reg f.addr).toNat + (if f.lo + f.w ≤ 32 then 0 else (d.reg (f.addr + 4)).toNat * 2 ^ 32)

/-- A field of a register, unsigned. -/
def Dev.fld (d : Dev) (f : Fld) : Nat := bits (d.cell f) f.lo f.w

/-- A field of a register, signed. -/
def Dev.sfld (d : Dev) (f : Fld) : Int := sx f.w (d.fld f)

/-- Is a field nonzero. -/
def Dev.flag (d : Dev) (f : Fld) : Bool := d.fld f ≠ 0

/-- Store a field; the other bits of its register stay. -/
def Dev.setFld (d : Dev) (f : Fld) (v : Nat) : Dev :=
  let c := putBits (d.cell f) f.lo f.w v
  let d := d.setReg f.addr (BitVec.ofNat 32 c)
  if f.lo + f.w ≤ 32 then d else d.setReg (f.addr + 4) (BitVec.ofNat 32 (c / 2 ^ 32))

/-- Store a signed value in a field. -/
def Dev.setFldI (d : Dev) (f : Fld) (v : Int) : Dev := d.setFld f (wrapN f.w v)

/-- Store a flag. -/
def Dev.setFlag (d : Dev) (f : Fld) (b : Bool) : Dev := d.setFld f (b2n b)

/-- The live value of a shadowed field (R18). -/
def Dev.live (d : Dev) (f : Fld) : Nat := d.fld (liveOf f)

/-- The live value of a shadowed field, signed. -/
def Dev.slive (d : Dev) (f : Fld) : Int := d.sfld (liveOf f)

/-- Is a live field nonzero. -/
def Dev.lflag (d : Dev) (f : Fld) : Bool := d.flag (liveOf f)

/-- Count up, wrapping. -/
def Dev.incr (d : Dev) (f : Fld) (n : Nat := 1) : Dev := d.setFld f (d.fld f + n)

/-- Count up, saturating. -/
def Dev.bump (d : Dev) (f : Fld) (n : Nat := 1) : Dev := d.setFld f (min (d.fld f + n) (2 ^ f.w - 1))

/-- Bit `i` of a field, as a one-bit field. -/
def Fld.bit (f : Fld) (i : Nat) : Fld := ⟨f.addr, f.lo + i, 1⟩

end Sys2Proof.Machine
end

