-- ==== Sys2Proof/Machine/Flags.lean ====
section
/-!
DEFINITION. Events: the producers of the Plaza (R286 to R292, R297), the event registers that feed some of them (R563),
and the addresses that events carry (R4 to R10).
-/
namespace Sys2Proof.Machine

/-! ### Addresses of places (R4 to R10) -/

/-- LINE, CASCADE and DEVICE, the same bits in every address type (R6). -/
def Dev.siteBits (d : Dev) : Nat :=
  Config.line.toNat * 2 ^ 26 + Config.cascade.toNat * 2 ^ 22 + d.fld R.KSL_CASCADE_DEVICE % 8 * 2 ^ 19

/-- A place address (R6). -/
def Dev.place (d : Dev) (stripe : Nat) (engine row lane : Nat := 0) : Nat :=
  d.siteBits + stripe % 32 * 2 ^ 14 + engine % 2 * 2 ^ 13 + row % 4 * 2 ^ 11 + lane % 128 * 2 ^ 4

/-- The device place: STRIPE = 31, lower fields zero (R288). -/
def Dev.devicePlace (d : Dev) : Nat := d.place 31

/-- A camera-stream address (R9). -/
def Dev.streamAddr (d : Dev) (stream : Nat) : Nat := 2 ^ 30 + d.siteBits + stream % 64 * 2 ^ 13

/-- A host-queue address (R10). -/
def Dev.queueAddr (d : Dev) (cq : Bool) (q : Nat) : Nat :=
  2 * 2 ^ 30 + d.siteBits + b2n cq * 2 ^ 18 + q % 16384 * 2 ^ 4

/-! ### Producer numbers (R288) -/
namespace P
def ltrig (g : Nat) : Nat := g
def cmp (k : Nat) : Nat := 0x30 + k
def framePos : Nat := 0x130
def motionStart : Nat := 0x131
def motionStop : Nat := 0x132
def reverse : Nat := 0x133
def posFault : Nat := 0x134
def prfSettled : Nat := 0x1C1
def prfOut : Nat := 0x1C2
def recFound : Nat := 0x1C5
def dcaDone : Nat := 0x1D1
def dcaDeadline : Nat := 0x1D2
def commitDone : Nat := 0x1E0
def modeChange : Nat := 0x1E1
def calAccept : Nat := 0x1E8
def calReject : Nat := 0x1E9
def dmaDone (n : Nat) : Nat := 0x200 + n
def tmr (n : Nat) : Nat := 0x240 + n
def gpi (n : Nat) : Nat := 0x250 + n
def mark (k : Nat) : Nat := 0x270 + k
def sw (n : Nat) : Nat := 0x280 + n
end P

/-- The numbers that R288 lists; the others are reserved. -/
def producerListed (p : Nat) : Bool :=
  p ≤ 0x134 || (0x140 ≤ p && p ≤ 0x153) || (0x160 ≤ p && p ≤ 0x170) || (0x180 ≤ p && p ≤ 0x190) ||
  (0x1A0 ≤ p && p ≤ 0x1B0) || (0x1C0 ≤ p && p ≤ 0x1C5) || (0x1D0 ≤ p && p ≤ 0x1D2) || p = 0x1E0 || p = 0x1E1 ||
  p = 0x1E8 || p = 0x1E9 || (0x1F0 ≤ p && p ≤ 0x1F6) || (0x200 ≤ p && p ≤ 0x28F && !(0x278 ≤ p && p ≤ 0x27F))

/-- The stream of a CLG port (R9, R83): as a PRIMARY one its role's, else STREAM_NUM. -/
def Dev.clgStream (d : Dev) (m : Nat) : Nat := if d.live (R.CLG_CTRL_MODE m) = 1 then d.live (R.CLG_CTRL_ROLE m) else d.live (R.CLG_CTRL_STREAM_NUM m)

/-- The address that a producer's events carry (R288). -/
def Dev.producerAddr (d : Dev) (p : Nat) : Nat :=
  if 0x140 ≤ p ∧ p ≤ 0x14F then d.streamAddr (p - 0x140)
  else if 0x150 ≤ p ∧ p ≤ 0x153 then d.streamAddr (d.clgStream (p - 0x150))
  else if 0x160 ≤ p ∧ p ≤ 0x170 then d.place (p - 0x160)
  else if 0x180 ≤ p ∧ p ≤ 0x190 then d.place (p - 0x180)
  else if 0x1A0 ≤ p ∧ p ≤ 0x1B0 then d.place (p - 0x1A0)
  else d.devicePlace

/-- The producer that the event register at a BAR0 address feeds (R563). Its mask is the next word. -/
def eventProducer (a : Nat) : Option Nat :=
  let o := a % 0x100000
  match a / 0x100000 with
  | 1 => if o = 8 then some P.posFault else none
  | 2 => if o % 0x10000 = 8 then some (0x140 + o / 0x10000) else none
  | 3 => if o % 0x1000 = 8 ∧ o < 0x4000 then some (0x150 + o / 0x1000) else none
  | 4 => if o = 0x800 then some 0x1F6 else none
  | 5 => if o = 0x804 then some 0x1C0 else if o = 0x3004 then some 0x1C3 else if o = 0x5004 then some 0x1C4 else none
  | 6 => if o = 0x804 then some 0x1D0 else none
  | 7 => if o = 8 then some 0x1F2 else none
  | 8 => if o = 0x10 then some 0x1F5 else none
  | 9 => if o = 0x800 then some 0x1F0 else none
  | 10 => if o = 8 then some 0x1F1 else none
  | 12 => if o = 4 then some 0x1F3 else none
  | 13 => if o = 0x30 then some 0x1F4 else none
  | b =>
    if 0x10 ≤ b ∧ b ≤ 0x20 then
      if o = 0x804 then some (0x160 + (b - 0x10)) else if o = 0x1804 then some (0x180 + (b - 0x10))
      else if o = 0x2808 then some (0x1A0 + (b - 0x10)) else none
    else none

/-! ### Channels (R289, R290) -/

/-- The channels that live CH_BIND words bind to a producer and enable. -/
def Dev.channelsOf (d : Dev) (p : Nat) : List Nat :=
  d.regs.filterMap fun (a, v) =>
    if 0x409000 ≤ a ∧ a < 0x40A000 ∧ bits v.toNat 15 1 = 1 ∧ bits v.toNat 0 10 = p then some ((a - 0x409000) / 4) else none

/-- The channels that consumer input `i` selects under the live configuration (R290). -/
def Dev.selected (d : Dev) (i : Nat) : List Nat :=
  [d.live (R.PLZ_IN_SEL0_CH0 i), d.live (R.PLZ_IN_SEL0_CH1 i), d.live (R.PLZ_IN_SEL1_CH2 i),
    d.live (R.PLZ_IN_SEL1_CH3 i)].take (d.live (R.PLZ_IN_SEL0_COUNT i))

/-- The consumer input that selects a channel (R291: at most one). -/
def Dev.inputOf (d : Dev) (c : Nat) : Option Nat :=
  (d.regs.filterMap fun (a, _) =>
    if 0x40C000 ≤ a ∧ a < 0x40D000 ∧ a % 16 = 0 then some ((a - 0x40C000) / 16) else none).find?
    fun i => (d.selected i).contains c

/-- Put an event on its channels, which count it; each consumer input that selects one receives it two cycles later (R286, R289). -/
def Dev.carry (d : Dev) (e : Fired) : Dev :=
  let ds := e.chans.filterMap fun c => (d.inputOf c).map fun i => ({ input := i, chan := c, kind := e.kind, lineage := e.lineage, addr := e.addr, floor := e.floor, due := d.time + 2 } : Delivery)
  let d := e.chans.foldl (fun d c => d.incr (R.PLZ_CH_CNT c)) d
  { d with plz := { d.plz with inflight := d.plz.inflight ++ ds, firedAt := d.time, fired := (if d.plz.firedAt = d.time then d.plz.fired else []) ++ [e] } }

/-- Put an event of a producer on the channels bound to it (R289). A producer makes at most one event in a cycle (R286). -/
def Dev.route (d : Dev) (p : Nat) (kind : EvKind) (lin addr : Nat) (floor : Bool) : Dev :=
  if tget 0 d.plz.lastFire p = d.time + 1 then d else
  let d := d.carry { producer := p, kind := kind, lineage := lin, addr := addr, floor := floor, chans := d.channelsOf p }
  { d with plz := { d.plz with lastFire := tset 0 d.plz.lastFire p (d.time + 1) } }

/-- New settings are live: the events made in this cycle go where they lead (R292). Log 266 (DEDUCED, unsafe). -/
def Dev.reroute (d : Dev) : Dev :=
  if d.plz.firedAt ≠ d.time then d else
  let es := d.plz.fired
  let d := es.foldl (fun d e => e.chans.foldl (fun d c => d.incr (R.PLZ_CH_CNT c) (2 ^ 32 - 1)) d) d
  let d := { d with plz := { d.plz with inflight := d.plz.inflight.filter fun x => x.due ≠ d.time + 2, fired := [] } }
  es.foldl (fun d e => d.carry { e with chans := d.channelsOf e.producer }) d

/-- The W1C bits of a word that the hardware has set in this cycle (R20). -/
def Dev.setHere (d : Dev) (a : Nat) : Nat := if d.plz.setAt = d.time then tget 0 d.plz.setNow a else 0

/-- Note that the hardware sets a W1C bit in this cycle, so that no write of the same cycle clears it (R20). -/
def Dev.noteSet (d : Dev) (f : Fld) : Dev :=
  let t := if d.plz.setAt = d.time then d.plz.setNow else []
  { d with plz := { d.plz with setAt := d.time, setNow := tset 0 t f.addr (tget 0 t f.addr ||| 2 ^ f.lo) } }

/-- The hardware sets a W1C bit (R17, R20). -/
def Dev.setBit (d : Dev) (f : Fld) : Dev := (d.setFld f 1).noteSet f

/-- A write to the fields of a word without behaviour of their own: RW bits are taken, W1C bits written one are cleared, and a counter register
that clears on a write is cleared (R17). A W1C bit that the hardware sets in the same cycle stays set (R20). -/
def Dev.plainWrite (d : Dev) (a v : Nat) : Dev :=
  match findDesc a with
  | none => d
  | some r =>
    let x := (d.reg a).toNat
    let x := x - (x &&& r.rw) + (v &&& r.rw)
    let hit := x &&& v &&& r.w1c
    let x := x - (hit - (hit &&& d.setHere a))
    d.setReg a (BitVec.ofNat 32 (x - (x &&& r.clr)))

/-- Set a bit of an event register. When it goes from 0 to 1 while its mask bit is 0, the producer that the register
feeds makes an event (R563). -/
def Dev.raise (d : Dev) (f : Fld) : Dev :=
  if d.flag f then d.noteSet f else
  let d := d.setBit f
  match eventProducer f.addr with
  | some p => if d.flag ⟨f.addr + 4, f.lo, 1⟩ then d else d.route p .pulse 0 (d.producerAddr p) false
  | none => d

/-- Raise an event when a condition holds. -/
def Dev.raiseIf (d : Dev) (b : Bool) (f : Fld) : Dev := if b then d.raise f else d

/-- A producer makes an event. LINEAGE 7 is suppressed (R297). Log 103 (DESIGN CHOICE, unsafe). -/
def Dev.fire (d : Dev) (p : Nat) (kind : EvKind := .pulse) (lin : Nat := 0) (floor : Bool := false) : Dev :=
  if 7 ≤ lin then
    let d := d.setBit (Fld.bit (R.PLZ_LOOP_MAP (p / 32)) (p % 32))
    let d := (d.bump R.PLZ_LOOP_CNT).setFld R.PLZ_LAST_ERR 0xA005
    d.raise R.PLZ_EVENTS_LOOP
  else d.route p kind lin (d.producerAddr p) floor

end Sys2Proof.Machine
end

