-- ==== Sys2Proof/Machine/Operands.lean ====
section
/-!
DEFINITION. Bytes and memory operands: little-endian packing (R11), reads and writes of DRAM (R406, R427) and of the boot
flash (R474), and the checksums the formats use (CRC-32 of IEEE 802.3, CRC-64 of R494).
-/
namespace Sys2Proof.Machine

/-! ### Little-endian packing -/

/-- The low `n` bytes of a number, least significant first. -/
def leBytes : Nat → Nat → List Byte
  | 0, _ => []
  | n + 1, v => BitVec.ofNat 8 v :: leBytes n (v / 256)

/-- The number that little-endian bytes spell. -/
def leNat : List Byte → Nat
  | [] => 0
  | b :: bs => b.toNat + 256 * leNat bs

/-- The number that big-endian bytes spell. -/
def beNat (bs : List Byte) : Nat := bs.foldl (fun n b => n * 256 + b.toNat) 0

/-- The low `n` bytes of a number, most significant first. -/
def beBytes (n v : Nat) : List Byte := (leBytes n v).reverse

/-- The low `n` bytes of a signed number in two's complement. -/
def leInt (n : Nat) (i : Int) : List Byte := leBytes n (wrapN (8 * n) i)

/-- `n` bytes of a list from an offset, zero beyond its end. -/
def slice (bs : List Byte) (off n : Nat) : List Byte :=
  let x := (bs.drop off).take n
  x ++ List.replicate (n - x.length) 0

/-- The unsigned little-endian field of `n` bytes at an offset. -/
def leAt (bs : List Byte) (off n : Nat) : Nat := leNat (slice bs off n)

/-- The signed little-endian field of `n` bytes at an offset. -/
def leAtI (bs : List Byte) (off n : Nat) : Int := sx (8 * n) (leAt bs off n)

/-- `n` zero bytes. -/
def zeros (n : Nat) : List Byte := List.replicate n 0

/-- Cut or pad a list of bytes to a length. Log 8 (DESIGN CHOICE, unsafe). -/
def fit (n : Nat) (bs : List Byte) : List Byte := slice bs 0 n

/-- Little-endian bytes of 32-bit words. -/
def wordBytes (ws : List Nat) : List Byte := ws.flatMap (leBytes 4)

/-- The 32-bit words of a list of bytes; a short last word is padded with zero. -/
def bytesWords : Nat → List Byte → List Nat
  | 0, _ => []
  | n + 1, bs => leAt bs 0 4 :: bytesWords n (bs.drop 4)

/-! ### DRAM -/

/-- Installed DRAM in bytes (R406). -/
def Dev.installed (d : Dev) : Nat := d.fld R.MEM_INSTALLED

/-- A request reached beyond installed DRAM: OUT_OF_RANGE, with the first such address (R427). Log 18 (DEDUCED, unsafe). -/
def Dev.outOfRange (d : Dev) (a : Nat) : Dev :=
  let d := if d.flag R.MEM_EVENTS_OUT_OF_RANGE then d else d.setFld R.MEM_OOR_ADDR a
  (d.setFld R.MEM_LAST_ERR 0x3005).raise R.MEM_EVENTS_OUT_OF_RANGE

/-- Read `n` bytes of DRAM, this step's writes first; bytes beyond installed DRAM read zero (R427). Log 16 (DESIGN CHOICE, unsafe). -/
def Dev.dramRead (d : Dev) (a n : Nat) : List Byte :=
  let m := min n (d.installed - a)
  d.dramLog.foldr (fun r xs => overlay a xs r.1 r.2) (tread 0 d.dram a m) ++ List.replicate (n - m) 0

/-- The byte at a DRAM address. -/
def Dev.dramByte (d : Dev) (a : Nat) : Byte := (d.dramRead a 1).headD 0

/-- The first address of a request that lies beyond installed DRAM. Log 18 (DEDUCED, unsafe). -/
def Dev.oorOf (d : Dev) (a n : Nat) : Option Nat :=
  if n = 0 ∨ a + n ≤ d.installed then none else some (max a d.installed)

/-- Write bytes to DRAM; bytes beyond installed DRAM are dropped and reported (R427). Log 18 (DEDUCED, unsafe), 19 (DESIGN CHOICE, unsafe). -/
def Dev.dramWrite (d : Dev) (a : Nat) (bs : List Byte) : Dev :=
  let ok := bs.take (d.installed - a)
  let d := { d with dramLog := (a, ok) :: d.dramLog }
  match d.oorOf a bs.length with
  | some x => d.outOfRange x
  | none => d

/-- A read that reports a request beyond installed DRAM. -/
def Dev.dramLoad (d : Dev) (a n : Nat) : List Byte × Dev :=
  (d.dramRead a n, match d.oorOf a n with | some x => d.outOfRange x | none => d)

/-! ### The boot flash -/

/-- The bytes of a write to flash, 0xFF beyond those given. -/
def flashRun (n : Nat) (bs : List Byte) : List Byte := bs.take n ++ List.replicate (n - bs.length) 0xFF

/-- Read `n` bytes of flash, this step's writes first. Log 17 (PRESUMED, unsafe). -/
def Dev.flashRead (d : Dev) (a n : Nat) : List Byte :=
  d.flashLog.foldr (fun r xs => if r.1 + r.2.1 ≤ a ∨ a + n ≤ r.1 then xs else overlay a xs r.1 (flashRun r.2.1 r.2.2)) (tread 0xFF d.flash a n)

/-- Erase a range of flash to 0xFF and program bytes at its start. -/
def Dev.flashFill (d : Dev) (a n : Nat) (bs : List Byte) : Dev := { d with flashLog := (a, n, bs) :: d.flashLog }

/-- Erase a range of flash to 0xFF. -/
def Dev.flashErase (d : Dev) (a n : Nat) : Dev := d.flashFill a n []

/-! ### Checksums -/

/-- One bit of the reflected CRC-32. -/
def crc32Bit (c : Nat) : Nat := if c % 2 = 1 then (c / 2) ^^^ 0xEDB88320 else c / 2

/-- `n` bits of the reflected CRC-32. -/
def crc32Bits : Nat → Nat → Nat
  | 0, c => c
  | n + 1, c => crc32Bits n (crc32Bit c)

/-- CRC-32 (IEEE 802.3). -/
def crc32 (bs : List Byte) : Nat :=
  (bs.foldl (fun c b => crc32Bits 8 (c ^^^ b.toNat)) 0xFFFFFFFF) ^^^ 0xFFFFFFFF

/-- `n` bits of the CRC-64 of R494. -/
def crc64Bits : Nat → UInt64 → UInt64
  | 0, c => c
  | n + 1, c => crc64Bits n (if c >>> 63 = 1 then (c <<< 1) ^^^ 0x42F0E1EBA9EA3693 else c <<< 1)

/-- What the CRC-64 of R494 makes of each byte value. -/
def crc64Table : Array UInt64 := (Array.range 256).map fun i => crc64Bits 8 (UInt64.ofNat i <<< 56)

/-- One byte of the CRC-64 of R494. -/
def crc64Byte (c : UInt64) (b : Byte) : UInt64 := (c <<< 8) ^^^ crc64Table.getD (((c >>> 56).toNat ^^^ b.toNat)) 0

/-- CRC-64 of R494: no reflection, initial value 0, no final exclusive-or. -/
def crc64 (bs : List Byte) : Nat := (bs.foldl crc64Byte 0).toNat

/-- Send something out of the part. Log 6 (DESIGN CHOICE, safe), 7 (DESIGN CHOICE, safe), 224 (DESIGN CHOICE, unsafe). -/
def Dev.emit (d : Dev) (o : Output) : Dev := { d with out := d.out ++ [o] }

end Sys2Proof.Machine
end

