-- ==== Sys2Proof/Machine/Lines.lean ====
section
/-!
DEFINITION. Line coding of a seam port (R436 to R438, R452): framing into the byte stream, striping over the logical lanes, sync headers,
scrambling, and the ordered sets between.
-/
namespace Sys2Proof.Machine

/-! ### Scrambling (R437) -/

/-- Width and feedback of a rate's scrambler: the polynomial without its highest term. -/
def scramblerOf (rate : Nat) : Nat × Nat := if rate = 1 then (16, 2 ^ 5 + 2 ^ 4 + 2 ^ 3 + 1) else (23, 2 ^ 21 + 2 ^ 16 + 2 ^ 8 + 2 ^ 5 + 2 ^ 2 + 1)

/-- The seed of lane `n`. -/
def laneSeed (rate n : Nat) : Nat := if rate = 1 then 0xFFFF else (0x1DBFBC ^^^ (n * 0x0B4C5F)) % 2 ^ 23

/-- One bit leaves the scrambler: its highest one, which is fed back. Log 275 (PRESUMED, unsafe). -/
def scramblerStep (width taps s : Nat) : Nat × Nat :=
  let out := bits s (width - 1) 1
  (out, (2 * s % 2 ^ width) ^^^ (out * taps))

/-- The bits of a byte are scrambled lowest first. Log 275 (PRESUMED, unsafe). -/
def scramble (rate s : Nat) (b : Byte) : Byte × Nat :=
  let (width, taps) := scramblerOf rate
  let (key, s) := (List.range 8).foldl (fun (x : Nat × Nat) (i : Nat) => let (o, s) := scramblerStep width taps x.2; (x.1 + o * 2 ^ i, s)) (0, s)
  (b ^^^ BitVec.ofNat 8 key, s)

/-! ### Ordered sets (R438) -/

/-- The control symbols of 8b/10b that the link uses, by the byte that names them. -/
def K28 (n : Nat) : LaneSym := .control (BitVec.ofNat 8 (32 * n + 28))

/-- The sync header of a block, sent first. -/
def syncHeader (ordered : Bool) : LaneSym := .header (if ordered then 0b0101 else 0b1010)

/-- What a set puts on each logical lane at a rate. -/
def OrderedSet.symbols (rate : Nat) : OrderedSet → List LaneSym
  | .skp => if rate = 1 then [K28 5, K28 0, K28 0, K28 0] else syncHeader true :: List.replicate 16 (.byte 0xAA)
  | .sds => if rate = 1 then [K28 5, K28 2, K28 2, K28 2] else [syncHeader true, .byte 0xE1] ++ List.replicate 15 (.byte 0x87)
  | .doze => if rate = 1 then [K28 5, K28 3, K28 3, K28 3] else syncHeader true :: List.replicate 16 (.byte 0x66)
  | .wake => if rate = 1 then K28 5 :: List.replicate 15 (K28 7) else syncHeader true :: List.replicate 16 (.byte 0x55)

/-- How many WAKE sets fill 2 µs (R450): 160 unit intervals each at K1, 132 above. -/
def wakeSets (rate : Nat) : Nat := if rate = 1 then 100 else (2000 * (8 * 2 ^ (rate - 1)) + 131) / 132

/-! ### The stream (R437, R452) -/

/-- A packet in the stream: STP, then its bytes with CONT after every 64 while bytes remain; the marks are control symbols at K1. -/
def packetStream (rate : Nat) (bs : List Byte) : List (Bool × Byte) :=
  let mark := fun (b : Byte) => (decide (rate = 1), b)
  let cont := if rate = 1 then (0xDC : Byte) else 0x3C
  mark 0xFB :: bs.zipIdx.flatMap fun (b, i) => (if 0 < i ∧ i % 64 = 0 then [mark cont] else []) ++ [(false, b)]

/-- Each lane of a port, before anything is on it. -/
def bareLanes (w : Nat) : List (List LaneSym) := List.replicate w []

/-- The scramblers of every lane as seeded. -/
def freshKeys (rate w : Nat) : List Nat := (List.range w).map (laneSeed rate)

/-- A period begins on all lanes: a SKP first where one is due, and at K2 and K3 the sync header of the block. A COM seeds the scramblers of K1.
Log 276 (DEDUCED, unsafe). -/
def linePeriod (rate w : Nat) (x : SeamLine × List (List LaneSym)) : SeamLine × List (List LaneSym) :=
  let (l, lanes) := x
  let due := decide ((if rate = 1 then 1020 else 511) ≤ l.periods)
  let lanes := if due then lanes.map fun y => y ++ OrderedSet.skp.symbols rate else lanes
  let l := if due then { l with periods := 0, keys := if rate = 1 then freshKeys rate w else l.keys } else l
  ({ l with periods := l.periods + 1 }, if rate = 1 then lanes else lanes.map fun y => y ++ [syncHeader false])

/-- Byte k of the stream goes to lane k mod W, scrambled unless it is a control symbol. Log 275 (PRESUMED, unsafe). -/
def lineByte (rate w : Nat) (x : SeamLine × List (List LaneSym)) (s : Bool × Byte) : SeamLine × List (List LaneSym) :=
  let x := if x.1.sent % (if rate = 1 then w else 16 * w) = 0 then linePeriod rate w x else x
  let (l, lanes) := x
  let n := l.sent % w
  let l' := { l with sent := l.sent + 1 }
  if s.1 then (l', lanes.modify n fun y => y ++ [.control s.2])
  else
    let (b, key) := scramble rate (l.keys.getD n 0) s.2
    ({ l' with keys := l.keys.set n key }, lanes.modify n fun y => y ++ [.byte b])

/-- What a piece of the stream puts on each logical lane. Log 276 (DEDUCED, unsafe). -/
def lineCode (rate w : Nat) (l : SeamLine) (ss : List (Bool × Byte)) : SeamLine × List (List LaneSym) := ss.foldl (lineByte rate w) (l, bareLanes w)

/-- The stream after an SDS at cycle `t`. -/
def lineStart (rate w t : Nat) : SeamLine := { sent := 0, periods := 0, keys := freshKeys rate w, sdsAt := t }

end Sys2Proof.Machine
end

