-- ==== Sys2Proof/Machine/Packets.lean ====
section
/-!
DEFINITION. Sending packets on the seam ports (R452 to R456): the header, the count of bytes, LSEQ and what waits for an
acknowledgement. What the part does with packets it receives stands in Seam.lean.
-/
namespace Sys2Proof.Machine

def seam0 : SeamPort := {}
def Dev.seamPort (d : Dev) (side : Nat) : SeamPort := tget seam0 d.seam side
def Dev.setSeamPort (d : Dev) (side : Nat) (x : SeamPort) : Dev := { d with seam := tset seam0 d.seam side x }

/-! Packet types (R454). -/
namespace PT
def ack : Nat := 0x01
def cap : Nat := 0x02
def linkinfo : Nat := 0x03
def pos : Nat := 0x10
def sync : Nat := 0x11
def syncReq : Nat := 0x12
def commit : Nat := 0x13
def commitResult : Nat := 0x14
def apron : Nat := 0x20
def border : Nat := 0x21
def yield : Nat := 0x22
end PT

/-- The reliable types (R454). -/
def reliable (t : Nat) : Bool := t = PT.cap || t = PT.sync || t = PT.syncReq || t = PT.commit || t = PT.commitResult

/-- Header and payload as sent (R452, R453). -/
def Packet.bytes (p : Packet) : List Byte :=
  let h := leBytes 1 p.ptype ++ leBytes 1 (p.src % 8 + p.dst % 8 * 8 + b2n p.bcast * 64) ++ leBytes 2 p.payload.length ++ leBytes 2 p.lseq ++ leBytes 1 p.hops ++ [0] ++ leBytes 4 p.epoch
  h ++ leBytes 4 (crc32 h) ++ p.payload ++ (if p.payload = [] then [] else leBytes 4 (crc32 p.payload))

/-- Bytes of a packet on the link, STP and continuation marks included (R452). -/
def Packet.size (p : Packet) : Nat :=
  let n := 16 + p.payload.length + (if p.payload = [] then 0 else 4)
  1 + n + (n - 1) / 64

/-- The position this device uses in SRC and in forwarding (R455). -/
def Dev.ownPos (d : Dev) : Nat :=
  if d.flag R.KSL_CASCADE_FIXED then d.fld R.KSL_CASCADE_DEVICE else d.fld R.KSL_CASCADE_W

/-- Is a partner Active on a side (R448). -/
def Dev.sideActive (d : Dev) (side : Nat) : Bool := d.flag (R.KSL_PORT_STATUS_DATA side)

/-- May a port carry a packet of a type now (R448). -/
def Dev.carries (d : Dev) (side t : Nat) : Bool :=
  if PT.apron ≤ t then d.sideActive side
  else if t = PT.cap ∨ t = PT.ack then decide (4 ≤ d.fld (R.KSL_PORT_STATUS_STAGE side))
  else decide (d.fld (R.KSL_PORT_STATUS_STAGE side) = 5)

/-- The rate and the width that a port's line coding has. -/
def Dev.seamRate (d : Dev) (side : Nat) : Nat := d.fld (R.KSL_PORT_STATUS_RATE side)
def Dev.seamWidth (d : Dev) (side : Nat) : Nat := max (d.seamPort side).order.length 1

/-- A port sends an ordered set on all its lanes; an SDS starts the stream anew (R437, R438). -/
def Dev.putSet (d : Dev) (side times : Nat) (s : OrderedSet) : Dev :=
  let d := d.emit (.seamSet side times (s.symbols (d.seamRate side)))
  if s = .sds then
    let x := d.seamPort side
    d.setSeamPort side { x with line := lineStart (d.seamRate side) (d.seamWidth side) d.time }
  else d

/-- The sets before a packet: a dozing transmitter sends WAKE for 2 µs, SKP and SDS (R450); an SDS goes before the first packet that begins 8 µs or more
after the last one (R452). -/
def Dev.leadIn (d : Dev) (side : Nat) : Dev :=
  if d.fld (R.KSL_PORT_STATUS_TX_PWR side) = 1 then ((d.putSet side (wakeSets (d.seamRate side)) .wake).putSet side 1 .skp).putSet side 1 .sds
  else if (d.seamPort side).line.sdsAt + usCycles 8 ≤ d.time then d.putSet side 1 .sds else d

/-- Put a packet on the lanes, behind as many idle bytes as have passed (R437, R452). Log 274 (DESIGN CHOICE, safe). -/
def Dev.putLanes (d : Dev) (side : Nat) (p : Packet) : Dev :=
  let x := d.seamPort side
  let idle := List.replicate (Config.idleBytes side d.time x.line.sent) (false, (0 : Byte))
  let (line, lanes) := lineCode (d.seamRate side) (d.seamWidth side) x.line (idle ++ packetStream (d.seamRate side) p.bytes)
  (d.setSeamPort side { x with line := line, lastSent := d.time }).emit (.seamLanes side lanes)

/-- A packet goes out on a port. A dozing transmitter wakes for it (R450). -/
def Dev.putOut (d : Dev) (side : Nat) (p : Packet) : Dev :=
  let d := (d.leadIn side).setFld (R.KSL_PORT_STATUS_TX_PWR side) 0
  let d := d.incr (R.KSL_PORT_TX_BYTES side) p.size
  (d.emit (.seam side p.bytes)).putLanes side p

/-- Hand a packet to a port (R450, R454, R456): a reliable one takes the next LSEQ and is kept until it is acknowledged; it waits while 32
are, or while the transmitter is forced to doze. Log 154 (DESIGN CHOICE, unsafe). -/
def Dev.sendPacket (d : Dev) (side : Nat) (p : Packet) : Dev :=
  if !(d.carries side p.ptype) then d else
  let x := d.seamPort side
  if d.fld (R.KSL_PORT_POWER_TX_FORCE side) = 1 ∨ (reliable p.ptype ∧ 32 ≤ x.unacked.length) then
    d.setSeamPort side { x with waiting := x.waiting ++ [p] }
  else if reliable p.ptype then
    let n := (x.txSeq + 1) % 65536
    let p := { p with lseq := n }
    (d.setSeamPort side { x with txSeq := n, unacked := x.unacked ++ [(p, d.time)] }).putOut side p
  else d.putOut side p

/-- A packet of this device's own. -/
def Dev.newPacket (d : Dev) (t dst : Nat) (bcast : Bool) (payload : List Byte) : Packet :=
  { ptype := t, src := d.ownPos, dst := dst, bcast := bcast, lseq := 0, hops := 0, epoch := d.fld R.GLB_EPOCH, payload := payload }

/-- Send to the partner on a side. -/
def Dev.sendPartner (d : Dev) (side t : Nat) (payload : List Byte) : Dev :=
  d.sendPacket side (d.newPacket t (if side = 0 then d.ownPos - 1 else d.ownPos + 1) false payload)

/-- Send to a device by position (R455). -/
def Dev.sendTo (d : Dev) (t dst : Nat) (payload : List Byte) : Dev :=
  if dst = d.ownPos then d else d.sendPacket (if dst < d.ownPos then 0 else 1) (d.newPacket t dst false payload)

/-- Send to all devices. -/
def Dev.broadcast (d : Dev) (t : Nat) (payload : List Byte) : Dev :=
  let p := d.newPacket t 0 true payload
  (d.sendPacket 0 p).sendPacket 1 p

end Sys2Proof.Machine
end

