-- ==== Sys2Proof/Machine/Position.lean ====
section
/-!
DEFINITION. Web position and the position scheduler (chapter 01): encoders, WPOS, MD, speed, motion, line-trigger
generators, the output grid, compare slots and the position of a slave.
-/
namespace Sys2Proof.Machine

/-- An idle encoder. -/
def enc0 : Enc := {}
/-- An idle generator. -/
def gen0 : Gen := {}
/-- An idle slot. -/
def slot0 : Slot := {}

def Dev.enc (d : Dev) (e : Nat) : Enc := tget enc0 d.pos.encs e
def Dev.setEnc (d : Dev) (e : Nat) (x : Enc) : Dev := { d with pos := { d.pos with encs := tset enc0 d.pos.encs e x } }
def Dev.gen (d : Dev) (g : Nat) : Gen := tget gen0 d.pos.gens g
def Dev.setGen (d : Dev) (g : Nat) (x : Gen) : Dev := { d with pos := { d.pos with gens := tset gen0 d.pos.gens g x } }
def Dev.slot (d : Dev) (k : Nat) : Slot := tget slot0 d.pos.slots k
def Dev.setSlot (d : Dev) (k : Nat) (x : Slot) : Dev := { d with pos := { d.pos with slots := tset slot0 d.pos.slots k x } }

/-- The framed modes, in which the output grid advances (R465). -/
def Mode.framed : Mode → Bool
  | .inspect | .degraded | .calibrate | .replay => true
  | _ => false

/-- The modes in which generators issue triggers (R41). -/
def Mode.triggers : Mode → Bool
  | .inspect | .degraded | .calibrate => true
  | _ => false

/-- Does the part replay Attic rows (R49, SOURCE = 0): no camera line is formed, and the Attic is not written. -/
def Dev.atticReplay (d : Dev) : Bool :=
  decide (d.mode = .replay) && d.host.ctxs.any fun x => match x.2 with | some c => decide (c.cmd.op = 0x13) && decide (c.keep.getD 0 0 = 0) | none => false

/-! ### Words written in this cycle (R21) -/

/-- Keep a word as it is before a write of this cycle: a rule that is evaluated in every cycle uses that value until the next one (R21).
Log 226 (DEDUCED, unsafe). -/
def Dev.noteWord (d : Dev) (a : Nat) : Dev :=
  let w := if d.pos.wroteAt = d.time then d.pos.wrote else []
  if w.any fun x => x.1 = a then d else { d with pos := { d.pos with wroteAt := d.time, wrote := (a, d.reg a) :: w } }

/-- A word as the rules of this cycle see it. Log 226 (DEDUCED, unsafe). -/
def Dev.regNow (d : Dev) (a : Nat) : Word :=
  if d.pos.wroteAt = d.time then (match d.pos.wrote.find? fun x => x.1 = a with | some x => x.2 | none => d.reg a) else d.reg a

/-- A field as the rules of this cycle see it. -/
def Dev.fldNow (d : Dev) (f : Fld) : Nat :=
  bits ((d.regNow f.addr).toNat + (if f.lo + f.w ≤ 32 then 0 else (d.regNow (f.addr + 4)).toNat * 2 ^ 32)) f.lo f.w

/-- MD_OFFSET as the rules of this cycle see it (R34). -/
def Dev.offsetNow (d : Dev) : Int := sx 64 (d.fldNow R.POS_MD_OFFSET)

/-- The part itself moves MD_OFFSET so that MD is continuous (R35, R59): in this cycle too. Log 226 (DEDUCED, unsafe). -/
def Dev.shiftOffset (d : Dev) (by_ : Int) : Dev :=
  let a := R.POS_MD_OFFSET.addr
  let o := wrapN 64 (d.offsetNow + by_)
  let d := { d with pos := { d.pos with wrote := d.pos.wrote.map fun (x : Nat × Word) => if x.1 = a then (a, BitVec.ofNat 32 o) else if x.1 = a + 4 then (a + 4, BitVec.ofNat 32 (o / 2 ^ 32)) else x } }
  d.setFldI R.POS_MD_OFFSET (d.sfld R.POS_MD_OFFSET + by_)

/-! ### Encoders -/

/-- The edges since the last reversal, newest first (R31, R33). -/
def Enc.run (x : Enc) : List EncEdge :=
  match x.edges with
  | [] => []
  | k :: _ => x.edges.takeWhile fun g => g.fwd = k.fwd

/-- W of R31: 2^SPEED_WIN, SPEED_WIN above 8 acting as 8. -/
def Dev.speedWin (d : Dev) : Nat := 2 ^ min (d.fldNow R.POS_MOTION_CFG_SPEED_WIN) 8

/-- The mean period of a run of edges as a span of cycles over a number of edges (R31). -/
def periodOf (win : Nat) : List EncEdge → Option (Nat × Nat)
  | k :: g :: rest =>
    let w := min win (rest.length + 1)
    match (k :: g :: rest)[w]? with
    | some o => some (k.t - o.t, w)
    | none => none
  | _ => none

/-- The interpolated fraction at a time, in 2^-16 counts (R31). -/
def fracOf (win : Nat) (run : List EncEdge) (t : Nat) : Nat :=
  match run, periodOf win run with
  | k :: _, some (span, w) => if span = 0 then 0xFFFF else min (65536 * (t - k.t) * w / span) 0xFFFF
  | _, _ => 0

/-- ECOUNT in 48.16 (R31, R32): the integer count and the fraction in the direction of travel. -/
def Enc.ecount (x : Enc) : Int :=
  x.count * 65536 + (match x.edges with
    | k :: _ => if k.fwd then (x.frac : Int) else -(x.frac : Int)
    | [] => 0)

/-- ECOUNT as it was at a past time, from the edges up to it; the fraction stood as at `held` (R37). -/
def Enc.ecountAt (x : Enc) (win t held : Nat) : Int :=
  let es := x.edges.filter fun g => g.t ≤ t
  match es with
  | [] => match x.edges.getLast? with
    | some o => (if o.fwd then o.n - 1 else o.n + 1) * 65536
    | none => x.count * 65536
  | k :: _ =>
    let f : Int := fracOf win (es.takeWhile fun g => g.fwd = k.fwd) held
    k.n * 65536 + (if k.fwd then f else -f)

/-- The matched position m_e: ECOUNT × MATCH rounded to 2^-16 count, ties away from zero. -/
def Dev.matched (d : Dev) (e : Nat) (ec : Int) : Int := roundAway (ec * d.live (R.POS_MATCH e)) (2 ^ 32)

/-- COMBINE: 1 = AVERAGE, 2 = MEDIAN3, anything else acts as SINGLE (R27). -/
def Dev.combine (d : Dev) : Nat :=
  match d.live R.POS_CTRL_COMBINE with | 1 => 1 | 2 => 2 | _ => 0

/-- The encoders in use (R27, R28, R30). -/
def Dev.usedNow (d : Dev) : List Nat :=
  let ref := d.live R.POS_CTRL_REF_ENC
  let en := [0, 1, 2, 3].filter fun e => d.lflag (R.POS_ENC_CFG_ENABLE e)
  let ok := en.filter fun e => !(d.enc e).excluded
  match d.combine with
  | 1 => ok
  | 2 => ok.take 3
  | _ => en.filter fun e => e = ref

/-- The value the used encoders give before ADJ (R27). -/
def combineOf (mode : Nat) (ms : List Int) : Int :=
  match mode, ms with
  | 2, [x, y, z] => max (min x y) (min (max x y) z)
  | _, [] => 0
  | _, ms => ms.sum / (ms.length : Int)

/-- The speed source among a set of used encoders: REF_ENC while it is used, else the lowest-numbered used encoder. -/
def Dev.sourceOf (d : Dev) (used : List Nat) : Option Nat :=
  let ref := d.live R.POS_CTRL_REF_ENC
  if used.contains ref then some ref else used.head?

/-- The speed source. -/
def Dev.speedSource (d : Dev) : Option Nat := d.sourceOf d.pos.used

/-- A rising count moves MD up, or down with DIR_INVERT (R34, R36). -/
def Dev.dirInvert (d : Dev) : Bool := d.lflag R.POS_CTRL_DIR_INVERT

/-- The 32 bits of SPEED that show a speed (R36); the spec states no result for one beyond them. Log 40 (DESIGN CHOICE, safe). -/
def speedShown (q : Int) : Nat := wrapN 32 (if -(2 ^ 31) ≤ q ∧ q < 2 ^ 31 then q else Config.unstated 8 q)

/-- The speed estimate of R36, raw 16.16 pu/µs, before STOPPED blanks it. Log 50 (DESIGN CHOICE, unsafe). -/
def Dev.speedEst (d : Dev) (t : Nat) : Int :=
  match d.speedSource with
  | none => 0
  | some e =>
    let run := (d.enc e).run
    match run, periodOf d.speedWin run with
    | k :: _, some (span, w) =>
      let num : Int := (d.live R.POS_SCALE : Int) * 400
      let p := roundAway (num * w) (256 * max span 1)
      let q := if (t - k.t) * w ≤ span then p else min p (roundAway num (256 * (t - k.t)))
      if k.fwd = d.dirInvert then -q else q
    | _, _ => 0

/-- The device's own SCALE, MD_OFFSET and DIR_INVERT (R34). -/
def Dev.ownForm (d : Dev) : MdForm := { invert := d.dirInvert, scale := d.live R.POS_SCALE, offset := d.offsetNow }

/-- What makes WPOS an MD here: a slave that follows uses the master's values in place of its own (R57). Log 227 (DEDUCED, unsafe). -/
def Dev.mdForm (d : Dev) : MdForm :=
  match d.pos.follows, d.pos.msg with
  | true, some (m, _) => m.form
  | _, _ => d.ownForm

/-- MD of a WPOS (R34). -/
def Dev.mdOf (d : Dev) (wpos : Int) : Int := d.mdForm.md wpos

/-- Cycles of STOP_US; 0 acts as 1 (R37). -/
def Dev.stopCycles (d : Dev) : Nat := usCycles (max (d.fldNow R.POS_MOTION_CFG_STOP_US) 1)

/-- Has the speed source shown an edge within STOP_US, and is |SPEED| at least MOVE_SPEED (R37): SPEED before STOPPED blanks it. A slave that follows
moves with its master's SPEED. Log 228 (DEDUCED, unsafe). -/
def Dev.movesNow (d : Dev) : Bool :=
  match d.pos.follows, d.pos.msg with
  | true, some (m, _) => decide (m.speed ≠ 0) && decide (d.fldNow R.POS_MOVE_SPEED ≤ m.speed.natAbs)
  | _, _ =>
    match d.speedSource with
    | none => false
    | some e =>
      match (d.enc e).edges with
      | k :: _ => decide (d.time ≤ k.t + d.stopCycles) && decide (d.fldNow R.POS_MOVE_SPEED ≤ (d.speedEst d.time).natAbs)
      | [] => false

/-! ### WPOS -/

/-- Refresh the fractions (they hold while STOPPED, R37). Log 50 (DESIGN CHOICE, unsafe). -/
def Dev.refreshFracs (d : Dev) : Dev :=
  if d.flag R.POS_STATUS_STOPPED then d else
  [0, 1, 2, 3].foldl (fun d e =>
    let x := d.enc e
    d.setEnc e { x with frac := fracOf d.speedWin x.run d.time }) d

/-- The combined matched position of a set of encoders now. -/
def Dev.baseNow (d : Dev) (us : List Nat) : Int := combineOf d.combine (us.map fun e => d.matched e (d.enc e).ecount)

/-- No position source is left (R30, R59): POS_LOST stands and FAULT is requested. Log 39 (DEDUCED, unsafe). -/
def Dev.posLost (d : Dev) : Dev :=
  let d := (d.setFld R.POS_STATUS_POS_LOST 1).raise R.POS_FAULT_POS_LOST
  { d with faultReq := d.faultReq ++ [0] }

/-- How long the past of the position unit is kept: the longest midpoint delay and the wait for the bracketing edge (R39). -/
def pastCycles : Nat := 401200

/-- The set of used encoders changes: what it was stays known for the stamps of earlier instants (R39). -/
def Dev.newSet (d : Dev) (us : List Nat) (adj : Int) : Dev :=
  let p := d.pos
  let old : UsedSet := { until_ := d.time, used := p.used, adj := p.adj, wpos := p.wpos }
  { d with pos := { p with used := us, adj := adj, sets := old :: p.sets.takeWhile fun s => d.time ≤ s.until_ + pastCycles } }

/-- Form WPOS; when the set of used encoders changes, ADJ keeps it continuous (R27, R29). When no encoder remains in use, be
it excluded or disabled by a commit, WPOS freezes, POS_LOST is set and FAULT is requested (R30); a slave that follows its
master takes its position from there (R57). -/
def Dev.formWpos (d : Dev) : Dev :=
  let us := d.usedNow
  let p := d.pos
  if us = [] then
    if p.used = [] then d else
    let e := d.newSet [] p.adj
    if p.follows then e else e.posLost
  else
  let b := d.baseNow us
  if us = p.used then { d with pos := { p with wpos := b + p.adj } }
  else (d.newSet us (p.wpos - b)).setFld R.POS_STATUS_POS_LOST 0

/-- Mark an encoder EXCLUDED (R28). The set of used encoders then changes (R29, R30); losing one while others remain requests
DEGRADED. -/
def Dev.exclude (d : Dev) (e : Nat) : Dev :=
  if d.combine = 0 ∨ (d.enc e).excluded ∨ !(d.lflag (R.POS_ENC_CFG_ENABLE e)) then d else
  let d := d.setEnc e { d.enc e with excluded := true }
  let d := d.formWpos
  if d.pos.used = [] then d else d.setFld (Fld.bit R.GLB_MISSING_CAUSE 0) 1

/-- The encoders that raised ILLEGAL, ZSLIP or LOST: REF_ENC faulted (R28). -/
def Dev.encFaulted (d : Dev) (e : Nat) : Bool :=
  d.flag (Fld.bit R.POS_FAULT_ILLEGAL e) || d.flag (Fld.bit R.POS_FAULT_ZSLIP e) || d.flag (Fld.bit R.POS_FAULT_LOST e)

/-- Does encoder `e` lie farther from WPOS than DISAGREE pu (R28). Log 38 (DEDUCED, unsafe). -/
def Dev.disagrees (d : Dev) (e : Nat) : Bool :=
  let diff := (d.matched e (d.enc e).ecount - d.pos.wpos) * d.live R.POS_SCALE
  decide ((d.fldNow R.POS_DISAGREE * 2 ^ 40 : Nat) < diff.natAbs)

/-- The encoders to exclude for disagreement (R28): in MEDIAN3 with three, the one farthest from the median; with exactly two,
the one that is not REF_ENC, or the higher-numbered one when REF_ENC itself has faulted; else each that disagrees. Log 38 (DEDUCED, unsafe). -/
def Dev.disagreeing (d : Dev) : List Nat :=
  if d.combine = 0 then [] else
  let us := d.pos.used
  let bad := us.filter d.disagrees
  if bad = [] ∨ us.length < 2 then [] else
  let ref := d.live R.POS_CTRL_REF_ENC
  let m := fun e => d.matched e (d.enc e).ecount
  match d.combine, us with
  | 2, [x, y, z] =>
    let med := combineOf 2 [m x, m y, m z]
    let far := [x, y, z].foldl (fun b e => if (m b - med).natAbs < (m e - med).natAbs then e else b) x
    [far]
  | _, [x, y] =>
    if d.encFaulted ref ∨ !(us.contains ref) then [max x y] else [if x = ref then y else x]
  | _, _ => bad

/-- Exclude the encoders that disagree, with their flags. -/
def Dev.checkDisagree (d : Dev) : Dev :=
  d.disagreeing.foldl (fun d e => (d.raise (Fld.bit R.POS_FAULT_DISAGREE e)).exclude e) d

/-! ### MD, HWM, SPEED -/

/-- MD and SPEED of a slave at a time: extrapolated from the paired message (R57). -/
def slaveMd (m : PosMsg) (latch t : Nat) : Int := m.md + m.speed * ((t : Int) - latch) / (400 * 65536)

/-- WPOS of a slave's master at a time: the counts that its SPEED makes under its SCALE since the message. Log 227 (DEDUCED, unsafe). -/
def slaveWpos (m : PosMsg) (latch t : Nat) : Int :=
  let moved := m.speed * ((t : Int) - latch) * 2 ^ 24 / (400 * m.form.scale)
  m.wpos + (if m.form.invert then -moved else moved)

/-- Store a new MD: HWM follows the greatest, REVERSE is set below HWM − REV_HYST and clears at HWM (R38). -/
def Dev.setMd (d : Dev) (md : Int) : Dev :=
  let h := max d.pos.hwm md
  let d := { d with pos := { d.pos with md := md, hwm := h } }
  if d.flag R.POS_STATUS_REVERSE then
    (if h ≤ md then d.setFld R.POS_STATUS_REVERSE 0 else d)
  else if md < h - d.fldNow R.POS_REV_HYST then (d.setFld R.POS_STATUS_REVERSE 1).fire P.reverse
  else d

/-- XCHK_DIFF shows a difference of positions; XCHK is set for one beyond XCHK_TOL (R58). -/
def Dev.xchk (d : Dev) (diff : Int) : Dev :=
  (d.setFldI R.POS_XCHK_DIFF (clampI (-(2 ^ 31)) (2 ^ 31 - 1) diff)).raiseIf (decide (d.fldNow R.POS_XCHK_TOL < diff.natAbs)) R.POS_FAULT_XCHK

/-- The local MD of a slave against the master's (R58). -/
def Dev.crossCheck (d : Dev) : Dev := if d.pos.used = [] then d else d.xchk (d.ownForm.md d.pos.wpos + d.pos.xAlign - d.pos.md)

/-- The modes in which the link runs (R451). -/
def Mode.linked : Mode → Bool
  | .discover | .armed | .inspect | .degraded | .calibrate | .replay => true
  | _ => false

/-- A slave that runs with its cascade and has not switched to its own encoder: the local encoder never changes its position (R58, R59).
Log 229 (DEDUCED, unsafe). -/
def Dev.heldBack (d : Dev) : Bool := d.mode.linked && !d.flag R.POS_STATUS_MASTER && !d.pos.switched

/-- SPEED in force: zero while STOPPED (R36, R37), and for a slave that follows the master's (R57). -/
def Dev.speedNow (d : Dev) : Int :=
  if d.flag R.POS_STATUS_STOPPED then 0 else
  match d.pos.follows, d.pos.msg with
  | true, some (m, _) => m.speed
  | _, _ => d.speedEst d.time

/-- The MD that the source of position gives in this cycle: for a slave that follows, the master's, which does not go back in forward motion (R57); a
slave without a master keeps what it has (R58, R59); else that of WPOS (R34). Log 229 (DEDUCED, unsafe). -/
def Dev.mdNow (d : Dev) : Int :=
  match d.pos.follows, d.pos.msg with
  | true, some (m, latch) => let x := slaveMd m latch d.time; if 0 ≤ m.speed then max d.pos.md x else x
  | _, _ => if d.heldBack then d.pos.md else d.mdOf d.pos.wpos

/-- WPOS in force: a slave that follows and has no encoder of its own shows its master's. Log 227 (DEDUCED, unsafe). -/
def Dev.wposNow (d : Dev) : Int :=
  match d.pos.follows, d.pos.msg with
  | true, some (m, latch) => if d.pos.used = [] then slaveWpos m latch d.time else d.pos.wpos
  | _, _ => d.pos.wpos

/-- Form SPEED and MD from the source of position in force; REPLAY has its own (R49). -/
def Dev.formMd (d : Dev) : Dev :=
  if d.mode = .replay then d else
  let d := ({ d with pos := { d.pos with speed := d.speedNow, wpos := d.wposNow } }).setMd d.mdNow
  if d.pos.follows then d.crossCheck else d

/-- Let the position clock reach a cycle, and refresh everything that is formed in every cycle.
Log 2 (DESIGN CHOICE, unsafe), 222 (DESIGN CHOICE, unsafe). -/
def Dev.advance (d : Dev) (t : Nat) : Dev :=
  let d := { d with time := max d.time t }
  ((d.refreshFracs.formWpos).checkDisagree).formMd

/-- The encoders that were in use at an instant, with the ADJ and the frozen WPOS of that time (R29, R30). -/
def Dev.setAt (d : Dev) (t : Nat) : UsedSet :=
  ((d.pos.sets.filter fun s => t < s.until_).getLast?).getD { until_ := d.time, used := d.pos.used, adj := d.pos.adj, wpos := d.pos.wpos }

/-- The instant whose fractions show at an instant: they hold while STOPPED (R37). -/
def Dev.heldAt (d : Dev) (t : Nat) : Nat :=
  if d.flag R.POS_STATUS_STOPPED ∧ d.pos.stopFrom ≤ t then d.pos.stopFrom
  else match d.pos.stops.find? fun s => s.1 ≤ t ∧ t < s.2 with | some s => s.1 | none => t

/-- WPOS at a past instant (R39): interpolated between the two edges of the speed source that bracket it when the later one
comes within 2 µs, else the live WPOS of that instant. The rule gives the stamp of the speed source's own count N_a; under AVERAGE, MEDIAN3 or
with a non-zero ADJ the model takes that count through its MATCH and adds ADJ. Log 230 (DESIGN CHOICE, unsafe). -/
def Dev.wposAt (d : Dev) (t : Nat) : Int :=
  let u := d.setAt t
  let live := if u.used = [] then u.wpos else
    combineOf d.combine (u.used.map fun e => d.matched e ((d.enc e).ecountAt d.speedWin t (d.heldAt t))) + u.adj
  match d.sourceOf u.used with
  | none => live
  | some e =>
    let es := (d.enc e).edges
    match (es.filter fun g => t < g.t).getLast?, es.find? fun g => g.t ≤ t with
    | some b, some a =>
      if b.t ≤ t + 800 then
        let f : Int := (65536 * (t - a.t) / (b.t - a.t) : Nat)
        d.matched e (a.n * 65536 + (if b.fwd then f else -f)) + u.adj
      else live
    | _, _ => live

/-- When the stamp of an instant can be fixed (R39): with the first edge of the speed source after it, or 2 µs after it when
none has come by then; at once when no source of speed is read here (R57). Log 43 (DEDUCED, unsafe). -/
def Dev.stampDue (d : Dev) (t : Nat) : Nat :=
  match d.pos.follows, d.speedSource with
  | false, some e =>
    match ((d.enc e).edges.filter fun g => t < g.t).getLast? with
    | some b => min b.t (t + 800)
    | none => t + 800
  | _, _ => t

/-- The stamp of an instant and the MD it gives under the settings of its trigger (R109): for a slave that follows, its master's at that instant (R57).
Log 43 (DEDUCED, unsafe), 227 (DEDUCED, unsafe). -/
def Dev.stampAt (d : Dev) (form : MdForm) (t : Nat) : Int × Int :=
  match d.pos.follows, d.pos.msg with
  | true, some (m, latch) => (slaveWpos m latch t, slaveMd m latch t)
  | _, _ => let w := d.wposAt t; (w, if d.heldBack then d.pos.md else form.md w)

/-! ### Encoder edges -/

/-- The direction of a quadrature transition when one phase changed: A leads B counts up (R24). Log 35 (DEDUCED, unsafe). -/
def quadUp (aChanged a b : Bool) : Bool := if aChanged then a != b else a == b

/-- Counts of a transition under DECODE: x4 every edge, x2 every edge of A, x1 the rising edges of A (R24). Log 35 (DEDUCED, unsafe). -/
def quadCounts (decode : Nat) (aChanged a : Bool) : Bool :=
  match decode with
  | 1 => aChanged
  | 2 => aChanged && a
  | _ => true

/-- Keep 1 ms of edge history and at least the 257 edges that R31 can use. -/
def pruneEdges (now : Nat) (es : List EncEdge) : List EncEdge :=
  es.take 257 ++ (es.drop 257).takeWhile fun g => now ≤ g.t + 400000

/-- Count a legal edge (R24, R32, R33): the new integer count with a zero fraction. -/
def Dev.countEdge (d : Dev) (e : Nat) (up : Bool) (t : Nat) : Dev :=
  let x := d.enc e
  let n := if up then x.count + 1 else x.count - 1
  d.setEnc e { x with count := n, frac := 0, edges := pruneEdges t ({ t := t, n := n, fwd := up } :: x.edges) }

/-- MOVING is set when the web moves fast enough and lately; MOTION_START fires once (R37). Answers whether it was set. -/
def Dev.motionStart (d : Dev) : Dev × Bool :=
  if d.flag R.POS_STATUS_STOPPED ∧ d.movesNow then
    let d := (d.setFld R.POS_STATUS_STOPPED 0).setFld R.POS_STATUS_MOVING 1
    let d := { d with pos := { d.pos with stops := (d.pos.stopFrom, d.time) :: d.pos.stops.takeWhile fun s => d.time ≤ s.2 + pastCycles } }
    ((d.fire P.motionStart).advance d.time, true)
  else (d, false)

/-- The lead distance D (R51). -/
def leadDist (both : Bool) (lead : Nat) (speed : Int) : Int :=
  if both then truncDiv (lead * speed) 65536000 else lead * max speed 0 / 65536000

/-- MD + D of a slot now. Log 42 (DEDUCED, unsafe). -/
def Dev.slotReach (d : Dev) (x : Slot) : Int := d.pos.md + leadDist x.both x.lead d.pos.speed

/-- D becomes 0 at a stop: no BOTH slot fires for that, since MD has not moved (R54). Log 231 (DEDUCED, unsafe). -/
def Dev.settleSlots (d : Dev) : Dev :=
  { d with pos := { d.pos with slots := d.pos.slots.map fun s => (s.1, if s.2.both then { s.2 with beyond := decide (s.2.target ≤ d.slotReach s.2) } else s.2) } }

/-- STOPPED is set when the speed source shows no edge within STOP_US or is too slow; SPEED reads zero, and MOTION_STOP fires once (R37). -/
def Dev.motionStop (d : Dev) : Dev :=
  if d.flag R.POS_STATUS_MOVING ∧ !d.movesNow then
    let d := (d.setFld R.POS_STATUS_STOPPED 1).setFld R.POS_STATUS_MOVING 0
    let d := { d with pos := { d.pos with speed := 0, stopFrom := d.time } }
    d.settleSlots.fire P.motionStop
  else d

/-- Two edges of one phase closer than 10 cycles (R25). -/
def tooFast (prev : Option Nat) (t : Nat) : Bool := match prev with | some p => decide (t < p + 10) | none => false

/-- The phases of encoder `e` take a pair of levels at cycle `t` and hold them; the filter accepts them FILTER cycles later, and an edge keeps the
time of the first cycle (R23 to R26, R32, R33). Whether the edges inside an illegal transition count for OVERRATE the spec does not say: the last-edge
times of both phases stay as they were. Log 37 (DEDUCED, unsafe), 232 (DESIGN CHOICE, unsafe). -/
def Dev.encoderEdge (d : Dev) (e : Nat) (pa pb : Bool) (t stable : Nat) : Dev × Bool :=
  let filter := min (d.live (R.POS_ENC_CFG_FILTER e)) 100
  if stable < filter then (d, false) else
  let now := max (t + filter) d.time
  let t := now - filter
  let sw := d.lflag (R.POS_ENC_CFG_SWAP_AB e)
  let a := if sw then pb else pa
  let b := if sw then pa else pb
  let x := d.enc e
  let d := { d with time := now }
  if a = x.a ∧ b = x.b then (d.advance now, false)
  else if a ≠ x.a ∧ b ≠ x.b then
    let d := d.setEnc e { x with a := a, b := b }
    let d := (d.advance now).bump (R.POS_ERR_COUNT_ILLEGAL_CNT e)
    ((d.raise (Fld.bit R.POS_FAULT_ILLEGAL e)).exclude e, false)
  else
    let ac := decide (a ≠ x.a)
    let prev := if ac then x.lastA else x.lastB
    let d := d.setEnc e { x with a := a, b := b, lastA := if ac then some t else x.lastA, lastB := if ac then x.lastB else some t }
    let d := d.raiseIf (tooFast prev t) (Fld.bit R.POS_FAULT_OVERRATE e)
    let d := if d.lflag (R.POS_ENC_CFG_ENABLE e) ∧ quadCounts (d.live (R.POS_ENC_CFG_DECODE e)) ac a then d.countEdge e (quadUp ac a b) t else d
    (d.advance now).motionStart

/-- A rising Z edge met in forward motion: that in which MD rises (R26, R34, R36). Log 36 (DEDUCED, unsafe). -/
def Dev.zEdge (d : Dev) (e t : Nat) : Dev :=
  let d := d.advance t
  let x := d.enc e
  let fwd : Bool := match x.edges with | k :: _ => k.fwd != d.dirInvert | [] => false
  if !(d.lflag (R.POS_ENC_CFG_Z_ENABLE e)) ∨ !fwd then d else
  let d := d.setEnc e { x with zRef := some x.count }
  match x.zRef with
  | none => d
  | some z =>
    let turned := if d.dirInvert then z - x.count else x.count - z
    if d.fldNow (R.POS_Z_TOL e) < (turned - d.fldNow (R.POS_Z_COUNT e)).natAbs then
      ((d.bump (R.POS_ERR_COUNT_ZSLIP_CNT e)).raise (Fld.bit R.POS_FAULT_ZSLIP e)).exclude e
    else d

/-- An encoder that shows no edge for STOP_US while the web moves is LOST (R28). -/
def Dev.encoderLost (d : Dev) (e t : Nat) : Dev :=
  let d := d.advance t
  let quiet : Bool := match (d.enc e).edges with | k :: _ => decide (k.t + d.stopCycles ≤ d.time) | [] => decide (d.stopCycles ≤ d.time)
  if d.lflag (R.POS_ENC_CFG_ENABLE e) ∧ quiet ∧ d.fldNow R.POS_MOVE_SPEED ≤ d.pos.speed.natAbs then
    (d.raise (Fld.bit R.POS_FAULT_LOST e)).exclude e
  else d

/-- READMIT clears the EXCLUDED mark; the encoder rejoins with ADJ recomputed (R29, R30). -/
def Dev.readmit (d : Dev) (e : Nat) : Dev :=
  if (d.enc e).excluded then
    let d := (d.setEnc e { d.enc e with excluded := false }).advance (d.time + 1)
    if [0, 1, 2, 3].any fun e => (d.enc e).excluded then d else d.setFld (Fld.bit R.GLB_MISSING_CAUSE 0) 0
  else d

/-! ### Line-trigger generators -/

/-- PITCH; below 16 acts as 16. -/
def Dev.genPitch (d : Dev) (g : Nat) : Nat := max (d.live (R.POS_TRG_PITCH g)) 16

/-- The smallest PHASE + n × PITCH at or above a position. -/
def gridAtOrAbove (phase : Int) (pitch : Nat) (x : Int) : Int := phase + -((phase - x) / (pitch : Int)) * pitch

/-- Restart a generator's sequence at the smallest target at or above HWM (R41). Its floor timer, which waits outside the modes that trigger, begins
anew here: whether it would go on from where it stood the spec does not say. Log 233 (DESIGN CHOICE, unsafe). -/
def Dev.genStart (d : Dev) (g : Nat) : Dev :=
  let x := d.gen g
  d.setGen g { x with on := d.lflag (R.POS_TRG_CTRL_ENABLE g), last := none, waiting := false, floorFrom := d.time, next := gridAtOrAbove (d.slive (R.POS_TRG_PHASE g)) (d.genPitch g) d.pos.hwm }

/-- The least cycles between two triggers: TRG_CEIL, below 1,000 ns acting as 1,000 (R43). -/
def Dev.ceilCycles (d : Dev) (g : Nat) : Nat := nsCeil (max (d.live (R.POS_TRG_CEIL g)) 1000)

/-- The first cycle in which the ceiling lets a generator issue. -/
def Dev.ceilFree (d : Dev) (g : Nat) : Nat :=
  match (d.gen g).lastTrig with | some t => t + d.ceilCycles g | none => 0

/-- Issue a trigger of a generator now; any trigger restarts the floor timer (R43, R44). -/
def Dev.issue (d : Dev) (g : Nat) (floor : Bool) : Dev :=
  let x := d.gen g
  let d := d.setGen g { x with lastTrig := some d.time, floorFrom := d.time, waiting := false }
  (d.incr (R.POS_TRG_ISSUED g)).fire (P.ltrig g) .pulse 0 floor

/-- May generator `g` issue at all (R41). -/
def Dev.genRuns (d : Dev) (g : Nat) : Bool := d.mode.triggers && d.lflag (R.POS_TRG_CTRL_ENABLE g)

/-- TRG_FLOOR in cycles; 1 to 999 acts as 1,000 (R44). -/
def Dev.floorCycles (d : Dev) (g : Nat) : Nat := nsCeil (max (d.live (R.POS_TRG_FLOOR g)) 1000)

/-- Does a floor trigger that is due wait on the ceiling (R43, R44). Log 41 (DEDUCED, unsafe). -/
def Dev.floorWaits (d : Dev) (g : Nat) : Bool :=
  d.lflag (R.POS_TRG_FLOOR g) && d.genRuns g && decide ((d.gen g).floorFrom + d.floorCycles g ≤ d.time) && decide (d.time < d.ceilFree g)

/-- Does a trigger wait on the ceiling (R43): one at a time, a target's or a floor trigger. -/
def Dev.genWaits (d : Dev) (g : Nat) : Bool := (d.gen g).waiting || d.floorWaits g

/-- HWM reaches a generator's next target (R41, R43). -/
def Dev.ltrigTarget (d : Dev) (g t : Nat) : Dev :=
  let d := d.advance t
  let x := d.gen g
  if !d.genRuns g ∨ d.pos.hwm < x.next then d else
  let d := d.setGen g { x with last := some x.next, next := x.next + d.genPitch g }
  if x.waiting || d.floorWaits g then (d.bump (R.POS_TRG_STATUS_SKIPPED g)).setFld (R.POS_TRG_STATUS_OVERSPEED g) 1
  else if d.time < d.ceilFree g then d.setGen g { d.gen g with waiting := true }
  else d.issue g false

/-- The ceiling interval ends and the waiting trigger is issued (R43): also where the web has reversed meanwhile, since HWM had reached its target (R42
speaks of targets not yet reached). Log 41 (DEDUCED, unsafe), 234 (DESIGN CHOICE, unsafe). -/
def Dev.ceilExpiry (d : Dev) (g : Nat) : Dev :=
  if (d.gen g).waiting ∧ d.genRuns g then (d.advance (d.ceilFree g)).issue g false else d

/-- No trigger for TRG_FLOOR: a floor trigger, which obeys the ceiling and consumes no target (R44). -/
def Dev.floorExpiry (d : Dev) (g : Nat) : Dev :=
  if d.lflag (R.POS_TRG_FLOOR g) ∧ d.genRuns g ∧ !(d.gen g).waiting then
    (d.advance (max ((d.gen g).floorFrom + d.floorCycles g) (d.ceilFree g))).issue g true
  else d

/-- CLEAR (R43). -/
def Dev.trgClear (d : Dev) (g : Nat) : Dev :=
  ((d.setFld (R.POS_TRG_ISSUED g) 0).setFld (R.POS_TRG_STATUS_SKIPPED g) 0).setFld (R.POS_TRG_STATUS_OVERSPEED g) 0

/-! ### The output grid -/

/-- OUT_PITCH; below 16 acts as 16. -/
def Dev.outPitch (d : Dev) : Nat := max (d.live R.POS_OUT_PITCH) 16

/-- The grid position of output line `l` (R46, R47). -/
def gridPos (segs : List GridSeg) (l : Nat) : Int :=
  match segs.find? fun g => g.line ≤ l with
  | some g => g.pos + ((l : Int) - g.line) * g.pitch
  | none => 0

def Dev.linePos (d : Dev) (l : Nat) : Int := gridPos d.pos.grid l

/-- FRAME_LINES as FRAME_LOG2 gives it; a value outside 8 to 16 acts as 11 (R48). -/
def Dev.frameLog2 (d : Dev) : Nat :=
  let f := d.fld R.POS_FRAME_CFG
  if 8 ≤ f ∧ f ≤ 16 then f else 11

/-- Latch GRID_ORIGIN from HWM, clear LINES_PASSED and read FRAME_LOG2 (R46, R48). -/
def Dev.latchGrid (d : Dev) : Dev :=
  let p := d.outPitch
  let o := gridAtOrAbove 0 p d.pos.hwm
  { d with pos := { d.pos with gridOrigin := o, grid := [{ line := 0, pos := o, pitch := p }], linesPassed := 0, frameLines := 2 ^ d.frameLog2 } }

/-- A new OUT_PITCH from boundary line B on; B keeps its grid position (R47). -/
def Dev.repitch (d : Dev) (b : Nat) : Dev :=
  let p := d.outPitch
  match d.pos.grid with
  | g :: _ => if g.pitch = p then d else { d with pos := { d.pos with grid := { line := b, pos := d.linePos b, pitch := p } :: d.pos.grid } }
  | [] => d

/-- Is output line `l` a boundary (R13, R48). -/
def Dev.isBoundary (d : Dev) (l : Nat) : Bool := l % d.pos.frameLines = 0

/-- The next boundary at or after line `l`. -/
def Dev.nextBoundary (d : Dev) (l : Nat) : Nat := (l + d.pos.frameLines - 1) / d.pos.frameLines * d.pos.frameLines

/-! ### Compare slots -/

/-- Arm a slot with the given values (R50, R52). -/
def Dev.armSlot (d : Dev) (k : Nat) (target : Int) (period lead : Nat) (both : Bool) : Dev :=
  let period := if period = 0 then 0 else max period 16
  let x : Slot := { target := target, period := period, lead := lead, both := both, since := d.time + 1 }
  let r := decide (x.target ≤ d.slotReach x)
  let d := d.setSlot k { x with beyond := r, late := !both && r }
  (d.setFld (R.POS_CMP_CTRL_ARM k) 1).setFld (R.POS_CMP_STATUS_FIRE_COUNT k) 0

/-- Disarm a slot. -/
def Dev.disarmSlot (d : Dev) (k : Nat) : Dev := d.setFld (R.POS_CMP_CTRL_ARM k) 0

/-- A slot fires: FIRED, FIRE_COUNT and, for a late slot, LATE (R51, R52). -/
def Dev.slotNote (d : Dev) (k : Nat) (late : Bool) : Dev :=
  let d := (d.setBit (R.POS_CMP_STATUS_FIRED k)).incr (R.POS_CMP_STATUS_FIRE_COUNT k)
  if late then d.setBit (R.POS_CMP_STATUS_LATE k) else d

/-- A slot that has fired disarms, or moves its target by PERIOD (R51). `r`: MD + D lies at or beyond the target. -/
def Dev.slotNext (d : Dev) (k : Nat) (x : Slot) (r : Bool) : Dev :=
  if x.period = 0 then (d.disarmSlot k).setSlot k { x with beyond := r, late := false } else
  let y := { x with target := x.target + x.period, since := d.time + 1 }
  let r := decide (y.target ≤ d.slotReach y)
  d.setSlot k { y with beyond := r, late := !x.both && r }

/-- Has the slot's target been reached, or crossed where BOTH is set (R51). `r`: MD + D lies at or beyond it. Log 42 (DEDUCED, unsafe). -/
def Slot.hit (x : Slot) (r : Bool) : Bool := if x.both then r != x.beyond else r

/-- Does a slot compare in this cycle: from the cycle after it was armed or its target moved (R52, R53). -/
def Dev.slotLooks (d : Dev) (k : Nat) : Bool := d.flag (R.POS_CMP_CTRL_ARM k) && decide ((d.slot k).since ≤ d.time)

/-- The comparison of a slot in this cycle (R51, R52): a slot found at or beyond its target fires whatever D does meanwhile; none fires without a source of
position (R54). Answers whether it fired. Log 231 (DEDUCED, unsafe). -/
def Dev.cmpNow (d : Dev) (k : Nat) : Dev × Bool :=
  let x := d.slot k
  let r := decide (x.target ≤ d.slotReach x)
  if !d.slotLooks k then (d, false)
  else if (x.late || x.hit r) && !d.flag R.POS_STATUS_POS_LOST then (((d.slotNote k x.late).slotNext k x r).fire (P.cmp k), true)
  else (d.setSlot k (if x.both then { x with beyond := r } else x), false)

/-- MD + D reaches or crosses an armed slot's target (R51, R52). Answers whether it fired. -/
def Dev.cmpFire (d : Dev) (k t : Nat) : Dev × Bool :=
  (d.advance (if d.flag (R.POS_CMP_CTRL_ARM k) then max t (d.slot k).since else t)).cmpNow k

/-! ### POS_SYNC and the slave's position -/

/-- The position message of this cycle (R56). Log 45 (DEDUCED, unsafe), 46 (DEDUCED, unsafe). -/
def Dev.posMsg (d : Dev) (seq : Nat) : PosMsg :=
  { seq := seq, wpos := d.pos.wpos, md := d.pos.md, hwm := d.pos.hwm, speed := d.pos.speed, grid := d.pos.gridOrigin, lines := d.pos.linesPassed, form := d.ownForm }

/-- The number of a slave's next latch. -/
def Dev.nextSync (d : Dev) : Nat := match d.pos.latches with | (q, _) :: _ => (q + 1) % 65536 | [] => 0

/-- A slave latches its position clock (R57); it holds the last 8 latches (R458). Log 48 (DEDUCED, unsafe). -/
def Dev.latchSync (d : Dev) (t : Nat) : Dev :=
  let d := d.advance t
  { d with pos := { d.pos with latches := ((d.nextSync, d.time) :: d.pos.latches).take 8, unmatched := d.pos.unmatched + 1 } }

/-- The latches that a message is compared with: the first message since the slave began numbers the newest latch (R57, R458). -/
def Dev.latchesFor (d : Dev) (m : PosMsg) : List (Nat × Nat) :=
  if d.pos.synced then d.pos.latches else match d.pos.latches with | (_, t) :: _ => [(m.seq, t)] | [] => []

/-- The slave takes its position and its grid from its master: a first message gives MD and HWM as they are, a later one moves HWM on (R57). -/
def Dev.followMsg (d : Dev) (m : PosMsg) (latch : Nat) : Dev :=
  let p := d.pos
  let x := slaveMd m latch d.time
  let grid := p.grid.map fun g => { g with pos := g.pos + (m.grid - p.gridOrigin) }
  { d with pos := { p with follows := true, gridOrigin := m.grid, grid := grid, md := if p.follows then p.md else x, hwm := if p.follows then max p.hwm m.hwm else max x m.hwm } }

/-- A message paired with its latch gives the slave its position, its grid and its state of following (R57); one that has left the master stays away
from it (R59). -/
def Dev.pairWith (d : Dev) (m : PosMsg) (ls : List (Nat × Nat)) (latch : Nat) : Dev :=
  let d := { d with pos := { d.pos with latches := ls, synced := true, msg := some (m, latch), unmatched := 0 } }
  let d := (d.setFld R.POS_SYNC_STATUS_SYNC_SEQ m.seq).setFld R.POS_SYNC_STATUS_SYNC_OK 1
  if d.pos.left then d else (((d.followMsg m latch).setFld R.POS_STATUS_HOLDOVER 0).setFld (Fld.bit R.GLB_MISSING_CAUSE 1) 0)

/-- Pair a message with the latch of its number (R57, R458). Log 44 (DEDUCED, unsafe), 48 (DEDUCED, unsafe). -/
def Dev.pairMsg (d : Dev) (m : PosMsg) : Dev × Bool :=
  match (d.latchesFor m).find? fun l => l.1 = m.seq with
  | none => (d, false)
  | some l => ((((d.pairWith m (d.latchesFor m) l.2).advance d.time).motionStop).motionStart.1, true)

/-- Does this slave expect pulses and messages of its master (R59): one that follows, and one that has entered ARMED without ever following.
Log 229 (DEDUCED, unsafe). -/
def Dev.awaitsMaster (d : Dev) : Bool := d.heldBack && !d.pos.left && (d.pos.follows || decide (d.mode ≠ .discover))

/-- Four pulses without a matching message, or four periods without a pulse, set HOLDOVER (R59). -/
def Dev.holdover (d : Dev) (t : Nat) : Dev :=
  let d := d.advance t
  let lastPulse := max (match d.pos.latches with | (_, x) :: _ => x | [] => 0) (if d.pos.follows then 0 else d.pos.slaveFrom)
  if d.awaitsMaster ∧ !(d.flag R.POS_STATUS_HOLDOVER) ∧ (4 ≤ d.pos.unmatched ∨ lastPulse + 4096 ≤ d.time) then
    let d := (d.setFld R.POS_STATUS_HOLDOVER 1).setFld R.POS_SYNC_STATUS_SYNC_OK 0
    { d with pos := { d.pos with holdFrom := d.time } }
  else d

/-- After HOLDOVER_US a slave with a good local encoder switches to it; any other loses its position (R59). The switch is bumpless: by what register the
spec does not say; the model moves MD_OFFSET, as the part does at a new SCALE (R35). Log 235 (DESIGN CHOICE, unsafe). -/
def Dev.holdoverExpiry (d : Dev) : Dev :=
  if !(d.flag R.POS_STATUS_HOLDOVER) ∨ d.pos.left then d else
  let d := d.advance (d.pos.holdFrom + usCycles (max (d.fldNow R.POS_SYNC_CFG) 1))
  if d.pos.used ≠ [] ∧ !(d.flag R.POS_FAULT_XCHK) then
    let d := { d with pos := { d.pos with follows := false, left := true, switched := true } }
    let d := d.shiftOffset (d.pos.md - d.mdOf d.pos.wpos)
    let d := (d.raise R.POS_FAULT_MASTER_LOST).setFld R.POS_STATUS_HOLDOVER 0
    (d.setFld (Fld.bit R.GLB_MISSING_CAUSE 1) 1).advance d.time
  else
    { d with pos := { d.pos with follows := false, left := true } }.posLost

/-! ### Writes of MD_OFFSET (R35) -/

/-- Where MD_OFFSET may be written (R35). -/
def Mode.takesOffset : Mode → Bool
  | .reset | .foyer | .recovery | .standby | .service => true
  | _ => false

/-- Both words of MD_OFFSET as this cycle's rules go on to see them (R21). -/
def Dev.noteOffset (d : Dev) : Dev := (d.noteWord R.POS_MD_OFFSET.addr).noteWord (R.POS_MD_OFFSET.addr + 4)

/-- A write of a word of MD_OFFSET (R35): MD follows it from the next cycle on (R21). Log 226 (DEDUCED, unsafe). -/
def Dev.mdOffsetWord (d : Dev) (a v : Nat) : Dev :=
  if d.mode.takesOffset then d.noteOffset.setReg a (BitVec.ofNat 32 v) else d.raise R.POS_FAULT_WR_IGNORED

/-- A write of both words of MD_OFFSET (R21, R35). -/
def Dev.mdOffsetWrite (d : Dev) (v : Nat) : Dev :=
  if d.mode.takesOffset then d.noteOffset.setFld R.POS_MD_OFFSET v else d.raise R.POS_FAULT_WR_IGNORED

end Sys2Proof.Machine
end

