-- ==== Sys2Proof/Machine/Plaza.lean ====
section
/-!
DEFINITION. The Plaza's consumer side (chapter 09): how a consumer input receives its next event (R290 to R296), software
producers, general-purpose pins, timers and the position capture.
-/
namespace Sys2Proof.Machine

/-! ### Receiving an event -/

/-- What a consumer input receives (R294): the merge of the events of one cycle. -/
structure Taken where
  pulse : Bool
  level : EvKind
  lineage : Nat
  addr : Nat
  floor : Bool
  deriving DecidableEq, Repr

/-- Merge the events that reach one input in one cycle (R294). -/
def mergeEvents : List Delivery → Option Taken
  | [] => none
  | x :: xs =>
    let ds := x :: xs
    let low := ds.foldl (fun b y => if y.chan < b.chan then y else b) x
    some { pulse := ds.any fun y => y.kind ≠ .clear, level := if ds.any fun y => y.kind = .clear then .clear else if ds.any fun y => y.kind = .set then .set else .pulse, lineage := ds.foldl (fun m y => max m y.lineage) 0, addr := low.addr, floor := ds.all fun y => y.floor }

/-- The arrival cycle of the next event for an input. -/
def Dev.nextDue (d : Dev) (i : Nat) : Option Nat :=
  (d.plz.inflight.filter fun x => x.input = i).foldl (fun m x => match m with | none => some x.due | some y => some (min x.due y)) none

/-- Is an event that a pulse input acts on due in a cycle (R293). -/
def Dev.pulseDueAt (d : Dev) (i t : Nat) : Bool := d.plz.inflight.any fun x => decide (x.input = i) && decide (x.due = t) && decide (x.kind ≠ .clear)

/-- Is an event for an input due in a cycle. -/
def Dev.dueAt (d : Dev) (i t : Nat) : Bool := d.plz.inflight.any fun x => decide (x.input = i) && decide (x.due = t)

/-- An input receives its next event: the cycle it arrives in is reached, IN_CNT counts it, and two events at once set
COINCIDENCE (R290, R294). -/
def Dev.take (d : Dev) (i : Nat) : Option Taken × Dev :=
  match d.nextDue i with
  | none => (none, d)
  | some t =>
    let here := d.plz.inflight.filter fun x => decide (x.input = i) && decide (x.due = t)
    let d := d.advance t
    let d := { d with plz := { d.plz with inflight := d.plz.inflight.filter fun x => !(decide (x.input = i) && decide (x.due = t)) } }
    let d := d.incr (R.PLZ_IN_CNT i)
    let d := if 2 ≤ here.length then (d.setBit (R.PLZ_IN_STATUS_COINCIDENCE i)).raise R.PLZ_EVENTS_COINCIDENCE else d
    (mergeEvents here, d)

/-- An event reached a busy consumer (R296). -/
def Dev.overrun (d : Dev) (i : Nat) : Dev :=
  let d := ((d.setBit (R.PLZ_IN_STATUS_OVERRUN i)).bump (R.PLZ_IN_STATUS_OVERRUN_CNT i)).setFld R.PLZ_LAST_ERR 0xA006
  d.raise R.PLZ_EVENTS_OVERRUN

/-- Distinct inputs of one consumer met in a cycle (R295). -/
def Dev.clash (d : Dev) (i : Nat) : Dev :=
  (d.setBit (R.PLZ_IN_STATUS_CLASH i)).raise R.PLZ_EVENTS_CLASH

/-- A pulse input acts on PULSE and SET and ignores CLEAR (R293). -/
def Dev.onPulse (d : Dev) (i : Nat) (act : Taken → Dev → Dev) : Dev :=
  match d.take i with
  | (some x, d) => if x.pulse then act x d else d
  | (none, d) => d

/-! ### Software producers (R287) -/

/-- The SW producers whose bits are set make events of one kind. -/
def Dev.swEvents (d : Dev) (mask : BitVec 16) (k : EvKind) : Dev :=
  (List.range 16).foldl (fun d n => if mask.getLsbD n then d.fire (P.sw n) k else d) d

/-! ### Pins (R298 to R301) -/

def pin0 : Pin := {}
def Dev.pin (d : Dev) (p : Nat) : Pin := tget pin0 d.plz.pins p
def Dev.setPin (d : Dev) (p : Nat) (x : Pin) : Dev := { d with plz := { d.plz with pins := tset pin0 d.plz.pins p x } }

/-- The level an output pin shows before INVERT (R300, R301); in REPLAY markers drive no pin (R309). Log 268 (DEDUCED, unsafe). -/
def Dev.pinSource (d : Dev) (p : Nat) : Bool :=
  match d.live (R.PLZ_GPIO_CFG_SOURCE p) with
  | 1 => if d.live (R.PLZ_GPIO_CFG_MODE p) = 0 then (d.pin p).level else (d.pin p).run ≠ []
  | 2 => decide (d.mode ≠ .replay) && d.flag (R.PLZ_MARK_STATUS_HIGH (d.live (R.PLZ_GPIO_CFG_MARKER p)))
  | _ => d.flag (R.PLZ_GPIO_CFG_OUT p)

/-- What the part drives on a pin, none while the pin is an input (R298). -/
def Dev.pinDrive (d : Dev) (p : Nat) : Option Bool :=
  match d.mode with
  | .reset | .foyer | .recovery => none
  | .fault =>
    if d.live (R.PLZ_GPIO_CFG_DIR p) = 0 then none else
    match d.live (R.PLZ_GPIO_CFG_SAFE p) with
    | 1 => some false
    | 2 => some true
    | 3 => some (d.pin p).held
    | _ => none
  | _ => if d.live (R.PLZ_GPIO_CFG_DIR p) = 0 then none else some (d.pinSource p != d.lflag (R.PLZ_GPIO_CFG_INVERT p))

/-- FILTER in cycles. -/
def Dev.pinFilter (d : Dev) (p : Nat) : Nat := min (d.live (R.PLZ_GPIO_CFG_FILTER p)) 100

/-- What the glitch filter shows of a driven level: the level once it has held for FILTER cycles, before that the one before. -/
def Pin.shown (x : Pin) (filter now : Nat) : Bool := if x.since + filter ≤ now then x.seen else x.was

/-- A pin as it is now: a new driven level begins its time in the filter. Log 106 (DEDUCED, unsafe). -/
def Dev.pinNow (d : Dev) (p : Nat) : Pin :=
  let x := d.pin p
  match d.pinDrive p with
  | none => { x with seen := x.ext, was := x.ext }
  | some l => if l = x.seen then x else { x with seen := l, since := d.time, was := x.shown (d.pinFilter p) d.time }

/-- The filtered level of a pin, driven or received (R299). Log 106 (DEDUCED, unsafe). -/
def Dev.pinLevel (d : Dev) (p : Nat) : Bool :=
  if (d.pinDrive p).isSome then (d.pinNow p).shown (d.pinFilter p) d.time else (d.pin p).ext

/-- Each pin notes its level at the end of a step. -/
def Dev.settlePins (d : Dev) : Dev :=
  (List.range 32).foldl (fun d p => if d.pinNow p = d.pin p then d else d.setPin p (d.pinNow p)) d

/-- Pins hold their present level on entry to FAULT (R298, SAFE = 3). -/
def Dev.holdPins (d : Dev) : Dev :=
  (List.range 32).foldl (fun d p => let l := (d.pinDrive p).getD (d.pin p).ext; if l = (d.pin p).held then d else d.setPin p { d.pin p with held := l }) d

/-- A pin takes a new level from outside at cycle `t` and holds it; the filter accepts it FILTER cycles later (R23, R299). Log 106 (DEDUCED, unsafe). -/
def Dev.gpioEdge (d : Dev) (p : Nat) (level : Bool) (t stable : Nat) : Dev :=
  let filter := d.pinFilter p
  if stable < filter then d else
  let d := d.advance (t + filter)
  let x := d.pin p
  if x.ext = level then d else
  let d := d.setPin p { x with ext := level }
  if (d.pinDrive p).isSome then d else
  let rise := level != d.lflag (R.PLZ_GPIO_CFG_INVERT p)
  match d.live (R.PLZ_GPIO_CFG_IN_EDGE p) with
  | 1 => if rise then d.fire (P.gpi p) else d
  | 2 => if rise then d else d.fire (P.gpi p)
  | 3 => d.fire (P.gpi p)
  | 4 => d.fire (P.gpi p) (if rise then .set else .clear)
  | _ => d

/-- An event reaches GPOp (R301, R296). -/
def Dev.gpoEvent (d : Dev) (p : Nat) : Dev :=
  match d.take (0x20 + p) with
  | (none, d) => d
  | (some x, d) =>
    let q := d.pin p
    if d.live (R.PLZ_GPIO_CFG_MODE p) = 0 then
      d.setPin p { q with level := match x.level with | .set => true | .clear => false | .pulse => !q.level }
    else if !x.pulse then d
    else if 4 ≤ q.pend.length then d.overrun (0x20 + p)
    else d.setPin p { q with pend := q.pend ++ [d.time + nsFloor (d.live (R.PLZ_GPIO_DELAY p))] }

/-- The least of a list of cycles. -/
def earliest : List Nat → Option Nat
  | [] => none
  | x :: xs => some (xs.foldl min x)

/-- The length in cycles of a pulse: below 10 ns acts as 10 (R301, R307). -/
def pulseCycles (ns : Nat) : Nat := nsFloor (max ns 10)

/-- A pending pulse rises (R301). -/
def Dev.gpoRise (d : Dev) (p : Nat) : Dev :=
  match earliest (d.pin p).pend with
  | none => d
  | some t =>
    let d := d.advance t
    let q := d.pin p
    d.setPin p { q with pend := q.pend.erase t, run := q.run ++ [t + pulseCycles (d.live (R.PLZ_GPIO_PULSE p))] }

/-- A running pulse ends (R301). -/
def Dev.gpoEnd (d : Dev) (p : Nat) : Dev :=
  match earliest (d.pin p).run with
  | none => d
  | some t =>
    let d := d.advance t
    let q := d.pin p
    d.setPin p { q with run := q.run.erase t }

/-! ### Timers (R302) -/

def timer0 : Timer := {}
def Dev.timer (d : Dev) (n : Nat) : Timer := tget timer0 d.plz.timers n
def Dev.setTimer (d : Dev) (n : Nat) (x : Timer) : Dev := { d with plz := { d.plz with timers := tset timer0 d.plz.timers n x } }

/-- PERIOD in cycles: rounded down, below 10 ns acts as 10. -/
def Dev.tmrCycles (d : Dev) (n : Nat) : Nat := nsFloor (max (d.live (R.PLZ_TMR_PERIOD n)) 10)

/-- START reaches timer `n` (R295, R296, R302). -/
def Dev.tmrStart (d : Dev) (n : Nat) : Dev :=
  d.onPulse (0x50 + n) fun x d =>
    if d.pulseDueAt (0x60 + n) d.time ∨ (d.timer n).stopAt = d.time + 1 then d.clash (0x50 + n)
    else if d.flag (R.PLZ_TMR_STATUS_RUNNING n) ∧ !(d.lflag (R.PLZ_TMR_CFG_RETRIGGER n)) then d.overrun (0x50 + n)
    else
      let d := d.setTimer n { d.timer n with endAt := d.time + d.tmrCycles n }
      (d.setFld (R.PLZ_TMR_STATUS_RUNNING n) 1).setFld (R.PLZ_TMR_STATUS_LINEAGE n) (min (x.lineage + 1) 7)

/-- STOP reaches timer `n`: the count ends without an expiry (R302). Log 107 (DEDUCED, unsafe). -/
def Dev.tmrStop (d : Dev) (n : Nat) : Dev :=
  d.onPulse (0x60 + n) fun _ d =>
    let d := d.setTimer n { d.timer n with stopAt := d.time + 1 }
    d.setFld (R.PLZ_TMR_STATUS_RUNNING n) 0

/-- The count of timer `n` expires, unless a STOP reaches it in that cycle (R302). Log 107 (DEDUCED, unsafe). -/
def Dev.tmrExpiry (d : Dev) (n : Nat) : Dev :=
  let e := (d.timer n).endAt
  if !(d.flag (R.PLZ_TMR_STATUS_RUNNING n)) ∨ d.plz.inflight.any (fun x => decide (x.input = 0x60 + n) && decide (x.due ≤ e) && decide (x.kind ≠ .clear)) then d else
  let d := d.advance e
  let d := d.fire (P.tmr n) .pulse (d.fld (R.PLZ_TMR_STATUS_LINEAGE n))
  if d.lflag (R.PLZ_TMR_CFG_REPEAT n) then d.setTimer n { d.timer n with endAt := e + d.tmrCycles n }
  else d.setFld (R.PLZ_TMR_STATUS_RUNNING n) 0

/-! ### Capture (R303) -/

/-- POS_CAPTURE latches the position and the event's address (R296, R303). -/
def Dev.posCapture (d : Dev) : Dev :=
  d.onPulse 0xF2 fun x d =>
    let d := if d.flag R.PLZ_CAP_STATUS then d.overrun 0xF2 else d
    let d := ((d.setFldI R.PLZ_CAP_MD d.pos.md).setFldI R.PLZ_CAP_HWM d.pos.hwm).setFld R.PLZ_CAP_LINES d.pos.linesPassed
    ((d.setFld R.PLZ_CAP_TIME d.time).setFld R.PLZ_CAP_ADDR x.addr).setBit R.PLZ_CAP_STATUS

end Sys2Proof.Machine
end

