-- ==== Sys2Proof/Machine/Camera.lean ====
section
/-!
DEFINITION. Camera ports, streams and the pixel bus (chapter 02). Ports CAM0 to CAM15 have the numbers 0 to 15, ports CLG0
to CLG3 the numbers 16 to 19.
-/
namespace Sys2Proof.Machine

def port0 : Port := {}
def ring0 : Ring := {}
def corr0 : Corr := {}

def Dev.port (d : Dev) (p : Nat) : Port := tget port0 d.ports p
def Dev.setPort (d : Dev) (p : Nat) (x : Port) : Dev := { d with ports := tset port0 d.ports p x }
def Dev.updPort (d : Dev) (p : Nat) (f : Port → Port) : Dev := d.setPort p (f (d.port p))
def Dev.ring (d : Dev) (s : Nat) : Ring := tget ring0 d.rings s
def Dev.setRing (d : Dev) (s : Nat) (x : Ring) : Dev := { d with rings := tset ring0 d.rings s x }
def Dev.cor (d : Dev) (r : Nat) : Corr := tget corr0 d.corr r
def Dev.setCor (d : Dev) (r : Nat) (x : Corr) : Dev := { d with corr := tset corr0 d.corr r x }

/-- The physical stripe that holds a role (R8, R517). -/
def Dev.stripeOf (d : Dev) (r : Nat) : Nat := d.fld ⟨(R.TST_ROLE_MAP (r / 4)).addr, r % 4 * 8, 5⟩

/-- The stripe whose units take row `l` of a role: before a switch's boundary it is still the old one (R523). -/
def Dev.stripeAt (d : Dev) (r l : Nat) : Nat :=
  match d.rot.switches.find? fun x => decide (x.1 = r) && decide (l < x.2.1) with | some x => x.2.2 | none => d.stripeOf r

/-- Does a physical stripe that has not failed hold the role (R138, R525). -/
def Dev.roleHeld (d : Dev) (r : Nat) : Bool :=
  decide (d.stripeOf r ≤ 16) && decide (d.fld (R.TST_STRIPE_STATE_STATE (d.stripeOf r)) ≠ 4)

/-- Does a stripe that has not failed take row `l` of a role. -/
def Dev.roleAt (d : Dev) (r l : Nat) : Bool :=
  decide (d.stripeAt r l ≤ 16) && decide (d.fld (R.TST_STRIPE_STATE_STATE (d.stripeAt r l)) ≠ 4)

/-- Does a stripe work on the role's inputs: the one that holds it, or the spare that mirrors a stripe that failed after COPY (R527). -/
def Dev.roleRuns (d : Dev) (r : Nat) : Bool := d.roleHeld r || d.rot.failed.contains (r, true)

/-- The spare that takes a role's inputs beside the stripe that holds it: from B1 until SWITCH (R520). -/
def Dev.mirrorOf (d : Dev) (r : Nat) : Option Nat :=
  let ph := d.fld R.TST_ROT_STATUS_PHASE
  if (ph = 2 ∨ ph = 3) ∧ d.fld R.TST_ROT_STATUS_ROLE = r ∧ d.fld (R.TST_STRIPE_STATE_STATE d.rot.spare) = 2 then some d.rot.spare else none

/-- The stripes that take a role's camera lines now (R82). -/
def Dev.inputStripes (d : Dev) (r : Nat) : List Nat := d.stripeOf r :: (d.mirrorOf r).toList

/-! ### Registers common to CAM and CLG ports -/

/-- A CAM register's field, or the CLG register at the same offset. -/
def portFld (cam clg : Nat → Fld) (p : Nat) : Fld := if p < 16 then cam p else clg (p - 16)

def portState (p : Nat) : Fld := portFld R.CAM_STATUS_STATE R.CLG_STATUS_STATE p
def portEnable (p : Nat) : Fld := portFld R.CAM_CTRL_ENABLE R.CLG_CTRL_ENABLE p
def portLastErr (p : Nat) : Fld := portFld R.CAM_LAST_ERR R.CLG_LAST_ERR p

/-- READY of a CAM port, LOCKED of a CLG port. -/
def readyState (p : Nat) : Nat := if p < 16 then 4 else 2

/-- STREAMING. -/
def streamState (p : Nat) : Nat := if p < 16 then 5 else 3

/-- Is the port READY (LOCKED) or STREAMING. -/
def Dev.portUp (d : Dev) (p : Nat) : Bool := d.fld (portState p) = readyState p || d.fld (portState p) = streamState p

/-- The modes in which ports run (R90). -/
def Mode.ports : Mode → Bool
  | .discover | .armed | .inspect | .degraded | .calibrate => true
  | _ => false

/-- The port's last 0x4xxx code. -/
def Dev.portErr (d : Dev) (p code : Nat) : Dev := d.setFld (portLastErr p) code

/-- PIX_FMT of a port (R78). -/
def Dev.pixFmt (d : Dev) (p : Nat) : Nat := d.live (portFld R.CAM_CTRL_PIX_FMT R.CLG_CTRL_PIX_FMT p)

/-- How far a camera value is shifted to align it to bit 15 (R75, R78). -/
def fmtShift : Nat → Nat
  | 0 | 5 => 8 | 1 | 6 => 6 | 2 | 7 => 4 | 3 => 2 | _ => 0

/-- Formats 5 to 7 are trilinear (R78). -/
def fmtRgb (f : Nat) : Bool := 5 ≤ f && f ≤ 7

/-- Is a port the even half of a bonded pair (R88). Log 62 (DEDUCED, unsafe). -/
def bondedOf (g : Fld → Nat) (p : Nat) : Bool := decide (p < 16) && decide (p % 2 = 0) && decide (g (R.CAM_CTRL_BOND p) ≠ 0)

/-- Is a port bonded under the live configuration. Log 62 (DEDUCED, unsafe). -/
def Dev.bonded (d : Dev) (p : Nat) : Bool := bondedOf d.live p

/-- MID_DELAY in position clocks: the sum in ns rounded down (R66). The rule's example, 1.5 clocks (3.75 ns) that read 3, does not agree with its
rounding to whole clocks, which reads 2: the model follows the rounding. Log 53 (DESIGN CHOICE, unsafe), 236 (DESIGN CHOICE, unsafe). -/
def midCycles (delay exposure : Nat) : Nat := nsFloor (delay + exposure / 2)

/-- LAND_BASE without its bits 11:0 (R86). -/
def landBase (v : Nat) : Nat := v / 4096 * 4096

/-- LAND_LINES; below 16 acts as 16 (R86). -/
def landLines (v : Nat) : Nat := max v 16

/-- The routing of a port's streams (R83, R86), under the configuration that `g` reads. -/
def destsOf (g : Fld → Nat) (p : Nat) : List Dest :=
  if p < 16 then
    (List.range 4).map fun k =>
      let m := g (R.CAM_STREAM_DEST_MODE p k)
      { mode := m, num := if m = 1 then p else g (R.CAM_STREAM_DEST_STREAM_NUM p k), role := if m = 1 then p else g (R.CAM_STREAM_DEST_ROLE p k), base := landBase (g (R.CAM_LAND_BASE p k)), lines := landLines (g (R.CAM_LAND_LINES p k)) }
  else
    let m := g (R.CLG_CTRL_MODE (p - 16))
    let r := g (R.CLG_CTRL_ROLE (p - 16))
    [{ mode := m, num := if m = 1 then r else g (R.CLG_CTRL_STREAM_NUM (p - 16)), role := r, base := landBase (g (R.CLG_LAND_BASE (p - 16))), lines := landLines (g (R.CLG_LAND_LINES (p - 16))) }]

/-- The live routing of a port. -/
def Dev.dests (d : Dev) (p : Nat) : List Dest := destsOf d.live p

/-- The settings a trigger received now keeps (R95). Log 52 (DEDUCED, unsafe). -/
def Dev.portCfg (d : Dev) (p : Nat) : PortCfg :=
  { width := d.live (portFld R.CAM_WIDTH R.CLG_WIDTH p), pad := d.live (portFld R.CAM_PAD_VALUE R.CLG_PAD_VALUE p), latMin := d.live (portFld R.CAM_LAT_MIN R.CLG_LAT_MIN p), latMax := d.live (portFld R.CAM_LAT_MAX R.CLG_LAT_MAX p), mid := midCycles (d.live (portFld R.CAM_SHD_TRG_DELAY R.CLG_SHD_TRG_DELAY p)) (d.live (portFld R.CAM_SHD_EXPOSURE R.CLG_SHD_EXPOSURE p)), dests := d.dests p }

/-- The width of a trigger pulse in cycles (R65, R72). An SHD_EXPOSURE that is no multiple of 2.5 ns the spec does not settle: it is rounded down.
Log 237 (DESIGN CHOICE, unsafe). -/
def Dev.exposureCycles (d : Dev) (p : Nat) : Nat :=
  if d.lflag (portFld R.CAM_CTRL_EXP_MODE R.CLG_CTRL_EXP_MODE p) then 40
  else nsFloor (d.live (portFld R.CAM_SHD_EXPOSURE R.CLG_SHD_EXPOSURE p))

/-! ### Triggers -/

/-- One missed line (R67). -/
def Dev.missed (d : Dev) (p : Nat) : Dev :=
  (d.bump (portFld R.CAM_ERR_CNT0_MISSED R.CLG_ERR_CNT0_MISSED p)).raise (portFld R.CAM_EVENTS_MISSED_LINE R.CLG_EVENTS_MISSED_LINE p)

/-- One extra line (R67, R80). -/
def Dev.extra (d : Dev) (p : Nat) : Dev :=
  (d.bump (portFld R.CAM_ERR_CNT0_EXTRA R.CLG_ERR_CNT0_EXTRA p)).raise (portFld R.CAM_EVENTS_EXTRA_LINE R.CLG_EVENTS_EXTRA_LINE p)

/-- FIELDS of a port, 1 to 4 (R68); a CLG port has one stream. -/
def Dev.fieldsOf (d : Dev) (p : Nat) : Nat := if p < 16 then d.live (R.CAM_CTRL_FIELDS p) + 1 else 1

/-- The field of the next trigger (R68): a FIELDS that a commit has lowered starts anew at 0. -/
def Dev.nextField (d : Dev) (p : Nat) : Nat := if (d.port p).fieldNext < d.fieldsOf p then (d.port p).fieldNext else 0

/-- Age of a trigger at a cycle within [LAT_MIN, LAT_MAX] ns: below, within or above (R67). -/
def ageClass (t : Trig) (now : Nat) : Ordering :=
  let a := (now - t.t) * 5
  if a < 2 * t.cfg.latMin then .lt else if 2 * t.cfg.latMax < a then .gt else .eq

/-- Triggers whose age exceeds LAT_MAX are dropped, each as a missed line (R67). -/
def Dev.dropExpired (d : Dev) (p : Nat) : Dev :=
  let (old, rest) := (d.port p).trigs.partition fun t => ageClass t d.time = .gt
  old.foldl (fun d _ => d.missed p) (d.updPort p fun x => { x with trigs := rest })

/-- A trigger reaches an enabled port: from here its time outside STREAMING runs (R93). -/
def Dev.trigSeen (d : Dev) (p : Nat) : Dev :=
  if !d.lflag (portEnable p) then d else
  d.updPort p fun x => { x with outSince := if d.fld (portState p) = streamState p then none else some (x.outSince.getD d.time) }

/-- Queue a trigger received now (R64, R67, R68). `input`: the Plaza input that shows OVERRUN when the queue is full (R296). -/
def Dev.queueTrig (d : Dev) (p : Nat) (floor : Bool) (input : Option Nat) : Dev :=
  let d := (d.dropExpired p).trigSeen p
  let f := d.nextField p
  let full := decide (64 ≤ (d.port p).trigs.length)
  let d := d.updPort p fun x => { x with fieldNext := (f + 1) % d.fieldsOf p }
  if full then (match input with | some i => (d.missed p).overrun i | none => d.missed p)
  else d.updPort p fun x => { x with trigs := x.trigs ++ [{ t := d.time, floor := floor, epoch := d.fld R.GLB_EPOCH, field := f, framed := d.mode.framed, cfg := d.portCfg p, form := d.mdForm }] }

/-- An event reaches CAMn_TRIG (R64, R65, R67). Log 55 (DESIGN CHOICE, unsafe). -/
def Dev.camTrig (d : Dev) (p : Nat) : Dev :=
  d.onPulse p fun x d =>
    if !d.portUp p then d.trigSeen p else
    let d := (d.emit (.pulse p true)).updPort p fun y => { y with falls := y.falls ++ [(0, d.time + d.exposureCycles p)] }
    d.queueTrig p x.floor (some p)

/-- The level source of a CC line (R72). -/
def Dev.ccMode (d : Dev) (p c : Nat) : Nat := bits (d.live (R.CLG_CC_CFG (p - 16))) (2 * c) 2

/-- Drive a CC line. -/
def Dev.setCc (d : Dev) (p c : Nat) (high : Bool) : Dev :=
  if bitOf (d.port p).cc c = high then d else
  (d.updPort p fun y => { y with cc := putBits y.cc c 1 (b2n high) }).emit (.ccLine p c high)

/-- A CC line takes the level that CC_CFG fixes (R72): low or high; a line on pulse is high while a pulse runs, a line on Plaza level keeps the level of
its last event. -/
def Dev.driveCc (d : Dev) (p c : Nat) : Dev :=
  match d.ccMode p c with
  | 0 => d.setCc p c ((d.port p).falls.any fun g => decide (g.1 = c))
  | 2 => d.setCc p c false
  | 3 => d.setCc p c true
  | _ => d

/-- CC1 receives a trigger (R64, R67, R72). -/
def Dev.ccTrig (d : Dev) (p : Nat) (floor : Bool) (input : Option Nat) : Dev := if d.portUp p then d.queueTrig p floor input else d.trigSeen p

/-- An event reaches CLGm_CCx, `c` = x − 1 (R72, R67). Log 57 (DEDUCED, unsafe). -/
def Dev.clgCc (d : Dev) (m c : Nat) : Dev :=
  let p := 16 + m
  let i := 0x10 + 4 * m + c
  match d.take i with
  | (none, d) => d
  | (some x, d) =>
    match d.ccMode p c with
    | 1 =>
      let d := match x.level with | .set => d.setCc p c true | .clear => d.setCc p c false | .pulse => d
      if c = 0 ∧ x.level = .set then d.ccTrig p x.floor none else d
    | 0 =>
      if !x.pulse then d else
      let d := (d.setCc p c true).updPort p fun y => { y with falls := y.falls ++ [(c, d.time + d.exposureCycles p)] }
      if c = 0 then d.ccTrig p x.floor (some i) else d
    | _ => if c = 0 ∧ x.pulse then d.ccTrig p x.floor none else d

/-- The pulse of the earliest trigger ends (R65, R72). -/
def Dev.pulseEnd (d : Dev) (p : Nat) : Dev :=
  match earliest ((d.port p).falls.map Prod.snd) with
  | none => d
  | some t =>
    match (d.port p).falls.find? fun f => f.2 = t with
    | none => d
    | some f =>
      let d := (d.advance t).updPort p fun y => { y with falls := y.falls.erase f }
      if p < 16 then d.emit (.pulse p false)
      else if d.ccMode p f.1 = 3 ∨ (d.port p).falls.any fun g => decide (g.1 = f.1) then d else d.setCc p f.1 false

/-! ### Streams and landing rings -/

/-- The side band (R77). -/
def sideBand (l : BusLine) (width : Nat) : List Byte :=
  leInt 8 l.wpos ++ leBytes 8 l.trig ++ leBytes 4 l.epoch ++ leBytes 2 l.seq ++ leBytes 2 width ++
  leBytes 1 (l.stream % 64 + l.color * 64) ++ leBytes 1 (l.field % 4 + b2n l.bondOdd * 4) ++
  leBytes 2 (b2n l.floor + 2 * b2n l.padded + 4 * b2n l.truncated + 8 * b2n l.acqStart + 16 * b2n l.acqOutside + 32 * b2n l.secondary) ++
  leBytes 4 l.acqFrame

/-- The size of a landing slot (R86). -/
def slotBytes (width : Nat) : Nat := (64 + 2 * width + 63) / 64 * 64

/-- A line dropped for want of room (R87, R99). -/
def Dev.landDrop (d : Dev) (p : Nat) : Dev :=
  ((d.bump (portFld R.CAM_ERR_CNT2_LAND_DROP R.CLG_ERR_CNT2_LAND_DROP p)).portErr p 0x400E).raise (portFld R.CAM_EVENTS_LAND_OVF R.CLG_EVENTS_LAND_OVF p)

/-- Write a bus line into its landing ring, or drop it when every slot is unfreed (R86, R87). -/
def Dev.land (d : Dev) (p : Nat) (x : Dest) (l : BusLine) : Dev :=
  let r := d.ring x.num
  if x.lines ≤ r.slots.length then d.landDrop p else
  let a := x.base + r.next % x.lines * slotBytes l.pix.length
  let d := d.dramWrite a (sideBand l l.pix.length ++ zeros 32 ++ l.pix.flatMap (leBytes 2))
  d.setRing x.num { next := (r.next + 1) % x.lines, slots := r.slots ++ [(a, { l with pix := [] })] }

/-- The lanes mapped to a CAM port, by position (R61). -/
def Dev.mappedLanes (d : Dev) (p : Nat) : List Nat :=
  (List.range 8).filterMap fun k =>
    let w := d.live (liveMap p k)
    if bits w (k % 4 * 8 + 7) 1 = 1 then some (bits w (k % 4 * 8) 6) else none
where
  /-- LANE_MAP0 or LANE_MAP1. -/
  liveMap (p k : Nat) : Fld := if k < 4 then R.CAM_LANE_MAP0 p else R.CAM_LANE_MAP1 p

/-- Pixels of a role's primary input buffer not yet taken (R129). -/
def Corr.primLeft (c : Corr) : Nat := (c.prim.map fun l => l.pix.length - 256 * l.chunks).sum

/-- Pipeline rate of a role: 4.8 Gpix/s, or 4.0 on -A10 (R84, R128). -/
def pipeRate : Nat := if Config.grade12 then 4800000000 else 4000000000

/-- Bits of a camera value (R78). -/
def fmtBits (f : Nat) : Nat := 16 - fmtShift f

/-- Pixels a second at which a port's lanes bring a line to one role (R60, R88); 0 for a CLG port, which is slower than any pipeline (R70). -/
def Dev.laneRate (d : Dev) (p : Nat) : Nat :=
  if p < 16 then (d.mappedLanes p).length * 10000000000 / fmtBits (d.pixFmt p) / (if d.bonded p then 2 else 1) else 0

/-- The room in pixels that a bus line needs beyond what its buffer holds as its camera line arrives: `n` its pixels, `ahead` those of the camera line
before it, `rate` the rate at which they come, while the pipeline drains at its own (R129, R130). -/
def roomNeeded (n ahead rate : Nat) : Nat := max (min n 256) (n - (if rate = 0 then n else (ahead + n) * pipeRate / rate))

/-- A primary line enters the role's input buffer, or is dropped whole when one of its chunks would find no room (R130). Log 69 (DEDUCED, unsafe). -/
def Dev.toPrimary (d : Dev) (role : Nat) (l : BusLine) (ahead rate : Nat) : Dev :=
  let c := d.cor role
  if 32768 < c.primLeft + roomNeeded l.pix.length ahead rate then
    (d.inputStripes role).foldl (fun d s => (d.bump (R.STR_COR_CNT0_IN_DROP s)).raise (R.STR_COR_EVENTS_IN_OVF s)) d
  else d.setCor role { c with prim := c.prim ++ [l] }

/-- Every other pixel, from the first or the second on (R88). -/
def everyOther : Bool → List Nat → List Nat
  | _, [] => []
  | false, x :: xs => x :: everyOther true xs
  | true, _ :: xs => everyOther false xs

/-- Deliver a bus line to where its stream goes (R82, R83, R126). -/
def Dev.route1 (d : Dev) (p : Nat) (x : Dest) (l : BusLine) (ahead : Nat) : Dev :=
  if !(d.lflag (R.STR_COR_CTRL_ENABLE x.role)) then d else
  match x.mode with
  | 1 => d.toPrimary x.role l ahead (d.laneRate p)
  | 2 => d.land p x { l with secondary := true }
  | _ => d

/-- Deliver an accepted line whose trigger is stamped: one bus line for each colour, two halves of a bonded pair (R78, R88). -/
def Dev.deliver (d : Dev) (p : Nat) (h : HeldLine) (stamp : Int × Int) : Dev :=
  let k := h.trig.field
  match h.trig.cfg.dests[k]? with
  | none => d
  | some x =>
    let seq := tget 0 (d.port p).seqs k
    let d := d.updPort p fun y => { y with seqs := tset 0 y.seqs k ((seq + 1) % 65536) }
    let rgb := decide (2 ≤ h.planes.length)
    (h.planes.zipIdx).foldl (fun d (pix, i) =>
      let l : BusLine := { wpos := stamp.1, md := stamp.2, trig := h.trig.t, epoch := h.trig.epoch, seq := seq, stream := x.num, color := if rgb then i + 1 else 0, field := k, bondOdd := false, floor := h.trig.floor, padded := h.padded, truncated := h.truncated, acqStart := h.acqStart, acqOutside := h.acqOutside, secondary := false, acqFrame := h.acqFrame, framed := h.trig.framed, pix := pix }
      if d.bonded p then
        let d := d.route1 p x { l with pix := everyOther false pix } (i * (pix.length / 2))
        d.route1 p { x with role := x.role + 1, num := x.num + 1 } { l with pix := everyOther true pix, bondOdd := true, stream := x.num + 1 } (i * (pix.length / 2))
      else d.route1 p x l (i * pix.length)) d

/-! ### Exposure stamps (R39) -/

/-- The earliest exposure midpoint of a port that has no stamp yet. -/
def Port.unstamped (x : Port) : Option Trig :=
  ((x.held.map (·.trig)) ++ x.trigs).find? fun t => t.stamp.isNone

/-- Fix the stamp of the oldest unstamped trigger of a port, and deliver a line that waited for it (R39, R66). -/
def Dev.exposureStamp (d : Dev) (p : Nat) : Dev :=
  match (d.port p).unstamped with
  | none => d
  | some t =>
    let i := t.t + t.cfg.mid
    let d := d.advance (d.stampDue i)
    let st := d.stampAt t.form i
    let x := d.port p
    match x.held with
    | h :: rest =>
      if h.trig = t then (d.setPort p { x with held := rest }).deliver p h st
      else d
    | [] => d.setPort p { x with trigs := x.trigs.map fun y => if y = t then { y with stamp := some st } else y }

/-! ### Camera lines -/

/-- Match a line against the pending triggers (R67): the trigger, those left, and how many were dropped. -/
def matchTrig (now : Nat) (ts : List Trig) : Option Trig × List Trig × Nat :=
  match ts.dropWhile fun t => ageClass t now ≠ .eq with
  | m :: rest => (some m, rest.filter fun t => ageClass t now ≠ .gt, ts.length - rest.length - 1 + (rest.filter fun t => ageClass t now = .gt).length)
  | [] => (none, ts.filter fun t => ageClass t now ≠ .gt, (ts.filter fun t => ageClass t now = .gt).length)

/-- Cut or fill a line to WIDTH (R79). -/
def fitLine (width pad : Nat) (pix : List Nat) : List Nat :=
  let x := pix.take width
  x ++ List.replicate (width - x.length) pad

/-- Put the taps of a CLG line in pixel order (R71): with TAP_GEOM = 1 tap i carries segment i. -/
def untap (taps : Nat) (pix : List Nat) : List Nat :=
  let n := pix.length / max taps 1
  (List.range taps).flatMap fun i => (List.range n).map fun c => pix.getD (c * taps + i) 0

/-- The rate check over windows of 1,024 accepted lines (R85). -/
def Dev.rateCheck (d : Dev) (p : Nat) : Dev :=
  let x := d.port p
  let lim := max (d.live (portFld R.CAM_LINE_RATE_MAX R.CLG_LINE_RATE_MAX p)) 1
  if x.winCount = 0 then d.setPort p { x with winCount := 1, winStart := d.time }
  else if x.winCount < 1024 then d.setPort p { x with winCount := x.winCount + 1 }
  else
    let d := d.setPort p { x with winCount := 1, winStart := d.time }
    d.raiseIf (decide ((d.time - x.winStart) * lim < 1024 * 400000000)) (portFld R.CAM_EVENTS_RATE_HIGH R.CLG_EVENTS_RATE_HIGH p)

/-- FVAL_MODE; 3 acts as CAMERA (R80). -/
def Dev.fvalMode (d : Dev) (p : Nat) : Nat :=
  match d.live (portFld R.CAM_CTRL_FVAL_MODE R.CLG_CTRL_FVAL_MODE p) with | 3 => 0 | m => m

def Dev.acqLines (d : Dev) (p : Nat) : Nat := d.live (portFld R.CAM_ACQ_LINES R.CLG_ACQ_LINES p)

/-- One short or long acquisition frame (R81). -/
def Dev.frameErr (d : Dev) (p : Nat) (long : Bool) : Dev :=
  let d := d.bump (portFld R.CAM_ERR_CNT2_FRAME_ERR R.CLG_ERR_CNT2_FRAME_ERR p)
  if long then d.raise (portFld R.CAM_EVENTS_LONG_FRAME R.CLG_EVENTS_LONG_FRAME p)
  else d.raise (portFld R.CAM_EVENTS_SHORT_FRAME R.CLG_EVENTS_SHORT_FRAME p)

/-- Open an acquisition frame. Log 54 (DESIGN CHOICE, unsafe). -/
def Dev.acqStart (d : Dev) (p : Nat) : Dev :=
  d.updPort p fun x => { x with acqOpen := true, acqCount := 0, acqLong := false, acqFrame := (x.acqFrame + 1) % 2 ^ 32 }

/-- Count an accepted line in its acquisition frame (R80, R81). -/
def Dev.acqLine (d : Dev) (p : Nat) : Dev :=
  let n := d.acqLines p
  let x := d.port p
  if d.fvalMode p = 1 then
    let d := if x.acqOpen then d else d.acqStart p
    let c := (d.port p).acqCount + 1
    d.updPort p fun x => { x with acqCount := c, acqOpen := !(decide (n ≠ 0) && decide (n ≤ c)) }
  else if !x.acqOpen then d
  else
    let c := x.acqCount + 1
    let d := d.setPort p { x with acqCount := c, acqLong := x.acqLong || (decide (n ≠ 0) && decide (n < c)) }
    if n ≠ 0 ∧ n < c ∧ !x.acqLong then d.frameErr p true else d

/-- FVAL from the camera opens or closes an acquisition frame (R80, R81); an edge at a port that is neither READY nor STREAMING, of which the spec says
nothing, is ignored. Log 239 (DESIGN CHOICE, unsafe). -/
def Dev.acqEdge (d : Dev) (p : Nat) (opens : Bool) (t : Nat) : Dev :=
  let d := d.advance t
  if d.fvalMode p = 1 ∨ !d.portUp p then d else
  let x := d.port p
  if opens then (if x.acqOpen then d else d.acqStart p)
  else if !x.acqOpen then d
  else
    let d := d.setPort p { x with acqOpen := false }
    if d.acqLines p ≠ 0 ∧ x.acqCount < d.acqLines p then d.frameErr p false else d

/-- The roles a port feeds with a primary stream (R82, R83, R88). -/
def Dev.primaryRoles (d : Dev) (p : Nat) : List Nat :=
  let rs := ((d.dests p).filter fun x => x.mode = 1).map (·.role)
  if d.bonded p then rs.flatMap fun r => [r, r + 1] else rs

/-- A port's roles become missing, or its secondary streams when it feeds no role (R93). -/
def Dev.portMissing (d : Dev) (p : Nat) : Dev :=
  let d := d.updPort p fun x => { x with missing := true }
  (d.primaryRoles p).foldl (fun d r => if d.lflag (R.STR_COR_CTRL_ENABLE r) then d.setFld (Fld.bit R.GLB_MISSING_ROLES r) 1 else d) d

/-- A streaming port clears its missing marks (R471). -/
def Dev.portPresent (d : Dev) (p : Nat) : Dev :=
  if !(d.port p).missing then d else
  let d := d.updPort p fun x => { x with missing := false }
  (d.primaryRoles p).foldl (fun d r => d.setFld (Fld.bit R.GLB_MISSING_ROLES r) 0) d

/-- Accept a matched camera line (R79 to R81, R85, R92). The line that moves the port to STREAMING counts as the first of the first rate window: R85
leaves open whether that line or the next does. Log 54 (DESIGN CHOICE, unsafe), 240 (DESIGN CHOICE, unsafe). -/
def Dev.acceptLine (d : Dev) (p : Nat) (t : Trig) (planes : List (List Nat)) : Dev :=
  let d := d.incr (portFld R.CAM_LINES_RX R.CLG_LINES_RX p)
  let d := if d.fld (portState p) = streamState p then d else
    (d.setFld (portState p) (streamState p)).updPort p fun x => { x with winCount := 0, outSince := none }
  let d := (d.portPresent p).rateCheck p
  let w := t.cfg.width
  let n := (planes.headD []).length
  let d := if n < w then (d.bump (portFld R.CAM_ERR_CNT1_SHORT R.CLG_ERR_CNT1_SHORT p)).raise (portFld R.CAM_EVENTS_SHORT_LINE R.CLG_EVENTS_SHORT_LINE p) else d
  let d := if w < n then (d.bump (portFld R.CAM_ERR_CNT1_LONG R.CLG_ERR_CNT1_LONG p)).raise (portFld R.CAM_EVENTS_LONG_LINE R.CLG_EVENTS_LONG_LINE p) else d
  let was := (d.port p).acqOpen && decide (0 < (d.port p).acqCount)
  let d := d.acqLine p
  let inside := decide (d.fvalMode p = 1) || (d.port p).acqOpen
  let h : HeldLine := { trig := t, planes := planes.map fun x => fitLine w t.cfg.pad x, padded := decide (n < w), truncated := decide (w < n), acqStart := inside && !was, acqOutside := !inside, acqFrame := (d.port p).acqFrame }
  match t.stamp, (d.port p).held with
  | some st, [] => d.deliver p h st
  | _, _ => d.updPort p fun x => { x with held := x.held ++ [h] }

/-- A camera line arrives: `planes` are the camera's values, one list for mono and three for a trilinear camera (R67 to R92, R99). Two points that the
spec leaves open: a line that a full elastic buffer drops consumes no trigger and does not move LINE_SEQ; a line that comes outside an open frame under
CAMERA and was triggered before the boundary of R92 counts as an extra line (R80).
Log 56 (DESIGN CHOICE, unsafe), 241 (DESIGN CHOICE, unsafe), 242 (DESIGN CHOICE, unsafe). -/
def Dev.camLine (d : Dev) (p t : Nat) (planes : List (List Nat)) (elasticFull : Bool) : Dev :=
  let d := d.advance t
  if !d.portUp p then d else
  if elasticFull then d.landDrop p else
  let (m, rest, drops) := matchTrig d.time (d.port p).trigs
  let d := d.updPort p fun x => { x with trigs := rest }
  let d := (List.range drops).foldl (fun d _ => d.missed p) d
  match m with
  | none => d.extra p
  | some m =>
    if d.fvalMode p = 0 ∧ !(d.port p).acqOpen then d.extra p
    else if (d.port p).waitBoundary ∨ m.t < (d.port p).acceptFrom then d
    else
      let sh := fmtShift (d.pixFmt p)
      let taps := d.live (R.CLG_CTRL_TAPS (p - 16))
      let order := fun x => if 16 ≤ p ∧ d.lflag (R.CLG_CTRL_TAP_GEOM (p - 16)) ∧ !fmtRgb (d.pixFmt p) then untap taps x else x
      let keep := if fmtRgb (d.pixFmt p) then 3 else 1
      d.acceptLine p m ((planes.take keep).map fun x => (order x).map fun v => v * 2 ^ sh % 65536)

/-! ### Port states (R90 to R94) -/

/-- Move a CAM port to DETECT, a CLG port to NO_CLOCK: its acquisition frame and rate window end. Log 51 (DEDUCED, unsafe). -/
def Dev.portDetect (d : Dev) (p : Nat) : Dev :=
  let ident := decide (p < 16) && decide (d.fld (portState p) = 3)
  let d := (d.setFld (portState p) 1).updPort p fun x => { x with winCount := 0, acqOpen := false, acqCount := 0, waitBoundary := false, acceptFrom := 0, deskewAt := none, idTries := 0, idRead := 0, idWait := none }
  let d := if p < 16 then d.setFld (R.CAM_STATUS_LANE_UP p) 0 else d
  if ident then d.setFld (R.CAM_GC_CTRL_BUSY p) 0 else d

/-- The roles and streams of a port that leaves READY or STREAMING in INSPECT become missing (R93). -/
def Dev.portLeft (d : Dev) (p : Nat) : Dev :=
  if d.mode = .inspect then d.portMissing p else d

/-- Loss of lock on a lane of a CAM port (R90). -/
def Dev.camLostLock (d : Dev) (p : Nat) : Dev :=
  let st := d.fld (portState p)
  if 2 ≤ st ∧ st ≤ 5 then
    let up := d.portUp p
    let d := ((d.portErr p 0x400D).raise (R.CAM_EVENTS_LINK_LOST p)).portDetect p
    if up then d.portLeft p else d
  else d

/-- A mapped lane loses signal: MISMATCH is left as well (R90). -/
def Dev.camLostSignal (d : Dev) (p : Nat) : Dev :=
  if d.fld (portState p) = 6 then d.portDetect p else d.camLostLock p

/-- All mapped lanes show signal (R90). -/
def Dev.camLanesSignal (d : Dev) (p : Nat) : Dev :=
  let ls := d.mappedLanes p
  if d.fld (portState p) ≠ 1 ∨ ls = [] then d else
  let d := ls.foldl (fun d l => d.setFld (R.KSL_LANE_STATUS_SIGNAL l) 1) d
  d.setFld (portState p) 2

/-- In IDENTIFY the firmware reads the next identification field, 32 bytes, over the command channel (R90, R91). Log 238 (DESIGN CHOICE, safe). -/
def Dev.identRead (d : Dev) (p : Nat) : Dev :=
  let k := (d.port p).idRead
  (d.updPort p fun x => { x with gcSince := d.time }).emit (.gcCommand p false (Config.idAddr k) 32 [])

/-- All lanes are block-locked with a skew in ns: deskewed up to 50 ns, else DESKEW_FAIL (R62, R90). A transaction of software that is open when the port
enters IDENTIFY ends without DONE: the firmware then owns the mailbox (R69), and the spec says no more. Log 243 (DESIGN CHOICE, unsafe). -/
def Dev.camLinkUp (d : Dev) (p skew : Nat) : Dev :=
  if d.fld (portState p) ≠ 2 then d else
  let ls := d.mappedLanes p
  let d := ls.foldl (fun d l => (d.setFld (R.KSL_LANE_STATUS_BIT_LOCK l) 1).setFld (R.KSL_LANE_STATUS_BLOCK_LOCK l) 1) d
  let d := d.setFld (R.CAM_STATUS_LANE_UP p) (2 ^ ls.length - 1)
  if 50 < skew then (d.updPort p fun x => { x with deskewAt := some d.time }).raise (R.CAM_EVENTS_DESKEW_FAIL p)
  else
    let d := (d.setFld (portState p) 3).updPort p fun x => { x with deskewAt := none, idTries := 0, idRead := 0, idWait := none }
    (d.setFld (R.CAM_GC_CTRL_BUSY p) 1).identRead p

/-- Deskew that has failed is retried 10 ms later (R62). -/
def Dev.deskewRetry (d : Dev) (p skew : Nat) : Dev :=
  match (d.port p).deskewAt with
  | some t => (d.advance (t + 4000000)).camLinkUp p skew
  | none => d

/-- Does an identity match (R91). -/
def idMatches (mode expect : Nat) (ident : List Byte) : Bool :=
  match mode with
  | 1 => crc32 (slice ident 32 32) = expect
  | 2 => crc32 (slice ident 32 64) = expect
  | _ => true

/-- The port becomes READY or LOCKED; in INSPECT or DEGRADED it accepts lines from the next boundary on (R92). -/
def Dev.portReady (d : Dev) (p : Nat) : Dev :=
  let w := decide (d.mode = .inspect) || decide (d.mode = .degraded)
  (d.setFld (portState p) (readyState p)).updPort p fun x => { x with fieldNext := 0, waitBoundary := w, acceptFrom := 0, winCount := 0 }

/-- The identity reads are complete (R91). Answers whether the port became READY. -/
def Dev.camIdentified (d : Dev) (p : Nat) (ident : List Byte) : Dev × Bool :=
  if d.fld (portState p) ≠ 3 ∨ (d.port p).idWait.isSome then (d, false) else
  let d := (bytesWords 32 ident).zipIdx.foldl (fun d (w, i) => d.setFld (R.CAM_ID p i) w) d
  let d := d.setFld (R.CAM_GC_CTRL_BUSY p) 0
  if idMatches (d.live (R.CAM_ID_MATCH p)) (d.live (R.CAM_EXPECT_CRC p)) (fit 128 ident) then
    ((d.portReady p).raise (R.CAM_EVENTS_PLUGGED p), true)
  else (((d.setFld (portState p) 6).portErr p 0x400C).raise (R.CAM_EVENTS_MISMATCH p), false)

/-- One second after the third timed-out try the port returns to DETECT (R90). -/
def Dev.identifyWaitEnd (d : Dev) (p : Nat) : Dev :=
  match (d.port p).idWait with
  | some t => (d.advance (t + 400000000)).portDetect p
  | none => d

/-- A command names a port with ENABLE = 0 (R100). -/
def Dev.portDisabled (d : Dev) (p : Nat) : Bool := !d.lflag (portEnable p)

/-- RETRY leaves MISMATCH (R90); a port with ENABLE = 0 notes PORT_DISABLED (R100). Log 244 (DEDUCED, unsafe). -/
def Dev.camRetry (d : Dev) (p : Nat) : Dev :=
  if d.portDisabled p then d.portErr p 0x4001 else if d.fld (portState p) = 6 then d.portDetect p else d

/-- A port stays outside STREAMING for 100 ms after a trigger (R93). -/
def Dev.roleMissing (d : Dev) (p : Nat) : Dev :=
  match (d.port p).outSince with
  | some t =>
    if d.fld (portState p) = streamState p ∨ !d.lflag (portEnable p) then d
    else (d.advance (t + 40000000)).portMissing p
  | none => d

/-- Is a stream missing with its port, as either half of a bonded pair is (R88, R93, R117). -/
def Dev.streamMissing (d : Dev) (stream : Nat) : Bool :=
  (List.range 20).any fun p => (d.port p).missing && (d.dests p).any fun x => decide (x.mode ≠ 0) && (decide (x.num = stream) || (d.bonded p && decide (x.num + 1 = stream)))

/-- Where a mode leaves the ports: running ones keep their state, the others are OFF (R90, R94). -/
def Dev.portsForMode (d : Dev) : Dev :=
  (List.range 20).foldl (fun d p =>
    let on := d.mode.ports && d.lflag (portEnable p)
    if on then (if d.fld (portState p) = 0 then d.portDetect p else d)
    else if d.fld (portState p) = 0 then d
    else (d.portDetect p).setFld (portState p) 0) d

/-- The ports at a boundary: those that wait accept lines triggered from now on (R92). -/
def Dev.portsAtBoundary (d : Dev) : Dev :=
  (List.range 20).foldl (fun d p => if (d.port p).waitBoundary then d.updPort p fun x => { x with waitBoundary := false, acceptFrom := d.time } else d) d

/-! ### The command channel (R69) -/

/-- A write of GO = 1; a port with ENABLE = 0 notes PORT_DISABLED and sends nothing (R69, R100). Log 59 (DEDUCED, unsafe), 244 (DEDUCED, unsafe). -/
def Dev.gcGo (d : Dev) (p : Nat) (write : Bool) (len : Nat) : Dev :=
  if d.portDisabled p then d.portErr p 0x4001 else
  if d.flag (R.CAM_GC_CTRL_BUSY p) ∨ d.fld (portState p) = 3 then (d.portErr p 0x400B).raise (R.CAM_EVENTS_GC_COLLIDE p) else
  let d := (d.setFld (R.CAM_GC_CTRL_GC_LEN p) len).setFlag (R.CAM_GC_CTRL_WRITE p) write
  let d := (d.setFld (R.CAM_GC_CTRL_BUSY p) 1).updPort p fun x => { x with gcSince := d.time }
  d.emit (.gcCommand p write (d.fld (R.CAM_GC_ADDR p)) len (if write then (List.range ((len + 3) / 4)).map fun i => d.fld (R.CAM_GC_DATA p i) else []))

/-- The mailbox transaction ends with a status. -/
def Dev.gcEnd (d : Dev) (p status : Nat) : Dev :=
  let d := ((d.setFld (R.CAM_GC_CTRL_BUSY p) 0).setBit (R.CAM_GC_CTRL_DONE p)).setFld (R.CAM_GC_CTRL_GC_STATUS p) status
  if status = 0 then d else d.portErr p status

/-- A try of IDENTIFY ends without an answer: the next follows at once, and the third starts the wait of 1 s (R90). -/
def Dev.tryEnds (d : Dev) (p : Nat) : Dev :=
  let n := (d.port p).idTries + 1
  let d := d.updPort p fun x => { x with idTries := n, idRead := 0, idWait := if 3 ≤ n then some d.time else none }
  if 3 ≤ n then d else d.identRead p

/-- The camera answers a read of IDENTIFY: the next field is read, up to the fourth (R90). A read that the camera refuses, of which the spec says nothing,
ends its try. Log 245 (DESIGN CHOICE, unsafe). -/
def Dev.identAnswer (d : Dev) (p : Nat) (ok : Bool) : Dev :=
  let x := d.port p
  if x.idWait.isSome ∨ 4 ≤ x.idRead then d
  else if !ok then d.tryEnds p
  else
    let d := d.setPort p { x with idRead := x.idRead + 1 }
    if x.idRead = 3 then d else d.identRead p

/-- The camera answers. -/
def Dev.gcAnswer (d : Dev) (p : Nat) (ok : Bool) (data : List Byte) : Dev :=
  if !(d.flag (R.CAM_GC_CTRL_BUSY p)) then d else
  if d.fld (portState p) = 3 then d.identAnswer p ok else
  if !ok then d.gcEnd p 0x400A else
  let n := (min (d.fld (R.CAM_GC_CTRL_GC_LEN p)) 256 + 3) / 4
  let d := if d.flag (R.CAM_GC_CTRL_WRITE p) then d else (bytesWords n data).zipIdx.foldl (fun d (w, i) => d.setFld (R.CAM_GC_DATA p i) w) d
  d.gcEnd p 0

/-- No answer within GC_TIMEOUT ms; in IDENTIFY it ends a try (R69, R90). -/
def Dev.gcTimeout (d : Dev) (p : Nat) : Dev :=
  if !(d.flag (R.CAM_GC_CTRL_BUSY p)) then d else
  if d.fld (portState p) = 3 ∧ ((d.port p).idWait.isSome ∨ 4 ≤ (d.port p).idRead) then d else
  let d := d.advance ((d.port p).gcSince + usCycles (1000 * max (d.fld (R.CAM_GC_TIMEOUT p)) 1))
  if d.fld (portState p) = 3 then
    d.tryEnds p
  else d.gcEnd p 0x4009

/-! ### Legacy ports (R73, R74) -/

/-- How many channel clocks a CLG port's CONFIG needs: X, then Y, then Z (R70). -/
def Dev.clgChannels (d : Dev) (m : Nat) : Nat := match d.live (R.CLG_CTRL_CONFIG m) with | 0 => 1 | 1 => 2 | _ => 3

/-- Every needed channel clock has stayed in range for 1 ms. -/
def Dev.clgLocked (d : Dev) (m mhz : Nat) : Dev × Bool :=
  if d.fld (R.CLG_STATUS_STATE m) ≠ 1 then (d, false) else
  let ok := d.fld (R.CLG_STATUS_CLK_OK m) ||| (2 ^ d.clgChannels m - 1)
  (((d.setFld (R.CLG_STATUS_CLK_OK m) ok).setFld (R.CLG_STATUS_PCLK_MHZ m) mhz).portReady (16 + m), true)

/-- A CLG port without a clock that its CONFIG needs is NO_CLOCK and sets CLOCK_LOST (R74). -/
def Dev.clgNoClock (d : Dev) (m : Nat) : Dev :=
  let up := d.portUp (16 + m)
  let d := ((d.portErr (16 + m) 0x4010).raise (R.CLG_EVENTS_CLOCK_LOST m)).portDetect (16 + m)
  if up then d.portLeft (16 + m) else d

/-- A channel clock goes missing or out of range (R74): one that CONFIG does not need changes CLK_OK alone. -/
def Dev.clgLost (d : Dev) (m ch : Nat) : Dev :=
  if d.fld (R.CLG_STATUS_STATE m) = 0 then d else
  let d := d.setFld (Fld.bit (R.CLG_STATUS_CLK_OK m) ch) 0
  if ch < d.clgChannels m then d.clgNoClock m else d

/-- What a commit does at once at a CLG port: its CC lines follow the new CC_CFG (R72, R95), and a CONFIG that needs a clock that is missing makes it
NO_CLOCK (R74). -/
def Dev.clgCommit (d : Dev) (m : Nat) : Dev :=
  let d := [0, 1, 2, 3].foldl (fun d c => d.driveCc (16 + m) c) d
  if d.portUp (16 + m) ∧ d.fld (R.CLG_STATUS_CLK_OK m) % 2 ^ d.clgChannels m ≠ 2 ^ d.clgChannels m - 1 then d.clgNoClock m else d

/-- BAUD; a value outside 9,600 to 921,600 acts as 9,600. -/
def Dev.baud (d : Dev) (m : Nat) : Nat :=
  let b := d.fld (R.CLG_SER_CFG m)
  if 9600 ≤ b ∧ b ≤ 921600 then b else 9600

/-- A byte arrives on the serial pair. -/
def Dev.serReceive (d : Dev) (m : Nat) (b : Byte) : Dev :=
  let x := d.port (16 + m)
  if 256 ≤ x.rx.length then d.raise (R.CLG_EVENTS_SER_OVF m)
  else d.setPort (16 + m) { x with rx := x.rx ++ [b.toNat] }

/-- The bytes of the transmit FIFO that have not yet left: each takes ten bit times. Log 58 (DEDUCED, unsafe). -/
def Dev.txLeft (d : Dev) (m : Nat) : List Nat := (d.port (16 + m)).tx.filter fun t => d.time < t

/-- SER_TX queues a byte; it is ignored when the FIFO is full. Log 58 (DEDUCED, unsafe). -/
def Dev.serTx (d : Dev) (m : Nat) (b : Byte) : Dev :=
  let l := d.txLeft m
  if 256 ≤ l.length then d else
  let start := max d.time (l.getLastD 0)
  (d.updPort (16 + m) fun x => { x with tx := l ++ [start + 4000000000 / d.baud m] }).emit (.serial (16 + m) b.toNat)

/-- SER_RX takes one byte. -/
def Dev.serRx (d : Dev) (m : Nat) : Dev := d.updPort (16 + m) fun x => { x with rx := x.rx.drop 1 }

end Sys2Proof.Machine
end

