-- ==== Sys2Proof/Machine/Correction.lean ====
section
/-!
DEFINITION. In-line correction and resampling (chapter 03): stages 1 to 6, the line-delay store, tap tables and band lines.
-/
namespace Sys2Proof.Machine

/-! ### Streams of a role -/

/-- A stream routed to a role: its port, number, whether primary, pixels of a bus line and bus lines of a camera line. -/
structure StreamInfo where
  port : Nat
  num : Nat
  role : Nat
  primary : Bool
  width : Nat
  comps : Nat
  deriving DecidableEq, Repr

/-- The streams of the enabled ports under a configuration (R83, R88). -/
def streamsOf (g : Fld → Nat) : List StreamInfo :=
  (List.range 20).flatMap fun p =>
    if g (portEnable p) = 0 then [] else
    let w := g (portFld R.CAM_WIDTH R.CLG_WIDTH p)
    let n := if fmtRgb (g (portFld R.CAM_CTRL_PIX_FMT R.CLG_CTRL_PIX_FMT p)) then 3 else 1
    (destsOf g p).flatMap fun x =>
      if x.mode ≠ 1 ∧ x.mode ≠ 2 then [] else
      if bondedOf g p then
        [{ port := p, num := x.num, role := x.role, primary := true, width := w / 2, comps := n },
         { port := p, num := x.num + 1, role := x.role + 1, primary := true, width := w / 2, comps := n }]
      else [{ port := p, num := x.num, role := x.role, primary := decide (x.mode = 1), width := w, comps := n }]

/-- The live stream of a number. -/
def Dev.streamInfo (d : Dev) (num : Nat) : Option StreamInfo := (streamsOf d.live).find? fun s => s.num = num

/-- Bus lines per camera line of a stream; an unknown stream counts one. -/
def Dev.compsOf (d : Dev) (num : Nat) : Nat := match d.streamInfo num with | some s => s.comps | none => 1

/-- Pixels of a bus line of a stream. -/
def Dev.widthOf (d : Dev) (num : Nat) : Nat := match d.streamInfo num with | some s => s.width | none => 0

/-! ### Tap tables (R122) -/

/-- The reset value of a TAP word: GAIN = 0x4000 in every source-column entry (R122). -/
def tapReset (a : Nat) : Word :=
  if a % 0x80000 < 0x40000 ∧ a % 8 = 0 then 0x40000000 else 0

/-- Where entry `j` of a role's source-column table, and residual entry `j`, lie. -/
def srcAddr (role j : Nat) : Nat := 0x03000000 + role * 0x80000 + 8 * j
def resAddr (role j : Nat) : Nat := 0x03000000 + role * 0x80000 + 0x40000 + j / 2 * 4

def tapWord (t : Tbl Word) (a : Nat) : Nat := (tget (tapReset a) t a).toNat
def tapDark (t : Tbl Word) (role j : Nat) : Nat := bits (tapWord t (srcAddr role j)) 0 16
def tapGain (t : Tbl Word) (role j : Nat) : Nat := bits (tapWord t (srcAddr role j)) 16 16
def tapDly (t : Tbl Word) (role j : Nat) : Int := sx 16 (bits (tapWord t (srcAddr role j + 4)) 0 16)
def tapDefect (t : Tbl Word) (role j : Nat) : Nat := bits (tapWord t (srcAddr role j + 4)) 16 3
def tapRes (t : Tbl Word) (role j : Nat) : Int := sx 16 (bits (tapWord t (resAddr role j)) (j % 2 * 16) 16)

/-! ### Versions of a role's settings (R123) -/

/-- The camera-side settings of a role as they are live now. -/
def Dev.camSnap (d : Dev) (r : Nat) : CamVer :=
  { epoch := d.fld R.GLB_EPOCH, taps := d.tapsLive, chans := (List.range 4).map fun c => { on := d.lflag (R.STR_CH_CFG_ENABLE r c), stream := d.live (R.STR_CH_CFG_STREAM r c), srcBase := d.live (R.STR_CH_SRC_BASE r c), pedestal := d.live (R.STR_CH_PEDESTAL r c), repl := d.live (R.STR_CH_REPL r c) } }

/-- The output-side settings of a role as they are live now, for output lines from `line` on. -/
def Dev.outSnap (d : Dev) (r line : Nat) : OutVer :=
  { line := line, rsMode := d.live (R.STR_COR_CTRL_RS_MODE r), binLog2 := d.live (R.STR_COR_CTRL_BIN_LOG2 r), bandCols := d.live (R.STR_BAND_COLS r), taps := d.tapsLive, chans := (List.range 4).map fun c => { on := d.lflag (R.STR_CH_CFG_ENABLE r c), stream := d.live (R.STR_CH_CFG_STREAM r c), srcBase := d.live (R.STR_CH_SRC_BASE r c), remapBase := d.live (R.STR_CH_REMAP_BASE r c), x0 := d.slive (R.STR_CH_X0 r c), m := d.slive (R.STR_CH_M r c), k2 := d.slive (R.STR_CH_K2 r c), k3 := d.slive (R.STR_CH_K3 r c), centre := d.live (R.STR_CH_CENTRE r c), xred := d.slive (R.STR_CH_COLOR_XOFS_RED r c), xblue := d.slive (R.STR_CH_COLOR_XOFS_BLUE r c) } }

/-- The camera-side settings for a line of an epoch: live for the live epoch, previous for an older one (R123). Log 64 (DEDUCED, unsafe). -/
def Dev.camVer (d : Dev) (r epoch : Nat) : CamVer :=
  let c := d.cor r
  match c.camLive, c.camPrev with
  | some l, some p => if epoch = l.epoch then l else p
  | some l, none => l
  | none, _ => d.camSnap r

/-- The output-side settings of output line `l`: one set for every line of an output frame (R123). -/
def Dev.outVer (d : Dev) (r l : Nat) : OutVer :=
  match (d.cor r).outs.find? fun v => v.line ≤ l with
  | some v => v
  | none => match (d.cor r).outs.getLast? with | some v => v | none => d.outSnap r l

/-- The tables and settings of every role move at a commit's FRAME_POS cycle (R123): the camera side at once, the output side
for the lines from boundary `b` on.  A channel that this enables begins at line `b`. Log 64 (DEDUCED, unsafe). -/
def Dev.corCommit (d : Dev) (b : Nat) : Dev :=
  (List.range 16).foldl (fun d r =>
    let c := d.cor r
    let prevOn := fun k => match c.outs with | v :: _ => (match v.chans[k]? with | some x => x.on | none => false) | [] => false
    let v := d.outSnap r b
    let comp := (List.range 4).foldl (fun t k => if (match v.chans[k]? with | some x => x.on | none => false) && !prevOn k then tset 0 t k (b - d.pos.firstLine) else t) c.computed
    d.setCor r { c with camPrev := some (c.camLive.getD (d.camSnap r)), camLive := some (d.camSnap r), outs := (v :: c.outs).take 4, computed := comp }) d

/-- The pipelines start a run: stores empty, output lines from the first line on (R108). -/
def Dev.corStart (d : Dev) : Dev :=
  (List.range 16).foldl (fun d r =>
    let c := d.cor r
    d.setCor r { c with camLive := some (d.camSnap r), camPrev := none, outs := [d.outSnap r 0], store := [], computed := [], bands := [] }) d

/-- A stripe takes a role over without a mirror period at row `b`: it holds no lines of the role yet. Log 194 (DEDUCED, unsafe). -/
def Dev.corTakeOver (d : Dev) (r b : Nat) : Dev :=
  let c := d.cor r
  d.setCor r { c with prim := [], sec := [], store := [], computed := (List.range 4).foldl (fun t k => tset 0 t k (b - d.pos.firstLine)) [], bands := [] }

/-! ### Stages 1 and 2 -/

/-- Limit to 16 bits unsigned. -/
def sat16 (x : Int) : Nat := (clampI 0 65535 x).toNat

/-- Dark offset and flat gain (R104). -/
def stage1 (v dark gain pedestal : Nat) : Nat :=
  sat16 ((((v : Int) - dark) * gain + 2 ^ 13) / 2 ^ 14 + pedestal)

/-- The nearest good column up to 4 columns away, to the left or to the right (R105). -/
def nearestGood (good : Nat → Bool) (width j : Nat) (right : Bool) : Option Nat :=
  [1, 2, 3, 4].findSome? fun k =>
    if right then (if j + k < width && good (j + k) then some (j + k) else none)
    else (if k ≤ j && good (j - k) then some (j - k) else none)

/-- Stages 1 and 2 of source column `j` of a line (R104, R105). `b` is the table entry of the component's column 0. -/
def stage2 (t : Tbl Word) (role b : Nat) (ch : CamChan) (pix : List Nat) (j : Nat) : Nat :=
  let w := pix.length
  let one := fun k => stage1 (pix.getD k 0) (tapDark t role (b + k)) (tapGain t role (b + k)) ch.pedestal
  let good := fun k => tapDefect t role (b + k) = 0
  let l := nearestGood good w j false
  let r := nearestGood good w j true
  match tapDefect t role (b + j) with
  | 1 => match l with | some k => one k | none => ch.repl
  | 2 => match r with | some k => one k | none => ch.repl
  | 3 => match l, r with
    | some a, some c => (one a + one c + 1) / 2
    | some a, none => one a
    | none, some c => one c
    | none, none => ch.repl
  | 4 => ch.repl
  | _ => one j

/-- The channel a stream is bound to. -/
def chanOf (chs : List CamChan) (stream : Nat) : Option (Nat × CamChan) :=
  (chs.zipIdx.find? fun x => x.1.on && decide (x.1.stream = stream)).map fun x => (x.2, x.1)

/-- Component index of a colour: red 0, green 1, blue 2; mono 0. -/
def compIdx (color : Nat) : Nat := color - 1

/-- The next 256 columns of a line through stages 1 and 2. -/
def Dev.chunkOf (d : Dev) (role : Nat) (l : BusLine) : BusLine :=
  let v := d.camVer role l.epoch
  match chanOf v.chans l.stream with
  | none => { l with chunks := l.chunks + 1 }
  | some (_, ch) =>
    let b := ch.srcBase + compIdx l.color * l.pix.length
    let n := min 256 (l.pix.length - 256 * l.chunks)
    { l with chunks := l.chunks + 1, done := l.done ++ (List.range n).map fun i => stage2 v.taps role b ch l.pix (256 * l.chunks + i) }

/-- Has every chunk of a line been taken. -/
def BusLine.complete (l : BusLine) : Bool := l.pix.length ≤ 256 * l.chunks

/-! ### The line-delay store (R107 to R109) -/

/-- SRC_TOTAL of a role (R107) under a configuration. -/
def srcTotal (g : Fld → Nat) (r : Nat) : Nat :=
  ((List.range 4).map fun c =>
    if g (R.STR_CH_CFG_ENABLE r c) = 0 then 0 else
    match (streamsOf g).find? fun s => s.num = g (R.STR_CH_CFG_STREAM r c) with
    | some s => s.comps * s.width
    | none => 0).sum

/-- LDS_DEPTH of a role (R107). -/
def Dev.ldsDepth (d : Dev) (r : Nat) : Nat :=
  let t := srcTotal d.live r
  if t = 0 then 256 else min 256 (1048576 / t)

def comp0 : CompStore := {}

/-- The store of a component: channel × 4 + component. -/
def Dev.compStore (d : Dev) (r ch comp : Nat) : CompStore := tget comp0 (d.cor r).store (ch * 4 + comp)

/-- Put an accepted line into its component's store; the oldest line goes when it is full (R107). -/
def CompStore.push (s : CompStore) (depth : Nat) (l : StoredLine) : CompStore :=
  let ls := l :: s.lines
  { lines := ls.take depth, first := some (s.first.getD l.m), last := some l.m, dropped := (ls.drop depth).map (·.m) ++ s.dropped }

/-- A line that leaves stage 2 is accepted for resampling or not (R108, R120). -/
def Dev.acceptForResample (d : Dev) (r : Nat) (l : BusLine) : Dev :=
  if l.floor ∨ !l.framed then d else
  match chanOf (d.camVer r l.epoch).chans l.stream with
  | none => d
  | some (ch, _) =>
    let comp := compIdx l.color
    let s := d.compStore r ch comp
    let back := match s.last with | some m => decide (l.md ≤ m) | none => false
    if back then
      if 2 ≤ l.color then d else
      (d.inputStripes r).foldl (fun d s => (d.bump (R.STR_COR_CNT0_STAMP_BACK_CNT s)).raise (R.STR_COR_EVENTS_STAMP_BACK s)) d
    else
      let c := d.cor r
      d.setCor r { c with store := tset comp0 c.store (ch * 4 + comp) (s.push (d.ldsDepth r) { m := l.md, epoch := l.epoch, pix := l.done }) }

/-! ### Stages 3 to 6 -/

/-- The MD line delay of a source column in pu (R110). -/
def dlyPu (mdDly : Int) (pitch : Nat) : Int := (mdDly * pitch + 128) / 256

/-- The source coordinate of a sub-column (R111). -/
def remapX (ch : OutChan) (taps : Tbl Word) (role comp comps b : Nat) : Int :=
  let e : Int := (b : Int) - ch.centre
  let s := ch.x0 * 2 ^ 46 + ch.m * e * 2 ^ 32 + ch.k2 * e ^ 2 * 2 ^ 14 + ch.k3 * e ^ 3
  let xofs := if comps = 3 then (if comp = 0 then ch.xred else if comp = 2 then ch.xblue else 0) else 0
  (s + 2 ^ 53) / 2 ^ 54 + tapRes taps role (ch.remapBase + b) + xofs

/-- A source column's value at a grid position, with its flags and the lines it used (R114, R116, R117). -/
structure Pick where
  value : Nat
  held : Bool := false
  depth : Bool := false
  gap : Bool := false
  epochs : List Nat
  deriving DecidableEq, Repr

/-- LINEAR between two lines at positions `pa` and `pb` (R114, R116). -/
def lerp (pa pb g : Int) (a b : Nat) : Nat :=
  if pb = pa then a else
  let w := (clampI 0 256 (256 * (g - pa) / (pb - pa))).toNat
  (a * (256 - w) + b * w + 128) / 256

/-- Form s_j of column `j` at grid position `g` from the lines held (R114 to R117). -/
def pickColumn (mode : Nat) (s : CompStore) (dly g : Int) (pitch gapLimit j : Nat) : Pick :=
  let val := fun (l : StoredLine) => l.pix.getD j 0
  let pos := fun (l : StoredLine) => l.m - dly
  match s.lines, s.lines.getLast? with
  | newest :: _, some oldest =>
    if (match s.first with | some f => decide (g < f - dly) | none => true) then
      { value := val oldest, held := true, depth := decide (s.dropped ≠ []), epochs := [oldest.epoch] }
    else if pos newest ≤ g then { value := val newest, held := true, epochs := [newest.epoch] }
    else
      let below := s.lines.find? fun l => pos l ≤ g
      let above := (s.lines.filter fun l => g < pos l).getLast?
      let i := below.getD oldest
      let k := match below with | some _ => above.getD newest | none => oldest
      let depth := below.isNone
      let ms := s.lines.map (·.m) ++ s.dropped
      let gap := match ms.find? fun m => m - dly ≤ g, (ms.filter fun m => g < m - dly).getLast? with
        | some b, some a => decide ((gapLimit * pitch : Nat) < a - b)
        | _, _ => false
      let lin : Pick := { value := lerp (pos i) (pos k) g (val i) (val k), depth := depth, gap := gap, epochs := [i.epoch, k.epoch] }
      match mode with
      | 1 =>
        let n := s.lines.foldl (fun b l => if (pos l - g).natAbs ≤ (pos b - g).natAbs then l else b) newest
        { value := val n, depth := depth, gap := gap, epochs := [n.epoch] }
      | 2 =>
        let h : Int := (pitch / 2 : Nat)
        let ls := s.lines.filter fun l => decide (g - h ≤ pos l) && decide (pos l < g + h)
        if ls = [] then lin
        else { value := ((ls.map val).sum + ls.length / 2) / ls.length, depth := depth, gap := gap, epochs := ls.map (·.epoch) }
      | _ => lin
  | _, _ => { value := 0, epochs := [] }

/-- Blend two neighbouring columns at a source coordinate (R115). -/
def sampleAt (s : List Nat) (x : Int) : Nat :=
  let w := s.length
  let f := (x % 256).toNat
  let at' := fun (k : Int) => s.getD (clampI 0 ((w : Int) - 1) k).toNat 0
  (at' (x / 256) * (256 - f) + at' (x / 256 + 1) * f + 128) / 256

/-- The sub-column positions of a component of a channel. -/
def remapAll (v : OutVer) (ch : OutChan) (role comp comps : Nat) : List Int :=
  (List.range (v.bandCols * 2 ^ v.binLog2)).map fun b => remapX ch v.taps role comp comps b

/-- VALID_LO and VALID_HI; an empty range reads BAND_COLS and 0 (R112). -/
def validRange (bandCols bin width : Nat) (xs : List Int) : Nat × Nat :=
  let ok := (List.range bandCols).filter fun b => ((xs.drop (b * bin)).take bin).all fun x => decide (0 ≤ x) && decide (x ≤ ((width : Int) - 1) * 256)
  match ok, ok.getLast? with
  | lo :: _, some hi => (lo, hi)
  | _, _ => (bandCols, 0)

/-- Mean of groups of `bin` sub-columns (R119). -/
def binColumns (binLog2 bandCols : Nat) (subs : List Nat) : List Nat :=
  let bin := 2 ^ binLog2
  (List.range bandCols).map fun b => (((subs.drop (b * bin)).take bin).sum + bin / 2) / bin

/-- The largest delay of a channel in pu, 0 when none is positive (R117). -/
def Dev.dlyHi (v : OutVer) (r : Nat) (ch : OutChan) (comps width pitch : Nat) : Nat :=
  (List.range (comps * width)).foldl (fun m j => max m (dlyPu (tapDly v.taps r (ch.srcBase + j)) pitch).toNat) 0

/-- DLY_MAX_LINES of a channel (R117). -/
def dlyMaxLines (hi pitch : Nat) : Nat := (hi + pitch - 1) / pitch

/-- OUT_PITCH of the output frame of a line (R110). -/
def Dev.pitchOf (d : Dev) (l : Nat) : Nat :=
  match d.pos.grid.find? fun g => g.line ≤ l with | some g => g.pitch | none => d.outPitch

/-- The epoch live for the output frame of a line (R96). -/
def Dev.epochOf (d : Dev) (l : Nat) : Nat :=
  match d.pos.epochs.find? fun e => e.1 ≤ l with | some e => e.2 | none => d.fld R.GLB_EPOCH

/-- The band line of one component (R112 to R121). Log 67 (DESIGN CHOICE, unsafe). -/
def Dev.bandLine (d : Dev) (r c comp l : Nat) (late : Bool) : BandLine :=
  let v := d.outVer r l
  let ch := v.chans.getD c { on := false, stream := 0, srcBase := 0, remapBase := 0, x0 := 0, m := 0, k2 := 0, k3 := 0, centre := 0, xred := 0, xblue := 0 }
  let comps := d.compsOf ch.stream
  let w := d.widthOf ch.stream
  let pitch := d.pitchOf l
  let g := d.linePos l
  let s := d.compStore r c comp
  let ep := d.epochOf l
  let xs := remapAll v ch r comp comps
  let (lo, hi) := validRange v.bandCols (2 ^ v.binLog2) w xs
  if s.lines = [] ∨ d.streamMissing ch.stream then
    { role := r, chan := c, comp := comp, line := l, epoch := ep, lo := lo, hi := hi, noSource := true, outLate := late, pix := List.replicate v.bandCols (d.live (R.STR_FILL r)) }
  else
    let gl := max (d.live (R.STR_RS_CFG_GAP_LIMIT r)) 1
    let ps := (List.range w).map fun j => pickColumn v.rsMode s (dlyPu (tapDly v.taps r (ch.srcBase + comp * w + j)) pitch) g pitch gl j
    let sv := ps.map (·.value)
    { role := r, chan := c, comp := comp, line := l, epoch := ep, lo := lo, hi := hi, held := ps.any (·.held), depth := ps.any (·.depth), gap := ps.any (·.gap), outLate := late, epochMix := ps.any fun p => p.epochs.any fun e => e ≠ ep, pix := binColumns v.binLog2 v.bandCols (xs.map fun x => sampleAt sv x) }

/-- The stripes that form band line `l` of a role: the one whose line it is, and a spare that mirrors it from B1 on (R519, R520, R523).
Log 248 (DEDUCED, unsafe). -/
def Dev.lineStripes (d : Dev) (r l : Nat) : List Nat := d.stripeAt r l :: if d.rot.b1 ≤ l then (d.mirrorOf r).toList else []

/-- A flag of a band line is set in COR_EVENTS of a physical stripe that forms it (R121), and counted where a counter exists.
Log 65 (DEDUCED, unsafe), 248 (DEDUCED, unsafe). -/
def Dev.bandFlags (d : Dev) (b : BandLine) (s : Nat) : Dev :=
  let d := if b.held then (d.bump (R.STR_COR_CNT1_HELD_CNT s)).raise (R.STR_COR_EVENTS_HELD s) else d
  let d := if b.gap then (d.bump (R.STR_COR_CNT1_GAP_CNT s)).raise (R.STR_COR_EVENTS_GAP s) else d
  let d := d.raiseIf b.depth (R.STR_COR_EVENTS_DEPTH s)
  let d := d.raiseIf b.noSource (R.STR_COR_EVENTS_NO_SOURCE s)
  let d := d.raiseIf b.outLate (R.STR_COR_EVENTS_OUT_LATE s)
  d.raiseIf b.epochMix (R.STR_COR_EVENTS_EPOCH_MIX s)

/-- The order in which band lines leave a role: by output line, then channel, then component (R102). -/
def BandLine.before (a b : BandLine) : Bool := if a.line = b.line then (if a.chan = b.chan then a.comp < b.comp else a.chan < b.chan) else a.line < b.line

/-- A band line takes its place in the output buffer. -/
def insertBand (bs : List BandLine) (b : BandLine) : List BandLine := bs.takeWhile (·.before b) ++ b :: bs.dropWhile (·.before b)

/-- The next output line of a channel (R118). -/
def Dev.nextOut (d : Dev) (r c : Nat) : Nat := d.pos.firstLine + tget 0 (d.cor r).computed c

/-- RS_HOLD; above 64 acts as 64. -/
def Dev.rsHold (d : Dev) (r : Nat) : Nat := min (d.live (R.STR_RS_CFG_RS_HOLD r)) 64

/-- What decides when a channel's next output line is computed (R117): the position that a line must pass, and the deadline. -/
def Dev.outDue (d : Dev) (r c : Nat) : Option (OutChan × Int × Bool × Nat) :=
  let l := d.nextOut r c
  let v := d.outVer r l
  match v.chans[c]? with
  | none => none
  | some ch =>
    if !ch.on then none else
    let pitch := d.pitchOf l
    let hi := Dev.dlyHi v r ch (d.compsOf ch.stream) (d.widthOf ch.stream) pitch
    let area := decide (v.rsMode = 2)
    some (ch, d.linePos l + hi + (if area then (pitch / 2 : Nat) else 0), area, l + 1 + d.rsHold r + dlyMaxLines hi pitch)

/-- Compute the next output line of a channel, every component of it. Log 66 (DEDUCED, unsafe). -/
def Dev.computeLine (d : Dev) (r c : Nat) (ch : OutChan) (deadline : Nat) : Dev :=
  let l := d.nextOut r c
  let late := decide (deadline < d.pos.linesPassed)
  let bs := (List.range (d.compsOf ch.stream)).map fun k => d.bandLine r c k l late
  let x := d.cor r
  let d := d.setCor r { x with bands := bs.foldl insertBand x.bands, computed := tset 0 x.computed c (tget 0 x.computed c + 1) }
  let d := d.setFld (R.STR_LAST_LINE (d.stripeAt r l)) l
  (d.lineStripes r l).foldl (fun d s => bs.foldl (fun d b => d.bandFlags b s) d) d

/-- Does the grid advance with a role's pipeline running. Log 77 (DEDUCED, unsafe). -/
def Dev.outRuns (d : Dev) (r : Nat) : Bool := d.mode.framed && d.roleRuns r && d.lflag (R.STR_COR_CTRL_ENABLE r) && decide (d.pos.grid ≠ []) && !d.atticReplay

/-- The output-side copy that is live: that of the latest line computed (R123). -/
def Dev.outLive (d : Dev) (r : Nat) : OutVer := d.outVer r (max d.pos.firstLine (((List.range 4).map fun c => d.nextOut r c).foldl max 0 - 1))

/-- May the first band line of the output buffer leave: no enabled channel has one to come before it (R102). -/
def Dev.bandReady (d : Dev) (r : Nat) : Bool :=
  match (d.cor r).bands with
  | [] => false
  | b :: _ => (List.range 4).all fun c =>
    let l := d.nextOut r c
    !(match (d.outVer r l).chans[c]? with | some x => x.on | none => false) || decide (b.line < l) || (decide (b.line = l) && decide (b.chan < c))

/-- The floor band lines of a floor line: stages 4 and 6 on its own values (R120). -/
def Dev.floorBand (d : Dev) (r : Nat) (l : BusLine) : Option BandLine :=
  let v := d.outLive r
  match v.chans.zipIdx.find? fun x => x.1.on && decide (x.1.stream = l.stream) with
  | none => none
  | some (ch, c) =>
    let comps := d.compsOf ch.stream
    let xs := remapAll v ch r (compIdx l.color) comps
    let (lo, hi) := validRange v.bandCols (2 ^ v.binLog2) l.pix.length xs
    some { role := r, chan := c, comp := compIdx l.color, line := 0, epoch := l.epoch, lo := lo, hi := hi, floor := true, pix := binColumns v.binLog2 v.bandCols (xs.map fun x => sampleAt l.done x) }

/-! ### The camera side's next chunk (R127) -/

/-- The secondary streams of a role with a line waiting: those begun, and the heads of the landing rings. -/
def Dev.secWaiting (d : Dev) (r : Nat) : List BusLine :=
  let c := d.cor r
  let heads := ((streamsOf d.live).filter fun s => decide (s.role = r) && !s.primary).filterMap fun s =>
    if c.sec.any fun l => decide (l.stream = s.num) then none else
    match (d.ring s.num).slots with
    | (a, l) :: _ =>
      let w := leNat (d.dramRead (a + 22) 2)
      some { l with pix := (bytesPix w (d.dramRead (a + 64) (2 * w))) }
    | [] => none
  c.sec ++ heads
where
  /-- The 16-bit pixels of a list of bytes. -/
  bytesPix : Nat → List Byte → List Nat
    | 0, _ => []
    | n + 1, bs => leAt bs 0 2 :: bytesPix n (bs.drop 2)

/-- The line whose chunk the camera side takes next: primary first, then the oldest TRIG_TIME, then the lower stream number. -/
def Dev.nextChunk (d : Dev) (r : Nat) : Option (Bool × BusLine) :=
  match (d.cor r).prim with
  | l :: _ => some (true, l)
  | [] =>
    match d.secWaiting r with
    | [] => none
    | l :: ls => some (false, ls.foldl (fun b x => if x.trig < b.trig ∨ (x.trig = b.trig ∧ x.stream < b.stream) then x else b) l)

/-- The camera side takes its next chunk; answers the line when this was its last chunk. -/
def Dev.camsideChunk (d : Dev) (r : Nat) : Dev × Option BusLine :=
  if !(d.lflag (R.STR_COR_CTRL_ENABLE r) && d.roleRuns r) then (d, none) else
  match d.nextChunk r with
  | none => (d, none)
  | some (primary, l) =>
    let l := d.chunkOf r l
    let c := d.cor r
    let others := c.sec.filter fun x => x.stream ≠ l.stream
    if !l.complete then
      (d.setCor r (if primary then { c with prim := l :: c.prim.drop 1 } else { c with sec := others ++ [l] }), none)
    else
      let d := d.setCor r (if primary then { c with prim := c.prim.drop 1 } else { c with sec := others })
      let d := if primary then d else d.setRing l.stream { d.ring l.stream with slots := (d.ring l.stream).slots.drop 1 }
      (d.acceptForResample r l, some l)

end Sys2Proof.Machine
end

