-- ==== Sys2Proof/Machine/Boulevard.lean ====
section
/-!
DEFINITION. The Boulevard and the Attic (chapter 04): merging band lines into stitched rows, the Attic with its tags, windows,
aprons, floor rows and the BAR4 window.
-/
namespace Sys2Proof.Machine

/-! ### Settings and layout -/

/-- The Boulevard's settings as they are live now, for rows from `line` on (R133, R140). -/
def Dev.blvSnap (d : Dev) (line : Nat) : BlvVer :=
  { line := line, enable := d.lflag R.BLV_CTRL_ENABLE, cut := d.lflag R.BLV_CTRL_BLEND, gapFill := d.live R.BLV_GAP_FILL, mergeHold := d.live R.BLV_MERGE_CFG, black := (List.range 4).map fun k => d.live (R.BLV_LAYER_CFG_LAYER_BLACK k), scale := (List.range 4).map fun k => d.live (R.BLV_LAYER_SCALE k), bandStart := (List.range 16).map fun r => d.slive (R.BLV_BAND_START r), on := (List.range 16).map fun r => d.lflag (R.STR_COR_CTRL_ENABLE r), cols := (List.range 16).map fun r => d.live (R.STR_BAND_COLS r), sources := (List.range 16).map fun r => (List.range 4).map fun k => srcOf (d.live (R.BLV_LAYER_SRC r)) k }
where
  /-- The source of layer `k` in a LAYER_SRC word: fields of seven bits, channel, component and valid. -/
  srcOf (w k : Nat) : Option (Nat × Nat) := if bits w (7 * k + 4) 1 = 1 then some (bits w (7 * k) 2, bits w (7 * k + 2) 2) else none

/-- The settings of row `l` (R140). -/
def Dev.blvVer (d : Dev) (l : Nat) : BlvVer :=
  match d.blv.vers.find? fun v => v.line ≤ l with | some v => v | none => d.blvSnap 0

def Dev.stitchCols (d : Dev) : Nat := d.live R.BLV_STITCH_COLS
def Dev.layerOn (d : Dev) (k : Nat) : Bool := d.lflag (R.BLV_LAYER_CFG_ENABLE k)
/-- The enabled layers, in order. -/
def Dev.layersOn (d : Dev) : List Nat := (List.range 4).filter fun k => d.layerOn k
/-- Bytes of a stored value of a layer (R144, R149). -/
def bppOf (g : Fld → Nat) (k : Nat) : Nat := if g (R.BLV_LAYER_CFG_FMT k) = 0 then 1 else 2
def Dev.bpp (d : Dev) (k : Nat) : Nat := bppOf d.live k

/-- PITCH_k (R149). -/
def pitchOfLayer (g : Fld → Nat) (k : Nat) : Nat := (g R.BLV_STITCH_COLS * bppOf g k + 4095) / 4096 * 4096

/-- ATT_ROWS (R149). -/
def attRows (g : Fld → Nat) : Nat := 2 ^ g R.BLV_ATT_CFG_ROWS_LOG2

/-- The offsets of the rings of the enabled layers: each starts at the end of the one before, rounded up to 64 KiB (R149). -/
def ringOfs (g : Fld → Nat) : List Nat → Nat → List (Nat × Nat)
  | [], _ => []
  | k :: ks, o =>
    if g (R.BLV_LAYER_CFG_ENABLE k) = 0 then (k, 0) :: ringOfs g ks o
    else (k, o) :: ringOfs g ks ((o + attRows g * pitchOfLayer g k + 0xFFFF) / 0x10000 * 0x10000)

/-- LAYER_OFS_k (R149). -/
def layerOfs (g : Fld → Nat) (k : Nat) : Nat := match (ringOfs g [0, 1, 2, 3] 0).find? fun x => x.1 = k with | some x => x.2 | none => 0

/-- ATT_BASE; bits 15:0 are ignored. -/
def attBase (g : Fld → Nat) : Nat := g R.BLV_ATT_BASE / 0x10000 * 0x10000
/-- ATT_TAG_BASE; bits 11:0 are ignored. -/
def attTagBase (g : Fld → Nat) : Nat := g R.BLV_ATT_TAG_BASE / 0x1000 * 0x1000

/-- The slot of a row (R149). -/
def Dev.attSlot (d : Dev) (l : Nat) : Nat := l % attRows d.live

/-- The address of column `c` of layer `k` in row `l` (R150). -/
def Dev.attAddr (d : Dev) (k l c : Nat) : Nat :=
  attBase d.live + layerOfs d.live k + d.attSlot l * pitchOfLayer d.live k + c * d.bpp k

/-- The address of the tag of a slot (R152). -/
def Dev.tagAddr (d : Dev) (s : Nat) : Nat := attTagBase d.live + 16 * s

/-- READY (R139, R154): the tag of the run's first row has been written, and the Boulevard runs. -/
def Dev.attReady (d : Dev) : Bool := d.blv.ready && (d.blvVer d.blv.nextRow).enable

/-- ATT_OLDEST (R155). -/
def Dev.attOldest (d : Dev) : Nat := d.blv.head + 1 + d.live R.BLV_ATT_CFG_ATT_GUARD - attRows d.live

/-- May the part's own readers use row `l` (R155). -/
def Dev.attHolds (d : Dev) (l : Nat) : Bool := d.attReady && decide (d.attOldest ≤ l) && decide (l ≤ d.blv.head)

/-- The lists of flag bits (R152). -/
def RowFlags.toBits (f : RowFlags) : Nat :=
  b2n f.coverGap + 2 * b2n f.roleLate + 4 * b2n f.held + 8 * b2n f.gap + 16 * b2n f.noSource + 32 * b2n f.epochMix + 64 * b2n f.warmup + 128 * b2n f.apronMissing

/-- The flags that a number spells (R152). -/
def RowFlags.ofBits (n : Nat) : RowFlags :=
  { coverGap := bitOf n 0, roleLate := bitOf n 1, held := bitOf n 2, gap := bitOf n 3, noSource := bitOf n 4, epochMix := bitOf n 5, warmup := bitOf n 6, apronMissing := bitOf n 7 }

/-- The OR of two sets of row flags. -/
def RowFlags.or (a b : RowFlags) : RowFlags := RowFlags.ofBits (a.toBits ||| b.toBits)

/-- INDEX of a slot that holds no row (R152). -/
def noRow : Nat := 0xFFFFFFFFFFFFFFFF

/-- The 16 bytes of a tag (R152). -/
def tagBytes (index epoch : Nat) (f : RowFlags) (layers : List Nat) : List Byte :=
  leBytes 8 index ++ leBytes 4 epoch ++ leBytes 2 f.toBits ++ leBytes 1 (layers.foldl (fun m k => m + 2 ^ k) 0) ++ [0]

/-- A row read under the tag protocol (R153): its epoch and flags when the slot holds it. -/
def Dev.tagOf (d : Dev) (l : Nat) : Option (Nat × RowFlags × Nat) :=
  let t := d.dramRead (d.tagAddr (d.attSlot l)) 16
  if leAt t 0 8 = l then some (leAt t 8 4, RowFlags.ofBits (leAt t 12 2), leAt t 14 1) else none

/-- A stored value widened to 16 bits (R145). -/
def widen (bpp v : Nat) : Nat := if bpp = 1 then v * 256 else v

/-- The stored values of columns [c, c + n) of a layer in a row. -/
def Dev.attStored (d : Dev) (k l c n : Nat) : List Nat :=
  let b := d.bpp k
  let bs := d.dramRead (d.attAddr k l c) (n * b)
  (List.range n).map fun i => leAt bs (i * b) b

/-- The widened values of columns of a layer in a row (R145). -/
def Dev.attWide (d : Dev) (k l c n : Nat) : List Nat := (d.attStored k l c n).map (widen (d.bpp k))

/-- Write INDEX = no row into every tag, unless the Boulevard does not run; READY falls (R139, R154). -/
def Dev.attInit (d : Dev) : Dev :=
  let d := if d.lflag R.BLV_CTRL_ENABLE then (List.range (attRows d.live)).foldl (fun d s => d.dramWrite (d.tagAddr s) (leBytes 8 noRow)) d else d
  { d with blv := { d.blv with ready := false, head := 0, tagsPending := [], rows := [] } }

/-- The Boulevard starts a run with row `first`. -/
def Dev.blvStart (d : Dev) (first : Nat) : Dev :=
  { d with blv := { d.blv with vers := [d.blvSnap 0], taken := [], nextRow := first, rows := [], tagsPending := [], west := {}, east := {}, nextWin := (List.range 16).foldl (fun t r => tset 0 t r first) [], lateRoles := [] }, windows := [] }

/-- New Boulevard settings for the rows from boundary `b` on; when ENABLE rises the tags are initialised (R139, R140). -/
def Dev.blvCommit (d : Dev) (b : Nat) : Dev :=
  let v := d.blvSnap b
  let was := match d.blv.vers with | x :: _ => x.enable | [] => false
  let d := { d with blv := { d.blv with vers := (v :: d.blv.vers.filter fun x => x.line ≠ b).take 4 } }
  if !v.enable || was then d
  else if d.mode.framed then
    let d := d.attInit
    { d with blv := { d.blv with nextRow := b, nextWin := (List.range 16).foldl (fun t r => tset 0 t r b) d.blv.nextWin } }
  else { d with blv := { d.blv with ready := false } }

/-! ### The output side of the pipelines (R117, R138) -/

/-- Does the output side of a role pause: its band output buffer of 32,768 px has no room for the channel's next line while it waits to be taken (R129,
R138). Log 247 (DEDUCED, unsafe). -/
def Dev.outPaused (d : Dev) (r c : Nat) : Bool :=
  let l := d.nextOut r c
  let v := d.outVer r l
  let n := match v.chans[c]? with | some ch => d.compsOf ch.stream * v.bandCols | none => 0
  (d.blvVer l).enable && d.bandReady r && decide (32768 < ((d.cor r).bands.map fun b => b.pix.length).sum + n)

/-- An accepted line beyond G_L + DLY_HI has passed stage 2: the next output line of the channel is computed (R117). -/
def Dev.outputCompute (d : Dev) (r c : Nat) : Dev :=
  if !d.outRuns r ∨ d.outPaused r c then d else
  match d.outDue r c with
  | none => d
  | some (ch, need, area, deadline) =>
    if (d.compStore r c (d.compsOf ch.stream - 1)).lines.any fun l => if area then decide (need ≤ l.m) else decide (need < l.m) then d.computeLine r c ch deadline else d

/-- LINES_PASSED reaches the deadline of an output line not yet computed (R117). -/
def Dev.outputDeadline (d : Dev) (r c : Nat) : Dev :=
  if !d.outRuns r ∨ d.outPaused r c then d else
  match d.outDue r c with
  | none => d
  | some (ch, _, _, deadline) => if deadline ≤ d.pos.linesPassed then d.computeLine r c ch deadline else d

/-! ### Taking band lines (R138, R141) -/

/-- The extent of a role's band meets the frame. -/
def Dev.bandMeets (d : Dev) (v : BlvVer) (r : Nat) : Bool :=
  let s := v.bandStart.getD r 0
  decide (s < d.stitchCols) && decide (0 ≤ s + (d.live (R.STR_BAND_COLS r) : Int) - 1)

/-- Is a role waited for in a row (R138). Log 72 (DEDUCED, unsafe). -/
def Dev.waitedFor (d : Dev) (v : BlvVer) (r : Nat) : Bool :=
  d.roleHeld r && v.on.getD r false && d.bandMeets v r

/-- Is a role waited for in row `l` (R138, R523). Log 72 (DEDUCED, unsafe). -/
def Dev.waitedAt (d : Dev) (l r : Nat) : Bool :=
  d.roleAt r l && (d.blvVer l).on.getD r false && d.bandMeets (d.blvVer l) r

/-- Does a layer source of the role name this band line (R139). -/
def BlvVer.names (v : BlvVer) (b : BandLine) : Bool := (v.sources.getD b.role []).any fun x => decide (x = some (b.chan, b.comp))

/-- Bytes that a stitched row takes in the row output buffer (R150, R162). -/
def Dev.rowBytes (d : Dev) : Nat := (d.layersOn.map fun k => (d.stitchCols * d.bpp k + 63) / 64 * 64).sum

/-- Is the row output buffer, 1 MiB, full: it has no room for one row more beside those whose writes are not yet done (R153, R162, R163).
Log 246 (DEDUCED, unsafe). -/
def Dev.rowsFull (d : Dev) : Bool := decide (d.blv.tagsPending ≠ []) && decide (1048576 < (d.blv.tagsPending.length + 1) * d.rowBytes)

/-- May the Boulevard take the next band line of a role (R102, R139, R163): one that it is to discard it always takes. -/
def Dev.bandTakes (d : Dev) (r : Nat) : Bool :=
  d.bandReady r && match (d.cor r).bands with | b :: _ => !(d.blvVer b.line).enable || !d.rowsFull | [] => false

/-- The Boulevard takes the next band line of a role's output buffer; one that its row waited for in vain is counted (R141). -/
def Dev.takeBand (d : Dev) (r : Nat) : Dev :=
  let c := d.cor r
  if !d.bandTakes r then d else
  match c.bands with
  | [] => d
  | b :: rest =>
    let d := d.setCor r { c with bands := rest }
    if !(d.blvVer b.line).enable ∨ !(d.roleAt r b.line) then d
    else if b.line < d.blv.nextRow then (if (d.blvVer b.line).names b then (d.bump R.BLV_CNT0_BAND_DISCARD_CNT).raise R.BLV_EVENTS_BAND_DISCARD else d)
    else { d with blv := { d.blv with taken := d.blv.taken ++ [b] } }

/-- The band line of a role, channel and component for a row, if it was taken. -/
def Dev.bandOf (d : Dev) (l r c k : Nat) : Option BandLine :=
  d.blv.taken.find? fun b => decide (b.line = l) && decide (b.role = r) && decide (b.chan = c) && decide (b.comp = k)

/-- Has a role delivered band line `l` for every layer source it names (R139). -/
def Dev.delivered (d : Dev) (v : BlvVer) (l r : Nat) : Bool :=
  (v.sources.getD r []).all fun s => match s with | none => true | some (c, k) => (d.bandOf l r c k).isSome

/-! ### Stitching (R134 to R137, R144) -/

/-- A band's part of a layer of a row: its clipped valid span and its values from `origin` on. -/
structure Span where
  role : Nat
  lo : Nat
  hi : Nat
  vals : List (Option Nat)
  deriving DecidableEq, Repr

/-- The clipped valid span of a band line, with the values of its columns (R134, R136). -/
def spanOf (cols : Nat) (start : Int) (b : BandLine) : Option Span :=
  if b.noSource ∨ b.hi < b.lo then none else
  let lo := max 0 (start + b.lo)
  let hi := min ((cols : Int) - 1) (start + b.hi)
  if hi < lo then none else
  let n := (hi - lo + 1).toNat
  some { role := b.role, lo := lo.toNat, hi := hi.toNat, vals := ((b.pix.drop (lo - start).toNat).take n).map some }

/-- The value of a span in a column. -/
def Span.at (s : Span) (c : Nat) : Option Nat := if s.lo ≤ c ∧ c ≤ s.hi then (s.vals.getD (c - s.lo) none) else none

/-- Join the two halves of a bonded pair into one contribution (R135). -/
def joinHalves (a b : Span) : Span :=
  let lo := min a.lo b.lo
  let hi := max a.hi b.hi
  { role := min a.role b.role, lo := lo, hi := hi, vals := (List.range (hi + 1 - lo)).map fun i => match a.at (lo + i), b.at (lo + i) with | some x, some y => some ((x + y + 1) / 2) | some x, none => some x | none, some y => some y | none, none => none }

/-- The overlap of two spans that both contribute: A, B and the zone (R137). -/
def overlapOf (a b : Span) : Span × Span × Nat × Nat :=
  let sw := decide (b.lo < a.lo) || (decide (b.lo = a.lo) && decide (b.role < a.role))
  let x := if sw then b else a
  let y := if sw then a else b
  (x, y, y.lo, x.hi)

/-- The blended value of a column of an overlap zone (R137). -/
def blend (cut : Bool) (zl zh c a b : Nat) : Nat :=
  if cut then (if c < zl + (zh + 1 - zl) / 2 then a else b)
  else
    let n := zh + 2 - zl
    let k := c + 1 - zl
    (a * (n - k) + b * k + n / 2) / n

/-- The merged value of a column from the spans that hold it (R136, R137). -/
def mergedAt (cut : Bool) (spans : List Span) (c : Nat) : Option Nat :=
  match spans.filter fun s => (s.at c).isSome with
  | [] => none
  | [s] => s.at c
  | s :: t :: _ =>
    let (a, b, zl, zh) := overlapOf s t
    match a.at c, b.at c with
    | some x, some y => some (if b.hi ≤ zh then x else blend cut zl zh c x y)
    | x, none => x
    | none, y => y

/-- The stored value of a merged value (R144). -/
def storeVal (fmt8 : Bool) (black scale v : Nat) : Nat :=
  if fmt8 then min 255 (((v - black) * scale + 2 ^ 15) / 2 ^ 16) else v

/-- A stitched row: stored and widened values of each enabled layer, the spans each was merged from, and `parts`, the valid span of each role in them. -/
structure Stitched where
  line : Nat
  epoch : Nat
  flags : RowFlags
  stored : List (Nat × List Nat)
  wide : List (Nat × List Nat)
  spans : List (Nat × List Span)
  parts : List (Nat × List (Nat × Nat × Nat)) := []
  deriving DecidableEq, Repr

/-- The span of a role in a layer from a set of band lines. -/
def Dev.roleSpan (d : Dev) (v : BlvVer) (bands : List BandLine) (k r : Nat) : Option Span :=
  match (v.sources.getD r []).getD k none with
  | none => none
  | some (c, m) => match bands.find? fun b => decide (b.role = r) && decide (b.chan = c) && decide (b.comp = m) with
    | none => none
    | some b => spanOf d.stitchCols (v.bandStart.getD r 0) b

/-- The spans of a layer from a set of band lines; bonded pairs are joined. -/
def Dev.layerSpans (d : Dev) (v : BlvVer) (bands : List BandLine) (k : Nat) : List Span :=
  let one := d.roleSpan v bands k
  (List.range 16).filterMap fun r =>
    if r % 2 = 1 ∧ d.bonded (r - 1) then none
    else if d.bonded r then
      match one r, one (r + 1) with | some a, some b => some (joinHalves a b) | some a, none => some a | none, b => b
    else one r

/-- Stitch a row from the band lines that contribute. -/
def Dev.stitch (d : Dev) (v : BlvVer) (l epoch : Nat) (bands : List BandLine) (flags : RowFlags) : Stitched :=
  let ks := d.layersOn
  let sp := ks.map fun k => (k, d.layerSpans v bands k)
  let merged := sp.map fun (k, s) => (k, (List.range d.stitchCols).map fun c => mergedAt v.cut s c)
  let gap := merged.any fun x => x.2.any (·.isNone)
  let vals := merged.map fun (k, m) => (k, m.map fun x => storeVal (d.bpp k = 1) (v.black.getD k 0) (v.scale.getD k 256) (x.getD v.gapFill))
  let fl : RowFlags := { flags with coverGap := gap, held := flags.held || bands.any (·.held), gap := flags.gap || bands.any (·.gap), noSource := flags.noSource || bands.any (·.noSource), epochMix := flags.epochMix || bands.any (·.epochMix) }
  { line := l, epoch := epoch, flags := fl, stored := vals, wide := vals.map fun (k, s) => (k, s.map (widen (d.bpp k))), spans := sp, parts := ks.map fun k => (k, (List.range 16).filterMap fun r => (d.roleSpan v bands k r).map fun x => (r, x.lo, x.hi)) }

/-- Pad a list of bytes with zeros to a multiple of 64. -/
def pad64 (bs : List Byte) : List Byte := bs ++ zeros ((64 - bs.length % 64) % 64)

/-- Write a row's pixels behind an invalid tag; its own tag waits for the fence (R150, R153). -/
def Dev.attWrite (d : Dev) (s : Stitched) : Dev :=
  let slot := d.attSlot s.line
  let d := d.dramWrite (d.tagAddr slot) (leBytes 8 noRow)
  let d := s.stored.foldl (fun d (k, vs) => d.dramWrite (d.attAddr k s.line 0) (pad64 (vs.flatMap (leBytes (d.bpp k))))) d
  { d with blv := { d.blv with tagsPending := d.blv.tagsPending ++ [(s.line, d.time)] } }

/-- The roles left out of the next row (R141) and the row stitched from the others (R139 to R144). -/
def Dev.nextStitch (d : Dev) : List Nat × Stitched :=
  let l := d.blv.nextRow
  let v := d.blvVer l
  let late := (List.range 16).filter fun r => v.on.getD r false && d.bandMeets v r && !(d.roleAt r l && d.delivered v l r)
  let used := d.blv.taken.filter fun b => decide (b.line = l) && !late.contains b.role && v.on.getD b.role false
  let used := used.filter fun b => d.layersOn.any fun k => decide ((v.sources.getD b.role []).getD k none = some (b.chan, b.comp))
  (late, d.stitch v l (d.epochOf l) used { roleLate := decide (late ≠ []) })

/-- Which columns of each layer had a contributor (R192). -/
def Dev.coverOf (d : Dev) (s : Stitched) : List (Nat × List Bool) :=
  s.spans.map fun (k, xs) => (k, (List.range d.stitchCols).map fun c => xs.any fun x => (x.at c).isSome)

/-- Merge a stitched row: write it to the Attic, keep what its windows need, and count what it lacks (R141, R142, R153). -/
def Dev.mergeRow (d : Dev) (late : List Nat) (s : Stitched) (bg : List (Nat × List (Nat × Nat))) : Dev :=
  let l := s.line
  let d := d.attWrite s
  let d := { d with blv := { d.blv with nextRow := l + 1, taken := d.blv.taken.filter fun b => l < b.line, rows := (d.blv.rows ++ [{ line := l, epoch := s.epoch, flags := s.flags, mergedAt := d.time, bg := bg, cover := d.coverOf s }]), lateRoles := late } }
  let d := if late = [] then d else (d.bump R.BLV_CNT0_ROLE_LATE_CNT).raise R.BLV_EVENTS_ROLE_LATE
  if s.flags.coverGap then (d.bump R.BLV_CNT1_COVER_GAP_CNT).raise R.BLV_EVENTS_COVER_GAP else d

/-- May the next row be merged: the Boulevard runs, and its roles have delivered, or its hold has run out (R139). -/
def Dev.mergeDue (d : Dev) (expiry : Bool) : Bool :=
  let l := d.blv.nextRow
  let v := d.blvVer l
  d.mode.framed && v.enable && decide (d.pos.grid ≠ []) &&
  (if expiry then decide (l + 2 + v.mergeHold ≤ d.pos.linesPassed)
   else ((List.range 16).any fun r => d.waitedAt l r) && (List.range 16).all fun r => !d.waitedAt l r || d.delivered v l r)

/-! ### Tags and ATT_HEAD (R153, R154) -/

/-- The fence behind a row completes: its tag is written, and ATT_HEAD follows. -/
def Dev.tagWrite (d : Dev) : Dev :=
  match d.blv.tagsPending with
  | [] => d
  | (l, _) :: rest =>
    let info := d.blv.rows.find? fun r => r.line = l
    let (e, f) := match info with | some r => (r.epoch, r.flags) | none => (d.epochOf l, {})
    let d := d.dramWrite (d.tagAddr (d.attSlot l)) (tagBytes l e f d.layersOn)
    { d with blv := { d.blv with tagsPending := rest, ready := true, head := l } }

/-! ### Windows and aprons (R147, R148, R160) -/

/-- The owned columns of a role (R146). -/
def Dev.ownStart (d : Dev) (r : Nat) : Nat := d.live (R.BLV_OWN_START r)
def Dev.ownEnd (d : Dev) (r : Nat) : Nat := d.live (R.BLV_OWN_END r)

/-- The state of an apron side: is row `l` there. -/
def ApronSide.row (s : ApronSide) (l : Nat) : Option ApronRow := s.rows.find? fun r => r.line = l

/-- Was row `l` replaced in a full store, or given up (R160). -/
def ApronSide.gone (s : ApronSide) (l : Nat) : Bool :=
  (match s.replaced with | some x => decide (l ≤ x) | none => false) || (match s.givenUp with | some x => decide (l ≤ x) | none => false)

/-- Store an arriving apron row: late ones are discarded, a full store replaces its oldest (R160). -/
def ApronSide.put (s : ApronSide) (r : ApronRow) : ApronSide :=
  if s.gone r.line then s
  else if 256 ≤ s.rows.length then
    { s with rows := s.rows.drop 1 ++ [r], replaced := match s.rows with | o :: _ => some (max o.line (s.replaced.getD 0)) | [] => s.replaced }
  else { s with rows := s.rows ++ [r] }

/-- The stored values of an apron row's layer. -/
def ApronRow.layer (r : ApronRow) (k : Nat) : List Nat := match r.layers.find? fun x => x.1 = k with | some x => x.2 | none => List.replicate 64 0

/-- A window of a role and what its sides say (R147): `w` and `e` are the aprons to use beyond the frame. -/
def Dev.windowRow (d : Dev) (r l : Nat) (info : RowInfo) (w e : Option ApronRow) (edgeLo edgeHi missing : Bool) : WinRow :=
  let s := d.ownStart r
  let t := d.ownEnd r
  let n := d.stitchCols
  let lowOut := 64 - s
  let highOut := t + 64 + 1 - n
  let c0 := s - 64
  let c1 := min (t + 64) (n - 1)
  let layer := fun k =>
    let m := d.attWide k l c0 (c1 + 1 - c0)
    let b := d.bpp k
    let left := match w with | some a => ((a.layer k).map (widen b)).drop (64 - lowOut) | none => List.replicate lowOut (m.headD 0)
    let right := match e with | some a => ((a.layer k).map (widen b)).take highOut | none => List.replicate highOut (m.getLastD 0)
    (k, (if lowOut = 0 then [] else left) ++ m ++ (if highOut = 0 then [] else right))
  let bgSlice := fun (v : List (Nat × Nat)) =>
    let own := fun i => v.getD (clampI s t i).toNat (0, 2)
    (List.range (t + 129 - s)).map fun (j : Nat) =>
      let c : Int := (c0 : Int) - (lowOut : Int) + (j : Int)
      if 0 ≤ c ∧ c < n then v.getD c.toNat (0, 2) else own c
  let covSlice := fun (v : List Bool) =>
    (List.range (t + 129 - s)).map fun (j : Nat) =>
      let c : Int := (c0 : Int) - (lowOut : Int) + (j : Int)
      if c < 0 then w.isSome || v.headD false else if n ≤ c then e.isSome || v.getLastD false else v.getD c.toNat false
  let mixed := (match w with | some a => decide (a.epoch ≠ info.epoch) | none => false) || (match e with | some a => decide (a.epoch ≠ info.epoch) | none => false)
  { line := l, epoch := info.epoch, flags := { info.flags with epochMix := info.flags.epochMix || mixed, apronMissing := info.flags.apronMissing || missing }, edgeLo := edgeLo, edgeHi := edgeHi, start := s, layers := d.layersOn.map layer, bg := info.bg.map fun (k, v) => (k, bgSlice v), cover := info.cover.map fun (k, v) => (k, covSlice v) }

/-- A window goes to its role: a missing apron is flagged in the row and its tag, and the aprons and rows that no window needs any more are dropped.
`used`: the side's apron belongs to the window; `need`: it is wanting. -/
def Dev.giveWindow (d : Dev) (r : Nat) (flags : RowFlags) (win : WinRow) (usedW usedE needW needE : Bool) : Dev :=
  let l := win.line
  let d := { d with windows := tupd [] d.windows r fun ws => ws ++ [win] }
  let d := if needW || needE then
      let d := if d.blv.rows.any fun x => decide (x.line = l) && x.apronLost then d else d.bump R.BLV_CNT1_APRON_MISSING_CNT
      let d := d.raise R.BLV_EVENTS_APRON_MISSING
      let f := { flags with apronMissing := true }
      let d := if (d.tagOf l).isSome && !d.atticReplay then d.dramWrite (d.tagAddr (d.attSlot l) + 12) (leBytes 2 f.toBits) else d
      { d with blv := { d.blv with rows := d.blv.rows.map fun x => if x.line = l then { x with apronLost := true } else x } }
    else d
  let give := fun (s : ApronSide) (need used : Bool) => ({ s with rows := if used then s.rows.filter fun x => l < x.line else s.rows, givenUp := if need then some l else s.givenUp } : ApronSide)
  let d := { d with blv := { d.blv with nextWin := tset 0 d.blv.nextWin r (l + 1), west := give d.blv.west needW usedW, east := give d.blv.east needE usedE } }
  let least := (List.range 16).foldl (fun m q => if d.waitedAt l q then min m (tget 0 d.blv.nextWin q) else m) (l + 1)
  { d with blv := { d.blv with rows := d.blv.rows.filter fun x => decide (least ≤ x.line) || decide (d.blv.head < x.line) } }

/-- Is the window input buffer of a role's stripe, 263,168 bytes, full: it has no room for one window row more (R162). Log 250 (DEDUCED, unsafe). -/
def Dev.inputFull (d : Dev) (r : Nat) : Bool :=
  let n := (tget [] d.windows r).length
  decide (n ≠ 0) && decide (263168 < (n + 1) * (2 * d.layersOn.length * (d.ownEnd r + 129 - d.ownStart r)))

/-- Release the window of the next row of a role (R148, R155, R160). `actW`, `actE`: a partner is Active on the side; `expW`, `expE`: a neighbour
is expected there; `giveUp`: APRON_WAIT has passed. -/
def Dev.releaseWindow (d : Dev) (r : Nat) (actW actE expW expE giveUp : Bool) : Dev :=
  let l := tget 0 d.blv.nextWin r
  let v := d.blvVer l
  if !(d.waitedAt l r || (d.roleRuns r && v.on.getD r false && d.bandMeets v r)) ∨ !d.blv.ready ∨ l < d.attOldest ∨ d.blv.head < l ∨ d.inputFull r then d else
  match d.blv.rows.find? fun x => x.line = l with
  | none => d
  | some info =>
    let outW := decide (d.ownStart r < 64)
    let outE := decide (d.stitchCols ≤ d.ownEnd r + 64)
    let rowW := if outW ∧ actW then d.blv.west.row l else none
    let rowE := if outE ∧ actE then d.blv.east.row l else none
    let needW := outW && actW && rowW.isNone
    let needE := outE && actE && rowE.isNone
    let giveUp := giveUp && decide (info.mergedAt + usCycles (max (d.live R.BLV_APRON_WAIT) 1) ≤ d.time)
    if (needW ∧ !giveUp ∧ !d.blv.west.gone l) ∨ (needE ∧ !giveUp ∧ !d.blv.east.gone l) then d else
    let win := d.windowRow r l info rowW rowE (outW && !actW) (outE && !actE) (needW || needE)
    (d.giveWindow r info.flags win (outW && actW) (outE && actE) needW needE).raiseIf ((outW && rowW.isNone && expW) || (outE && rowE.isNone && expE)) R.BLV_EVENTS_EDGE

/-! ### Floor rows (R143) -/

/-- The settings in force: those of the row merged last (R140). Log 249 (DEDUCED, unsafe). -/
def Dev.blvNow (d : Dev) : BlvVer := d.blvVer (max d.pos.firstLine (d.blv.nextRow - 1))

/-- A floor band line arrives at the Boulevard. Log 249 (DEDUCED, unsafe). -/
def Dev.floorArrive (d : Dev) (b : BandLine) : Dev :=
  if !(d.blvNow.enable && (d.blvVer d.blv.nextRow).enable) then d else
  { d with blv := { d.blv with floorBands := d.blv.floorBands ++ [(d.time, b)], floorAt := some (d.blv.floorAt.getD d.time) } }

/-- 1 µs after the first floor band line, a floor row is stitched from those that have arrived since; one that came later is the first of the next.
Log 71 (DEDUCED, unsafe). -/
def Dev.floorMerge (d : Dev) : Dev × Option Stitched :=
  match d.blv.floorAt with
  | none => (d, none)
  | some t =>
    let d := d.advance (t + 400)
    let (now, later) := d.blv.floorBands.partition fun b => decide (b.1 ≤ t + 400)
    let s := d.stitch d.blvNow 0 (d.fld R.GLB_EPOCH) (now.map (·.2)) {}
    ({ d with blv := { d.blv with floorBands := later, floorAt := later.head?.map (·.1) } }, some s)

/-! ### BAR4 (R156, R157) -/

/-- The DRAM address of a BAR4 offset; bits 15:0 of BAR4_BASE are ignored. -/
def Dev.bar4Addr (d : Dev) (o : Nat) : Nat := d.fld R.BLV_BAR4_BASE / 0x10000 * 0x10000 + o

/-- Does a byte fall in an Attic ring or in the tag table. -/
def Dev.inAttic (d : Dev) (a : Nat) : Bool :=
  (d.layersOn.any fun k => let b := attBase d.live + layerOfs d.live k; decide (b ≤ a) && decide (a < b + attRows d.live * pitchOfLayer d.live k)) ||
  (decide (attTagBase d.live ≤ a) && decide (a < attTagBase d.live + 16 * attRows d.live))

/-- A host write through BAR4 (R157). -/
def Dev.bar4Write (d : Dev) (o : Nat) (bs : List Byte) : Dev :=
  let a := d.bar4Addr o
  let guard := d.mode = .inspect ∨ d.mode = .degraded ∨ d.mode = .calibrate
  if guard ∧ (List.range bs.length).any fun i => d.inAttic (a + i) then d.raise R.BLV_EVENTS_BAR4_WR_DROP
  else d.dramWrite a bs

end Sys2Proof.Machine
end

