-- ==== Sys2Proof/Machine/Profile.lean ====
section
/-!
DEFINITION. Profile decimators and the background model (chapter 05): filters, suppression, masking, the background, WARMUP
and SETTLED, profile syncs and profile lines.
-/
namespace Sys2Proof.Machine

def prfLayer0 : PrfLayer := {}
def Dev.prfLayer (d : Dev) (k : Nat) : PrfLayer := tget prfLayer0 d.prf.layers k
def Dev.setPrfLayer (d : Dev) (k : Nat) (x : PrfLayer) : Dev := { d with prf := { d.prf with layers := tset prfLayer0 d.prf.layers k x } }

/-! ### Settings -/

/-- The profile settings as they are live now, for rows from `line` on, with the layers that are initialised there. -/
def Dev.prfSnap (d : Dev) (line : Nat) (init : List Bool) : PrfVer :=
  { line := line, en := (List.range 4).map fun k => bitOf (d.live R.BLV_PRF_CTRL_PRF_EN) k, cdBin := min (d.live R.BLV_PRF_CTRL_CD_BIN_LOG2) 6, bgLag := max (d.live R.BLV_PRF_CTRL_BG_LAG) 16, resp := (List.range 4).map fun k => d.live (R.BLV_PRF_CFG_RESPONSE k), maskEn := (List.range 4).map fun k => d.lflag (R.BLV_PRF_CFG_MASK_EN k), slew := (List.range 4).map fun k => d.live (R.BLV_PRF_CFG_BG_SLEW k), fixed := (List.range 4).map fun k => d.live (R.BLV_PRF_FIXED k), init := init }

def Dev.prfVer (d : Dev) (l : Nat) : PrfVer :=
  match d.prf.vers.find? fun v => v.line ≤ l with | some v => v | none => d.prfSnap 0 []

/-- log2 of the decimation factor of a response (R167). -/
def respLog2 (r : Nat) : Nat := if r < 8 then r + 4 else r - 4

/-- The reference row of output `k` (R168, R169). -/
def refRow (resp lr k : Nat) : Int :=
  let dd : Int := (2 ^ respLog2 resp : Nat)
  if resp < 8 then lr + k * dd - 3 * dd / 2 else lr + k * dd + dd / 2 - 1

/-- The first row of the support of output `k` (R168, R169). -/
def supportFirst (resp lr k : Nat) : Int :=
  let dd : Int := (2 ^ respLog2 resp : Nat)
  if resp < 8 then lr + (k - 4) * dd + 2 else lr + k * dd

/-! ### Initialising a layer (R171, R182) -/

/-- The Pantry seed that matches a layer (R182). -/
def Dev.seedFor (d : Dev) (k : Nat) : Option Seed :=
  d.seeds.find? fun s => decide (s.key = d.live R.BLV_PRF_SEED_KEY) && decide (s.layer = k) && decide (s.cols = d.stitchCols) && decide (s.base = d.live R.BLV_DEV_COL_BASE) && decide (s.pitch = d.live R.BLV_CD_PITCH)

/-- Initialise a layer's background at row `f`: seeded from the Pantry, or FIXED (R182). -/
def Dev.prfInit (d : Dev) (k f : Nat) : Dev :=
  let n := d.stitchCols
  let fill := List.replicate n false
  let d := { d with prf := { d.prf with pending := d.prf.pending.filter fun o => !(decide (o.layer = k) && decide (o.last < f)) } }
  match d.seedFor k with
  | some s => d.setPrfLayer k { lr := f, cols := (List.range n).map fun c => { f := f, b := s.vals.getD c 0, st := 1 }, seeded := true, filling := fill }
  | none =>
    let d := d.setPrfLayer k { lr := f, cols := List.replicate n { f := f, b := 0, st := 2 }, seeded := false, filling := fill }
    if d.live R.BLV_PRF_SEED_KEY = 0 then d else d.raise R.BLV_PRF_EVENTS_SEED_MISMATCH

/-- Entry to INSPECT or REPLAY with rows from `f` on (R171). A sync that a slave took in ARMED, from a master that had started already, is one of this
run (R172, R470). Log 252 (DEDUCED, unsafe). -/
def Dev.prfStart (d : Dev) (f : Nat) : Dev :=
  let v := d.prfSnap 0 []
  let sync := if d.mode = .armed ∧ !(d.flag R.POS_STATUS_MASTER) then d.prf.syncRow else none
  let d := { d with prf := { vers := [v], syncRow := sync } }
  let d := (List.range 4).foldl (fun d k => if v.en.getD k false then d.prfInit k f else d) d
  (d.setFld R.BLV_PRF_SYNC_COUNT 0).setFld R.BLV_PRF_SYNC_ROW (sync.getD 0)

/-- New profile settings for the rows from boundary `b` on, where the layers that the commit changes are initialised (R171).
Log 170 (DESIGN CHOICE, unsafe), 251 (DEDUCED, unsafe). -/
def Dev.prfCommit (d : Dev) (b : Nat) (recipe : Bool) : Dev :=
  let new := d.prfSnap b []
  let old := match d.prf.vers with | v :: _ => v | [] => new
  let init := (List.range 4).map fun k =>
    let on := fun (v : PrfVer) => v.en.getD k false
    (decide (old.line = b) && old.init.getD k false) || decide (old.resp.getD k 0 ≠ new.resp.getD k 0) || (on old != on new) || (old.maskEn.getD k false != new.maskEn.getD k false) || (recipe && (on old || on new))
  { d with prf := { d.prf with vers := ({ new with init := init } :: d.prf.vers.filter fun v => v.line ≠ b).take 4 } }

/-! ### Syncs (R172, R174) -/

/-- The four modes of R165. -/
def Mode.filters : Mode → Bool
  | .inspect | .degraded | .calibrate | .replay => true
  | _ => false

/-- The smallest multiple of 16 at least LINES_PASSED + SYNC_LEAD (R172). -/
def Dev.syncTarget (d : Dev) : Nat := (d.pos.linesPassed + max (d.live R.BLV_PRF_CTRL_SYNC_LEAD) 16 + 15) / 16 * 16

/-- Set L_S; a row already merged makes the sync late (R174). -/
def Dev.setSync (d : Dev) (ls : Nat) : Dev :=
  let d := { d with prf := { d.prf with syncRow := some ls } }
  let d := d.setFld R.BLV_PRF_SYNC_ROW ls
  let late := d.mode.filters && decide (ls < d.blv.nextRow)
  ({ d with prf := { d.prf with lateSync := late } }).raiseIf late R.BLV_PRF_EVENTS_SYNC_LATE

/-! ### Sources of columns (R173) -/

/-- The roles that contribute to each column of a layer: those of its spans, each half of a bonded pair for itself, less a B of zero weight, and those
left out of the row where they last were. Log 70 (DEDUCED, unsafe). -/
def Dev.sourceSets (d : Dev) (s : Stitched) (late : List Nat) (k : Nat) : List (List Nat) :=
  let spans := match s.spans.find? fun x => x.1 = k with | some x => x.2 | none => []
  let parts := match s.parts.find? fun x => x.1 = k with | some x => x.2 | none => []
  let v := d.blvVer s.line
  let gone := late.filterMap fun r =>
    if ((v.sources.getD r []).getD k none).isNone then none else
    match d.prf.lastSpans.find? fun x => decide (x.1 = r) && decide (x.2.1 = k) with
    | some x => some (r, x.2.2.1, x.2.2.2)
    | none =>
      let b := v.bandStart.getD r 0
      let hi := min ((d.stitchCols : Int) - 1) (b + d.live (R.STR_BAND_COLS r) - 1)
      if hi < 0 ∨ (d.stitchCols : Int) ≤ b then none else some (r, (max 0 b).toNat, hi.toNat)
  (List.range d.stitchCols).map fun c =>
    let here := spans.filter fun x => (x.at c).isSome
    let here := match here with
      | [x, y] => let (a, b, _, zh) := overlapOf x y; if b.hi ≤ zh then [a] else [a, b]
      | xs => xs
    let held := parts.filter fun x => decide (x.2.1 ≤ c) && decide (c ≤ x.2.2)
    let rs := (held.filter fun x => here.any fun y => decide (y.role = x.1) || (decide (y.role + 1 = x.1) && d.bonded y.role)).map (·.1) ++ (gone.filter fun g => decide (g.2.1 ≤ c) && decide (c ≤ g.2.2)).map (·.1)
    (List.range 16).filter fun r => rs.contains r

/-- Remember where each role's band last lay in a merged row. Log 70 (DEDUCED, unsafe). -/
def Dev.noteSpans (d : Dev) (s : Stitched) : Dev :=
  let new := s.parts.flatMap fun (k, xs) => xs.map fun x => (x.1, k, x.2.1, x.2.2)
  { d with prf := { d.prf with lastSpans := new ++ d.prf.lastSpans.filter fun o => !(new.any fun n => decide (n.1 = o.1) && decide (n.2.1 = o.2.1)) } }

/-! ### The background (R178 to R180) -/

/-- The role that owns a column. -/
def Dev.ownerOf (d : Dev) (c : Nat) : Option Nat :=
  (List.range 16).find? fun r => d.lflag (R.STR_COR_CTRL_ENABLE r) && decide (d.ownStart r ≤ c) && decide (c ≤ d.ownEnd r)

/-- What the masks say of column `c` over the support of an output: `none` when some row's mask is missing (R175, R180). -/
def Dev.maskOf (d : Dev) (o : PrfOut) (c : Nat) : Option Bool :=
  match d.ownerOf c with
  | none => some false
  | some r =>
    let rows := d.prf.hist.filter fun h => decide (o.first ≤ h.line) && decide (h.line ≤ o.last)
    rows.foldl (fun acc h =>
      match acc, h.masks.find? fun m => m.1 = r with
      | some a, some m => some (a || m.2.getD (c - d.ownStart r) false)
      | _, _ => none) (some false)

/-- Apply one output to a column (R178). -/
def applyCol (slew : Nat) (x : PrfCol) (y : Nat) : PrfCol :=
  if x.st ≠ 0 then { x with b := y, st := 0 }
  else if slew = 0 then { x with b := y }
  else { x with b := ((x.b : Int) + clampI (-(slew : Int)) slew ((y : Int) - x.b)).toNat }

/-- Apply an output to its layer (R178, R180). -/
def Dev.applyOut (d : Dev) (v : PrfVer) (o : PrfOut) : Dev :=
  let x := d.prfLayer o.layer
  let bad := o.flags.roleLate || o.flags.coverGap || o.flags.noSource
  let ms := if o.maskEn then (List.range o.ys.length).map fun c => d.maskOf o c else List.replicate o.ys.length (some false)
  let late := (o.ys.zip ms).any fun p => p.1.isSome && p.2.isNone
  let cols := (x.cols.zip (o.ys.zip ms)).map fun (c, y, m) =>
    match y, m with
    | some y, some false => if bad then c else applyCol (v.slew.getD o.layer 0) c y
    | _, _ => c
  let d := d.setPrfLayer o.layer { x with cols := cols }
  if late then (d.bump R.BLV_PRF_CNT_BG_MASK_LATE_CNT).raise R.BLV_PRF_EVENTS_BG_MASK_LATE else d

/-- SETTLED: every column of every profiled layer is LIVE (R183). PRF_SETTLED fires when it rises. -/
def Dev.updSettled (d : Dev) (v : PrfVer) : Dev :=
  let s := (List.range 4).all fun k => !(v.en.getD k false) || (d.prfLayer k).cols.all fun c => c.st = 0
  let was := d.prf.settled
  let d := { d with prf := { d.prf with settled := s } }
  if s && !was then d.fire P.prfSettled else d

/-- WARMUP (R183). -/
def Dev.warmup (d : Dev) : Bool :=
  (decide (d.mode = .inspect) || decide (d.mode = .degraded) || decide (d.mode = .replay)) && !d.prf.settled

/-- The changes that fall on a row before it enters the filter (R171), and the outputs that the background takes in the cycle in
which it is merged (R179). Answers the layers with a source change. Log 251 (DEDUCED, unsafe). -/
def Dev.prfBefore (d : Dev) (s : Stitched) (late : List Nat) : Dev × List Nat :=
  let l := s.line
  let v := d.prfVer l
  let ks := (List.range 4).filter fun k => v.en.getD k false
  let init := (List.range 4).filter fun k => d.prf.vers.any fun x => decide (x.line ≤ l) && x.init.getD k false
  let d := { d with prf := { d.prf with vers := d.prf.vers.map fun (x : PrfVer) => if x.line ≤ l then { x with init := [] } else x } }
  let d := init.foldl (fun d k => d.prfInit k l) d
  let sync := match d.prf.syncRow with | some r => decide (r ≤ l) | none => false
  let d := if sync then
      let d := ks.foldl (fun d k => let x := d.prfLayer k; d.setPrfLayer k { x with lr := l, cols := x.cols.map fun c => { c with f := l } }) d
      ({ d with prf := { d.prf with syncRow := none, syncLate := d.prf.lateSync } }).incr R.BLV_PRF_SYNC_COUNT
    else d
  let srcs := d.layersOn.map fun k => (k, d.sourceSets s late k)
  let changed := fun k c =>
    match d.prf.sources.find? fun x => x.1 = k, srcs.find? fun x => x.1 = k with
    | some a, some b => decide (a.2.getD c [] ≠ b.2.getD c [])
    | _, _ => false
  let due := d.prf.forced.filter fun f => decide (f.2 ≤ l)
  let forced := fun c => match d.ownerOf c with | some r => due.any fun f => f.1 = r | none => false
  let which : List Nat := (d.layersOn.filter fun k => !due.isEmpty || (List.range d.stitchCols).any fun c => changed k c)
  let any := !which.isEmpty
  let d := if !any then d else
    ks.foldl (fun d k =>
      let x := d.prfLayer k
      d.setPrfLayer k { x with cols := x.cols.zipIdx.map fun (c, i) => if changed k i || forced i then { c with f := l, st := if init.contains k then c.st else 2 } else c }) d
  let d := d.raiseIf any R.BLV_PRF_EVENTS_SOURCE_CHANGE
  let d := { d with prf := { d.prf with sources := srcs, forced := d.prf.forced.filter fun f => decide (l < f.2) } }
  let d := d.noteSpans s
  let due := d.prf.pending.filter fun o => decide (o.last + v.bgLag ≤ l)
  let d := due.foldl (fun d o => d.applyOut v o) d
  let d := { d with prf := { d.prf with pending := d.prf.pending.filter fun o => l < o.last + v.bgLag } }
  (d.updSettled v, which)

/-- The background that a row is segmented against (R179): BG_FIXED in a FIXED column (R177). -/
def Dev.background (d : Dev) (v : PrfVer) : List (Nat × List (Nat × Nat)) :=
  ((List.range 4).filter fun k => v.en.getD k false).map fun k =>
    (k, (d.prfLayer k).cols.map fun c => (if c.st = 2 then v.fixed.getD k 0 else c.b, c.st))

/-! ### Outputs (R166 to R170) -/

/-- The widened value of a column of a layer in a history row; a row without one counts zero. -/
def histVal (h : List PrfRow) (k c : Nat) (row : Int) : Nat :=
  match h.find? fun x => (x.line : Int) = row with
  | some x => match x.vals.find? fun y => y.1 = k with | some y => y.2.getD c 0 | none => 0
  | none => 0

/-- The coefficient w_i of the third-order CIC (R168). -/
def cicWeight (dd i : Nat) : Int :=
  let c2 := fun (n : Int) => if n < 2 then 0 else n * (n - 1) / 2
  c2 (i + 2) - 3 * c2 ((i : Int) - dd + 2) + 3 * c2 ((i : Int) - 2 * dd + 2)

/-- c_j (R168). -/
def cicAt (h : List PrfRow) (m k c : Nat) (p : Int) : Int :=
  let dd : Nat := 2 ^ m
  let s : Int := (List.range (3 * dd - 2)).foldl (fun (s : Int) (i : Nat) => s + cicWeight dd i * (histVal h k c (p - (i : Int)) : Int)) 0
  (s + 2 ^ (3 * m - 1)) / 2 ^ (3 * m)

/-- y_k of a column whose output row is `p` (R168, R169). -/
def decimate (h : List PrfRow) (resp k c : Nat) (p : Nat) : Nat :=
  let m := respLog2 resp
  let dd : Nat := 2 ^ m
  if resp < 8 then
    sat16 ((18 * cicAt h m k c ((p : Int) - dd) - cicAt h m k c p - cicAt h m k c ((p : Int) - 2 * dd) + 8) / 16)
  else ((List.range dd).foldl (fun (s i : Nat) => s + histVal h k c ((p : Int) - i)) 0 + dd / 2) / dd

/-- A profile line (R184, R185). -/
def profileLine (d : Dev) (v : PrfVer) (o : PrfOut) (lr : Nat) : List Byte :=
  let resp := v.resp.getD o.layer 0
  let ref := refRow resp lr o.k
  let g := 2 ^ v.cdBin
  let n := (d.stitchCols + g - 1) / g
  let sample := fun i =>
    let ys := ((o.ys.drop (i * g)).take g).filterMap id
    if ys = [] then 65535 else min 65534 ((ys.sum + ys.length / 2) / ys.length)
  let fl := o.flags.toBits + 256 * b2n d.prf.syncLate + 512 * b2n (o.ys.any (·.isNone))
  pad64 (leInt 8 ref ++ leInt 8 (gridAtRow ref) ++ leBytes 8 o.k ++ leBytes 8 lr ++ leBytes 4 (d.epochOf o.last) ++ leBytes 4 (d.live R.BLV_DEV_COL_BASE) ++ leBytes 4 n ++ leBytes 1 o.layer ++ leBytes 1 resp ++ leBytes 1 v.cdBin ++ [0] ++ leBytes 2 fl ++ zeros 2 ++ leBytes 4 (d.fld R.BLV_PRF_SYNC_COUNT) ++ zeros 8 ++ (List.range n).flatMap fun i => leBytes 2 (sample i))
where
  /-- Grid position of a row that may lie before row 0. -/
  gridAtRow (r : Int) : Int := if 0 ≤ r then d.linePos r.toNat else d.pos.gridOrigin + r * d.pitchOf 0

/-- The row enters the filters: outputs whose row it is are formed (R166, R170, R176). Answers them with their profile lines. -/
def Dev.prfRow (d : Dev) (s : Stitched) : Dev × List (PrfOut × List Byte) :=
  let l := s.line
  let v := d.prfVer l
  let ks := (List.range 4).filter fun k => v.en.getD k false
  let h := (({ line := l, flags := s.flags, vals := s.wide.filter fun x => ks.contains x.1, masks := [] } : PrfRow) :: d.prf.hist).take 10752
  let d := { d with prf := { d.prf with hist := h } }
  ks.foldl (fun (d, acc) k =>
    let x := d.prfLayer k
    let resp := v.resp.getD k 0
    let dd := 2 ^ respLog2 resp
    if l < x.lr ∨ (l + 1 - x.lr) % dd ≠ 0 then (d, acc) else
    let n := (l + 1 - x.lr) / dd - 1
    let first := supportFirst resp x.lr n
    let ys := x.cols.zipIdx.map fun (c, i) => if first < c.f then none else some (decimate h resp k i l)
    let fl := (h.filter fun r => first ≤ r.line).foldl (fun f r => f.or r.flags) {}
    let o : PrfOut := { layer := k, k := n, first := first.toNat, last := l, ys := ys, flags := fl, maskEn := v.maskEn.getD k false }
    let line := profileLine d v o x.lr
    let d := d.setPrfLayer k { x with filling := ys.map (·.isNone) }
    let d := { d with prf := { d.prf with pending := d.prf.pending ++ [o] } }
    (if k = 0 then d.fire P.prfOut else d, acc ++ [(o, line)])) (d, [])

/-- The defect mask that a role's segmentation hands on for a row (R175). -/
def Dev.prfMask (d : Dev) (r l : Nat) (mask : List Bool) : Dev :=
  { d with prf := { d.prf with hist := d.prf.hist.map fun h => if h.line = l then { h with masks := h.masks ++ [(r, mask)] } else h } }

/-- APRON_MISSING enters the row flags of a history row (R176). -/
def Dev.prfApron (d : Dev) (l : Nat) : Dev :=
  { d with prf := { d.prf with hist := d.prf.hist.map fun h => if h.line = l then { h with flags := { h.flags with apronMissing := true } } else h } }

end Sys2Proof.Machine
end

