-- ==== Sys2Proof/Machine/Segment.lean ====
section
/-!
DEFINITION. Segmentation (chapter 06): the stage kinds, the web-edge tracker, the chain of a role with its budget and its checks
at sealing, handing rows on, changes at a boundary and skips.
-/
namespace Sys2Proof.Machine

def chain0 : Chain := {}
def Dev.chain (d : Dev) (r : Nat) : Chain := tget chain0 d.chains r
def Dev.setChain (d : Dev) (r : Nat) (c : Chain) : Dev := { d with chains := tset chain0 d.chains r c }

/-! ### Settings -/

/-- The structure of a role's chain, its registers read by `g` (R220). Log 256 (DEDUCED, unsafe). -/
def segVerOf (g : Fld → Nat) (r line : Nat) : SegVer :=
  let tag := fun k => let f := R.STR_SEG_TAGS r; if g ⟨f.addr, 8 * k + 4, 1⟩ = 1 then some (g ⟨f.addr, 8 * k, 4⟩) else none
  { line := line, enable := decide (g (R.STR_SEG_CTRL_ENABLE r) = 1), len := g (R.STR_SEG_CTRL_CHAIN_LEN r), final := g (R.STR_SEG_CTRL_FINAL r), refLayer := g (R.STR_SEG_CTRL_REF_LAYER r), featSrc := g (R.STR_SEG_CTRL_FEAT_SRC r), featValid := decide (g (R.STR_SEG_CTRL_FEAT_VALID r) = 1), lagMax := g (R.STR_SEG_LAG_SEG_LAG_MAX r), resume := g (R.STR_SEG_LAG_SEG_RESUME r), tagWord := g (R.STR_SEG_TAGS r), tags := (List.range 4).map tag, stages := (List.range 16).map fun k => { kind := g (R.STR_STAGE_KIND_KIND r k), srcA := g (R.STR_STAGE_KIND_SRC_A r k), srcB := g (R.STR_STAGE_KIND_SRC_B r k), rc := g (R.STR_STAGE_GEOM_RC r k), rm := g (R.STR_STAGE_GEOM_RM r k), shape := g (R.STR_STAGE_GEOM_SHAPE r k), mode := g (R.STR_STAGE_GEOM_MODE r k), shift := g (R.STR_STAGE_GEOM_SHIFT r k) } }

/-- The parameter words of a role's stages (R220). -/
def segParsOf (g : Fld → Nat) (r : Nat) : List (List Nat) :=
  (List.range 16).map fun k => [g (R.STR_STAGE_P0 r k), g (R.STR_STAGE_P1 r k), g (R.STR_STAGE_P2 r k), g (R.STR_STAGE_P3 r k), g (R.STR_STAGE_PF0 r k), g (R.STR_STAGE_PF1 r k)]

/-- A stage that is not configured. -/
def stage0 : SegStage := ⟨0, 0, 0, 0, 0, 0, 0, 0⟩
def SegVer.stage (v : SegVer) (s : Nat) : SegStage := v.stages.getD s stage0

/-- Parameter word `i` of stage `s`: 0 to 3 are P0 to P3, 4 and 5 are PF0 and PF1. -/
def parU (ps : List (List Nat)) (s i : Nat) : Nat := (ps.getD s []).getD i 0
/-- The same as a signed number. -/
def parI (ps : List (List Nat)) (s i : Nat) : Int := sx 32 (parU ps s i)

/-! ### The kind table (R198) -/

/-- The kinds whose output is a value plane; kind 0 follows its input. -/
def kindV : Nat → Bool
  | 1 | 2 | 3 | 4 | 14 | 15 | 16 | 17 | 18 | 19 | 22 => true
  | _ => false

/-- The kinds whose input A is a value plane; kind 0 takes either. -/
def kindAV : Nat → Bool
  | 1 | 2 | 3 | 4 | 5 | 6 | 7 | 14 | 15 | 16 | 17 | 18 | 19 | 21 | 22 => true
  | _ => false

/-- Does a stage read SRC_B, and as a value plane (`some true`) or a mask. -/
def stageB (s : SegStage) : Option Bool :=
  if s.kind = 2 then some true
  else if s.kind = 12 ∨ s.kind = 20 then some false
  else if s.kind = 22 ∧ s.mode ≤ 1 then some true
  else none

/-- The selectors a stage reads. -/
def inputsOf (s : SegStage) : List Nat := s.srcA :: (if (stageB s).isSome then [s.srcB] else [])

/-- CD reach c, and MD support a and b, of a stage (R198). -/
def stageGeom (s : SegStage) (ps : List (List Nat)) (i : Nat) : Nat × Nat × Nat :=
  let p := fun j => (parI ps i j).toNat
  match s.kind with
  | 6 | 7 | 8 | 9 | 13 | 14 => (s.rc, s.rm, s.rm)
  | 10 | 11 => (2 * s.rc, 2 * s.rm, 2 * s.rm)
  | 15 | 18 => (1, 1, 1)
  | 16 => (p 0 + p 1, s.rm, s.rm)
  | 17 => (s.rc, p 0 + p 1, p 0 + p 1)
  | 19 => (s.rc + 1, s.rm + 1, s.rm + 1)
  | 23 => (0, p 1 - 1, 0)
  | _ => (0, 0, 0)

/-- Cost of a stage in lane-cycles (R198). -/
def stageCost (s : SegStage) : Nat :=
  match s.kind with
  | 1 | 3 | 20 | 23 => 2
  | 4 => 12
  | 6 | 18 => 8
  | 7 => 4 + s.rc + s.rm
  | 8 | 9 => 2 + s.rc + s.rm
  | 10 | 11 => 4 + 2 * s.rc + 2 * s.rm
  | 13 | 14 | 21 => 6
  | 15 => 4
  | 16 | 17 => 10
  | 19 => 14
  | _ => 1

/-- What R194 and R197 derive for one stage: value plane, REACH, LAT, and how many rows back it reads in all. -/
structure StageInfo where
  isV : Bool
  reach : Nat
  lat : Nat
  back : Nat
  deriving DecidableEq, Repr

/-- What a selector stands for, given the stages before. -/
def selInfo (done : List StageInfo) (x : Nat) : StageInfo :=
  if x < 16 then ⟨true, 0, 0, 0⟩ else done.getD (x - 16) ⟨false, 0, 0, 0⟩

def maxOf (xs : List Nat) : Nat := xs.foldl max 0

/-- The derived figures of stages 0 to `n` − 1 (R194). -/
def stageInfos (v : SegVer) (ps : List (List Nat)) : Nat → List StageInfo
  | 0 => []
  | n + 1 =>
    let done := stageInfos v ps n
    let s := v.stage n
    let ins := (inputsOf s).map (selInfo done)
    let (c, a, b) := stageGeom s ps n
    let isV := if s.kind = 0 then (selInfo done s.srcA).isV else kindV s.kind
    done ++ [⟨isV, c + maxOf (ins.map (·.reach)), b + maxOf (ins.map (·.lat)), a + maxOf (ins.map (·.back))⟩]

def SegVer.running (v : SegVer) : Nat := min v.len 16
def SegVer.infos (v : SegVer) (ps : List (List Nat)) : List StageInfo := stageInfos v ps v.running

/-- The selectors of the planes handed on (R216, R217). -/
def SegVer.handedSels (v : SegVer) : List Nat :=
  if !v.enable then [] else
  (16 + v.final) :: (if v.featValid then v.featSrc else v.refLayer) :: v.tags.filterMap fun t => t.map (· + 16)

/-- LAT_CHAIN and REACH_CHAIN (R194). -/
def SegVer.lat (v : SegVer) (ps : List (List Nat)) : Nat := let i := v.infos ps; maxOf (v.handedSels.map fun x => (selInfo i x).lat)
def SegVer.reach (v : SegVer) (ps : List (List Nat)) : Nat := let i := v.infos ps; maxOf (v.handedSels.map fun x => (selInfo i x).reach)

/-- COST (R196). -/
def SegVer.cost (v : SegVer) : Nat := 8 + ((List.range v.running).map fun k => stageCost (v.stage k)).sum

/-- Held bits per column (R197). -/
def SegVer.heldBits (v : SegVer) (ps : List (List Nat)) : Nat :=
  let i := v.infos ps
  let lc := v.lat ps
  let bitsOf := fun (x : StageInfo) => if x.isV then 24 else 1
  let stage := fun k =>
    let s := v.stage k
    let ins := (inputsOf s).map (selInfo i)
    let (_, a, b) := stageGeom s ps k
    (ins.map fun x => (a + b + (maxOf (ins.map (·.lat)) - x.lat)) * bitsOf x).sum
  ((List.range v.running).map stage).sum + (v.handedSels.map fun x => let y := selInfo i x; (lc - y.lat) * bitsOf y).sum

/-- WIN_COLS of a role (R190). -/
def winCols (g : Fld → Nat) (r : Nat) : Nat := g (R.BLV_OWN_END r) + 129 - g (R.BLV_OWN_START r)

/-- STORE (R197). -/
def segStore (g : Fld → Nat) (r : Nat) : Nat :=
  ((segVerOf g r 0).heldBits (segParsOf g r) * winCols g r + 7) / 8

/-! ### Arithmetic of the stages (R190, R199) -/

def sat24 (x : Int) : Int := clampI (-8388608) 8388607 x

/-- mean(S, n), rounded toward minus infinity (R199). -/
def meanI (s : Int) (n : Nat) : Int := (s + (n / 2 : Nat)) / n

/-- The sign mode of MODE bits 1:0 (R199). -/
def signMode (mode : Nat) (x : Int) : Int :=
  sat24 (match mode % 4 with | 0 => x | 1 => (x.natAbs : Int) | 2 => max x 0 | _ => max (-x) 0)

/-- The integers from −n to n. -/
def around (n : Nat) : List Int := (List.range (2 * n + 1)).map fun (i : Nat) => (i : Int) - (n : Int)

/-- Sum of a function over a list. -/
def sumI (xs : List Int) (f : Int → Int) : Int := (xs.map f).sum

/-- Σ_R (R199). -/
def rectSum (rc rm : Nat) (x : Int → Int → Int) (w l : Int) : Int :=
  sumI (around rc) fun dx => sumI (around rm) fun dy => x (w + dx) (l + dy)

def rectN (rc rm : Nat) : Nat := (2 * rc + 1) * (2 * rm + 1)

/-- The binomial weights (R199). -/
def binom (k : Int) : Int := if k = 0 then 2 else 1

/-- The structuring element (R204): its offsets. -/
def element (shape rc rm : Nat) : List (Int × Int) :=
  let inE := fun (dx dy : Int) =>
    let x : Nat := dx.natAbs
    let y : Nat := dy.natAbs
    match shape with
    | 0 => true
    | 1 => decide (x = 0) || decide (y = 0)
    | 2 => decide (x * rm + y * rc ≤ rc * rm)
    | _ => decide (x * x * rm * rm + y * y * rc * rc ≤ rc * rc * rm * rm)
  (around rc).flatMap fun dx => (around rm).filterMap fun dy => if inE dx dy then some (dx, dy) else none

def bI (b : Bool) : Int := if b then 1 else 0

/-- OR and AND of a mask over offsets. -/
def orOver (e : List (Int × Int)) (a : Int → Int → Int) (w l : Int) : Int := bI (e.any fun p => decide (a (w + p.1) (l + p.2) ≠ 0))
def andOver (e : List (Int × Int)) (a : Int → Int → Int) (w l : Int) : Int := bI (e.all fun p => decide (a (w + p.1) (l + p.2) ≠ 0))

/-- SMOOTH (R205). -/
def smooth (a : Int → Int → Int) (w l : Int) : Int :=
  (sumI [-1, 0, 1] (fun dx => sumI [-1, 0, 1] fun dy => binom dx * binom dy * a (w + dx) (l + dy)) + 8) / 16

/-! ### Evaluating planes -/

/-- What a chain's planes are read from: the window rows it holds, L0 and the last row it may read, and e_s by row. -/
structure SegCtx where
  v : SegVer
  pars : Nat → List (List Nat)
  rows : List WinRow
  lo : Nat
  hi : Nat
  cols : Nat
  track : List (Nat × Int × Int)

/-- The row of the window that row `l` reads (R193). -/
def SegCtx.row (x : SegCtx) (l : Int) : Option WinRow :=
  let l := (clampI x.lo x.hi l).toNat
  x.rows.find? fun r => r.line = l

/-- Clamp a place to the plane (R193). -/
def SegCtx.clampW (x : SegCtx) (w : Int) : Int := clampI 0 ((x.cols : Int) - 1) w
def SegCtx.clampL (x : SegCtx) (l : Int) : Int := clampI x.lo x.hi l

/-- The background of a layer in a window column (R191). Log 83 (DESIGN CHOICE, unsafe). -/
def SegCtx.bg (x : SegCtx) (k : Nat) (w l : Int) : Int :=
  match x.row l with
  | some r => match r.bg.find? fun y => y.1 = k with | some y => ((y.2.getD w.toNat (0, 2)).1 : Nat) | none => 0
  | none => 0

/-- FX (R192). Log 83 (DESIGN CHOICE, unsafe). -/
def SegCtx.fx (x : SegCtx) (w l : Int) : Bool :=
  match x.row l with
  | some r => match r.bg.find? fun y => y.1 = x.v.refLayer with | some y => decide ((y.2.getD w.toNat (0, 0)).2 = 2) | none => false
  | none => false

/-- COVER (R192). -/
def SegCtx.cover (x : SegCtx) (w l : Int) : Bool :=
  match x.row l with
  | some r => match r.cover.find? fun y => y.1 = x.v.refLayer with | some y => y.2.getD w.toNat false | none => false
  | none => false

/-- Is a column on the web (R213), and its distance to the nearest tracked edge, none when unbounded (R214). -/
def SegCtx.web (x : SegCtx) (mode : Nat) (w l : Int) : Bool × Option Int :=
  match x.track.find? fun t => (t.1 : Int) = x.clampL l with
  | none => (true, none)
  | some (_, eL, eR) =>
    let a := 16 * w - eL
    let b := eR - 16 * w
    match mode % 4 with
    | 0 => (true, none)
    | 1 => (decide (0 ≤ a), some a)
    | 2 => (decide (0 ≤ b), some b)
    | _ => (decide (0 ≤ a) && decide (0 ≤ b), some (min a b))

/-- The thresholds of a pixel (R201), under the parameters `ps` of the output row (R220). -/
def SegCtx.thresh (x : SegCtx) (ps : List (List Nat)) (s : Nat) (w l : Int) : Int × Int :=
  if x.fx w l then (parI ps s 4, parI ps s 5) else (parI ps s 0, parI ps s 1)

/-- The output of one stage at a place, its inputs read by `a` and `b`, which clamp under R193 (R200 to R208, R213, R214). Log 84 (DEDUCED, unsafe). -/
def SegCtx.stageOut (x : SegCtx) (s : Nat) (a b : Int → Int → Int) (w l : Int) : Int :=
  let st := x.v.stage s
  let ps := x.pars l.toNat
  let p := fun i => parI ps s i
  let c := fun (f : Int → Int → Int) w l => f (x.clampW w) (x.clampL l)
  let rc := st.rc
  let rm := st.rm
  let bgv := fun w l => x.bg (st.mode / 4 % 4) w l
  match st.kind with
  | 0 => a w l
  | 1 => signMode st.mode (a w l - bgv w l)
  | 2 => signMode st.mode (a w l - b w l)
  | 3 =>
    let r : Int := if st.shift = 0 then 0 else 2 ^ (st.shift - 1)
    sat24 ((a w l * p 0 + r) / 2 ^ st.shift + p 1)
  | 4 => sat24 (truncDiv ((a w l - bgv w l) * 4096) (max (bgv w l) 1).toNat)
  | 5 =>
    let (hi, lo) := x.thresh ps s w l
    bI ((bitOf st.mode 0 && decide (hi ≤ a w l)) || (bitOf st.mode 1 && decide (a w l ≤ lo)))
  | 6 =>
    let d := a w l - meanI (rectSum rc rm a w l) (rectN rc rm)
    bI ((bitOf st.mode 0 && decide (p 0 ≤ d)) || (bitOf st.mode 1 && decide (d ≤ -p 1)))
  | 7 =>
    let v := fun w l => let y := a w l; if bitOf st.mode 2 then (y.natAbs : Int) else y
    let strong := fun w l => bI (decide ((x.thresh ps s w l).1 ≤ v w l))
    bI (decide ((x.thresh ps s w l).2 ≤ v w l) && decide (orOver (element 0 rc rm) (c strong) w l ≠ 0))
  | 8 => orOver (element st.shape rc rm) a w l
  | 9 => andOver (element st.shape rc rm) a w l
  | 10 => let e := element st.shape rc rm; orOver e (c (andOver e a)) w l
  | 11 => let e := element st.shape rc rm; andOver e (c (orOver e a)) w l
  | 12 => bI (bitOf (parU ps s 0) (2 * (a w l).toNat + (b w l).toNat))
  | 13 => bI (decide (p 0 ≤ rectSum rc rm a w l))
  | 14 => meanI (rectSum rc rm a w l) (rectN rc rm)
  | 15 => smooth a w l
  | 16 =>
    let g := p 0
    let n := (p 1).toNat
    let core := sumI (around rm) fun dy => a w (l + dy)
    let side := sumI (around rm) fun dy => sumI ((List.range n).map fun (i : Nat) => g + 1 + (i : Int)) fun j => a (w - j) (l + dy) + a (w + j) (l + dy)
    signMode st.mode (meanI core (2 * rm + 1) - meanI side (2 * n * (2 * rm + 1)))
  | 17 =>
    let g := p 0
    let n := (p 1).toNat
    let core := sumI (around rc) fun dx => a (w + dx) l
    let side := sumI (around rc) fun dx => sumI ((List.range n).map fun (i : Nat) => g + 1 + (i : Int)) fun j => a (w + dx) (l - j) + a (w + dx) (l + j)
    signMode st.mode (meanI core (2 * rc + 1) - meanI side (2 * n * (2 * rc + 1)))
  | 18 =>
    let gx := sumI [-1, 0, 1] fun dy => binom dy * (a (w + 1) (l + dy) - a (w - 1) (l + dy))
    let gy := sumI [-1, 0, 1] fun dx => binom dx * (a (w + dx) (l + 1) - a (w + dx) (l - 1))
    sat24 (match st.mode with
    | 0 => ((gx.natAbs + gy.natAbs + 4) / 8 : Nat)
    | 1 => ((gx.natAbs + 4) / 8 : Nat)
    | 2 => ((gy.natAbs + 4) / 8 : Nat)
    | 3 => (gx + 4) / 8
    | m => Config.stageMode 18 m gx gy)
  | 19 => sat24 (meanI (rectSum rc rm (c fun w l => ((a w l - smooth a w l).natAbs : Int)) w l) (rectN rc rm))
  | 20 =>
    let web := st.srcB - 16
    let (on, dist) := x.web (x.v.stage web).mode w l
    let far := fun (n : Int) => match dist with | none => true | some q => decide (16 * n ≤ q)
    bI (decide (a w l ≠ 0) && match st.mode with | 0 => on && far (p 0) | 1 => on && !far (p 1) | _ => !on)
  | 21 => bI (x.web st.mode w l).1
  | 22 =>
    match st.mode with
    | 0 => min (a w l) (b w l)
    | 1 => max (a w l) (b w l)
    | 2 => sat24 ((a w l).natAbs : Int)
    | 3 => sat24 (-(a w l))
    | m => sat24 (Config.stageMode 22 m (a w l) 0)
  | 23 => bI (decide (p 0 ≤ sumI ((List.range (p 1).toNat).map fun (i : Nat) => (i : Int)) fun i => a w (l - i)))
  | _ => 0

/-- The value of a selector's plane at any place; the first number bounds the stages looked through (R191, R193). -/
def SegCtx.plane (x : SegCtx) : Nat → Nat → Int → Int → Int
  | 0, _, _, _ => 0
  | n + 1, sel, w, l =>
    let w := x.clampW w
    let l := x.clampL l
    if sel < 4 then
      match x.row l with
      | some r => match r.layers.find? fun y => y.1 = sel with | some y => (y.2.getD w.toNat 0 : Nat) | none => 0
      | none => 0
    else if sel < 8 then x.bg (sel - 4) w l
    else if sel < 16 then 0
    else
      let st := x.v.stage (sel - 16)
      x.stageOut (sel - 16) (fun w l => x.plane n st.srcA w l) (fun w l => x.plane n st.srcB w l) w l

/-! ### The web-edge tracker (R210 to R215) -/

/-- The WEB_EDGE stage of a chain. -/
def SegVer.webEdge (v : SegVer) : Option Nat := (List.range v.running).find? fun k => (v.stage k).kind = 21

/-- Are the `n` columns from `w` on all on the web. -/
def runOn (on : Nat → Bool) (w n : Nat) : Bool := (List.range n).all fun i => on (w + i)

/-- The raw LEFT edge and its case (R211); `a` and `t` are negated for polarity 1. -/
def rawLeft (a : Nat → Int) (t : Int) (lo hi run : Nat) : Int × Nat :=
  let on := fun w => decide (t ≤ a w)
  match ((List.range (hi + 2 - run - lo)).map (lo + ·)).find? fun w => runOn on w run && (decide (w = lo) || !on (w - 1)) with
  | none => (16 * ((hi : Int) + 1), 3)
  | some w => if w = lo then (16 * (lo : Int), 2) else (16 * ((w : Int) - 1) + 16 * (t - a (w - 1)) / (a w - a (w - 1)), 1)

/-- The raw RIGHT edge and its case (R211). -/
def rawRight (a : Nat → Int) (t : Int) (lo hi run : Nat) : Int × Nat :=
  let on := fun w => decide (t ≤ a w)
  match ((List.range (hi + 2 - run - lo)).map (hi - ·)).find? fun w => runOn on (w + 1 - run) run && (decide (w = hi) || !on (w + 1)) with
  | none => (16 * ((lo : Int) - 1), 3)
  | some w => if w = hi then (16 * (hi : Int), 2) else (16 * (w : Int) + 16 * (a w - t) / (a w - a (w + 1)), 1)

/-- Follow one edge through a row (R212): the new state, whether it re-acquired after rejects and whether the row was rejected.
Log 82 (DEDUCED, unsafe). -/
def followEdge (alpha jump lost : Nat) (e : Option SegEdge) (raw : Int × Nat) : SegEdge × Bool × Bool :=
  match e with
  | none => ({ es := raw.1, rej := 0, case := raw.2 }, false, false)
  | some e =>
    let diff := raw.1 - e.es
    if diff.natAbs ≤ jump then
      let r : Int := if alpha = 0 then 0 else 2 ^ (alpha - 1)
      ({ es := e.es + (diff + r) / 2 ^ alpha, rej := 0, case := raw.2 }, false, false)
    else if lost ≤ e.rej + 1 then ({ es := raw.1, rej := 0, case := raw.2 }, true, true)
    else ({ e with rej := e.rej + 1 }, false, true)

/-- The physical stripes on which a role's chain reports row `l`: the one that takes it, and the spare that mirrors the role from B1 on (R520, R224). -/
def Dev.segStripes (d : Dev) (r l : Nat) : List Nat :=
  (if d.roleAt r l then [d.stripeAt r l] else []) ++ if d.rot.b1 ≤ l then (d.mirrorOf r).toList else []

/-- Report a tracked edge after row `l` (R215); a CD_PITCH of 0 acts as 1. -/
def Dev.edgeReport (d : Dev) (r l : Nat) (pos case_ : Nat → Fld) (old new : Option SegEdge) (reacq rejected : Bool) : Dev :=
  let g0 : Int := d.live R.BLV_DEV_COL_BASE + d.ownStart r - 64
  let pitch : Int := max (d.live R.BLV_CD_PITCH) 1
  (d.segStripes r l).foldl (fun d n =>
    match new with
    | none => (d.setFld (pos n) 0).setFld (case_ n) 0
    | some e =>
      let d := (d.setFldI (pos n) (d.slive R.BLV_CD_ORIGIN + g0 * pitch + e.es * pitch / 16)).setFld (case_ n) e.case
      let was := match old with | some o => o.case | none => 0
      let d := d.raiseIf reacq (R.STR_SEG_EVENTS_EDGE_REACQ n)
      let d := d.raiseIf (e.case = 3 && was != 3) (R.STR_SEG_EVENTS_EDGE_OFF n)
      let d := d.raiseIf (e.case = 2 && was != 2) (R.STR_SEG_EVENTS_EDGE_LIMIT n)
      if rejected then d.bump (R.STR_SEG_CNT_REJECT_CNT n) else d) d

/-! ### The chain of a role -/

/-- The parameters live for the output frame that holds row `l` (R220). -/
def Chain.parsAt (c : Chain) (l : Nat) : List (List Nat) :=
  match c.pars.find? fun p => p.line ≤ l with | some p => p.words | none => []

/-- LAT_CHAIN for row `l`: the largest of the parameter sets that rows from `l` on use. Log 80 (DEDUCED, unsafe). -/
def Chain.latAt (c : Chain) (l : Nat) : Nat :=
  max (c.ver.lat (c.parsAt l)) (maxOf ((c.pars.filter fun p => l < p.line).map fun p => c.ver.lat p.words))

/-- How many rows back the chain's stages read. Log 80 (DEDUCED, unsafe). -/
def Chain.backMax (c : Chain) : Nat :=
  maxOf (c.pars.flatMap fun p => (c.ver.infos p.words).map (·.back))

/-- The last row of the chain once it has one (R193, R221). -/
def Chain.last (c : Chain) : Option Nat :=
  match c.later, c.stop with
  | v :: _, some s => some (min (v.line - 1) s)
  | v :: _, none => some (v.line - 1)
  | [], s => s

/-- The lane that runs a window column, as the bits of its place below the stripe: ENGINE is bit 9 of the column, ROW bits 8:7, LANE bits 6:0 (R6, R195). -/
def Dev.lanePlace (d : Dev) (stripe w : Nat) : Nat := d.place stripe (w / 512 % 2) (w / 128 % 4) (w % 128)

/-- What the chain's planes are read from now. -/
def Dev.segCtx (d : Dev) (r : Nat) (c : Chain) : SegCtx :=
  let newest := match c.rows with | x :: _ => x.line | [] => 0
  { v := c.ver, pars := c.parsAt, rows := c.rows, lo := c.l0.getD 0, hi := newest, cols := winCols d.live r, track := c.track }

/-- Run the tracker over one row (R211 to R215). -/
def Dev.trackRow (d : Dev) (r k : Nat) : Dev :=
  let c := d.chain r
  let st := c.ver.stage k
  let x := d.segCtx r c
  let ps := c.parsAt c.trackNext
  let neg := bitOf st.mode 2
  let sgn := fun (y : Int) => if neg then -y else y
  let a := fun (w : Nat) => sgn (x.plane 17 st.srcA w c.trackNext)
  let t := sgn (parI ps k 0)
  let lo := 64 - d.ownStart r
  let hi := min (d.ownEnd r + 128 - d.ownStart r) (d.stitchCols + 63 - d.ownStart r)
  let p1 := parU ps k 1
  let fol := fun e raw => followEdge (bits p1 8 4) (parU ps k 2) (parU ps k 3 % 65536) e raw
  let onL := st.mode % 2 = 1
  let onR := st.mode / 2 % 2 = 1
  let fl := if onL then some (fol c.left (rawLeft a t lo hi (bits p1 0 5))) else none
  let fr := if onR then some (fol c.right (rawRight a t lo hi (bits p1 0 5))) else none
  let nl := fl.map (·.1)
  let nr := fr.map (·.1)
  let es := fun (e : Option SegEdge) => match e with | some e => e.es | none => 0
  let d := d.setChain r { c with left := nl, right := nr, trackNext := c.trackNext + 1, track := ((c.trackNext, es nl, es nr) :: c.track) }
  let d := d.edgeReport r c.trackNext R.STR_EDGE_LO_POS R.STR_SEG_STATUS_TRACK_LO c.left nl (match fl with | some y => y.2.1 | none => false) (match fl with | some y => y.2.2 | none => false)
  d.edgeReport r c.trackNext R.STR_EDGE_HI_POS R.STR_SEG_STATUS_TRACK_HI c.right nr (match fr with | some y => y.2.1 | none => false) (match fr with | some y => y.2.2 | none => false)

/-- Run the tracker of an enabled chain over every row whose input is complete (R213, R217); the number bounds the rows. -/
def Dev.trackRows (d : Dev) (r : Nat) : Nat → Dev
  | 0 => d
  | n + 1 =>
    let c := d.chain r
    match (if c.ver.enable then c.ver.webEdge else none), c.rows with
    | some k, w :: _ =>
      let need := c.trackNext + (match (c.ver.infos (c.parsAt c.trackNext))[k]? with | some i => i.lat | none => 0)
      if need ≤ w.line ∨ (c.last = some w.line ∧ c.trackNext ≤ w.line) then (d.trackRow r k).trackRows r n else d
    | _, _ => d

/-- Run the tracker as far as the rows read allow. -/
def Dev.trackAll (d : Dev) (r : Nat) : Dev :=
  let c := d.chain r
  d.trackRows r (match c.rows with | w :: _ => w.line + 1 - c.trackNext | [] => 0)

/-- The chain reads the next waiting window of its role, up to row `upTo`. -/
def Dev.segRead (d : Dev) (r upTo : Nat) : Option Dev :=
  match tget [] d.windows r with
  | [] => none
  | w :: ws =>
    let c := d.chain r
    let d := { d with windows := tset [] d.windows r ws }
    if w.line < c.l0.getD w.line then some d
    else if upTo < w.line ∧ c.l0.isSome then none
    else
      let c := if c.l0.isSome then c else { c with l0 := some w.line, next := w.line, trackNext := w.line }
      some ((d.setChain r { c with rows := w :: c.rows }).trackAll r)

/-- Read windows until row `upTo` has been read; the number bounds them. -/
def Dev.segReadTo (d : Dev) (r upTo : Nat) : Nat → Dev
  | 0 => d
  | n + 1 =>
    match (d.chain r).rows with
    | w :: _ => if upTo ≤ w.line then d else match d.segRead r upTo with | some d => d.segReadTo r upTo n | none => d
    | [] => match d.segRead r upTo with | some d => d.segReadTo r upTo n | none => d

/-- The planes of row `l` for the owned columns (R216 to R218). -/
def Dev.handRow (d : Dev) (r l : Nat) : Option HandRow :=
  let c := d.chain r
  let x := d.segCtx r c
  let own := (List.range (d.ownEnd r + 1 - d.ownStart r)).map (64 + ·)
  match c.rows.find? fun w => w.line = l with
  | none => none
  | some w =>
    let v := c.ver
    let mask := if v.enable then own.map fun (q : Nat) => decide (x.plane 17 (16 + v.final) q l ≠ 0) && x.cover q l else own.map fun _ => false
    let feat := own.map fun (q : Nat) => x.plane 17 (if v.enable && v.featValid then v.featSrc else v.refLayer) q l
    let tags := v.tags.map fun t => match t with
      | some s => if v.enable then own.map fun (q : Nat) => decide (x.plane 17 (16 + s) q l ≠ 0) else []
      | none => []
    some { line := l, epoch := w.epoch, flags := w.flags, edgeLo := w.edgeLo, edgeHi := w.edgeHi, restart := c.restart, mask := mask, feat := feat, tags := tags }

/-- Begin the next chain when its boundary row is the next to hand on (R221). -/
def Chain.switch (c : Chain) : Chain :=
  match c.later with
  | v :: rest =>
    if c.next < v.line then c else
    let keep := match c.ver.webEdge, v.webEdge with
      | some i, some j => decide (i = j) && decide ((c.ver.stage i).srcA = (v.stage i).srcA) && decide ((c.ver.stage i).mode = (v.stage i).mode)
      | _, _ => false
    { c with ver := v, later := rest, l0 := some c.next, rows := [], track := [], left := if keep then c.left else none, right := if keep then c.right else none, trackNext := c.next, restart := true, event := true }
  | [] => c

/-- The chain of a role begins the next settings where it must and reads windows as far as its next row needs; answers how far that is. -/
def Dev.segFeed (d : Dev) (r : Nat) : Dev × Nat :=
  let c := (d.chain r).switch
  let d1 := d.setChain r c
  let want := c.next + c.latAt c.next
  let upTo := match c.last with | some e => min want e | none => want
  let d1 := d1.segReadTo r (if c.l0.isSome then upTo else 0) 1
  let c1 := d1.chain r
  let want := c1.next + c1.latAt c1.next
  let upTo := match c1.last with | some e => min want e | none => want
  ((d1.segReadTo r upTo 1024).trackAll r, upTo)

/-- Has the chain read as far as its next row needs, before its last row. -/
def Chain.fed (c : Chain) (upTo : Nat) : Bool :=
  (match c.last with | some e => decide (c.next ≤ e) | none => true) && (match c.rows with | w :: _ => decide (upTo ≤ w.line) | [] => false)

/-- Parameter sets that no row from `l` on uses are dropped. -/
def trimPars : List SegPar → Nat → List SegPar
  | [], _ => []
  | p :: ps, l => if p.line ≤ l then [p] else p :: trimPars ps l

/-- The chain goes on to the row after `h`, keeping what its stages and its tracker still read; the row joins what its role has handed on and shows in the registers of the stripes `ns`. -/
def Dev.segHand (d : Dev) (r : Nat) (ns : List Nat) (h : HandRow) : Dev :=
  let c := d.chain r
  let event := c.event
  let from_ := if c.ver.enable ∧ c.ver.webEdge.isSome then min (c.next + 1) c.trackNext else c.next + 1
  let keep := fun (l : Nat) => decide (from_ ≤ l + c.backMax)
  let c := { c with next := c.next + 1, restart := false, event := false, rows := c.rows.filter fun w => keep w.line, track := c.track.filter fun t => keep t.1, pars := trimPars c.pars (from_ - 1 - c.backMax) }
  let d := ns.foldl (fun d n => (d.setFld (R.STR_SEG_LAST_ROW n) h.line).raiseIf event (R.STR_SEG_EVENTS_RESTART n)) (d.setChain r c)
  let d := d.prfMask r h.line h.mask
  { d with handed := tupd [] d.handed r fun hs => hs ++ [h] }

/-- SEG_ROW: the chain reads on, and hands on its next row once it has read as far as it must (R218). Answers the row. -/
def Dev.segRow (d : Dev) (r : Nat) : Dev × Option HandRow :=
  let (d1, upTo) := d.segFeed r
  let c := d1.chain r
  if !c.fed upTo then (d1, none) else
  match d1.handRow r c.next with
  | none => (d1, none)
  | some h => (d1.segHand r (d.segStripes r c.next) h, some h)


/-- BACKLOG (R222): rows from the next one the chain has not begun to read up to ATT_HEAD. Log 85 (DEDUCED, unsafe). -/
def Dev.segBacklog (d : Dev) (r : Nat) : Nat :=
  let c := d.chain r
  let n := match c.rows with | w :: _ => w.line + 1 | [] => if c.l0.isSome then c.next else tget 0 d.blv.nextWin r
  if d.blv.ready ∧ c.pars ≠ [] then d.blv.head - n else 0

/-- RUNNING: an enabled chain of the role has not handed on its last row. Log 85 (DEDUCED, unsafe). -/
def Dev.segRuns (d : Dev) (r : Nat) : Bool :=
  let c := d.chain r
  c.ver.enable && decide (c.pars ≠ []) && (match c.stop with | some e => c.l0.isSome && decide (c.next ≤ e) | none => true)

/-- SEG_SKIP: the chain has fallen too far behind; rows are skipped and it restarts (R222). Their windows are not wanted any more. Answers the first and
last skipped row. Log 256 (DEDUCED, unsafe). -/
def Dev.segSkip (d : Dev) (r : Nat) : Dev × Option (Nat × Nat) :=
  let c := d.chain r
  if d.segBacklog r ≤ c.ver.lagMax then (d, none) else
  let k := d.blv.head - c.ver.resume
  let first := if c.l0.isSome then c.next else tget 0 d.blv.nextWin r
  if k < first then (d, none) else
  let c := { c with next := k + 1 }
  let c := { c.switch with l0 := some (k + 1), rows := [], track := [], trackNext := k + 1, restart := true }
  let d := d.setChain r c
  let d := { d with windows := tupd [] d.windows r fun ws => ws.filter fun w => k < w.line, blv := { d.blv with nextWin := tset 0 d.blv.nextWin r (max (tget 0 d.blv.nextWin r) (k + 1)) } }
  let d := (d.segStripes r first).foldl (fun d n => (d.bump (R.STR_SEG_CNT_SKIP_ROWS n) (k + 1 - first)).raise (R.STR_SEG_EVENTS_SKIP n)) d
  (d.setFld R.BLV_REC_LAST_ERR 0x9008, some (first, k))

/-- The chains start with a run: no state, structure and parameters as live (R193). -/
def Dev.segStart (d : Dev) : Dev :=
  let d := { d with chains := [], handed := [] }
  (List.range 16).foldl (fun d r =>
    if !(d.lflag (R.STR_COR_CTRL_ENABLE r)) then d else
    d.setChain r { ver := segVerOf d.live r 0, pars := [{ line := 0, words := segParsOf d.live r }] }) d

/-- The structure of two settings differs (R220). -/
def segChanged (a b : SegVer) : Bool := decide ({ a with line := 0 } ≠ { b with line := 0 })

/-- A commit changes the settings of the rows from boundary `b` on (R220, R221). -/
def Dev.segCommit (d : Dev) (b : Nat) (recipe : Bool) : Dev :=
  (List.range 16).foldl (fun d r =>
    if !(d.lflag (R.STR_COR_CTRL_ENABLE r)) then d else
    let c := d.chain r
    let v := segVerOf d.live r b
    let ps := segParsOf d.live r
    if c.pars = [] then d.setChain r { ver := v, pars := [{ line := 0, words := ps }] }
    else
      let old := match c.later.getLast? with | some x => x | none => c.ver
      let c := if recipe || segChanged old v then { c with later := c.later ++ [v] } else c
      let c := if c.parsAt b = ps then c else { c with pars := { line := b, words := ps } :: c.pars.filter fun p => p.line ≠ b }
      d.setChain r c) d

/-- The chains stop: the last merged row is their last (R193). -/
def Dev.segStop (d : Dev) : Dev :=
  d.chains.foldl (fun d x => d.setChain x.1 { x.2 with stop := some (d.blv.nextRow - 1) }) d

/-- A stripe takes over a role without a mirror period from row `b` on: the chain begins there (R224). Log 194 (DEDUCED, unsafe). -/
def Dev.segTakeOver (d : Dev) (r b : Nat) : Dev :=
  let c := d.chain r
  let d := d.setChain r { c with l0 := if c.l0.isSome then some b else none, next := b, rows := [], track := [], left := none, right := none, trackNext := b, restart := true, event := true }
  { d with windows := tset [] d.windows r [], handed := tset [] d.handed r [] }

/-! ### Checks at sealing (R225) -/

/-- Is a selector one that stage `s` of `n` running stages may read. -/
def selOk (g : Fld → Nat) (n s x : Nat) : Bool :=
  if x < 4 then decide (g (R.BLV_LAYER_CFG_ENABLE x) = 1)
  else if x < 8 then decide (g (R.BLV_LAYER_CFG_ENABLE (x - 4)) = 1) && bitOf (g R.BLV_PRF_CTRL_PRF_EN) (x - 4)
  else if x < 16 then false
  else decide (x - 16 < s) && decide (x - 16 < n)

/-- A stage's parameters keep to R209 and R210. -/
def stageParOk (g : Fld → Nat) (s : SegStage) (ps : List (List Nat)) (k : Nat) : Bool :=
  let p := fun i => parI ps k i
  let geom := fun n => decide (s.rc ≤ n) && decide (s.rm ≤ n)
  let streak := decide (0 ≤ p 0) && decide (p 0 ≤ 31) && decide (1 ≤ p 1) && decide (p 1 ≤ 16) && decide (p 0 + p 1 ≤ 32)
  match s.kind with
  | 1 | 4 => let l := s.mode / 4 % 4; decide (g (R.BLV_LAYER_CFG_ENABLE l) = 1) && bitOf (g R.BLV_PRF_CTRL_PRF_EN) l
  | 6 | 7 | 8 | 9 | 10 | 11 | 19 => geom 16
  | 13 => geom 16 && decide (1 ≤ p 0) && decide (p 0 ≤ rectN s.rc s.rm)
  | 14 => geom 32
  | 16 => decide (s.rm ≤ 32) && streak
  | 17 => decide (s.rc ≤ 32) && streak
  | 23 => decide (1 ≤ p 1) && decide (p 1 ≤ 64) && decide (1 ≤ p 0) && decide (p 0 ≤ p 1)
  | 12 => decide (parU ps k 0 < 16)
  | 20 => decide (s.mode ≤ 2) && decide (0 ≤ p 0) && decide (p 0 ≤ 65535) && decide (0 ≤ p 1) && decide (p 1 ≤ 65535)
  | 21 =>
    let p1 := parU ps k 1
    decide (1 ≤ bits p1 0 5) && decide (bits p1 0 5 ≤ 16) && decide (bits p1 8 4 ≤ 8) && decide (parU ps k 2 ≤ 65535) && decide (1 ≤ parU ps k 3 % 65536)
  | _ => true

/-- The first failed check of a role's segmentation and its stage (R225); `fast` is a −A12 part. Log 81 (DEDUCED, unsafe), 180 (DESIGN CHOICE, unsafe). -/
def segDiag (g : Fld → Nat) (fast : Bool) (r : Nat) : Option (Nat × Nat) :=
  let v := segVerOf g r 0
  let ps := segParsOf g r
  let n := v.running
  let ks := List.range n
  let info := v.infos ps
  let bad := fun (check : Nat) (p : Nat → Bool) => (ks.find? p).map fun k => (check, k)
  let isM := fun k => decide (k < n) && match info[k]? with | some i => !i.isV | none => false
  let typeBad := fun k =>
    let s := v.stage k
    let a := (selInfo info s.srcA).isV
    (s.kind != 0 && a != kindAV s.kind) ||
    (match stageB s with | some b => (selInfo info s.srcB).isV != b | none => false) ||
    (s.kind == 20 && !(decide (16 ≤ s.srcB) && decide ((v.stage (s.srcB - 16)).kind = 21)))
  let featBad := v.featValid && decide (16 ≤ v.featSrc) && isM (v.featSrc - 16)
  let handBad := if !(isM v.final) then some v.final else if featBad then some (v.featSrc - 16) else v.tags.findSome? fun t => match t with | some k => if isM k then none else some k | none => none
  let cols := winCols g r
  let rate := g (R.STR_OUT_RATE_MAX r)
  let layers := ((List.range 4).filter fun k => g (R.BLV_LAYER_CFG_ENABLE k) = 1).length
  let lagMax := g (R.STR_SEG_LAG_SEG_LAG_MAX r)
  let firstOf := fun (xs : List (Option (Nat × Nat))) => xs.findSome? id
  if 16 < v.len ∨ (v.enable ∧ v.len = 0) then some (1, 0)
  else if !v.enable ∧ v.len = 0 then none
  else firstOf [
    bad 2 fun k => decide (24 ≤ (v.stage k).kind),
    bad 3 fun k => (inputsOf (v.stage k)).any fun x => !(selOk g n k x),
    if v.featValid ∧ !(selOk g n n v.featSrc) then some (3, if v.featSrc < 16 then 0 else v.featSrc - 16) else none,
    bad 4 typeBad,
    bad 5 fun k => !(stageParOk g (v.stage k) ps k),
    handBad.map fun k => (6, k),
    if 64 < v.reach ps ∨ 64 < v.lat ps then some (7, 0) else none,
    if 2097152 < segStore g r then some (8, 0) else none,
    if (if fast then 3000000000 else 2500000000) < cols * layers * rate then some (9, 0) else none,
    if (if fast then 1228800000000 else 1024000000000) < cols * rate * v.cost then some (10, 0) else none,
    if v.enable ∧ max (g R.BLV_PRF_CTRL_BG_LAG) 16 < v.lat ps + 4 then some (11, 0) else none,
    if lagMax < 16 ∨ attRows g < lagMax + 1 + g R.BLV_ATT_CFG_ATT_GUARD ∨ lagMax ≤ g (R.STR_SEG_LAG_SEG_RESUME r) then some (12, 0) else none,
    if g (R.BLV_LAYER_CFG_ENABLE v.refLayer) ≠ 1 then some (13, 0) else none,
    ((ks.filter fun k => (v.stage k).kind = 21)[1]?).map fun k => (14, k)]

end Sys2Proof.Machine
end

