-- ==== Sys2Proof/Machine/Records.lean ====
section
/-!
DEFINITION. Daled records (R245 to R256): their bytes, the record FIFO, LOST records and heartbeats.
-/
namespace Sys2Proof.Machine

/-- The number of a mode (R465). -/
def Mode.code : Mode → Nat
  | .reset => 0 | .foyer => 1 | .recovery => 2 | .standby => 3 | .discover => 4 | .armed => 5 | .inspect => 6 | .degraded => 7
  | .calibrate => 8 | .replay => 9 | .service => 10 | .fault => 11

/-- INSPECT, DEGRADED and REPLAY, in which the labeller runs and among which a move closes nothing (R227, R258, R280). -/
def Mode.looks : Mode → Bool
  | .inspect | .degraded | .replay => true
  | _ => false

/-- TYPE codes (R245). -/
def tyFound : Nat := 1
def tyContinuing : Nat := 2
def tyClosed : Nat := 3
def tyClassified : Nat := 4
def tyMarked : Nat := 5
def tyLost : Nat := 6
def tyHeartbeat : Nat := 7

/-- FLAGS bits (R247). -/
def fDegraded : Nat := 2
def fSkipped : Nat := 0x80
def fRestart : Nat := 0x100
def fFirst : Nat := 0x200
def fFinal : Nat := 0x400
def fMulti : Nat := 0x800
def fSeam : Nat := 0x1000
def fSeamPartial : Nat := 0x2000
def fMergeFull : Nat := 0x4000
def fAreaSat : Nat := 0x8000

/-- The fingerprint that belongs to an epoch (R245). -/
def Dev.printOf (d : Dev) (e : Nat) : Nat := tget 0 d.prints e

/-- Bits 0 and 1 of FLAGS as live at creation (R247). -/
def Dev.liveFlags (d : Dev) : Nat := b2n d.warmup + (if d.mode = .degraded then fDegraded else 0)

/-- What a record says beside RSEQ and TIME. -/
structure RecBody where
  ty : Nat
  flags : Nat
  ident : Nat
  place : Nat
  epoch : Nat
  body : List Byte
  piece : Nat
  reason : Nat
  deriving DecidableEq, Repr

/-- The 128 bytes of a record (R245). -/
def Dev.recBytes (d : Dev) (b : RecBody) (rseq : Nat) : List Byte :=
  let h := leBytes 1 b.ty ++ [1] ++ leBytes 2 b.flags ++ leBytes 4 rseq ++ leBytes 8 b.ident ++ leBytes 4 b.place ++ leBytes 4 b.epoch ++ leBytes 8 (d.printOf b.epoch) ++ fit 80 b.body ++ leBytes 8 d.time ++ leBytes 3 (min b.piece 16777215) ++ leBytes 1 b.reason
  h ++ leBytes 4 (crc32 h)

/-- 2,048 entries (R255). -/
def fifoSize : Nat := 2048

/-- LEVEL and PEAK follow the FIFO. -/
def Dev.fifoLevel (d : Dev) : Dev :=
  let n := d.recs.fifo.length
  let d := d.setFld R.BLV_REC_FIFO_LEVEL n
  if d.fld R.BLV_REC_FIFO_PEAK < n then d.setFld R.BLV_REC_FIFO_PEAK n else d

/-- RSEQ of the next record (R254). Log 95 (DEDUCED, unsafe). -/
def Dev.nextRseq (d : Dev) : Nat := (d.recs.rseq + 1) % 2 ^ 32

/-- A record takes its RSEQ, which REC_RSEQ then shows. -/
def Dev.takeRseq (d : Dev) (n : Nat) : Dev := ({ d with recs := { d.recs with rseq := n } }).setFld R.BLV_REC_RSEQ n

/-- Put a record in the FIFO. REC_FOUND fires for a FOUND record and for a CLOSED record with FIRST set. -/
def Dev.fifoPut (d : Dev) (r : Rec) : Dev :=
  let d := ({ d with recs := { d.recs with fifo := d.recs.fifo ++ [r] } }).fifoLevel
  if r.ty = tyFound ∨ (r.ty = tyClosed ∧ bitOf (leAt r.bytes 2 2) 9) then d.fire P.recFound else d

/-- A record is dropped: it joins the pending LOST record (R255, R256). -/
def Dev.recDrop (d : Dev) (reason : Nat) (r : Rec) : Dev :=
  let role := match r.role with | some x => 2 ^ x | none => 0
  let l := match d.recs.lost with
    | none => ({ reason := reason, count := 1, rseq := r.rseq, first := r.line, last := r.line.getD 0, types := 2 ^ (r.ty - 1), roles := role } : LostRec)
    | some l => { l with count := l.count + 1, first := match l.first, r.line with | some a, some b => some (min a b) | none, b => b | a, none => a, last := max l.last (r.line.getD 0), types := l.types ||| 2 ^ (r.ty - 1), roles := l.roles ||| role }
  let d := { d with recs := { d.recs with lost := some l } }
  ((d.bump R.BLV_REC_LOST_TOTAL).setFld R.BLV_REC_LAST_ERR 0x9003).raise R.BLV_REC_EVENTS_RECORD_DROP

/-- The body of a LOST record (R250). -/
def lostBody (count rseq first last reason types roles openLost idLo idHi : Nat) : List Byte :=
  leBytes 4 count ++ leBytes 4 rseq ++ leBytes 8 first ++ leBytes 8 last ++ leBytes 1 reason ++ leBytes 1 types ++ leBytes 2 roles ++ leBytes 4 openLost ++ leBytes 8 idLo ++ leBytes 8 idHi

/-- A record with the next RSEQ. -/
def Dev.mkRec (d : Dev) (b : RecBody) (role line : Option Nat) : Rec :=
  { ty := b.ty, role := role, line := line, rseq := d.nextRseq, bytes := d.recBytes b d.nextRseq }

/-- LOST and HEARTBEAT records name the device place and the live epoch (R245). -/
def Dev.devBody (d : Dev) (ty : Nat) (body : List Byte) : RecBody :=
  { ty := ty, flags := d.liveFlags, ident := 0, place := d.devicePlace, epoch := d.fld R.GLB_EPOCH, body := body, piece := 0, reason := 0 }

/-- The pending LOST record enters the FIFO as soon as there is room (R256). -/
def Dev.lostFlush (d : Dev) : Dev :=
  match d.recs.lost with
  | none => d
  | some l =>
    if fifoSize ≤ d.recs.fifo.length then d else
    let r := d.mkRec (d.devBody tyLost (lostBody l.count l.rseq (l.first.getD 0) (if l.first.isSome then l.last else 0) l.reason l.types l.roles 0 0 0)) none none
    let d := { d with recs := { d.recs with lost := none } }
    (d.takeRseq r.rseq).fifoPut r

/-- A record is created: it takes the next RSEQ, and enters the FIFO or is dropped (R254 to R256); in CALIBRATE records of types 1 to 5 are not
created (R465). -/
def Dev.create (d : Dev) (b : RecBody) (role line : Option Nat) : Dev :=
  let d := d.lostFlush
  if d.mode = .calibrate ∧ b.ty ≤ 5 then d else
  let r := d.mkRec b role line
  let d := d.takeRseq r.rseq
  if fifoSize ≤ d.recs.fifo.length then d.recDrop 0 r else d.fifoPut r

/-- A LOST record of reason 2 to 4 is created at once (R256). -/
def Dev.createLost (d : Dev) (reason first last roles openLost idLo idHi : Nat) : Dev :=
  d.create (d.devBody tyLost (lostBody 0 0 first last reason 0 roles openLost idLo idHi)) none none

/-- The oldest record leaves the FIFO. -/
def Dev.fifoTake (d : Dev) : Option (Rec × Dev) :=
  match d.recs.fifo with
  | [] => none
  | r :: rest => some (r, (({ d with recs := { d.recs with fifo := rest } }).fifoLevel).lostFlush)

/-! ### Boxes of the Gallery (R340 to R342) -/

/-- The palette entry of an identity: its class once it has a CLASSIFIED record, else 62. -/
def Dev.galEntry (d : Dev) (ident : Nat) : Nat := match d.gal.classes.find? fun x => x.1 = ident with | some x => x.2 | none => 62

/-- A blob record draws a box; in a full store it takes the place of the one whose last line is oldest. Log 125 (DEDUCED, unsafe). -/
def Dev.galBox (d : Dev) (ident lo hi first last : Nat) : Dev :=
  if !(d.flag R.GAL_CTRL_ENABLE) then d else
  let b : GalBox := { run := d.gal.run, ident := ident, lo := lo, hi := hi, first := first, last := last, entry := d.galEntry ident }
  match d.gal.boxes with
  | o :: rest =>
    if d.gal.boxes.length < 4096 then { d with gal := { d.gal with boxes := d.gal.boxes ++ [b] } } else
    let old := rest.foldl (fun (m x : GalBox) => if x.run < m.run ∨ (x.run = m.run ∧ x.last < m.last) then x else m) o
    ({ d with gal := { d.gal with boxes := d.gal.boxes.erase old ++ [b] } }).raise R.GAL_EVENTS_OVL_FULL
  | [] => { d with gal := { d.gal with boxes := [b] } }

/-- A CLASSIFIED record recolours every box of its identity (R341). -/
def Dev.galClass (d : Dev) (ident cls : Nat) : Dev :=
  let p := if cls = 0xFFFF then 63 else min cls 61
  { d with gal := { d.gal with classes := (ident, p) :: d.gal.classes, boxes := d.gal.boxes.map fun b => if b.ident = ident then { b with entry := p } else b } }

/-! ### Heartbeats (R251, R252) -/

/-- FILLING: some column's latest output was suppressed. -/
def Dev.prfFilling (d : Dev) : Bool := d.prf.layers.any fun x => x.2.filling.any id

/-- A HEARTBEAT record is created. -/
def Dev.heartbeat (d : Dev) : Dev :=
  let state := b2n d.prf.settled + 2 * b2n d.prfFilling + 4 * b2n (d.flag R.POS_STATUS_HOLDOVER) + 8 * b2n (d.flag R.POS_STATUS_REVERSE) + 16 * b2n (d.flag R.POS_STATUS_STOPPED)
  let same := (List.range 8).foldl (fun m i => m + 2 ^ i * b2n (i = d.fld R.KSL_CASCADE_DEVICE || (d.flag (R.KSL_DEV_STATE_VALID i) && d.flag (R.KSL_DEV_STATE_SAME i)))) 0
  let body := leBytes 8 d.pos.linesPassed ++ leInt 8 d.pos.md ++ leBytes 8 (if d.attReady then d.blv.head else 0) ++ leBytes 4 (speedShown d.pos.speed) ++ leBytes 1 d.mode.code ++ leBytes 1 state ++ leBytes 1 same ++ [0] ++ leBytes 4 (d.fld R.BLV_REC_STATUS_OPEN_DEFECTS) ++ leBytes 4 (d.fld R.BLV_REC_LOST_TOTAL) ++ leBytes 4 d.recs.fifo.length
  let d := d.create (d.devBody tyHeartbeat body) none none
  { d with recs := { d.recs with hbAt := d.time } }

/-- HB_IDLE_MS have passed without a HEARTBEAT. -/
def Dev.hbIdle (d : Dev) : Dev :=
  let runs := d.mode.framed || decide (d.mode = .armed)
  if !runs then d else
  (d.advance (d.recs.hbAt + usCycles (1000 * max (d.live R.BLV_REC_HB_HB_IDLE_MS) 1))).heartbeat

end Sys2Proof.Machine
end

