-- ==== Sys2Proof/Machine/Blobs.lean ====
section
/-!
DEFINITION. Fragments, defects and their records (chapter 07): labelling a row, joins across role borders and seams, identities
and record points, features and yields. A row passes through three steps: it is labelled once every role has handed it on; it is
joined across the seams once the partners' border data are there or have been waited for; then, once the yields it waits for are
there, its records are created.
-/
namespace Sys2Proof.Machine

def Dev.setBlob (d : Dev) (f : BlobState → BlobState) : Dev := { d with blob := f d.blob }

/-! ### Settings (R260) -/

def Dev.recSnap (d : Dev) (line : Nat) : RecVer :=
  let c := d.live R.BLV_REC_CONTINUE_MD
  { line := line, enable := d.lflag R.BLV_REC_CTRL_ENABLE, conn4 := d.lflag R.BLV_REC_CTRL_CONN, foundDelay := d.live R.BLV_REC_CTRL_FOUND_DELAY, minArea := max (d.live R.BLV_REC_CTRL_MIN_AREA) 1, continueMd := if c = 0 then 0 else min (max c 16) 1073741824, seamWait := max (d.live R.BLV_REC_SEAM) 1 }

def Dev.recVer (d : Dev) (l : Nat) : RecVer :=
  match d.blob.vers.find? fun v => v.line ≤ l with | some v => v | none => d.recSnap 0

/-- A commit's settings come first; those of rows that are resolved already go. -/
def Dev.recCommit (d : Dev) (b : Nat) : Dev :=
  d.setBlob fun x =>
    let vs := d.recSnap b :: x.vers.filter fun v => v.line ≠ b
    let later := fun (v : RecVer) => decide (x.nextRow < v.line)
    { x with vers := vs.takeWhile later ++ (vs.dropWhile later).take 1 }

/-- Global column of a local one (R131). -/
def Dev.gcol (d : Dev) (c : Nat) : Nat := d.live R.BLV_DEV_COL_BASE + c

/-- CD_PITCH; 0 acts as 1. -/
def Dev.cdPitch (d : Dev) : Nat := max (d.live R.BLV_CD_PITCH) 1

/-- CD position of a global column (R132). -/
def Dev.cdOf (d : Dev) (g : Nat) : Int := d.slive R.BLV_CD_ORIGIN + g * d.cdPitch

/-! ### Sums over pixels (R243) -/

def SpanAcc.add (a b : SpanAcc) : SpanAcc :=
  if b.area = 0 then a else if a.area = 0 then b else
  { area := a.area + b.area, sumF := a.sumF + b.sumF, minF := min a.minF b.minF, maxF := max a.maxF b.maxF, tags := (List.range 4).map fun k => a.tags.getD k 0 + b.tags.getD k 0, colMin := min a.colMin b.colMin, colMax := max a.colMax b.colMax, sumCol := a.sumCol + b.sumCol, sumMd := a.sumMd + b.sumMd }

/-- The sums of the pixels of some runs of a row; runs are in local columns, planes begin at column `own`. -/
def Dev.rowAcc (d : Dev) (h : HandRow) (own : Nat) (runs : List (Nat × Nat)) : SpanAcc :=
  let md := d.linePos h.line
  let px := runs.flatMap fun x => (List.range (x.2 + 1 - x.1)).map (x.1 + ·)
  px.foldl (fun a c =>
    let f := h.feat.getD (c - own) 0
    a.add { area := 1, sumF := f, minF := f, maxF := f, tags := (List.range 4).map fun k => b2n ((h.tags.getD k []).getD (c - own) false), colMin := d.gcol c, colMax := d.gcol c, sumCol := d.gcol c, sumMd := md }) {}

/-- FLAGS bits that a handed-on row brings to the records of its pixels (R247). -/
def Dev.rowRecFlags (d : Dev) (h : HandRow) (own last : Nat) (runs : List (Nat × Nat)) : Nat :=
  let f := h.flags
  b2n f.warmup + (if d.mode = .degraded then 2 else 0) + 4 * b2n (f.held || f.gap || f.noSource) + 8 * b2n (f.coverGap || f.roleLate) + 16 * b2n f.epochMix + 32 * b2n f.apronMissing + 64 * b2n ((h.edgeLo && runs.any fun x => x.1 = own) || (h.edgeHi && runs.any fun x => x.2 = last)) + (if h.restart then fRestart else 0)

/-! ### Labelling one role (R227, R229) -/

/-- The runs of a mask whose first column is `c`; `cur` is the run that is open. -/
def maskRuns (cur : Option Nat) (c : Nat) : List Bool → List (Nat × Nat)
  | [] => match cur with | some a => [(a, c - 1)] | none => []
  | true :: ms => maskRuns (some (cur.getD c)) (c + 1) ms
  | false :: ms => match cur with | some a => (a, c - 1) :: maskRuns none (c + 1) ms | none => maskRuns none (c + 1) ms

/-- Do a run of a row and a run of the row before touch (R227). -/
def runsTouch (conn4 : Bool) (a b : Nat × Nat) : Bool :=
  if conn4 then decide (a.1 ≤ b.2) && decide (b.1 ≤ a.2) else decide (a.1 ≤ b.2 + 1) && decide (b.1 ≤ a.2 + 1)

/-- A fragment in the making: its runs of this row and the fragments of the row before that it continues. -/
structure Grp where
  runs : List (Nat × Nat)
  prevs : List Frag
  deriving DecidableEq, Repr

/-- Label the runs of one role. `room` is the number of free label entries. Answers the fragments and the pixels left unlabelled. -/
def labelRole (conn4 : Bool) (prev : List Frag) : List (Nat × Nat) → List Grp → Nat → Nat → List Grp × Nat
  | [], gs, _, lost => (gs, lost)
  | r :: rs, gs, room, lost =>
    let ts := prev.filter fun f => f.runs.any fun q => runsTouch conn4 r q
    if ts = [] then
      if room = 0 then labelRole conn4 prev rs gs 0 (lost + (r.2 + 1 - r.1))
      else labelRole conn4 prev rs (gs ++ [⟨[r], []⟩]) (room - 1) lost
    else
      let hit := fun (g : Grp) => g.prevs.any fun p => ts.any fun t => t.id = p.id
      let hits := gs.filter hit
      let old := hits.flatMap (·.prevs)
      let new := ts.filter fun t => !(old.any fun p => p.id = t.id)
      let g : Grp := ⟨hits.flatMap (·.runs) ++ [r], old ++ new⟩
      labelRole conn4 prev rs (gs.filter (fun g => !(hit g)) ++ [g]) (room + hits.length + new.length - 1) lost

/-! ### Joining defects (R231, R242) -/

/-- Follow at most so many joins from a key. -/
def repIn (abs : List (Nat × Nat)) : Nat → Nat → Nat
  | 0, k => k
  | n + 1, k => match abs.find? fun a => a.1 = k with | some a => repIn abs n a.2 | none => k

/-- The defect that a key stands for after joins: no join repeats on the way, so their number bounds it. -/
def repOf (abs : List (Nat × Nat)) (k : Nat) : Nat := repIn abs abs.length k

/-- Which of two defects has the earlier first pixel (R235). -/
def Defect.before (a b : Defect) : Bool := decide (a.line < b.line) || (decide (a.line = b.line) && decide (a.col < b.col))

/-- Join two defects: the one with the later first pixel is absorbed. -/
def joinKeys (ds : List Defect) (abs : List (Nat × Nat)) (k1 k2 : Nat) : List (Nat × Nat) :=
  let a := repOf abs k1
  let b := repOf abs k2
  if a = b then abs else
  match ds.find? fun x => x.key = a, ds.find? fun x => x.key = b with
  | some x, some y => if x.before y then abs ++ [(b, a)] else abs ++ [(a, b)]
  | _, _ => abs

/-- Do the pixels of two fragments of border neighbours meet, `f` on the lower side ending at column `e`, `g` from column `e` + 1. -/
def meets (e : Nat) (f g : Frag) : Bool := f.runs.any (fun x => x.2 = e) && g.runs.any fun x => x.1 = e + 1

/-! ### Labelling a row -/

/-- What a role hands on for row `l`: its row, or none where it skipped it; outer none while it has not come. -/
def Dev.handedOn (d : Dev) (r l : Nat) : Option (Option HandRow) :=
  if d.blob.skips.any fun s => decide (s.1 = r) && decide (s.2.1 ≤ l) && decide (l ≤ s.2.2) then some none
  else match tget [] d.handed r with
    | h :: _ => if h.line = l then some (some h) else none
    | [] => none

/-- The roles waited for in a row. -/
def Dev.rowRoles (d : Dev) (l : Nat) : List Nat := (List.range 16).filter fun r => d.waitedAt l r

/-- A new defect of this device. -/
def newDefect (key line col role : Nat) (sticky : Nat) : Defect :=
  { key := key, line := line, col := col, role := role, own := true, side := 0, ident := 0, total := 0, acc := {}, flags := 0, sticky := sticky, pieces := 0, spanLast := 0, roles := [], boxLo := 0, boxHi := 0, holders := [], lastRow := line }

/-- Is a defect one that this device does not own and whose side has no Active partner any more (R237). Log 92 (DEDUCED, unsafe). -/
def Dev.orphaned (d : Dev) (x : Defect) : Bool := !x.own && !(d.sideActive x.side)

/-- The side on which a device of the cascade lies. -/
def Dev.sideOf (d : Dev) (dev : Nat) : Nat := if dev < d.ownPos then 0 else 1

/-- Cut off what ends before row `l` is labelled: defects with a fragment in a role that skips from `l` on (R257), defects whose owner is on
a side that is no longer Active (R237), and the fragments of a role whose stripe was lost (R259). Log 92 (DEDUCED, unsafe). -/
def Dev.cutRow (d : Dev) (l : Nat) : Dev × List (Defect × Nat) × List (List Nat) × List Nat :=
  let skips := d.blob.skips.filter fun s => s.2.1 = l
  let lost := (d.blob.lostRoles.filter fun x => decide (x.2 ≤ l)).map (·.1)
  let has := fun (k r : Nat) => d.blob.frags.any fun f => decide (f.key = k) && decide (f.role = r)
  let d := d.setBlob fun b => { b with defects := b.defects.map fun x => { x with holders := x.holders.filter fun h => d.sideActive (d.sideOf h) } }
  let skipped := d.blob.defects.filter fun x => skips.any fun s => has x.key s.1
  let gone := d.blob.defects.filter fun x => x.own && lost.contains x.role
  let orphans := d.blob.defects.filter fun x => d.orphaned x
  let out := fun (k : Nat) => (skipped ++ gone ++ orphans).any fun x => x.key = k
  let frags := (d.blob.frags.filter fun f => !(lost.contains f.role) && !(skips.any fun s => s.1 = f.role)).map fun f => if out f.key then { f with key := 0 } else f
  let skipRecs := skips.map fun s => [3, s.2.1, s.2.2, 2 ^ s.1, 0, 0, 0]
  let lostRecs := lost.map fun r =>
    let ids := (gone.filter fun x => decide (x.role = r) && decide (x.ident ≠ 0)).map (·.ident)
    [4, l, l, 2 ^ r, ids.length, ids.foldl min (ids.headD 0), ids.foldl max 0]
  let d := (skips.map (·.1)).foldl (fun d r => ((d.raise (R.STR_LBL_EVENTS_SKIP_CUT (d.stripeAt r l))).setFld R.BLV_REC_LAST_ERR 0x9006)) d
  let d := if lost = [] then d else (d.raise R.BLV_REC_EVENTS_OWNER_LOST).setFld R.BLV_REC_LAST_ERR 0x9007
  let d := d.setBlob fun b => { b with defects := b.defects.filter fun x => !(out x.key), frags := frags, lostRoles := b.lostRoles.filter fun x => decide (l < x.2) }
  (d, (skipped.filter (·.own)).map fun x => (x, 3), skipRecs ++ lostRecs, (skipped.filter fun x => !x.own && decide (x.ident ≠ 0)).map (·.ident))

/-- The fragments of two rows whose pixels meet across the borders of the roles of row `l` (R231). -/
def Dev.acrossBorders (d : Dev) (l : Nat) (lo hi : List Frag) : List (Frag × Frag) :=
  let roles := d.rowRoles l
  roles.flatMap fun a => (roles.filter fun b => d.ownEnd a + 1 = d.ownStart b).flatMap fun b =>
    (lo.filter fun f => decide (f.role = a) && decide (f.key ≠ 0)).flatMap fun f =>
      (hi.filter fun g => decide (g.role = b) && decide (g.key ≠ 0) && meets (d.ownEnd a) f g).map fun g => (f, g)

/-- The pairs of the row that meet across a border, the fragments of the row before included where diagonals count (R231). -/
def Dev.borderPairs (d : Dev) (w : RowWork) : List (Frag × Frag) :=
  let now := w.frags.map (·.1)
  d.acrossBorders w.line now now ++ if (d.recVer w.line).conn4 then [] else d.acrossBorders w.line w.prev now ++ d.acrossBorders w.line now w.prev

/-- The joins of a labelled row inside the device: fragments of the row before that one fragment continues, and fragments of border
neighbours that both hold a merge-table entry (R227, R231, R232). -/
def Dev.localJoins (d : Dev) (w : RowWork) : List (Nat × Nat) :=
  let abs := w.frags.foldl (fun a f => f.1.cont.foldl (fun a k => joinKeys d.blob.defects a f.1.key k) a) []
  (d.borderPairs w).foldl (fun a p => if p.1.entry && p.2.entry then joinKeys d.blob.defects a p.1.key p.2.key else a) abs

/-- Where fragments meet across a border but one of them has no entry, the records of both parts carry MERGE_FULL (R232). -/
def Dev.unmerged (d : Dev) (w : RowWork) : Dev :=
  let keys := ((d.borderPairs w).filter fun p => !(p.1.entry && p.2.entry)).flatMap fun p => [p.1.key, p.2.key]
  d.setBlob fun b => { b with defects := b.defects.map fun x => if keys.contains x.key then { x with sticky := x.sticky ||| fMergeFull } else x }

/-- Label row `l` of every role and join fragments across role borders (R227 to R232). A border column is one that a border neighbour, a
role or an Active partner, adjoins. Log 86 (DEDUCED, unsafe), 261 (DEDUCED, unsafe). -/
def Dev.labelRow (d : Dev) (l : Nat) : Dev :=
  let v := d.recVer l
  let roles := d.rowRoles l
  let (d, cut, lost, released) := d.cutRow l
  let rows := roles.map fun r => (r, (d.handedOn r l).getD none)
  let prev := d.blob.frags
  let used0 := (prev.filter (·.entry)).length
  let step := fun (s : Dev × List (Frag × SpanAcc × Nat) × Nat) (rh : Nat × Option HandRow) =>
    let (d, fs, used) := s
    let (r, h?) := rh
    let sts := d.segStripes r l
    match h? with
    | none => (sts.foldl (fun d st => d.setFld (R.STR_LBL_STATUS_OPEN_LABELS st) 0) d, fs, used)
    | some h =>
      let own := d.ownStart r
      let last := d.ownEnd r
      let mine := prev.filter fun f => f.role = r
      let runs := if v.enable && d.mode.looks then maskRuns none own h.mask else []
      let (gs, lostPix) := labelRole v.conn4 mine runs [] (65536 - mine.length) 0
      let d := if lostPix = 0 then d else (sts.foldl (fun d st => (d.bump (R.STR_LBL_CNT st) lostPix).raise (R.STR_LBL_EVENTS_LABEL_FULL st)) d).setFld R.BLV_REC_LAST_ERR 0x9001
      let d := d.setBlob fun b =>
        let old := b.unlabelled.find? fun u => u.1 = r
        if lostPix = 0 then b else { b with unlabelled := (r, match old with | some u => u.2.1 | none => l, l) :: b.unlabelled.filter fun u => u.1 ≠ r }
      let d := sts.foldl (fun d st =>
        let d := d.setFld (R.STR_LBL_STATUS_OPEN_LABELS st) gs.length
        if d.fld (R.STR_LBL_PEAK st) < gs.length then d.setFld (R.STR_LBL_PEAK st) gs.length else d) d
      let d := if d.roleAt r l then d.setFlag (R.STR_LBL_STATUS_EMITTING (d.stripeAt r l)) true else d
      let low := roles.any (fun b => d.ownEnd b + 1 = own) || (decide (own = 0) && d.sideActive 0)
      let high := roles.any (fun b => d.ownStart b = last + 1) || (decide (last + 1 = d.stitchCols) && d.sideActive 1)
      gs.foldl (fun (d, fs, used) g =>
        let border := g.runs.any fun x => (low && x.1 = own) || (high && x.2 = last)
        let had := g.prevs.any (·.entry)
        let barred := g.prevs.any (·.full) && !had
        let entry := had || (border && !barred && decide (used < 16384))
        let full := !entry && (barred || border)
        let d := if full && border && !barred then (d.raise R.BLV_REC_EVENTS_MERGE_FULL).setFld R.BLV_REC_LAST_ERR 0x9002 else d
        let keys := (g.prevs.map (·.key)).filter (· ≠ 0)
        let col := g.runs.foldl (fun m x => min m x.1) (g.runs.headD (0, 0)).1
        let acc := d.rowAcc h own g.runs
        let begun := g.prevs ≠ [] ∧ keys = []
        let skipEnd := d.blob.skips.any fun s => decide (s.1 = r) && decide (s.2.2 + 1 = l)
        let fl := d.rowRecFlags h own last g.runs + (if skipEnd then fSkipped else 0)
        let (key, d) := match keys with
          | k :: _ => (k, d)
          | [] => (d.blob.nextKey, d.setBlob fun b => { b with nextKey := b.nextKey + 1, defects := b.defects ++ [newDefect b.nextKey l (d.gcol col) r (if begun then fRestart else 0)] })
        let d := if full then d.setBlob fun b => { b with defects := b.defects.map fun x => if x.key = key then { x with sticky := x.sticky ||| fMergeFull } else x } else d
        let f : Frag := { id := d.blob.nextFrag, key := key, role := r, runs := g.runs, entry := entry, full := full, cont := keys }
        let d := d.setBlob fun b => { b with nextFrag := b.nextFrag + 1 }
        (d, fs ++ [(f, acc, fl)], if entry && !had then used + 1 else used))
        (d, fs, used)
  let (d, fs, _) := rows.foldl step (d, [], used0)
  let w : RowWork := { line := l, readyAt := d.time, joinedAt := none, frags := fs, prev := prev, absorbed := [], cut := cut, lost := lost, alive := [], released := released }
  let d := (d.unmerged w).setBlob fun b => { b with work := some { w with absorbed := d.localJoins w } }
  { d with handed := roles.foldl (fun t r => tupd [] t r fun hs => hs.filter fun h => l < h.line) d.handed }

/-! ### Seams (R234, R459) -/

/-- The device's outermost local column on a side. Log 74 (DESIGN CHOICE, unsafe). -/
def Dev.outerCol (d : Dev) (side : Nat) : Nat := if side = 0 then 0 else d.stitchCols - 1

/-- Does a fragment of the last row touch the outermost column of a side. Log 74 (DESIGN CHOICE, unsafe). -/
def Dev.atSeam (d : Dev) (side : Nat) (f : Frag) : Bool := f.runs.any fun x => decide (x.1 ≤ d.outerCol side) && decide (d.outerCol side ≤ x.2)

/-- The BORDER payload of a row (R459's table, R234). -/
def borderBytes (b : BorderRow) : List Byte :=
  fit 48 (leBytes 8 b.line ++ leBytes 1 (b2n b.set + 2 * b2n b.skipped + 4 * b2n (b.ident ≠ 0)) ++ zeros 7 ++ leBytes 8 b.first ++ leBytes 4 b.col ++ zeros 4 ++ leBytes 8 b.ident)

/-- The border data that a BORDER payload carries. -/
def borderOf (bs : List Byte) : BorderRow :=
  let f := leAt bs 8 1
  { line := leAt bs 0 8, set := bitOf f 0, skipped := bitOf f 1, first := leAt bs 16 8, col := leAt bs 24 4, ident := if bitOf f 2 then leAt bs 32 8 else 0 }

/-- Send the border data of the labelled row to the partners (R234); a fragment without a merge-table entry is not offered (R232).
Log 257 (DEDUCED, unsafe). -/
def Dev.sendBorder (d : Dev) (w : RowWork) : Dev :=
  if !d.mode.looks then d else
  [0, 1].foldl (fun d side =>
    if !(d.sideActive side) then d else
    let role := (d.rowRoles w.line).find? fun r => if side = 0 then d.ownStart r = 0 else d.ownEnd r = d.outerCol 1
    let skipped := match role with | some r => d.blob.skips.any fun s => decide (s.1 = r) && decide (s.2.1 ≤ w.line) && decide (w.line ≤ s.2.2) | none => false
    let x := (w.frags.find? fun f => d.atSeam side f.1 && f.1.entry).bind fun f => d.blob.defects.find? fun y => y.key = repOf w.absorbed f.1.key
    d.sendPartner side PT.border (borderBytes (match x with
      | some y => { line := w.line, set := true, skipped := skipped, first := y.line, col := y.col, ident := y.ident }
      | none => { line := w.line, set := false, skipped := skipped, first := 0, col := 0, ident := 0 }))) d

/-- May the next row be labelled: it is merged and every waited-for role has handed it on (R233). -/
def Dev.labelReady (d : Dev) : Bool :=
  d.blob.work.isNone && decide (d.blob.nextRow < d.blv.nextRow) &&
  (d.rowRoles d.blob.nextRow).all fun r => (d.handedOn r d.blob.nextRow).isSome

/-- Label the next row when it may be, and send its border data. -/
def Dev.labelNext (d : Dev) : Dev :=
  if !d.labelReady then d else
  let d := d.labelRow d.blob.nextRow
  match d.blob.work with | some w => d.sendBorder w | none => d

/-- The border data held for a side. -/
def Dev.borders (d : Dev) (side : Nat) : List BorderRow := if side = 0 then d.blob.west else d.blob.east
def Dev.setBorders (d : Dev) (side : Nat) (x : List BorderRow) : Dev := d.setBlob fun b => if side = 0 then { b with west := x } else { b with east := x }

/-- A BORDER packet brings a partner's border data, or comes late (R234). -/
def Dev.borderReceive (d : Dev) (side : Nat) (b : BorderRow) : Dev :=
  let joined := match d.blob.work with | some w => w.joinedAt.isSome && decide (w.line = b.line) | none => false
  if b.line < d.blob.nextRow || joined then (d.raise R.BLV_REC_EVENTS_SEAM_LATE).setFld R.BLV_REC_LAST_ERR 0x9004
  else d.setBorders side (((d.borders side).filter fun x => x.line ≠ b.line) ++ [b])

/-- The defect that a partner's border data name, added to the table when it is not there. -/
def Dev.remoteDefect (d : Dev) (side : Nat) (b : BorderRow) : Dev × Nat :=
  match d.blob.defects.find? fun x => decide (x.line = b.first) && decide (x.col = b.col) with
  | some x => (d.setBlob fun s => { s with defects := s.defects.map fun y => if y.key = x.key ∧ y.ident = 0 ∧ !y.own then { y with ident := b.ident } else y }, x.key)
  | none =>
    let k := d.blob.nextKey
    (d.setBlob fun s => { s with nextKey := k + 1, defects := s.defects ++ [{ newDefect k b.first b.col 0 fSeam with own := false, side := side, ident := b.ident }] }, k)

/-- A partner whose outermost role skipped the row (R257): the defects joined across that side close with the row before, and what of them goes on
here goes on as new defects with RESTART. Log 258 (DEDUCED, unsafe). -/
def Dev.seamCut (d : Dev) : Dev :=
  match d.blob.work with
  | none => d
  | some w =>
    let sides := [0, 1].filter fun s => (d.borders s).any fun b => decide (b.line = w.line) && b.skipped
    let hit := d.blob.defects.filter fun x => if x.own then x.holders.any fun h => sides.contains (d.sideOf h) else sides.contains x.side
    if hit = [] then d else
    let isHit := fun (k : Nat) => hit.any fun x => x.key = k
    let (d, fs) := w.frags.foldl (fun (d, fs) f =>
      let cont := f.1.cont.filter fun k => !isHit k
      if !isHit f.1.key then (d, fs ++ [({ f.1 with cont := cont }, f.2)]) else
      match cont with
      | k :: _ => (d, fs ++ [({ f.1 with key := k, cont := cont }, f.2)])
      | [] =>
        let x := newDefect d.blob.nextKey w.line f.2.1.colMin f.1.role fRestart
        (d.setBlob fun b => { b with nextKey := b.nextKey + 1, defects := b.defects ++ [x] }, fs ++ [({ f.1 with key := x.key, cont := [] }, f.2)])) (d, ([] : List (Frag × SpanAcc × Nat)))
    let w := { w with frags := fs, prev := w.prev.map (fun (f : Frag) => if isHit f.key then { f with key := 0 } else f), cut := w.cut ++ (hit.filter fun (x : Defect) => x.own).map (fun (x : Defect) => (x, 3)), released := w.released ++ (hit.filter fun (x : Defect) => !x.own && decide (x.ident ≠ 0)).map Defect.ident }
    let d := d.setBlob fun b => { b with defects := b.defects.filter fun x => !(isHit x.key) }
    d.setBlob fun b => { b with work := some { w with absorbed := d.localJoins w } }

/-- Join the fragments `fs` at a side with what a partner's border row names. -/
def Dev.joinBorder (d : Dev) (side : Nat) (b? : Option BorderRow) (fs : List Frag) : Dev :=
  match b?, d.blob.work with
  | some b, some w =>
    if !b.set ∨ fs = [] then d else
    let (d, k) := d.remoteDefect side b
    let abs := fs.foldl (fun abs f => joinKeys d.blob.defects abs f.key k) w.absorbed
    let top := repOf abs k
    let partner := if side = 0 then d.ownPos - 1 else d.ownPos + 1
    d.setBlob fun s => { s with work := some { w with absorbed := abs }, defects := s.defects.map fun x => if x.key = top then { x with sticky := x.sticky ||| fSeam ||| fMulti, holders := if x.own ∧ !(x.holders.contains partner) then x.holders ++ [partner] else x.holders } else x }
  | _, _ => d

/-- A partner's border pixel of the row that belongs to a defect of this device: the defect has a pixel in the row. Log 259 (DEDUCED, unsafe). -/
def Dev.seamAlive (d : Dev) (row : Option BorderRow) : Dev :=
  match row with
  | none => d
  | some b =>
    if !b.set then d else
    match d.blob.defects.find? fun x => x.own && decide (x.line = b.first) && decide (x.col = b.col) with
    | none => d
    | some x => d.setBlob fun s => { s with work := s.work.map fun w => { w with alive := w.alive ++ [x.key] } }

/-- Join the labelled row across one seam (R231, R234): where the partner's border data of the row are late, no fragment of the row joins across it, and
what touches the seam carries SEAM_PARTIAL. -/
def Dev.joinSide (d : Dev) (side : Nat) : Dev :=
  match d.blob.work with
  | none => d
  | some w =>
    let l := w.line
    let row := (d.borders side).find? fun b => b.line = l
    let touching := (w.frags.map (·.1)).filter fun f => d.atSeam side f
    if d.sideActive side && row.isNone then
      if touching = [] then d else
      let ids := touching.map (·.id)
      let d := d.setBlob fun s => { s with work := s.work.map fun w => { w with frags := w.frags.map fun (f, a, fl) => if ids.contains f.id then (f, a, fl ||| fSeamPartial) else (f, a, fl) } }
      d.raise R.BLV_REC_EVENTS_SEAM_PARTIAL
    else
      let here := touching.filter (·.entry)
      let before := w.prev.filter fun f => d.atSeam side f && f.entry && f.key != 0
      let d := d.joinBorder side row here
      let d := if (d.recVer l).conn4 then d else (d.joinBorder side ((d.borders side).find? fun b => b.line + 1 = l) here).joinBorder side row before
      d.seamAlive row

/-- Border data of every Active side are there (R233). Log 261 (DEDUCED, unsafe). -/
def Dev.bordersIn (d : Dev) (l : Nat) : Bool := !d.mode.looks || [0, 1].all fun s => !(d.sideActive s) || (d.borders s).any fun b => b.line = l

/-- One entry of a YIELD payload (R459). -/
def yieldBytes (e : YieldEntry) : List Byte :=
  leBytes 8 e.ident ++ leBytes 4 e.acc.area ++ leInt 4 e.acc.minF ++ leInt 4 e.acc.maxF ++ leBytes 4 e.acc.colMin ++ leBytes 4 e.acc.colMax ++ leBytes 4 (b2n e.touch + 2 * b2n e.released + 65536 * e.roles) ++ leInt 8 e.acc.sumF ++ leBytes 8 e.acc.sumCol ++ (List.range 4).flatMap fun k => leBytes 4 (e.acc.tags.getD k 0)

/-- The entries that a YIELD payload carries. -/
def yieldOf (bs : List Byte) : Nat × Bool × List YieldEntry :=
  let one := fun i =>
    let o := 16 + 64 * i
    let f := leAt bs (o + 28) 4
    ({ ident := leAt bs o 8, acc := { area := leAt bs (o + 8) 4, sumF := leAtI bs (o + 32) 8, minF := leAtI bs (o + 12) 4, maxF := leAtI bs (o + 16) 4, tags := (List.range 4).map fun k => leAt bs (o + 48 + 4 * k) 4, colMin := leAt bs (o + 20) 4, colMax := leAt bs (o + 24) 4, sumCol := leAt bs (o + 40) 8 }, touch := bitOf f 0, released := bitOf f 1, roles := bits f 16 16 } : YieldEntry)
  (leAt bs 0 8, bitOf (leAt bs 10 1) 0, (List.range (leAt bs 8 2)).map one)

/-- Split entries into packets of at most fifteen; the number bounds them (R459). -/
def sendYieldsTo (l dst : Nat) : Nat → List YieldEntry → Dev → Dev
  | 0, _, d => d
  | n + 1, es, d =>
    let d := d.sendTo PT.yield dst (leBytes 8 l ++ leBytes 2 (min 15 es.length) ++ leBytes 1 (b2n (es.length ≤ 15)) ++ zeros 5 ++ (es.take 15).flatMap yieldBytes)
    if es.length ≤ 15 then d else sendYieldsTo l dst n (es.drop 15) d

/-- The yields that this device owes for the labelled row (R236, R459): to the owner of every defect of which it held a fragment after the row before, or
gains one in this row; what it gathered before it knew the identity goes with the first. Log 90 (DEDUCED, unsafe), 259 (DEDUCED, unsafe). -/
def Dev.sendYields (d : Dev) (w : RowWork) : Dev :=
  let now := fun k => w.frags.filter fun f => repOf w.absorbed f.1.key = k
  let diag := (d.borderPairs w).flatMap fun p => (if w.prev.any fun f => f.id = p.1.id then [p.2.id] else []) ++ if w.prev.any fun f => f.id = p.2.id then [p.1.id] else []
  let owed := d.blob.defects.filter fun x => !x.own && decide (x.ident ≠ 0) && (decide (now x.key ≠ []) || w.prev.any fun f => f.key = x.key)
  let entry := fun (x : Defect) =>
    let fs := now x.key
    ({ ident := x.ident, acc := fs.foldl (fun a f => a.add f.2.1) x.acc, touch := fs.any fun f => !f.1.cont.isEmpty || diag.contains f.1.id, released := fs.isEmpty, roles := (List.range 16).foldl (fun m r => m + (if fs.any fun f => f.1.role = r then 2 ^ r else 0)) 0 } : YieldEntry)
  let gone := w.released.map fun i => ({ ident := i, acc := {}, touch := false, released := true, roles := 0 } : YieldEntry)
  let all := owed.map entry ++ gone
  let d := d.setBlob fun b => { b with defects := b.defects.map fun x => if owed.any fun y => y.key = x.key then { x with acc := {} } else x }
  (List.range 8).foldl (fun d dev =>
    let es := all.filter fun e => bits e.ident 53 3 = dev
    if es = [] then d else sendYieldsTo w.line dev (es.length / 15 + 1) es d) d

/-- A YIELD adds to the owner's row, or comes late (R237, R459). -/
def Dev.yieldReceive (d : Dev) (dev : Nat) (bs : List Byte) : Dev :=
  let (l, last, es) := yieldOf bs
  if l < d.blob.nextRow then (((d.bump R.BLV_REC_CNT_YIELD_DISCARD_CNT).raise R.BLV_REC_EVENTS_YIELD_DISCARD).setFld R.BLV_REC_LAST_ERR 0x9005)
  else
    let old := d.blob.yields.find? fun y => decide (y.line = l) && decide (y.device = dev)
    let y : YieldRow := { line := l, device := dev, last := last, entries := (match old with | some o => o.entries | none => []) ++ es }
    d.setBlob fun b => { b with yields := (b.yields.filter fun y => !(decide (y.line = l) && decide (y.device = dev))) ++ [y] }

/-- The yields that the labelled row waits for are there (R237). Log 89 (DEDUCED, unsafe). -/
def Dev.yieldsIn (d : Dev) (w : RowWork) : Bool :=
  d.blob.defects.all fun x => !x.own || decide (x.ident = 0) || x.holders.all fun h => d.blob.yields.any fun y => decide (y.line = w.line) && decide (y.device = h) && y.last

/-! ### Records of defects (R238 to R247) -/

/-- The identity that a role gives next (R238). -/
def Dev.giveIdent (d : Dev) (r : Nat) : Nat × Dev :=
  let n := d.fld (R.STR_LBL_IDCOUNT_NEXT_COUNT r)
  (Config.line.toNat * 2 ^ 60 + Config.cascade.toNat * 2 ^ 56 + d.fld R.KSL_CASCADE_DEVICE * 2 ^ 53 + r * 2 ^ 49 + d.blob.session % 512 * 2 ^ 40 + n, d.setFld (R.STR_LBL_IDCOUNT_NEXT_COUNT r) (n + 1))

/-- Clamp to signed 32 bits. -/
def sat32 (x : Int) : Int := clampI (-2147483648) 2147483647 x

/-- Bytes 32 to 111 of a blob record (R244, R246). `tail` is AREA_TOTAL or MERGED_INTO. -/
def Dev.blobBody (d : Dev) (x : Defect) (span tail : Nat) : List Byte :=
  let a := x.acc
  let md := d.linePos span
  let z := decide (a.area = 0)
  let i4 := fun (v : Int) => leInt 4 (if z then 0 else v)
  leBytes 8 x.line ++ leBytes 8 span ++ leInt 8 (d.linePos x.line) ++ leInt 8 md ++ leInt 4 (d.cdOf x.col) ++ i4 (d.cdOf a.colMin) ++ i4 (d.cdOf a.colMax) ++ leBytes 4 (min a.area 0xFFFFFFFF) ++ leBytes 8 tail ++ i4 (meanI a.sumF a.area) ++ i4 a.minF ++ i4 a.maxF ++ i4 (d.slive R.BLV_CD_ORIGIN + meanI (a.sumCol * d.cdPitch) a.area) ++ i4 (sat32 (meanI (a.sumMd - a.area * md) a.area)) ++ (List.range 4).flatMap fun k => leBytes 1 (if z then 0 else 255 * a.tags.getD k 0 / a.area)

/-- Create a blob record of a defect up to row `span` (R245). Answers the defect after it. -/
def Dev.blobRecord (d : Dev) (x : Defect) (ty span reason tail : Nat) : Dev × Defect :=
  let (ident, d) := if x.ident = 0 then d.giveIdent x.role else (x.ident, d)
  let first := if x.pieces = 0 then fFirst else 0
  let fl := x.flags ||| x.sticky ||| first ||| (if ty = tyClosed then fFinal else 0) ||| (if 2 ≤ x.roles.length then fMulti else 0) ||| (if 0xFFFFFFFF < x.acc.area then fAreaSat else 0)
  let b : RecBody := { ty := ty, flags := fl, ident := ident, place := d.place (d.stripeAt x.role span), epoch := d.epochOf span, body := d.blobBody x span tail, piece := x.pieces, reason := reason }
  let d := if x.acc.area = 0 then d else d.galBox ident x.acc.colMin x.acc.colMax (if x.pieces = 0 then x.line else x.spanLast + 1) span
  (d.create b (some x.role) (some span), { x with ident := ident, acc := {}, flags := 0, pieces := x.pieces + 1, spanLast := span })

/-- Keep a defect's new value. -/
def Dev.putDefect (d : Dev) (x : Defect) : Dev := d.setBlob fun b => { b with defects := b.defects.map fun y => if y.key = x.key then x else y }

/-- Defects in the order of their first pixels (R254). -/
def sortDefects (xs : List Defect) : List Defect :=
  xs.foldl (fun acc x => (acc.takeWhile fun y => y.before x) ++ [x] ++ (acc.dropWhile fun y => y.before x)) []

/-- Add the yields of the row to the defects they name (R236, R459). Log 89 (DEDUCED, unsafe). -/
def Dev.addYields (d : Dev) (w : RowWork) : Dev × List Nat :=
  let md := d.linePos w.line
  let rows := d.blob.yields.filter fun y => y.line = w.line
  rows.foldl (fun (d, touched) y => y.entries.foldl (fun (d, touched) e =>
    let key : Option Nat := match d.blob.defects.find? fun x => x.own && decide (x.ident = e.ident) with
      | some x => some x.key
      | none => (d.blob.aliases.find? fun (a : Nat × Nat) => a.1 = e.ident).map Prod.snd
    match key with
    | none => (d, touched)
    | some k0 =>
      let k := repOf w.absorbed k0
      match d.blob.defects.find? fun x => x.key = k with
      | none => (d, touched)
      | some x =>
        let x := { x with acc := x.acc.add { e.acc with sumMd := e.acc.area * md }, total := x.total + e.acc.area, sticky := x.sticky ||| fSeam ||| fMulti, lastRow := if e.acc.area = 0 then x.lastRow else max x.lastRow w.line, holders := if e.released then x.holders.filter (· ≠ y.device) else if x.holders.contains y.device then x.holders else x.holders ++ [y.device] }
        (d.putDefect x, if e.touch then k :: touched else touched)) (d, touched)) (d, [])

/-- Add the row's own pixels to their defects (R243); those of a defect of another device are in its YIELD once its identity is known.
Log 259 (DEDUCED, unsafe). -/
def Dev.addPixels (d : Dev) (w : RowWork) : Dev :=
  w.frags.foldl (fun d f =>
    let k := repOf w.absorbed f.1.key
    match d.blob.defects.find? fun x => x.key = k with
    | none => d
    | some x =>
      let lo := f.2.1.colMin - d.gcol 0
      let hi := f.2.1.colMax - d.gcol 0
      d.putDefect { x with acc := if x.own ∨ x.ident = 0 then x.acc.add f.2.1 else x.acc, total := x.total + f.2.1.area, flags := x.flags ||| f.2.2, lastRow := w.line, roles := if x.roles.contains f.1.role then x.roles else x.roles ++ [f.1.role], boxLo := if x.roles = [] then lo else min x.boxLo lo, boxHi := max x.boxHi hi }) d

/-- Absorbed defects bring their totals, and their unreported pixels, to the survivor (R242). Answers the reported ones that this device closes, and
the survivors that must be reported for them. Log 90 (DEDUCED, unsafe). -/
def Dev.absorb (d : Dev) (w : RowWork) : Dev × List (Defect × Nat) × List Nat :=
  w.absorbed.foldl (fun (d, closed, forced) ab =>
    let k := repOf w.absorbed ab.1
    match d.blob.defects.find? fun x => x.key = ab.1, d.blob.defects.find? fun x => x.key = k with
    | some a, some s =>
      let reported := a.own && decide (a.ident ≠ 0)
      let s' := { s with total := s.total + a.total, acc := if a.ident = 0 then s.acc.add a.acc else s.acc, flags := if a.ident = 0 then s.flags ||| a.flags else s.flags, sticky := s.sticky ||| (a.sticky &&& (fMulti + fSeam + fMergeFull)), roles := s.roles ++ a.roles.filter (fun r => !(s.roles.contains r)), boxLo := if a.roles = [] then s.boxLo else if s.roles = [] then a.boxLo else min s.boxLo a.boxLo, boxHi := max s.boxHi a.boxHi, holders := s.holders ++ a.holders.filter (fun h => !(s.holders.contains h)) }
      let d := (d.putDefect s').setBlob fun b => { b with defects := b.defects.filter fun x => x.key ≠ ab.1, aliases := if reported then (a.ident, k) :: b.aliases else b.aliases }
      (d, if reported then closed ++ [(a, k)] else closed, if decide (a.ident ≠ 0) && s.own && decide (s.ident = 0) then k :: forced else forced)
    | _, _ => (d, closed, forced)) (d, [], [])

/-- What a row's records mean for the classifier and the markers (R263, R305, R306): the defects whose first record was created, as they were for
that record, and the identities closed with the last row of their span. -/
structure RowOut where
  line : Nat := 0
  firsts : List Defect := []
  closed : List (Nat × Nat) := []
  deriving DecidableEq, Repr

/-- A row is done: its fragments and those of failed stripes are the row before the next one, defects that do not stay leave the table, and borders,
yields and skip notices that no row needs any more are dropped (R233). -/
def Dev.rowEnd (d : Dev) (w : RowWork) (ice : List Frag) (stays : Defect → Bool) : Dev :=
  let l := w.line
  let d := d.setBlob fun b =>
    { b with defects := b.defects.filter stays, aliases := (b.aliases.map fun (a : Nat × Nat) => (a.1, repOf w.absorbed a.2)).filter (fun (a : Nat × Nat) => b.defects.any fun (x : Defect) => stays x && decide (x.key = a.2)), frags := (w.frags.map fun (f : Frag × SpanAcc × Nat) => { f.1 with key := repOf w.absorbed f.1.key }) ++ ice, work := none, nextRow := l + 1, skips := b.skips.filter fun s => l ≤ s.2.2, yields := b.yields.filter fun y => l < y.line, west := b.west.filter fun x => l ≤ x.line, east := b.east.filter fun x => l ≤ x.line }
  let d := d.setFld R.BLV_REC_STATUS_OPEN_DEFECTS (min 65535 (d.blob.defects.filter fun x => x.own && decide (x.ident ≠ 0)).length)
  d.setFld R.BLV_REC_STATUS_MERGE_USED (d.blob.frags.filter (·.entry)).length

/-- The HEARTBEAT records whose rows before are resolved (R254). Log 260 (DEDUCED, unsafe). -/
def Dev.hbFlush (d : Dev) : Dev :=
  let (due, later) := d.recs.hbDue.partition fun b => decide (b ≤ d.blob.nextRow)
  due.foldl (fun d _ => d.heartbeat) { d with recs := { d.recs with hbDue := later } }

/-- A boundary has come: every HB_FRAMES-th one after entry to ARMED makes a HEARTBEAT, after the records of the row before it, where rows are merged at
all (R252, R254). Log 260 (DEDUCED, unsafe). -/
def Dev.hbBoundary (d : Dev) (b : Nat) : Dev :=
  let d := { d with recs := { d.recs with boundaries := d.recs.boundaries + 1 } }
  let n := d.live R.BLV_REC_HB_HB_FRAMES
  if n = 0 ∨ d.recs.boundaries % n ≠ 0 then d
  else if !(d.blvVer b).enable then d.heartbeat
  else ({ d with recs := { d.recs with hbDue := d.recs.hbDue ++ [b] } }).hbFlush

/-- The LOST record that a row's list names. -/
def Dev.lostOf (d : Dev) (x : List Nat) : Dev := d.createLost (x.getD 0 0) (x.getD 1 0) (x.getD 2 0) (x.getD 3 0) (x.getD 4 0) (x.getD 5 0) (x.getD 6 0)

/-- The CLOSED records of absorbed defects (R242), those that still wait included: one waits while its survivor, of another device, has no known identity.
Answers the identities closed with their last rows. Log 91 (DESIGN CHOICE, unsafe). -/
def Dev.mergedRecords (d : Dev) (w : RowWork) (merged : List (Defect × Nat)) : Dev × List (Nat × Nat) :=
  let all := (d.blob.mergedWait.map fun m => (m.1, repOf w.absorbed m.2.1, m.2.2)) ++ merged.map fun m => (m.1, m.2, w.line - 1)
  let waits := fun (m : Defect × Nat × Nat) => d.blob.defects.any fun y => decide (y.key = m.2.1) && !y.own && decide (y.ident = 0)
  let now := all.filter fun m => !waits m
  let d := d.setBlob fun b => { b with mergedWait := all.filter waits }
  let d := (sortDefects (now.map (·.1))).foldl (fun d x =>
    match now.find? fun m => m.1.key = x.key with
    | some m => (d.blobRecord x tyClosed m.2.2 1 (match d.blob.defects.find? fun y => y.key = m.2.1 with | some s => s.ident | none => 0)).1
    | none => d) d
  (d, now.map fun m => (m.1.ident, m.2.2))

/-- A defect closes with row `last`: its CLOSED record, or SMALL_CNT where it is unreported and small (R241). -/
def Dev.closeDefect (d : Dev) (x : Defect) (last reason minArea : Nat) (firsts : List Defect) (closed : List (Nat × Nat)) : Dev × List Defect × List (Nat × Nat) :=
  if x.ident = 0 ∧ x.total < minArea then (d.bump R.BLV_REC_CNT_SMALL_CNT, firsts, closed) else
  let (d, y) := d.blobRecord x tyClosed last reason x.total
  (d, if x.ident = 0 then firsts ++ [{ x with ident := y.ident }] else firsts, closed ++ [(y.ident, last)])

/-- The records of a row, in the order of R254. Log 73 (DEDUCED, unsafe), 87 (DEDUCED, unsafe). -/
def Dev.recordRow (d : Dev) (w : RowWork) : Dev × RowOut :=
  let l := w.line
  let v := d.recVer l
  let ice := (w.prev.filter fun f => decide (f.key ≠ 0) && !(d.roleAt f.role l)).map fun f => { f with key := repOf w.absorbed f.key }
  let frozen := ice.map (·.key)
  let d := d.lostFlush
  let d := w.lost.foldl Dev.lostOf d
  let full := d.blob.unlabelled.filter fun u => u.2.2 < l
  let d := full.foldl (fun d u => d.createLost 2 u.2.1 u.2.2 (2 ^ u.1) 0 0 0) d
  let d := d.setBlob fun b => { b with unlabelled := b.unlabelled.filter fun u => l ≤ u.2.2 }
  let (d, touched) := d.addYields w
  let (d, merged, forced) := d.absorb w
  let d := d.addPixels w
  let d := d.setBlob fun b => { b with defects := b.defects.map fun x => if w.alive.any fun k => repOf w.absorbed k = x.key then { x with lastRow := l } else x }
  let open_ := sortDefects (d.blob.defects.filter (·.own))
  let found := open_.filter fun x => decide (x.ident = 0) && decide (x.lastRow = l) && (forced.contains x.key || (decide (x.line + v.foundDelay ≤ l) && decide (v.minArea ≤ x.total)))
  let (d, firsts) := found.foldl (fun (d, fs) x => let (d, y) := d.blobRecord x tyFound l 0 x.total; (d.putDefect y, fs ++ [{ x with ident := y.ident }])) (d, [])
  let (d, told) := d.mergedRecords w merged
  let cont := (sortDefects (d.blob.defects.filter (·.own))).filter fun x => decide (x.ident ≠ 0) && decide (x.lastRow = l) && decide (x.spanLast ≠ l) && decide (v.continueMd ≠ 0) && decide ((v.continueMd : Int) ≤ d.linePos l - d.linePos x.spanLast)
  let d := cont.foldl (fun d x => let (d, y) := d.blobRecord x tyContinuing l 0 x.total; d.putDefect y) d
  let ended := (sortDefects (d.blob.defects.filter (·.own))).filter fun x => decide (x.lastRow ≠ l) && !(touched.contains x.key) && !(frozen.contains x.key)
  let (d, firsts, closed) := (sortDefects (ended ++ w.cut.map (·.1))).foldl (fun (d, fs, cs) x =>
    match w.cut.find? fun c => c.1.key = x.key with
    | some c => d.closeDefect { x with flags := x.flags ||| fSkipped } (l - 1) c.2 v.minArea fs cs
    | none => d.closeDefect x (l - 1) 0 v.minArea fs cs) (d, firsts, told)
  let held := fun (x : Defect) => w.frags.any fun f => repOf w.absorbed f.1.key = x.key
  let stays := fun (x : Defect) => if x.own then !(ended.any fun y => y.key = x.key) else held x || frozen.contains x.key
  ((d.rowEnd w ice stays).hbFlush, { line := l, firsts := firsts, closed := closed })

/-- Bring the labelled row as far as it can go: across the seams, then to its records. `borderUp`, `yieldUp`: SEAM_WAIT has passed. -/
def Dev.progressRow (d : Dev) (borderUp yieldUp : Bool) : Dev × RowOut :=
  match d.blob.work with
  | none => (d, {})
  | some w =>
    let d := if w.joinedAt.isSome ∨ !(borderUp || d.bordersIn w.line) then d else
      let d := (d.seamCut.joinSide 0).joinSide 1
      let d := d.setBlob fun b => { b with work := b.work.map fun w => { w with joinedAt := some d.time } }
      match d.blob.work with | some w => d.sendYields w | none => d
    match d.blob.work with
    | none => (d, {})
    | some w =>
      if w.joinedAt.isNone then (d, {})
      else if d.yieldsIn w then d.recordRow w
      else if yieldUp then
        let missing := fun (x : Defect) => x.own && decide (x.ident ≠ 0) && x.holders.any fun h => !(d.blob.yields.any fun y => decide (y.line = w.line) && decide (y.device = h) && y.last)
        let d := d.setBlob fun b => { b with defects := b.defects.map fun x => if missing x then { x with flags := x.flags ||| fSeamPartial } else x }
        (d.raise R.BLV_REC_EVENTS_SEAM_PARTIAL).recordRow w
      else (d, {})

/-- SEAM_WAIT of a row in cycles (R233, R260); 0 acts as 1. -/
def Dev.seamWait (d : Dev) (l : Nat) : Nat := usCycles (d.recVer l).seamWait

/-- ROW_RESOLVE. Log 88 (DEDUCED, unsafe). -/
def Dev.rowResolve (d : Dev) : Dev × RowOut :=
  let (d, fs) := d.labelNext.progressRow false false
  (d.labelNext, fs)

/-- SEAM_WAIT has passed for the labelled row's border data. Log 88 (DEDUCED, unsafe). -/
def Dev.seamWaitExpiry (d : Dev) : Dev × RowOut :=
  match d.blob.work with
  | none => (d, {})
  | some w =>
    if w.joinedAt.isSome ∨ d.bordersIn w.line then (d, {}) else
    let (d, fs) := (d.advance (w.readyAt + d.seamWait w.line)).progressRow true false
    (d.labelNext, fs)

/-- SEAM_WAIT has passed for the yields of the labelled row. Log 88 (DEDUCED, unsafe). -/
def Dev.yieldWaitExpiry (d : Dev) : Dev × RowOut :=
  match d.blob.work with
  | none => (d, {})
  | some w =>
    match w.joinedAt with
    | none => (d, {})
    | some t =>
      if d.yieldsIn w then (d, {}) else
      let (d, fs) := (d.advance (t + d.seamWait w.line)).progressRow false true
      (d.labelNext, fs)

/-! ### Modes (R238, R258) -/

/-- A run starts at row `first`: a new session. Log 95 (DEDUCED, unsafe). -/
def Dev.blobStart (d : Dev) (first : Nat) : Dev :=
  let s := (d.blob.session + 1) % 512
  let d := (List.range 16).foldl (fun d r => (d.setFld (R.STR_LBL_IDCOUNT_NEXT_COUNT r) 1).setFld (R.STR_LBL_IDCOUNT_SESSION r) s) d
  { d with blob := { vers := [d.recSnap 0], nextRow := first, session := s } }

/-- On leaving INSPECT, DEGRADED and REPLAY every open defect closes (R229, R258). Answers what those records mean. Where the output grid goes on, the
settings of later rows, their skips and the row count are kept.
Log 91 (DESIGN CHOICE, unsafe), 93 (DEDUCED, unsafe), 94 (DEDUCED, unsafe), 95 (DEDUCED, unsafe). -/
def Dev.blobStop (d : Dev) (gridGoesOn : Bool) : Dev × RowOut :=
  let b := d.blob
  let last := b.nextRow - 1
  let v := d.recVer last
  let cut : List Defect := match b.work with | some w => w.cut.map (·.1) | none => []
  let lost := match b.work with | some w => w.lost | none => []
  let d := lost.foldl Dev.lostOf d
  let d := b.unlabelled.foldl (fun d u => d.createLost 2 u.2.1 u.2.2 (2 ^ u.1) 0 0 0) d
  let d := b.mergedWait.foldl (fun d m => (d.blobRecord m.1 tyClosed m.2.2 1 0).1) d
  let (d, fs, cs) := (sortDefects (b.defects.filter (·.own) ++ cut)).foldl (fun (d, fs, cs) x =>
    if x.ident = 0 ∧ x.total < v.minArea then (d, fs, cs) else
    let (d, y) := d.blobRecord x tyClosed last 2 x.total
    (d, if x.ident = 0 then fs ++ [{ x with ident := y.ident }] else fs, cs ++ [(y.ident, last)])) (d, [], b.mergedWait.map fun m => (m.1.ident, m.2.2))
  let next := if gridGoesOn && b.work.isSome then b.nextRow + 1 else b.nextRow
  let d := { d with blob := { nextRow := next, nextKey := d.blob.nextKey, nextFrag := d.blob.nextFrag, session := d.blob.session, vers := if gridGoesOn then b.vers else [], skips := if gridGoesOn then b.skips.filter fun s => next ≤ s.2.2 else [], lostRoles := if gridGoesOn then b.lostRoles else [] } }
  let d := (List.range 17).foldl (fun d n => d.setFld (R.STR_LBL_STATUS_OPEN_LABELS n) 0) d
  let d := (d.setFld R.BLV_REC_STATUS_OPEN_DEFECTS 0).setFld R.BLV_REC_STATUS_MERGE_USED 0
  let d := if gridGoesOn then d else d.recs.hbDue.foldl (fun d _ => d.heartbeat) { d with recs := { d.recs with hbDue := [] } }
  (d, { line := last, firsts := fs, closed := cs })

/-- A skip notice from a role's chain (R222, R257). -/
def Dev.skipNotice (d : Dev) (r first last : Nat) : Dev :=
  (d.setBlob fun b => { b with skips := b.skips ++ [(r, first, last)] }).labelNext

end Sys2Proof.Machine
end

