-- ==== Sys2Proof/Machine/Crypto.lean ====
section
/-!
DEFINITION. The cryptography that images, tokens and the Porch name: SHA-256, HMAC-SHA-256 and ECDSA over P-256 (R479, R534 and the
session rules of chapter 17).
-/
namespace Sys2Proof.Machine

/-! ### SHA-256 -/

/-- Raise `x` bit by bit, from bit `n` - 1 down, while its `k`th power stays within `v`. -/
def rootWithin (k v : Nat) : Nat → Nat → Nat
  | 0, x => x
  | n + 1, x => rootWithin k v n (if (x + 2 ^ n) ^ k ≤ v then x + 2 ^ n else x)

/-- The first 32 bits of the fraction of the `k`th root of a number below 2¹⁶. -/
def rootFraction (k p : Nat) : Nat := rootWithin k (p * 2 ^ (32 * k)) 40 0 % 2 ^ 32

/-- The primes up to 311. -/
def shaPrimes : List Nat := (List.range 312).filter fun n => decide (2 ≤ n) && [2, 3, 5, 7, 11, 13, 17].all fun q => decide (n = q) || decide (n % q ≠ 0)

/-- The round constants: the cube roots of the first 64 primes. -/
def shaK : List Nat := shaPrimes.map (rootFraction 3)

/-- The initial hash value: the square roots of the first 8 primes. -/
def shaInit : List Nat := (shaPrimes.take 8).map (rootFraction 2)

/-- Rotate a 32-bit word to the right. -/
def rotr (x n : Nat) : Nat := (x / 2 ^ n) ||| (x * 2 ^ (32 - n) % 2 ^ 32)

def shaS0 (x : Nat) : Nat := rotr x 7 ^^^ rotr x 18 ^^^ (x / 8)
def shaS1 (x : Nat) : Nat := rotr x 17 ^^^ rotr x 19 ^^^ (x / 1024)
def shaB0 (x : Nat) : Nat := rotr x 2 ^^^ rotr x 13 ^^^ rotr x 22
def shaB1 (x : Nat) : Nat := rotr x 6 ^^^ rotr x 11 ^^^ rotr x 25

/-- `n` further words of the message schedule; the words so far are newest first. -/
def shaExtend : Nat → List Nat → List Nat
  | 0, w => w
  | n + 1, w => shaExtend n ((shaS1 (w.getD 1 0) + w.getD 6 0 + shaS0 (w.getD 14 0) + w.getD 15 0) % 2 ^ 32 :: w)

/-- The eight working words. -/
structure ShaWords where
  a : Nat
  b : Nat
  c : Nat
  d : Nat
  e : Nat
  f : Nat
  g : Nat
  h : Nat
  deriving DecidableEq, Repr

/-- One round. -/
def shaRound (x : ShaWords) (kw : Nat × Nat) : ShaWords :=
  let ch := (x.e &&& x.f) ^^^ ((0xFFFFFFFF - x.e) &&& x.g)
  let t1 := x.h + shaB1 x.e + ch + kw.1 + kw.2
  let maj := (x.a &&& x.b) ^^^ (x.a &&& x.c) ^^^ (x.b &&& x.c)
  let t2 := shaB0 x.a + maj
  ⟨(t1 + t2) % 2 ^ 32, x.a, x.b, x.c, (x.d + t1) % 2 ^ 32, x.e, x.f, x.g⟩

/-- Add one block of 64 bytes to a hash value. -/
def shaBlock (v : List Nat) (block : List Byte) : List Nat :=
  let w := (List.range 16).map fun i => beNat (slice block (4 * i) 4)
  let ws := (shaExtend 48 w.reverse).reverse
  let g := fun i => v.getD i 0
  let r := (shaK.zip ws).foldl shaRound ⟨g 0, g 1, g 2, g 3, g 4, g 5, g 6, g 7⟩
  [r.a, r.b, r.c, r.d, r.e, r.f, r.g, r.h].zipWith (fun x y => (x + y) % 2 ^ 32) v

/-- `n` blocks of a padded message. -/
def shaBlocks : Nat → List Nat → List Byte → List Nat
  | 0, v, _ => v
  | n + 1, v, bs => shaBlocks n (shaBlock v (bs.take 64)) (bs.drop 64)

/-- SHA-256. -/
def sha256 (bs : List Byte) : List Byte :=
  let n := bs.length
  let pad := bs ++ [0x80] ++ zeros ((119 - n % 64) % 64) ++ beBytes 8 (8 * n)
  (shaBlocks (pad.length / 64) shaInit pad).flatMap (beBytes 4)

/-- HMAC-SHA-256. -/
def hmac (key msg : List Byte) : List Byte :=
  let k := fit 64 (if 64 < key.length then sha256 key else key)
  sha256 (k.map (· ^^^ 0x5C) ++ sha256 (k.map (· ^^^ 0x36) ++ msg))

/-! ### P-256 -/

def p256P : Nat := 0xFFFFFFFF00000001000000000000000000000000FFFFFFFFFFFFFFFFFFFFFFFF
def p256N : Nat := 0xFFFFFFFF00000000FFFFFFFFFFFFFFFFBCE6FAADA7179E84F3B9CAC2FC632551
def p256B : Nat := 0x5AC635D8AA3A93E7B3EBBD55769886BC651D06B0CC53B0F63BCE3C3E27D2604B
def p256G : Nat × Nat := (0x6B17D1F2E12C4247F8BCE6E563A440F277037D812DEB33A0F4A13945D898C296, 0x4FE342E2FE1A7F9B8EE7EB4A7C0F9E162BCE33576B315ECECBB6406837BF51F5)

/-- `b` to the power of the low `n` bits of `e`, modulo `m`. -/
def powMod (m : Nat) : Nat → Nat → Nat → Nat
  | 0, _, _ => 1
  | n + 1, b, e => (if e % 2 = 1 then b else 1) * powMod m n (b * b % m) (e / 2) % m

/-- The inverse modulo a prime. -/
def invMod (m x : Nat) : Nat := powMod m 256 (x % m) (m - 2)

/-- Difference modulo p. -/
def subP (x y : Nat) : Nat := (x + p256P - y % p256P) % p256P

/-- Sum of two points of the curve; none is the point at infinity. -/
def ecAdd : Option (Nat × Nat) → Option (Nat × Nat) → Option (Nat × Nat)
  | none, q => q
  | p, none => p
  | some (x1, y1), some (x2, y2) =>
    if x1 = x2 ∧ (y1 + y2) % p256P = 0 then none else
    let s := if x1 = x2 then subP (3 * x1 * x1) 3 * invMod p256P (2 * y1) % p256P else subP y2 y1 * invMod p256P (subP x2 x1) % p256P
    let x3 := subP (subP (s * s) x1) x2
    some (x3, subP (s * subP x1 x3) y1)

/-- The low `n` bits of `k` times a point. -/
def ecMul : Nat → Nat → Option (Nat × Nat) → Option (Nat × Nat)
  | 0, _, _ => none
  | n + 1, k, q => ecAdd (if k % 2 = 1 then q else none) (ecMul n (k / 2) (ecAdd q q))

/-- Is a pair a point of the curve. -/
def onCurve (x y : Nat) : Bool := decide (x < p256P) && decide (y < p256P) && decide (y * y % p256P = subP (x * x * x + p256B) (3 * x))

/-- ECDSA P-256 over a digest: signature r then s, key X then Y, big-endian (R479). -/
def ecdsaOk (digest sig key : List Byte) : Bool :=
  let r := beNat (slice sig 0 32)
  let s := beNat (slice sig 32 32)
  let x := beNat (slice key 0 32)
  let y := beNat (slice key 32 32)
  if r = 0 ∨ p256N ≤ r ∨ s = 0 ∨ p256N ≤ s ∨ !(onCurve x y) then false else
  let w := invMod p256N s
  let e := beNat (slice digest 0 32)
  match ecAdd (ecMul 256 (e * w % p256N) (some p256G)) (ecMul 256 (r * w % p256N) (some (x, y))) with
  | some (px, _) => decide (px % p256N = r)
  | none => false

end Sys2Proof.Machine
end

