-- ==== Sys2Proof/Machine/Images.lean ====
section
/-!
DEFINITION. Saholaesk images (R477 to R479): header, sections, trailer and verification, and the layout of the boot flash (R474).
-/
namespace Sys2Proof.Machine

/-- A section of an image (R478). -/
structure Section where
  ty : Nat
  devMask : Nat
  crcOk : Bool
  body : List Byte
  deriving DecidableEq, Repr

/-- The first `n` sections of what follows the header, and the offset after them. -/
def sectionsOf : Nat → Nat → List Byte → List Section × Nat
  | 0, o, _ => ([], o)
  | n + 1, o, bs =>
    let len := leAt bs (o + 4) 4
    let body := slice bs (o + 16) len
    let s : Section := { ty := leAt bs o 2, devMask := leAt bs (o + 2) 1, crcOk := decide (crc32 body = leAt bs (o + 8) 4), body := body }
    let (ss, e) := sectionsOf n (o + 16 + (len + 15) / 16 * 16) bs
    (s :: ss, e)

/-- An image as its header and sections give it (R477, R478). -/
structure Image where
  kind : Nat
  signed : Bool
  len : Nat
  version : Nat
  build : Nat
  id : Nat
  name : List Byte
  sections : List Section
  /-- Offset of the trailer. -/
  trailer : Nat
  deriving DecidableEq, Repr

/-- Read an image; none where MAGIC, FORMAT or HEAD_CRC is wrong. -/
def imageOf (bs : List Byte) : Option Image :=
  if leAt bs 0 4 ≠ 0x4B4C4853 ∨ leAt bs 4 2 ≠ 1 ∨ leAt bs 60 4 ≠ crc32 (slice bs 0 60) ∨ bs.length < 64 + 16 * leAt bs 12 4 then none else
  let (ss, e) := sectionsOf (leAt bs 12 4) 64 bs
  some { kind := leAt bs 6 1, signed := bitOf (leAt bs 7 1) 0, len := leAt bs 8 4, version := leAt bs 16 4, build := leAt bs 20 4, id := leAt bs 24 4, name := slice bs 28 16, sections := ss, trailer := e }

/-- What a verification finds: nothing wrong, a malformed image, a bad checksum, or a bad signature. -/
inductive ImageCheck where
  | ok | format | hash | signature
  deriving DecidableEq, Repr

/-- Verify an image of a kind (R479). -/
def imageCheck (kind : Nat) (bs : List Byte) : ImageCheck :=
  match imageOf bs with
  | none => .format
  | some m =>
    let end_ := m.trailer + 32 + (if m.signed then 128 else 0)
    if m.kind ≠ kind ∨ m.len ≠ end_ ∨ bs.length < end_ then .format
    else
      let digest := sha256 (bs.take m.trailer)
      if m.sections.any (fun s => !s.crcOk) ∨ digest ≠ slice bs m.trailer 32 then .hash
      else if !Config.secureBoot then .ok
      else
        let key := slice bs (m.trailer + 96) 64
        if m.signed ∧ sha256 key = beBytes 32 Config.keyHash.toNat ∧ ecdsaOk digest (slice bs (m.trailer + 32) 64) key then .ok else .signature

/-! ### The flash (R474) -/

def flashBoot (b : Nat) : Nat := b * 0x1000
def flashFirmware (slot : Nat) : Nat := 0x0100000 + slot * 0x1000000
def flashRecipe (n : Nat) : Nat := 0x2100000 + n * 0x800000
def flashModel (n : Nat) : Nat := 0x4100000 + n * 0x1800000
def flashPantry (c : Nat) : Nat := 0x7100000 + c * 0x400000
def flashLogBase : Nat := 0x7900000
def recipeSize : Nat := 0x800000
def modelSize : Nat := 0x1800000
def firmwareSize : Nat := 0x1000000

/-- The image at a flash offset: as many bytes as its header says; where it claims more than its slot, no more than its header. -/
def Dev.flashImage (d : Dev) (o size : Nat) : List Byte :=
  let n := leNat (d.flashRead (o + 8) 4)
  d.flashRead o (if size < n then 64 else n)

end Sys2Proof.Machine
end

