-- ==== Sys2Proof/Machine/Classifier.lean ====
section
/-!
DEFINITION. The Defect Classifier Array (chapter 08): models and their arithmetic, requests, crops, results and deadlines.
-/
namespace Sys2Proof.Machine

def Dev.setDca (d : Dev) (f : DcaState → DcaState) : Dev := { d with dca := f d.dca }
def Dev.bankModel (d : Dev) (k : Nat) : Option DcaModel := tget none d.dca.models k
def bankState (k : Nat) : Fld := if k = 0 then R.DCA_STATUS_BANK0 else R.DCA_STATUS_BANK1

/-- Bank states (R275). -/
def bankEmpty : Nat := 0
def bankLoading : Nat := 1
def bankVerifying : Nat := 2
def bankReady : Nat := 3
def bankActive : Nat := 4
def bankDraining : Nat := 5
def bankFailed : Nat := 6

/-! ### Models (R269 to R272) -/

/-- A layer descriptor from its 32 bytes. -/
def dcaLayerOf (bs : List Byte) : DcaLayer :=
  let g := leAt bs
  { op := g 0 1, kernel := g 1 1, stride := g 2 1, act := g 3 1, inC := g 4 2, outC := g 6 2, src0 := g 8 2, src1 := g 10 2, wOfs := g 12 4, bOfs := g 16 4, qOfs := g 20 4, pad := g 24 1 }

/-- Output size of a windowed layer (R273). -/
def outSize (l : DcaLayer) (n : Nat) : Nat := if l.pad = 1 then (n + l.stride - 1) / l.stride else if n < l.kernel then 0 else (n - l.kernel) / l.stride + 1

/-- Shape (channels, rows, columns) of a layer's output from its source's. -/
def outShape (l : DcaLayer) (s : Nat × Nat × Nat) : Nat × Nat × Nat :=
  match l.op with
  | 1 | 2 | 4 | 5 => (l.outC, outSize l s.2.1, outSize l s.2.2)
  | 3 | 7 => (l.outC, 1, 1)
  | _ => (l.outC, s.2.1, s.2.2)

/-- The shape that a source has, given the shapes before. -/
def srcShape (crop : Nat × Nat × Nat) (done : List (Nat × Nat × Nat)) (src : Nat) : Option (Nat × Nat × Nat) :=
  if src = 0xFFFF then some crop else done[src]?

/-- The shapes of all layers; none where a source is not a lower-numbered layer or the crop. -/
def layerShapes (crop : Nat × Nat × Nat) : List DcaLayer → List (Nat × Nat × Nat) → Option (List (Nat × Nat × Nat))
  | [], done => some done
  | l :: ls, done =>
    match srcShape crop done l.src0 with
    | none => none
    | some s => layerShapes crop ls (done ++ [outShape l s])

/-- How many weights a layer has. -/
def weightCount (l : DcaLayer) (s : Nat × Nat × Nat) : Nat :=
  match l.op with
  | 1 => l.outC * l.inC * l.kernel * l.kernel
  | 2 => l.outC * l.kernel * l.kernel
  | 3 => l.outC * (s.1 * s.2.1 * s.2.2)
  | _ => 0

/-- Are a layer's requantisers well formed: a shift of 0 to 63, then three zero bytes (R271). -/
def requantForm (ws : List Byte) (l : DcaLayer) : Bool :=
  decide (3 < l.op) || (List.range l.outC).all fun o => decide (leAt ws (l.qOfs + 8 * o + 4) 1 ≤ 63) && decide (leAt ws (l.qOfs + 8 * o + 5) 3 = 0)

/-- Is a descriptor well formed (R271). Log 97 (DEDUCED, unsafe). -/
def layerForm (l : DcaLayer) : Bool :=
  decide (1 ≤ l.op) && decide (l.op ≤ 8) &&
  (!([1, 2, 4, 5].contains l.op) || ([1, 3, 5, 7].contains l.kernel && decide (1 ≤ l.stride) && decide (l.stride ≤ 2))) &&
  decide (l.pad ≤ 1) && decide (l.act ≤ 1) && (decide (l.op = 6) || decide (l.src1 = 0xFFFF))

/-- Does a layer keep the limits of R272 on channels, shapes and offsets. -/
def layerLimits (weights : Nat) (crop : Nat × Nat × Nat) (shapes : List (Nat × Nat × Nat)) (layers : List DcaLayer) (l : DcaLayer) : Bool :=
  match srcShape crop shapes l.src0 with
  | none => false
  | some s =>
    let rq := l.op ≤ 3
    decide (l.inC = s.1) &&
    (!([2, 4, 5, 6, 7, 8].contains l.op) || decide (l.inC = l.outC)) &&
    (decide (l.op ≠ 6) || srcShape crop shapes l.src1 = some s) &&
    (decide (l.op ≠ 8) || match layers[l.src0]? with | some q => decide (q.op = 3) | none => false) &&
    (!rq || (decide (l.wOfs + weightCount l s ≤ weights) && decide (l.bOfs + 4 * l.outC ≤ weights) && decide (l.qOfs + 8 * l.outC ≤ weights)))

/-- The body of the one section of a type; none where it is missing or doubled. -/
def oneSection (ss : List Section) (ty : Nat) : Option (List Byte) :=
  match ss.filter fun s => s.ty = ty with | [s] => some s.body | _ => none

/-- Read the model of a verified image, or the code that refuses it (R269 to R272). -/
def modelOf (bs : List Byte) : Except Nat DcaModel :=
  match imageOf bs with
  | none => .error 0xB001
  | some m =>
    if m.sections.any fun s => 0x44 ≤ s.ty ∧ s.ty ≤ 0x4F then .error 0xB001 else
    match oneSection m.sections 0x40, oneSection m.sections 0x41, oneSection m.sections 0x42, oneSection m.sections 0x43 with
    | some h, some ls, some ws, some lut =>
      let n := leAt h 17 1
      let layers := (List.range n).map fun i => dcaLayerOf (slice ls (32 * i) 32)
      let zero := decide (leAt h 18 2 = 0) && decide (leAt h 36 28 = 0) && (List.range 4).all (fun k => decide (k < leAt h 16 1) || decide (leAt h (32 + k) 1 = 0)) && (List.range n).all fun i => decide (leAt ls (32 * i + 25) 7 = 0)
      let ordered := layers.zipIdx.all fun (l, i) => (decide (l.src0 = 0xFFFF) || decide (l.src0 < i)) && (decide (l.src1 = 0xFFFF) || decide (l.src1 < i))
      if h.length ≠ 64 ∨ leAt h 0 4 ≠ 0x4D434144 ∨ leAt h 4 2 ≠ 1 ∨ n = 0 ∨ ls.length ≠ 32 * n ∨ lut.length ≠ 512 ∨ ws.length ≠ leAt h 20 4 ∨ leAt h 16 1 = 0 ∨ 4 < leAt h 16 1 ∨ !(layers.all layerForm) ∨ !(layers.all (requantForm ws)) ∨ !zero ∨ !ordered then .error 0xB001
      else
        let w := leAt h 12 2
        let hh := leAt h 14 2
        let classes := leAt h 6 2
        let crop := (leAt h 16 1, hh, w)
        let size := fun x => decide (32 ≤ x) && decide (x ≤ 512) && decide (x % 32 = 0)
        let lastBad : Bool := match layers.getLast? with | some l => decide (l.op ≠ 8) || decide (l.outC ≠ classes) | none => true
        let outs := (layers.filter fun l => l.op = 8).length
        let read := (List.range (n - 1)).all fun i => layers.any fun l => l.src0 = i || l.src1 = i
        match layerShapes crop layers [] with
        | none => .error 0xB001
        | some shapes =>
          if !(size w) ∨ !(size hh) ∨ 12582912 < ws.length ∨ 8388608 < leAt h 24 4 ∨ classes = 0 ∨ 1024 < classes ∨ outs ≠ 1 ∨ !read ∨ lastBad ∨ !(layers.all (layerLimits ws.length crop shapes layers)) then .error 0xB002
          else .ok { id := leAt h 8 4, classes := classes, inW := w, inH := hh, inCh := leAt h 16 1, ops := leAt h 28 4, map := (List.range (leAt h 16 1)).map fun k => leAt h (32 + k) 1, layers := layers, weights := ws, lut := (List.range 256).map fun i => leAt lut (2 * i) 2 }
    | _, _, _, _ => .error 0xB001

/-- Verify a model image: the code that refuses it, or the model (R275). -/
def verifyModel (bs : List Byte) : Except Nat DcaModel :=
  match imageCheck 3 bs with
  | .format => .error 0xB001
  | .hash => .error 0xB003
  | .signature => .error 0xB004
  | .ok => modelOf bs

/-! ### Arithmetic (R268, R273, R274) -/

/-- A tensor of int8 values, channel by channel, row by row. -/
structure Tensor where
  c : Nat
  h : Nat
  w : Nat
  v : List Int
  deriving DecidableEq, Repr

/-- The value at a place; outside values read 0. -/
def Tensor.at (t : Tensor) (c : Nat) (y x : Int) : Int :=
  if y < 0 ∨ x < 0 ∨ (t.h : Int) ≤ y ∨ (t.w : Int) ≤ x then 0 else t.v.getD ((c * t.h + y.toNat) * t.w + x.toNat) 0

def sat8 (x : Int) : Int := clampI (-128) 127 x
/-- A signed 32-bit accumulator wraps. -/
def wrap32 (x : Int) : Int := sx 32 (wrapN 32 x)
def DcaModel.w8 (m : DcaModel) (o : Nat) : Int := leAtI m.weights o 1

/-- The requantiser of an output channel (R273). -/
def DcaModel.requant (m : DcaModel) (l : DcaLayer) (o : Nat) (a : Int) : Int :=
  let mul := leAtI m.weights (l.qOfs + 8 * o) 4
  let sh := leAt m.weights (l.qOfs + 8 * o + 4) 1
  let y := if sh = 0 then sat8 (a * mul) else sat8 ((a * mul + 2 ^ (sh - 1)) / 2 ^ sh)
  if l.act = 1 then max y 0 else y

/-- Fill a tensor from a function of its places. -/
def Tensor.fill (c h w : Nat) (f : Nat → Nat → Nat → Int) : Tensor :=
  { c := c, h := h, w := w, v := (List.range c).flatMap fun o => (List.range h).flatMap fun y => (List.range w).map fun x => f o y x }

/-- The input places of a window. -/
def window (l : DcaLayer) (y x : Nat) : List (Nat × Int × Int) :=
  let off : Int := if l.pad = 1 then (l.kernel / 2 : Nat) else 0
  (List.range l.kernel).flatMap fun ky => (List.range l.kernel).map fun kx => (ky * l.kernel + kx, ((y * l.stride + ky : Nat) : Int) - off, ((x * l.stride + kx : Nat) : Int) - off)

/-- The output of one layer (R273). Log 97 (DEDUCED, unsafe). -/
def DcaModel.layer (m : DcaModel) (l : DcaLayer) (a b : Tensor) : Tensor :=
  let bias := fun o => leAtI m.weights (l.bOfs + 4 * o) 4
  let s := outShape l (a.c, a.h, a.w)
  let k2 := l.kernel * l.kernel
  let fill := Tensor.fill s.1 s.2.1 s.2.2
  match l.op with
  | 1 => fill fun o y x => m.requant l o (wrap32 (bias o + ((List.range l.inC).map fun i => ((window l y x).map fun p => m.w8 (l.wOfs + (o * l.inC + i) * k2 + p.1) * a.at i p.2.1 p.2.2).sum).sum))
  | 2 => fill fun o y x => m.requant l o (wrap32 (bias o + ((window l y x).map fun p => m.w8 (l.wOfs + o * k2 + p.1) * a.at o p.2.1 p.2.2).sum))
  | 3 => fill fun o _ _ => m.requant l o (wrap32 (bias o + (a.v.zipIdx.map fun (v, i) => m.w8 (l.wOfs + o * a.v.length + i) * v).sum))
  | 4 => fill fun o y x => ((window l y x).map fun p => a.at o p.2.1 p.2.2).foldl max (-128)
  | 5 => fill fun o y x => meanI ((window l y x).map fun p => a.at o p.2.1 p.2.2).sum k2
  | 6 => fill fun o y x => sat8 (a.at o y x + b.at o y x)
  | 7 => fill fun o _ _ => meanI ((a.v.drop (o * a.h * a.w)).take (a.h * a.w)).sum (a.h * a.w)
  | _ => a

/-- The outputs of all layers in order. -/
def DcaModel.run (m : DcaModel) (crop : Tensor) : List DcaLayer → List Tensor → List Tensor
  | [], done => done
  | l :: ls, done =>
    let src := fun i => if i = 0xFFFF then crop else done.getD i crop
    m.run crop ls (done ++ [m.layer l (src l.src0) (src l.src1)])

/-- The index of the greatest value, the lower one of equals. -/
def argMax (skip : Option Nat) (vs : List Int) : Option (Nat × Int) :=
  (vs.zipIdx.filter fun x => some x.2 ≠ skip).foldl (fun b x => match b with | none => some (x.2, x.1) | some y => if y.2 < x.1 then some (x.2, x.1) else b) none

/-- CLASS, SCORE, CLASS_2 and SCORE_2 of a crop (R274). -/
def DcaModel.classify (m : DcaModel) (crop : List (List Int)) : Nat × Nat × Nat × Nat :=
  let t : Tensor := { c := m.inCh, h := m.inH, w := m.inW, v := crop.flatten }
  let out := match (m.run t m.layers []).getLast? with | some o => o.v | none => []
  let score := fun (v : Int) => m.lut.getD (v + 128).toNat 0
  match argMax none out with
  | none => (0, 0, 0xFFFF, 0)
  | some (c, v) => match argMax (some c) out with | none => (c, score v, 0xFFFF, 0) | some (c2, v2) => (c, score v, c2, score v2)

/-! ### Banks (R275, R278) -/

/-- A bank whose last request has ended leaves DRAINING. -/
def Dev.drainBanks (d : Dev) : Dev :=
  [0, 1].foldl (fun d k => if d.fld (bankState k) = bankDraining ∧ !(d.dca.reqs.any fun r => r.bank = k) then d.setFld (bankState k) bankReady else d) d

/-- A bank becomes READY with a model (R275): its registers are copied from MODEL_HEAD. -/
def Dev.bankFill (d : Dev) (k : Nat) (m : DcaModel) : Dev :=
  let d := { d with dca := { d.dca with models := tset none d.dca.models k (some m) } }
  let d := (d.setFld (R.DCA_BANK_ID k) m.id).setFld (R.DCA_BANK_OPS k) m.ops
  ((d.setFld (R.DCA_BANK_SHAPE_IN_W k) m.inW).setFld (R.DCA_BANK_SHAPE_IN_H k) m.inH).setFld (R.DCA_BANK_SHAPE_CLASSES k) m.classes

/-- A bank without a model. -/
def Dev.bankClear (d : Dev) (k st : Nat) : Dev :=
  ({ d with dca := { d.dca with models := tset none d.dca.models k none } }).setFld (bankState k) st

/-- The Foyer loads a model slot (R277). Log 98 (DEDUCED, unsafe). -/
def Dev.loadModelSlot (d : Dev) (k : Nat) : Dev :=
  match verifyModel (d.flashImage (flashModel k) modelSize) with
  | .ok m => (d.bankFill k m).setFld (bankState k) bankReady
  | .error _ => ((d.bankClear k bankFailed).setFld R.DCA_LAST_ERR 0xB00A).raise R.DCA_EVENTS_SLOT_BAD

/-- ACTIVE_BANK and DECIDE_MD of a request row (R278, R282). -/
def Dev.dcaVer (d : Dev) (l : Nat) : Nat × Nat :=
  match d.dca.vers.find? fun v => v.1 ≤ l with | some v => v.2 | none => (d.live R.DCA_CTRL_ACTIVE_BANK, d.live R.DCA_DECIDE_MD)

/-- A commit with boundary `b`: the named bank becomes ACTIVE, the other drains (R278). Log 98 (DEDUCED, unsafe). -/
def Dev.dcaCommit (d : Dev) (b : Nat) : Dev :=
  let k := d.live R.DCA_CTRL_ACTIVE_BANK
  let next := d.blob.nextRow
  let d := d.setDca fun x =>
    let vs := (b, k, d.live R.DCA_DECIDE_MD) :: x.vers.filter fun v => v.1 ≠ b
    let later := fun (v : Nat × Nat × Nat) => decide (next < v.1)
    { x with vers := vs.takeWhile later ++ (vs.dropWhile later).take 1 }
  let d := if d.fld (bankState k) = bankReady ∨ d.fld (bankState k) = bankDraining then d.setFld (bankState k) bankActive else d
  let d := if d.fld (bankState (1 - k)) = bankActive then d.setFld (bankState (1 - k)) bankDraining else d
  d.drainBanks

/-- A run starts: its rows take the settings live now (R278, R282). -/
def Dev.dcaStart (d : Dev) : Dev := d.setDca fun x => { x with vers := [(0, d.live R.DCA_CTRL_ACTIVE_BANK, d.live R.DCA_DECIDE_MD)] }

/-! ### Requests (R263 to R267, R279 to R283) -/

/-- A marker decision (R283, R305): by class, by the policy, or because no request was made. -/
inductive Verdict where
  | byClass (c : Nat) | policy | noRequest
  deriving DecidableEq, Repr

/-- LEVEL and PEAK follow the requests. -/
def Dev.dcaLevel (d : Dev) : Dev :=
  let n := d.dca.reqs.length
  let d := d.setFld R.DCA_QUEUE_LEVEL n
  if d.fld R.DCA_QUEUE_PEAK < n then d.setFld R.DCA_QUEUE_PEAK n else d

/-- The CLASSIFIED record of a request (R248). -/
def Dev.classified (d : Dev) (r : DcaReq) (c s c2 s2 model : Nat) (late : Bool) : Dev :=
  let timing := if r.deadline.isNone then 2 else if late then 1 else 0
  let body := leBytes 8 r.who.line ++ leInt 8 r.who.md ++ leInt 4 (d.cdOf r.who.col) ++ leBytes 2 c ++ leBytes 2 s ++ leBytes 2 c2 ++ leBytes 2 s2 ++ leBytes 4 model ++ leBytes 1 r.bank ++ leBytes 1 timing ++ leBytes 2 r.w ++ leBytes 2 r.h ++ zeros 2 ++ leBytes 8 r.top ++ leBytes 4 (d.gcol r.left)
  let b : RecBody := { ty := tyClassified, flags := d.liveFlags, ident := r.who.ident, place := d.place r.who.stripe, epoch := d.fld R.GLB_EPOCH, body := body, piece := 0, reason := 0 }
  (((d.create b (some r.who.role) none).galClass r.who.ident c).incr R.DCA_CNT0).fire P.dcaDone

/-- A request ends with a CLASSIFIED record; the marker decision is given if it was not yet, and DCA_DEADLINE fires where it is by the policy (R264,
R280, R283). -/
def Dev.endRequest (d : Dev) (r : DcaReq) (c s c2 s2 model : Nat) (v : Verdict) : Dev × List (Subject × Verdict) :=
  let d := d.classified r c s c2 s2 model r.decided
  let d := ((d.setDca fun x => { x with reqs := x.reqs.filter fun q => q.seq ≠ r.seq }).drainBanks).dcaLevel
  if r.decided then (d, []) else (if v = .policy then d.fire P.dcaDeadline else d, [(r.who, v)])

/-- A request ends without a result (R280). -/
def Dev.endNoResult (d : Dev) (r : DcaReq) (reason : Nat) : Dev × List (Subject × Verdict) := d.endRequest r 0xFFFF 0 reason 0 0 .policy

/-- Is a bank without a model (R280). Log 100 (DESIGN CHOICE, unsafe). -/
def Dev.noModel (d : Dev) (k : Nat) : Bool := (d.bankModel k).isNone || decide (d.fld (bankState k) = bankEmpty) || decide (d.fld (bankState k) = bankFailed)

/-- What an identity's first record, created in row `l`, says (R8, R305). -/
def Dev.subject (d : Dev) (l : Nat) (x : Defect) : Subject :=
  { ident := x.ident, role := x.role, stripe := d.stripeAt x.role l, line := x.line, md := d.linePos x.line, col := x.col, colMin := x.acc.colMin, colMax := x.acc.colMax }

/-- An identity's first record was created in row `l`: a request is made, or the markers decide at once (R263, R265, R266, R279, R305). -/
def Dev.firstRecord (d : Dev) (l : Nat) (x : Defect) : Dev × List (Subject × Verdict) :=
  let who := d.subject l x
  let on := d.lflag R.DCA_CTRL_ENABLE && (decide (d.mode = .inspect) || decide (d.mode = .degraded) || decide (d.mode = .replay))
  if !on ∨ x.total < max (d.live R.DCA_CLS_MIN_AREA) 1 then (d, [(who, .noRequest)]) else
  let (bank, decide_) := d.dcaVer l
  let (w, h) := match d.bankModel bank with | some m => (m.inW, m.inH) | none => (0, 0)
  let cx := (x.boxLo + x.boxHi) / 2
  let r : DcaReq := { seq := d.dca.nextSeq, who := who, left := min (cx - w / 2) (d.stitchCols - w), top := x.line - d.live R.DCA_CROP_CFG, w := w, h := h, bank := bank, deadline := if decide_ = 0 then none else some (who.md + decide_), decided := false, crop := none, running := false }
  let d := d.setDca fun s => { s with nextSeq := s.nextSeq + 1 }
  if 4096 ≤ d.dca.reqs.length then
    (((d.bump R.DCA_CNT2).setFld R.DCA_LAST_ERR 0xB008).raise R.DCA_EVENTS_QUEUE_FULL).endNoResult r 2
  else if d.noModel bank then d.endNoResult r 4
  else ((d.setDca fun s => { s with reqs := s.reqs ++ [r] }).dcaLevel, [])

/-- The int8 planes of a crop (R268); none when a row is not there under the tag protocol (R153, R267). -/
def Dev.readCrop (d : Dev) (r : DcaReq) (m : DcaModel) : Option (List (List Int)) :=
  let rows := (List.range r.h).map (r.top + ·)
  if rows.any fun l => (d.tagOf l).isNone then none else
  some (m.map.map fun k => rows.flatMap fun l => (d.attWide k l r.left r.w).map fun v => ((v / 256 : Nat) : Int) - 128)

/-- Does request `a` start before request `b` (R279). Log 99 (DEDUCED, unsafe). -/
def startsBefore (hwm : Int) (a b : DcaReq) : Bool :=
  let due := fun (r : DcaReq) => match r.deadline with | some t => if hwm < t then some t else none | none => none
  match due a, due b with
  | some x, some y => decide (x < y) || (decide (x = y) && decide (a.seq < b.seq))
  | some _, none => true
  | none, some _ => false
  | none, none => decide (a.seq < b.seq)

/-- Has a request become ready: its crop is fetched, or ATT_HEAD covers it (R266). -/
def Dev.reqReady (d : Dev) (r : DcaReq) : Bool := r.crop.isSome || (d.attReady && decide (r.top + r.h ≤ d.blv.head + 1))

/-- The request that comes first in the order of R279. Log 264 (DEDUCED, unsafe). -/
def Dev.firstOf (d : Dev) : List DcaReq → Option DcaReq
  | [] => none
  | x :: xs => some (xs.foldl (fun a b => if startsBefore d.pos.hwm b a then b else a) x)

/-- Change a request. -/
def Dev.updReq (d : Dev) (seq : Nat) (f : DcaReq → DcaReq) : Dev := d.setDca fun x => { x with reqs := x.reqs.map fun q => if q.seq = seq then f q else q }

/-- A ready request's crop is fetched, or the request expires (R266, R267). -/
def Dev.fetchReq (d : Dev) (r : DcaReq) : Dev × List (Subject × Verdict) :=
  match d.bankModel r.bank with
  | none => d.endNoResult r 4
  | some m =>
    match if r.top < d.attOldest then none else d.readCrop r m with
    | some c => (d.updReq r.seq fun q => { q with crop := some c }, [])
    | none => (((d.bump R.DCA_CNT1_EXPIRED_CNT).setFld R.DCA_LAST_ERR 0xB007).raise R.DCA_EVENTS_CROP_EXPIRED).endNoResult r 1

/-- DCA_CROP_FETCH: of the ready requests that are not fetched, the first in the order of R279 is fetched, or expires (R266, R267).
Log 264 (DEDUCED, unsafe). -/
def Dev.cropFetch (d : Dev) : Dev × List (Subject × Verdict) :=
  match d.firstOf (d.dca.reqs.filter fun r => r.crop.isNone && d.reqReady r) with
  | none => (d, [])
  | some r => d.fetchReq r

/-- DCA_RUN_START: the array takes the next ready request (R279), whose crop it waits for where that is not fetched yet.
Log 99 (DEDUCED, unsafe), 264 (DEDUCED, unsafe). -/
def Dev.runStart (d : Dev) : Dev × List (Subject × Verdict) :=
  if d.dca.reqs.any (·.running) then (d, []) else
  match d.firstOf (d.dca.reqs.filter d.reqReady) with
  | none => (d, [])
  | some r =>
    if d.noModel r.bank then d.endNoResult r 4 else
    let (d, vs) := if r.crop.isNone then d.fetchReq r else (d, [])
    (d.updReq r.seq fun q => { q with running := q.crop.isSome }, vs)

/-- DCA_RESULT: the running request's result becomes known, or a memory error ends it (R274, R280, R283). -/
def Dev.dcaResult (d : Dev) (memError : Bool) : Dev × List (Subject × Verdict) :=
  match d.dca.reqs.find? (·.running) with
  | none => (d, [])
  | some r =>
    if memError then
      let d := (((d.bankClear r.bank bankFailed).setFld R.DCA_LAST_ERR 0xB009).raise R.DCA_EVENTS_MODEL_FAULT)
      d.endNoResult r 5
    else
      match d.bankModel r.bank, r.crop with
      | some m, some c =>
        let (k, s, k2, s2) := m.classify c
        d.endRequest r k s k2 s2 m.id (.byClass k)
      | _, _ => d.endNoResult r 4

/-- DCA_DEADLINE: HWM has reached the deadline of undecided requests, whose decisions follow the policy (R283). A result of the same cycle wins, so they
are given once the cycle is over. Log 220 (DEDUCED, unsafe), 265 (DEDUCED, unsafe). -/
def Dev.dcaDeadline (d : Dev) : Dev × List (Subject × Verdict) :=
  let due := d.dca.reqs.filter fun r => !r.decided && match r.deadline with | some t => decide (t ≤ d.pos.hwm) | none => false
  let d := if due.isEmpty then d else d.advance (d.time + 1)
  let d := d.setDca fun x => { x with reqs := x.reqs.map fun r => if due.any fun q => q.seq = r.seq then { r with decided := true } else r }
  let d := due.foldl (fun d _ => ((d.bump R.DCA_CNT1_LATE_CNT).raise R.DCA_EVENTS_LATE).fire P.dcaDeadline) d
  (d, due.map fun r => (r.who, .policy))

/-- The part leaves INSPECT, DEGRADED and REPLAY: requests not started end (R280). Log 101 (DEDUCED, unsafe). -/
def Dev.dcaStop (d : Dev) : Dev × List (Subject × Verdict) :=
  (d.dca.reqs.filter fun r => !r.running).foldl (fun (d, vs) r => let (d, v) := d.endNoResult r 3; (d, vs ++ v)) (d, [])

/-- In FAULT every held request is abandoned without a record (R280). -/
def Dev.dcaAbandon (d : Dev) : Dev := ((d.setDca fun x => { x with reqs := [] }).drainBanks).dcaLevel

/-! ### Checks at sealing (R284) -/

/-- The first failed check; `g` reads the seal image. Log 102 (DEDUCED, unsafe). -/
def Dev.dcaDiag (d : Dev) (g : Fld → Nat) : Option Nat :=
  if g R.DCA_CTRL_ENABLE = 0 then none else
  let k := g R.DCA_CTRL_ACTIVE_BANK
  let st := d.fld (bankState k)
  if st ≠ bankReady ∧ !(st = bankActive ∧ d.live R.DCA_CTRL_ACTIVE_BANK = k) then some 1 else
  match d.bankModel k with
  | none => some 1
  | some m =>
    let pre := g R.DCA_CROP_CFG
    if m.map.any fun l => 4 ≤ l ∨ g (R.BLV_LAYER_CFG_ENABLE l) = 0 then some 2
    else if g R.BLV_STITCH_COLS < m.inW then some 3
    else if m.inH ≤ pre then some 4
    else if attRows g < m.inH + pre + g R.BLV_ATT_CFG_ATT_GUARD then some 5
    else if g R.DCA_CTRL_UNCL_POLICY = 1 ∧ m.classes ≤ g R.DCA_UNCL_CLASS then some 6
    else none

end Sys2Proof.Machine
end

