-- ==== Sys2Proof/Machine/Markers.lean ====
section
/-!
DEFINITION. The markers (R304 to R310): decisions, pool slots, the output with its intervals, spans, holdoff and INHIBIT, MARKED
records, and the checks of the PLZ block at sealing.
-/
namespace Sys2Proof.Machine

def mark0 : Mark := {}
def Dev.mark (d : Dev) (k : Nat) : Mark := tget mark0 d.marks.outs k
def Dev.setMark (d : Dev) (k : Nat) (x : Mark) : Dev := { d with marks := { d.marks with outs := tset mark0 d.marks.outs k x } }

/-- The pool of a marker (R304): SLOT_COUNT 0 acts as 1, above 64 as 64. -/
def poolOf (g : Fld → Nat) (k : Nat) : List Nat :=
  let b := g (R.PLZ_MARK_CFG_SLOT_BASE k)
  ((List.range (min (max (g (R.PLZ_MARK_CFG_SLOT_COUNT k)) 1) 64)).map (b + ·)).filter (· ≤ 255)

/-- Is a slot in the pool of an enabled marker, so that software cannot write its registers (R304). -/
def Dev.slotOwned (d : Dev) (slot : Nat) : Bool := (List.range 8).any fun k => d.lflag (R.PLZ_MARK_CFG_ENABLE k) && (poolOf d.live k).contains slot

/-- Does an open or waiting span hold a slot (R306). -/
def Mark.holds (m : Mark) (slot : Nat) : Bool := (m.spans ++ m.waitSpans).any fun s => s.on = slot || s.off = slot

/-- The free slots of a marker's pool, lowest first. -/
def Dev.freeSlots (d : Dev) (k : Nat) : List Nat := (poolOf d.live k).filter fun s => !(d.flag (R.POS_CMP_CTRL_ARM s)) && !((d.mark k).holds s)

/-- HIGH, INHIBITED and OPEN_SPANS follow the marker. -/
def Dev.markStatus (d : Dev) (k : Nat) : Dev :=
  let m := d.mark k
  let used := ((poolOf d.live k).filter fun s => d.flag (R.POS_CMP_CTRL_ARM s) || m.holds s).length
  (((d.setFlag (R.PLZ_MARK_STATUS_HIGH k) m.high).setFlag (R.PLZ_MARK_STATUS_INHIBITED k) m.inhibit).setFld (R.PLZ_MARK_STATUS_OPEN_SPANS k) m.spans.length).setFld (R.PLZ_MARK_STATUS_SLOTS_USED k) used

/-- MD_FIRED where nothing fired (R308). -/
def noMd : Int := -(2 ^ 63 : Int)

/-- The MARKED record of an identity (R249, R308). Log 108 (DEDUCED, unsafe). -/
def Dev.marked (d : Dev) (k slot : Nat) (who : Subject) (target fired : Int) (action decision : Nat) : Dev :=
  let body := leBytes 8 who.line ++ leInt 8 who.md ++ leInt 4 (d.cdOf who.col) ++ leBytes 2 k ++ leBytes 2 slot ++ leInt 8 target ++ leInt 8 fired ++ leBytes 2 action ++ leBytes 1 decision
  d.create { ty := tyMarked, flags := d.liveFlags, ident := who.ident, place := d.place who.stripe, epoch := d.fld R.GLB_EPOCH, body := body, piece := 0, reason := 0 } (some who.role) none

/-- Arm a pool slot (R304): the marker writes the slot's registers and arms it. Log 108 (DEDUCED, unsafe). -/
def Dev.armPool (d : Dev) (slot : Nat) (target : Int) (lead : Nat) (e : MarkSlot) : Dev :=
  let d := ((d.setFldI (R.POS_CMP_TARGET slot) target).setFld (R.POS_CMP_PERIOD slot) 0).setFld (R.POS_CMP_LEAD slot) lead
  let d := (d.setFld (R.POS_CMP_CTRL_BOTH slot) 0).armSlot slot target 0 lead false
  { d with marks := { d.marks with slots := (slot, e) :: d.marks.slots.filter fun x => x.1 ≠ slot } }

/-- The ACTION of a decision (R305). -/
def Dev.actionOf (d : Dev) (k : Nat) (v : Verdict) : Nat × Nat :=
  let entry := fun c => let f := R.PLZ_ACTION_TABLE k (c / 2); d.live ⟨f.addr, c % 2 * 16, 16⟩
  match v with
  | .byClass c => (entry c, 0)
  | .policy => (if d.live R.DCA_CTRL_UNCL_POLICY = 1 then entry (d.live R.DCA_UNCL_CLASS) else 0, 1)
  | .noRequest => (d.live (R.PLZ_MARK_NOCLS k), 1)

/-- Marker `k` takes a decision (R305, R306, R308, R309). Log 111 (DEDUCED, unsafe). -/
def Dev.markDecide (d : Dev) (k : Nat) (who : Subject) (v : Verdict) : Dev :=
  let (action, decision) := d.actionOf k v
  let mode := action % 4
  let meets := decide (d.slive (R.PLZ_MARK_CD_LO k) ≤ d.cdOf who.colMax) && decide (d.cdOf who.colMin ≤ d.slive (R.PLZ_MARK_CD_HI k))
  if !(d.lflag (R.PLZ_MARK_CFG_ENABLE k)) ∨ mode = 0 ∨ mode = 3 ∨ !meets then d else
  let target := who.md + d.slive (R.PLZ_MARK_DIST k)
  let lead := d.live (R.PLZ_MARK_LEAD k)
  let gone := fun (d : Dev) => d.marked k 0xFFFF who target noMd action decision
  if d.mode = .replay then gone d else
  let full := fun (d : Dev) => gone (((d.bump (R.PLZ_MARK_CNT1_FULL k)).setFld R.PLZ_LAST_ERR 0xA008).raise R.PLZ_EVENTS_MARK_FULL)
  let late := decide (target + d.live (R.PLZ_MARK_LATE_TOL k) ≤ d.pos.md + leadDist false lead d.pos.speed)
  let missed := fun (d : Dev) => gone (((d.bump (R.PLZ_MARK_CNT0_MISSED k)).setFld R.PLZ_LAST_ERR 0xA007).raise R.PLZ_EVENTS_MARK_MISSED)
  let e : MarkSlot := { marker := k, off := false, pair := none, who := who, action := action, decision := decision, target := target }
  match mode, d.freeSlots k with
  | 1, s :: _ => if late then missed d else (d.armPool s target lead e).markStatus k
  | 2, s :: t :: _ =>
    if late then missed d else
    let span := d.live (R.PLZ_MARK_MAX_SPAN k)
    let d := d.armPool s target lead { e with pair := some t }
    (d.armPool t (target + (if span = 0 then 16 else span)) lead { e with off := true, pair := some s }).markStatus k
  | _, _ => full d

/-- The decisions of the classifier reach every marker. -/
def Dev.markDecisions (d : Dev) (vs : List (Subject × Verdict)) : Dev :=
  vs.foldl (fun d (who, v) => (List.range 8).foldl (fun d k => d.markDecide k who v) d) d

/-- An identity's CLOSED record was created: OFF slots that have not fired are armed anew (R306). -/
def Dev.markClosed (d : Dev) (ident last : Nat) : Dev :=
  (d.marks.slots.filter fun x => x.2.off && decide (x.2.who.ident = ident)).foldl (fun d x =>
    let k := x.2.marker
    if d.flag (R.POS_CMP_CTRL_ARM x.1) then d.armPool x.1 (d.linePos last + d.slive (R.PLZ_MARK_DIST k) + d.slive (R.PLZ_MARK_SPAN_TAIL k)) (d.live (R.PLZ_MARK_LEAD k)) x.2 else d) d

/-- What a row's records mean for the classifier and the markers. -/
def Dev.afterRow (d : Dev) (o : RowOut) : Dev :=
  let (d, vs) := o.firsts.foldl (fun (d, vs) x => let (d, v) := d.firstRecord o.line x; (d, vs ++ v)) (d, [])
  o.closed.foldl (fun d c => d.markClosed c.1 c.2) (d.markDecisions vs)

/-! ### The output (R307) -/

/-- PULSE_NS in cycles. Log 103 (DESIGN CHOICE, unsafe). -/
def Dev.markPulse (d : Dev) (k : Nat) : Nat := pulseCycles (d.live (R.PLZ_MARK_PULSE k))

/-- Bring the output to what its interval, spans, INHIBIT and holdoff make it now. MARKk fires at a rise, with LINEAGE `lin` (R288).
Log 109 (DEDUCED, unsafe), 267 (DEDUCED, unsafe). -/
def Dev.markUpdate (d : Dev) (k : Nat) (lin : Nat := 0) : Dev :=
  let m := d.mark k
  let m := { m with spans := m.spans.filter fun s => !(s.offFired && decide (s.closeAt ≤ d.time)) }
  let want := (decide (d.time < m.endAt) || decide (m.spans ≠ [])) && !m.inhibit
  if m.high && !want then
    (d.setMark k { m with high := false, holdUntil := d.time + nsFloor (d.live (R.PLZ_MARK_HOLDOFF k)) }).markStatus k
  else if !m.high && want && decide (m.holdUntil ≤ d.time) then
    ((d.setMark k { m with high := true }).markStatus k).fire (P.mark k) .pulse lin
  else (d.setMark k m).markStatus k

/-- A rise reaches the marker: a pulse, or a span opening (R307). `lin`: the LINEAGE that MARKk takes from its cause (R288). Log 267 (DEDUCED, unsafe). -/
def Dev.markRise (d : Dev) (k : Nat) (span : Option MarkSpan) (lin : Nat) : Dev :=
  let m := d.mark k
  if !m.high && decide (d.time < m.holdUntil) then
    let m := { m with waitLin := max m.waitLin lin }
    d.setMark k (match span with | some s => { m with waitSpans := m.waitSpans ++ [s] } | none => { m with waitPulse := true })
  else
    (d.setMark k (match span with
      | some s => { m with spans := m.spans ++ [{ s with closeAt := d.time + d.markPulse k }] }
      | none => { m with endAt := d.time + d.markPulse k })).markUpdate k lin

/-- INHIBIT reaches a marker (R293, R295). Log 110 (DEDUCED, unsafe). -/
def Dev.markInhibit (d : Dev) (k : Nat) : Dev :=
  match d.take (0x48 + k) with
  | (none, d) => d
  | (some x, d) =>
    let m := d.mark k
    match x.level with
    | .pulse => d
    | l => (d.setMark k { m with inhibit := decide (l = .set), inhAt := d.time + 1 }).markUpdate k

/-- INHIBIT events due in this cycle come first (R295). Log 110 (DEDUCED, unsafe). -/
def Dev.inhibitFirst (d : Dev) (k : Nat) : Dev := if d.dueAt (0x48 + k) d.time then d.markInhibit k else d

/-- FIRE reaches a marker (R293, R295, R296, R307). Log 109 (DEDUCED, unsafe), 267 (DEDUCED, unsafe). -/
def Dev.markFire (d : Dev) (k : Nat) : Dev :=
  d.onPulse (0x40 + k) fun x d =>
    let both := d.dueAt (0x48 + k) d.time || decide ((d.mark k).inhAt = d.time + 1)
    let d := d.inhibitFirst k
    let d := if both then d.clash (0x40 + k) else d
    let m := d.mark k
    let d := if !m.high && decide (d.time < m.holdUntil) then d.overrun (0x40 + k) else d
    if m.inhibit then d else d.markRise k none (x.lineage + 1)

/-- A pool slot has fired; it reaches its marker two cycles later (R307). -/
def Dev.slotFired (d : Dev) (slot : Nat) : Dev :=
  match d.marks.slots.find? fun x => x.1 = slot with
  | none => d
  | some (_, e) =>
    let d := { d with marks := { d.marks with slots := d.marks.slots.filter fun x => x.1 ≠ slot, arrivals := d.marks.arrivals ++ [(slot, d.time + 2, d.pos.md, e)] } }
    d.markStatus e.marker

/-- Close the span of an OFF slot, or let the span that its ON slot will open close by itself (R307). -/
def Dev.offArrive (d : Dev) (slot k : Nat) : Dev :=
  let m := d.mark k
  let close := fun (s : MarkSpan) => if s.off = slot then { s with offFired := true } else s
  if (m.spans ++ m.waitSpans).any fun s => s.off = slot then
    (d.setMark k { m with spans := m.spans.map close, waitSpans := m.waitSpans.map close }).markUpdate k
  else
    let early := fun (e : MarkSlot) => if e.marker = k ∧ e.pair = some slot ∧ !e.off then { e with pair := none } else e
    { d with marks := { d.marks with slots := d.marks.slots.map fun x => (x.1, early x.2), arrivals := d.marks.arrivals.map fun x => (x.1, x.2.1, x.2.2.1, early x.2.2.2) } }

/-- MARK_SLOT_ARRIVE: the earliest firing on its way reaches its marker (R307, R308). -/
def Dev.slotArrive (d : Dev) : Dev :=
  match earliest (d.marks.arrivals.map fun x => x.2.1) with
  | none => d
  | some t =>
    match d.marks.arrivals.find? fun x => x.2.1 = t with
    | none => d
    | some (slot, _, md, e) =>
      let d := { d with marks := { d.marks with arrivals := d.marks.arrivals.erase (slot, t, md, e) } }
      let k := e.marker
      let d := (d.advance t).inhibitFirst k
      if e.off then d.offArrive slot k
      else if (d.mark k).inhibit then
        let d := match e.pair with
          | some o => if e.action % 4 = 2 then ({ d with marks := { d.marks with slots := d.marks.slots.filter fun x => x.1 ≠ o } }).disarmSlot o else d
          | none => d
        ((d.bump (R.PLZ_MARK_CNT1_INHIBIT_CNT k)).marked k slot e.who e.target noMd e.action e.decision).markStatus k
      else
        let d := (d.bump (R.PLZ_MARK_CNT0_FIRED k)).marked k slot e.who e.target md e.action e.decision
        if e.action % 4 = 2 then d.markRise k (some { on := slot, off := e.pair.getD slot, offFired := e.pair.isNone, closeAt := 0 }) 0
        else d.markRise k none 0

/-- MARK_PULSE_END: the running interval, or the least time of a span whose OFF slot has fired, ends (R307). -/
def Dev.markPulseEnd (d : Dev) (k : Nat) : Dev :=
  let m := d.mark k
  let ends := (if d.time < m.endAt then [m.endAt] else []) ++ (m.spans.filter fun s => s.offFired && decide (d.time < s.closeAt)).map (·.closeAt)
  match earliest ends with
  | none => d.markUpdate k
  | some t => (d.advance t).markUpdate k

/-- MARK_HOLDOFF_END: holdoff ends, and a rise that waited on it takes place (R307). -/
def Dev.markHoldoffEnd (d : Dev) (k : Nat) : Dev :=
  let m := d.mark k
  if m.high then d else
  let d := d.advance m.holdUntil
  let e := d.time + d.markPulse k
  (d.setMark k { m with endAt := if m.waitPulse then e else m.endAt, spans := m.spans ++ m.waitSpans.map fun s => { s with closeAt := e }, waitPulse := false, waitSpans := [], waitLin := 0 }).markUpdate k m.waitLin

/-- Entry to FAULT: pool slots are disarmed, spans and intervals end (R309). -/
def Dev.markFault (d : Dev) : Dev :=
  let pools := (List.range 8).flatMap fun k => if d.lflag (R.PLZ_MARK_CFG_ENABLE k) then poolOf d.live k else []
  let d := (pools ++ d.marks.slots.map (·.1)).foldl Dev.disarmSlot d
  let d := { d with marks := { d.marks with slots := [], arrivals := [] } }
  (List.range 8).foldl (fun d k =>
    (d.setMark k { d.mark k with endAt := 0, spans := [], waitPulse := false, waitSpans := [], waitLin := 0 }).markUpdate k) d

/-! ### Checks at sealing (R310) -/

/-- The first failed check with its item and code; `g` reads the seal image. -/
def plzDiag (g : Fld → Nat) : Option (Nat × Nat × Nat) :=
  let count := fun i => g (R.PLZ_IN_SEL0_COUNT i)
  let chans := fun i => [g (R.PLZ_IN_SEL0_CH0 i), g (R.PLZ_IN_SEL0_CH1 i), g (R.PLZ_IN_SEL1_CH2 i), g (R.PLZ_IN_SEL1_CH3 i)].take (count i)
  let all := (List.range 256).flatMap chans
  let shared := all.find? fun c => 2 ≤ (all.filter (· = c)).length
  let bad := (List.range 256).findSome? fun i =>
    if (0xF3 ≤ i ∧ count i ≠ 0) ∨ 4 < count i then some i
    else (chans i).find? fun c => decide (g (R.PLZ_CH_BIND_ENABLE c) = 0) || !(producerListed (g (R.PLZ_CH_BIND_PRODUCER c)))
  let on := fun k => decide (g (R.PLZ_MARK_CFG_ENABLE k) = 1)
  let base := fun k => g (R.PLZ_MARK_CFG_SLOT_BASE k)
  let size := fun k => min (max (g (R.PLZ_MARK_CFG_SLOT_COUNT k)) 1) 64
  let spans := fun k => decide (g (R.PLZ_MARK_NOCLS k) % 4 = 2) || (List.range 512).any fun j => decide (g (R.PLZ_ACTION_TABLE_E0 k j) % 4 = 2) || decide (g (R.PLZ_ACTION_TABLE_E1 k j) % 4 = 2)
  let marker := (List.range 8).find? fun k => on k &&
    (decide (256 < base k + size k) || (List.range k).any (fun q => on q && decide (base q < base k + size k) && decide (base k < base q + size q)) ||
      (decide (g (R.PLZ_MARK_CFG_SLOT_COUNT k) < 2) && spans k) || decide (sx 32 (g (R.PLZ_MARK_CD_HI k)) < sx 32 (g (R.PLZ_MARK_CD_LO k))))
  let pin := (List.range 32).find? fun p =>
    let src := g (R.PLZ_GPIO_CFG_SOURCE p)
    let out := decide (g (R.PLZ_GPIO_CFG_DIR p) = 1)
    let edge := g (R.PLZ_GPIO_CFG_IN_EDGE p)
    ((decide (src = 1) || decide (src = 2)) && !out) || (out && decide (1 ≤ edge) && decide (edge ≤ 7)) || (decide (src = 2) && !(on (g (R.PLZ_GPIO_CFG_MARKER p))))
  match shared, bad, marker, pin with
  | some c, _, _, _ => some (1, c, 0xA001)
  | none, some i, _, _ => some (2, i, 0xA002)
  | none, none, some k, _ => some (3, k, 0xA003)
  | none, none, none, some p => some (4, p, 0xA004)
  | none, none, none, none => none

/-! ### Writes of the compare slots -/

/-- A write to a CMP word (R50, R304): a firing of the cycle in which CMP_CTRL is written stands (R53). Log 205 (DESIGN CHOICE, unsafe). -/
def Dev.cmpWrite (d : Dev) (k off v : Nat) : Dev :=
  if d.slotOwned k then d.raise R.PLZ_EVENTS_SLOT_WRITE else
  let d := if off = 0x10 then (d.cmpNow k).1 else d
  let d := d.plainWrite (0x00104000 + k * 0x20 + off) v
  if off ≠ 0x10 then d
  else if bitOf v 0 then d.armSlot k (d.sfld (R.POS_CMP_TARGET k)) (d.fld (R.POS_CMP_PERIOD k)) (d.fld (R.POS_CMP_LEAD k)) (d.flag (R.POS_CMP_CTRL_BOTH k))
  else d.disarmSlot k

end Sys2Proof.Machine
end

