-- ==== Sys2Proof/Machine/Gallery.lean ====
section
/-!
DEFINITION. The Gallery and the panel output (chapter 11): regions and their lines, overlays, the profile strip, composition,
staged registers, DisplayPort, and preview frames.
-/
namespace Sys2Proof.Machine

def galRegion0 : GalRegion := {}
def Dev.setGal (d : Dev) (f : GalState → GalState) : Dev := { d with gal := f d.gal }
def Dev.region (d : Dev) (r : Nat) : GalRegion := tget galRegion0 d.gal.regions r
def Dev.setRegion (d : Dev) (r : Nat) (x : GalRegion) : Dev := d.setGal fun g => { g with regions := tset galRegion0 g.regions r x }

/-- The word at a GAL address of the live copy (R345). -/
def Dev.galWord (d : Dev) (a : Nat) : Nat := (tget (resetWord a) d.gal.live a).toNat

/-- A field of the live copy of the staged registers. -/
def Dev.galF (d : Dev) (f : Fld) : Nat := bits (d.galWord f.addr + (if f.lo + f.w ≤ 32 then 0 else d.galWord (f.addr + 4) * 2 ^ 32)) f.lo f.w

/-- Is an address staged (R345). -/
def galStaged (a : Nat) : Bool := decide (0x700100 ≤ a) && decide (a < 0x703000)

/-! ### Which columns and rows a region shows (R335 to R337) -/

/-- First and last local column of a region. -/
def Dev.galCols (d : Dev) (r : Nat) : Nat × Nat :=
  if 2 ≤ r ∧ d.galF (R.GAL_REG_CFG_BIND r) = 1 then
    let role := d.galF (R.GAL_REG_CFG_ROLE r)
    let s := d.slive (R.BLV_BAND_START role)
    let e := s + (d.live (R.STR_BAND_COLS role) : Int) - 1
    ((max 0 s).toNat, (min ((d.stitchCols : Int) - 1) e).toNat)
  else (d.galF (R.GAL_REG_COL_LO r), d.galF (R.GAL_REG_COL_HI r))

def Dev.galDecim (d : Dev) (r : Nat) : Nat := max (d.galF (R.GAL_REG_MD_MD_DECIM r)) 1
def Dev.galRep (d : Dev) (r : Nat) : Nat := d.galF (R.GAL_REG_MD_MD_REP r) + 1
def Dev.galOn (d : Dev) (r : Nat) : Bool := d.galF (R.GAL_REG_CFG_ENABLE r) = 1

/-- Combine values: MEAN, MAX or MIN (R336). -/
def galReduce (mode : Nat) : List Nat → Nat
  | [] => 0
  | x :: xs => match mode with
    | 1 => xs.foldl max x
    | 2 => xs.foldl min x
    | _ => (meanI ((x :: xs).sum : Nat) (xs.length + 1)).toNat

/-- Combine rows column by column, layer by layer. Log 125 (DEDUCED, unsafe). -/
def galCombine (mode : Nat) (rows : List (List (Nat × List Nat))) : List (Nat × List Nat) :=
  match rows with
  | [] => []
  | first :: _ => first.map fun (k, vs) =>
    (k, (List.range vs.length).map fun i => galReduce mode (rows.filterMap fun r => (r.find? fun x => x.1 = k).map fun x => x.2.getD i 0))

/-- The columns of a row that a region shows. -/
def galCut (lo hi : Nat) (wide : List (Nat × List Nat)) : List (Nat × List Nat) := wide.map fun (k, vs) => (k, (vs.drop lo).take (hi + 1 - lo))

/-- The regions that take stitched rows. -/
def imageRegions : List Nat := [0, 2, 3, 4, 5, 6, 7, 8, 9]

/-- A stitched row reaches the Gallery (R335, R337). -/
def Dev.galRow (d : Dev) (l : Nat) (wide : List (Nat × List Nat)) : Dev :=
  if !(d.flag R.GAL_CTRL_ENABLE) then d else
  imageRegions.foldl (fun d r =>
    if !d.galOn r then d else
    let x := d.region r
    let n := d.galDecim r
    let (lo, hi) := d.galCols r
    let row := galCut lo hi wide
    let filling := match x.filling with
      | some (g, rows) => if g = l / n then some (g, rows ++ [row]) else if l % n = 0 then some (l / n, [row]) else none
      | none => if l % n = 0 then some (l / n, [row]) else none
    match filling with
    | some (g, rows) =>
      if l % n = n - 1 then d.setRegion r { lines := ({ run := d.gal.run, group := some g, lo := lo, vals := galCombine (d.galF (R.GAL_REG_CFG_REDUCE r)) rows } :: x.lines).take 2160, filling := none }
      else d.setRegion r { x with filling := filling }
    | none => d.setRegion r { x with filling := none }) d

/-- A floor row reaches the zoom windows with FLOOR_EN while the web stands (R339). -/
def Dev.galFloor (d : Dev) (wide : List (Nat × List Nat)) : Dev :=
  if !(d.flag R.GAL_CTRL_ENABLE) ∨ !(d.flag R.POS_STATUS_STOPPED) then d else
  (List.range 8).foldl (fun d z =>
    let r := z + 2
    if !d.galOn r ∨ d.galF (R.GAL_REG_CFG_FLOOR_EN r) = 0 then d else
    let (lo, hi) := d.galCols r
    let x := d.region r
    d.setRegion r { x with lines := ({ run := d.gal.run, group := none, lo := lo, vals := galCut lo hi wide } :: x.lines).take 2160 }) d

/-- The output grid begins anew: groups under way stay incomplete, and what the regions show keeps the run it came from (R340).
Log 272 (DEDUCED, unsafe). -/
def Dev.galStart (d : Dev) : Dev :=
  imageRegions.foldl (fun d r => d.setRegion r { d.region r with filling := none }) (d.setGal fun g => { g with run := g.run + 1 })

/-- A profile line of PROF_LAYER reaches the strip (R343). -/
def Dev.galProfile (d : Dev) (layer : Nat) (line : List Byte) : Dev :=
  if d.flag R.GAL_CTRL_ENABLE && decide (layer = d.galF (R.GAL_REG_CFG_LAYER_R 1)) then d.setGal fun g => { g with profs := (line :: g.profs).take 2 } else d

/-! ### Composition (R334 to R344) -/

/-- The columns that pixel `x` of a region of width `w` shows (R336). -/
def pixelCols (lo hi w x : Nat) : Nat × Nat :=
  let span := hi + 1 - lo
  if w < span then (lo + x * span / w, lo + (x + 1) * span / w - 1) else (lo + x * span / w, lo + x * span / w)

/-- The level of a value (R338). -/
def galLevel (black gain v : Nat) : Nat := min 255 (((v - black) * gain + 2 ^ 15) / 2 ^ 16)

/-- The display lines of a region, top line first. -/
def Dev.galLines (d : Dev) (r : Nat) : List GalLine :=
  ((d.region r).lines.flatMap fun x => List.replicate (if x.group.isNone then 1 else d.galRep r) x).take (d.galF (R.GAL_REG_SIZE_H r))

/-- RGB of three levels. -/
def rgb (r g b : Nat) : Nat := r * 65536 + g * 256 + b

/-- The colour of pixel `x` of a display line (R336, R338). Log 123 (DESIGN CHOICE, safe). -/
def Dev.galPixel (d : Dev) (r : Nat) (line : GalLine) (x : Nat) : Nat :=
  let (lo, hi) := d.galCols r
  let (a, b) := pixelCols lo hi (d.galF (R.GAL_REG_SIZE_W r)) x
  let level := fun (f : Fld) =>
    match line.vals.find? fun v => v.1 = d.galF f with
    | some (_, vs) => galLevel (d.galF (R.GAL_REG_MAP_MAP_BLACK r)) (d.galF (R.GAL_REG_MAP_MAP_GAIN r)) (galReduce (d.galF (R.GAL_REG_CFG_REDUCE r)) ((vs.drop (a - line.lo)).take (b + 1 - max a line.lo)))
    | none => 0
  let g := level (R.GAL_REG_CFG_LAYER_R r)
  if d.galF (R.GAL_REG_CFG_COLOR r) = 0 then rgb g g g else rgb g (level (R.GAL_REG_CFG_LAYER_G r)) (level (R.GAL_REG_CFG_LAYER_B r))

/-- First and last coordinate of an outline, widened about its centre to at least three (R340). -/
def widen3 (a b : Int) : Int × Int := if b < a + 1 then (a - 1, a + 1) else if b = a + 1 then (a, b + 1) else (a, b)

/-- Does a display line show a row of a run. Log 272 (DEDUCED, unsafe). -/
def GalLine.shows (x : GalLine) (run n l : Nat) : Bool := decide (x.run = run) && decide (x.group = some (l / n))

/-- Where a box lies in a region: its outline in the region's pixels, or none when no group of it is shown (R340). Log 125 (DEDUCED, unsafe). -/
def Dev.boxRect (d : Dev) (r : Nat) (ls : List GalLine) (b : GalBox) : Option (Int × Int × Int × Int) :=
  let (lo, hi) := d.galCols r
  let w := d.galF (R.GAL_REG_SIZE_W r)
  let n := d.galDecim r
  let base := d.live R.BLV_DEV_COL_BASE
  let c0 : Int := (b.lo : Int) - base
  let c1 : Int := (b.hi : Int) - base
  if w = 0 ∨ c1 < lo ∨ hi < c0 then none else
  let xs := List.range w
  let px := fun (c : Int) (last : Bool) =>
    let f := fun x => let (a, e) := pixelCols lo hi w x; decide (a ≤ c) && decide (c ≤ e)
    if last then xs.reverse.find? f else xs.find? f
  let x0 : Int := if c0 < lo then -1 else match px c0 false with | some x => x | none => -1
  let x1 : Int := if hi < c1 then w else match px c1 true with | some x => x | none => w
  let held := (List.range ls.length).filter fun y => match ls[y]? with
    | some x => decide (x.run = b.run) && (match x.group with | some g => decide (b.first / n ≤ g) && decide (g ≤ b.last / n) | none => false)
    | none => false
  match held, held.getLast? with
  | y0 :: _, some y1 =>
    let shows := fun (y l : Nat) => match ls[y]? with | some x => x.shows b.run n l | none => false
    let top : Int := if shows y0 b.last then y0 else (y0 : Int) - 1
    let bot : Int := if shows y1 b.first then y1 else (y1 : Int) + 1
    let (x0, x1) := widen3 x0 x1
    let (y0, y1) := widen3 top bot
    some (x0, x1, y0, y1)
  | _, _ => none

/-- Is a pixel on an outline. -/
def onBox (q : Int × Int × Int × Int) (x y : Int) : Bool :=
  let (x0, x1, y0, y1) := q
  decide (x0 ≤ x) && decide (x ≤ x1) && decide (y0 ≤ y) && decide (y ≤ y1) && (x == x0 || x == x1 || y == y0 || y == y1)

/-- CD_BIN_LOG2 and the samples of a profile line (R184). -/
def profSamples (line : List Byte) : Nat × List Nat :=
  let n := leAt line 40 4
  (leAt line 46 1, (List.range n).map fun i => leAt line (64 + 2 * i) 2)

/-- The level of the profile strip in pixel column `x` (R343). -/
def Dev.profLevel (d : Dev) (line : List Byte) (x : Nat) : Option Nat :=
  let (bin, ss) := profSamples line
  let lo := d.galF (R.GAL_REG_COL_LO 1)
  let (a, b) := pixelCols lo (d.galF (R.GAL_REG_COL_HI 1)) (d.galF (R.GAL_REG_SIZE_W 1)) x
  let i0 := a / 2 ^ bin
  let vs := ((ss.drop i0).take (b / 2 ^ bin + 1 - i0)).filter fun v => v ≠ 65535
  let mn := d.galF R.GAL_PROF_RANGE_PROF_MIN
  let mx := d.galF R.GAL_PROF_RANGE_PROF_MAX
  let h := d.galF (R.GAL_REG_SIZE_H 1)
  if vs = [] ∨ mx ≤ mn then none else
  let s := meanI (vs.sum : Nat) vs.length
  some (clampI 0 ((h : Int) - 1) ((s - mn) * ((h : Int) - 1) / ((mx : Int) - mn))).toNat

/-- Does a profile line's trace cover a pixel of the strip: its level, joined to the column before by a vertical run. -/
def Dev.profHit (d : Dev) (line : List Byte) (x y : Nat) : Bool :=
  let h := d.galF (R.GAL_REG_SIZE_H 1)
  match d.profLevel line x with
  | none => false
  | some v =>
    let p := if x = 0 then v else (d.profLevel line (x - 1)).getD v
    let up := h - 1 - y
    y < h && decide (min v p ≤ up) && decide (up ≤ max v p) && (decide (up ≠ p) || decide (up = v))

/-- The colour of a pixel of the profile strip. -/
def Dev.profPixel (d : Dev) (x y : Nat) : Nat :=
  let c := d.galF R.GAL_PROF_COLOR_PROF_COLOR
  let dim := rgb (bits c 16 8 / 2) (bits c 8 8 / 2) (bits c 0 8 / 2)
  let trace := if d.galF R.GAL_PROF_COLOR_TRACE_DIM = 1 then dim else 0x808080
  match d.gal.profs with
  | [] => Config.blank.toNat
  | p :: rest =>
    if d.profHit p x y then c
    else match rest with
      | q :: _ => if d.galF (R.GAL_REG_CFG_TRACE 1) = 1 ∧ d.profHit q x y then trace else Config.blank.toNat
      | [] => Config.blank.toNat

/-- What a region draws at a panel pixel, if it covers it. `ls` are its display lines, `boxes` its outlines with their colours. -/
def Dev.regionAt (d : Dev) (r : Nat) (ls : List GalLine) (boxes : List ((Int × Int × Int × Int) × Nat)) (px py : Nat) : Option Nat :=
  let x0 := d.galF (R.GAL_REG_POS_X r)
  let y0 := d.galF (R.GAL_REG_POS_Y r)
  if !d.galOn r ∨ px < x0 ∨ py < y0 ∨ x0 + d.galF (R.GAL_REG_SIZE_W r) ≤ px ∨ y0 + d.galF (R.GAL_REG_SIZE_H r) ≤ py then none else
  let x := px - x0
  let y := py - y0
  if r = 1 then some (d.profPixel x y) else
  match (boxes.filter fun b => onBox b.1 x y).getLast? with
  | some b => some b.2
  | none => match ls[y]? with
    | some line => some (d.galPixel r line x)
    | none => some Config.blank.toNat

/-- The composed panel frame (R334). In FAULT every pixel is BG_COLOR (R351). -/
def Dev.compose (d : Dev) (w h : Nat) : List Nat :=
  let bg := d.galF R.GAL_BG_COLOR
  if d.mode = .fault then List.replicate (w * h) bg else
  let rs := (List.range 10).map fun r =>
    let ls := d.galLines r
    let boxes := if d.galF (R.GAL_REG_CFG_OVL_EN r) = 1 ∧ r ≠ 1 then d.gal.boxes.filterMap fun b => (d.boxRect r ls b).map fun q => (q, d.galF (R.GAL_OVL_PALETTE b.entry)) else []
    (r, ls, boxes)
  (List.range (w * h)).map fun i => ((rs.filterMap fun (r, ls, bs) => d.regionAt r ls bs (i % w) (i / w)).getLast?).getD bg

/-- Is a box not yet out of a region: the region has lines left to fill, or the oldest group it shows is not younger than the box's last one.
Log 272 (DEDUCED, unsafe). -/
def Dev.boxHeld (d : Dev) (b : GalBox) (r : Nat) : Bool :=
  let ls := d.galLines r
  match (ls.filterMap fun x => x.group.map fun g => (x.run, g)).getLast? with
  | some (run, g) => decide (ls.length < d.galF (R.GAL_REG_SIZE_H r)) || decide (run < b.run) || (decide (run = b.run) && decide (g ≤ b.last / d.galDecim r))
  | none => true

/-- Boxes that have scrolled out of every region are discarded (R340). -/
def Dev.galPrune (d : Dev) : Dev :=
  let rs := imageRegions.filter d.galOn
  let alive := fun (b : GalBox) => rs.any (d.boxHeld b)
  d.setGal fun g => { g with boxes := g.boxes.filter alive }

/-! ### Running, video and staged registers (R345, R351) -/

/-- The transmitter may run (R351). -/
def Dev.galRuns (d : Dev) : Bool :=
  d.flag R.GAL_CTRL_ENABLE && (match d.mode with | .discover | .armed | .inspect | .degraded | .calibrate | .replay | .service | .fault => true | _ => false)

/-- LINK = VIDEO. -/
def Dev.galVideo (d : Dev) : Bool := d.fld R.GAL_STATUS_LINK = 3

/-- A timing runs: in VIDEO, and while the link of a video that goes on trains again (R348). -/
def Dev.galTiming (d : Dev) : Bool := d.galVideo || (decide (d.fld R.GAL_STATUS_LINK = 2) && d.gal.retrain)

/-- Where a mode or a write of ENABLE stops the transmitter, its lanes go off (R351). -/
def Dev.galCheck (d : Dev) : Dev :=
  if d.galRuns then d else
  ((((d.setFld R.GAL_STATUS_LINK 0).setFld R.GAL_STATUS_HPD 0).setFld R.GAL_STATUS_FALLBACK 0).setFld R.GAL_STATUS_LANES 0).setFld R.GAL_STATUS_RATE 0

/-- The fields whose change clears a region (R345). -/
def Dev.regionKey (d : Dev) (r : Nat) : List Nat :=
  [d.galF (R.GAL_REG_COL_LO r), d.galF (R.GAL_REG_COL_HI r), d.galF (R.GAL_REG_MD_MD_DECIM r), d.galF (R.GAL_REG_MD_MD_REP r), d.galF (R.GAL_REG_CFG_BIND r), d.galF (R.GAL_REG_CFG_ROLE r), d.galF (R.GAL_REG_CFG_LAYER_R r), d.galF (R.GAL_REG_CFG_LAYER_G r), d.galF (R.GAL_REG_CFG_LAYER_B r)]

/-- The staged registers become live together (R345). Log 122 (DEDUCED, unsafe). -/
def Dev.galTake (d : Dev) : Dev :=
  let old := (List.range 10).map d.regionKey
  let d := d.setGal fun g => { g with live := d.regs.filter fun x => galStaged x.1, updateAt := none }
  let d := d.setFld R.GAL_STATUS_UPDATE_PENDING 0
  (List.range 10).foldl (fun d r => if old.getD r [] = d.regionKey r then d else
    let d := d.setRegion r {}
    if r = 1 then d.setGal fun g => { g with profs := [] } else d) d

/-- A write of CTRL.UPDATE = 1; with no timing running the staged values become live at once. -/
def Dev.galUpdate (d : Dev) (composing : Bool) : Dev :=
  if d.galTiming ∨ composing then (d.setFld R.GAL_STATUS_UPDATE_PENDING 1).setGal fun g => { g with updateAt := some d.time } else d.galTake

/-- A staged register was written: with no timing running it is live at once. Log 122 (DEDUCED, unsafe). -/
def Dev.galWritten (d : Dev) (composing : Bool) : Dev := if d.galTiming ∨ composing then d else d.galTake

/-! ### Vertical blank, scan-out and previews (R344, R346, R352, R353) -/

/-- The size of the frame that is composed. -/
def Dev.galSize (d : Dev) : Nat × Nat :=
  if d.galTiming then (d.fld R.GAL_CUR_H_ACTIVE, d.fld R.GAL_CUR_V_ACTIVE) else (min (d.galF R.GAL_PREV_SIZE_PREV_W) 3840, min (d.galF R.GAL_PREV_SIZE_PREV_H) 2160)

/-- Pixels in the byte order blue, green, red, 0 (R353). -/
def pixelBytes (px : List Nat) : List Byte := px.flatMap fun p => leBytes 4 p

/-- A preview frame (R353). Log 124 (DEDUCED, unsafe), 127 (DESIGN CHOICE, unsafe). -/
def Dev.previewFrame (d : Dev) (w h : Nat) (px : List Nat) (underrun : Bool) : List Byte :=
  leBytes 8 d.gal.frames ++ leBytes 8 d.pos.linesPassed ++ leInt 8 d.pos.md ++ leBytes 4 (d.fld R.GLB_EPOCH) ++ leBytes 2 w ++ leBytes 2 h ++ leBytes 2 (b2n underrun + 2 * b2n (d.flag R.POS_STATUS_STOPPED) + 4 * b2n d.warmup) ++ zeros 30 ++ pixelBytes px

/-- Position clocks from one start of vertical blank to the next: those of the timing, or of PREV_HZ while frames are composed for previews alone (R349,
R352). Log 280 (DEDUCED, unsafe). -/
def Dev.framePeriod (d : Dev) : Nat :=
  if d.galTiming then d.fld R.GAL_CUR_H_TOTAL * d.fld R.GAL_CUR_V_TOTAL * 400000 / d.fld R.GAL_CUR_PCLK
  else 400000000 / min (max (d.galF R.GAL_PREV_CFG_PREV_HZ) 1) 60

/-- Vertical blank starts: staged registers become live, the frame is composed into one of the two copies at FB_BASE, and in video it goes
out. Answers the preview frame when the frame's count asks for one. Log 280 (DEDUCED, unsafe). -/
def Dev.vblank (d : Dev) (composing : Bool) : Dev × Option (List Byte) :=
  if !d.galRuns ∨ !(d.galTiming ∨ composing) then (d, none) else
  let d := d.advance (d.gal.blankAt + d.framePeriod)
  let d := match d.gal.updateAt with | some t => if t < d.time then d.galTake else d | none => d
  let under := d.gal.underrun
  let d := (d.setGal fun g => { g with frames := g.frames + 1, underrun := false, blankAt := d.time }).galPrune
  let (w, h) := d.galSize
  let px := d.compose w h
  let d := d.dramWrite (d.galF R.GAL_FB_BASE / 0x10000 * 0x10000 + d.gal.frames % 2 * (w * h * 4)) (pixelBytes px)
  let d := if d.galVideo then d.emit (.panel w h px) else d
  (d, if d.gal.frames % max (d.galF R.GAL_PREV_CFG_PREV_DIV) 1 = 0 then some (d.previewFrame w h px under) else none)

/-- A preview frame finds no posted buffer (R352). -/
def Dev.previewDrop (d : Dev) : Dev := (d.bump R.GAL_PREV_DROP_CNT).raise R.GAL_EVENTS_PREV_DROP

/-- A scan-out pixel finds the FIFO empty (R346). Log 124 (DEDUCED, unsafe). -/
def Dev.underrun (d : Dev) : Dev :=
  if !d.galVideo then d else
  let d := d.emit (.underrun (d.galF R.GAL_UNDERRUN_COLOR))
  let d := if d.gal.underrun then d else d.bump R.GAL_UNDERRUN_CNT
  (d.setGal fun g => { g with underrun := true }).raise R.GAL_EVENTS_UNDERRUN

/-! ### DisplayPort (R347 to R350) -/

/-- A timing: active, total, sync start and width of H and V, sync polarities, pixel clock in kHz. -/
structure Timing where
  ha : Nat
  ht : Nat
  hs : Nat
  hw : Nat
  va : Nat
  vt : Nat
  vs : Nat
  vw : Nat
  hp : Bool
  vp : Bool
  khz : Nat
  deriving DecidableEq, Repr

/-- 640 × 480 at 60 Hz (R349); the sync places are those of the VESA timing. Log 126 (DESIGN CHOICE, unsafe). -/
def timing640 : Timing := { ha := 640, ht := 800, hs := 16, hw := 96, va := 480, vt := 525, vs := 10, vw := 2, hp := false, vp := false, khz := 25175 }

/-- A detailed timing descriptor; none where the 18 bytes hold no timing or an interlaced one. -/
def dtdOf (b : List Byte) : Option Timing :=
  let g := fun i => leAt b i 1
  let khz := leAt b 0 2 * 10
  if khz = 0 ∨ 128 ≤ g 17 then none else
  let ha := g 2 + bits (g 4) 4 4 * 256
  let hb := g 3 + bits (g 4) 0 4 * 256
  let va := g 5 + bits (g 7) 4 4 * 256
  let vb := g 6 + bits (g 7) 0 4 * 256
  let dig := bits (g 17) 3 2 = 3
  some { ha := ha, ht := ha + hb, hs := g 8 + bits (g 11) 6 2 * 256, hw := g 9 + bits (g 11) 4 2 * 256, va := va, vt := va + vb, vs := bits (g 10) 4 4 + bits (g 11) 2 2 * 16, vw := bits (g 10) 0 4 + bits (g 11) 0 2 * 16, hp := dig && bitOf (g 17) 1, vp := dig && bitOf (g 17) 2, khz := khz }

/-- Does a block sum to zero. -/
def edidSum (b : List Byte) : Bool := (b.foldl (fun n x => n + x.toNat) 0) % 256 = 0

/-- The descriptors of a CTA extension from an offset on. Log 126 (DESIGN CHOICE, unsafe). -/
def ctaDtds (b : List Byte) : Nat → Nat → List (List Byte)
  | 0, _ => []
  | n + 1, o => if o < 4 ∨ 109 < o ∨ leAt b o 2 = 0 then [] else slice b o 18 :: ctaDtds b n (o + 18)

/-- The descriptors of an EDID: base block, then CTA extensions (R349). Log 126 (DESIGN CHOICE, unsafe). -/
def edidDtds (edid : List Byte) : List (List Byte) :=
  ([54, 72, 90, 108].map fun o => slice edid o 18) ++ ((List.range 3).flatMap fun i =>
    let b := slice edid (128 * (i + 1)) 128
    if leAt b 0 1 = 2 then ctaDtds b 7 (leAt b 2 1) else [])

/-- The EDID fails its header or a block checksum. -/
def edidBad (edid : List Byte) : Bool :=
  leAt edid 0 8 ≠ 0x00FFFFFFFFFFFF00 || (List.range (min 3 (leAt edid 126 1) + 1)).any fun i => !edidSum (slice edid (128 * i) 128)

/-- Lane counts and rates in units of 10 Mb/s (R347, R350). -/
def dpLanes (c : Nat) : Nat := match c with | 0 => 1 | 1 => 2 | _ => 4
def dpRate (c : Nat) : Nat := match c with | 0 => 162 | 1 => 270 | 2 => 540 | _ => 810

/-- Does a link of a lane code and a rate code carry a pixel clock: clock × 24 ≤ lanes × rate × 0.8. -/
def linkCarries (lanes rate khz : Nat) : Bool := khz * 24 ≤ dpLanes lanes * dpRate rate * 8000

/-- The timing of a plug (R349): the timing, whether EDID_BAD, whether the fallback. -/
def Dev.plugTiming (d : Dev) (edid : List Byte) (lanes rate : Nat) : Timing × Bool × Bool :=
  let bad := edidBad edid
  if d.flag R.GAL_CTRL_TIMING_MODE then
    ({ ha := d.fld R.GAL_FORCE_H_ACTIVE, ht := d.fld R.GAL_FORCE_H_TOTAL, hs := d.fld R.GAL_FORCE_HSYNC_START, hw := d.fld R.GAL_FORCE_HSYNC_WIDTH, va := d.fld R.GAL_FORCE_V_ACTIVE, vt := d.fld R.GAL_FORCE_V_TOTAL, vs := d.fld R.GAL_FORCE_VSYNC_START, vw := d.fld R.GAL_FORCE_VSYNC_WIDTH, hp := d.flag R.GAL_FORCE_HSYNC_POS, vp := d.flag R.GAL_FORCE_VSYNC_POS, khz := min (d.fld R.GAL_FORCE_PCLK) 600000 }, bad, false)
  else
    let fits := fun (t : Timing) => decide (t.ha ≤ 3840) && decide (t.va ≤ 2160) && decide (t.khz ≤ 600000) && decide (t.khz * 1000 ≤ 61 * (t.ht * t.vt)) && linkCarries (min lanes 2) (min rate 3) t.khz
    match if bad then none else ((edidDtds edid).filterMap dtdOf).find? fits with
    | some t => (t, bad, false)
    | none => (timing640, bad, true)

/-- The CUR registers take a timing. -/
def Dev.putTiming (d : Dev) (t : Timing) : Dev :=
  let d := (((d.setFld R.GAL_CUR_H_ACTIVE t.ha).setFld R.GAL_CUR_H_TOTAL t.ht).setFld R.GAL_CUR_V_ACTIVE t.va).setFld R.GAL_CUR_V_TOTAL t.vt
  let d := (((d.setFld R.GAL_CUR_HSYNC_START t.hs).setFld R.GAL_CUR_HSYNC_WIDTH t.hw).setFld R.GAL_CUR_VSYNC_START t.vs).setFld R.GAL_CUR_VSYNC_WIDTH t.vw
  ((d.setFlag R.GAL_CUR_HSYNC_POS t.hp).setFlag R.GAL_CUR_VSYNC_POS t.vp).setFld R.GAL_CUR_PCLK t.khz

/-- The plug sequence up to training: DPCD, EDID and timing (R348). -/
def Dev.plugSequence (d : Dev) (lanes rate : Nat) (edid : List Byte) : Dev :=
  let n := if leAt edid 0 8 = 0x00FFFFFFFFFFFF00 then min 3 (leAt edid 126 1) + 1 else 1
  let d := (bytesWords 128 (fit 512 (edid.take (128 * n)))).zipIdx.foldl (fun d (w, i) => d.setFld (R.GAL_EDID i) w) d
  let (t, bad, fallback) := d.plugTiming edid lanes rate
  let d := d.raiseIf bad R.GAL_EVENTS_EDID_BAD
  let d := ((d.putTiming t).setFlag R.GAL_STATUS_FALLBACK fallback).setFld R.GAL_STATUS_LINK 2
  d.setGal fun g => { g with sinkLanes := min lanes 2, sinkRate := min rate 3, retrain := false }

/-- HPD is held high for 100 ms (R348). -/
def Dev.dpPlug (d : Dev) (lanes rate : Nat) (edid : List Byte) : Dev :=
  if !d.galRuns ∨ d.flag R.GAL_STATUS_HPD then d else
  ((d.setFld R.GAL_STATUS_HPD 1).raise R.GAL_EVENTS_PLUGGED).plugSequence lanes rate edid

/-- HPD is low for more than 2 ms (R348). -/
def Dev.dpUnplug (d : Dev) : Dev :=
  if !(d.flag R.GAL_STATUS_HPD) then d else
  (((((d.setFld R.GAL_STATUS_HPD 0).setFld R.GAL_STATUS_LINK 0).setFld R.GAL_STATUS_FALLBACK 0).setFld R.GAL_STATUS_LANES 0).setFld R.GAL_STATUS_RATE 0).raise R.GAL_EVENTS_UNPLUGGED

/-- A 0.25–2 ms low on HPD (R348). `lost`: the sink's link status shows lock lost; the link trains again, and composition goes on. -/
def Dev.irqHpd (d : Dev) (lost : Bool) : Dev :=
  if !d.galRuns then d else
  let d := d.raise R.GAL_EVENTS_IRQ_HPD
  if d.galVideo && lost then (((d.setFld R.GAL_STATUS_LINK 2).setFld R.GAL_STATUS_LANES 0).setFld R.GAL_STATUS_RATE 0).setGal fun g => { g with retrain := true } else d

/-- The link candidates in the order they are tried (R350), as lane and rate codes. -/
def Dev.linkCandidates (d : Dev) : List (Nat × Nat) :=
  let l := min d.gal.sinkLanes (min (d.fld R.GAL_CTRL_MAX_LANES) 2)
  let r := min d.gal.sinkRate (d.fld R.GAL_CTRL_MAX_RATE)
  let all := ((List.range (l + 1)).flatMap fun a => (List.range (r + 1)).map fun b => (a, b)).filter fun x => linkCarries x.1 x.2 (d.fld R.GAL_CUR_PCLK)
  let pay := fun (x : Nat × Nat) => dpLanes x.1 * dpRate x.2
  let before := fun (x y : Nat × Nat) => decide (pay y < pay x) || (decide (pay x = pay y) && decide (y.1 < x.1))
  all.foldl (fun acc x => acc.takeWhile (fun y => before y x) ++ [x] ++ acc.dropWhile (fun y => before y x)) []

/-- Training ends (R350): the first candidate at which the sink trains starts the video; with none, TRAIN_FAIL. -/
def Dev.trainDone (d : Dev) (good : List (Nat × Nat)) : Dev :=
  if d.fld R.GAL_STATUS_LINK ≠ 2 then d else
  match d.linkCandidates.find? fun x => good.contains x with
  | some (l, r) => (((d.setFld R.GAL_STATUS_LINK 3).setFld R.GAL_STATUS_LANES l).setFld R.GAL_STATUS_RATE r).setGal fun g => { g with frames := if g.retrain then g.frames else 0, blankAt := if g.retrain then g.blankAt else d.time, retrain := false }
  | none => ((d.setFld R.GAL_STATUS_LINK 4).setGal fun g => { g with failAt := d.time, retrain := false }).raise R.GAL_EVENTS_TRAIN_FAIL

/-- One second after TRAIN_FAIL, with HPD still high (R350). -/
def Dev.trainRetry (d : Dev) (lanes rate : Nat) (edid : List Byte) : Dev :=
  if d.fld R.GAL_STATUS_LINK ≠ 4 then d else
  (d.advance (d.gal.failAt + 400000000)).plugSequence lanes rate edid

end Sys2Proof.Machine
end

