-- ==== Sys2Proof/Machine/Calib.lean ====
section
/-!
DEFINITION. Self-calibration (chapter 10): the statistics of the windows, candidates, acceptance, steps at boundaries, and the
external-reference method.
-/
namespace Sys2Proof.Machine

def Dev.setCal (d : Dev) (f : CalState → CalState) : Dev := { d with cal := f d.cal }

/-! ### Phases of the cycle (R316) -/

def calIdle : Nat := 0
def calWindow1 : Nat := 1
def calWindow2 : Nat := 2
def calCompute : Nat := 3
def calApply : Nat := 4
def calExternal : Nat := 5

def Dev.calPhase (d : Dev) : Nat := d.fld R.CAL_STATUS_PHASE
def Dev.calLayer (d : Dev) : Nat := d.live R.CAL_CTRL_CAL_LAYER
def Dev.calKind (d : Dev) (k : Nat) : Bool := bitOf (d.live R.CAL_CTRL_KINDS) k
/-- Lines of a window; WIN_FRAMES = 0 acts as 1. -/
def Dev.calWindow (d : Dev) : Nat := max (d.live R.CAL_WIN_CFG_WIN_FRAMES) 1 * d.pos.frameLines
/-- A lag field: 0 acts as 1, above 16 as 16. -/
def lagOf (v : Nat) : Nat := min (max v 1) 16
def Dev.mdLag (d : Dev) : Nat := lagOf (d.live R.CAL_CORR_CFG_MD_LAG)
def Dev.cdLag (d : Dev) : Nat := lagOf (d.live R.CAL_CORR_CFG_CD_LAG)

/-! ### Bands and zones (R313) -/

/-- The even role of a bonded pair stands for both halves; other roles stand for themselves. -/
def Dev.bandKey (d : Dev) (r : Nat) : Nat := if r % 2 = 1 ∧ d.bonded (r - 1) then r - 1 else r

/-- The roles of a band. -/
def Dev.bandRoles (d : Dev) (r : Nat) : List Nat := if d.bonded r then [r, r + 1] else [r]

/-- The channel and component that feed a layer from a role (R133). -/
def Dev.layerSource (d : Dev) (r k : Nat) : Option (Nat × Nat) := Dev.blvSnap.srcOf (d.live (R.BLV_LAYER_SRC r)) k

/-- The bands of CAL_LAYER in order of BAND_START, lower role first. -/
def Dev.calBands (d : Dev) : List Nat :=
  let rs := (List.range 16).filter fun r => decide (d.bandKey r = r) && d.waitedFor (d.blvSnap 0) r && (d.layerSource r d.calLayer).isSome
  rs.foldl (fun acc r => acc.takeWhile (fun q => decide (d.slive (R.BLV_BAND_START q) ≤ d.slive (R.BLV_BAND_START r))) ++ [r] ++ acc.dropWhile (fun q => decide (d.slive (R.BLV_BAND_START q) ≤ d.slive (R.BLV_BAND_START r)))) []

/-- The channel that feeds CAL_LAYER from a role, which a rejection of the role's band records (R322). -/
def Dev.calChan (d : Dev) (r : Nat) : Nat := match d.layerSource r d.calLayer with | some (c, _) => c | none => 0

/-- The zones of a stitched row: neighbouring bands of CAL_LAYER whose valid spans overlap. -/
def Dev.calZones (d : Dev) (s : Stitched) : List CalPair :=
  let spans := match s.spans.find? fun x => x.1 = d.calLayer with | some x => x.2 | none => []
  let bs := d.calBands
  (bs.zip (bs.drop 1)).filterMap fun (p, q) =>
    match spans.find? fun x => x.role = p, spans.find? fun x => x.role = q with
    | some x, some y =>
      let lo := max x.lo y.lo
      let hi := min x.hi y.hi
      if hi < lo then none else
      some { a := p, b := q, lo := lo, va := (List.range (hi + 1 - lo)).map fun i => (x.at (lo + i)).getD 0, vb := (List.range (hi + 1 - lo)).map fun i => (y.at (lo + i)).getD 0, clean := false }
    | _, _ => none

/-- The trilinear channels of a role whose components feed three enabled layers: channel, and the layers of red, green and blue (R313). -/
def Dev.colorChans (d : Dev) (r : Nat) : List (Nat × Nat × Nat × Nat) :=
  (List.range 4).filterMap fun c =>
    if !(d.lflag (R.STR_CH_CFG_ENABLE r c)) ∨ d.compsOf (d.live (R.STR_CH_CFG_STREAM r c)) ≠ 3 then none else
    let layer := fun m => d.layersOn.find? fun k => d.layerSource r k = some (c, m)
    match layer 0, layer 1, layer 2 with
    | some x, some y, some z => some (c, x, y, z)
    | _, _, _ => none

/-- A role's value of a layer in a column: its own band's, or the stitched one where its band has none (R136, R314). Log 269 (DEDUCED, unsafe). -/
def Stitched.roleAt (s : Stitched) (v : BlvVer) (key k c : Nat) : Nat :=
  let spans := match s.spans.find? fun x => x.1 = k with | some x => x.2 | none => []
  match spans.find? fun x => x.role = key with
  | some x => ((x.at c).orElse fun _ => mergedAt v.cut spans c).getD v.gapFill
  | none => (mergedAt v.cut spans c).getD v.gapFill

/-- The colour pairs of a stitched row: green against red and against blue in each role's owned columns (R314). Log 269 (DEDUCED, unsafe). -/
def Dev.calColors (d : Dev) (s : Stitched) : List CalPair :=
  let v := d.blvVer s.line
  (List.range 16).flatMap fun r =>
    if !d.waitedFor (d.blvSnap 0) r then [] else
    let lo := d.ownStart r
    let n := min (d.ownEnd r + 1) d.stitchCols - lo
    let vals := fun (k : Nat) => (List.range n).map fun i => s.roleAt v (d.bandKey r) k (lo + i)
    (d.colorChans r).flatMap fun (c, x, y, z) =>
      let pair := fun (m k : Nat) => ({ a := r * 4 + c, b := m, lo := lo, va := vals y, vb := vals k, clean := false } : CalPair)
      [pair 0 x, pair 2 z]

/-! ### Sums (R314, R315) -/

/-- Flags under which no row and no output is clean. -/
def RowFlags.dirty (f : RowFlags) : Bool := f.coverGap || f.roleLate || f.held || f.gap || f.noSource || f.epochMix

/-- Differences of a list: x(i) − x(i − 1) from its second value on. -/
def diffs (xs : List Nat) : List Int := (xs.zip (xs.drop 1)).map fun (x, y) => (y : Int) - x

/-- Difference of two rows. -/
def rowDiff (x y : List Nat) : List Int := (x.zip y).map fun (a, b) => (a : Int) - b

def dotI (x y : List Int) : Int := ((x.zip y).map fun (a, b) => a * b).sum

/-- Add lists, the longer one deciding the length. -/
def addLists : List Int → List Int → List Int
  | [], ys => ys
  | xs, [] => xs
  | x :: xs, y :: ys => (x + y) :: addLists xs ys

def CorrSum.add (a b : CorrSum) : CorrSum := { c := addLists a.c b.c, sa := a.sa + b.sa, sb := a.sb + b.sb }

/-- The CD terms of a clean row (R315): C(σ) for σ from −K to K. -/
def cdTerms (k : Nat) (p : CalPair) : CorrSum :=
  let x := diffs p.va
  let y := diffs p.vb
  { c := (List.range (2 * k + 1)).map fun (i : Nat) => if k ≤ i then dotI x (y.drop (i - k)) else dotI (x.drop (k - i)) y, sa := dotI x x, sb := dotI y y }

/-- The MD terms whose newest row is `l` (R315). `rows` gives the pair of each clean row of the window. -/
def mdTerms (k l : Nat) (rows : Nat → Option CalPair) : CorrSum :=
  let term := fun (i : Nat) =>
    let la := if k ≤ i then l - (i - k) else l
    let lb := if k ≤ i then l else l - (k - i)
    match rows (la - 1), rows la, rows (lb - 1), rows lb with
    | some a0, some a1, some b0, some b1 => if la = 0 ∨ lb = 0 then none else some (rowDiff a1.va a0.va, rowDiff b1.vb b0.vb)
    | _, _, _, _ => none
  let zero := match term k with | some (x, y) => (dotI x x, dotI y y) | none => (0, 0)
  { c := (List.range (2 * k + 1)).map fun i => match term i with | some (x, y) => dotI x y | none => 0, sa := zero.1, sb := zero.2 }

/-- Add the terms of a pair in the row that left the store. -/
def PairSum.put (ss : List PairSum) (p : CalPair) (md cd : CorrSum) (pedA pedB : Int) : List PairSum :=
  let new : PairSum := { a := p.a, b := p.b, lo := p.lo, sumA := p.va.map fun (v : Nat) => (v : Int) - pedA, sumB := p.vb.map fun (v : Nat) => (v : Int) - pedB, rows := 1, md := md, cd := cd }
  if ss.any fun s => decide (s.a = p.a) && decide (s.b = p.b) then
    ss.map fun s => if s.a = p.a ∧ s.b = p.b then { s with sumA := addLists s.sumA new.sumA, sumB := addLists s.sumB new.sumB, rows := s.rows + 1, md := s.md.add md, cd := s.cd.add cd } else s
  else ss ++ [new]

/-- Which window a row belongs to: 1 or 2. -/
def Dev.calWindowOf (d : Dev) (l : Nat) : Option Nat :=
  let s := d.cal.start
  let w := d.calWindow
  if d.calPhase = calIdle ∨ d.calPhase = calApply ∨ d.calPhase = calExternal ∨ l < s then none
  else if l < s + w then some 1 else if l < s + 2 * w then some 2 else none

/-- Change the sums of a window. -/
def CalState.onSums (c : CalState) (w : Nat) (f : CalSums → CalSums) : CalState :=
  if w = 1 then { c with sums1 := f c.sums1 } else { c with sums2 := f c.sums2 }

/-- CH_PEDESTAL of the channel that feeds CAL_LAYER from a role. -/
def Dev.calPedestal (d : Dev) (r : Nat) : Nat := match d.layerSource r d.calLayer with | some (c, _) => d.live (R.STR_CH_PEDESTAL r c) | none => 0

/-- Is a row clean over columns: its mask has come and holds no set pixel there (R314). -/
def Dev.maskClean (d : Dev) (l lo n : Nat) : Bool :=
  let o : PrfOut := { layer := 0, k := 0, first := l, last := l, ys := [], flags := {}, maskEn := true }
  (List.range n).all fun i => d.maskOf o (lo + i) = some false

/-- The oldest row leaves the store of 64: it is judged, and its terms are summed. -/
def Dev.calLeave (d : Dev) (row : CalRow) : Dev :=
  let judge := fun (p : CalPair) => { p with clean := row.ok && d.maskClean row.line p.lo p.va.length }
  let row := { row with zones := row.zones.map judge, colors := row.colors.map judge }
  let left := (row :: d.cal.left).take 40
  let d := d.setCal fun c => { c with left := left }
  match d.calWindowOf row.line with
  | none => d
  | some w =>
    let first := if w = 1 then d.cal.start else d.cal.start + d.calWindow
    let back := fun (get : CalRow → List CalPair) (p : CalPair) (l : Nat) =>
      if l < first then none else
      match left.find? fun x => x.line = l with
      | some x => (get x).find? fun q => decide (q.a = p.a) && decide (q.b = p.b) && q.clean
      | none => none
    let add := fun (get : CalRow → List CalPair) (ss : List PairSum) (ped : Nat → Int) =>
      ((get row).filter (·.clean)).foldl (fun ss p => PairSum.put ss p (mdTerms d.mdLag row.line (back get p)) (cdTerms d.cdLag p) (ped p.a) (ped p.b)) ss
    d.setCal fun c => c.onSums w fun s => { s with zones := add (·.zones) s.zones (fun r => (d.calPedestal r : Int)), colors := add (·.colors) s.colors (fun _ => 0) }

/-- Add a clean output of a column to the flat sums. -/
def addFlat : List (Nat × Nat) → List (Option Nat) → List (Nat × Nat)
  | [], ys => ys.map fun y => match y with | some v => (v, 1) | none => (0, 0)
  | xs, [] => xs
  | (s, n) :: xs, y :: ys => (match y with | some v => (s + v, n + 1) | none => (s, n)) :: addFlat xs ys

/-- The decimator outputs that the background takes with row `l` enter the flat sums (R314). Called before `prfBefore`. -/
def Dev.calFlat (d : Dev) (l : Nat) : Dev :=
  let v := d.prfVer l
  let k := d.calLayer
  let due := d.prf.pending.filter fun o => decide (o.layer = k) && decide (o.last + v.bgLag ≤ l)
  due.foldl (fun d o =>
    match d.calWindowOf o.last with
    | none => d
    | some w =>
      if o.flags.dirty then d else
      let src := match d.prf.sources.find? fun x => x.1 = k with | some x => x.2 | none => []
      let one := fun c => match (src.getD c []).map d.bandKey with | r :: rs => rs.all (· = r) | [] => false
      let ys := o.ys.zipIdx.map fun (y, c) => match y with
        | some v => if one c && (!o.maskEn || d.maskOf o c = some false) then some v else none
        | none => none
      d.setCal fun c => c.onSums w fun s => { s with flat := addFlat s.flat ys }) d
/-- A merged row enters the store (R314). Log 112 (DEDUCED, unsafe). -/
def Dev.calRow (d : Dev) (s : Stitched) : Dev :=
  if (d.calWindowOf s.line).isNone ∧ d.cal.rows = [] then d else
  let row : CalRow := { line := s.line, ok := !s.flags.dirty, zones := d.calZones s, colors := d.calColors s }
  let rows := row :: d.cal.rows
  let d := d.setCal fun c => { c with rows := rows.take 64 }
  match rows[64]? with
  | some old => d.calLeave old
  | none => d

/-! ### Candidates (R317 to R320) -/

/-- 1.0 in Q22. -/
def q22 : Int := 4194304

/-- Greatest integer whose square does not exceed a number below 2^160. -/
def isqrtBits : Nat → Nat → Nat → Nat
  | 0, _, r => r
  | i + 1, n, r => isqrtBits i n (if (r + 2 ^ i) * (r + 2 ^ i) ≤ n then r + 2 ^ i else r)
def isqrt (n : Nat) : Nat := isqrtBits 80 n 0

/-- A quotient rounded down; division by zero has no stated result. Log 113 (DEDUCED, unsafe). -/
def divOr (place : Nat) (a b : Int) : Int := if b = 0 then Config.unstated place a else a.fdiv b

/-- A correlation peak (R319): its shift in 1/256 step, and whether it is weak. -/
def peakOf (k : Nat) (corrMin : Nat) (s : CorrSum) : Int × Bool :=
  let at' := fun (i : Int) => s.c.getD (i + (k : Int)).toNat 0
  let cands := (List.range (2 * k + 1)).map fun (i : Nat) => (i : Int) - (k : Int)
  let best := cands.foldl (fun (b : Int) (i : Int) => if at' b < at' i ∨ (at' b = at' i ∧ (i.natAbs < b.natAbs ∨ (i.natAbs = b.natAbs ∧ i < b))) then i else b) (-(k : Int))
  let den := isqrt (s.sa * s.sb).toNat
  let q : Int := if den = 0 then 0 else 256 * at' best / den
  let edge := decide (best.natAbs = k)
  let lo := if edge then 0 else at' (best - 1)
  let hi := if edge then 0 else at' (best + 1)
  let z := lo - 2 * at' best + hi
  let frac : Int := if z = 0 then 0 else if z < 0 then truncDiv (-(128 * (lo - hi))) z.natAbs else truncDiv (128 * (lo - hi)) z.natAbs
  (256 * best + frac, edge || decide (s.sa * s.sb = 0) || decide (q < corrMin))

/-- The candidate of FLAT for a role in a window (R317): f_b of its valid-span band columns with x_b, unusable columns, and F_j. -/
structure FlatCand where
  fs : List Int
  unusable : Nat
  cols : Nat
  deriving DecidableEq, Repr

/-- The valid span of a role's band of CAL_LAYER, clipped to the frame (R134), its sub-column coordinates, and x of each band column's centre. -/
def Dev.calSpan (d : Dev) (r : Nat) : Option (Nat × Nat × List Int × Nat × Nat × Nat) :=
  match d.layerSource r d.calLayer with
  | none => none
  | some (c, m) =>
    let v := d.outSnap r 0
    match v.chans[c]? with
    | none => none
    | some ch =>
      let comps := d.compsOf ch.stream
      let w := d.widthOf ch.stream
      let bin := 2 ^ v.binLog2
      let xs := remapAll v ch r m comps
      let (lo, hi) := validRange v.bandCols bin w xs
      let start := d.slive (R.BLV_BAND_START r)
      let lo := max lo (-start).toNat
      if hi < lo ∨ (d.stitchCols : Int) - 1 < start + lo then none else
      let hi := min hi ((d.stitchCols : Int) - 1 - start).toNat
      some (lo, hi, (List.range v.bandCols).map fun b => xs.getD (b * bin + bin / 2) 0, w, c, m)

/-- The signal s_b of a global column for a band (R317): none when it is not usable. -/
def Dev.flatSignal (d : Dev) (s : CalSums) (r : Nat) (g : Int) : Option Int :=
  let key := d.bandKey r
  let least := d.live R.CAL_MIN_CFG_MIN_SAMPLES
  let k := d.calLayer
  let ped : Int := d.calPedestal r
  if g < 0 then none else
  let z := s.zones.find? fun z => (decide (z.a = key) || decide (z.b = key)) && decide ((z.lo : Int) ≤ g) && decide (g < z.lo + z.sumA.length)
  let r : Nat × Int := match z with
    | some z => let i := (g - z.lo).toNat; (z.rows, if z.rows = 0 then 0 else meanI ((if z.a = key then z.sumA else z.sumB).getD i 0) z.rows)
    | none =>
      let (sum, n) := s.flat.getD g.toNat (0, 0)
      let mean : Int := if n = 0 then 0 else meanI sum n
      let mu := if d.bpp k = 1 then (d.live (R.BLV_LAYER_CFG_LAYER_BLACK k) : Int) + divOr 1 (mean * 256) (d.live (R.BLV_LAYER_SCALE k)) else mean
      (n, mu - ped)
  if r.1 < least ∨ r.1 = 0 ∨ r.2 < d.live R.CAL_MIN_CFG_FLAT_MIN_SIGNAL then none else some r.2

/-- The FLAT candidate of a role in a window (R317). -/
def Dev.flatCand (d : Dev) (s : CalSums) (r : Nat) : Option FlatCand :=
  match d.calSpan r with
  | none => none
  | some (lo, hi, xc, w, _, _) =>
    let start := d.slive (R.BLV_BAND_START r)
    let n := hi + 1 - lo
    let sig := (List.range n).map fun i => d.flatSignal s r (start + (lo + i : Nat))
    let rad := max (d.live R.CAL_WIN_CFG_FLAT_RADIUS) 1
    let f := fun i => match sig.getD i none with
      | none => q22
      | some v =>
        let near := ((sig.drop (i - rad)).take (i + rad + 1 - (i - rad))).filterMap id
        let ref := meanI near.sum near.length
        divOr 2 (ref * q22 + v / 2) v
    let fb := (List.range n).map f
    let fAt := fun (j : Nat) =>
      let x : Int := 256 * (j : Int)
      match (List.range (n - 1)).find? fun i => decide (xc.getD (lo + i) 0 ≤ x) && decide (x < xc.getD (lo + i + 1) 0) with
      | some i =>
        let xb := xc.getD (lo + i) 0
        let a := fb.getD i q22
        a + (fb.getD (i + 1) q22 - a) * (x - xb) / (xc.getD (lo + i + 1) 0 - xb)
      | none => if x = xc.getD hi 0 then fb.getD (n - 1) q22 else q22
    some { fs := (List.range w).map fAt, unusable := (sig.filter (·.isNone)).length, cols := n }

/-- Carry a value from the reference band outward along a chain of neighbours (R318, R320): `zs` holds what each neighbouring pair gives, `none`
where the chain breaks. The result gives each band its value, `none` beyond a break. -/
def chainOut (up down : Int → Int → Int) (dflt : Int) (bands : List Nat) (ref : Nat) (zs : List (Option Int)) : List (Nat × Option Int) :=
  match bands.findIdx? (fun r => r = ref) with
  | none => bands.map fun r => (r, none)
  | some i =>
    let climb := fun (step : Int → Int → Int) (bs : List Nat) (zs : List (Option Int)) =>
      ((bs.zip zs).foldl (fun (acc : Option Int × List (Nat × Option Int)) (x : Nat × Option Int) =>
        let v := match acc.1, x.2 with | some g, some z => some (step g z) | _, _ => none
        (v, acc.2 ++ [(x.1, v)])) (some dflt, [])).2
    (climb down (bands.take i).reverse (zs.take i).reverse).reverse ++ [(ref, some dflt)] ++ climb up (bands.drop (i + 1)) (zs.drop i)

/-- The clipped valid span of a band in local columns: over both halves of a bonded pair (R134, R135). -/
def Dev.bandSpan (d : Dev) (r : Nat) : Option (Int × Int) :=
  let spans := (d.bandRoles r).filterMap fun q => (d.calSpan q).map fun (lo, hi, _) => (d.slive (R.BLV_BAND_START q) + (lo : Int), d.slive (R.BLV_BAND_START q) + (hi : Int))
  match spans with
  | [] => none
  | x :: xs => some (xs.foldl (fun a b => (min a.1 b.1, max a.2 b.2)) x)

/-- The zones: neighbouring bands whose valid spans overlap (R313). -/
def Dev.calNeighbours (d : Dev) : List (Nat × Nat) :=
  let bs := d.calBands
  (bs.zip (bs.drop 1)).filter fun (p, q) => match d.bandSpan p, d.bandSpan q with | some x, some y => decide (max x.1 y.1 ≤ min x.2 y.2) | _, _ => false

/-- What each pair of neighbouring bands gives. -/
def Dev.zoneVals (d : Dev) (s : CalSums) (f : PairSum → Option Int) : List (Option Int) :=
  let bs := d.calBands
  (bs.zip (bs.drop 1)).map fun (p, q) => match s.zones.find? fun z => decide (z.a = p) && decide (z.b = q) with | some z => f z | none => none

/-- The reference band of MATCH_REF. -/
def Dev.calRef (d : Dev) : Nat := d.bandKey (d.live R.CAL_CTRL_MATCH_REF)

/-- The MATCH candidates of a window (R318). -/
def Dev.matchCand (d : Dev) (s : CalSums) : List (Nat × Option Int) :=
  let rho := fun (z : PairSum) =>
    let n := z.rows * z.sumA.length
    if n < d.live R.CAL_MIN_CFG_MIN_SAMPLES ∨ n = 0 then none else
    let b := meanI z.sumB.sum n
    some (divOr 3 (meanI z.sumA.sum n * q22 + b / 2) b)
  chainOut (fun g r => (g * r + 2 ^ 21) / 2 ^ 22) (fun g r => divOr 4 (g * q22 + r / 2) r) q22 d.calBands d.calRef (d.zoneVals s rho)

/-- The lags of the zones in a window, with whether each is weak (R319): all sums of a zone without a clean row are 0, so its peak is weak. -/
def Dev.zonePeaks (d : Dev) (md : Bool) (s : CalSums) : List (Nat × Nat × Int × Bool) :=
  let cm := d.live R.CAL_CORR_CFG_CORR_MIN
  d.calNeighbours.map fun (a, b) => match s.zones.find? fun z => decide (z.a = a) && decide (z.b = b) with
    | some z => let p := if md then peakOf d.mdLag cm z.md else peakOf d.cdLag cm z.cd; (a, b, p.1, p.2)
    | none => (a, b, 0, true)

/-- Cumulative shifts of the bands from the lags of the zones (R320). Log 114 (DEDUCED, unsafe). -/
def Dev.chainShift (d : Dev) (peaks : List (Nat × Nat × Int)) : List (Nat × Option Int) :=
  let bs := d.calBands
  chainOut (· + ·) (· - ·) 0 bs d.calRef ((bs.zip (bs.drop 1)).map fun (p, q) => match peaks.find? fun x => decide (x.1 = p) && decide (x.2.1 = q) with | some x => some x.2.2 | none => none)

/-- The agreed value of a quantity (R321). -/
def agreed (x y : Int) : Int := (x + y + 1) / 2

/-! ### Acceptance (R321, R322) -/

/-- A rejected unit: code, kind, role, channel. -/
abbrev Reject := Nat × Nat × Nat × Nat

/-- The GAIN target of a source column before its limit (R320). -/
def gainTarget (gain : Nat) (f g : Int) : Int := (gain * ((f * g + 2 ^ 21) / 2 ^ 22) + 2 ^ 21) / 2 ^ 22

/-- The units' results as they are accepted: F of a role, G of a band, Δ and Σ of a band, and (role × 4 + channel, component, λ, σ). -/
structure CalUnits where
  flat : List (Nat × List Int) := []
  scale : List (Nat × Int) := []
  md : List (Nat × Int) := []
  cd : List (Nat × Int) := []
  color : List (Nat × Nat × Int × Int) := []
  count : Nat := 0
  deriving DecidableEq, Repr

/-- The FLAT decision of a role. Log 115 (DEDUCED, unsafe). -/
def Dev.flatUnit (d : Dev) (r : Nat) : Except Reject (List Int) :=
  let chan := d.calChan r
  match d.calSpan r, d.flatCand d.cal.sums1 r, d.flatCand d.cal.sums2 r with
  | some (_, _, _, w, c, m), some a, some b =>
    let tooBig := fun (f : FlatCand) => f.fs.any fun x => decide (d.live R.CAL_LIMIT0_FLAT_MAX * 256 < (x - q22).natAbs)
    let few := fun (f : FlatCand) => decide (f.cols / 8 < f.unusable)
    if tooBig a ∨ tooBig b then .error (0x5002, 0, r, chan)
    else if few a ∨ few b then .error (0x5001, 0, r, chan)
    else if (a.fs.zip b.fs).any fun (x, y) => decide (d.live R.CAL_AGREE_FLAT_AGREE * 256 < (x - y).natAbs) then .error (0x5007, 0, r, chan)
    else
      let fs := (a.fs.zip b.fs).map fun (x, y) => agreed x y
      let base := d.live (R.STR_CH_SRC_BASE r c) + m * w
      if fs.zipIdx.any fun (f, j) => decide (65535 < gainTarget (tapGain d.cal.taps r (base + j)) f q22) then .error (0x5010, 0, r, chan)
      else .ok fs
  | _, _, _ => .error (0x5001, 0, r, chan)

/-- The value a table gives a band of a role. -/
def Dev.bandVal (d : Dev) (xs : List (Nat × Int)) (r : Nat) (dflt : Int) : Int :=
  match xs.find? fun x => x.1 = d.bandKey r with | some x => x.2 | none => dflt

/-- F_j of a source column: 1.0 unless FLAT is accepted for its role. -/
def CalUnits.fOf (u : CalUnits) (r j : Nat) : Int := match u.flat.find? fun x => x.1 = r with | some x => x.2.getD j q22 | none => q22

/-- The source columns of the component that feeds CAL_LAYER from a role: first entry and width. -/
def Dev.calCols (d : Dev) (r : Nat) : Option (Nat × Nat) :=
  match d.layerSource r d.calLayer with
  | none => none
  | some (c, m) => let w := d.widthOf (d.live (R.STR_CH_CFG_STREAM r c)); some (d.live (R.STR_CH_SRC_BASE r c) + m * w, w)

/-- Roles of every band in order. -/
def Dev.calRoles (d : Dev) : List Nat := d.calBands.flatMap d.bandRoles

/-- The MATCH decision of the device. Log 115 (DEDUCED, unsafe). -/
def Dev.matchUnit (d : Dev) (u : CalUnits) : Except Reject (List (Nat × Int)) :=
  let a := d.matchCand d.cal.sums1
  let b := d.matchCand d.cal.sums2
  let none' := fun (x : List (Nat × Option Int)) => x.all fun y => decide (y.1 = d.calRef) || y.2.isNone
  let val := fun (x : Nat × Option Int) => x.2.getD q22
  if none' a ∨ none' b then .error (0x5001, 1, d.calRef, d.calChan d.calRef) else
  match (a ++ b).find? fun x => decide (d.live R.CAL_LIMIT0_MATCH_MAX * 256 < (val x - q22).natAbs) with
  | some x => .error (0x5003, 1, x.1, d.calChan x.1)
  | none =>
    match (a.zip b).find? fun (x, y) => decide (d.live R.CAL_AGREE_MATCH_AGREE * 256 < (val x - val y).natAbs) with
    | some (x, _) => .error (0x5007, 1, x.1, d.calChan x.1)
    | none =>
      let gs := (a.zip b).map fun (x, y) => (x.1, agreed (val x) (val y))
      match d.calRoles.find? fun r => match d.calCols r with
        | some (base, w) => (List.range w).any fun j => decide (65535 < gainTarget (tapGain d.cal.taps r (base + j)) (u.fOf r j) (d.bandVal gs r q22))
        | none => false with
      | some r => .error (0x5010, 1, r, d.calChan r)
      | none => .ok gs

/-- The tap entries of a channel: first, and how many. -/
def Dev.chanEntries (d : Dev) (r c : Nat) : Nat × Nat :=
  let st := d.live (R.STR_CH_CFG_STREAM r c)
  (d.live (R.STR_CH_SRC_BASE r c), d.compsOf st * d.widthOf st)

/-- What the delays of a role's channels become under accepted shifts: the code of the first condition of R321 they fail. -/
def Dev.dlyCheck (d : Dev) (u : CalUnits) (r : Nat) : Option (Nat × Nat) :=
  (List.range 4).findSome? fun c =>
    if !(d.lflag (R.STR_CH_CFG_ENABLE r c)) then none else
    let (base, n) := d.chanEntries r c
    let w := d.widthOf (d.live (R.STR_CH_CFG_STREAM r c))
    let shift := fun j => (if (match d.layerSource r d.calLayer with | some (k, _) => decide (k = c) | none => false) then d.bandVal u.md r 0 else 0) +
      (match u.color.find? fun x => decide (x.1 = r * 4 + c) && decide (x.2.1 = (if w = 0 then 0 else j / w)) with | some x => x.2.2.1 | none => 0)
    let ts := (List.range n).map fun j => tapDly d.cal.taps r (base + j) + shift j
    let hi := ts.foldl (fun m t => max m (dlyPu t d.outPitch).toNat) 0
    let lines := dlyMaxLines hi d.outPitch
    if ts.any fun t => decide (t < -32768) || decide (32767 < t) then some (0x5010, c)
    else if 128 < lines ∨ d.live R.BLV_MERGE_CFG < d.rsHold r + lines + 1 then some (0x5011, c) else none

/-- The MDREG decision of the device. -/
def Dev.mdUnit (d : Dev) (u : CalUnits) : Except Reject (List (Nat × Int)) :=
  let p1 := d.zonePeaks true d.cal.sums1
  let p2 := d.zonePeaks true d.cal.sums2
  let flat := fun (x : List (Nat × Nat × Int × Bool)) => x.map fun y => (y.1, y.2.1, y.2.2.1)
  if p1 = [] ∨ p2 = [] then .error (0x5001, 2, d.calRef, d.calChan d.calRef) else
  match (p1 ++ p2).find? fun x => x.2.2.2 with
  | some x => .error (0x5006, 2, x.2.1, d.calChan x.2.1)
  | none =>
    match (d.chainShift (flat p1) ++ d.chainShift (flat p2)).find? fun x => decide (d.live R.CAL_LIMIT1_MDREG_MAX < (x.2.getD 0).natAbs) with
    | some x => .error (0x5004, 2, x.1, d.calChan x.1)
    | none =>
      match (p1.zip p2).find? fun (x, y) => decide (d.live R.CAL_AGREE_MD_AGREE < (x.2.2.1 - y.2.2.1).natAbs) with
      | some (x, _) => .error (0x5007, 2, x.2.1, d.calChan x.2.1)
      | none =>
        let ds := (d.chainShift ((p1.zip p2).map fun (x, y) => (x.1, x.2.1, agreed x.2.2.1 y.2.2.1))).map fun x => (x.1, x.2.getD 0)
        match d.calRoles.findSome? fun r => (d.dlyCheck { u with md := ds } r).map fun x => (x.1, r, x.2) with
        | some (code, r, c) => .error (code, 2, r, c)
        | none => .ok ds

/-- The CH_X0 target of a channel (R320). -/
def x0Target (x0 sum m : Int) : Int := x0 + (sum * m + 2 ^ 21) / 2 ^ 22

/-- The CDREG decision of the device. -/
def Dev.cdUnit (d : Dev) : Except Reject (List (Nat × Int)) :=
  let p1 := d.zonePeaks false d.cal.sums1
  let p2 := d.zonePeaks false d.cal.sums2
  let flat := fun (x : List (Nat × Nat × Int × Bool)) => x.map fun y => (y.1, y.2.1, y.2.2.1)
  if p1 = [] ∨ p2 = [] then .error (0x5001, 3, d.calRef, d.calChan d.calRef) else
  match (p1 ++ p2).find? fun x => x.2.2.2 with
  | some x => .error (0x5006, 3, x.2.1, d.calChan x.2.1)
  | none =>
    match (d.chainShift (flat p1) ++ d.chainShift (flat p2)).find? fun x => decide (d.live R.CAL_LIMIT1_CDREG_MAX < (x.2.getD 0).natAbs) with
    | some x => .error (0x5005, 3, x.1, d.calChan x.1)
    | none =>
      match (p1.zip p2).find? fun (x, y) => decide (d.live R.CAL_AGREE_CD_AGREE < (x.2.2.1 - y.2.2.1).natAbs) with
      | some (x, _) => .error (0x5007, 3, x.2.1, d.calChan x.2.1)
      | none =>
        let ds := (d.chainShift ((p1.zip p2).map fun (x, y) => (x.1, x.2.1, agreed x.2.2.1 y.2.2.1))).map fun x => (x.1, x.2.getD 0)
        match d.calRoles.find? fun r => match d.layerSource r d.calLayer with
          | some (c, _) => let t := x0Target (tget (0, 0, 0) d.cal.places (r * 4 + c)).1 (d.bandVal ds r 0) (d.slive (R.STR_CH_M r c)); decide (t < -2147483648) || decide (2147483647 < t)
          | none => false with
        | some r => .error (0x5010, 3, r, d.calChan r)
        | none => .ok ds

/-- The XOFS target of a colour (R320). -/
def xofsTarget (x sigma m : Int) : Int := x + (sigma * m + 2 ^ 29) / 2 ^ 30

/-- The COLOR decision of a role. Log 114 (DEDUCED, unsafe). -/
def Dev.colorUnit (d : Dev) (u : CalUnits) (r : Nat) : Except Reject (List (Nat × Nat × Int × Int)) :=
  let cm := d.live R.CAL_CORR_CFG_CORR_MIN
  let one := fun (c m : Nat) => (fun (r' : Except Reject (Nat × Nat × Int × Int)) => r') <|
    match d.cal.sums1.colors.find? fun z => decide (z.a = r * 4 + c) && decide (z.b = m), d.cal.sums2.colors.find? fun z => decide (z.a = r * 4 + c) && decide (z.b = m) with
    | some x, some y =>
      let (l1, w1) := peakOf d.mdLag cm x.md
      let (l2, w2) := peakOf d.mdLag cm y.md
      let (s1, w3) := peakOf d.cdLag cm x.cd
      let (s2, w4) := peakOf d.cdLag cm y.cd
      if w1 ∨ w2 ∨ w3 ∨ w4 then .error (0x5006, 4, r, c)
      else if d.live R.CAL_LIMIT1_MDREG_MAX < max l1.natAbs l2.natAbs then .error (0x5004, 4, r, c)
      else if d.live R.CAL_LIMIT1_CDREG_MAX < max s1.natAbs s2.natAbs then .error (0x5005, 4, r, c)
      else if d.live R.CAL_AGREE_MD_AGREE < (l1 - l2).natAbs ∨ d.live R.CAL_AGREE_CD_AGREE < (s1 - s2).natAbs then .error (0x5007, 4, r, c)
      else
        let s := agreed s1 s2
        let p := tget (0, 0, 0) d.cal.places (r * 4 + c)
        let t := xofsTarget (if m = 0 then p.2.1 else p.2.2) s (d.slive (R.STR_CH_M r c))
        if t < -32768 ∨ 32767 < t then .error (0x5010, 4, r, c) else .ok (r * 4 + c, m, agreed l1 l2, s)
    | _, _ => .error (0x5006, 4, r, c)
  let all := (d.colorChans r).flatMap fun (c, _) => [one c 0, one c 2]
  let good := all.filterMap fun x => match x with | .ok y => some y | .error _ => none
  match all.findSome? fun x => match x with | .error e => some e | .ok _ => none with
  | some e => .error e
  | none => match d.dlyCheck { u with color := u.color ++ good } r with
    | some (code, c) => .error (code, 4, r, c)
    | none => .ok good

/-- A unit is rejected (R322). Each firing of CAL_REJECT has its own cycle. Log 116 (DEDUCED, unsafe). -/
def Dev.calReject (d : Dev) (x : Reject) : Dev :=
  let d := d.advance (d.time + 1)
  let d := (((d.setFld R.CAL_REJECT_REASON x.1).setFld R.CAL_REJECT_KIND x.2.1).setFld R.CAL_REJECT_ROLE x.2.2.1).setFld R.CAL_REJECT_CHAN x.2.2.2
  ((d.bump R.CAL_CNT_REJECT_CNT).raise R.CAL_EVENTS_REJECT).fire P.calReject

/-- Note a calibration code of the cycle as a whole or of the external method. -/
def Dev.calCode (d : Dev) (code kind : Nat) : Dev :=
  (((d.setFld R.CAL_REJECT_REASON code).setFld R.CAL_REJECT_KIND kind).setFld R.CAL_REJECT_ROLE 0).setFld R.CAL_REJECT_CHAN 0

/-- Take one unit's decision. Log 116 (DEDUCED, unsafe). -/
def Dev.unit {α : Type} (x : Dev × CalUnits) (e : Except Reject α) (f : CalUnits → α → CalUnits) (g : Dev → α → Dev) : Dev × CalUnits :=
  match e with
  | .error r => (x.1.calReject r, x.2)
  | .ok v => (g (x.1.bump R.CAL_CNT_ACCEPT_CNT) v, { f x.2 v with count := x.2.count + 1 })

/-- The decisions of every unit, in the order of the kinds. -/
def Dev.calUnits (d : Dev) : Dev × CalUnits :=
  let rs := d.calRoles
  let note := fun (h : Nat → Fld) (d : Dev) (xs : List (Nat × Int)) => xs.foldl (fun d x => (d.bandRoles x.1).foldl (fun d r => d.setFldI (h r) x.2) d) d
  let x : Dev × CalUnits := (d, {})
  let x := if d.calKind 0 then rs.foldl (fun x r => Dev.unit x (d.flatUnit r) (fun u v => { u with flat := u.flat ++ [(r, v)] }) (fun d _ => d)) x else x
  let x := if d.calKind 1 then Dev.unit x (d.matchUnit x.2) (fun u v => { u with scale := v }) (note R.CAL_ROLE_GAIN) else x
  let x := if d.calKind 2 then Dev.unit x (d.mdUnit x.2) (fun u v => { u with md := v }) (note R.CAL_ROLE_MD) else x
  let x := if d.calKind 3 then Dev.unit x d.cdUnit (fun u v => { u with cd := v }) (note R.CAL_ROLE_CD) else x
  if d.calKind 4 then
    ((List.range 16).filter fun r => d.waitedFor (d.blvSnap 0) r && !(d.colorChans r).isEmpty).foldl (fun x r => Dev.unit x (d.colorUnit x.2 r) (fun u v => { u with color := u.color ++ v }) (fun d _ => d)) x
  else x

/-- The targets of the accepted units (R320). -/
def Dev.calTargets (d : Dev) (u : CalUnits) : Dev :=
  let t := d.cal.taps
  let rs := d.calRoles
  let gain := rs.flatMap fun r => match d.calCols r with
    | some (base, w) =>
      if (u.flat.any fun x => x.1 = r) ∨ u.scale ≠ [] then (List.range w).map fun j => (srcAddr r (base + j), (min 65535 (gainTarget (tapGain t r (base + j)) (u.fOf r j) (d.bandVal u.scale r q22))).toNat) else []
    | none => []
  let dly := (List.range 16).flatMap fun r => (List.range 4).flatMap fun c =>
    let (base, n) := d.chanEntries r c
    let w := d.widthOf (d.live (R.STR_CH_CFG_STREAM r c))
    let own := (match d.layerSource r d.calLayer with | some (k, _) => decide (k = c) | none => false) && rs.contains r && decide (u.md ≠ [])
    if !(d.lflag (R.STR_CH_CFG_ENABLE r c)) then [] else
    (List.range n).filterMap fun j =>
      let col := u.color.find? fun x => decide (x.1 = r * 4 + c) && decide (x.2.1 = (if w = 0 then 0 else j / w))
      if !own && col.isNone then none else
      some (srcAddr r (base + j), tapDly t r (base + j) + (if own then d.bandVal u.md r 0 else 0) + (match col with | some x => x.2.2.1 | none => 0))
  let place := fun i => tget (0, 0, 0) d.cal.places i
  let x0 := rs.filterMap fun r => match d.layerSource r d.calLayer with
    | some (c, _) => if u.cd = [] then none else some (r * 4 + c, x0Target (place (r * 4 + c)).1 (d.bandVal u.cd r 0) (d.slive (R.STR_CH_M r c)))
    | none => none
  let xofs := u.color.map fun x => (x.1 * 2 + x.2.1 / 2, xofsTarget (if x.2.1 = 0 then (place x.1).2.1 else (place x.1).2.2) x.2.2.2 (d.slive (R.STR_CH_M (x.1 / 4) (x.1 % 4))))
  d.setCal fun c => { c with gain := gain, dly := dly, x0 := x0, xofs := xofs, decided := true }

/-- The cycle ends without anything left to do. Log 117 (DEDUCED, unsafe). -/
def Dev.calEnd (d : Dev) : Dev :=
  (d.setFld R.CAL_STATUS_PHASE calIdle |>.setFld R.CAL_STATUS_STEPPING 0).setCal fun c => { ext := c.ext }

/-- Is a cycle under way. -/
def Dev.calActive (d : Dev) : Bool := d.calPhase = calWindow1 || d.calPhase = calWindow2 || d.calPhase = calCompute || d.calPhase = calApply

/-- A cycle is abandoned (R325, R316). Log 186 (DEDUCED, unsafe), 271 (DEDUCED, unsafe). -/
def Dev.calAbandon (d : Dev) (code : Nat) : Dev :=
  if !d.calActive then d else ((d.calCode code 6).raise R.CAL_EVENTS_ABANDONED).calEnd.setCal fun c => { c with endedAt := d.time + 1 }

/-- Have the rows of both windows left the store, and the background taken their decimator outputs (R175, R314). Log 112 (DEDUCED, unsafe). -/
def Dev.calReady (d : Dev) : Bool :=
  decide (d.calPhase = calCompute) && !d.cal.decided && decide (d.cal.start + 2 * d.calWindow + max 64 (d.prfVer d.blv.nextRow).bgLag ≤ d.blv.nextRow)

/-- The last output line by which the decision must be made (R316). -/
def Dev.calDeadline (d : Dev) : Nat := d.cal.start + 2 * d.calWindow + max (d.live R.CAL_WIN_CFG_COMPUTE_FRAMES) 1 * d.pos.frameLines

/-- COMPUTE_FRAMES pass without a decision (R316). -/
def Dev.calLate (d : Dev) : Dev :=
  if d.calPhase = calCompute ∧ !d.cal.decided ∧ d.calDeadline ≤ d.pos.linesPassed then d.calAbandon 0x5009 else d

/-- The firmware's arithmetic ends (R321, R322); past the deadline the cycle is abandoned instead (R316).
Log 112 (DEDUCED, unsafe), 117 (DEDUCED, unsafe). -/
def Dev.calDecision (d : Dev) : Dev :=
  if !d.calReady then d else if d.calDeadline ≤ d.pos.linesPassed then d.calLate else
  let (d, u) := d.calUnits
  if u.count = 0 then d.calEnd else
  let d := d.advance (d.time + 1)
  ((d.calTargets u).raise R.CAL_EVENTS_ACCEPT).fire P.calAccept

/-! ### Steps (R323, R324) and trims in general (R125) -/

/-- Move a value toward a target by at most a step. -/
def stepTo (step : Nat) (v t : Int) : Int := v + clampI (-(step : Int)) step (t - v)

/-- Does a tap entry, of 8 bytes, hold the same in both copies (R122, R125). -/
def Dev.tapSame (d : Dev) (a : Nat) : Bool := [a / 8 * 8, a / 8 * 8 + 4].all fun b => decide (tapWord d.taps b = tapWord d.tapsLive b)

/-- Change a live tap word; the shadow word follows where its entry still equals the old live one (R125). -/
def Dev.trimTap (d : Dev) (a lo w v : Nat) : Dev :=
  let old := (tget (tapReset a) d.tapsLive a).toNat
  let sh := (tget (tapReset a) d.taps a).toNat
  let same := d.tapSame a
  let d := { d with tapsLive := tset (tapReset a) d.tapsLive a (BitVec.ofNat 32 (putBits old lo w v)) }
  if same then { d with taps := tset (tapReset a) d.taps a (BitVec.ofNat 32 (putBits sh lo w v)) } else d

/-- Change a live register field in the same way (R125). -/
def Dev.trimFld (d : Dev) (f : Fld) (v : Int) : Dev :=
  let old := d.live f
  let same := d.fld f = old
  let d := d.setFldI (liveOf f) v
  if same then d.setFldI f v else d

/-- The pipelines take the live tap tables: GAIN and DARK for the lines of the live epoch that pass stage 1 from now on, the output side from
boundary `b` on (R323). -/
def Dev.tapsMoved (d : Dev) (b : Nat) : Dev :=
  (List.range 16).foldl (fun d r =>
    let c := d.cor r
    match c.camLive with
    | none => d
    | some l => d.setCor r { c with camLive := some { l with taps := d.tapsLive }, outs := (d.outSnap r b :: c.outs.filter fun v => v.line ≠ b).take 4 }) d

def chX0 (i : Nat) : Fld := R.STR_CH_X0 (i / 4) (i % 4)
def chXofs (i : Nat) : Fld := if i % 2 = 0 then R.STR_CH_COLOR_XOFS_RED (i / 8) (i / 2 % 4) else R.STR_CH_COLOR_XOFS_BLUE (i / 8) (i / 2 % 4)

/-- What remains between live values and targets. -/
def Dev.calLeft (d : Dev) : List Nat × List Nat × List Nat × List Nat :=
  ((d.cal.gain.filter fun x => bits (tapWord d.tapsLive x.1) 16 16 ≠ x.2).map (·.1),
   (d.cal.dly.filter fun x => sx 16 (bits (tapWord d.tapsLive (x.1 + 4)) 0 16) ≠ x.2).map (·.1),
   (d.cal.x0.filter fun x => d.slive (chX0 x.1) ≠ x.2).map (·.1),
   (d.cal.xofs.filter fun x => d.slive (chXofs x.1) ≠ x.2).map (·.1))

/-- The steps of one boundary (R323). -/
def Dev.calStep (d : Dev) (b : Nat) : Dev :=
  let sg := max (d.live R.CAL_STEP_TRIM_STEP_GAIN) 1
  let sm := max (d.live R.CAL_STEP_TRIM_STEP_MD) 1
  let sc := max (d.live R.CAL_STEP_TRIM_STEP_CD) 1
  let (l1, l2, l3, l4) := d.calLeft
  if l1 = [] ∧ l2 = [] ∧ l3 = [] ∧ l4 = [] then d else
  let d := d.cal.gain.foldl (fun d x => d.trimTap x.1 16 16 (wrapN 16 (stepTo sg (bits (tapWord d.tapsLive x.1) 16 16) x.2))) d
  let d := d.cal.dly.foldl (fun d x => d.trimTap (x.1 + 4) 0 16 (wrapN 16 (stepTo sm (sx 16 (bits (tapWord d.tapsLive (x.1 + 4)) 0 16)) x.2))) d
  let d := d.cal.x0.foldl (fun d x => d.trimFld (chX0 x.1) (stepTo (sc * 256) (d.slive (chX0 x.1)) x.2)) d
  let d := d.cal.xofs.foldl (fun d x => d.trimFld (chXofs x.1) (stepTo sc (d.slive (chXofs x.1)) x.2)) d
  (d.incr R.CAL_TRIM_SEQ).tapsMoved b

/-- The roles that still have steps to make. -/
def Dev.calStepping (d : Dev) : Nat :=
  let (l1, l2, l3, l4) := d.calLeft
  let rs := (l1 ++ l2).map (fun a => (a - 0x03000000) / 0x80000) ++ l3.map (fun i => i / 4) ++ l4.map (fun i => i / 8)
  (List.range 16).foldl (fun m r => if rs.contains r then m + 2 ^ r else m) 0

/-- A cycle begins at boundary `b` (R316): the live taps and positions are those its targets are taken from (R320). -/
def Dev.calStart (d : Dev) (b : Nat) : Dev :=
  let places := (List.range 64).foldl (fun t i => tset (0, 0, 0) t i (d.slive (chX0 i), d.slive (R.STR_CH_COLOR_XOFS_RED (i / 4) (i % 4)), d.slive (R.STR_CH_COLOR_XOFS_BLUE (i / 4) (i % 4)))) ([] : Tbl (Int × Int × Int))
  ((d.setFld R.CAL_STATUS_PHASE calWindow1).setFld R.CAL_WIN_START b).setCal fun c => { ext := c.ext, start := b, taps := d.tapsLive, places := places }

/-- Self-calibration at boundary `b`, after the commits of that boundary (R316, R323): a cycle abandoned in this cycle has its
successor at the next boundary (R325), and a decision that has not come by its deadline comes no more (R316). Answers whether APPLY ended here.
Log 271 (DEDUCED, unsafe). -/
def Dev.calBoundary (d : Dev) (b : Nat) : Dev × Bool :=
  if !(d.lflag R.CAL_CTRL_SELF_EN) ∨ !(d.mode = .inspect ∨ d.mode = .degraded) then (d, false) else
  match d.calPhase with
  | 0 => (if d.cal.endedAt = d.time + 1 then d else d.calStart b, false)
  | 1 => (if d.cal.start + d.calWindow ≤ b then (d.setFld R.CAL_STATUS_PHASE calWindow2).setFld R.CAL_WIN_START b else d, false)
  | 2 => (if d.cal.start + 2 * d.calWindow ≤ b then (d.setFld R.CAL_STATUS_PHASE calCompute).setFld R.CAL_WIN_START b else d, false)
  | _ =>
    if d.calPhase = calCompute ∧ !d.cal.decided then (if d.calDeadline ≤ b then d.calAbandon 0x5009 else d, false) else
    if !d.cal.decided ∨ !(d.calPhase = calCompute ∨ d.calPhase = calApply) then (d, false) else
    let d := if d.calPhase = calApply then d else (d.setFld R.CAL_STATUS_PHASE calApply).setFld R.CAL_WIN_START b
    let d := d.calStep b
    let st := d.calStepping
    if st = 0 then ((d.raise R.CAL_EVENTS_APPLY_DONE).calEnd, true) else (d.setFld R.CAL_STATUS_STEPPING st, false)

/-- Does a change of the live value at an address end a cycle (R325). -/
def Dev.calSensitive (d : Dev) (a : Nat) : Bool :=
  (decide (0x01000000 ≤ a) && decide (a < 0x02000000) && decide (a % 0x100000 < 0x800)) || (decide (0x03000000 ≤ a) && decide (a < 0x04000000)) ||
  (decide (0x501000 ≤ a) && decide (a < 0x501200)) ||
  (List.range 4).any (fun k => a = (R.BLV_LAYER_CFG k).addr || a = (R.BLV_LAYER_SCALE k).addr) || a = (R.BLV_PRF_CFG d.calLayer).addr ||
  a = R.POS_OUT_PITCH.addr || (decide (0xB00000 ≤ a) && decide (a < 0xB00800))

/-! ### The external-reference method (R326, R327) -/

/-- The components that an external run sums: the enabled components of every running role. -/
def Dev.extComps (d : Dev) : List ExtComp :=
  (List.range 16).flatMap fun r => if !(d.lflag (R.STR_COR_CTRL_ENABLE r)) then [] else
    (List.range 4).flatMap fun c => if !(d.lflag (R.STR_CH_CFG_ENABLE r c)) then [] else
      let st := d.live (R.STR_CH_CFG_STREAM r c)
      (List.range (d.compsOf st)).map fun m => { role := r, chan := c, comp := m, lines := 0, h1 := List.replicate (d.widthOf st) 0, h2 := List.replicate (d.widthOf st) 0 }

/-- May an external run start (R326): in CALIBRATE, with WHITE_TARGET above CH_PEDESTAL of every enabled channel. -/
def Dev.extAllowed (d : Dev) : Bool :=
  decide (d.mode = .calibrate) && (List.range 64).all fun i => !(d.lflag (R.STR_CH_CFG_ENABLE (i / 4) (i % 4))) || decide (d.live (R.STR_CH_PEDESTAL (i / 4) (i % 4)) < d.live R.CAL_EXT_CFG_WHITE_TARGET)

/-- The run begins, in BLACK or in WHITE (R326). -/
def Dev.extStart (d : Dev) : Dev :=
  let m := d.live R.CAL_EXT_CFG_EXT_MODE
  let e : ExtCal := { mode := if m = 3 then 0 else m, white := d.live R.CAL_EXT_CFG_WHITE_TARGET, lines := max (d.live R.CAL_EXT_CFG1_REF_LINES / 2 * 2) 64, minSpan := d.live R.CAL_EXT_CFG1_REF_MIN_SPAN, agree := d.live R.CAL_EXT_CFG2, sums := d.extComps }
  (d.setFld R.CAL_STATUS_PHASE calExternal).setCal fun c => { c with ext := some e }

/-- The run ends; PHASE returns to IDLE. -/
def Dev.extEnd (d : Dev) : Dev := (if d.calPhase = calExternal then d.setFld R.CAL_STATUS_PHASE calIdle else d).setCal fun c => { c with ext := none }

def addNats (x y : List Nat) : List Nat := (x.zip y).map fun (a, b) => a + b

/-- A line passes stage 1 while the run sums (R326). Log 118 (DEDUCED, unsafe). -/
def Dev.extLine (d : Dev) (r : Nat) (l : BusLine) : Dev :=
  match d.cal.ext, chanOf (d.camVer r l.epoch).chans l.stream with
  | some e, some (c, _) =>
    let put := fun (x : ExtComp) =>
      if x.role ≠ r ∨ x.chan ≠ c ∨ x.comp ≠ compIdx l.color ∨ e.lines ≤ x.lines then x
      else if x.lines < e.lines / 2 then { x with lines := x.lines + 1, h1 := addNats x.h1 l.pix } else { x with lines := x.lines + 1, h2 := addNats x.h2 l.pix }
    d.setCal fun s => { s with ext := some { e with sums := e.sums.map put } }
  | _, _ => d

/-- Have all components summed their lines. -/
def ExtCal.full (e : ExtCal) : Bool := e.sums.all fun x => decide (e.lines ≤ x.lines)

/-- The means of both halves of a component (R327). -/
def ExtComp.means (x : ExtComp) (lines : Nat) : List (Int × Int) :=
  (x.h1.zip x.h2).map fun (a, b) => (meanI (a : Int) (lines / 2), meanI (b : Int) (lines / 2))

/-- The results of one component: the fields of its tap entries that change and their values, and its dead columns, or nothing where the halves
disagree. A column keeps what no result names. -/
def Dev.extResult (d : Dev) (e : ExtCal) (x : ExtComp) : Option (List TapField × Nat) :=
  let find := fun (xs : List ExtComp) => xs.find? fun y => decide (y.role = x.role) && decide (y.chan = x.chan) && decide (y.comp = x.comp)
  let black := match find e.black with | some b => some (b.means e.lines) | none => none
  let white := if e.mode = 2 then none else some (x.means e.lines)
  let bad := fun (m : Option (List (Int × Int))) => (fun (b : Bool) => b) <| match m with | some ps => ps.any fun p => decide (e.agree < (p.1 - p.2).natAbs) | none => false
  if bad black ∨ bad white then none else
  let base := d.live (R.STR_CH_SRC_BASE x.role x.chan) + x.comp * x.h1.length
  let ped := d.live (R.STR_CH_PEDESTAL x.role x.chan)
  let one := fun j =>
    let a := srcAddr x.role (base + j)
    let at' := fun (ps : List (Int × Int)) => agreed (ps.getD j (0, 0)).1 (ps.getD j (0, 0)).2
    let darks : List TapField := match black with | some ps => [{ addr := a, lo := 0, width := 16, val := (at' ps).toNat }] | none => []
    let dark : Int := match black with | some ps => at' ps | none => bits (tapWord d.tapsLive a) 0 16
    match white with
    | none => (darks, 0)
    | some ps =>
      let span := at' ps - dark
      if span < e.minSpan then (darks ++ [({ addr := a + 4, lo := 16, width := 3, val := 3 } : TapField)], 1)
      else
        let g := min 65535 (divOr 5 (((e.white : Int) - ped) * 2 ^ 14 + span / 2) span)
        (darks ++ [({ addr := a, lo := 16, width := 16, val := g.toNat } : TapField)], 0)
  let rs := (List.range x.h1.length).map one
  some (rs.flatMap (·.1), (rs.map (·.2)).sum)

/-- COMPUTE (R327): the results, or the code of the rejection. -/
def Dev.extCompute (d : Dev) (e : ExtCal) : Except Nat ExtCal :=
  let rs := (if e.mode = 2 then e.black else e.sums).map fun x => (x.role, d.extResult e x)
  if rs.any fun r => r.2.isNone then .error 0x500B else
  let ok : List (Nat × List TapField × Nat) := rs.filterMap fun r => r.2.map fun x => (r.1, x)
  if ok.any fun r => decide (64 < r.2.2) then .error 0x500A else
  .ok { e with results := ok.flatMap (·.2.1), dead := (List.range 16).map fun r => (r, ((ok.filter fun x => x.1 = r).map (·.2.2)).sum) }

/-- APPLY (R327): the results are written whole at boundary `b`, in live and in shadow. -/
def Dev.extApply (d : Dev) (e : ExtCal) (b : Nat) : Dev :=
  let d := e.results.foldl (fun d (x : TapField) => d.trimTap x.addr x.lo x.width x.val) d
  let d := e.dead.foldl (fun d x => if e.sums.any (fun y => y.role = x.1) || e.black.any (fun y => y.role = x.1) then d.setFld (R.CAL_ROLE_STATE_DEAD_COLS x.1) x.2 else d) d
  ((d.tapsMoved b).raise R.CAL_EVENTS_EXT_DONE).extEnd

end Sys2Proof.Machine
end

