-- ==== Sys2Proof/Machine/Pantry.lean ====
section
/-!
DEFINITION. The Pantry (R328 to R332): its layout in flash, reading it at FOYER, writing it, and the trims it gives to cameras.
-/
namespace Sys2Proof.Machine

def Dev.setPantry (d : Dev) (f : PantryState → PantryState) : Dev := { d with pantry := f d.pantry }

def pantrySize : Nat := 4194304
def pantryMagic : Nat := 0x59544E50

/-! ### The layout (R328, R329) -/

/-- A section as bytes. -/
def PantrySec.bytes (s : PantrySec) : List Byte :=
  leBytes 1 s.ty ++ leBytes 1 s.index ++ leBytes 1 s.comp ++ [0] ++ leBytes 4 s.body.length ++ leBytes 4 s.key ++ leBytes 2 s.width ++ leBytes 1 s.fmt ++ [0] ++ s.body

/-- The sections that bytes spell. -/
def pantrySecs : Nat → List Byte → List PantrySec
  | 0, _ => []
  | n + 1, bs =>
    let len := leAt bs 4 4
    { ty := leAt bs 0 1, index := leAt bs 1 1, comp := leAt bs 2 1, key := leAt bs 8 4, width := leAt bs 12 2, fmt := leAt bs 14 1, body := slice bs 16 len } :: pantrySecs n (bs.drop (16 + len))

/-- A copy as bytes: header and body. -/
def pantryBytes (seq place trim line : Nat) (secs : List PantrySec) : List Byte :=
  let body := secs.flatMap PantrySec.bytes
  let head := leBytes 4 pantryMagic ++ leBytes 2 1 ++ leBytes 2 secs.length ++ leBytes 4 seq ++ leBytes 4 body.length ++ leBytes 4 (crc32 body) ++ leBytes 4 place ++ leBytes 4 trim ++ leBytes 8 line ++ zeros 24
  head ++ leBytes 4 (crc32 head) ++ body

/-- Is a copy valid (R329). -/
def pantryValid (bs : List Byte) : Bool :=
  decide (leAt bs 0 4 = pantryMagic) && decide (leAt bs 4 2 = 1) && decide (leAt bs 60 4 = crc32 (slice bs 0 60)) &&
  decide (leAt bs 12 4 ≤ pantrySize - 64) && decide (leAt bs 16 4 = crc32 (slice bs 64 (leAt bs 12 4)))

/-- The bytes of copy 0 (A) or 1 (B): header and as much body as it claims. -/
def Dev.pantryCopy (d : Dev) (c : Nat) : List Byte :=
  let o := flashPantry c
  d.flashRead o (64 + min (pantrySize - 64) (leNat (d.flashRead (o + 12) 4)))

/-- A seed of the Pantry (R182). -/
def PantrySec.seed (s : PantrySec) : Option Seed :=
  if s.ty ≠ 3 then none else
  let n := leAt s.body 8 4
  some { key := leAt s.body 0 8, layer := s.index, cols := n, base := leAt s.body 12 4, pitch := leAt s.body 16 4, vals := (List.range n).map fun i => leAt s.body (24 + 2 * i) 2 }

/-- Look at both copies: which is current, its SEQ and sections (R329). -/
def Dev.pantryLook (d : Dev) : Dev :=
  let a := d.pantryCopy 0
  let b := d.pantryCopy 1
  let va := pantryValid a
  let vb := pantryValid b
  let cur := if vb && (!va || decide (leAt a 8 4 < leAt b 8 4)) then 1 else 0
  let bs := if cur = 1 then b else a
  let ok := va || vb
  let secs := if ok then pantrySecs (leAt bs 6 2) (bs.drop 64) else []
  let d := (d.setFld R.CAL_STATUS_PANTRY_VALID (b2n va + 2 * b2n vb)).setFld R.CAL_STATUS_PANTRY_COPY cur
  (d.setFld R.CAL_PANTRY_SEQ (if ok then leAt bs 8 4 else 0)).setPantry fun p => { p with secs := secs }

/-- The firmware reads the Pantry at FOYER (R329). -/
def Dev.pantryBoot (d : Dev) : Dev :=
  let d := d.pantryLook
  if d.fld R.CAL_STATUS_PANTRY_VALID = 0 then (({ d with seeds := [] }).calCode 0x500E 6).raise R.CAL_EVENTS_PANTRY_BAD
  else { d with seeds := d.pantry.secs.filterMap PantrySec.seed }

/-! ### Writing (R330, R331) -/

/-- The port that feeds a channel. -/
def Dev.chanPort (d : Dev) (r c : Nat) : Option Nat := (d.streamInfo (d.live (R.STR_CH_CFG_STREAM r c))).map (·.port)

/-- CAM_KEY of a port: CRC-32 of the model and serial fields of its ID window; 0 for a CLG port (R328). -/
def Dev.camKey (d : Dev) (p : Nat) : Nat :=
  if p < 16 then crc32 (wordBytes ((List.range 16).map fun i => d.fld (R.CAM_ID p (8 + i)))) else 0

/-- The key, width and format that a section of a channel must have. -/
def Dev.chanMark (d : Dev) (r c : Nat) : Option (Nat × Nat × Nat) :=
  (d.chanPort r c).map fun p => (d.camKey p, d.widthOf (d.live (R.STR_CH_CFG_STREAM r c)), d.pixFmt p)

/-- The TRIM_SRC sections of a channel from the live taps. -/
def Dev.srcSecs (d : Dev) (r c : Nat) : List PantrySec :=
  match d.chanMark r c with
  | none => []
  | some (key, w, fmt) =>
    let base := d.live (R.STR_CH_SRC_BASE r c)
    (List.range (d.compsOf (d.live (R.STR_CH_CFG_STREAM r c)))).map fun m =>
      { ty := 1, index := r, comp := 4 * c + m, key := key, width := w, fmt := fmt, body := (List.range w).flatMap fun j =>
          let a := srcAddr r (base + m * w + j)
          leBytes 4 (tapWord d.tapsLive a) ++ leBytes 2 (tapWord d.tapsLive (a + 4)) }

/-- The TRIM_REG section of a channel. -/
def Dev.regSecs (d : Dev) (r c : Nat) : List PantrySec :=
  match d.chanMark r c with
  | none => []
  | some (key, w, fmt) =>
    [{ ty := 2, index := r, comp := 4 * c, key := key, width := w * d.compsOf (d.live (R.STR_CH_CFG_STREAM r c)), fmt := fmt, body := leBytes 4 (d.live (R.STR_CH_X0 r c)) ++ leBytes 4 (d.live (R.STR_CH_COLOR_XOFS r c)) }]

/-- The SEED section of a layer: its background, or the one of the current copy while columns are not LIVE. -/
def Dev.seedSecs (d : Dev) (k : Nat) : List PantrySec :=
  let x := d.prfLayer k
  if !((d.prfVer d.blv.nextRow).en.getD k false) then []
  else if x.cols ≠ [] ∧ x.cols.all (fun c => c.st = 0) then
    [{ ty := 3, index := k, comp := 0, key := 0, width := 0, fmt := 0, body := leBytes 8 (d.live R.BLV_PRF_SEED_KEY) ++ leBytes 4 x.cols.length ++ leBytes 4 (d.live R.BLV_DEV_COL_BASE) ++ leBytes 4 (d.live R.BLV_CD_PITCH) ++ zeros 4 ++ x.cols.flatMap fun c => leBytes 2 c.b }]
  else d.pantry.secs.filter fun s => decide (s.ty = 3) && decide (s.index = k)

/-- Drop sections from the end until the copy fits (R331). -/
def fitSecs (room : Nat) : List PantrySec → List PantrySec
  | [] => []
  | s :: ss => if s.body.length + 16 ≤ room then s :: fitSecs (room - (s.body.length + 16)) ss else []

/-- The contents of a write: sections, and whether a seed was omitted (R331). -/
def Dev.pantryContents (d : Dev) : List PantrySec × Bool :=
  let chans := (List.range 64).filter fun i => d.lflag (R.STR_CH_CFG_ENABLE (i / 4) (i % 4))
  let trims := (chans.filter fun i => d.waitedFor (d.blvSnap 0) (i / 4)).flatMap (fun i => d.srcSecs (i / 4) (i % 4)) ++ chans.flatMap fun i => d.regSecs (i / 4) (i % 4)
  let seeds := (List.range 4).flatMap d.seedSecs
  let kept := fitSecs (pantrySize - 64 - (trims.map fun s => s.body.length + 16).sum) seeds
  (trims ++ kept, decide (kept.length < seeds.length))

/-- PERSIST_INTERVAL in cycles; below 600 s acts as 600. -/
def Dev.persistCycles (d : Dev) : Nat := max (d.live R.CAL_PERSIST_INTERVAL) 600 * 400000000

/-- Is a write due (R330); after a failure it waits for the interval to end again (R331). -/
def Dev.pantryDue (d : Dev) : Bool :=
  d.lflag R.CAL_CTRL_PERSIST_EN && decide (d.mode = .armed ∨ d.mode = .inspect ∨ d.mode = .degraded ∨ d.mode = .calibrate ∨ d.mode = .replay) &&
  (match d.pantry.lastWrite with | some t => decide (t + d.persistCycles ≤ d.time) | none => true) &&
  (match d.pantry.failedAt with | some t => decide (t + d.persistCycles ≤ d.time) | none => true) && d.pantry.trigger && d.pantry.writing.isNone

/-- The contents of a write as they are now, under the boundary `b` (R331). -/
def Dev.pantryTake (d : Dev) (b : Nat) : PantryTaken :=
  let (secs, omitted) := d.pantryContents
  { line := b, trimSeq := d.fld R.CAL_TRIM_SEQ, secs := secs, omitted := omitted }

/-- What a write that starts now writes: the contents that the last boundary took, or, where no boundary comes, those of now.
Log 270 (DEDUCED, unsafe). -/
def Dev.pantryTaken (d : Dev) : Option PantryTaken :=
  if d.mode.framed then d.pantry.taken else some (d.pantryTake (d.pos.linesPassed / d.pos.frameLines * d.pos.frameLines))

/-- A write falls due, and its contents are taken at one boundary; erasing begins (R330, R331). Log 119 (DEDUCED, unsafe). -/
def Dev.pantryWriteStart (d : Dev) : Dev :=
  if !d.pantryDue then d else
  match d.pantryTaken with
  | none => d
  | some x =>
  let v := d.fld R.CAL_STATUS_PANTRY_VALID
  let target := if v = 0 then 0 else 1 - d.fld R.CAL_STATUS_PANTRY_COPY
  let seq := if v = 0 then 1 else (d.fld R.CAL_PANTRY_SEQ + 1) % 2 ^ 32
  let bs := pantryBytes seq d.devicePlace x.trimSeq x.line x.secs
  let d := d.raiseIf x.omitted R.CAL_EVENTS_SEED_OMITTED
  let d := d.flashErase (flashPantry target) pantrySize
  let d := d.setFld R.CAL_STATUS_PANTRY_VALID (if target = 0 then v / 2 * 2 else v % 2)
  d.setPantry fun p => { p with writing := some (target, seq, bs), trigger := false, taken := none }

/-- Erasing, programming and read-back end (R331). `held` is what the flash holds where it did not take what was programmed.
Log 121 (DESIGN CHOICE, unsafe). -/
def Dev.pantryWriteDone (d : Dev) (held : Option (List Byte)) : Dev :=
  match d.pantry.writing with
  | none => d
  | some (target, _, bs) =>
    let got := (held.getD bs).take pantrySize
    let d := d.flashFill (flashPantry target) pantrySize got
    let d := d.setPantry fun p => { p with writing := none }
    if pantryValid got ∧ leAt got 8 4 = leAt bs 8 4 then
      (d.pantryLook.raise R.CAL_EVENTS_PANTRY_WRITTEN).setPantry fun p => { p with lastWrite := some d.time, failedAt := none }
    else ((d.calCode 0x500D 6).raise R.CAL_EVENTS_PANTRY_FAIL).setPantry fun p => { p with failedAt := some d.time, trigger := true }

/-- A trigger of R330 occurs. -/
def Dev.pantryTrigger (d : Dev) : Dev := d.setPantry fun p => { p with trigger := true }

/-- SETTLED has risen (R330): the first one after entry to INSPECT counts when a profiled layer's live key differs from its seed's. -/
def Dev.pantrySettled (d : Dev) : Dev :=
  if d.pantry.settledSeen ∨ !(d.mode = .inspect ∨ d.mode = .degraded) then d else
  let d := d.setPantry fun p => { p with settledSeen := true }
  let key := d.live R.BLV_PRF_SEED_KEY
  if (List.range 4).any fun k => (d.prfVer d.blv.nextRow).en.getD k false && !(d.pantry.secs.any fun s => decide (s.ty = 3) && decide (s.index = k) && decide (leAt s.body 0 8 = key)) then d.pantryTrigger else d

/-- Whole seconds since the last write. Log 119 (DEDUCED, unsafe). -/
def Dev.sinceWrite (d : Dev) : Nat := match d.pantry.lastWrite with | some t => min ((d.time - t) / 400000000) 0xFFFFFFFF | none => 0

/-- PANTRY_PENDING: a trigger has occurred, and its write has not begun. Log 119 (DEDUCED, unsafe). -/
def Dev.pantryPending (d : Dev) : Bool := d.pantry.trigger

/-! ### Applying stored trims (R332) -/

/-- Does a section belong to a channel as it is live. -/
def PantrySec.belongs (s : PantrySec) (ty r comp key width fmt : Nat) : Bool :=
  decide (s.ty = ty) && decide (s.index = r) && decide (s.comp = comp) && decide (s.key = key) && decide (s.width = width) && decide (s.fmt = fmt)

/-- The sections that a channel should have, and those that it finds: component (or none for TRIM_REG) and section. Log 120 (DEDUCED, unsafe). -/
def Dev.chanTrims (d : Dev) (r c : Nat) : List (Option Nat × Option PantrySec) :=
  match d.chanMark r c with
  | none => []
  | some (key, w, fmt) =>
    let n := d.compsOf (d.live (R.STR_CH_CFG_STREAM r c))
    ((List.range n).map fun m => (some m, d.pantry.secs.find? fun s => s.belongs 1 r (4 * c + m) key w fmt)) ++
    [(none, d.pantry.secs.find? fun s => s.belongs 2 r (4 * c) key (w * n) fmt)]

/-- Put a section's trims into live and shadow (R332, R125). Log 120 (DEDUCED, unsafe). -/
def Dev.applySec (d : Dev) (r c : Nat) (m : Option Nat) (s : PantrySec) : Dev :=
  match m with
  | some m =>
    let base := d.live (R.STR_CH_SRC_BASE r c) + m * s.width
    (List.range s.width).foldl (fun d j =>
      let a := srcAddr r (base + j)
      ((d.trimTap a 0 16 (leAt s.body (6 * j) 2)).trimTap a 16 16 (leAt s.body (6 * j + 2) 2)).trimTap (a + 4) 0 16 (leAt s.body (6 * j + 4) 2)) d
  | none => ((d.trimFld (R.STR_CH_X0 r c) (leAtI s.body 0 4)).trimFld (R.STR_CH_COLOR_XOFS_RED r c) (leAtI s.body 4 2)).trimFld (R.STR_CH_COLOR_XOFS_BLUE r c) (leAtI s.body 6 2)

/-- The stored trims of the channels that a port feeds apply. -/
def Dev.pantryApply (d : Dev) (p b : Nat) : Dev :=
  if !(d.lflag R.CAL_CTRL_PANTRY_APPLY) ∨ d.fld R.CAL_STATUS_PANTRY_VALID = 0 then d else
  let chans := (List.range 64).filter fun i => d.lflag (R.STR_COR_CTRL_ENABLE (i / 4)) && d.lflag (R.STR_CH_CFG_ENABLE (i / 4) (i % 4)) && decide (d.chanPort (i / 4) (i % 4) = some p)
  let d := chans.foldl (fun d i =>
    let r := i / 4
    let ts := d.chanTrims r (i % 4)
    let d := ts.foldl (fun d t => match t.2 with | some s => d.applySec r (i % 4) t.1 s | none => d) d
    let d := if ts.any fun t => t.2.isSome then d.setFld (R.CAL_ROLE_STATE_APPLIED r) 1 else d
    if ts.any fun t => t.2.isNone then (((d.calCode 0x500F 6).setFld (R.CAL_ROLE_STATE_SKIPPED r) 1).raise R.CAL_EVENTS_PANTRY_SKIP) else d) d
  if chans = [] then d else d.tapsMoved b

/-- A port reached READY or LOCKED (R332): its trims apply at once, or at the boundary of R92 in INSPECT, DEGRADED and CALIBRATE. -/
def Dev.pantryPort (d : Dev) (p : Nat) : Dev :=
  if d.mode = .inspect ∨ d.mode = .degraded ∨ d.mode = .calibrate then d.setPantry fun x => { x with ports := x.ports ++ [p] }
  else d.pantryApply p 0

/-- The trims that waited for a boundary apply (R332), and a write that is due takes its contents (R331). Log 270 (DEDUCED, unsafe). -/
def Dev.pantryBoundary (d : Dev) (b : Nat) : Dev :=
  let ps := d.pantry.ports
  let d := ps.foldl (fun d p => d.pantryApply p b) (d.setPantry fun x => { x with ports := [] })
  d.setPantry fun x => { x with taken := if d.pantryDue then some (d.pantryTake b) else none }

/-- The matching trims go into the shadow tables before a recipe switch is committed (R332). -/
def Dev.pantryRecipe (d : Dev) (shadow : Fld → Nat) : Dev :=
  if shadow R.CAL_CTRL_PANTRY_APPLY = 0 then d else
  (List.range 64).foldl (fun d i =>
    let r := i / 4
    let c := i % 4
    if shadow (R.STR_COR_CTRL_ENABLE r) = 0 ∨ shadow (R.STR_CH_CFG_ENABLE r c) = 0 then d else
    match (streamsOf shadow).find? fun s => s.num = shadow (R.STR_CH_CFG_STREAM r c) with
    | none => d
    | some st =>
      let key := d.camKey st.port
      let fmt := shadow (portFld R.CAM_CTRL_PIX_FMT R.CLG_CTRL_PIX_FMT st.port)
      let put := fun (d : Dev) (a lo w v : Nat) => { d with taps := tset (tapReset a) d.taps a (BitVec.ofNat 32 (putBits (tget (tapReset a) d.taps a).toNat lo w v)) }
      let d := (List.range st.comps).foldl (fun d m =>
        match d.pantry.secs.find? fun s => s.belongs 1 r (4 * c + m) key st.width fmt with
        | none => d
        | some s => (List.range s.width).foldl (fun d j =>
            let a := srcAddr r (shadow (R.STR_CH_SRC_BASE r c) + m * s.width + j)
            put (put (put d a 0 16 (leAt s.body (6 * j) 2)) a 16 16 (leAt s.body (6 * j + 2) 2)) (a + 4) 0 16 (leAt s.body (6 * j + 4) 2)) d) d
      match d.pantry.secs.find? fun s => s.belongs 2 r (4 * c) key (st.width * st.comps) fmt with
      | none => d
      | some s => ((d.setFldI (R.STR_CH_X0 r c) (leAtI s.body 0 4)).setFld (R.STR_CH_COLOR_XOFS_RED r c) (leAt s.body 4 2)).setFld (R.STR_CH_COLOR_XOFS_BLUE r c) (leAt s.body 6 2)) d

end Sys2Proof.Machine
end

