-- ==== Sys2Proof/Machine/HostCore.lean ====
section
/-!
DEFINITION. The host interface's queues (chapter 12): the functions and their queues, doorbells, completion entries, interrupts,
contexts, fetching, and the start and end of commands.
-/
namespace Sys2Proof.Machine

def queue0 : Queue := {}
def rstat0 : RStat := {}
def Dev.setHost (d : Dev) (f : HostState → HostState) : Dev := { d with host := f d.host }
def Dev.queue (d : Dev) (q : Nat) : Queue := tget queue0 d.host.queues q
def Dev.setQueue (d : Dev) (q : Nat) (x : Queue) : Dev := d.setHost fun h => { h with queues := tset queue0 h.queues q x }
def Dev.ctx (d : Dev) (c : Nat) : Option Ctx := tget none d.host.ctxs c
def Dev.setCtx (d : Dev) (c : Nat) (x : Option Ctx) : Dev := d.setHost fun h => { h with ctxs := tset none h.ctxs c x }
def Dev.updCtx (d : Dev) (c : Nat) (f : Ctx → Ctx) : Dev := d.setCtx c ((d.ctx c).map f)
def Dev.setPcie (d : Dev) (f : PcieState → PcieState) : Dev := d.setHost fun h => { h with pcie := f h.pcie }

/-! ### Interrupts (R381, R383) -/

/-- Vectors of a function's table. -/
def vectorsOf (fn : Nat) : Nat := if fn = 0 then 2048 else 64

/-- The MSI-X message of a vector, from its table entry. -/
def Dev.msixMessage (d : Dev) (fn v : Nat) : Output :=
  let w := fun (i : Nat) => (tget 0 d.host.pcie.table ((fn * 2048 + v) * 4 + i)).toNat
  .msix fn v (w 0 + w 1 * 2 ^ 32) (w 2)

/-- Send a vector's message, or set its pending bit while it is masked (R381). -/
def Dev.msixSend (d : Dev) (fn v : Nat) : Dev :=
  let k := fn * 2048 + v
  if d.host.pcie.unmasked.contains k && !(d.host.pcie.masked.contains fn) then d.emit (d.msixMessage fn v)
  else if d.host.pcie.pendingVec.contains k then d else d.setPcie fun p => { p with pendingVec := p.pendingVec ++ [k] }

/-- A bit of HOST_EVENTS is newly set: unmasked, it raises HOST_ERR_VECTOR of the PF (R383). -/
def Dev.hostRaise (d : Dev) (f : Fld) : Dev :=
  if d.flag f then d else
  let d := d.setFld f 1
  if d.flag ⟨R.GLB_HOST_EVENT_MASK.addr, f.lo, 1⟩ then d else d.msixSend 0 (d.fld R.GLB_HOST_CTRL_HOST_ERR_VECTOR)

/-- Raise a completion queue's vector; one beyond its owner's table sets VECTOR_BAD (R381). Log 128 (DEDUCED, unsafe), 129 (DEDUCED, unsafe). -/
def Dev.vector (d : Dev) (fn v : Nat) : Dev := if vectorsOf fn ≤ v then d.hostRaise R.GLB_HOST_EVENTS_VECTOR_BAD else d.msixSend fn v

/-- Note the last 0x1xxx code. -/
def Dev.hostErr (d : Dev) (code : Nat) : Dev := if 0x1000 ≤ code ∧ code < 0x2000 then d.setFld R.GLB_HOST_LAST_ERR code else d

/-! ### Queues and functions (R357, R358) -/

/-- The function that owns a pair. -/
def Dev.ownerFn (d : Dev) (q : Nat) : Nat := d.fld (R.QUE_OWNER_FUNCTION q)

/-- The QUE entries that any write has touched. -/
def Dev.pairs (d : Dev) : List Nat :=
  d.regs.filterMap fun (a, _) => if 0x2800000 ≤ a ∧ a < 0x2900000 ∧ a % 0x40 = 0x1C then some ((a - 0x2800000) / 0x40) else none

/-- The queue pairs that anything has touched: those with a word of their QUE entry off its reset value, and those with entries or doorbells. -/
def Dev.usedPairs (d : Dev) : List Nat :=
  let qs := (d.regs.filterMap fun (a, _) => if 0x2800000 ≤ a ∧ a < 0x2900000 then some ((a - 0x2800000) / 0x40) else none) ++ d.host.queues.map fun x => x.1
  qs.foldl (fun acc q => if acc.contains q then acc else acc ++ [q]) []

/-- The pair a function knows under a number. -/
def Dev.pairOf (d : Dev) (fn n : Nat) : Option Nat :=
  if fn = 0 then (if n < 16384 then some n else none)
  else d.pairs.find? fun q => decide (d.ownerFn q = fn) && decide (d.fld (R.QUE_OWNER_LOCAL q) = n)

/-- The number under which its owner knows a pair. -/
def Dev.localNum (d : Dev) (q : Nat) : Nat := if d.ownerFn q = 0 then q else d.fld (R.QUE_OWNER_LOCAL q)

/-- Bus Master Enable of a function. -/
def Dev.busMaster (d : Dev) (fn : Nat) : Bool := d.host.pcie.bme.contains fn

/-- Entries of a queue. -/
def sizeOf (log2 : Nat) : Nat := 2 ^ log2
def sizeOk (log2 : Nat) : Bool := decide (1 ≤ log2) && decide (log2 ≤ 16)

/-- The queue halts with a code (R359, R360). Log 131 (DEDUCED, unsafe). -/
def Dev.sqHalt (d : Dev) (q code : Nat) : Dev :=
  (((d.setFld (R.QUE_SQ_STATUS_HALTED q) 1).setFld (R.QUE_SQ_ERR q) code).hostErr code).hostRaise R.GLB_HOST_EVENTS_QUEUE_HALT
def Dev.cqHalt (d : Dev) (q : Nat) : Dev :=
  ((d.setFld (R.QUE_CQ_STATUS_HALTED q) 1).hostErr 0x100E).hostRaise R.GLB_HOST_EVENTS_QUEUE_HALT

/-- A submission doorbell write (R359). -/
def Dev.sqDoorbell (d : Dev) (fn n value : Nat) : Dev :=
  match d.pairOf fn n with
  | none => d
  | some q =>
    let v := value % 65536
    if !(d.flag (R.QUE_SQ_CFG_ENABLE q)) ∨ sizeOf (d.fld (R.QUE_SQ_CFG_SIZE_LOG2 q)) ≤ v then d.sqHalt q 0x100E
    else d.setQueue q { d.queue q with tail := v }

/-- Entries between two places of a ring. -/
def ringDist (size a b : Nat) : Nat := (b + size - a) % size

/-- A completion doorbell write (R359). -/
def Dev.cqDoorbell (d : Dev) (fn n value : Nat) : Dev :=
  match d.pairOf fn n with
  | none => d
  | some q =>
    let v := value % 65536
    let size := sizeOf (d.fld (R.QUE_CQ_CFG_SIZE_LOG2 q))
    let head := d.fld (R.QUE_CQ_HEAD q)
    if !(d.flag (R.QUE_CQ_CFG_ENABLE q)) ∨ size ≤ v ∨ ringDist size head (d.fld (R.QUE_CQ_STATUS_CQ_TAIL q)) < ringDist size head v then d.cqHalt q
    else d.setFld (R.QUE_CQ_HEAD q) v

/-! ### Contexts (R370) -/

/-- The lowest free context. -/
def freeFrom : Tbl (Option Ctx) → Nat → Nat
  | [], c => c
  | (k, _) :: t, c => if k = c then freeFrom t (c + 1) else c
def Dev.freeCtx (d : Dev) : Option Nat := let c := freeFrom d.host.ctxs 0; if c < 4096 then some c else none

/-- The contexts in use with their commands. -/
def Dev.ctxList (d : Dev) : List (Nat × Ctx) := d.host.ctxs.filterMap fun (c, x) => x.map fun y => (c, y)

/-! ### Completion entries (R361, R364) -/

/-- The 32 bytes of an entry in a phase. -/
def CqEntry.bytes (e : CqEntry) (phase : Nat) : List Byte :=
  leBytes 8 e.result ++ leBytes 4 e.detail ++ leBytes 2 e.head ++ leBytes 2 e.sqId ++ leBytes 2 e.cid ++ leBytes 2 e.status ++ leBytes 4 e.ctx ++ zeros 7 ++ leBytes 1 (phase + 2 * e.kind)

/-- Is a completion queue full (R361). -/
def Dev.cqFull (d : Dev) (q : Nat) : Bool := decide ((d.fld (R.QUE_CQ_STATUS_CQ_TAIL q) + 1) % sizeOf (d.fld (R.QUE_CQ_CFG_SIZE_LOG2 q)) = d.fld (R.QUE_CQ_HEAD q))

/-- May an entry be written now: not halted, room, and the owner may write (R361, R386). -/
def Dev.cqRoom (d : Dev) (q : Nat) : Bool :=
  !(d.flag (R.QUE_CQ_STATUS_HALTED q)) && !d.cqFull q && d.busMaster (d.ownerFn q)

/-- An entry has been written or discarded: the context it held goes free (R370). -/
def Dev.entryGone (d : Dev) (e : CqEntry) : Dev := match e.frees with | some c => d.setCtx c none | none => d

/-- Write an entry into a completion queue, and signal it (R361, R381). -/
def Dev.cqWrite (d : Dev) (q : Nat) (e : CqEntry) : Dev :=
  let fn := d.ownerFn q
  let size := sizeOf (d.fld (R.QUE_CQ_CFG_SIZE_LOG2 q))
  let tail := d.fld (R.QUE_CQ_STATUS_CQ_TAIL q)
  let phase := d.fld (R.QUE_CQ_STATUS_PHASE q)
  let d := d.emit (.hostWrite fn (d.fld (R.QUE_CQ_BASE q) / 4096 * 4096 + tail * 32) (e.bytes phase))
  let next := (tail + 1) % size
  let d := (d.setFld (R.QUE_CQ_STATUS_CQ_TAIL q) next).setFld (R.QUE_CQ_STATUS_PHASE q) (if next = 0 then 1 - phase else phase)
  let d := d.entryGone e
  if !(d.flag (R.QUE_CQ_CFG_IRQ_EN q)) then d else
  let x := d.queue q
  let n := x.unsignalled + 1
  if max (d.fld (R.QUE_CQ_COAL_COAL_COUNT q)) 1 ≤ n then (d.setQueue q { x with unsignalled := 0 }).vector fn (d.fld (R.QUE_CQ_CFG_VECTOR q))
  else d.setQueue q { x with unsignalled := n, since := if x.unsignalled = 0 then d.time else x.since }

/-- Make an entry for a completion queue: written, or waiting behind others; a disabled queue discards it. FULL is set where the queue is full (R361). -/
def Dev.cqPut (d : Dev) (q : Option Nat) (e : CqEntry) : Dev :=
  match q with
  | none => d.entryGone e
  | some q =>
    if !(d.flag (R.QUE_CQ_CFG_ENABLE q)) then d.entryGone e
    else if (d.queue q).waiting = [] ∧ d.cqRoom q then d.cqWrite q e
    else
      let d := d.setQueue q { d.queue q with waiting := (d.queue q).waiting ++ [e] }
      let d := match e.frees with | some c => d.updCtx c fun x => { x with st := 4 } | none => d
      if d.cqFull q then d.setFld (R.QUE_CQ_STATUS_FULL q) 1 else d

/-- A waiting entry is written once the queue has room. -/
def Dev.cqNext (d : Dev) (q : Nat) : Dev :=
  match (d.queue q).waiting with
  | [] => d
  | e :: rest =>
    if !d.cqRoom q then (if d.cqFull q then d.setFld (R.QUE_CQ_STATUS_FULL q) 1 else d) else
    let d := d.setQueue q { d.queue q with waiting := rest }
    let d := d.cqWrite q e
    if rest = [] then d.setFld (R.QUE_CQ_STATUS_FULL q) 0 else d

/-- COAL_US passes since the first entry not yet signalled (R381). -/
def Dev.cqCoal (d : Dev) (q : Nat) : Dev :=
  let x := d.queue q
  let us := d.fld (R.QUE_CQ_COAL_COAL_US q)
  if x.unsignalled = 0 ∨ us = 0 ∨ !(d.flag (R.QUE_CQ_CFG_IRQ_EN q)) then d else
  let d := d.advance (x.since + usCycles us)
  (d.setQueue q { x with unsignalled := 0 }).vector (d.ownerFn q) (d.fld (R.QUE_CQ_CFG_VECTOR q))

/-- A masked vector is unmasked; a pending message is sent (R381). -/
def Dev.msixUnmask (d : Dev) (fn v : Nat) : Dev :=
  if 64 ≤ fn ∨ vectorsOf fn ≤ v then d else
  let k := fn * 2048 + v
  let was := d.host.pcie.pendingVec.contains k
  let d := d.setPcie fun p => { p with unmasked := if p.unmasked.contains k then p.unmasked else p.unmasked ++ [k] }
  if was && !(d.host.pcie.masked.contains fn) then (d.setPcie fun p => { p with pendingVec := p.pendingVec.erase k }).emit (d.msixMessage fn v) else d

/-- A vector is masked. -/
def Dev.msixMask (d : Dev) (fn v : Nat) : Dev := d.setPcie fun p => { p with unmasked := p.unmasked.filter (· ≠ fn * 2048 + v) }

/-- A write of a word of a function's MSI-X table: message address, message data, or the vector's mask bit. -/
def Dev.msixWrite (d : Dev) (fn word v : Nat) : Dev :=
  if 64 ≤ fn ∨ 4 * vectorsOf fn ≤ word then d
  else if word % 4 = 3 then (if bitOf v 0 then d.msixMask fn (word / 4) else d.msixUnmask fn (word / 4))
  else d.setPcie fun p => { p with table := tset 0 p.table (fn * 8192 + word) (BitVec.ofNat 32 v) }

/-! ### Enabling queues (R358) -/

/-- A write of SQ_CFG by the owner or the PF. Log 131 (DEDUCED, unsafe). -/
def Dev.sqCfgWrite (d : Dev) (q value : Nat) : Dev :=
  if bitOf value 0 then
    if d.flag (R.QUE_SQ_CFG_ENABLE q) then d else
    let d := (d.setFld (R.QUE_SQ_CFG_SIZE_LOG2 q) (bits value 4 5)).setFld (R.QUE_SQ_CFG_CQ_ID q) (bits value 16 14)
    if !sizeOk (bits value 4 5) then d else
    ((d.setFld (R.QUE_SQ_CFG_ENABLE q) 1).setFld (R.QUE_SQ_STATUS q) 0).setQueue q { d.queue q with tail := 0 }
  else
    let on := d.flag (R.QUE_SQ_CFG_ENABLE q)
    let d := ((d.setFld (R.QUE_SQ_CFG_ENABLE q) 0).setFld (R.QUE_SQ_STATUS_HALTED q) 0).setFld (R.QUE_SQ_STATUS_CTX_WAIT q) 0
    if on then d else (d.setFld (R.QUE_SQ_CFG_SIZE_LOG2 q) (bits value 4 5)).setFld (R.QUE_SQ_CFG_CQ_ID q) (bits value 16 14)

/-- Discard every entry that waits for a completion queue (R358). -/
def Dev.cqDiscard (d : Dev) (q : Nat) : Dev :=
  let es := (d.queue q).waiting
  es.foldl (fun d e => d.entryGone e) (d.setQueue q { d.queue q with waiting := [], unsignalled := 0 })

/-- A write of CQ_CFG by the owner or the PF. IRQ_EN is taken at any time. Log 131 (DEDUCED, unsafe). -/
def Dev.cqCfgWrite (d : Dev) (q value : Nat) : Dev :=
  let on := d.flag (R.QUE_CQ_CFG_ENABLE q)
  let d := d.setFld (R.QUE_CQ_CFG_IRQ_EN q) (bits value 9 1)
  let d := if on then d else (d.setFld (R.QUE_CQ_CFG_SIZE_LOG2 q) (bits value 4 5)).setFld (R.QUE_CQ_CFG_VECTOR q) (bits value 16 11)
  if bitOf value 0 then
    if on ∨ !sizeOk (bits value 4 5) then d else
    (((d.setFld (R.QUE_CQ_CFG_ENABLE q) 1).setFld (R.QUE_CQ_HEAD q) 0).setFld (R.QUE_CQ_STATUS q) 0x10000).setQueue q { d.queue q with waiting := [], unsignalled := 0 }
  else
    let d := d.cqDiscard q
    ((d.setFld (R.QUE_CQ_CFG_ENABLE q) 0).setFld (R.QUE_CQ_STATUS_HALTED q) 0).setFld (R.QUE_CQ_STATUS_FULL q) 0

/-- A write to another word of a QUE entry (R357, R358). -/
def Dev.queWrite (d : Dev) (vf : Bool) (q off value : Nat) : Dev :=
  let put := fun (f : Fld) (i : Nat) => d.setReg (f.addr + 4 * i) (BitVec.ofNat 32 (if i = 0 then value / 4096 * 4096 else value))
  match off with
  | 0x00 => if d.flag (R.QUE_SQ_CFG_ENABLE q) then d else put (R.QUE_SQ_BASE q) 0
  | 0x04 => if d.flag (R.QUE_SQ_CFG_ENABLE q) then d else put (R.QUE_SQ_BASE q) 1
  | 0x08 => if d.flag (R.QUE_CQ_CFG_ENABLE q) then d else put (R.QUE_CQ_BASE q) 0
  | 0x0C => if d.flag (R.QUE_CQ_CFG_ENABLE q) then d else put (R.QUE_CQ_BASE q) 1
  | 0x10 => d.sqCfgWrite q value
  | 0x14 => d.cqCfgWrite q value
  | 0x18 => (d.setFld (R.QUE_CQ_COAL_COAL_COUNT q) (bits value 0 8)).setFld (R.QUE_CQ_COAL_COAL_US q) (bits value 16 16)
  | 0x1C => if vf ∨ d.flag (R.QUE_SQ_CFG_ENABLE q) ∨ d.flag (R.QUE_CQ_CFG_ENABLE q) then d else (d.setFld (R.QUE_OWNER_FUNCTION q) (bits value 0 6)).setFld (R.QUE_OWNER_LOCAL q) (bits value 8 8)
  | _ => d

/-! ### Fetching (R360, R363, R370) -/

/-- A submission entry as a command. Log 130 (DEDUCED, unsafe). -/
def cmdOf (q fn head : Nat) (bs : List Byte) : HostCmd :=
  let fl := leAt bs 4 4
  { sq := q, fn := fn, head := head, op := leAt bs 0 1, cid := leAt bs 2 2, fence := bitOf fl 0, quiet := bitOf fl 1, bad := decide (leAt bs 1 1 ≠ 0) || decide (4 ≤ fl) || decide (leAt bs 28 4 ≠ 0), arg := slice bs 8 8, addr := leAt bs 16 8, len := leAt bs 24 4, spec := slice bs 32 32 }

/-- What context a command needs (R366): 0 none, 1 short, 2 long, 3 held. -/
def ctxNeed (op : Nat) : Nat :=
  if 0x01 ≤ op ∧ op ≤ 0x07 then 1 else if 0x10 ≤ op ∧ op ≤ 0x16 then 2 else if 0x20 ≤ op ∧ op ≤ 0x23 then 3 else 0

/-- The opcodes of R366. -/
def opListed (op : Nat) : Bool := ctxNeed op ≠ 0 || [0x18, 0x19, 0x1A, 0x1B, 0x24, 0x25].contains op

/-- May a VF issue a command (R366). -/
def opVf (op : Nat) : Bool := [0x01, 0x06, 0x1B, 0x20, 0x21, 0x22, 0x23, 0x24, 0x25].contains op

/-- The completion queue that answers a submission queue. Log 132 (DEDUCED, unsafe). -/
def Dev.cqOf (d : Dev) (sq : Nat) : Option Nat := d.pairOf (d.ownerFn sq) (d.fld (R.QUE_SQ_CFG_CQ_ID sq))

/-- CTX of an entry. -/
def ctxWord (c : Option Nat) : Nat := match c with | some c => c % 4096 + 2 ^ 31 | none => 0

/-- A command's entry of a kind. -/
def Dev.cmdEntry (d : Dev) (c : HostCmd) (kind status result detail : Nat) (frees : Bool) : CqEntry :=
  { result := result, detail := detail, head := c.head, sqId := d.localNum c.sq, cid := c.cid, status := status, ctx := ctxWord c.ctx, kind := kind, src := some c.sq, frees := if frees then c.ctx else none }

/-- A command ends (R365): its FINAL entry, unless a reset silenced it or QUIET suppresses it; then its context goes free.
Log 139 (DESIGN CHOICE, unsafe). -/
def Dev.finish (d : Dev) (c : HostCmd) (status result detail : Nat) : Dev :=
  let d := d.hostErr status
  if c.silent ∨ (c.quiet ∧ status = 0) then (match c.ctx with | some x => d.setCtx x none | none => d)
  else d.cqPut (d.cqOf c.sq) (d.cmdEntry c 0 status result detail true)

/-- A STARTED entry (R365). -/
def Dev.started (d : Dev) (c : HostCmd) : Dev := if c.silent then d else d.cqPut (d.cqOf c.sq) (d.cmdEntry c 3 0 (c.ctx.getD 0) 0 false)

/-- Fetch one entry: it takes a context if it needs one; an opcode outside R366 is refused at once. Answers whether fetching goes on.
Log 130 (DEDUCED, unsafe). -/
def Dev.fetchOne (d : Dev) (q : Nat) (bs : List Byte) : Dev × Bool :=
  let size := sizeOf (d.fld (R.QUE_SQ_CFG_SIZE_LOG2 q))
  let head := (d.fld (R.QUE_SQ_STATUS_SQ_HEAD q) + 1) % size
  let c := cmdOf q (d.ownerFn q) head bs
  if !opListed c.op then ((d.setFld (R.QUE_SQ_STATUS_SQ_HEAD q) head).finish c 0x1001 0 0, true)
  else if ctxNeed c.op = 0 then ((d.setFld (R.QUE_SQ_STATUS_SQ_HEAD q) head).setHost fun h => { h with fetched := h.fetched ++ [c] }, true)
  else match d.freeCtx with
    | none => (((d.setFld (R.QUE_SQ_STATUS_CTX_WAIT q) 1).hostErr 0x1011).hostRaise R.GLB_HOST_EVENTS_CTX_FULL, false)
    | some x =>
      let c := { c with ctx := some x }
      let d := ((d.setFld (R.QUE_SQ_STATUS_SQ_HEAD q) head).setFld (R.QUE_SQ_STATUS_CTX_WAIT q) 0).setHost fun h => { h with fetched := h.fetched ++ [c] }
      (d.setCtx x (some { cmd := c }), true)

/-- May a queue be fetched from: enabled, not halted, commands outstanding, and its owner may read (R360, R386). Log 133 (DEDUCED, unsafe). -/
def Dev.mayFetch (d : Dev) (q : Nat) : Bool :=
  d.flag (R.QUE_SQ_CFG_ENABLE q) && !(d.flag (R.QUE_SQ_STATUS_HALTED q)) && decide (d.fld (R.QUE_SQ_STATUS_SQ_HEAD q) ≠ (d.queue q).tail) && d.busMaster (d.ownerFn q)

/-- Fetch entries in turn. Log 133 (DEDUCED, unsafe). -/
def Dev.fetchMany (d : Dev) (q : Nat) : List (List Byte) → Dev
  | [] => d
  | e :: es => if !d.mayFetch q then d else let (d, more) := d.fetchOne q e; if more then d.fetchMany q es else d

/-- Does the head command of a queue wait for a context while none is free (R370). -/
def Dev.ctxWaits (d : Dev) (q : Nat) : Bool := d.flag (R.QUE_SQ_STATUS_CTX_WAIT q) && d.freeCtx.isNone

/-- Is it a queue's turn (R360): no other queue with outstanding commands comes before it in rotation, counted from the queue after the one served last.
Log 279 (DEDUCED, unsafe). -/
def Dev.fetchTurn (d : Dev) (q : Nat) : Bool :=
  let place := fun (p : Nat) => (p + 16384 - d.host.fetchNext) % 16384
  d.usedPairs.all fun p => !(d.mayFetch p) || d.ctxWaits p || decide (place q ≤ place p)

/-- A turn of a queue: up to 8 entries (R360). Log 279 (DEDUCED, unsafe). -/
def Dev.commandFetch (d : Dev) (q : Nat) (entries : List (List Byte)) : Dev :=
  if !(d.mayFetch q && d.fetchTurn q) then d else
  (d.setHost fun h => { h with fetchNext := (q + 1) % 16384 }).fetchMany q (entries.take 8)

/-- A read of a queue entry fails (R360). -/
def Dev.fetchError (d : Dev) (q : Nat) : Dev := if d.mayFetch q then d.sqHalt q 0x100F else d

/-- Has every earlier command of a queue written its final entry (R360). -/
def Dev.fenceClear (d : Dev) (c : HostCmd) : Bool :=
  !(d.ctxList.any fun x => decide (x.2.cmd.sq = c.sq) && decide (some x.1 ≠ c.ctx) && !(d.host.fetched.any fun y => y.ctx = some x.1)) &&
  (match d.cqOf c.sq with | some q => (d.queue q).waiting.all fun e => decide (e.src ≠ some c.sq) || decide (e.kind ≠ 0) | none => true)

/-- The next command of a queue, when it may start and its opcode is one of a list. -/
def Dev.nextCmd (d : Dev) (q : Nat) (ops : List Nat) : Option HostCmd :=
  match d.host.fetched.find? fun c => c.sq = q with
  | some c => if ops.contains c.op && (!c.fence || d.fenceClear c) then some c else none
  | none => none

/-- Start the next command of a queue: the checks of R367 up to its fields, then the command itself. `bad`: a field outside its range; `minBuf`:
the least buffer length. -/
def Dev.startCmd (d : Dev) (q op : Nat) (bad : HostCmd → Bool) (minBuf : HostCmd → Nat) (body : HostCmd → Dev → Dev) : Dev :=
  match d.nextCmd q [op] with
  | none => d
  | some c =>
    let d := d.setHost fun h => { h with fetched := h.fetched.erase c }
    if c.fn ≠ 0 ∧ !opVf op then d.finish c 0x1003 0 0
    else if c.bad ∨ bad c then d.finish c 0x1002 0 0
    else if c.len < minBuf c then d.finish c 0x100C 0 0
    else body c d

/-- No field of the command can be out of range, and it uses no buffer. -/
def noBad (_ : HostCmd) : Bool := false
def noBuf (_ : HostCmd) : Nat := 0

/-- The operand bytes of a command. -/
def HostCmd.argAt (c : HostCmd) (o n : Nat) : Nat := leAt c.arg o n
def HostCmd.specAt (c : HostCmd) (o n : Nat) : Nat := leAt c.spec o n

/-- Write to a command's host buffer. -/
def Dev.bufWrite (d : Dev) (c : HostCmd) (off : Nat) (bs : List Byte) : Dev := if c.silent then d else d.emit (.hostWrite c.fn (c.addr + off) bs)

/-! ### IRQ sources (R382) -/

/-- An event at an IRQ input; POS.TIME at the event is that of the cycle it was made in, two before it arrives (R286). Log 139 (DESIGN CHOICE, unsafe). -/
def Dev.irq (d : Dev) (s : Nat) : Dev :=
  let now := ((d.nextDue (irqInput s)).getD d.time - 2) % 2 ^ 32
  d.onPulse (irqInput s) fun t d =>
    let q := d.fld (R.GLB_IRQ_CFG_IRQ_CQ s)
    if !(d.flag (R.GLB_IRQ_CFG_ENABLE s)) ∨ !(d.flag (R.QUE_CQ_CFG_ENABLE q)) then d.hostRaise R.GLB_HOST_EVENTS_IRQ_DROP else
    match (d.queue q).waiting.find? fun e => e.source = some s with
    | some e =>
      let n := (bits e.result 32 16 + 1) % 65536
      let e' := { e with result := t.addr % 2 ^ 32 + n * 2 ^ 32 + s * 2 ^ 48, detail := now }
      d.setQueue q { d.queue q with waiting := (d.queue q).waiting.map fun x => if x.source = some s then e' else x }
    | none => d.cqPut (some q) { result := t.addr % 2 ^ 32 + 2 ^ 32 + s * 2 ^ 48, detail := now, head := 0, sqId := 0xFFFF, cid := 0, status := 0, ctx := 0, kind := 2, source := some s }
where
  /-- The Plaza input of a source (R293). -/
  irqInput (s : Nat) : Nat := 0xB0 + s

end Sys2Proof.Machine
end

