-- ==== Sys2Proof/Machine/Dma.lean ====
section
/-!
DEFINITION. The DMA engine (chapter 13): channels, descriptors, reshuffles, chains and their ends.
-/
namespace Sys2Proof.Machine

def chan0 : DmaChan := {}
def Dev.chan (d : Dev) (n : Nat) : DmaChan := tget chan0 d.dma n
def Dev.setChan (d : Dev) (n : Nat) (x : DmaChan) : Dev := { d with dma := tset chan0 d.dma n x }
def Dev.dmaState (d : Dev) (n : Nat) : Nat := d.fld (R.DMA_CH_STATUS_STATE n)

/-- A channel changes its state; the RUNNING and HALTED maps follow. -/
def Dev.setDmaState (d : Dev) (n st : Nat) : Dev :=
  ((d.setFld (R.DMA_CH_STATUS_STATE n) st).setFlag (R.DMA_RUNNING.bit n) (st = 1)).setFlag (R.DMA_HALTED.bit n) (st = 2)

/-! ### Descriptors (R395 to R398, R401) -/

/-- A descriptor's fields. -/
structure Desc where
  src : Nat
  dst : Nat
  srcLen : Nat
  srcStride : Int
  srcLines : Nat
  dstLen : Nat
  dstStride : Int
  dstLines : Nat
  next : Nat
  plane : Nat
  ctrl : Nat
  xform : Nat
  x0 : Nat
  x1 : Nat
  tag : Nat
  deriving DecidableEq, Repr

def descOf (b : List Byte) : Desc :=
  { src := leAt b 0 8, dst := leAt b 8 8, srcLen := leAt b 16 4, srcStride := leAtI b 20 4, srcLines := leAt b 24 4, dstLen := leAt b 28 4, dstStride := leAtI b 32 4, dstLines := leAt b 36 4, next := leAt b 40 8, plane := leAt b 48 4, ctrl := leAt b 52 2, xform := leAt b 54 1, x0 := leAt b 55 1, x1 := leAt b 56 1, tag := leAt b 60 4 }

def Desc.last (x : Desc) : Bool := bitOf x.ctrl 0
def Desc.srcHost (x : Desc) : Bool := bitOf x.ctrl 1
def Desc.dstHost (x : Desc) : Bool := bitOf x.ctrl 2
def Desc.event (x : Desc) : Bool := bitOf x.ctrl 3
/-- C or K, and E (R395). -/
def Desc.count (x : Desc) : Nat := bits x.x0 0 4 + 1
def Desc.size (x : Desc) : Nat := bits x.x0 4 1 + 1

/-- The segments of one side in stream order: lines, or on the planar side the planes of each line (R396, R398). -/
def segsOf (addr len lines : Nat) (stride : Int) (planes plane : Nat) : List (Int × Nat) :=
  (List.range lines).flatMap fun (i : Nat) => (List.range planes).map fun (j : Nat) => ((addr : Int) + (j * plane : Nat) + (i : Int) * stride, len)

/-- Log 143 (DEDUCED, unsafe). -/
def Desc.srcSegs (x : Desc) : List (Int × Nat) := segsOf x.src x.srcLen x.srcLines x.srcStride (if x.xform = 2 ∨ x.xform = 4 then x.count else 1) x.plane
def Desc.dstSegs (x : Desc) : List (Int × Nat) := segsOf x.dst x.dstLen x.dstLines x.dstStride (if x.xform = 1 ∨ x.xform = 3 then x.count else 1) x.plane

/-- The geometry of R398. -/
def Desc.geometry (x : Desc) : Bool :=
  let c := x.count
  let e := x.size
  match x.xform with
  | 0 => true
  | 1 => decide (2 ≤ c) && decide (c ≤ 4) && decide (x.srcLines = x.dstLines) && decide (x.srcLen = c * x.dstLen) && decide (x.dstLen % e = 0)
  | 2 => decide (2 ≤ c) && decide (c ≤ 4) && decide (x.srcLines = x.dstLines) && decide (x.dstLen = c * x.srcLen) && decide (x.srcLen % e = 0)
  | 3 => decide (x.srcLines = x.dstLines) && decide (x.srcLen = 8 * e * x.dstLen) && decide (x.x1 + c ≤ 8 * e)
  | _ => decide (x.srcLines = x.dstLines) && decide (x.dstLen = 8 * e * x.srcLen) && decide (x.x1 + c ≤ 8 * e)

/-- The lowest and the highest byte that segments touch. Log 143 (DEDUCED, unsafe). -/
def extentOf : List (Int × Nat) → Option (Int × Int)
  | [] => none
  | (a, n) :: ss => some (ss.foldl (fun (m : Int × Int) (s : Int × Nat) => (min m.1 s.1, max m.2 (s.1 + s.2 - 1))) (a, a + n - 1))

/-- A segment rounded outward to 64 bytes (R397). -/
def roundSeg (s : Int × Nat) : Int × Int := (s.1 / 64 * 64, (s.1 + s.2 + 63) / 64 * 64)

/-- Does a DRAM range meet an Attic ring or the tag table (R157). -/
def Dev.meetsAttic (d : Dev) (a : Int) (n : Nat) : Bool :=
  let hit := fun (b len : Nat) => decide (a < (b + len : Nat)) && decide ((b : Int) < a + n)
  (d.layersOn.any fun k => hit (attBase d.live + layerOfs d.live k) (attRows d.live * pitchOfLayer d.live k)) || hit (attTagBase d.live) (16 * attRows d.live)

/-- The checks of a descriptor as it is read at an address (R401): code and DIAG of the first that fails. Log 143 (DEDUCED, unsafe). -/
def Dev.descCheck (d : Dev) (n at_ : Nat) (b : List Byte) : Option (Nat × Nat) :=
  let x := descOf b
  let len := fun v => decide (1 ≤ v) && decide (v ≤ 16777216)
  let inst : Int := d.installed
  let out := fun (host : Bool) (ss : List (Int × Int)) => !host && ss.any fun s => decide (s.1 < 0) || decide (inst < s.2)
  let guard := decide (d.mode = .inspect) || decide (d.mode = .degraded) || decide (d.mode = .calibrate)
  let overlap := decide (x.srcHost = x.dstHost) && (match extentOf x.srcSegs, extentOf x.dstSegs with | some a, some c => decide (a.1 ≤ c.2) && decide (c.1 ≤ a.2) | _, _ => false)
  if (d.chan n).limit ≤ (d.chan n).count then some (0x2003, 0)
  else if 32 ≤ x.ctrl ∨ 4 < x.xform ∨ 32 ≤ x.x0 ∨ leAt b 57 3 ≠ 0 ∨ (x.xform < 3 ∧ x.x1 ≠ 0) ∨ (x.xform = 0 ∧ x.plane ≠ 0) then some (0x2001, 1)
  else if !len x.srcLen ∨ !len x.srcLines ∨ !len x.dstLen ∨ !len x.dstLines then some (0x2001, 2)
  else if x.xform = 0 ∧ x.srcLen * x.srcLines ≠ x.dstLen * x.dstLines then some (0x2001, 3)
  else if !x.geometry ∨ 15 < x.x1 then some (0x2001, 4)
  else if !x.last ∧ x.next % 64 ≠ 0 then some (0x2001, 5)
  else if !x.last ∧ x.next = at_ then some (0x2002, 0)
  else if out x.srcHost (x.srcSegs.map roundSeg) ∨ out x.dstHost (x.dstSegs.map fun s => (s.1, s.1 + s.2)) then some (0x2007, 0)
  else if guard ∧ !x.dstHost ∧ x.dstSegs.any fun s => d.meetsAttic s.1 s.2 then some (0x2008, 0)
  else if overlap then some (0x2009, 0)
  else none

/-- Value of `E` little-endian bytes of pixel `p`. -/
def pixelAt (e : Nat) (line : List Byte) (p : Nat) : Nat := leAt line (p * e) e

/-- One byte of eight bits, bit 0 first. -/
def packByte (f : Nat → Bool) : Byte := BitVec.ofNat 8 ((List.range 8).foldl (fun m i => m + 2 ^ i * b2n (f i)) 0)

/-- The output of one line (R398): `line` holds the source line, or its planar segments one after another. -/
def Desc.lineOut (x : Desc) (line : List Byte) : List Byte :=
  let c := x.count
  let e := x.size
  match x.xform with
  | 1 => (List.range c).flatMap fun k => (List.range (x.dstLen / e)).flatMap fun p => slice line ((p * c + k) * e) e
  | 2 => (List.range (x.srcLen / e)).flatMap fun p => (List.range c).flatMap fun k => slice line (k * x.srcLen + p * e) e
  | 3 => (List.range c).flatMap fun k => (List.range x.dstLen).map fun b => packByte fun i => bitOf (pixelAt e line (8 * b + i)) (x.x1 + k)
  | 4 => (List.range (8 * x.srcLen)).flatMap fun p => leBytes e ((List.range c).foldl (fun (m k : Nat) => m + 2 ^ (x.x1 + k) * b2n (bitOf (leAt line (k * x.srcLen + p / 8) 1) (p % 8))) 0)
  | _ => line

/-- Cut a list into pieces of a length. -/
def chunks (n : Nat) : Nat → List Byte → List (List Byte)
  | 0, _ => []
  | k + 1, bs => fit n bs :: chunks n k (bs.drop n)

/-- The output stream of a descriptor from its source stream. -/
def Desc.output (x : Desc) (src : List Byte) : List Byte :=
  if x.xform = 0 then src
  else
    let per := if x.xform = 2 ∨ x.xform = 4 then x.count * x.srcLen else x.srcLen
    (chunks per x.srcLines src).flatMap x.lineOut

/-- Pair segments with the bytes of a stream, as far as it reaches. -/
def fillSegs : List (Int × Nat) → List Byte → List (Int × List Byte)
  | [], _ => []
  | (a, n) :: ss, bs => if bs = [] then [] else (a, bs.take n) :: fillSegs ss (bs.drop n)

/-- The source stream of a descriptor: DRAM as it reads, or what the host returned. -/
def Dev.descSource (d : Dev) (x : Desc) (data : List Byte) : List Byte :=
  if x.srcHost then fit ((x.srcSegs.map (·.2)).sum) data else x.srcSegs.flatMap fun s => d.dramRead s.1.toNat s.2

/-- Host writes of a segment, split at 4 KiB boundaries and at 512 B (R397). -/
def splitWrites : Nat → Nat → List Byte → List (Nat × List Byte)
  | 0, _, _ => []
  | k + 1, a, bs => if bs = [] then [] else
    let n := min 512 (4096 - a % 4096)
    (a, bs.take n) :: splitWrites k (a + n) (bs.drop n)

/-- Write a stretch of the output stream to its segments. -/
def Dev.descWrite (d : Dev) (x : Desc) (out : List Byte) : Dev :=
  (fillSegs x.dstSegs out).foldl (fun d s =>
    if x.dstHost then (splitWrites s.2.length s.1.toNat s.2).foldl (fun d w => d.emit (.hostWrite 0 w.1 w.2)) d
    else d.dramWrite s.1.toNat s.2) d

/-! ### Chains (R389, R399 to R403) -/

/-- Note a 0x2xxx code. -/
def Dev.dmaCode (d : Dev) (n code : Nat) : Dev := (d.setFld R.DMA_LAST_ERR_CODE code).setFld R.DMA_LAST_ERR_CHANNEL n

/-- Can the engine reach host memory (R402). Log 141 (DEDUCED, unsafe). -/
def Dev.hostUp (d : Dev) : Bool := d.flag R.GLB_HOST_STATUS_LINK_UP && d.busMaster 0

/-- A chain begins on a channel. `lin`: the LINEAGE of its DMA_DONE events (R288). -/
def Dev.dmaBegin (d : Dev) (n addr : Nat) (host : Bool) (ctx : Option Nat) (lin : Nat) : Dev :=
  let d := (((d.setDmaState n 1).setFld (R.DMA_CH_DESC_DONE n) 0).setFld (R.DMA_CH_BYTES n) 0).setFld (R.DMA_CH_ERR n) 0
  d.setChan n { startPending := false, next := addr, host := host, desc := none, limit := max (d.fld (R.DMA_CH_LIMIT n)) 1, count := 0, touched := host, ctx := ctx, lineage := lin }

/-- A REGISTER-mode chain begins at CH_CHAIN_ADDR. -/
def Dev.dmaRegister (d : Dev) (n lin : Nat) : Dev := d.dmaBegin n (d.fld (R.DMA_CH_CHAIN_ADDR n) / 64 * 64) (d.flag (R.DMA_CH_CFG_CHAIN_SPACE n)) none lin

/-- A start reaches a channel (R388, R389). `input`: the Plaza input it came through; `lin`: the LINEAGE that DMA_DONE takes from it (R288).
Log 144 (DEDUCED, unsafe). -/
def Dev.dmaStart (d : Dev) (n : Nat) (input : Option Nat) (lin : Nat) : Dev :=
  match d.fld (R.DMA_CH_CFG_MODE n), d.dmaState n with
  | 2, _ => d.raise R.DMA_EVENTS_START_IGNORED
  | 1, 0 => d.dmaRegister n lin
  | 1, 1 =>
    if (d.chan n).startPending then
      (match input with | some i => d.overrun i | none => d).raise R.DMA_EVENTS_START_DROP
    else (d.setFld (R.DMA_CH_STATUS_PENDING n) 1).setChan n { d.chan n with startPending := true, pendLineage := lin }
  | _, _ => d

/-- A chain ends: DMA_DONE fires, its DMA_RUN ends, and the channel goes IDLE, or HALTED on an error (R389, R393, R400). `fires`: the producer has
not fired for this end yet. -/
def Dev.dmaEnd (d : Dev) (n code status total : Nat) (halt fires : Bool) : Dev :=
  let x := d.chan n
  let d := d.setFld (R.DMA_CH_ERR_CODE n) code
  let d := if code = 0 then d else d.dmaCode n code
  let d := if fires then d.fire (P.dmaDone n) .pulse x.lineage else d
  let d := (d.setDmaState n (if halt then 2 else 0)).setChan n { x with desc := none, ctx := none, startPending := x.startPending && decide (code = 0) }
  let d := if halt then d.raise R.DMA_EVENTS_HALT else d
  let d := if code = 0 then d else d.setFld (R.DMA_CH_STATUS_PENDING n) 0
  let d := match x.ctx with
    | some c => match d.ctx c with | some y => d.finish y.cmd status total x.count | none => d
    | none => d
  if code = 0 ∧ x.startPending then (d.setFld (R.DMA_CH_STATUS_PENDING n) 0).dmaRegister n x.pendLineage else d

/-- A chain halts at a descriptor (R401, R402): `wrote` of its destination bytes are written. -/
def Dev.dmaHalt (d : Dev) (n code diag at_ wrote : Nat) : Dev :=
  let total := d.fld (R.DMA_CH_BYTES n) + wrote
  let d := ((d.setFld (R.DMA_CH_ERR n) (code + diag * 65536)).setFld (R.DMA_CH_ERR_ADDR n) at_).setFld (R.DMA_CH_BYTES n) wrote
  d.dmaEnd n code code total true true

/-- A descriptor is read and checked (R401). `hostBytes`: what the host returned, for a chain in host memory. Log 142 (DEDUCED, unsafe). -/
def Dev.dmaDescRead (d : Dev) (n : Nat) (hostBytes : List Byte) : Dev :=
  let x := d.chan n
  if d.dmaState n ≠ 1 ∨ x.desc.isSome then d else
  if x.host ∧ !d.hostUp then d.dmaHalt n 0x2006 0 x.next 0 else
  let (b, d) := if x.host then (fit 64 hostBytes, d) else d.dramLoad x.next 64
  match d.descCheck n x.next b with
  | some (code, diag) => d.dmaHalt n code diag x.next 0
  | none =>
    let y := descOf b
    d.setChan n { x with desc := some (x.next, b), touched := x.touched || y.srcHost || y.dstHost }

/-- All writes of a descriptor are visible (R400). `data`: the source stream, where it lies in host memory. Log 142 (DEDUCED, unsafe). -/
def Dev.dmaDescDone (d : Dev) (n : Nat) (data : List Byte) : Dev :=
  let x := d.chan n
  match x.desc with
  | none => d
  | some (at_, b) =>
    let y := descOf b
    if (y.srcHost ∨ y.dstHost) ∧ !d.hostUp then d.dmaHalt n 0x2006 0 at_ 0 else
    let out := y.output (d.descSource y data)
    let d := d.descWrite y out
    let d := ((d.setFld (R.DMA_CH_TAG n) y.tag).incr (R.DMA_CH_DESC_DONE n)).incr (R.DMA_CH_BYTES n) out.length
    let d := d.setChan n { x with desc := none, count := x.count + 1, next := y.next }
    let d := if y.event then d.fire (P.dmaDone n) .pulse x.lineage else d
    if y.last then d.dmaEnd n 0 0 (d.fld (R.DMA_CH_BYTES n)) false (!y.event) else d

/-- Write the first `wrote` bytes of the output stream of the descriptor that runs. Log 145 (DESIGN CHOICE, unsafe). -/
def Dev.dmaPartial (d : Dev) (n wrote : Nat) (data : List Byte) : Dev × Nat :=
  match (d.chan n).desc with
  | none => (d, 0)
  | some (_, b) =>
    let y := descOf b
    let out := (y.output (d.descSource y data)).take wrote
    (d.descWrite y out, out.length)

/-- How a read of a chain fails (R402). -/
def readFailCode (kind : Nat) : Nat := match kind with | 0 => 0x2004 | 1 => 0x2005 | 2 => 0x2006 | _ => 0x200B

/-- A read of a chain fails (R402). `kind`: 0 timeout, 1 error completion, 2 host unavailable, 3 uncorrectable DRAM error. -/
def Dev.dmaReadFail (d : Dev) (n kind wrote : Nat) (data : List Byte) : Dev :=
  if d.dmaState n ≠ 1 then d else
  let at_ := match (d.chan n).desc with | some (a, _) => a | none => (d.chan n).next
  let (d, w) := d.dmaPartial n wrote data
  d.dmaHalt n (readFailCode kind) 0 at_ w

/-- The chain of a channel stops at a 64 B boundary of the stream: IDLE with STOPPED (R393, R403). -/
def Dev.dmaStopChain (d : Dev) (n blocks status : Nat) (data : List Byte) : Dev :=
  let (d, w) := d.dmaPartial n (64 * blocks) data
  let d := d.incr (R.DMA_CH_BYTES n) w
  d.dmaEnd n 0x200D status (d.fld (R.DMA_CH_BYTES n)) false true

/-- A reset of the PF cancels the DMA_RUNs whose chains have touched host memory (R394). Log 281 (DEDUCED, unsafe). -/
def Dev.dmaReset (d : Dev) : Dev :=
  (List.range 64).foldl (fun d n =>
    if d.dmaState n = 1 ∧ (d.chan n).ctx.isSome ∧ (d.chan n).touched then d.dmaStopChain n (Config.dmaBlocks n d.time) 0x1009 (Config.dmaData n d.time) else d) d

/-- A write of STOP = 1 (R403). Log 145 (DESIGN CHOICE, unsafe). -/
def Dev.dmaStop (d : Dev) (n blocks : Nat) (data : List Byte) : Dev :=
  if d.fld (R.DMA_CH_CFG_MODE n) ≠ 1 ∨ d.dmaState n ≠ 1 then d else d.dmaStopChain n blocks 0x200D data

/-- A write of CLEAR = 1 (R389). -/
def Dev.dmaClear (d : Dev) (n : Nat) : Dev := if d.dmaState n = 2 then d.setDmaState n 0 else d

/-- A DMA_RUN that has passed its checks on a RUNNING channel waits at the head of its queue (R392). Log 141 (DEDUCED, unsafe). -/
def Dev.dmaWaits (d : Dev) (c : HostCmd) : Dev := d.setHost fun h => { h with fetched := h.fetched.replace c { c with waits := true } }

/-- The DMA_RUN command (R392): one that passes its checks on a RUNNING channel waits, and starts once the channel is IDLE.
Log 141 (DEDUCED, unsafe), 282 (DESIGN CHOICE, unsafe). -/
def Dev.dmaRun (d : Dev) (q : Nat) : Dev :=
  match d.nextCmd q [0x07] with
  | none => d
  | some c =>
    let n := c.argAt 0 1
    let bound := decide (n < 64) && decide (d.fld (R.DMA_CH_CFG_MODE n) = 2) && decide (d.fld (R.DMA_CH_CFG_BIND_SQ n) = q)
    let bad := fun (c : HostCmd) => decide (64 ≤ c.argAt 0 1) || decide (1 < c.argAt 1 1) || decide (c.argAt 2 6 ≠ 0) || decide (leAt c.spec 8 24 ≠ 0)
    if c.waits then
      if d.dmaState n ≠ 0 then d
      else (d.setHost fun h => { h with fetched := h.fetched.erase c }).dmaBegin n (c.specAt 0 8) (c.argAt 1 1 = 1) c.ctx 0
    else if c.fn = 0 ∧ !c.bad ∧ !bad c ∧ bound ∧ d.dmaState n = 1 ∧ c.specAt 0 8 % 64 = 0 then d.dmaWaits c else
    d.startCmd q 0x07 bad noBuf fun c d =>
      if !bound then (d.dmaCode n 0x200A).finish c 0x200A 0 0
      else if d.dmaState n = 2 then (d.dmaCode n 0x200C).finish c 0x200C 0 0
      else if c.specAt 0 8 % 64 ≠ 0 then (d.dmaCode n 0x2001).finish c 0x2001 0 0
      else d.dmaBegin n (c.specAt 0 8) (c.argAt 1 1 = 1) c.ctx 0

end Sys2Proof.Machine
end

