-- ==== Sys2Proof/Machine/Mem.lean ====
section
/-!
DEFINITION. Memory controllers and Doorways (chapter 14): the memory configuration that the Foyer writes, the arbiters with their grants, locks,
ranks and wait counters, refresh, retraining, temperature polls and the C0 load.
-/
namespace Sys2Proof.Machine

def door0 : Door := {}
def Dev.door (d : Dev) (x : Nat) : Door := tget door0 d.mem.doors x
def Dev.setMem (d : Dev) (f : MemState → MemState) : Dev := { d with mem := f d.mem }
def Dev.setDoor (d : Dev) (x : Nat) (y : Door) : Dev := d.setMem fun m => { m with doors := tset door0 m.doors x y }

/-- Raise a MEM event with its code (R432). -/
def Dev.memErr (d : Dev) (f : Fld) (code : Nat) : Dev := (d.setFld R.MEM_LAST_ERR code).raise f

/-! ### Configuration (R405 to R409) -/

/-- Is a memory configuration among those that R405 takes; the argument has the layout of MEM.DRAM_CFG. -/
def dramCfgOk (cfg : Nat) : Bool :=
  let rate := bits cfg 1 3
  (if bitOf cfg 0 then decide (2 ≤ rate ∧ rate ≤ 4) else decide (rate ≤ 2)) && decide (bits cfg 4 3 ≤ 4) && (!bitOf cfg 8 || decide (2 ≤ rate))

/-- log2 of the physical size S (R406). -/
def dramLog2 (cfg : Nat) : Nat := 32 + bits cfg 4 3

/-- The valid SEL bits of a MAP word: the primary bit first, then the others; none where the primary is not valid (R407). -/
def mapSels (w : Nat) : Option (Nat × List Nat) :=
  if bitOf w 7 then some (bits w 0 6, (List.range 3).filterMap fun i => if bitOf w (8 * i + 15) then some (bits w (8 * i + 8) 6) else none) else none

/-- Does a map keep R407 and R408: every select in use has a primary bit, the primaries are distinct and lie from bit 6 to log2 S − 1, and no
further bit names a primary or lies beyond the address. Log 149 (DEDUCED, unsafe). -/
def mapOk (cfg : Nat) (ws : List Nat) : Bool :=
  let used := (ws.take (if bitOf cfg 7 then 9 else 8)).map mapSels
  let prim : List Nat := used.filterMap fun (x : Option (Nat × List Nat)) => x.map fun y => y.1
  let more := used.flatMap fun (x : Option (Nat × List Nat)) => match x with | some y => y.2 | none => []
  used.all (fun x => x.isSome) && decide prim.Nodup && prim.all (fun b => decide (6 ≤ b ∧ b < dramLog2 cfg)) &&
    more.all fun b => decide (b < dramLog2 cfg) && !(prim.contains b)

/-- The fallback map (R409). Log 150 (DEDUCED, unsafe). -/
def fallbackMap (cfg : Nat) : List Nat :=
  (List.range 8).map resetMapOf ++ [if bitOf cfg 7 then dramLog2 cfg - 1 + 128 else 0]

/-- The Foyer's memory step (R406): the configuration and map of the boot record, and which channels passed training.  Answers the code that
stops the Foyer, if one does. Log 150 (DEDUCED, unsafe). -/
def Dev.memConfigure (d : Dev) (cfg : Nat) (map : List Nat) (trained : List Nat) : Dev × Option Nat :=
  let d := d.setFld R.MEM_DRAM_CFG (cfg % 512)
  if !(dramCfgOk cfg) then (d.setFld R.MEM_LAST_ERR 0x300A, some 0x300A) else
  let zero := map.all fun w => decide (w = 0)
  let bad := !zero && !(mapOk cfg map)
  let ws := if zero || bad then fallbackMap cfg else map
  let d := (List.range 9).foldl (fun d i => d.setFld (R.MEM_MAP i) (ws.getD i 0)) (d.setFlag R.MEM_DRAM_CFG_MAP_FALLBACK bad)
  let d := d.setFld R.MEM_STATUS_TRAINED ((List.range 16).foldl (fun m c => m + (if trained.contains c then 2 ^ c else 0)) 0)
  if (List.range 16).all fun c => trained.contains c then
    let s := 2 ^ dramLog2 cfg
    (d.setFld R.MEM_INSTALLED (if bitOf cfg 8 then s / 8 * 7 else s), none)
  else (d.setFld R.MEM_LAST_ERR 0x3006, some 0x3006)

/-- A select bit of an address (R407). -/
def Dev.selectBit (d : Dev) (s a : Nat) : Nat :=
  match mapSels (d.fld (R.MEM_MAP s)) with
  | some (p, more) => (p :: more).foldl (fun x b => (x + bits a b 1) % 2) 0
  | none => 0

/-- The channel of a DRAM address (R407). -/
def Dev.channelOf (d : Dev) (a : Nat) : Nat :=
  (List.range 4).foldl (fun x i => x + d.selectBit i a * 2 ^ i) 0

/-- The bank of a DRAM address: BG × 4 + BA (R407). -/
def Dev.bankOf (d : Dev) (a : Nat) : Nat :=
  (d.selectBit 4 a + 2 * d.selectBit 5 a) * 4 + d.selectBit 6 a + 2 * d.selectBit 7 a

/-- The rank of a DRAM address. -/
def Dev.rankOf (d : Dev) (a : Nat) : Nat := if d.flag R.MEM_DRAM_CFG_RANKS then d.selectBit 8 a else 0

/-- The address bits above bit 5 that are no primary bits, in increasing order (R408). -/
def Dev.plainBits (d : Dev) : List Nat :=
  let n := if d.flag R.MEM_DRAM_CFG_RANKS then 9 else 8
  let prim := (List.range n).filterMap fun s => (mapSels (d.fld (R.MEM_MAP s))).map fun y => y.1
  (List.range (dramLog2 (d.fld R.MEM_DRAM_CFG) - 6)).filterMap fun i => if prim.contains (i + 6) then none else some (i + 6)

/-- The number that a list of address bits spells, lowest first. -/
def gather (a : Nat) : List Nat → Nat
  | [] => 0
  | b :: bs => bits a b 1 + 2 * gather a bs

/-- Column in 64 B bursts and row of a DRAM address (R408). -/
def Dev.columnRow (d : Dev) (a : Nat) : Nat × Nat := let bs := d.plainBits; (gather a (bs.take 5), gather a (bs.drop 5))

/-! ### Classes and limits (R418 to R421, R454, R457) -/

/-- The class of a packet type at a seam egress (R454). -/
def packetClass (t : Nat) : Nat := if t = 3 then 2 else if 0x20 ≤ t then 1 else 0

/-- Is the Doorway one of a seam egress. -/
def seamDoor (x : Nat) : Bool := x = 17 || x = 18

/-- The class of a requester at a Doorway: of a DMA channel from CH_CFG.CLASS (R390), of a packet type from R454, else REQ_CFG.CLASS. -/
def Dev.classAt (d : Dev) (x r : Nat) : Nat :=
  if seamDoor x then packetClass r
  else if 32 ≤ r ∧ r < 96 then 3 + d.fld (R.DMA_CH_CFG_CLASS (r - 32))
  else d.fld (R.MEM_REQ_CFG_CLASS r)

/-- MAX_GRANT of a class in bytes (R421). -/
def Dev.maxGrant (d : Dev) (c : Nat) : Nat :=
  let v := bits (d.fld R.MEM_MAX_GRANT) (4 * c) 4
  64 * 2 ^ min v (if c ≤ 1 then 2 else 6)

/-- WAIT_LIMIT of a requester in position clocks (R425, R457). -/
def Dev.waitLimit (d : Dev) (x r : Nat) : Nat := usCycles (if seamDoor x then 100 else max (d.fld (R.MEM_REQ_CFG_WAIT_LIMIT r)) 1)

/-- Requesters that exist at a Doorway (R418, R454). -/
def requesterAt (x r : Nat) : Bool :=
  if seamDoor x then [0x01, 0x02, 0x03, 0x10, 0x11, 0x12, 0x13, 0x14, 0x20, 0x21, 0x22].contains r
  else decide (r ≤ 26) || decide (32 ≤ r ∧ r < 96)

/-- May a request be a locked sequence (R410, R419): of MGMT, of TEST, or under ECC a write that covers only part of a 64 B block. -/
def Dev.mayLock (d : Dev) (x : Nat) (a : Arrival) : Bool :=
  decide (x < 16) && (decide (a.who = 25 ∨ a.who = 26) || (d.flag R.MEM_DRAM_CFG_ECC_EN && !a.read && decide (a.addr % 64 ≠ 0 ∨ a.bytes % 64 ≠ 0)))

/-- Where a source of a Doorway stands with requests: the DRAM channels and PCIe egress have the requesters of R418, each seam egress its own (R454). -/
def Dev.doorsOf (d : Dev) (x : Nat) : List Door :=
  (d.mem.doors.filter fun y => decide (y.1 = x) || (!(seamDoor x) && !(seamDoor y.1))).map fun y => y.2

/-- The requests of a source that are raised, at whichever Doorway (R417, R425). -/
def Dev.raisedBy (d : Dev) (x r : Nat) : List DoorReq := ((d.doorsOf x).flatMap fun y => y.waiting).filter fun q => decide (q.who = r)

/-! ### The Doorways (R420 to R427) -/

/-- The last completion of the oldest host read of a requester has come, or its timeout ends: its tag is free (R391, R416). Log 273 (DEDUCED, unsafe). -/
def Dev.freeTag (d : Dev) (r : Nat) : Dev := d.setMem fun m => { m with tags := m.tags.eraseP fun t => decide (t.who = r) }

/-- Raise a request at a Doorway. One that reaches beyond installed DRAM takes no slot (R427); at a DRAM channel a piece lies in that channel and is
at most 4 KiB (R421). Log 154 (DESIGN CHOICE, unsafe). -/
def Dev.arrive (d : Dev) (x : Nat) (a : Arrival) : Dev :=
  if a.readOver then (if x = 16 then d.freeTag a.who else d) else
  if !(requesterAt x a.who) ∨ a.bytes = 0 then d else
  match (if x < 16 then d.oorOf a.addr a.bytes else none) with
  | some o => d.outOfRange o
  | none =>
    if x < 16 ∧ d.channelOf a.addr ≠ x then d else
    let y := d.door x
    let before := (d.raisedBy x a.who).foldl (fun n q => max n q.fences) 0
    let lock := a.lock && d.mayLock x a
    let q : DoorReq := { who := a.who, addr := a.addr, bytes := if lock then min a.bytes 512 else if seamDoor x then a.bytes else min a.bytes 4096, lock := lock, fences := before + b2n a.fence, since := d.time, read := a.read, untagged := a.read && decide (x = 16) }
    d.setDoor x { y with waiting := y.waiting ++ [q] }

/-- The raised requests that stand first for their requester and wait for no fence (R416, R417). -/
def Door.eligible (y : Door) : List DoorReq :=
  (y.waiting.foldl (fun (acc : List DoorReq × List Nat) q => if acc.2.contains q.who then acc else (acc.1 ++ [q], acc.2 ++ [q.who])) ([], [])).1.filter fun q => q.fences = 0

/-- Where a requester ranks; less is higher.  Requesters whose grants ended stand below the others, the latest lowest (R420).
Log 148 (DESIGN CHOICE, unsafe). -/
def Door.rank (y : Door) (r : Nat) : Nat :=
  match y.dropped.idxOf? r with
  | some i => 128 + i
  | none => r

/-- Does the throttle keep C3 and C4 of a requester out of this slot of the PCIe egress (R560). -/
def Dev.throttledAt (d : Dev) (x : Nat) (y : Door) (r : Nat) : Bool :=
  decide (x = 16) && decide (3 ≤ d.classAt x r) && decide (8 - d.fld R.GLB_PLAT_STATUS_HOST_STEP ≤ y.slot % 8)

/-- The tag that a host read of a requester would take: the host interface has 512 of its own and draws on the pool of 3,584 while they are all in
use; a DMA channel takes from the pool alone, at most 256 (R391). Log 273 (DEDUCED, unsafe). -/
def Dev.tagFor (d : Dev) (r : Nat) : Option ReadTag :=
  let pool := decide (d.mem.tags.countP (fun t => t.pool) < 3584)
  if 32 ≤ r then (if pool && decide (d.mem.tags.countP (fun t => decide (t.who = r)) < 256) then some ⟨r, true⟩ else none)
  else if d.mem.tags.countP (fun t => !t.pool) < 512 then some ⟨r, false⟩
  else if pool then some ⟨r, true⟩ else none

/-- Does a request find what it needs besides a slot: a read of the host a tag (R391). -/
def Dev.tagFree (d : Dev) (q : DoorReq) : Bool := !q.untagged || (d.tagFor q.who).isSome

/-- A host read takes its tag as it wins (R391). Log 273 (DEDUCED, unsafe). -/
def Dev.takeTag (d : Dev) (q : DoorReq) : Dev :=
  if q.untagged then (match d.tagFor q.who with | some t => d.setMem fun m => { m with tags := m.tags ++ [t] } | none => d) else d

/-- The request that wins among those raised: the highest class, then the highest rank (R420). -/
def Dev.doorWinner (d : Dev) (x : Nat) (y : Door) : Option DoorReq :=
  (y.eligible.filter fun q => !(d.throttledAt x y q.who) && d.tagFree q).foldl (fun best q =>
    match best with
    | none => some q
    | some b => if d.classAt x q.who < d.classAt x b.who ∨ (d.classAt x q.who = d.classAt x b.who ∧ y.rank q.who < y.rank b.who) then some q else some b) none

/-- Remove the first request of a requester from those raised. -/
def dropFirst (r : Nat) : List DoorReq → List DoorReq
  | [] => []
  | q :: qs => if q.who = r then qs else q :: dropFirst r qs

/-- A grant begins: the wait counter returns to zero, and the longest wait is kept (R425). -/
def Dev.granted (d : Dev) (x : Nat) (q : DoorReq) : Dev :=
  let d := d.setMem fun m => { m with starved := m.starved.filter fun s => s ≠ q.who + (if seamDoor x then 1000 * x else 0) }
  if seamDoor x then d else
  let w := (d.time - q.since) * 5 / 2
  if d.fld (R.MEM_REQ_WAIT_MAX q.who) < w then d.setFld (R.MEM_REQ_WAIT_MAX q.who) (min w 0xFFFFFFFF) else d

/-- A grant ends: its requester drops to the lowest rank (R420). -/
def Door.ended (y : Door) (r : Nat) : Door := { y with grant := none, lock := none, dropped := (y.dropped.filter fun s => s ≠ r) ++ [r] }

/-- Steps 1 to 3 of R420: the request that takes the next transfer slot, and the Doorway with it. -/
def Dev.decide_ (d : Dev) (x : Nat) : Dev :=
  let y := d.door x
  let start (d : Dev) (y : Door) (q : DoorReq) : Dev :=
    let lock : Option DoorLock := if q.lock then some ⟨0, d.time, q.addr, q.addr⟩ else none
    ((d.granted x q).takeTag q).setDoor x { y with waiting := dropFirst q.who y.waiting, grant := some ({ q with untagged := false }, 0), lock := lock }
  match y.grant with
  | some (g, _) =>
    if y.lock.isSome then d else
    match d.doorWinner x y with
    | some q =>
      if d.classAt x q.who < d.classAt x g.who then
        let y := { y with waiting := { g with since := d.time } :: y.waiting, grant := none }
        start d y q
      else d
    | none => d
  | none => match d.doorWinner x y with | some q => start d y q | none => d

/-- Report an ECC result at an address (R411); without ECC no error is detected. -/
def Dev.eccReport (d : Dev) (e : EccResult) (a : Nat) : Dev :=
  if !(d.flag R.MEM_DRAM_CFG_ECC_EN) then d else
  match e with
  | .clean => d
  | .corrected => (d.bump R.MEM_ECC_CNT_CE).memErr R.MEM_EVENTS_ECC_CE 0x3003
  | .uncorrectable => ((d.bump R.MEM_ECC_CNT_UE).setFld R.MEM_UE_ADDR a).memErr R.MEM_EVENTS_ECC_UE 0x3004

/-- One decision of a Doorway and the transfer that follows it (R420 to R422): requests raised and host reads ended since the last decision, whether the owner of a lock
makes a transfer in this slot, whether it releases its lock, and what the ECC logic finds. Log 147 (DESIGN CHOICE, unsafe). -/
def Dev.doorway (d : Dev) (x : Nat) (as : List Arrival) (move release : Bool) (ecc : EccResult) : Dev :=
  if 18 < x then d else
  let d := as.foldl (fun d a => d.arrive x a) d
  let d := d.decide_ x
  let y := d.door x
  let held (g : Option (DoorReq × Nat)) : Bool := match g with | some (q, _) => d.throttledAt x y q.who | none => false
  let y := { y with slot := (y.slot + 1) % 8 }
  let d := d.setDoor x y
  match y.grant with
  | none => d
  | some (q, n) =>
    let a := q.addr + q.done
    let moves := (y.lock.isNone || move) && decide (q.done < q.bytes) && !(held y.grant)
    let d := if moves && decide (x < 16) then d.eccReport ecc a else d
    let d := if moves && decide (x < 16) && decide (d.classAt x q.who = 0) then d.setMem fun m => { m with c0Slots := tupd 0 m.c0Slots x fun s => s + 1 } else d
    let q := if moves then { q with done := min q.bytes (q.done + 64) } else q
    let n := if moves then n + 64 else n
    match y.lock with
    | some l =>
      let l := if moves then { l with made := l.made + 1, last := a } else l
      if release || decide (8 ≤ l.made) then d.setDoor x (y.ended q.who) else d.setDoor x { y with grant := some (q, n), lock := some l }
    | none =>
      if q.bytes ≤ q.done then d.setDoor x (y.ended q.who)
      else if !(seamDoor x) && decide (d.maxGrant (d.classAt x q.who) ≤ n) then
        let y := y.ended q.who
        d.setDoor x { y with waiting := { q with since := d.time } :: y.waiting }
      else d.setDoor x { y with grant := some (q, n) }

/-- REQ_STATUS of a requester over the DRAM and PCIe Doorways: a request raised, a grant held, a locked sequence held. -/
def Dev.reqStatus (d : Dev) (r : Nat) : Nat :=
  let ys := (d.mem.doors.filter fun y => decide (y.1 ≤ 16)).map fun y => y.2
  let holds (y : Door) : Bool := match y.grant with | some (q, _) => decide (q.who = r) | none => false
  b2n (ys.any fun y => y.waiting.any fun q => decide (q.who = r)) + 2 * b2n (ys.any holds) + 4 * b2n (ys.any fun y => holds y && y.lock.isSome)

/-- 2 µs after its first grant a locked sequence is broken (R423). Log 153 (DEDUCED, unsafe). -/
def Dev.lockTimeout (d : Dev) (x : Nat) : Dev :=
  let y := d.door x
  match y.grant, y.lock with
  | some (q, _), some l =>
    let d := d.advance (l.since + usCycles 2)
    let d := ((d.setFld R.MEM_LOCK_INFO_OWNER q.who).setFld R.MEM_LOCK_INFO_CHANNEL x).setFld R.MEM_LOCK_INFO_CAUSE 0
    let d := (d.setFld R.MEM_LOCK_FIRST l.first).setFld R.MEM_LOCK_LAST l.last
    (d.setDoor x (y.ended q.who)).memErr R.MEM_EVENTS_LOCK_BROKEN 0x3001
  | _, _ => d

/-- A requester's oldest raised request, at whichever Doorway it stands, has waited for WAIT_LIMIT (R425, R457). -/
def Dev.starve (d : Dev) (x r : Nat) : Dev :=
  let key := r + (if seamDoor x then 1000 * x else 0)
  match (d.door x).waiting.find? fun q => q.who = r with
  | none => d
  | some q =>
    if d.mem.starved.contains key || (d.raisedBy x r).any (fun p => decide (p.since < q.since)) then d else
    let d := d.advance (q.since + d.waitLimit x r)
    let d := d.setMem fun m => { m with starved := key :: m.starved }
    if seamDoor x then d.setFld (R.KSL_PORT_STATUS_STARVE (x - 17)) 1
    else
      let w := (d.time - q.since) * 5 / 2
      let d := if d.fld (R.MEM_REQ_WAIT_MAX r) < w then d.setFld (R.MEM_REQ_WAIT_MAX r) (min w 0xFFFFFFFF) else d
      (d.setBit (Fld.bit (R.MEM_STARVE_MAP (r / 32)) (r % 32))).memErr R.MEM_EVENTS_STARVE 0x3002

/-- A fence of a source completes (R417): no earlier write of it is under way, at whichever Doorway. The Boulevard's fence ends the tag protocol of its row (R153). -/
def Dev.fenceComplete (d : Dev) (source : Nat) : Dev :=
  let earlier (q : DoorReq) : Bool := decide (q.who = source) && !q.read && decide (q.fences = 0)
  let opens (y : Door) : Bool := y.waiting.any earlier || (match y.grant with | some (q, _) => earlier q | none => false)
  if (d.doorsOf 0).any opens then d else
  let pass (y : Door) : Door := { y with waiting := y.waiting.map fun q => if q.who = source then { q with fences := q.fences - 1 } else q }
  let d := d.setMem fun m => { m with doors := m.doors.map fun y => (y.1, if seamDoor y.1 then y.2 else pass y.2) }
  if source = 1 then d.tagWrite else d

/-- A write of REQ_CFG (R419, R424): CLASS of a programmable requester takes 2 to 4, WAIT_LIMIT any value. Log 152 (DEDUCED, unsafe). -/
def Dev.reqCfgWrite (d : Dev) (r v : Nat) : Dev :=
  if 128 ≤ r ∨ !(requesterAt 0 r) then d else
  let d := d.setFld (R.MEM_REQ_CFG_WAIT_LIMIT r) (bits v 16 16)
  if 21 ≤ r ∧ r ≤ 25 ∧ 2 ≤ bits v 0 3 ∧ bits v 0 3 ≤ 4 then d.setFld (R.MEM_REQ_CFG_CLASS r) (bits v 0 3) else d

/-! ### Refresh, tracking, temperature and load (R413 to R415, R430) -/

/-- A bank's refresh falls due; `issued` refreshes were run since the last one, while the bank had no request (R413).
Log 147 (DESIGN CHOICE, unsafe), 151 (DEDUCED, unsafe). -/
def Dev.refreshDue (d : Dev) (c bank issued : Nat) : Dev :=
  if 16 ≤ c ∨ (if d.flag R.MEM_DRAM_CFG_RANKS then 32 else 16) ≤ bank ∨ !(d.flag (Fld.bit R.MEM_STATUS_TRAINED c)) then d else
  let k := c * 32 + bank
  let lag := max (-8) (tget 0 d.mem.lag k + 1 - issued)
  let forced := decide (8 ≤ lag)
  let d := d.setMem fun m => { m with lag := tset 0 m.lag k (if forced then 7 else lag) }
  let d := if forced then d.bump (R.MEM_CH_REF_CNT c) else d
  let worst := (List.range 32).foldl (fun w b => max w (tget 0 d.mem.lag (c * 32 + b)).toNat) 0
  d.setFld (R.MEM_CH_STATUS_REF_BEHIND c) (min (if forced then 8 else worst) 8)

/-- A drift larger than the tracking range (R414). Log 147 (DESIGN CHOICE, unsafe). -/
def Dev.driftReport (d : Dev) (c : Nat) (drift : Bool) : Dev :=
  if drift then (d.setFld (Fld.bit R.MEM_STATUS_DRIFT c) 1).memErr R.MEM_EVENTS_DRIFT_LIMIT 0x3007 else d

/-- No C0 or C1 request is raised for a channel. -/
def Dev.doorQuiet (d : Dev) (c : Nat) : Bool :=
  let y := d.door c
  !(y.waiting.any fun q => decide (d.classAt c q.who ≤ 1)) && (match y.grant with | some (q, _) => decide (2 ≤ d.classAt c q.who) | none => true)

/-- The tracking steps of a channel fall due RETRAIN_MS after they last did; `gap` says whether a gap of 100 ns is there, in which they are made
(R414). With steps still waiting it is a later gap that makes them. Log 147 (DESIGN CHOICE, unsafe). -/
def Dev.retrainDue (d : Dev) (c : Nat) (gap drift : Bool) : Dev :=
  if 16 ≤ c ∨ !(d.flag (Fld.bit R.MEM_STATUS_TRAINED c)) then d else
  let d := if d.mem.stepsWait.contains c then d else
    let due := tget 0 d.mem.stepsAt c + 400000 * max (d.fld R.MEM_RETRAIN_CFG_RETRAIN_MS) 1
    let d := d.advance due
    d.setMem fun m => { m with stepsAt := tset 0 m.stepsAt c d.time, stepsWait := c :: m.stepsWait }
  if gap && d.doorQuiet c then
    ((d.setMem fun m => { m with stepsWait := m.stepsWait.filter fun x => x ≠ c }).bump (R.MEM_CH_RETRAIN_CNT_GAP c)).driftReport c drift
  else d

/-- No gap has come within RETRAIN_WAIT_US, and the steps are forced (R414). -/
def Dev.retrainForced (d : Dev) (c : Nat) (drift : Bool) : Dev :=
  if !(d.mem.stepsWait.contains c) then d else
  let d := d.advance (tget 0 d.mem.stepsAt c + usCycles (max (d.fld R.MEM_RETRAIN_CFG_RETRAIN_WAIT_US) 1))
  ((d.setMem fun m => { m with stepsWait := m.stepsWait.filter fun x => x ≠ c }).bump (R.MEM_CH_RETRAIN_CNT_FORCED c)).driftReport c drift

/-- MR4 of every device is read: the refresh multipliers by channel, and whether a device is beyond its range (R415). -/
def Dev.mr4Poll (d : Dev) (mults : List Nat) (hot : Bool) : Dev :=
  if d.fld R.MEM_STATUS_TRAINED = 0 then d else
  let d := (List.range 16).foldl (fun d c => d.setFld (R.MEM_CH_STATUS_REF_MULT c) (min (mults.getD c 0) 2)) d
  if hot then
    let d := d.memErr R.MEM_EVENTS_DRAM_HOT 0x3008
    { d with faultReq := d.faultReq ++ [1] }
  else d

/-- The transfer rate in MT/s (R405). -/
def Dev.dramRate (d : Dev) : Nat := [4266, 5500, 6400, 7500, 8533].getD (d.fld R.MEM_DRAM_CFG_RATE) 8533

/-- A 10 µs window of a channel ends (R430): ρ0 in 1/256 is the slots of C0 over the 20 × rate / 64 slots of the window. -/
def Dev.loadWindow (d : Dev) (c : Nat) : Dev :=
  if 16 ≤ c then d else
  let load := tget 0 d.mem.c0Slots c * 8192 / (10 * d.dramRate)
  let d := d.setMem fun m => { m with c0Slots := tset 0 m.c0Slots c 0 }
  let d := d.setFld (R.MEM_CH_LOAD_C0_NOW c) (min load 255)
  let d := if d.fld (R.MEM_CH_LOAD_C0_PEAK c) < min load 255 then d.setFld (R.MEM_CH_LOAD_C0_PEAK c) (min load 255) else d
  if d.fld R.MEM_C0_LIMIT < load then d.memErr R.MEM_EVENTS_C0_LOAD 0x3009 else d

end Sys2Proof.Machine
end

