-- ==== Sys2Proof/Machine/Seam.lean ====
section
/-!
DEFINITION. The Kyoric link (chapter 15): lanes, bring-up of a seam port, equalisation, sleep, what is done with packets that arrive, and what a
cascade knows of itself.
-/
namespace Sys2Proof.Machine

def Dev.updSeam (d : Dev) (side : Nat) (f : SeamPort → SeamPort) : Dev := d.setSeamPort side (f (d.seamPort side))
def Dev.stage (d : Dev) (side : Nat) : Nat := d.fld (R.KSL_PORT_STATUS_STAGE side)

/-- Raise a KSL event with the code and port in LAST_ERR (R464). -/
def Dev.seamErr (d : Dev) (side : Nat) (f : Fld) (code : Nat) : Dev :=
  ((d.setFld R.KSL_LAST_ERR_CODE code).setFld R.KSL_LAST_ERR_PORT side).raise f

/-- A code in LAST_ERR without an event. -/
def Dev.seamCode (d : Dev) (side code : Nat) : Dev := (d.setFld R.KSL_LAST_ERR_CODE code).setFld R.KSL_LAST_ERR_PORT side

/-- Lane indices of a port (R433). -/
def txLane (side i : Nat) : Nat := 80 + 16 * side + i
def rxLane (side i : Nat) : Nat := 88 + 16 * side + i

/-! ### What the cascade knows of itself (R460 to R463) -/

/-- CASCADE_SIZE; 0 acts as 1, above 8 as 8. -/
def Dev.cascadeSize (d : Dev) : Nat := min 8 (max 1 (d.live R.KSL_CTRL_CASCADE_SIZE))

/-- The role of R55 from ROLE and a position. Log 159 (DEDUCED, unsafe). -/
def Dev.masterAt (d : Dev) (pos : Nat) : Bool :=
  let r := d.live R.POS_CTRL_ROLE
  if r = 1 then true else if r = 2 then false else pos = 0

/-- Has the device this position: fixed, or its live count. Log 159 (DEDUCED, unsafe). -/
def Dev.noteRole (d : Dev) : Dev :=
  if d.mode = .discover then d.setFlag R.POS_STATUS_MASTER (d.masterAt (d.fld R.KSL_CASCADE_W)) else d

/-- The LINKINFO payload of this device (R460). -/
def Dev.linkinfo (d : Dev) (mode : Nat) : List Byte :=
  fit 32 (leBytes 1 d.ownPos ++ leBytes 1 (d.fld R.KSL_CASCADE_W) ++ leBytes 1 (d.fld R.KSL_CASCADE_E) ++ leBytes 1 mode ++
    leBytes 1 (b2n (d.mode = .degraded) + 2 * d.fld R.POS_STATUS_MASTER + 4 * d.fld R.POS_STATUS_HOLDOVER + 8 * d.fld R.KSL_CASCADE_READY) ++ zeros 3 ++
    leBytes 4 (d.fld R.GLB_EPOCH) ++ zeros 4 ++ leBytes 8 (d.fld R.GLB_FINGERPRINT) ++ leBytes 4 d.devicePlace)

/-- Send the own LINKINFO (R460). -/
def Dev.sendLinkinfo (d : Dev) : Dev := d.broadcast PT.linkinfo (d.linkinfo d.mode.code)

/-- The SAME bits of the device table (R463). -/
def Dev.noteSame (d : Dev) : Dev :=
  (List.range 8).foldl (fun d i =>
    if d.flag (R.KSL_DEV_STATE_VALID i) then
      d.setFlag (R.KSL_DEV_STATE_SAME i) (decide (d.fld (R.KSL_DEV_EPOCH i) = d.fld R.GLB_EPOCH) && decide (d.fld (R.KSL_DEV_FP i) = d.fld R.GLB_FINGERPRINT) && decide (d.fld (R.KSL_DEV_STATE_MODE i) = d.mode.code))
    else d) d

/-- CASCADE_READY, MASTER_CONFLICT and MASTER_POS (R461). Log 185 (DEDUCED, unsafe). -/
def Dev.noteReady (d : Dev) : Dev :=
  let size := d.fld R.KSL_CASCADE_SIZE_SEEN
  let own := if d.flag R.POS_STATUS_MASTER then [d.ownPos] else []
  let ms := own ++ d.masters.filter fun m => decide (m ≠ d.ownPos)
  let known := (List.range size).all fun i => decide (i = d.ownPos) || d.flag (R.KSL_DEV_STATE_VALID i)
  let clean := [0, 1].all fun s => !(decide (d.stage s = 4) && d.flag (R.KSL_PORT_STATUS_MISMATCH s))
  let d := match ms with | m :: _ => d.setFld R.KSL_CASCADE_MASTER_POS m | [] => d
  let d := if 2 ≤ ms.length ∨ (ms = [] ∧ size = d.cascadeSize ∧ known ∧ d.mode.linked) then d.seamErr 0 R.KSL_EVENTS_MASTER_CONFLICT 0x700E else d
  d.setFlag R.KSL_CASCADE_READY (decide (size = d.cascadeSize) && clean && decide (ms.length = 1))

/-- Recount the cascade (R460); a change is told to the others at once. -/
def Dev.recount (d : Dev) : Dev :=
  let w := if d.stage 0 = 5 then (d.seamPort 0).pw + 1 else 0
  let e := if d.stage 1 = 5 then (d.seamPort 1).pe + 1 else 0
  let changed := decide (w ≠ d.fld R.KSL_CASCADE_W) || decide (e ≠ d.fld R.KSL_CASCADE_E)
  let d := ((d.setFld R.KSL_CASCADE_W w).setFld R.KSL_CASCADE_E e).setFld R.KSL_CASCADE_SIZE_SEEN (w + e + 1)
  let d := d.noteRole.noteReady
  if changed then d.sendLinkinfo else d

/-- Mode, epoch or fingerprint have changed: SAME, and a LINKINFO (R460, R463). Log 185 (DEDUCED, unsafe). -/
def Dev.tellCascade (d : Dev) : Dev := d.noteRole.noteSame.noteReady.sendLinkinfo

/-- Is a side expected to have a partner (R462). -/
def Dev.expected (d : Dev) (side : Nat) : Bool :=
  d.flag R.KSL_CASCADE_FIXED && (if side = 0 then decide (0 < d.fld R.KSL_CASCADE_DEVICE) else decide (d.fld R.KSL_CASCADE_DEVICE + 1 < d.cascadeSize))

/-- The missing bit of a side in GLB.MISSING. -/
def missingSide (side : Nat) : Fld := Fld.bit R.GLB_MISSING_CAUSE (2 + side)

/-- DATA of a port: Active or not (R448); the side is missing or there again (R462, R471). -/
def Dev.setActive (d : Dev) (side : Nat) (on : Bool) : Dev :=
  let d := d.setFlag (R.KSL_PORT_STATUS_DATA side) on
  if on then d.setFld (missingSide side) 0
  else if d.expected side ∧ (d.mode = .inspect ∨ d.mode = .degraded ∨ d.mode = .calibrate) then d.setFld (missingSide side) 1 else d

/-! ### Stages (R439 to R446) -/

/-- Set a preset of a transmit lane (R444). -/
def presetOf (n : Nat) : Nat × Nat :=
  [(0, 0), (0, 2), (0, 4), (0, 6), (0, 8), (2, 0), (2, 4), (2, 6), (3, 8), (4, 0), (0, 10)].getD n (0, 8)

def Dev.setPreset (d : Dev) (l n : Nat) : Dev :=
  let (a, b) := presetOf n
  ((d.setFld (R.KSL_LANE_STATUS_PRESET l) n).setFld (R.KSL_LANE_STATUS_PRE l) a).setFld (R.KSL_LANE_STATUS_POST l) b

/-- TX_PRESET of a port; 11 to 15 act as 4. -/
def Dev.txPreset (d : Dev) (side : Nat) : Nat := let n := d.fld (R.KSL_PORT_CFG_TX_PRESET side); if n ≤ 10 then n else 4

/-- The lanes of a port lose their status. -/
def Dev.clearLanes (d : Dev) (side : Nat) (is : List Nat) : Dev :=
  is.foldl (fun d i => (d.setReg (R.KSL_LANE_STATUS (rxLane side i)).addr 0).setReg (R.KSL_LANE_STATUS (txLane side i)).addr 0) d

/-- A port leaves ACTIVE: it is not Active, and what waits on it is dropped (R449). -/
def Dev.leaveActive (d : Dev) (side : Nat) : Dev :=
  let was := d.flag (R.KSL_PORT_STATUS_DATA side)
  let d := (d.setFld (R.KSL_PORT_STATUS_DATA side) 0).updSeam side fun x => { x with unacked := [], waiting := [], replays := 0, wakeAt := none, ignoring := false, held := false }
  if was then d.setActive side false else d

/-- Clear what a port shows of its link. -/
def Dev.unlink (d : Dev) (side stage : Nat) : Dev :=
  let d := (d.leaveActive side).setFld (R.KSL_PORT_STATUS_STAGE side) stage
  (((d.setFld (R.KSL_PORT_STATUS_RATE side) 0).setFld (R.KSL_PORT_STATUS_WIDTH side) 0).setFld (R.KSL_PORT_STATUS_MISMATCH side) 0).setFld (R.KSL_PORT_STATUS_REVERSED side) 0

/-- Enter DETECT: MAX_RATE is taken, EXCLUDED clears (R440, R446). -/
def Dev.enterDetect (d : Dev) (side : Nat) : Dev :=
  let d := (((d.unlink side 1).setFld (R.KSL_PORT_STATUS_EXCLUDED side) 0).setFld (R.KSL_PORT_STATUS_TX_PWR side) 0).setFld (R.KSL_PORT_STATUS_RX_PWR side) 0
  let r := d.fld R.KSL_CTRL_MAX_RATE
  let d := (d.clearLanes side (List.range 8)).updSeam side fun x => { x with maxRate := if r = 0 then 3 else r, present := [], order := [] }
  d.recount

/-- Enter OFF: both directions are OFF. Log 158 (DESIGN CHOICE, unsafe). -/
def Dev.enterOff (d : Dev) (side : Nat) : Dev :=
  let d := (((d.unlink side 0).setFld (R.KSL_PORT_STATUS_EXCLUDED side) 0).setFld (R.KSL_PORT_STATUS_TX_PWR side) 2).setFld (R.KSL_PORT_STATUS_RX_PWR side) 2
  ((d.clearLanes side (List.range 8)).updSeam side fun x => { x with present := [], order := [] }).recount

/-- Enter TRAIN at K1 on the present lanes (R442). -/
def Dev.enterTrain (d : Dev) (side : Nat) : Dev :=
  let d := (d.unlink side 2).setFld (R.KSL_PORT_STATUS_RATE side) 1
  let d := d.updSeam side fun x => { x with present := if x.order = [] then x.present else x.order, order := [], phase := 0, target := 0, sent := 0, lanes := [], trainAt := d.time, phaseAt := d.time }
  let d := (d.seamPort side).present.foldl (fun d i => d.setPreset (txLane side i) (d.txPreset side)) d
  d.recount

/-- May a port run: the mode allows the link and the port is enabled and not forced OFF (R439, R450, R451). -/
def Dev.portMayRun (d : Dev) (side : Nat) : Bool :=
  d.mode.linked && d.flag (if side = 0 then R.KSL_CTRL_W_EN else R.KSL_CTRL_E_EN) && decide (d.fld (R.KSL_PORT_POWER_TX_FORCE side) ≠ 2) && decide (d.fld (R.KSL_PORT_POWER_RX_FORCE side) ≠ 2)

/-- A transmitter sends one DOZE set and dozes (R450). -/
def Dev.dozeTx (d : Dev) (side : Nat) : Dev :=
  let d := if d.fld (R.KSL_PORT_STATUS_TX_PWR side) = 0 then d.putSet side 1 .doze else d
  d.setFld (R.KSL_PORT_STATUS_TX_PWR side) 1

/-- Packets that waited go out as far as they may (R450, R456). -/
def Dev.flushWaiting (d : Dev) (side : Nat) : Dev :=
  let x := d.seamPort side
  x.waiting.foldl (fun d p => d.sendPacket side p) (d.setSeamPort side { x with waiting := [] })

/-- The mode, an enable or a forced power state has changed (R439, R450, R451); a transmitter no longer held in DOZE sends what waited. -/
def Dev.portPower (d : Dev) (side : Nat) : Dev :=
  if d.portMayRun side then
    if d.stage side = 0 then d.enterDetect side
    else if d.stage side = 5 ∧ d.fld (R.KSL_PORT_POWER_TX_FORCE side) = 1 then d.dozeTx side
    else if (d.seamPort side).waiting ≠ [] then d.flushWaiting side
    else d
  else if d.stage side ≠ 0 then
    let d := if d.stage side = 5 ∧ d.mode.linked then (d.bump (R.KSL_PORT_CNT1_DOWN_CNT side)).seamErr side R.KSL_EVENTS_PORT_DOWN 0x7007 else d
    d.enterOff side
  else if d.fld (R.KSL_PORT_STATUS_TX_PWR side) ≠ 2 then (d.setFld (R.KSL_PORT_STATUS_TX_PWR side) 2).setFld (R.KSL_PORT_STATUS_RX_PWR side) 2
  else d

/-- A port in ACTIVE goes down (R449). -/
def Dev.portDown (d : Dev) (side : Nat) : Dev :=
  if d.stage side ≠ 5 then d else
  ((d.bump (R.KSL_PORT_CNT1_DOWN_CNT side)).seamErr side R.KSL_EVENTS_PORT_DOWN 0x7007).enterDetect side

/-- A probe of the transmit lanes finds receivers on some of them (R440). -/
def Dev.detectProbe (d : Dev) (side : Nat) (present : List Nat) : Dev :=
  let ps := (List.range 8).filter fun i => present.contains i
  if 2 ≤ side ∨ d.stage side ≠ 1 ∨ ps = [] then d else
  (d.updSeam side fun x => { x with present := ps, order := [] }).enterTrain side

/-! ### Training sets (R441 to R445) -/

def lane0 : SeamLane := {}
def SeamPort.rx (x : SeamPort) (i : Nat) : SeamLane := tget lane0 x.lanes i

/-- CHECK of bytes 1 to 14 (R441). -/
def ktsCheck (bs : List Byte) : Byte := (bs.take 14).foldl (fun x b => x ^^^ b) 0

/-- The rates a port accepts as bits K1, K2, K3 (R441). -/
def Dev.ktsRates (d : Dev) (side : Nat) : Nat :=
  (List.range 3).foldl (fun m i => m + (if i < (d.seamPort side).maxRate ∧ !(bitOf (d.fld (R.KSL_PORT_STATUS_EXCLUDED side)) i) then 2 ^ i else 0)) 0

/-- Is the equalisation of a lane over on this side (R445). -/
def Dev.eqOwn (d : Dev) (side i : Nat) : Bool := d.flag (R.KSL_PORT_CFG_EQ_MODE side) || ((d.seamPort side).rx i).satisfied

/-- The logical number of a physical lane (R442). -/
def Dev.logical (d : Dev) (side i : Nat) : Nat := if d.flag (R.KSL_PORT_STATUS_REVERSED side) then 7 - i else i

/-- Bytes 1 to 15 of the set that a port sends on a physical lane (R441). -/
def Dev.ktsOut (d : Dev) (side i ask : Nat) : List Byte :=
  let x := d.seamPort side
  let l := txLane side i
  let eq := decide (x.phase = 2)
  let second := decide (x.order ≠ [])
  let b := [BitVec.ofNat 8 (d.logical side i + 8 * side), BitVec.ofNat 8 (d.ktsRates side), BitVec.ofNat 8 x.target,
    BitVec.ofNat 8 (if eq && !(d.flag (R.KSL_PORT_CFG_EQ_MODE side)) then ask else 0x0F),
    BitVec.ofNat 8 (d.fld (R.KSL_LANE_STATUS_PRESET l) + 16 * b2n (x.rx i).atLimit + 32 * b2n (eq && d.eqOwn side i)),
    BitVec.ofNat 8 (d.fld (R.KSL_LANE_STATUS_PRE l)), BitVec.ofNat 8 (d.fld (R.KSL_LANE_STATUS_POST l)),
    BitVec.ofNat 8 (d.fld (R.KSL_LANE_STATUS_BLOCK_LOCK (rxLane side i)))] ++ List.replicate 6 (if second then 0x45 else 0x4A)
  b ++ [ktsCheck b]

/-- One step of a cursor: 1 up, 2 down, else held. -/
def cursorStep (code : Nat) (v : Nat) : Int := if code = 1 then v + 1 else if code = 2 then (v : Int) - 1 else v

/-- Cursors within the limits (R444). -/
def cursorsOk (pre post : Int) : Bool :=
  decide (0 ≤ pre) && decide (pre ≤ 6) && decide (0 ≤ post) && decide (post ≤ 12) && decide (16 ≤ 32 - pre - post)

/-- The own transmitter takes a request: a preset, or single steps, each within the limits or not applied (R444, R445). Answers AT_LIMIT, kept
while no request comes. -/
def Dev.eqRequest (d : Dev) (l req : Nat) (held : Bool) : Dev × Bool :=
  let p := bits req 0 4
  if p ≤ 10 then (d.setPreset l p, false)
  else if bits req 4 4 = 0 ∨ p ≠ 15 then (d, held)
  else
    let pre : Int := d.fld (R.KSL_LANE_STATUS_PRE l)
    let post : Int := d.fld (R.KSL_LANE_STATUS_POST l)
    let a := cursorStep (bits req 4 2) (d.fld (R.KSL_LANE_STATUS_PRE l))
    let okA := cursorsOk a post
    let pre' := if okA then a else pre
    let b := cursorStep (bits req 6 2) (d.fld (R.KSL_LANE_STATUS_POST l))
    let okB := cursorsOk pre' b
    let post' := if okB then b else post
    (((d.setFld (R.KSL_LANE_STATUS_PRE l) pre'.toNat).setFld (R.KSL_LANE_STATUS_POST l) post'.toNat).setFld (R.KSL_LANE_STATUS_PRESET l) 15, !(okA && okB))

/-- Take one training set (R442, R445). Log 155 (DEDUCED, unsafe). -/
def Dev.takeKts (d : Dev) (side : Nat) (second : Bool) (count : Nat) (k : KtsIn) : Dev :=
  let x := d.seamPort side
  if !(x.present.contains k.lane) then d else
  let o := x.rx k.lane
  let at_ (i : Nat) : Nat := (k.bytes.getD (i - 1) 0).toNat
  let good := decide (k.bytes.length = 15) && decide (k.bytes.getD 14 0 = ktsCheck k.bytes) && decide (bits (at_ 1) 3 1 = 1 - side)
  if !good then d.updSeam side fun x => { x with lanes := tset lane0 x.lanes k.lane { o with count := 0 } } else
  let v := bits (at_ 1) 0 3
  let n := if o.lane = v then o.count + count else count
  let (d, lim) := if x.phase = 2 then d.eqRequest (txLane side k.lane) (at_ 4) o.atLimit else (d, o.atLimit)
  let o := { o with count := n, lane := v, inverted := k.inverted, rates := at_ 2, locked := bitOf (at_ 8) 0, eqDone := bitOf (at_ 5) 5, second := if second then o.second + count else o.second, satisfied := o.satisfied || k.satisfied, atLimit := lim }
  let d := d.updSeam side fun x => { x with lanes := tset lane0 x.lanes k.lane o }
  ((d.setFld (R.KSL_LANE_STATUS_SIGNAL (rxLane side k.lane)) 1).setFld (R.KSL_LANE_STATUS_BIT_LOCK (rxLane side k.lane)) 1).setFld (R.KSL_LANE_STATUS_BLOCK_LOCK (rxLane side k.lane)) 1

/-- Width codes. Log 157 (DEDUCED, unsafe). -/
def widthCode (w : Nat) : Nat := if w = 8 then 3 else if w = 4 then 2 else if w = 2 then 1 else 0

/-- Is a lane trained on receive (R442). -/
def SeamLane.trained (l : SeamLane) : Bool := decide (8 ≤ l.count)

/-- The lanes of the width in logical order, and whether the port reverses (R442). -/
def Dev.widthNow (d : Dev) (side : Nat) : List Nat × Bool :=
  let x := d.seamPort side
  let ts := x.present.filter fun i => (x.rx i).trained
  let rev := decide (ts ≠ []) && ts.all fun i => decide ((x.rx i).lane = 7 - i)
  let phys (k : Nat) : Nat := if rev then 7 - k else k
  let fits (k : Nat) : Bool := let i := phys k; ts.contains i && decide ((x.rx i).lane = k) && (x.rx i).locked
  let top := 2 ^ d.fld (R.KSL_PORT_CFG_WIDTH_MAX side)
  match [8, 4, 2, 1].find? fun w => decide (w ≤ top) && (List.range w).all fits with
  | some w => ((List.range w).map phys, rev)
  | none => ([], rev)

/-- The highest rate that two RATES fields share; K1 when they share none. -/
def bestRate (a b : Nat) : Nat := if bitOf a 2 && bitOf b 2 then 3 else if bitOf a 1 && bitOf b 1 then 2 else 1

/-- Fix the width and the target once a width exists (R442). Log 157 (DEDUCED, unsafe). -/
def Dev.noteWidth (d : Dev) (side : Nat) : Dev :=
  let x := d.seamPort side
  let (o, rev) := d.widthNow side
  if x.phase ≠ 0 ∨ o.length ≤ x.order.length then d else
  let t := bestRate (d.ktsRates side) ((x.rx (o.headD 0)).rates)
  let d := d.updSeam side fun x => { x with order := o, target := t }
  let d := (d.setFld (R.KSL_PORT_STATUS_WIDTH side) (widthCode o.length)).setFlag (R.KSL_PORT_STATUS_REVERSED side) rev
  let d := o.foldl (fun d i => (d.setFld (R.KSL_LANE_STATUS_IN_USE (rxLane side i)) 1).setFld (R.KSL_LANE_STATUS_IN_USE (txLane side i)) 1) d
  if o.length < 2 ^ d.fld (R.KSL_PORT_CFG_WIDTH_MAX side) then d.seamErr side R.KSL_EVENTS_WIDTH_REDUCED 0x7004 else d

/-- Enter LOCK with an SDS: lanes outside the width are powered down (R442, R443, R446). -/
def Dev.enterLock (d : Dev) (side : Nat) : Dev :=
  let x := d.seamPort side
  let d := d.clearLanes side ((List.range 8).filter fun i => !(x.order.contains i))
  ((d.setFld (R.KSL_PORT_STATUS_STAGE side) 3).updSeam side fun x => { x with lockAt := d.time }).putSet side 1 .sds

/-- A period of training sets: `count` equal sets on every lane, `sent` KTS2 sent meanwhile (R442, R443, R445). Log 155 (DEDUCED, unsafe). -/
def Dev.ktsReceive (d : Dev) (side : Nat) (second : Bool) (count sent : Nat) (sets : List KtsIn) : Dev :=
  if 2 ≤ side ∨ d.stage side ≠ 2 ∨ (d.seamPort side).phase = 1 then d else
  let d := sets.foldl (fun d k => d.takeKts side second count k) d
  let d := d.noteWidth side
  let x := d.seamPort side
  let d := if x.order ≠ [] ∧ second then d.updSeam side fun x => { x with sent := x.sent + sent } else d
  let x := d.seamPort side
  let eqOver := decide (x.phase = 0) || x.order.all fun i => (x.rx i).eqDone && d.eqOwn side i
  let done := decide (x.order ≠ []) && x.order.all (fun i => decide (8 ≤ (x.rx i).second)) && decide (16 ≤ x.sent) && eqOver
  if !done then sets.foldl (fun d k => d.emit (.kts side k.lane (decide (x.order ≠ [])) (d.ktsOut side k.lane k.ask))) d
  else if x.phase = 0 ∧ 2 ≤ x.target then d.updSeam side fun x => { x with phase := 1, phaseAt := d.time }
  else d.enterLock side

/-- No handshake within 20 ms of entering TRAIN (R442). -/
def Dev.trainTimeout (d : Dev) (side : Nat) : Dev :=
  if 2 ≤ side ∨ d.stage side ≠ 2 ∨ (d.seamPort side).phase ≠ 0 then d else
  let d := d.advance ((d.seamPort side).trainAt + usCycles 20000)
  (d.seamCode side 0x7001).enterDetect side

/-- After 2 µs of electrical idle both ends send KTS1 at the target rate with TX_PRESET (R443). -/
def Dev.rateIdleEnd (d : Dev) (side : Nat) : Dev :=
  let x := d.seamPort side
  if 2 ≤ side ∨ d.stage side ≠ 2 ∨ x.phase ≠ 1 then d else
  let d := d.advance (x.phaseAt + usCycles 2)
  let d := (d.setFld (R.KSL_PORT_STATUS_RATE side) x.target).updSeam side fun x => { x with phase := 2, phaseAt := d.time, sent := 0, lanes := [] }
  x.order.foldl (fun d i => (d.setPreset (txLane side i) (d.txPreset side)).setFld (R.KSL_LANE_STATUS_BLOCK_LOCK (rxLane side i)) 0) d

/-- A rate fails: it is excluded, unless it is K1, and TRAIN restarts at K1 (R445, R446). -/
def Dev.excludeRate (d : Dev) (side : Nat) : Dev :=
  let r := d.fld (R.KSL_PORT_STATUS_RATE side)
  if r ≤ 1 then d.enterDetect side
  else (d.setFld (Fld.bit (R.KSL_PORT_STATUS_EXCLUDED side) (r - 1)) 1).enterTrain side

/-- Equalisation has not ended 24 ms after the rate change (R445). -/
def Dev.eqTimeout (d : Dev) (side : Nat) : Dev :=
  let x := d.seamPort side
  if 2 ≤ side ∨ d.stage side ≠ 2 ∨ x.phase ≠ 2 ∨ (x.order.all fun i => (x.rx i).eqDone && d.eqOwn side i) then d else
  let d := d.advance (x.phaseAt + usCycles 24000)
  (d.seamErr side R.KSL_EVENTS_EQ_FAIL 0x7002).excludeRate side

/-- LOCK fails (R446): skew beyond 8 ns, LOL, or a code error on a lane. -/
def Dev.lockFail (d : Dev) (side : Nat) : Dev :=
  if 2 ≤ side ∨ d.stage side ≠ 3 then d else (d.seamErr side R.KSL_EVENTS_LOCK_FAIL 0x7003).excludeRate side

/-! ### CAP (R447) -/

/-- The CAP payload of this device. -/
def Dev.capPayload (d : Dev) (side build : Nat) : List Byte :=
  fit 64 (leBytes 1 1 ++ leBytes 1 (d.fld (R.KSL_PORT_STATUS_RATE side) + 16 * d.fld (R.KSL_PORT_STATUS_WIDTH side)) ++ leBytes 1 (d.fld R.KSL_CASCADE_W) ++ leBytes 1 (d.fld R.KSL_CASCADE_E) ++
    leBytes 1 (d.live R.POS_CTRL_ROLE + 128 * d.fld R.POS_STATUS_MASTER) ++ leBytes 1 d.mode.code ++ leBytes 1 (d.fld R.GLB_ID_GRADE) ++ leBytes 1 (d.live R.KSL_CTRL_CASCADE_SIZE) ++
    leBytes 4 d.devicePlace ++ leBytes 4 (d.live R.BLV_DEV_COL_BASE) ++ leBytes 4 d.stitchCols ++ leBytes 4 (d.live R.BLV_CD_PITCH) ++ leBytes 4 (d.live R.BLV_CD_ORIGIN) ++
    leBytes 4 (d.fld R.GLB_EPOCH) ++ leBytes 8 (d.fld R.GLB_FINGERPRINT) ++ leBytes 4 build)

/-- Send CAP on a port. -/
def Dev.sendCap (d : Dev) (side : Nat) : Dev :=
  (d.updSeam side fun x => { x with capAt := d.time }).sendPartner side PT.cap (d.capPayload side d.fwBuild)

/-- The first condition that refuses a partner's CAP, as its code (R447); a PLACE that is no place address is malformed (R5).
Log 253 (DESIGN CHOICE, unsafe). -/
def Dev.capCode (d : Dev) (side : Nat) (bs : List Byte) : Option Nat :=
  let base := leAt bs 12 4
  let cols := leAt bs 16 4
  if leAt bs 8 4 / 2 ^ 22 ≠ d.devicePlace / 2 ^ 22 then some 0x7005
  else if leAt bs 7 1 ≠ d.live R.KSL_CTRL_CASCADE_SIZE ∨ leAt bs 20 4 ≠ d.live R.BLV_CD_PITCH ∨ leAt bs 24 4 ≠ d.live R.BLV_CD_ORIGIN then some 0x7005
  else if (if side = 0 then base + cols ≠ d.live R.BLV_DEV_COL_BASE else d.live R.BLV_DEV_COL_BASE + d.stitchCols ≠ base) then some 0x7005
  else if leAt bs 4 1 % 4 = 1 ∧ d.live R.POS_CTRL_ROLE = 1 then some 0x700E
  else if side = 0 ∧ 8 ≤ leAt bs 2 1 + 1 then some 0x7006
  else none

/-- After 100 µs without error the port enters EXCHANGE and sends its CAP (R446, R447, R456). -/
def Dev.lockHoldDone (d : Dev) (side : Nat) : Dev :=
  if 2 ≤ side ∨ d.stage side ≠ 3 then d else
  let d := d.advance ((d.seamPort side).lockAt + usCycles 100)
  let d := (d.setFld (R.KSL_PORT_STATUS_STAGE side) 4).updSeam side fun x => { x with txSeq := 0, rxSeq := 0, unacked := [], waiting := [], replays := 0, ignoring := false }
  d.sendCap side

/-- Keep what a device says of itself (R463). -/
def Dev.noteDevice (d : Dev) (i epoch fp mode : Nat) (master : Bool) : Dev :=
  if 8 ≤ i then d else
  let d := (((d.setFld (R.KSL_DEV_EPOCH i) epoch).setFld (R.KSL_DEV_FP i) fp).setFld (R.KSL_DEV_STATE_MODE i) mode).setFld (R.KSL_DEV_STATE_VALID i) 1
  { d with masters := d.masters.filter (fun m => m ≠ i) ++ (if master then [i] else []) }

/-- A checked CAP moves the port to ACTIVE, unless fixed positions disagree (R447, R448, R462). Log 159 (DEDUCED, unsafe), 161 (DEDUCED, unsafe). -/
def Dev.capAccept (d : Dev) (side : Nat) (pw : Nat) : Dev :=
  let agrees := !(d.flag R.KSL_CASCADE_FIXED) || (if side = 0 then decide (pw + 1 = d.fld R.KSL_CASCADE_DEVICE) else decide (d.fld R.KSL_CASCADE_W = d.fld R.KSL_CASCADE_DEVICE))
  if !agrees || (d.flag R.KSL_CASCADE_FIXED && (d.seamPort side).held) then (d.updSeam side fun x => { x with held := true }).seamErr side R.KSL_EVENTS_CASCADE_CHANGE 0x700D
  else if d.stage side = 5 then d.recount
  else
    let d := ((d.setFld (R.KSL_PORT_STATUS_STAGE side) 5).setFld (R.KSL_PORT_STATUS_MISMATCH side) 0).raise R.KSL_EVENTS_PORT_UP
    let d := d.updSeam side fun x => { x with lastSent := d.time, held := false }
    let d := if d.mode.framed then d else d.setActive side true
    (d.recount).sendLinkinfo

/-- A partner's CAP (R447). A partner with ROLE = AUTO is master at position 0 alone, whatever its counts said as it sent (R55). -/
def Dev.capReceive (d : Dev) (side : Nat) (bs : List Byte) : Dev :=
  let pw := leAt bs 2 1
  let d := d.updSeam side fun x => { x with pw := pw, pe := leAt bs 3 1, place := leAt bs 8 4 }
  let d := (d.setFld (R.KSL_PORT_STATUS_PARTNER_DEV side) pw).setFlag (R.KSL_PORT_STATUS_PARTNER_MASTER side) (bitOf (leAt bs 4 1) 7)
  let pos := if side = 0 then d.fld R.KSL_CASCADE_W - 1 else d.fld R.KSL_CASCADE_W + 1
  let pos := if d.flag R.KSL_CASCADE_FIXED then leAt bs 8 4 / 2 ^ 19 % 8 else if side = 0 then pw else pos
  let d := (d.noteDevice pos (leAt bs 28 4) (leAt bs 32 8) (leAt bs 5 1) (bitOf (leAt bs 4 1) 7 && decide (pos = 0 ∨ leAt bs 4 1 % 4 = 1))).noteSame
  if d.stage side < 4 then d else
  match d.capCode side bs with
  | none => (d.capAccept side pw).noteReady
  | some code =>
    if d.stage side = 5 then d.recount else
    (((d.updSeam side fun x => { x with held := false }).setFld (R.KSL_PORT_STATUS_MISMATCH side) 1).seamErr side R.KSL_EVENTS_MISMATCH code).noteReady

/-- In DISCOVER a port whose checked CAP waited for it goes on to ACTIVE (R462). Log 161 (DEDUCED, unsafe). -/
def Dev.capHeld (d : Dev) : Dev :=
  [0, 1].foldl (fun d side => if d.stage side = 4 ∧ (d.seamPort side).held then (d.capAccept side (d.seamPort side).pw).noteReady else d) d

/-- Every 10 ms a port in MISMATCH resends its CAP (R447). -/
def Dev.capResend (d : Dev) (side : Nat) : Dev :=
  if 2 ≤ side ∨ d.stage side ≠ 4 ∨ !(d.flag (R.KSL_PORT_STATUS_MISMATCH side)) then d else
  (d.advance ((d.seamPort side).capAt + usCycles 10000)).sendCap side

/-- A write of RETRY clears EXCLUDED and returns a mismatched port to DETECT (R446). -/
def Dev.portRetry (d : Dev) (side : Nat) : Dev :=
  let d := d.setFld (R.KSL_PORT_STATUS_EXCLUDED side) 0
  if d.stage side = 4 ∧ d.flag (R.KSL_PORT_STATUS_MISMATCH side) then d.enterDetect side else d

/-! ### Lanes (R434, R435) -/

/-- The port and the physical lane of a seam receive lane. -/
def seamRxOf (l : Nat) : Option (Nat × Nat) :=
  if 88 ≤ l ∧ l < 96 then some (0, l - 88) else if 104 ≤ l ∧ l < 112 then some (1, l - 104) else none

/-- Is a lane a receive lane (R433). -/
def receiveLane (l : Nat) : Bool := decide (l < 64) || (seamRxOf l).isSome

/-- Is a lane's receiver in DOZE or OFF (R434). -/
def Dev.laneAsleep (d : Dev) (l : Nat) : Bool :=
  match seamRxOf l with
  | some (side, _) => decide (d.fld (R.KSL_PORT_STATUS_RX_PWR side) ≠ 0)
  | none => !(match d.mode with | .discover | .armed | .inspect | .degraded | .calibrate | .replay => true | _ => false)

/-- What a lost lane does to its port (R62, R90, R446, R449). -/
def Dev.laneLost (d : Dev) (l : Nat) (signal : Bool) : Dev :=
  match seamRxOf l with
  | some (side, i) =>
    if !((d.seamPort side).order.contains i) then d
    else if d.stage side = 5 then d.portDown side
    else if d.stage side = 3 ∧ !signal then d.lockFail side else d
  | none =>
    match (List.range 16).find? fun p => (d.mappedLanes p).contains l with
    | some p => if signal then d.camLostSignal p else d.camLostLock p
    | none => d

/-- A receive lane's swing has stayed below squelch for 1 µs (R434). -/
def Dev.laneLos (d : Dev) (l : Nat) : Dev :=
  if !(receiveLane l) ∨ d.laneAsleep l then d else
  let d := ((d.setFld (R.KSL_LANE_STATUS_SIGNAL l) 0).setFld (R.KSL_LANE_STATUS_BIT_LOCK l) 0).setFld (R.KSL_LANE_STATUS_BLOCK_LOCK l) 0
  let side := match seamRxOf l with | some (s, _) => s | none => 0
  ((d.setBit (R.KSL_LANE_EVENTS_LOS l)).seamErr side R.KSL_EVENTS_LANE_LOS 0x700B).laneLost l true

/-- A receive lane loses bit lock, or block lock after so many code errors (R434). -/
def Dev.laneLol (d : Dev) (l : Nat) (bitLock : Bool) (errors : Nat) : Dev :=
  if !(receiveLane l) ∨ d.laneAsleep l then d else
  let d := (d.setFld (R.KSL_LANE_STATUS_BLOCK_LOCK l) 0).bump (R.KSL_LANE_ERR_CNT_CODE_ERR l) errors
  let d := (if bitLock then d.setFld (R.KSL_LANE_STATUS_BIT_LOCK l) 0 else d).bump (R.KSL_LANE_ERR_CNT_LOL_CNT l)
  let side := match seamRxOf l with | some (s, _) => s | none => 0
  ((d.setBit (R.KSL_LANE_EVENTS_LOL l)).seamErr side R.KSL_EVENTS_LANE_LOL 0x700C).laneLost l false

/-- A write of BITSLIP = 1 (R435). Log 160 (DEDUCED, unsafe). -/
def Dev.bitslip (d : Dev) (l : Nat) : Dev :=
  if !(receiveLane l) then d
  else if d.flag (R.KSL_LANE_CFG_ALIGN l) then
    (if d.fld (R.KSL_LANE_SLIP_PENDING l) < 63 then d.incr (R.KSL_LANE_SLIP_PENDING l) else d)
  else (d.setBit (R.KSL_LANE_EVENTS_BITSLIP_IGNORED l)).raise R.KSL_EVENTS_BITSLIP_IGNORED

/-- A queued slip shifts the deserialiser (R435). Log 160 (DEDUCED, unsafe). -/
def Dev.bitslipApply (d : Dev) (l : Nat) : Dev :=
  let n := d.fld (R.KSL_LANE_SLIP_PENDING l)
  if !(receiveLane l) ∨ n = 0 then d else (d.setFld (R.KSL_LANE_SLIP_PENDING l) (n - 1)).incr (R.KSL_LANE_SLIP_SLIPS l)

/-! ### Sleep (R449, R450) -/

/-- DOZE_IDLE_US have passed with only idle to send (R450). -/
def Dev.dozeIdleExpiry (d : Dev) (side : Nat) : Dev :=
  let x := d.seamPort side
  if 2 ≤ side ∨ d.stage side ≠ 5 ∨ !(d.flag (R.KSL_PORT_CFG_DOZE_EN side)) ∨ d.fld (R.KSL_PORT_STATUS_TX_PWR side) ≠ 0 ∨ x.unacked ≠ [] ∨ x.waiting ≠ [] then d else
  (d.advance (x.lastSent + usCycles (max (d.fld (R.KSL_PORT_CFG_DOZE_IDLE_US side)) 1))).dozeTx side

/-- A receiver gets a DOZE set (R450). -/
def Dev.dozeReceive (d : Dev) (side : Nat) : Dev :=
  if 2 ≤ side ∨ d.stage side ≠ 5 ∨ d.fld (R.KSL_PORT_STATUS_RX_PWR side) ≠ 0 then d else
  (d.setFld (R.KSL_PORT_STATUS_RX_PWR side) 1).updSeam side fun x => { x with wakeAt := none }

/-- A dozing receiver detects signal and regains lock on the WAKE sets (R450). -/
def Dev.wakeDetect (d : Dev) (side : Nat) : Dev :=
  if 2 ≤ side ∨ d.fld (R.KSL_PORT_STATUS_RX_PWR side) ≠ 1 then d else
  (d.setFld (R.KSL_PORT_STATUS_RX_PWR side) 0).updSeam side fun x => { x with wakeAt := some d.time }

/-- A receiver fails to regain lock within 10 µs of WAKE (R449). -/
def Dev.wakeLockTimeout (d : Dev) (side : Nat) : Dev :=
  match (d.seamPort side).wakeAt with
  | some t => if 2 ≤ side ∨ d.stage side ≠ 5 then d else (d.advance (t + usCycles 10)).portDown side
  | none => d

/-! ### Receiving packets (R452 to R456) -/

/-- Send an ACK with the highest in-order LSEQ (R456). -/
def Dev.sendAck (d : Dev) (side : Nat) (nak : Bool) : Dev :=
  d.sendPartner side PT.ack (leBytes 2 (d.seamPort side).rxSeq ++ leBytes 2 (b2n nak))

/-- The packet types that go to the partner only (R454). -/
def partnerOnly (t : Nat) : Bool := t = PT.ack || t = PT.cap || t = PT.apron || t = PT.border

/-- Forward a packet that is not, or not only, for this device (R455). -/
def Dev.forward (d : Dev) (side t : Nat) (p : RxPacket) : Dev :=
  let q : Packet := { ptype := t, src := p.src, dst := p.dst, bcast := p.bcast, lseq := 0, hops := (p.hops + 1) % 256, epoch := p.epoch, payload := p.payload }
  if p.bcast then d.sendPacket (1 - side) q
  else if p.dst < d.ownPos then d.sendPacket 0 q else d.sendPacket 1 q

/-- What a port does with a packet before its type matters (R448, R452, R455, R456): framing, CRC, order, acknowledgement, forwarding. Answers
whether this device takes the payload. Log 277 (DEDUCED, unsafe). -/
def Dev.rxPacket (d : Dev) (side t : Nat) (p : RxPacket) : Dev × Bool :=
  if 2 ≤ side ∨ d.stage side < 4 then (d, false)
  else if (d.seamPort side).ignoring && !p.sds then (d, false)
  else if !p.framed then
    let d := ((d.bump (R.KSL_PORT_CNT0_FRAME_ERR side)).seamErr side R.KSL_EVENTS_FRAME_ERR 0x700A).updSeam side fun x => { x with ignoring := true }
    (d.sendAck side true, false)
  else
    let may := d.carries side t
    let d := d.updSeam side fun x => { x with ignoring := false, wakeAt := none }
    let q : Packet := { ptype := t, src := p.src, dst := p.dst, bcast := p.bcast, lseq := p.lseq, hops := p.hops, epoch := p.epoch, payload := p.payload }
    let d := d.incr (R.KSL_PORT_RX_BYTES side) q.size
    let next := ((d.seamPort side).rxSeq + 1) % 65536
    if !may then (d, false)
    else if reliable t then
      if !p.crcOk then (d.sendAck side true, false)
      else if p.lseq = next then
        let d := (d.updSeam side fun x => { x with rxSeq := next }).sendAck side false
        let mine := partnerOnly t || p.bcast || decide (p.dst = d.ownPos)
        (if partnerOnly t || (!p.bcast && mine) then d else d.forward side t p, mine)
      else if (next + 65535 - p.lseq) % 65536 < 32768 then (d.sendAck side false, false)
      else (d.sendAck side true, false)
    else if !p.crcOk then ((d.bump (R.KSL_PORT_CNT0_CRC_ERR side)).seamErr side R.KSL_EVENTS_CRC_ERR 0x7008, false)
    else
      let mine := partnerOnly t || p.bcast || decide (p.dst = d.ownPos)
      (if partnerOnly t || (!p.bcast && mine) then d else d.forward side t p, mine)

/-- Send every unacknowledged packet again (R456). -/
def Dev.replayAll (d : Dev) (side : Nat) : Dev :=
  let x := d.seamPort side
  if x.unacked = [] then d else
  let d := (d.bump (R.KSL_PORT_CNT1_REPLAY_CNT side)).updSeam side fun x => { x with replays := x.replays + 1, unacked := x.unacked.map fun u => (u.1, d.time) }
  x.unacked.foldl (fun d u => d.putOut side u.1) d

/-- A NAK, or 20 µs without acknowledgement (R456): a replay, or REPLAY_FAIL for a packet already replayed 16 times; with the transmitter held in DOZE
packets wait (R450). Log 156 (DEDUCED, unsafe). -/
def Dev.replay (d : Dev) (side : Nat) : Dev :=
  let x := d.seamPort side
  if x.unacked = [] ∨ d.fld (R.KSL_PORT_POWER_TX_FORCE side) = 1 then d
  else if 16 ≤ x.replays then (d.seamErr side R.KSL_EVENTS_REPLAY_FAIL 0x7009).portDown side else d.replayAll side

/-- An ACK releases acknowledged packets; a NAK replays the others (R456). Log 156 (DEDUCED, unsafe). -/
def Dev.ackReceive (d : Dev) (side lseq : Nat) (nak : Bool) : Dev :=
  let x := d.seamPort side
  let left := x.unacked.filter fun u => decide (32768 ≤ (lseq + 65536 - u.1.lseq) % 65536)
  let d := d.setSeamPort side { x with unacked := left, replays := if left.length < x.unacked.length then 0 else x.replays }
  let d := if nak then d.replay side else d
  d.flushWaiting side

/-- 20 µs have passed since the oldest unacknowledged packet was sent (R456). Log 156 (DEDUCED, unsafe). -/
def Dev.replayTimeout (d : Dev) (side : Nat) : Dev :=
  let x := d.seamPort side
  match x.unacked with
  | [] => d
  | u :: _ =>
    if 2 ≤ side then d else
    (d.advance (u.2 + usCycles 20)).replay side

/-- Take a LINKINFO (R460, R463); one whose PLACE is an address of type 3 is malformed (R5). Log 161 (DEDUCED, unsafe), 253 (DESIGN CHOICE, unsafe). -/
def Dev.linkinfoReceive (d : Dev) (side hops : Nat) (bs : List Byte) : Dev × Bool :=
  if leAt bs 24 4 / 2 ^ 30 = 3 then (d.seamErr side R.KSL_EVENTS_FRAME_ERR 0x700A, false) else
  let o := leAt bs 0 1
  let master := bitOf (leAt bs 4 1) 1
  let d := (d.noteDevice o (leAt bs 8 4) (leAt bs 16 8) (leAt bs 3 1) master).noteSame
  let d := if hops = 0 then
      let d := d.updSeam side fun x => { x with pw := leAt bs 1 1, pe := leAt bs 2 1, place := leAt bs 24 4 }
      ((d.setFld (R.KSL_PORT_STATUS_PARTNER_DEV side) (if side = 0 then o else leAt bs 1 1)).setFlag (R.KSL_PORT_STATUS_PARTNER_MASTER side) master).recount
    else d.noteReady
  (d, master && decide (leAt bs 3 1 = 6 ∨ leAt bs 3 1 = 7))

/-- The message that a POS payload carries (R458). -/
def posMsgOf (bs : List Byte) : PosMsg :=
  { seq := leAt bs 0 2, wpos := leAtI bs 8 8, md := leAtI bs 16 8, hwm := leAtI bs 24 8, speed := leAtI bs 4 4, grid := leAtI bs 32 8, lines := leAt bs 40 8, form := { invert := bitOf (leAt bs 2 2) 3, scale := leAt bs 48 8, offset := leAtI bs 56 8 } }

/-- The POS payload of this cycle (R56, R458). -/
def Dev.posPayload (d : Dev) (seq : Nat) : List Byte :=
  let flags := d.fld R.POS_STATUS_MOVING + 2 * d.fld R.POS_STATUS_REVERSE + 4 * d.fld R.POS_STATUS_POS_LOST + 8 * b2n d.dirInvert + 16 * d.fld R.POS_STATUS_HOLDOVER
  leBytes 2 seq ++ leBytes 2 flags ++ leBytes 4 (speedShown d.pos.speed) ++ leInt 8 d.pos.wpos ++ leInt 8 d.pos.md ++ leInt 8 d.pos.hwm ++ leInt 8 d.pos.gridOrigin ++ leBytes 8 d.pos.linesPassed ++ leBytes 8 (d.live R.POS_SCALE) ++ leInt 8 d.offsetNow

/-- The apron row that an APRON payload carries, with the side it comes from (R159). -/
def apronOf (bs : List Byte) : ApronRow :=
  let layers := leAt bs 12 1
  let fmt := leAt bs 13 1
  let row := (List.range 4).foldl (fun (acc : List (Nat × List Nat) × List Byte) k =>
    if bitOf layers k then
      let b := if bitOf fmt k then 2 else 1
      (acc.1 ++ [(k, (List.range 64).map fun i => leAt acc.2 (i * b) b)], acc.2.drop (64 * b))
    else acc) ([], bs.drop 16)
  { line := leAt bs 0 8, epoch := leAt bs 8 4, layers := row.1 }

/-- Send the aprons of a merged row to the Active partners (R159). -/
def Dev.sendAprons (d : Dev) (l epoch : Nat) : Dev :=
  [0, 1].foldl (fun d side =>
    if !(d.sideActive side) then d else
    let c := if side = 0 then 0 else d.stitchCols - 64
    let on := d.layersOn
    let head := leBytes 8 l ++ leBytes 4 epoch ++ leBytes 1 (on.foldl (fun m k => m + 2 ^ k) 0) ++ leBytes 1 (on.foldl (fun m k => m + (if d.bpp k = 2 then 2 ^ k else 0)) 0) ++ leBytes 1 side ++ [0]
    d.sendPartner side PT.apron (head ++ on.flatMap fun k => (d.attStored k l c 64).flatMap (leBytes (d.bpp k)))) d

/-- A port that is in ACTIVE becomes Active at a boundary (R448). -/
def Dev.portsActiveAtBoundary (d : Dev) : Dev :=
  [0, 1].foldl (fun d side => if d.stage side = 5 ∧ !(d.sideActive side) then d.setActive side true else d) d

end Sys2Proof.Machine
end

