-- ==== Sys2Proof/Machine/Checks.lean ====
section
/-!
DEFINITION. The seal checks of the camera ports (R89), the correction pipelines (R126) and the Boulevard (R164, R188, R261).  `g` reads a field and
`tap` a TAP word of the seal image (R485).
-/
namespace Sys2Proof.Machine

/-! ### Camera ports (R89) -/

/-- The valid bits of the eight lane positions of a port, and their lanes (R61). -/
def lanePos (g : Fld → Nat) (p k : Nat) : Bool × Nat :=
  let w := g (if k < 4 then R.CAM_LANE_MAP0 p else R.CAM_LANE_MAP1 p)
  (bitOf w (k % 4 * 8 + 7), bits w (k % 4 * 8) 6)

/-- The lanes of a port. -/
def lanesOf (g : Fld → Nat) (p : Nat) : List Nat := (List.range 8).filterMap fun k => if (lanePos g p k).1 then some (lanePos g p k).2 else none

/-- Do the taps of a CLG port fit its CONFIG (R70). -/
def clgTapsOk (config fmt taps : Nat) : Bool :=
  let most (a b c d : Nat) : Nat := [a, b, c, d].getD config 0
  match fmt with
  | 0 => decide (1 ≤ taps ∧ taps ≤ most 3 6 8 10)
  | 1 => decide (1 ≤ taps ∧ taps ≤ most 2 4 0 8)
  | 2 => decide (1 ≤ taps ∧ taps ≤ most 2 4 0 0)
  | 5 => decide (config = 0 ∧ taps = 3)
  | _ => false

/-- FIELDS of a port under a configuration. -/
def fieldsIn (g : Fld → Nat) (p : Nat) : Nat := if p < 16 then g (R.CAM_CTRL_FIELDS p) + 1 else 1

/-- The load of a role (R84) times 12, which the fields divide; a LINE_RATE_MAX of 0 acts as 1. -/
def roleLoad12 (g : Fld → Nat) (r : Nat) : Nat :=
  (((streamsOf g).filter fun s => s.role = r).map fun s => s.comps * s.width * max (g (portFld R.CAM_LINE_RATE_MAX R.CLG_LINE_RATE_MAX s.port)) 1 * (12 / fieldsIn g s.port)).sum

/-- The first check of R89 that the image fails: the first port that breaks it, and the code. Log 60 (DEDUCED, unsafe), 180 (DESIGN CHOICE, unsafe). -/
def camDiag (g : Fld → Nat) (installed : Nat) : Option (Nat × Nat) :=
  let on := (List.range 20).filter fun p => g (portEnable p) ≠ 0
  let cam (p : Nat) : Bool := decide (p < 16)
  let fmt (p : Nat) : Nat := g (portFld R.CAM_CTRL_PIX_FMT R.CLG_CTRL_PIX_FMT p)
  let width (p : Nat) : Nat := g (portFld R.CAM_WIDTH R.CLG_WIDTH p)
  let ss := streamsOf g
  let secs : List (Nat × Dest) := on.flatMap fun p => ((destsOf g p).filter fun x => x.mode = 2).map fun x => (p, x)
  let bad (code : Nat) (f : Nat → Bool) : Option (Nat × Nat) := (on.find? f).map fun p => (p, code)
  [bad 0x4002 fun p => cam p && (on.filter cam).any fun q => decide (q < p) && (lanesOf g p).any fun l => (lanesOf g q).contains l,
    bad 0x4003 fun p => cam p && (let n := (lanesOf g p).length; decide (n = 0) || !((List.range n).all fun k => (lanePos g p k).1)),
    bad 0x4004 fun p => decide (8 ≤ fmt p) || (decide (16 ≤ p) && !(clgTapsOk (g (R.CLG_CTRL_CONFIG (p - 16))) (fmt p) (g (R.CLG_CTRL_TAPS (p - 16))))),
    bad 0x4005 fun p => decide (width p % 4 ≠ 0) || decide (width p < 64) || decide ((if bondedOf g p then 65536 else 32768) < width p) || (decide (16 ≤ p) && decide (width p % max (g (R.CLG_CTRL_TAPS (p - 16))) 1 ≠ 0)),
    bad 0x4006 fun p => ss.any fun s => decide (s.port = p) && decide (12 * pipeRate < roleLoad12 g s.role),
    bad 0x4007 fun p =>
      (ss.any fun s => decide (s.port = p) && s.primary && decide (2 ≤ (ss.filter fun t => t.primary && decide (t.role = s.role)).length)) ||
      (secs.any fun x => decide (x.1 = p) && (decide (4 ≤ (secs.filter fun y => y.2.role = x.2.role).length) || decide (x.2.num < 16) || decide (47 < x.2.num) || decide (2 ≤ (secs.filter fun y => y.2.num = x.2.num).length))) ||
      (cam p && [1, 2, 3].any fun k => decide (g (R.CAM_STREAM_DEST_MODE p k) = 1)),
    bad 0x4008 fun p => cam p && bondedOf g p && (decide (fieldsIn g p ≠ 1) || decide (g (R.CAM_STREAM_DEST_MODE p 0) ≠ 1) || decide (g (R.CAM_CTRL_ENABLE (p + 1)) ≠ 0)),
    bad 0x400F fun p => decide (usCycles 1000 < midCycles (g (portFld R.CAM_SHD_TRG_DELAY R.CLG_SHD_TRG_DELAY p)) (g (portFld R.CAM_SHD_EXPOSURE R.CLG_SHD_EXPOSURE p))),
    bad 0x4011 fun p => decide (g (portFld R.CAM_LAT_MAX R.CLG_LAT_MAX p) < g (portFld R.CAM_LAT_MIN R.CLG_LAT_MIN p)),
    bad 0x4012 fun p => secs.any fun x => decide (x.1 = p) && decide (installed < x.2.base + x.2.lines * slotBytes (width p))].findSome? id

/-! ### Correction pipelines (R126) -/

/-- The stream that a channel of a role names. -/
def chanStream (g : Fld → Nat) (r c : Nat) : Option StreamInfo := (streamsOf g).find? fun s => s.num = g (R.STR_CH_CFG_STREAM r c)

/-- The first check of R126 that an enabled role fails, and its channel. Log 180 (DESIGN CHOICE, unsafe). -/
def corDiag (g : Fld → Nat) (r : Nat) : Option (Nat × Nat) :=
  if g (R.STR_COR_CTRL_ENABLE r) = 0 then none else
  let on := (List.range 4).filter fun c => g (R.STR_CH_CFG_ENABLE r c) ≠ 0
  let cols := g (R.STR_BAND_COLS r)
  let sub := cols * 2 ^ g (R.STR_COR_CTRL_BIN_LOG2 r)
  let stream (c : Nat) : Nat := g (R.STR_CH_CFG_STREAM r c)
  let comps (c : Nat) : Nat := match chanStream g r c with | some s => s.comps | none => 1
  let width (c : Nat) : Nat := match chanStream g r c with | some s => s.width | none => 0
  let routed := (streamsOf g).filter fun s => s.role = r
  let at_ (check : Nat) (p : Nat → Bool) : Option (Nat × Nat) := (on.find? p).map fun c => (check, c)
  let whole (check : Nat) (b : Bool) : Option (Nat × Nat) := if b then some (check, 0) else none
  ([at_ 1 fun c => decide (32768 < g (R.STR_CH_SRC_BASE r c) + comps c * width c),
    at_ 2 fun c => decide (65536 < g (R.STR_CH_REMAP_BASE r c) + sub),
    whole 3 (decide (cols % 4 ≠ 0) || decide (cols < 16) || decide (32768 < cols)),
    whole 4 (decide (g (R.STR_COR_CTRL_BIN_LOG2 r) = 3)),
    whole 5 (decide (65536 < srcTotal g r)),
    at_ 6 fun c => !(routed.any fun s => s.num = stream c) || on.any fun e => decide (e < c) && decide (stream e = stream c),
    whole 6 (routed.any fun s => !(on.any fun c => stream c = s.num)),
    whole 7 (decide (pipeRate < (on.map fun c => comps c * sub * g (R.STR_OUT_RATE_MAX r)).sum)),
    at_ 8 fun c => decide (sub ≤ g (R.STR_CH_CENTRE r c))] : List (Option (Nat × Nat))).findSome? id

/-! ### The Boulevard (R164, R188, R261) -/

/-- BAND_START of a role under a configuration. -/
def bandStartIn (g : Fld → Nat) (r : Nat) : Int := sx (R.BLV_BAND_START r).w (g (R.BLV_BAND_START r))

/-- The roles that the image waits for: enabled, with a band that meets the frame (R138). Log 181 (DEDUCED, unsafe). -/
def waitedIn (g : Fld → Nat) : List Nat :=
  (List.range 16).filter fun r => decide (g (R.STR_COR_CTRL_ENABLE r) ≠ 0) && decide (bandStartIn g r < g R.BLV_STITCH_COLS) && decide (0 ≤ bandStartIn g r + g (R.STR_BAND_COLS r) - 1)

/-- The largest OUT_RATE_MAX of the waited-for roles (R161). -/
def rateIn (g : Fld → Nat) : Nat := (waitedIn g).foldl (fun m r => max m (g (R.STR_OUT_RATE_MAX r))) 0

/-- Put a role among roles in the order of their owned columns. -/
def putByColumn (g : Fld → Nat) (r : Nat) : List Nat → List Nat
  | [] => [r]
  | x :: xs => if g (R.BLV_OWN_START r) ≤ g (R.BLV_OWN_START x) then r :: x :: xs else x :: putByColumn g r xs

/-- The roles in the order of their owned columns. -/
def byColumn (g : Fld → Nat) (rs : List Nat) : List Nat := rs.foldr (putByColumn g) []

/-- The first role, in the order of columns, whose owned range does not join the one before it, or the last one where the
ranges do not end with the frame (R146); role 0 where the frame has none. -/
def untiled (g : Fld → Nat) : Nat → Nat → List Nat → Option Nat
  | c, last, [] => if c = g R.BLV_STITCH_COLS then none else some last
  | c, _, r :: rs => if g (R.BLV_OWN_START r) = c ∧ c ≤ g (R.BLV_OWN_END r) then untiled g (g (R.BLV_OWN_END r) + 1) r rs else some r

/-- Is the odd half of a bonded pair. -/
def bondedOddIn (g : Fld → Nat) (r : Nat) : Bool := decide (r % 2 = 1) && bondedOf g (r - 1) && decide (g (portEnable (r - 1)) ≠ 0)

/-- The extents of the waited-for bands with their roles, a bonded pair as one (R135). -/
def extentsIn (g : Fld → Nat) : List (Nat × Int × Int) :=
  let ws := waitedIn g
  ws.filterMap fun r =>
    let lo := bandStartIn g r
    let hi := lo + g (R.STR_BAND_COLS r) - 1
    if bondedOddIn g r ∧ ws.contains (r - 1) then none
    else if bondedOddIn g (r + 1) ∧ ws.contains (r + 1) then
      some (r, min lo (bandStartIn g (r + 1)), max hi (bandStartIn g (r + 1) + g (R.STR_BAND_COLS (r + 1)) - 1))
    else some (r, lo, hi)

/-- DLY_MAX_LINES of a role under a configuration and its taps (R117). -/
def dlyLinesIn (g : Fld → Nat) (tap : Nat → Nat) (r : Nat) : Nat :=
  let pitch := max (g R.POS_OUT_PITCH) 1
  ((List.range 4).map fun c =>
    if g (R.STR_CH_CFG_ENABLE r c) = 0 then 0 else
    match chanStream g r c with
    | some s => dlyMaxLines ((List.range (s.comps * s.width)).foldl (fun m j => max m (dlyPu (sx 16 (bits (tap (srcAddr r (g (R.STR_CH_SRC_BASE r c) + j) + 4)) 0 16)) pitch).toNat) 0) pitch
    | none => 0).foldl max 0

/-- The layout fields of check 10, with the role or layer that each belongs to. -/
def layoutFields : List (Nat × Nat × Fld) :=
  [R.BLV_STITCH_COLS, R.BLV_DEV_COL_BASE, R.BLV_CD_ORIGIN, R.BLV_CD_PITCH, R.BLV_ATT_BASE, R.BLV_ATT_TAG_BASE, R.BLV_ATT_CFG_ROWS_LOG2].map (fun f => (0, 0, f)) ++
  (List.range 4).flatMap (fun k => [(0, k, R.BLV_LAYER_CFG_ENABLE k), (0, k, R.BLV_LAYER_CFG_FMT k)]) ++ (List.range 16).flatMap fun r => [(r, 0, R.BLV_OWN_START r), (r, 0, R.BLV_OWN_END r)]

/-- Check 10: the first layout field that differs from its live value. -/
def layoutBad (g live : Fld → Nat) : Option (Nat × Nat × Nat) :=
  (layoutFields.find? fun x => g x.2.2 ≠ live x.2.2).map fun x => (10, x.1, x.2.1)

/-- Is the Attic of an image outside R151: rings above 4 GiB, rings or tag table outside installed DRAM, or the table over a ring. -/
def atticBad (g : Fld → Nat) (installed : Nat) : Bool :=
  let on := (List.range 4).filter fun k => g (R.BLV_LAYER_CFG_ENABLE k) ≠ 0
  let size := (on.map fun k => pitchOfLayer g k * attRows g).sum
  let tag := attTagBase g
  let tagLen := 16 * attRows g
  decide (2 ^ 32 < size) || decide (installed < attBase g + size) || decide (installed < tag + tagLen) || (decide (tag < attBase g + size) && decide (attBase g < tag + tagLen))

/-- The first check of the Boulevard that the image fails, with its role and its layer; `frozen` says whether INSPECT, DEGRADED or CALIBRATE is
live, `live` reads live fields. Log 180 (DESIGN CHOICE, unsafe), 181 (DEDUCED, unsafe). -/
def blvDiag (g live : Fld → Nat) (tap : Nat → Nat) (installed : Nat) (frozen : Bool) : Option (Nat × Nat × Nat) :=
  let on := decide (g R.BLV_CTRL_ENABLE ≠ 0)
  let ws := waitedIn g
  let cols := g R.BLV_STITCH_COLS
  let layers := (List.range 4).filter fun k => g (R.BLV_LAYER_CFG_ENABLE k) ≠ 0
  let role (check : Nat) (rs : List Nat) (p : Nat → Bool) : Option (Nat × Nat × Nat) := (rs.find? p).map fun r => (check, r, 0)
  let whole (check : Nat) (b : Bool) : Option (Nat × Nat × Nat) := if b then some (check, 0, 0) else none
  let run (x : Option (Nat × Nat × Nat)) : Option (Nat × Nat × Nat) := if on then x else none
  let own (r : Nat) : Int := (g (R.BLV_OWN_END r) : Int) - g (R.BLV_OWN_START r) + 1
  let ext := extentsIn g
  let source (r k : Nat) : Option (Nat × Nat) := let w := g (R.BLV_LAYER_SRC r); if bitOf w (7 * k + 4) then some (bits w (7 * k) 2, bits w (7 * k + 2) 2) else none
  let srcBad (r k : Nat) : Bool := match source r k with
    | some (c, comp) => decide (g (R.STR_CH_CFG_ENABLE r c) = 0) || decide ((match chanStream g r c with | some s => s.comps | none => 1) ≤ comp)
    | none => false
  let badSources : List (Nat × Nat) := (List.range 16).flatMap fun r => ((List.range 4).filter fun k => srcBad r k).map fun k => (r, k)
  ([run (whole 1 (decide (cols < 64) || decide (262144 < cols) || decide (cols % 4 ≠ 0))),
    run ((untiled g 0 0 (byColumn g ws)).map fun r => (2, r, 0)),
    run (role 3 ws fun r => decide (own r < 64) || decide (32768 < own r)),
    run ((ext.find? fun x => decide (3 ≤ (ext.filter fun y => decide (y.2.1 ≤ max x.2.1 0) && decide (max x.2.1 0 ≤ y.2.2)).length)).map fun x => (4, x.1, 0)),
    run (role 5 (List.range 16) fun r => bondedOddIn g r && decide (bandStartIn g r ≠ bandStartIn g (r - 1))),
    run (badSources.head?.map fun x => (6, x.1, x.2)),
    run (whole 7 (decide ((if Config.grade12 then 48000000000 else 40000000000) < layers.length * cols * rateIn g))),
    run (whole 8 (atticBad g installed || decide (g R.BLV_ATT_CFG_ROWS_LOG2 < 8) || decide (16 < g R.BLV_ATT_CFG_ROWS_LOG2) || decide (attRows g / 2 < g R.BLV_ATT_CFG_ATT_GUARD))),
    run (role 9 ws fun r => decide (g R.BLV_MERGE_CFG < min (g (R.STR_RS_CFG_RS_HOLD r)) 64 + dlyLinesIn g tap r + 1)),
    if frozen then layoutBad g live else none,
    run (whole 11 (decide (2097152 < g R.BLV_DEV_COL_BASE + cols))),
    ((List.range 4).find? fun k => bitOf (g R.BLV_PRF_CTRL_PRF_EN) k && !(layers.contains k)).map fun k => (12, 0, k),
    whole 13 (decide (256000000 < g R.BLV_REC_SEAM * rateIn g)),
    run (whole 14 (decide (256000000 < max (g R.BLV_APRON_WAIT) 1 * rateIn g)))] : List (Option (Nat × Nat × Nat))).findSome? id

end Sys2Proof.Machine
end

