-- ==== Sys2Proof/Machine/Subs.lean ====
section
/-!
DEFINITION. Subscriptions and row copies (chapter 12): posted buffers, the record spool, image, profile and preview deliveries, IDENTIFY,
CROP_READ and ATTIC_EXPORT.
-/
namespace Sys2Proof.Machine

/-! ### Subscriptions (R375, R376, R380) -/

/-- The subscriptions of a kind. -/
def Dev.subsOf (d : Dev) (op : Nat) : List (Nat × Ctx) := d.ctxList.filter fun x => decide (x.2.st = 3) && decide (x.2.cmd.op = op)

/-- A command becomes a subscription, unless the device holds as many as it may (R375). -/
def Dev.subStart (d : Dev) (c : HostCmd) (limit : Nat) (f : Ctx → Ctx) : Dev :=
  if limit ≤ (d.subsOf c.op).length then d.finish c 0x100A 0 0 else
  match c.ctx with
  | none => d
  | some x => (d.updCtx x fun y => f { y with st := 3 }).started c

/-- The BUFFER entry of a buffer (R376, R380). -/
def Dev.bufEntry (d : Dev) (x : Nat) (b : PostBuf) (status : Nat) : Dev :=
  d.cqPut (d.cqOf b.sq) { result := if status = 0 then b.used else 0, detail := if status = 0 then b.items else 0, head := 0, sqId := 0xFFFF, cid := b.cid, status := status, ctx := ctxWord (some x), kind := 1, holds := some x }

/-- The first posted buffer of a subscription completes. -/
def Dev.bufDone (d : Dev) (x : Nat) : Dev :=
  match d.ctx x with
  | none => d
  | some y => match y.bufs with
    | [] => d
    | b :: rest => (d.setCtx x (some { y with bufs := rest })).bufEntry x b 0

/-- Write an item into the first posted buffer, passing over one that has too little room left. Answers whether it was written. The buffer
completes when another item of length `next` would not fit. Log 136 (DEDUCED, unsafe). -/
def Dev.deliverItem (d : Dev) (x : Nat) (item : List Byte) (next : Nat) : Dev × Bool :=
  match d.ctx x with
  | none => (d, false)
  | some y0 =>
    let d := match y0.bufs with | b :: _ => if b.len < b.used + item.length ∧ b.used ≠ 0 then d.bufDone x else d | [] => d
    match d.ctx x with
    | none => (d, false)
    | some y => match y.bufs with
      | [] => (d, false)
      | b :: rest =>
        if b.len < b.used + item.length ∨ !(d.busMaster y.cmd.fn) then (d, false) else
        let d := d.emit (.hostWrite y.cmd.fn (b.addr + b.used) item)
        let b' := { b with used := b.used + item.length, items := b.items + 1, firstAt := if b.items = 0 then d.time else b.firstAt }
        let d := d.setCtx x (some { y with bufs := b' :: rest, done := y.done + 1 })
        (if b'.len < b'.used + next then d.bufDone x else d, true)

/-- A subscription ends (R380): a partly filled buffer completes, the others are ABORTED, then the FINAL entry. -/
def Dev.subEnd (d : Dev) (x : Nat) : Dev :=
  match d.ctx x with
  | none => d
  | some y =>
    let d := y.bufs.foldl (fun d b => d.bufEntry x b (if b.used = 0 then 0x100D else 0)) (d.setCtx x (some { y with bufs := [] }))
    d.finish y.cmd 0 y.done 0

/-- Bytes of an image row as R379 lays it out. -/
def rowSize (cols bpp : Nat) : Nat := 64 + (cols * bpp + 63) / 64 * 64

/-- Buffers of a subscription in use: posted ones, and those whose entry waits (R361, R375). -/
def Dev.bufsInUse (d : Dev) (x : Nat) (y : Ctx) : Nat :=
  y.bufs.length + (d.host.queues.map fun q => (q.2.waiting.filter fun e => e.holds = some x).length).sum

/-- The least bytes of a profile line of the subscribed layers. -/
def Dev.profileSize (d : Dev) : Nat :=
  let g := 2 ^ min (d.live R.BLV_PRF_CTRL_CD_BIN_LOG2) 6
  64 + (2 * ((d.stitchCols + g - 1) / g) + 63) / 64 * 64

/-- Does a buffer length suit a subscription (R376). -/
def Dev.bufFits (d : Dev) (y : Ctx) (len : Nat) : Bool :=
  match y.cmd.op with
  | 0x20 => decide (4096 ≤ len) && decide (len ≤ 0x4000000) && decide (len % 4096 = 0)
  | 0x21 => let (w, h) := d.galSize; decide (64 + w * h * 4 ≤ len)
  | 0x23 => decide (d.profileSize ≤ len)
  | _ => decide (rowSize (y.keep.getD 3 0 + 1 - y.keep.getD 2 0) (d.bpp (y.keep.getD 0 0)) ≤ len)

/-- The POST_BUFFER command (R375, R376). Log 132 (DEDUCED, unsafe), 134 (DEDUCED, unsafe). -/
def Dev.postBuffer (d : Dev) (q : Nat) : Dev :=
  d.startCmd q 0x24 noBad noBuf fun c d =>
    let x := c.argAt 0 2
    match d.ctx x with
    | none => d.finish c 0x100B 0 0
    | some y =>
      if y.st ≠ 3 ∨ y.cmd.fn ≠ c.fn then d.finish c 0x100B 0 0
      else if !d.bufFits y c.len then d.finish c 0x100C 0 0
      else if 1024 ≤ d.bufsInUse x y then d.finish c 0x100B 0 0
      else d.setCtx x (some { y with bufs := y.bufs ++ [{ cid := c.cid, sq := q, addr := c.addr, len := c.len }] })

/-- The UNSUBSCRIBE command (R380). -/
def Dev.unsubscribe (d : Dev) (q : Nat) : Dev :=
  d.startCmd q 0x25 noBad noBuf fun c d =>
    let x := c.argAt 0 2
    match d.ctx x with
    | none => d.finish c 0x1006 0 0
    | some y => if y.st ≠ 3 ∨ y.cmd.fn ≠ c.fn then d.finish c 0x1006 0 0 else (d.subEnd x).finish c 0 y.done 0

/-! ### The spool and the records subscription (R377, R378) -/

/-- Records that the spool holds when full. -/
def Dev.spoolCap (d : Dev) : Nat := d.fld R.GLB_SPOOL_SIZE * 65536 / 128

/-- The address of the `i`-th record ever put into the spool. -/
def Dev.spoolAddr (d : Dev) (i : Nat) : Nat := d.fld R.GLB_SPOOL_BASE / 0x10000 * 0x10000 + i % max d.spoolCap 1 * 128

def Dev.spoolLevel (d : Dev) : Dev := d.setFld R.GLB_SPOOL_LEVEL d.host.spool.length

/-- Take the oldest record out of the spool. -/
def Dev.spoolDrop (d : Dev) : Dev := (d.setHost fun h => { h with spool := h.spool.drop 1, spoolOut := h.spoolOut + 1 }).spoolLevel

/-- Discard the oldest record of the spool that is not a LOST record, as a drop by delivery (R256, R377); LOST records before it move up.
Log 262 (DEDUCED, unsafe). -/
def Dev.spoolDiscard (d : Dev) : Option Dev :=
  let before := d.host.spool.takeWhile fun r => r.ty = tyLost
  match d.host.spool.drop before.length with
  | [] => none
  | old :: rest =>
    let d := (d.setHost fun h => { h with spool := before ++ rest, spoolOut := h.spoolOut + 1 }).spoolLevel
    let d := before.zipIdx.foldl (fun d r => d.dramWrite (d.spoolAddr (d.host.spoolOut + r.2)) r.1.bytes) d
    some (d.recDrop 1 old)

/-- The record at the head of the FIFO moves to the spool (R377). Log 262 (DEDUCED, unsafe). -/
def Dev.recordSpool (d : Dev) : Dev :=
  let cap := d.spoolCap
  if cap = 0 then d else
  match d.recs.fifo with
  | [] => d
  | _ :: _ =>
    let full := decide (cap ≤ d.host.spool.length)
    let room := if !full then some d else if d.flag R.GLB_HOST_CTRL_SPOOL_POLICY then d.spoolDiscard else none
    match room.bind Dev.fifoTake with
    | none => d
    | some (r, d) =>
      let d := d.dramWrite (d.spoolAddr (d.host.spoolOut + d.host.spool.length)) r.bytes
      let d := (d.setHost fun h => { h with spool := h.spool ++ [r] }).spoolLevel
      if cap ≤ d.host.spool.length then d.hostRaise R.GLB_HOST_EVENTS_SPOOL_FULL else d

/-- A record moves into a posted buffer of the records subscription: from the spool, or from the FIFO where there is no spool (R377). -/
def Dev.recordDeliver (d : Dev) : Dev :=
  match d.subsOf 0x20 with
  | [] => d
  | (x, _) :: _ =>
    if d.spoolCap = 0 then
      match d.recs.fifo with
      | [] => d
      | r :: _ =>
        let z := d.deliverItem x r.bytes 128
        if z.2 then (match z.1.fifoTake with | some q => q.2 | none => z.1) else z.1
    else
      match d.host.spool with
      | [] => d
      | _ :: _ =>
        let l := d.dramLoad (d.spoolAddr d.host.spoolOut) 128
        let z := l.2.deliverItem x l.1 128
        if z.2 then z.1.spoolDrop else z.1

/-- FLUSH_US pass after a buffer's first record (R376). -/
def Dev.recordFlush (d : Dev) : Dev :=
  match d.subsOf 0x20 with
  | [] => d
  | (x, y) :: _ => match y.bufs with
    | [] => d
    | b :: _ => if b.items = 0 then d else (d.advance (b.firstAt + usCycles (y.cmd.specAt 0 4))).bufDone x

/-- The SUBSCRIBE_RECORDS command (R378). -/
def Dev.subscribeRecords (d : Dev) (q : Nat) : Dev :=
  d.startCmd q 0x20 (fun c => decide (c.specAt 0 4 < 1) || decide (1000000 < c.specAt 0 4) || decide (1 < c.specAt 4 1)) noBuf fun c d =>
    if !(d.subsOf 0x20).isEmpty then d.finish c 0x100A 0 0 else
    let n := d.host.spool.length
    let d := if c.specAt 4 1 = 1 then
        ((d.setHost fun h => { h with spool := [], spoolOut := h.spoolOut + n }).spoolLevel).bump R.GLB_SPOOL_DISCARD_CNT n
      else d
    d.subStart c 1 id

/-! ### Previews and profile lines -/

/-- The SUBSCRIBE_PREVIEW command (R352): with no panel in video, composition starts with it (R353). -/
def Dev.subscribePreview (d : Dev) (q : Nat) : Dev :=
  d.startCmd q 0x21 noBad noBuf fun c d =>
    let start := (d.subsOf 0x21).isEmpty && !d.galTiming
    let d := d.subStart c 1 id
    if start then d.setGal fun g => { g with frames := 0, blankAt := d.time } else d

/-- Does composition run without a panel (R352). -/
def Dev.composing (d : Dev) : Bool := !(d.subsOf 0x21).isEmpty

/-- A preview frame goes to the host, one frame in a buffer, or is dropped (R352). -/
def Dev.previewOut (d : Dev) (frame : List Byte) : Dev :=
  match d.subsOf 0x21 with
  | [] => d
  | (x, _) :: _ => let (d, ok) := d.deliverItem x frame (2 ^ 64); if ok then d else d.previewDrop

/-- The SUBSCRIBE_PROFILE command (R186). -/
def Dev.subscribeProfile (d : Dev) (q : Nat) : Dev :=
  d.startCmd q 0x23 (fun c => decide (16 ≤ c.specAt 0 1)) noBuf fun c d => d.subStart c 1 fun y => { y with keep := [c.specAt 0 1] }

/-- A profile line is complete: it goes to the Gallery, and into a buffer posted for its layer; with none it is dropped for the
host (R186). Log 68 (DEDUCED, unsafe). -/
def Dev.profileOut (d : Dev) (o : PrfOut) (line : List Byte) : Dev :=
  let d := d.galProfile o.layer line
  let (d, ok) := match (d.subsOf 0x23).find? fun x => bitOf (x.2.keep.getD 0 0) o.layer with
    | none => (d, false)
    | some (x, _) => d.deliverItem x line line.length
  if ok then d else (d.bump R.BLV_PRF_CNT_PROF_DROP_CNT).raise R.BLV_PRF_EVENTS_PROF_DROP

/-! ### Image rows (R379) -/

/-- An image row as R379 lays it out, or nothing where the tag check fails. -/
def Dev.imageRow (d : Dev) (k l lo hi skipped : Nat) : Option (List Byte) :=
  match d.tagOf l with
  | none => none
  | some (epoch, flags, _) =>
    let b := d.bpp k
    let n := hi + 1 - lo
    some (pad64 (leBytes 8 l ++ leBytes 4 epoch ++ leBytes 2 flags.toBits ++ leBytes 1 k ++ leBytes 1 b ++ leBytes 4 (d.gcol lo) ++ leBytes 4 n ++ leBytes 8 skipped ++ zeros 32 ++ d.dramRead (d.attAddr k l lo) (n * b)))

/-- The SUBSCRIBE_IMAGE command (R379). `keep`: layer, ROW_DIV, COL_LO, COL_HI. A subscription from the next merged row waits for it. -/
def Dev.subscribeImage (d : Dev) (q : Nat) : Dev :=
  d.startCmd q 0x22 (fun c => decide (3 < c.specAt 0 1) || !(d.layerOn (c.specAt 0 1)) || decide (1 < c.specAt 1 1) || decide (c.specAt 8 4 < c.specAt 4 4) || decide (d.stitchCols ≤ c.specAt 8 4)) noBuf fun c d =>
    if 8 ≤ (d.subsOf 0x22).length then d.finish c 0x100A 0 0
    else if c.specAt 1 1 = 1 ∧ c.specAt 16 8 < d.attOldest then d.finish c 0x1010 0 0
    else d.subStart c 8 fun y => { y with keep := [c.specAt 0 1, max (c.specAt 2 2) 1, c.specAt 4 4, c.specAt 8 4], next := if c.specAt 1 1 = 1 then c.specAt 16 8 else d.blv.nextRow }

/-- A due Attic row goes to an image subscription, waits, or is skipped when it is gone. -/
def Dev.imageDeliver (d : Dev) (x : Nat) : Dev :=
  match d.ctx x with
  | none => d
  | some y =>
    if y.st ≠ 3 ∨ y.cmd.op ≠ 0x22 ∨ !d.attReady ∨ d.blv.head < y.next then d else
    let k := y.keep.getD 0 0
    let div := y.keep.getD 1 1
    let lo := y.keep.getD 2 0
    let hi := y.keep.getD 3 0
    let skip := (d.setCtx x (some { y with next := y.next + div, lost := y.lost + 1 })).hostRaise R.GLB_HOST_EVENTS_IMG_SKIP
    if !d.attHolds y.next then skip else
    match d.imageRow k y.next lo hi y.lost with
    | none => skip
    | some row =>
      let (d, ok) := d.deliverItem x row row.length
      if ok then d.updCtx x fun z => { z with next := z.next + div, lost := 0 } else d

/-! ### IDENTIFY, CROP_READ (R368, R369) -/

/-- The identity page (R369). -/
def Dev.identityPage (d : Dev) (fn : Nat) (version : List Byte) : List Byte :=
  let pairs := if fn = 0 then 16384 - (d.pairs.filter fun q => d.ownerFn q ≠ 0).length else (d.pairs.filter fun q => d.ownerFn q = fn).length
  fit 4096 (leBytes 4 0x31585746 ++ leBytes 2 Config.vendor.toNat ++ leBytes 2 (if fn = 0 then 0x1648 else 0x1649) ++ leBytes 1 (d.fld R.GLB_ID_GRADE) ++ leBytes 1 (d.fld R.GLB_ID_REV) ++ leBytes 2 (b2n Config.secureBoot) ++ leBytes 4 d.devicePlace ++ leBytes 8 d.installed ++ fit 32 version ++ leBytes 4 (d.fld R.GLB_EPOCH) ++ leBytes 8 (d.fld R.GLB_FINGERPRINT) ++ leBytes 1 d.mode.code ++ leBytes 1 fn ++ leBytes 2 pairs ++ leBytes 2 (vectorsOf fn))

/-- The IDENTIFY command. -/
def Dev.identify (d : Dev) (q : Nat) (version : List Byte) : Dev :=
  d.startCmd q 0x01 noBad (fun _ => 4096) fun c d => (d.bufWrite c 0 (d.identityPage c.fn version)).finish c 0 0 0

/-- The rows of a crop, as far as they can be read under the tag protocol. -/
def Dev.cropRows (d : Dev) (k left w : Nat) : Nat → Nat → List (List Byte)
  | 0, _ => []
  | n + 1, l => if d.attHolds l && (d.tagOf l).isSome then d.dramRead (d.attAddr k l left) (w * d.bpp k) :: d.cropRows k left w n (l + 1) else []

/-- The CROP_READ command (R368). Log 221 (DEDUCED, unsafe). -/
def Dev.cropRead (d : Dev) (q : Nat) : Dev :=
  let bad := fun (c : HostCmd) =>
    let w := c.specAt 12 2
    let h := c.specAt 14 2
    decide (3 < c.argAt 0 1) || !(d.layerOn (c.argAt 0 1)) || decide (w < 1) || decide (32768 < w) || decide (h < 1) || decide (4096 < h) || decide (d.stitchCols < c.specAt 8 4 + w)
  d.startCmd q 0x06 bad (fun c => c.specAt 12 2 * c.specAt 14 2 * d.bpp (c.argAt 0 1)) fun c d =>
    let h := c.specAt 14 2
    let rows := d.cropRows (c.argAt 0 1) (c.specAt 8 4) (c.specAt 12 2) h (c.specAt 0 8)
    let bs := rows.flatten
    let d := if bs = [] then d else d.bufWrite c 0 bs
    if rows.length < h then d.finish c 0x1010 bs.length rows.length else d.finish c 0 bs.length 0

/-! ### Long operations in general (R371 to R374) -/

/-- The kind index of a long operation. -/
def opKind (op : Nat) : Nat := op - 0x10

def Dev.rstat (d : Dev) (k : Nat) : RStat := tget rstat0 d.host.rstat k
def Dev.setRstat (d : Dev) (k : Nat) (x : RStat) : Dev := d.setHost fun h => { h with rstat := tset rstat0 h.rstat k x }

/-- The running operations of a kind. -/
def Dev.opsOf (d : Dev) (op : Nat) : List (Nat × Ctx) :=
  d.ctxList.filter fun x => decide (x.2.cmd.op = op) && decide (x.2.st = 1 ∨ x.2.st = 2) && !(d.host.fetched.any fun c => c.ctx = some x.1)

/-- An operation starts: its result register empties (R374), and its STARTED entry is written. -/
def Dev.opStart (d : Dev) (c : HostCmd) (f : Ctx → Ctx) : Dev :=
  match c.ctx with
  | none => d
  | some x => ((d.setRstat (opKind c.op) { d.rstat (opKind c.op) with ready := false, fresh := false, status := 0x1004, value := 0 }).updCtx x f).started c

/-- An operation ends: its result exists, then its FINAL entry is written (R374). -/
def Dev.opEnd (d : Dev) (x status result detail : Nat) : Dev :=
  match d.ctx x with
  | none => d
  | some y => (d.setRstat (opKind y.cmd.op) { d.rstat (opKind y.cmd.op) with ready := true, fresh := true, status := status, value := result }).finish y.cmd status result detail

/-- A read of a result register's status word (R374). -/
def Dev.rstatRead (d : Dev) (k : Nat) : Dev := let x := d.rstat k; d.setRstat k { x with fresh := false, latched := if x.ready then x.value else 0 }

/-- What a read of OP_RSTAT returns (R374). -/
def RStat.word (x : RStat) : Nat := b2n x.ready + 2 * b2n x.fresh + x.status * 65536

/-! ### ATTIC_EXPORT (R371, R379) -/

/-- The ATTIC_EXPORT command. `keep`: layer, rows, COL_LO, COL_HI. -/
def Dev.atticExport (d : Dev) (q : Nat) : Dev :=
  let bad := fun (c : HostCmd) => decide (3 < c.specAt 0 1) || !(d.layerOn (c.specAt 0 1)) || decide (c.specAt 24 4 < c.specAt 20 4) || decide (d.stitchCols ≤ c.specAt 24 4)
  d.startCmd q 0x12 bad (fun c => c.specAt 16 4 * rowSize (c.specAt 24 4 + 1 - c.specAt 20 4) (d.bpp (c.specAt 0 1))) fun c d =>
    if !(d.opsOf 0x12).all (fun x => some x.1 = c.ctx) then d.finish c 0x1005 0 0 else
    let d := d.opStart c fun y => { y with keep := [c.specAt 0 1, c.specAt 16 4, c.specAt 20 4, c.specAt 24 4], next := c.specAt 8 8 }
    if c.specAt 16 4 = 0 then d.opEnd (c.ctx.getD 0) 0 0 0 else d

/-- ATTIC_EXPORT reads its next row, or counts it skipped when it has left the Attic. -/
def Dev.exportRow (d : Dev) : Dev :=
  match d.opsOf 0x12 with
  | [] => d
  | (x, y) :: _ =>
    if y.st ≠ 1 ∨ !d.attReady ∨ d.blv.head < y.next then d else
    let k := y.keep.getD 0 0
    let lo := y.keep.getD 2 0
    let hi := y.keep.getD 3 0
    let run := y.lost % 2 ^ 32
    let row := if d.attHolds y.next then d.imageRow k y.next lo hi run else none
    let (d, z) := match row with
      | some bs => (d.bufWrite y.cmd (y.done * rowSize (hi + 1 - lo) (d.bpp k)) bs, { y with phase := 1, next := y.next + 1, done := y.done + 1, progress := y.progress + 1, lost := 0 })
      | none => (d.hostRaise R.GLB_HOST_EVENTS_IMG_SKIP, { y with phase := 1, next := y.next + 1, lost := y.lost + 1, at_ := y.at_ + 1 })
    let d := d.setCtx x (some z)
    if y.cmd.specAt 8 8 + y.keep.getD 1 0 ≤ z.next then d.opEnd x 0 z.done z.at_ else d

end Sys2Proof.Machine
end

