-- ==== Sys2Proof/Machine/Epochs.lean ====
section
/-!
DEFINITION. Shadow groups, seals, commits, epochs, fingerprints and recipes (chapter 16, R480 to R497).
-/
namespace Sys2Proof.Machine

def Dev.setCfg (d : Dev) (f : CfgState → CfgState) : Dev := { d with cfg := f d.cfg }

/-- Note a 0x8xxx code. Log 219 (DESIGN CHOICE, unsafe). -/
def Dev.glbErr (d : Dev) (code : Nat) : Dev := d.setFld R.GLB_LAST_ERR code

/-- Set a GLB event with its code; GLB.EVENTS feeds no producer. -/
def Dev.glbEvent (d : Dev) (f : Fld) (code : Nat) : Dev := (d.setBit f).glbErr code

/-! ### Shadowed words (R18, R122, R484) -/

/-- Is an address in a TAP window (R14). Log 204 (DESIGN CHOICE, unsafe). -/
def inTap (a : Nat) : Bool := decide (0x03000000 ≤ a) && decide (a < 0x03800000)

/-- The bits of a TAP word that hold an entry (R122). -/
def tapMask (a : Nat) : Nat :=
  let o := a % 0x80000
  if o < 0x40000 then (if a % 8 = 0 then 0xFFFFFFFF else 0x7FFFF) else if o < 0x60000 then 0xFFFFFFFF else 0

/-- The RWS bits of a word; of a TAP word, all its entry's bits. -/
def rwsMask (a : Nat) : Nat := if inTap a then tapMask a else match findDesc a with | some r => r.rws | none => 0

/-- The shadow value of a shadowed word. -/
def Dev.shadowWord (d : Dev) (a : Nat) : Nat := if inTap a then tapWord d.taps a else (d.reg a).toNat &&& rwsMask a

/-- The live value of a shadowed word. -/
def Dev.liveWord (d : Dev) (a : Nat) : Nat := if inTap a then tapWord d.tapsLive a else (d.reg (a + 0x8000)).toNat &&& rwsMask a

/-- Store the shadow value of a word. -/
def Dev.setShadow (d : Dev) (a v : Nat) : Dev :=
  if inTap a then { d with taps := tset (tapReset a) d.taps a (BitVec.ofNat 32 (v &&& tapMask a)) }
  else
    let old := (d.reg a).toNat
    d.setReg a (BitVec.ofNat 32 (old - (old &&& rwsMask a) + (v &&& rwsMask a)))

/-- Store the live value of a word. -/
def Dev.setLive (d : Dev) (a v : Nat) : Dev :=
  if inTap a then { d with tapsLive := tset (tapReset a) d.tapsLive a (BitVec.ofNat 32 (v &&& tapMask a)) }
  else
    let old := (d.reg (a + 0x8000)).toNat
    d.setReg (a + 0x8000) (BitVec.ofNat 32 (old - (old &&& rwsMask a) + (v &&& rwsMask a)))

/-- The reset value of the shadowed bits of a word. -/
def resetBits (a : Nat) : Nat := if inTap a then (tapReset a).toNat else (resetWord a).toNat &&& rwsMask a

/-- Is a word one whose live value trims change (R323, R332): a TAP entry, CH_X0 or CH_COLOR_XOFS. -/
def trimmedWord (a : Nat) : Bool :=
  inTap a || (decide (0x01000000 ≤ a) && decide (a < 0x02000000) &&
    (List.range 4).any fun c => decide (a % 0x100000 = (R.STR_CH_X0 0 c).addr % 0x100000) || decide (a % 0x100000 = (R.STR_CH_COLOR_XOFS_RED 0 c).addr % 0x100000))

/-! ### Groups (R483, R484, R487) -/

def grpFree : Nat := 0
def grpOpen : Nat := 1
def grpSealing : Nat := 2
def grpSealed : Nat := 3

def Dev.grpState (d : Dev) (g : Nat) : Nat := d.fld (R.GLB_GROUP_STATE g)

/-- Writers: 0 the host PF, 1 the Porch, 2 the firmware. -/
def Dev.grpOwned (d : Dev) (w g : Nat) : Bool := decide (d.fld (R.GLB_GROUP_OWNER g) = w) && decide (d.grpState g ≠ grpFree)

/-- A writer's open group. Log 163 (DEDUCED, unsafe). -/
def Dev.openGroup (d : Dev) (w : Nat) : Option Nat := (List.range 32).find? fun g => d.grpOwned w g && decide (d.grpState g = grpOpen)

/-- A write of SHADOW_OPEN (R483); a group that is being sealed may return to its opener, and so counts as its open group. Log 163 (DEDUCED, unsafe). -/
def Dev.shadowOpen (d : Dev) (w g : Nat) : Dev :=
  let busy := (List.range 32).any fun q => d.grpOwned w q && (decide (d.grpState q = grpOpen) || decide (d.grpState q = grpSealing))
  if (g = 31 ∧ w ≠ 2) ∨ d.grpState g ≠ grpFree ∨ busy then d.glbErr 0x8001
  else ((d.setFld (R.GLB_GROUP g) 0).setFld (R.GLB_GROUP_STATE g) grpOpen).setFld (R.GLB_GROUP_OWNER g) w

/-- The RWS bits of a write, or a write to a TAP entry (R484). Log 165 (DEDUCED, unsafe), 283 (DEDUCED, unsafe). -/
def Dev.shadowWrite (d : Dev) (w a v : Nat) : Dev :=
  let m := rwsMask a
  if v &&& m = d.shadowWord a then d else
  match d.openGroup w with
  | none => d.glbEvent R.GLB_EVENTS_STRAY_WRITE 0x8015
  | some g =>
    let c := tget 0 d.cfg.claims a
    if c = 0 then ((d.setShadow a v).setCfg fun x => { x with claims := tset 0 x.claims a (g + 1) }).bump (R.GLB_GROUP_WORDS g)
    else if c = g + 1 then d.setShadow a v
    else d.glbEvent R.GLB_EVENTS_CLAIM_CONFLICT 0x8003

/-- Free a group and release its claims. -/
def Dev.freeGroup (d : Dev) (g : Nat) : Dev :=
  (d.setCfg fun x => { x with claims := x.claims.filter (fun c => c.2 ≠ g + 1), sealAt := tset 0 x.sealAt g 0, sealFramed := x.sealFramed.filter (· ≠ g) }).setFld (R.GLB_GROUP g) 0

/-- The words that a group claims. Log 165 (DEDUCED, unsafe). -/
def Dev.claimed (d : Dev) (g : Nat) : List Nat := (d.cfg.claims.filter fun c => c.2 = g + 1).map (·.1)

/-- Restore the claimed words of a group from live, and free it (R487). -/
def Dev.dropGroup (d : Dev) (g : Nat) : Dev := ((d.claimed g).foldl (fun d a => d.setShadow a (d.liveWord a)) d).freeGroup g

/-- A write of SHADOW_ABORT (R487). -/
def Dev.shadowAbort (d : Dev) (w g : Nat) : Dev :=
  if d.grpOwned w g ∧ (d.grpState g = grpOpen ∨ d.grpState g = grpSealed) then d.dropGroup g else d.glbErr 0x8002

/-! ### Fingerprints (R494, R495) -/

/-- The local words (R495). -/
def localWord (a : Nat) : Bool :=
  let b := a / 0x100000
  (decide (b = 1) && decide (a ≠ R.POS_OUT_PITCH.addr)) || decide (2 ≤ b ∧ b ≤ 4) ||
  [R.BLV_STITCH_COLS.addr, R.BLV_DEV_COL_BASE.addr, R.BLV_ATT_BASE.addr, R.BLV_ATT_BASE.addr + 4, R.BLV_ATT_TAG_BASE.addr, R.BLV_ATT_TAG_BASE.addr + 4, R.BLV_ATT_CFG.addr].contains a ||
  (decide (0x501000 ≤ a) && decide (a < 0x501200)) || (decide (0x10 ≤ b ∧ b ≤ 0x20) && decide (a % 0x100000 < 0x800))

/-- The addresses of a row of the register tables. -/
def RegDesc.addrs (r : RegDesc) : List Nat := (List.range r.n1).flatMap fun i => (List.range r.n2).map fun j => r.base + i * r.s1 + j * r.s2

/-- The BAR0 words that hold an RWS field, in increasing offset. -/
def rwsWords : List Nat :=
  (((List.range 16).map (· * 0x100000) ++ [0x01000000]).flatMap fun b => ((descBlock b).filter fun (r : RegDesc) => r.rws ≠ 0).flatMap RegDesc.addrs).mergeSort

/-- One entry of the canonical image through the CRC: offset and value. -/
def crcEntry (c : UInt64) (a v : Nat) : UInt64 := (leBytes 4 a ++ leBytes 4 v).foldl crc64Byte c

/-- The fingerprint of the common words that `f` reads. -/
def commonPrint (f : Nat → Nat) : Nat := ((rwsWords.filter fun a => !localWord a).foldl (fun c a => crcEntry c a (f a)) 0).toNat

/-- LOCAL_FP: the local words, then each word of the tap tables. -/
def localPrint (f : Nat → Nat) : Nat :=
  let c := (rwsWords.filter localWord).foldl (fun c a => crcEntry c a (f a)) 0
  ((List.range 16).foldl (fun c n => (List.range 0x18000).foldl (fun c i => let a := 0x03000000 + n * 0x80000 + 4 * i; crcEntry c a (f a)) c) c).toNat

/-- The live value of a word as the last commit made it (R494). -/
def Dev.committedWord (d : Dev) (a : Nat) : Nat := if trimmedWord a then (tget (BitVec.ofNat 32 (resetBits a)) d.cfg.committed a).toNat else d.liveWord a

/-! ### Seals (R485, R486) -/

/-- A word of the seal image of a group. -/
def Dev.imageWord (d : Dev) (g a : Nat) : Nat :=
  let c := tget 0 d.cfg.claims a
  if c = 0 ∨ c = g + 1 ∨ d.grpState (c - 1) = grpSealed then d.shadowWord a else d.liveWord a

/-- A word of a register as the seal image has it; its other bits are as they are. -/
def Dev.imageReg (d : Dev) (g a : Nat) : Nat := (d.reg a).toNat - ((d.reg a).toNat &&& rwsMask a) + d.imageWord g a

/-- A field in the seal image of a group. -/
def Dev.imageFld (d : Dev) (g : Nat) (f : Fld) : Nat :=
  bits (d.imageReg g f.addr + (if f.lo + f.w ≤ 32 then 0 else d.imageReg g (f.addr + 4) * 2 ^ 32)) f.lo f.w

/-- The modes in which the layout is frozen (R133). -/
def Mode.inspects : Mode → Bool
  | .inspect | .degraded | .calibrate => true
  | _ => false

/-- The seal checks of R485 in order: the code of the first that fails, and the part with its SEAL_DIAG set.
Log 102 (DEDUCED, unsafe), 180 (DESIGN CHOICE, unsafe). -/
def Dev.sealCheck (d : Dev) (g : Nat) : Dev × Option Nat :=
  let d := (List.range 16).foldl (fun d r => (d.setFld (R.STR_SEAL_DIAG r) 0).setFld (R.STR_SEG_DIAG r) 0) (((d.setFld R.BLV_SEAL_DIAG 0).setFld R.DCA_SEAL_DIAG 0).setFld R.PLZ_SEAL_DIAG 0)
  let f := d.imageFld g
  match camDiag f d.installed with
  | some (p, c) => (d.setFld (portLastErr p) c, some c)
  | none =>
  match (List.range 16).findSome? fun r => (corDiag f r).map fun x => (r, x) with
  | some (r, c, k) => ((d.setFld (R.STR_SEAL_DIAG_CHECK r) c).setFld (R.STR_SEAL_DIAG_CHAN r) k, some 0x8004)
  | none =>
  match blvDiag f d.live (fun a => d.imageWord g a) d.installed d.mode.inspects with
  | some (c, r, k) => (((d.setFld R.BLV_SEAL_DIAG_CHECK c).setFld R.BLV_SEAL_DIAG_ROLE r).setFld R.BLV_SEAL_DIAG_LAYER k, some 0x8005)
  | none =>
  match (List.range 16).findSome? fun r => (segDiag f Config.grade12 r).map fun x => (r, x) with
  | some (r, c, k) => ((d.setFld (R.STR_SEG_DIAG_CHECK r) c).setFld (R.STR_SEG_DIAG_STAGE r) k, some 0x8006)
  | none =>
  match d.dcaDiag f with
  | some c => if c = 1 then ((d.setFld R.DCA_SEAL_DIAG c).setFld R.DCA_LAST_ERR 0xB006, some 0xB006) else (d.setFld R.DCA_SEAL_DIAG c, some 0x8007)
  | none =>
  match plzDiag f with
  | some (c, i, code) => (((d.setFld R.PLZ_SEAL_DIAG_CHECK c).setFld R.PLZ_SEAL_DIAG_ITEM i).setFld R.PLZ_LAST_ERR code, some code)
  | none => (d, none)

/-- A write of SHADOW_SEAL (R485). Log 164 (DEDUCED, unsafe). -/
def Dev.shadowSeal (d : Dev) (w g : Nat) : Dev :=
  if d.grpOwned w g ∧ d.grpState g = grpOpen then
    (d.setFld (R.GLB_GROUP_STATE g) grpSealing).setCfg fun x => { x with sealR := { latched := x.sealR.latched }, sealGroup := g }
  else (d.glbErr 0x8002).setCfg fun x => { x with sealR := { ready := true, fresh := true, status := 0x8002, value := 0, latched := x.sealR.latched }, sealGroup := g }

/-- The seal checks of a group end (R485). -/
def Dev.sealEnd (d : Dev) (g : Nat) : Dev × Option Nat :=
  let (d, bad) := d.sealCheck g
  let result := fun (d : Dev) (st v : Nat) => d.setCfg fun x => { x with sealR := { ready := true, fresh := true, status := st, value := v, latched := x.sealR.latched }, sealGroup := g }
  match bad with
  | some c =>
    let d := (d.setFld (R.GLB_GROUP_STATE g) grpOpen).setBit R.GLB_EVENTS_SEAL_REFUSED
    (result (if c / 4096 = 8 then d.glbErr c else d) c 0, some c)
  | none =>
    let d := (d.setFld (R.GLB_GROUP_STATE g) grpSealed).setCfg fun x => { x with sealAt := tset 0 x.sealAt g (d.time + 1), sealFramed := if d.mode.framed then g :: x.sealFramed else x.sealFramed }
    (result d 0 (commonPrint (d.imageWord g)), none)

/-! ### Outcomes of requests (R488, R491, R492) -/

/-- A commit request of this device ends: the result register, and the FINAL entries of its commands. Log 172 (DEDUCED, unsafe). -/
def Dev.commitEnd (d : Dev) (whos : List Who) (status fp epoch : Nat) : Dev :=
  if whos = [] then d else
  let d := if status = 0 then d else d.glbErr status
  let own := whos.any fun w => match w with | .remote _ _ => false | _ => true
  let d := if own then d.setCfg fun x => { x with commitR := { ready := true, fresh := true, status := status, value := fp, latched := x.commitR.latched }, commitEpoch := epoch } else d
  whos.foldl (fun d w => match w with
    | .reg => d
    | .host c => (match d.ctx c with | some x => d.finish x.cmd status fp epoch | none => d)
    | .remote origin token =>
      d.sendTo PT.commitResult origin (leBytes 4 token ++ leBytes 2 status ++ leBytes 1 d.ownPos ++ zeros 1 ++ leBytes 4 (d.fld R.GLB_EPOCH) ++ zeros 4)) d

/-- PENDING and NEXT_INDEX follow the pending commits. -/
def Dev.notePending (d : Dev) : Dev :=
  let at_ := (d.cfg.atIndex.filterMap (·.index)).eraseDups
  let all := at_ ++ (if d.cfg.next.isSome then [d.nextBoundary d.pos.linesPassed] else [])
  let least := match all with | [] => 0 | x :: xs => xs.foldl min x
  ((d.setFld R.GLB_PENDING_AT_INDEX at_.length).setFlag R.GLB_PENDING_NEXT d.cfg.next.isSome).setFld R.GLB_NEXT_INDEX least

/-- A broadcast commit whose hand-over is done completes once every device has answered, or at once when its time is up (R491). -/
def Dev.waitEnd (d : Dev) (late : Bool) : Dev :=
  let others := (List.range (d.fld R.KSL_CASCADE_SIZE_SEEN)).filter fun i => i ≠ d.ownPos
  d.cfg.waits.foldl (fun d w =>
    let missing := others.filter fun i => !(w.answered.contains i)
    if missing ≠ [] ∧ !(late ∧ w.doneAt + usCycles 10000 ≤ d.time) then d else
    let d := d.setCfg fun x => { x with waits := x.waits.filter fun y => y.token ≠ w.token }
    let bad := missing ++ w.refused
    if bad = [] then d.commitEnd w.whos 0 w.fp w.epoch
    else
      let d := d.setFld R.GLB_CASCADE_RESULT ((List.range 8).foldl (fun m i => m + (if bad.contains i then 2 ^ i else 0)) 0)
      (d.setBit R.GLB_EVENTS_CASCADE_PARTIAL).commitEnd w.whos 0x800D w.fp w.epoch) d

/-! ### The hand-over (R489) -/

/-- Apply a sealed group: live takes the shadow value of every word it claims. -/
def Dev.applyGroup (d : Dev) (g : Nat) : Dev :=
  ((d.claimed g).foldl (fun d a =>
    let v := d.shadowWord a
    let d := d.setLive a v
    if trimmedWord a then d.setCfg fun x => { x with committed := tset (BitVec.ofNat 32 (resetBits a)) x.committed a (BitVec.ofNat 32 v) } else d) d).freeGroup g

/-- A write of a recipe to a word without shadow: taken in GAL, and in the RW fields of CAL, POS and PLZ (R480), as a write of the register is: MD_OFFSET
within R35, a CMP_CTRL that arms its slot (R50). Log 169 (DEDUCED, unsafe). -/
def Dev.recipeWord (d : Dev) (a v : Nat) : Dev :=
  let b := a / 0x100000
  match findDesc a with
  | none => d
  | some r =>
    if !(b = 1 ∨ b = 4 ∨ b = 7 ∨ b = 0xB) then d
    else if a = R.POS_MD_OFFSET.addr ∨ a = R.POS_MD_OFFSET.addr + 4 then d.mdOffsetWord a v
    else if 0x104000 ≤ a ∧ a < 0x106000 then d.cmpWrite ((a - 0x104000) / 0x20) (a % 0x20) (v &&& r.rw)
    else
    let old := (d.reg a).toNat
    let d := (if b = 1 then d.noteWord a else d).setReg a (BitVec.ofNat 32 (old - (old &&& r.rw) + (v &&& r.rw)))
    if a = R.GAL_CTRL.addr then (if bitOf v 2 then d.galUpdate d.composing else d).galCheck
    else if galStaged a then d.galWritten d.composing
    else d

/-- A new PITCH, PHASE or enable of a generator (R45). -/
def Dev.genCommit (d old : Dev) (g : Nat) : Dev :=
  let x := d.gen g
  let on := d.lflag (R.POS_TRG_CTRL_ENABLE g)
  if on ∧ !x.on then d.genStart g
  else if !on then (if x.on then d.setGen g { x with on := false, waiting := false } else d)
  else if d.slive (R.POS_TRG_PHASE g) ≠ old.slive (R.POS_TRG_PHASE g) then
    d.setGen g { x with last := none, next := gridAtOrAbove (d.slive (R.POS_TRG_PHASE g)) (d.genPitch g) (d.pos.hwm + 1) }
  else if d.genPitch g ≠ old.genPitch g then
    d.setGen g { x with next := match x.last with | some t => t + d.genPitch g | none => gridAtOrAbove (d.slive (R.POS_TRG_PHASE g)) (d.genPitch g) d.pos.hwm }
  else d

/-- The fields of a port whose live change returns it to DETECT (R94). -/
def portStatic (p : Nat) : List Fld :=
  if p < 16 then [R.CAM_CTRL_ENABLE p, R.CAM_CTRL_BOND p, R.CAM_CTRL_PIX_FMT p, R.CAM_LANE_MAP0 p, R.CAM_LANE_MAP1 p]
  else [portEnable p, portFld R.CAM_CTRL_PIX_FMT R.CLG_CTRL_PIX_FMT p]

/-- A live change to a port's static settings (R94). -/
def Dev.portCommit (d old : Dev) (p : Nat) : Dev :=
  if (portStatic p).all fun f => d.live f = old.live f then d
  else if d.fld (portState p) = 0 then d
  else
    let up := d.portUp p
    let d := d.portDetect p
    if up ∧ d.lflag (portEnable p) then d.portLeft p else d

/-- The settings of every block move with a hand-over at boundary `b` (0 outside the framed modes); `old` is the part before it. -/
def Dev.blocksCommit (d old : Dev) (b : Nat) (recipe : Bool) : Dev :=
  let framed := d.mode.framed
  let d := if d.live R.POS_SCALE = old.live R.POS_SCALE then d else d.shiftOffset (old.ownForm.md d.pos.wpos - d.ownForm.md d.pos.wpos)
  let d := d.advance d.time
  let d := (List.range 48).foldl (fun d g => d.genCommit old g) d
  let d := ((List.range 20).foldl (fun d p => d.portCommit old p) d).portsForMode
  let d := (List.range 4).foldl Dev.clgCommit d
  let d := if framed then d.repitch b else d
  let up := d.lflag R.BLV_CTRL_ENABLE && !(old.lflag R.BLV_CTRL_ENABLE) && framed
  let d := ((d.corCommit b).blvCommit b).prfCommit b recipe
  let d := if framed then d.segCommit b recipe else d
  let d := (d.recCommit b).dcaCommit b
  let d := if up then d.setBlob fun x => { x with nextRow := b } else d
  if framed then
    (List.range 16).foldl (fun d r => if d.lflag (R.STR_COR_CTRL_ENABLE r) ∧ !(old.lflag (R.STR_COR_CTRL_ENABLE r)) then { d with blv := { d.blv with nextWin := tset 0 d.blv.nextWin r b } } else d) d
  else d

/-- Stripes that hold a role, and a stripe in MIRROR, show the microcode that the commit switched to (R528). Log 174 (DEDUCED, unsafe). -/
def Dev.ucodeSwitch (d : Dev) : Dev :=
  let d := d.setCfg fun x => { x with ucode := x.ucode + 1 }
  (List.range 17).foldl (fun d n => if d.fld (R.TST_STRIPE_STATE_STATE n) = 0 ∨ d.fld (R.TST_STRIPE_STATE_STATE n) = 2 then d.setFld (R.TST_UCODE_SEQ n) d.cfg.ucode else d) d

/-- The new epoch (R493): one more than the greatest of the own epoch and those of the devices heard of, modulo 2^32. -/
def Dev.nextEpoch (d : Dev) : Nat :=
  ((List.range 8).foldl (fun m i => if d.flag (R.KSL_DEV_STATE_VALID i) then max m (d.fld (R.KSL_DEV_EPOCH i)) else m) (d.fld R.GLB_EPOCH) + 1) % 2 ^ 32

/-- The hand-over of a commit (R489): at boundary `b` in a framed mode.  Answers whether the recipe switch under way was applied, or came
stale. Log 171 (DEDUCED, unsafe), 174 (DEDUCED, unsafe), 266 (DEDUCED, unsafe). -/
def Dev.handOver (d : Dev) (b : Option Nat) (lineage : Nat) : Dev × Bool × Bool :=
  let old := d
  let framed := d.mode.framed
  let due := (List.range 32).filter fun g => decide (d.grpState g = grpSealed) && decide (tget 0 d.cfg.sealAt g ≤ d.time)
  let (stale, apply) := due.partition fun g => d.cfg.sealFramed.contains g != framed
  let d := stale.foldl (fun d g => (d.setFld (R.GLB_GROUP_STATE g) grpOpen).glbEvent R.GLB_EVENTS_SEAL_STALE 0x8008) d
  let changed := (apply.flatMap d.claimed).filter fun a => d.shadowWord a ≠ d.liveWord a
  let d := apply.foldl Dev.applyGroup d
  let d := if apply = [] then d else d.ucodeSwitch
  let switched := apply.contains 31 && d.cfg.recipe.isSome
  let d := if changed.any inTap then d.setCfg fun x => { x with copying := true } else d
  let d := d.blocksCommit old (b.getD 0) switched
  let d := match d.cfg.recipe with
    | some r => if switched then ((r.words.foldl (fun (d : Dev) (w : Nat × Nat) => d.recipeWord w.1 w.2) d).setFld R.GLB_BOOT_RECIPE r.recipe) else d
    | none => d
  let e := d.nextEpoch
  let fp := commonPrint d.liveWord
  let d := ((d.setFld R.GLB_EPOCH e).setFld R.GLB_FINGERPRINT fp).setFld R.GLB_LOCAL_FP (localPrint d.committedWord)
  let keep := e :: (d.cfg.history.filter (· ≠ e)).take 3
  let d := { d.setCfg (fun x => { x with history := keep }) with prints := (tset 0 d.prints e fp).filter fun p => keep.contains p.1, pos := { d.pos with epochs := if framed then ((b.getD 0, e) :: d.pos.epochs.filter fun x => x.1 ≠ b.getD 0).take 4 else [(0, e)] } }
  let d := (List.range 16).foldl (fun d r => match (d.cor r).camLive with | some c => d.setCor r { d.cor r with camLive := some { c with epoch := e } } | none => d) d
  let d := if switched ∨ changed.any d.calSensitive then d.calAbandon 0x5008 else d
  let d := d.fire P.commitDone .pulse lineage
  let d := if apply = [] then d else d.reroute
  let d := [0, 1].foldl (fun d s => if d.stage s = 4 ∧ d.flag (R.KSL_PORT_STATUS_MISMATCH s) then d.sendCap s else d) d
  (d.tellCascade, switched, stale.contains 31 && d.cfg.recipe.isSome)

/-- The firmware gives up the recipe switch under way: group 31 is discarded. Log 168 (DEDUCED, unsafe). -/
def Dev.recipeDrop (d : Dev) : Dev :=
  let d := if d.grpState 31 = grpFree then d else d.dropGroup 31
  d.setCfg fun x => { x with recipe := none }

/-- The commits that fall due in one hand-over end with it: their recipe switch with SEAL_STALE where its seal was, broadcast ones once they are
answered. -/
def Dev.commitDue (d : Dev) (b : Option Nat) (cs : List CommitReq) : Dev :=
  if cs = [] then d else
  let lin := cs.foldl (fun m c => max m c.lineage) 0
  let refuse := cs.filter fun c => match c.recipe with
    | some r => (match d.cfg.recipe with | some x => x.recipe ≠ r | none => true) || decide (d.grpState 31 ≠ grpSealed)
    | none => false
  let d := refuse.foldl (fun d c => d.commitEnd c.whos 0x800A 0 0) d
  let d := if refuse = [] then d else d.recipeDrop
  let cs := cs.filter fun c => !(refuse.contains c)
  if cs = [] then d else
  let run := d.cfg.recipe
  let (d, switched, stale) := d.handOver b lin
  let d := if switched then d.setCfg fun x => { x with recipe := none } else if stale then d.recipeDrop else d
  let fp := d.fld R.GLB_FINGERPRINT
  let e := d.fld R.GLB_EPOCH
  let lost : List Who := if stale then (match run with | some r => r.who.toList | none => []) else []
  cs.foldl (fun d c =>
    let d := d.commitEnd (c.whos.filter fun w => lost.contains w) 0x8008 0 0
    let whos := c.whos.filter fun w => !(lost.contains w)
    if whos = [] then d else
    match c.token with
    | none => d.commitEnd whos 0 fp e
    | some t => (d.setCfg fun x => { x with waits := x.waits ++ [{ token := t, whos := whos, refused := c.refused, answered := c.answered, doneAt := d.time, fp := fp, epoch := e }] }).waitEnd false) d

/-- The commits of boundary `b` (R489), in its FRAME_POS cycle. -/
def Dev.boundaryCommit (d : Dev) (b : Nat) : Dev :=
  let cs := d.cfg.next.toList ++ d.cfg.atIndex.filter fun c => c.index = some b
  let d := d.setCfg fun x => { x with next := none, atIndex := x.atIndex.filter fun c => c.index ≠ some b }
  (d.commitDue (some b) cs).notePending

/-- What is pending when the part leaves the framed modes (R489), in the first cycle after the change. Log 96 (DEDUCED, unsafe). -/
def Dev.commitLeave (d : Dev) : Dev :=
  if d.cfg.next = none ∧ d.cfg.atIndex = [] then d else
  let next := d.cfg.next.toList
  let refused := d.cfg.atIndex
  let d := (d.advance (d.time + 1)).setCfg fun x => { x with next := none, atIndex := [] }
  let d := d.commitDue none next
  (refused.foldl (fun d c =>
    let d := d.commitEnd c.whos 0x800B 0 0
    match d.cfg.recipe with | some r => if r.who.any fun w => c.whos.contains w then d.recipeDrop else d | none => d) d).notePending

/-! ### Requests (R488 to R491) -/

/-- Why an at-index request is refused (R488 to R490). Log 167 (DEDUCED, unsafe). -/
def Dev.indexRefused (d : Dev) (n : Nat) : Option Nat :=
  let at_ := (d.cfg.atIndex.filterMap (·.index)).eraseDups
  if !d.mode.framed then some 0x800B
  else if n % d.pos.frameLines ≠ 0 then some 0x8009
  else if n < d.pos.linesPassed + d.live R.GLB_COMMIT_CFG then some 0x800A
  else if !(at_.contains n) ∧ !(d.cfg.next.isSome ∧ d.nextBoundary d.pos.linesPassed = n) ∧ 4 ≤ at_.length then some 0x800C
  else none

/-- The result register of commits empties while a new one runs (R374). -/
def Dev.commitBegins (d : Dev) : Dev := d.setCfg fun x => { x with commitR := { latched := x.commitR.latched }, commitEpoch := 0 }

/-- Request a commit at the next boundary (R488, R489). Log 177 (DEDUCED, unsafe). -/
def Dev.requestNext (d : Dev) (who : Who) (lineage : Nat) : Dev :=
  let d := d.commitBegins
  let c : CommitReq := match d.cfg.next with
    | some c => { c with whos := c.whos ++ [who], lineage := max c.lineage lineage }
    | none => { index := none, whos := [who], lineage := lineage }
  if d.mode.framed then (d.setCfg fun x => { x with next := some c }).notePending
  else (d.advance (d.time + 1)).commitDue none [c]

/-- Request a commit at an index (R488 to R491); with an Active partner it is broadcast.  `recipe`: the recipe that the request switches to. -/
def Dev.requestAt (d : Dev) (n : Nat) (who : Who) (recipe : Option Nat) : Dev :=
  match d.indexRefused n with
  | some code =>
    let d := if recipe.isSome then d.recipeDrop else d
    d.commitEnd [who] code 0 0
  | none =>
    let d := d.commitBegins
    let partner := d.sideActive 0 || d.sideActive 1
    let token := d.cfg.token
    let d := if partner then
        (d.broadcast PT.commit (leBytes 8 n ++ leBytes 4 token ++ leBytes 1 (b2n recipe.isSome) ++ leBytes 1 (recipe.getD 0) ++ leBytes 1 d.ownPos ++ zeros 17)).setCfg fun x => { x with token := (x.token + 1) % 2 ^ 32 }
      else d
    (d.setCfg fun x => { x with atIndex := x.atIndex ++ [{ index := some n, whos := [who], token := if partner then some token else none }] }).notePending

/-- A request for a commit in either form. Log 167 (DEDUCED, unsafe). -/
def Dev.requestCommit (d : Dev) (atIndex : Bool) (n : Nat) (who : Who) : Dev :=
  if atIndex then d.requestAt n who none else d.requestNext who 0

/-! ### Profile sync requests (R172) -/

/-- Does the device follow a master: its own start sources are ignored (R470). Log 47 (DEDUCED, unsafe). -/
def Dev.isSlave (d : Dev) : Bool := !(d.flag R.POS_STATUS_MASTER)

/-- The last or pending L_S. -/
def Dev.syncRow (d : Dev) : Nat := d.fld R.BLV_PRF_SYNC_ROW

/-- Sync requests that meet the Plaza input DEC_SYNC in one cycle (R295). `input`: this one comes from the input. Log 105 (DEDUCED, unsafe). -/
def Dev.syncClash (d : Dev) (input : Bool) : Dev :=
  let met := if input then decide (d.plz.syncAt = d.time + 1) else d.dueAt 0xF0 d.time || decide (d.plz.decAt = d.time + 1)
  let d := { d with plz := if input then { d.plz with decAt := d.time + 1 } else { d.plz with syncAt := d.time + 1 } }
  if met then d.clash 0xF0 else d

/-- Software commit requests that meet the Plaza input COMMIT in one cycle (R295). Log 104 (DEDUCED, unsafe), 105 (DEDUCED, unsafe). -/
def Dev.commitClash (d : Dev) : Dev :=
  let met := d.dueAt 0xF1 d.time || decide (d.plz.comAt = d.time + 1)
  let d := { d with plz := { d.plz with softAt := d.time + 1 } }
  if met then d.clash 0xF1 else d

/-- A sync request: the master sets L_S and tells every device, a slave forwards the request with its SOURCE (R172, R458). -/
def Dev.syncRequest (d : Dev) (source : Nat) : Dev :=
  if !d.mode.filters then d
  else if d.isSlave then d.sendTo PT.syncReq (d.fld R.KSL_CASCADE_MASTER_POS) (leBytes 1 source ++ zeros 3)
  else if d.prf.syncRow.isSome then d
  else
    let ls := d.syncTarget
    (d.setSync ls).broadcast PT.sync (leBytes 8 ls ++ zeros 8)

/-! ### Writes of words with shadowed bits (R480, R484) -/

/-- The bits of a write that are not special: shadowed bits go to the writer's group (R484), the others are plain. -/
def Dev.baseWrite (d : Dev) (w a v : Nat) : Dev := (d.plainWrite a v).shadowWrite w a v

/-- What the bits of a word without shadow do where the word has shadowed bits too: READMIT, CLEAR, RETRY, RESET, and the port enables of KSL.CTRL (R484).
Log 171 (DEDUCED, unsafe). -/
def Dev.mixedActs (d : Dev) (a v : Nat) : Dev :=
  let o := a % 0x100000
  match a / 0x100000 with
  | 1 =>
    if 0x1000 ≤ o ∧ o < 0x1100 ∧ o % 0x40 = 0 ∧ bitOf v 16 then d.readmit ((o - 0x1000) / 0x40)
    else if 0x2000 ≤ o ∧ o < 0x2600 ∧ o % 0x20 = 0 ∧ bitOf v 31 then d.trgClear ((o - 0x2000) / 0x20)
    else d
  | 2 => if a % 0x10000 = 0 ∧ bitOf v 12 then d.camRetry (a / 0x10000 % 16) else d
  | 5 => if o = 0x2000 ∧ bitOf v 12 then (d.syncClash false).syncRequest 3 else d
  | 0xA => if o = 0 then (d.portPower 0).portPower 1 else d
  | _ => d

/-- A word of a recipe that holds shadowed bits is written as a register is (R480): those bits go to group 31, the others act at once.
Log 171 (DEDUCED, unsafe). -/
def Dev.recipeWrite (d : Dev) (a v : Nat) : Dev :=
  if rwsMask a = 0 then d else ((if a / 0x100000 = 1 then d.noteWord a else d).baseWrite 2 a v).mixedActs a v

/-! ### Recipes (R480 to R482) -/

/-- The words of a run section: a start address and what follows it. Log 171 (DEDUCED, unsafe). -/
def runWords (base : Nat) (body : List Byte) : List (Nat × Nat) :=
  let ws := bytesWords ((body.length - 1) / 4) (body.drop 4)
  (List.range ws.length).zip ws |>.map fun x => (base + leAt body 0 4 + 4 * x.1, x.2)

/-- The words that a recipe writes at a position, in image order, or none where the recipe is refused (R480). -/
def recipeWords (pos : Nat) (m : Image) : Option (List (Nat × Nat)) :=
  let known := fun (s : Section) => decide (s.ty = 0x10) || decide (s.ty = 0x11) || decide (s.ty = 0x12)
  let bad := m.sections.any fun s => (decide (0x10 ≤ s.ty ∧ s.ty ≤ 0x1F) && !known s) ||
    ((decide (s.ty = 0x10) || decide (s.ty = 0x11)) && (decide (s.body.length < 4) || decide (s.body.length % 4 ≠ 0) || decide (leAt s.body 0 4 % 4 ≠ 0))) ||
    (decide (s.ty = 0x12) && decide (s.body.length ≠ 32))
  let infos := m.sections.filter fun s => s.ty = 0x12
  let ws := (m.sections.filter fun s => bitOf s.devMask pos).flatMap fun s => if s.ty = 0x10 then runWords 0 s.body else if s.ty = 0x11 then runWords 0x03000000 s.body else []
  let closed := fun (a : Nat) => decide (0x02800000 ≤ a ∧ a < 0x02900000) || [8, 9, 0xC, 0xD].contains (a / 0x100000)
  if bad ∨ infos.length ≠ 1 ∨ ws.any (fun w => closed w.1) then none else some ws

/-- Steps 1 to 6 of R482: group 31 is opened, written and sealed.  Answers the code that refuses the switch. Log 171 (DEDUCED, unsafe). -/
def Dev.recipeApply (d : Dev) (r : Nat) (atIndex : Bool) (n : Nat) (who : Option Who) : Dev × Option Nat :=
  if (List.range 32).any fun g => decide (d.grpState g = grpOpen) || decide (d.grpState g = grpSealing) then (d, some 0x8014) else
  let bs := tget [] d.cfg.recipes r
  match imageOf bs with
  | none => (d, some 0x8010)
  | some m =>
  match recipeWords (d.fld R.GLB_BOOT_POSITION) m with
  | none => (d, some 0x8011)
  | some ws =>
    let held := (List.range 32).filter fun g => d.grpState g = grpSealed
    let d := held.foldl (fun d g => (d.dropGroup g).setBit R.GLB_EVENTS_DISCARDED) d
    let d := d.shadowOpen 2 31
    let d := (d.regs.map (·.1)).foldl (fun d a => if rwsMask a = 0 then d else d.shadowWrite 2 a (resetBits a)) d
    let d := (d.taps.map (·.1)).foldl (fun d a => d.shadowWrite 2 a (resetBits a)) d
    let d := ws.foldl (fun (d : Dev) (w : Nat × Nat) => d.recipeWrite w.1 w.2) d
    let before := d
    let d := d.pantryRecipe d.fld
    let put := ((d.taps.map (·.1)).filter fun a => tapWord d.taps a ≠ tapWord before.taps a) ++ ((d.regs.map (·.1)).filter fun a => rwsMask a ≠ 0 ∧ d.shadowWord a ≠ before.shadowWord a)
    let d := put.foldl (fun d a => if tget 0 d.cfg.claims a = 0 then (d.setCfg fun x => { x with claims := tset 0 x.claims a 32 }).bump (R.GLB_GROUP_WORDS 31) else d) d
    let words := ws.filter fun w => match findDesc w.1 with | some x => decide (x.rws = 0) && decide (x.rw ≠ 0 ∨ w.1 / 0x100000 = 7) | none => false
    let d := d.setCfg fun x => { x with recipe := some { recipe := r, atIndex := atIndex, index := n, who := who, words := words } }
    (d.shadowSeal 2 31, none)

/-- A recipe switch is requested (R482); refusals end it at once. Log 166 (DEDUCED, unsafe). -/
def Dev.recipeSwitch (d : Dev) (r : Nat) (atIndex : Bool) (n : Nat) (who : Who) : Dev :=
  match d.recipeApply r atIndex n (some who) with
  | (d, some code) => d.commitEnd [who] code 0 0
  | (d, none) => d.commitBegins

/-- SEAL_CHECK_DONE: the checks of a group that is being sealed end; a recipe switch then commits, or ends with the seal's code, which the origin of a
broadcast one learns as INDEX_PASSED (R491). Log 168 (DEDUCED, unsafe), 284 (DEDUCED, unsafe). -/
def Dev.sealCheckDone (d : Dev) (g : Nat) : Dev :=
  if d.grpState g ≠ grpSealing then d else
  let (d, bad) := d.sealEnd g
  if g ≠ 31 then d else
  match d.cfg.recipe with
  | none => d
  | some r =>
    match bad, r.who with
    | some _, some (.remote o t) =>
      let w := Who.remote o t
      ((d.recipeDrop.setCfg fun x => { x with atIndex := x.atIndex.filter fun c => c.whos ≠ [w] }).commitEnd [w] 0x800A 0 0).notePending
    | some c, some w => d.recipeDrop.commitEnd [w] c 0 0
    | some _, none => d.recipeDrop
    | none, some (.remote _ _) => d
    | none, some w => if r.atIndex then d.requestAt r.index w (some r.recipe) else d.requestNext w 0
    | none, none => d

/-! ### Commits across a cascade (R491) -/

/-- A COMMIT packet arrives. Log 284 (DEDUCED, unsafe). -/
def Dev.commitReceive (d : Dev) (bs : List Byte) : Dev :=
  let n := leAt bs 0 8
  let who : Who := .remote (leAt bs 14 1) (leAt bs 8 4)
  let r := leAt bs 13 1
  let recipe := if leAt bs 12 1 = 1 then some r else none
  if !d.mode.framed then d.commitEnd [who] 0x800B 0 0
  else if n ≤ d.pos.linesPassed then d.commitEnd [who] 0x800A 0 0
  else
    let (d, bad) := if recipe.isSome then d.recipeApply r true n (some who) else (d, none)
    match bad with
    | some _ => d.commitEnd [who] 0x800A 0 0
    | none => (d.setCfg fun x => { x with atIndex := x.atIndex ++ [{ index := some n, whos := [who], recipe := recipe }] }).notePending

/-- A COMMIT_RESULT arrives at the origin. Log 172 (DEDUCED, unsafe), 173 (DEDUCED, unsafe). -/
def Dev.commitResult (d : Dev) (bs : List Byte) : Dev :=
  let t := leAt bs 0 4
  let bad := decide (leAt bs 4 2 ≠ 0)
  let i := leAt bs 6 1
  let d := d.setCfg fun x => { x with
    atIndex := x.atIndex.map fun c => if c.token = some t then { c with answered := i :: c.answered.filter (· ≠ i), refused := if bad then i :: c.refused else c.refused } else c,
    waits := x.waits.map fun w => if w.token = t then { w with answered := i :: w.answered.filter (· ≠ i), refused := if bad then i :: w.refused else w.refused } else w }
  d.waitEnd false

/-- CASCADE_COMMIT_TIMEOUT: 10 ms have passed since the hand-over of the oldest commit that waits for answers. Log 173 (DEDUCED, unsafe). -/
def Dev.cascadeTimeout (d : Dev) : Dev :=
  match d.cfg.waits with
  | w :: _ => (d.advance (w.doneAt + usCycles 10000)).waitEnd true
  | [] => d

/-- TAP_COPYBACK: the new live tap tables are copied into the shadow copy; an entry written since keeps its value (R124). Log 176 (DEDUCED, unsafe). -/
def Dev.tapCopyback (d : Dev) : Dev :=
  if !d.cfg.copying then d else
  let as := (d.taps ++ d.tapsLive).map (·.1)
  (as.foldl (fun d a => if tget 0 d.cfg.claims a = 0 then d.setShadow a (d.liveWord a) else d) d).setCfg fun x => { x with copying := false }

end Sys2Proof.Machine
end

