-- ==== Sys2Proof/Machine/Rotation.lean ====
section
/-!
DEFINITION. Spare rotation, stripes that fail, and self-tests (chapter 18, R517 to R530).
-/
namespace Sys2Proof.Machine

def Dev.setRot (d : Dev) (f : RotState → RotState) : Dev := { d with rot := f d.rot }

/-- Note a 0xCxxx code that names no stripe. -/
def Dev.tstCode (d : Dev) (code : Nat) : Dev := (d.setFld R.TST_LAST_ERR_CODE code).setFld R.TST_LAST_ERR_STRIPE 0

/-- Note a 0xCxxx code with its stripe. -/
def Dev.stripeCode (d : Dev) (n code : Nat) : Dev := (d.setFld R.TST_LAST_ERR_CODE code).setFld R.TST_LAST_ERR_STRIPE n

/-- STATE of a stripe (R517): 0 ACTIVE, 1 SPARE_READY, 2 MIRROR, 3 SELFTEST, 4 FAILED. -/
def Dev.stripeState (d : Dev) (n : Nat) : Nat := d.fld (R.TST_STRIPE_STATE_STATE n)

/-- A stripe that is SPARE_READY. Log 162 (DESIGN CHOICE, unsafe). -/
def Dev.spareReady (d : Dev) : Option Nat := (List.range 17).find? fun n => decide (d.stripeState n = 1)

/-- A stripe changes its state; SPARE_READY follows. -/
def Dev.setStripe (d : Dev) (n st : Nat) : Dev :=
  let d := d.setFld (R.TST_STRIPE_STATE_STATE n) st
  d.setFlag R.TST_ROT_STATUS_SPARE_READY d.spareReady.isSome

def Dev.rotPhase (d : Dev) : Nat := d.fld R.TST_ROT_STATUS_PHASE

/-- The role of a stripe, if it holds one. -/
def Dev.roleOf (d : Dev) (n : Nat) : Option Nat := (List.range 16).find? fun r => decide (d.stripeOf r = n)

/-- The role that R518 takes next. -/
def Dev.nextRole (d : Dev) : Nat := match d.rot.last with | some r => (r + 1) % 16 | none => 0

/-- A SPARE_ROTATE moves to another of its states (R529). -/
def Dev.rotOp (d : Dev) (phase : Nat) : Dev := match d.rot.op with | some x => d.updCtx x fun y => { y with phase := phase } | none => d

/-- A SPARE_ROTATE ends. Log 193 (DEDUCED, unsafe). -/
def Dev.rotOpEnd (d : Dev) (status result : Nat) : Dev :=
  match d.rot.op with
  | some x => (d.setRot fun r => { r with op := none }).opEnd x status result 0
  | none => d

/-- Between rotations: WAIT_BOUNDARY while one is due, else idle (R519). -/
def Dev.rotIdle (d : Dev) : Dev :=
  match d.rot.waiting with
  | [] => d.setFld R.TST_ROT_STATUS_PHASE 0
  | w :: _ => ((d.setFld R.TST_ROT_STATUS_PHASE 1).setFld R.TST_ROT_STATUS_ROLE w.1).setFld R.TST_ROT_STATUS_SOURCE (d.stripeOf w.1)

/-- The rotation in progress is over: its role counts as the last, and the period runs from now (R518). -/
def Dev.rotOver (d : Dev) (status result : Nat) : Dev :=
  let role := d.fld R.TST_ROT_STATUS_ROLE
  ((d.rotOpEnd status result).setRot fun r => { r with last := some role, from_ := d.time }).rotIdle

/-- A rotation falls due (R518, R529): it waits for the next FRAME_POS. Log 192 (DEDUCED, unsafe). -/
def Dev.rotAdd (d : Dev) (role : Nat) (op : Option Nat) : Dev :=
  let d := d.setRot fun r => { r with waiting := r.waiting ++ [(role, op)] }
  if d.rotPhase = 0 then d.rotIdle else d

/-- Is a scheduled rotation due or in progress. -/
def Dev.scheduled (d : Dev) : Bool := (d.rot.waiting.any fun w => w.2.isNone) || (decide (2 ≤ d.rotPhase) && d.rot.op.isNone)

/-- ROTATION_DUE: ROTATE_PERIOD seconds have passed (R518). -/
def Dev.rotationDue (d : Dev) : Dev :=
  let p := d.fld R.TST_ROT_CTRL_ROTATE_PERIOD
  if !(d.flag R.TST_ROT_CTRL_ROTATE_EN) ∨ p = 0 ∨ d.rot.from_ = 0 ∨ d.scheduled ∨ d.rot.again.isSome then d else
  let d := d.advance (max d.time (d.rot.from_ + p * usCycles 1000000))
  d.rotAdd d.nextRole none

/-- The TEST of a stripe that runs or is suspended (R530). `keep`: TARGET, then its operand. Log 196 (DEDUCED, unsafe). -/
def Dev.stripeTest (d : Dev) : Option (Nat × Ctx) := (d.opsOf 0x11).find? fun x => decide (x.2.keep.getD 0 9 = 0) && decide (x.2.phase ≤ 1)

/-- The spare for a take-over or a rotation: a stripe that is SPARE_READY; for a take-over also one under TEST.  The test ends CANCELLED
(R530). -/
def Dev.takeSpare (d : Dev) (takeOver : Bool) : Option (Nat × Dev) :=
  let tested := d.stripeTest.map fun x => (x.1, x.2.keep.getD 1 0)
  let n := match d.spareReady with | some n => some n | none => if takeOver then tested.map (·.2) else none
  match n with
  | none => none
  | some n => match tested with
    | some (x, m) => if m = n then some (n, (d.setStripe n 1).opEnd x 0x1009 0 0) else some (n, d)
    | none => some (n, d)

/-- Role `r` passes to a stripe from row `b` on (R523, R526). Log 188 (DESIGN CHOICE, unsafe). -/
def Dev.giveRole (d : Dev) (r n b : Nat) : Dev :=
  let old := d.stripeOf r
  let d := d.setRot fun x => { x with switches := (r, b, old) :: x.switches.filter fun s => s.1 ≠ r }
  (d.setFld ⟨(R.TST_ROLE_MAP (r / 4)).addr, r % 4 * 8, 5⟩ n).setStripe n 0

/-- The first role that waits for a take-over; one whose mirror period counts goes first. -/
def Dev.failedFirst (d : Dev) : Option (Nat × Bool) := match d.rot.failed.find? fun x => x.2 with | some x => some x | none => d.rot.failed.head?

/-- A take-over at boundary `b` (R526, R527).  Answers the role taken over.
Log 187 (DEDUCED, unsafe), 188 (DESIGN CHOICE, unsafe), 194 (DEDUCED, unsafe). -/
def Dev.takeOver (d : Dev) (b : Nat) : Dev × Option Nat :=
  match d.failedFirst with
  | none => (d, none)
  | some (r, mirrored) =>
    let spare := if mirrored then some (d.rot.spare, d) else if d.rotPhase = 2 ∨ d.rotPhase = 3 then none else d.takeSpare true
    match spare with
    | none => (d, none)
    | some (n, d) =>
      let old := d.stripeOf r
      let d := ((d.giveRole r n b).setFld R.TST_ROT_STATUS_SPARE old).setFlag (R.STR_LBL_STATUS_EMITTING old) false
      let d := d.setRot fun x => { x with failed := x.failed.filter fun f => f.1 ≠ r, stallAt := tset 0 x.stallAt r 0 }
      let d := if mirrored then { (d.rotOver 0xC006 0) with handed := tupd [] d.handed r fun hs => hs.filter fun h => decide (b ≤ h.line) }
        else
          let d := ((d.segTakeOver r b).corTakeOver r b).calAbandon 0x5008
          { d with blv := { d.blv with nextWin := tset 0 d.blv.nextWin r b }, prf := { d.prf with forced := d.prf.forced ++ [(r, b)] }, blob := { d.blob with lostRoles := d.blob.lostRoles ++ [(r, b)] } }
      let d := if d.rot.failed.isEmpty then d.setFlag R.GLB_MISSING_STRIPE false else d
      (d.setFld (R.TST_UCODE_SEQ n) d.cfg.ucode, some r)

/-- COPY begins at boundary `b` (R519, R520): the first rotation that is due and not suspended. -/
def Dev.rotBegin (d : Dev) (b : Nat) : Dev :=
  let runs := fun (w : Nat × Option Nat) => d.roleHeld w.1 && (match w.2 with | some x => (match d.ctx x with | some y => decide (y.st = 1) | none => true) | none => true)
  match d.rot.waiting.find? runs with
  | none => d
  | some w => match d.takeSpare false with
    | none => d
    | some (n, d) =>
      let again := d.rot.again
      let d := d.setRot fun x => { x with waiting := x.waiting.erase w, spare := n, source := d.stripeOf w.1, b1 := b, op := w.2, retry := decide (again = some w.1) && w.2.isNone, again := if again = some w.1 then none else again }
      let d := (((d.setFld R.TST_ROT_STATUS_PHASE 2).setFld R.TST_ROT_STATUS_ROLE w.1).setFld R.TST_ROT_STATUS_SOURCE (d.stripeOf w.1)).setStripe n 2
      ((d.setFlag (R.STR_LBL_STATUS_EMITTING n) false).setFld (R.TST_UCODE_SEQ n) d.cfg.ucode).rotOp 1

/-- The switch at boundary `b` (R523). -/
def Dev.rotSwitch (d : Dev) (b : Nat) : Dev :=
  let d := d.giveRole (d.fld R.TST_ROT_STATUS_ROLE) d.rot.spare b
  let d := (d.setFld R.TST_ROT_STATUS_PHASE 4).incr R.TST_ROT_CNT
  ((d.raise R.TST_EVENTS_SWITCHED).rotOp 2)

/-- The rotation and take-overs at boundary `b`, after its commits (R519, R526, R527). Answers the role taken over. -/
def Dev.rotBoundary (d : Dev) (b : Nat) : Dev × Option Nat :=
  let fl := d.pos.frameLines
  let sound := decide (d.stripeState d.rot.source ≠ 4)
  let d := if d.rotPhase = 2 ∧ d.rot.b1 + fl ≤ b then d.setFld R.TST_ROT_STATUS_PHASE 3 else if d.rotPhase = 3 ∧ d.rot.b1 + 2 * fl ≤ b ∧ sound then d.rotSwitch b else d
  let (d, r) := d.takeOver b
  if r.isSome ∨ 2 ≤ d.rotPhase then (d, r) else (d.rotBegin b, none)

/-- The rows mirrored so far are the progress of a SPARE_ROTATE (R529). Log 197 (DESIGN CHOICE, unsafe). -/
def Dev.rotProgress (d : Dev) : Dev :=
  match d.rot.op with
  | some x => if d.rotPhase = 2 ∨ d.rotPhase = 3 then d.updCtx x fun y => { y with progress := d.pos.linesPassed - d.rot.b1 } else d
  | none => d

/-- A row of the spare differs from the source's during COMPARE (R522). Log 192 (DEDUCED, unsafe). -/
def Dev.rotDiverge (d : Dev) : Dev :=
  if d.rotPhase ≠ 3 ∨ d.stripeState d.rot.source = 4 then d else
  let role := d.fld R.TST_ROT_STATUS_ROLE
  let d := ((d.raise R.TST_EVENTS_MIRROR_DIVERGE).stripeCode d.rot.source 0xC004)
  let d := ((d.bump (R.TST_STRIPE_STATE_DIVERGE_CNT d.rot.source)).bump (R.TST_STRIPE_STATE_DIVERGE_CNT d.rot.spare)).setStripe d.rot.spare 3
  let planned := d.rot.op.isNone
  let d := if planned ∧ d.rot.retry then (d.raise R.TST_EVENTS_STRIPE_SUSPECT).stripeCode d.rot.source 0xC00F else d
  let d := d.setRot fun x => { x with again := if planned && !x.retry then some role else none }
  d.rotOver 0xC004 0

/-- The part leaves the framed modes: a rotation in COPY or COMPARE is abandoned (R518). Log 192 (DEDUCED, unsafe), 193 (DEDUCED, unsafe). -/
def Dev.rotAbandon (d : Dev) : Dev :=
  if d.rotPhase ≠ 2 ∧ d.rotPhase ≠ 3 then d else
  let d := if d.stripeState d.rot.spare = 2 then d.setStripe d.rot.spare 3 else d
  (d.rotOpEnd 0xC003 0).rotIdle

/-- Has the old stripe handed on its last row below B3 in every unit (R519): the rows up to B3 have been merged, handed on and labelled.  A
pipeline that does not run has none. -/
def Dev.switchDone (d : Dev) : Bool :=
  let b3 := d.rot.b1 + 2 * d.pos.frameLines
  let r := d.fld R.TST_ROT_STATUS_ROLE
  !d.mode.framed || !(d.blvVer b3).enable || !(d.waitedAt b3 r) || (decide (b3 ≤ d.blv.nextRow) && decide (b3 ≤ (d.chain r).next) && decide (b3 ≤ d.blob.nextRow))

/-- ROTATION_SWITCH_DONE (R519, R523): the old stripe becomes the spare and starts its self-test. -/
def Dev.rotationSwitchDone (d : Dev) : Dev :=
  if d.rotPhase ≠ 4 ∨ !d.switchDone then d else
  let sa := d.rot.source
  let d := (d.setFld R.TST_ROT_STATUS_SPARE sa).setFlag (R.STR_LBL_STATUS_EMITTING sa) false
  if d.stripeState sa = 4 then (d.raise R.TST_EVENTS_NO_SPARE).rotOver 0xC006 0
  else ((d.setFld R.TST_ROT_STATUS_PHASE 5).setStripe sa 3).rotOp 3

/-- SELFTEST_DONE (R524, R529, R530): the self-test of stripe `n` ends, with the unit that failed. Log 196 (DEDUCED, unsafe). -/
def Dev.selftestDone (d : Dev) (n : Nat) (pass : Bool) (unit : Nat) : Dev :=
  if d.stripeState n ≠ 3 then d else
  let d := if pass then (d.setStripe n 1).setFld (R.TST_UCODE_SEQ n) d.cfg.ucode
    else
      let d := ((((d.setStripe n 4).setFld (R.TST_STRIPE_STATE_FAIL_UNIT n) unit).raise R.TST_EVENTS_SELFTEST_FAIL).stripeCode n 0xC005)
      if d.spareReady.isNone then d.raise R.TST_EVENTS_NO_SPARE else d
  let d := match d.stripeTest with
    | some (x, y) => if y.keep.getD 1 99 = n then (d.updCtx x fun y => { y with phase := 2, progress := 9 }).opEnd x 0 (b2n pass + (if pass then 0 else unit * 256)) 0 else d
    | none => d
  if d.rotPhase = 5 ∧ d.rot.source = n then
    if pass then d.rotOver 0 (d.stripeOf (d.fld R.TST_ROT_STATUS_ROLE) + n * 256) else d.rotOver 0xC005 0
  else match d.rot.again with
    | some r =>
      if n ≠ d.rot.spare then d
      else if pass then
        let d := d.setRot fun x => { x with waiting := (r, none) :: x.waiting }
        if d.rotPhase = 0 then d.rotIdle else d
      else d.setRot fun x => { x with again := none }
    | none => d

/-- A stripe fails (R525, R527). Log 187 (DEDUCED, unsafe), 191 (DEDUCED, unsafe). -/
def Dev.stripeFail (d : Dev) (n unit code : Nat) : Dev :=
  if d.stripeState n = 4 then d else
  let role := d.roleOf n
  let was := d.stripeState n
  let ph := d.rotPhase
  let d := (((d.setStripe n 4).setFld (R.TST_STRIPE_STATE_FAIL_UNIT n) unit).raise R.TST_EVENTS_STRIPE_FAIL).stripeCode n code
  let mirrored := decide (ph = 3) && decide (d.rot.source = n)
  let d := match role with
    | some r => (d.setFld R.GLB_MISSING (d.fld R.GLB_MISSING ||| 2 ^ r)).setRot fun x => { x with failed := x.failed ++ [(r, mirrored)], again := if x.again = some r then none else x.again }
    | none => d
  let d := if role.isNone ∧ d.rot.spare = n then d.setRot fun x => { x with failed := x.failed.map fun f => (f.1, false) } else d
  let d := if ph = 2 ∨ ph = 3 then
      if mirrored then d
      else if role.isSome then (d.setStripe d.rot.spare 1).rotOver 0xC006 0
      else d.rotOver 0xC006 0
    else if ph = 5 ∧ d.rot.source = n then d.rotOver 0xC006 0
    else d
  let d := match d.stripeTest with
    | some (x, y) => if y.keep.getD 1 99 = n then d.opEnd x 0xC006 0 0 else d
    | none => d
  let d : Dev := if role.isNone && d.spareReady.isNone then d.raise R.TST_EVENTS_NO_SPARE else d
  if role.isSome && d.spareReady.isNone && !mirrored && decide (was = 0) then d.setFlag R.GLB_MISSING_STRIPE true else d

/-- STRIPE_ERROR. Log 189 (DEDUCED, unsafe), 190 (DEDUCED, unsafe). -/
def Dev.stripeError (d : Dev) (n : Nat) (e : SramError) : Dev :=
  match e with
  | .corrected => d.bump (R.TST_STRIPE_STATE_CE_CNT n)
  | .stripeStore => d.stripeFail n 6 0xC006
  | .microcodeStore => d.stripeFail n 7 0xC006
  | .microcodeParity => d.stripeFail n 7 0xC00D

/-- A row was merged: the stall time of every role that is waited for runs from the first row after its last band line (R525).
Log 195 (DEDUCED, unsafe). -/
def Dev.stallMark (d : Dev) (l : Nat) : Dev :=
  d.setRot fun x => { x with stallAt := (List.range 16).foldl (fun t r => if tget 0 t r = 0 && d.waitedAt l r then tset 0 t r (d.time + 1) else t) x.stallAt }

/-- A role has handed on a band line. -/
def Dev.stallClear (d : Dev) (r : Nat) : Dev := d.setRot fun x => { x with stallAt := tset 0 x.stallAt r 0 }

/-- STRIPE_STALL: the stripe has handed on no band line for STALL_US while its role is waited for and rows are merged.
Log 190 (DEDUCED, unsafe), 195 (DEDUCED, unsafe). -/
def Dev.stripeStall (d : Dev) (n : Nat) : Dev :=
  match d.roleOf n with
  | none => d
  | some r =>
    let t := tget 0 d.rot.stallAt r
    if t = 0 ∨ !d.mode.framed ∨ !(d.waitedAt d.blv.nextRow r) then d else
    (d.advance (max d.time (t - 1 + usCycles (max (d.fld R.TST_STALL_US) 1)))).stripeFail n 0 0xC006

/-! ### SPARE_ROTATE (R529) -/

/-- The SPARE_ROTATE command. -/
def Dev.spareRotate (d : Dev) (q : Nat) : Dev :=
  let bad := fun (c : HostCmd) => decide (15 < c.specAt 0 1) && decide (c.specAt 0 1 ≠ 0xFF)
  d.startCmd q 0x16 bad noBuf fun c d =>
    if !(d.opsOf 0x16).all (fun x => some x.1 = c.ctx) then d.finish c 0x1005 0 0
    else if !d.mode.framed then (d.tstCode 0xC003).finish c 0xC003 0 0
    else if d.spareReady.isNone then (d.tstCode 0xC002).finish c 0xC002 0 0
    else
      let role := if c.specAt 0 1 = 0xFF then d.nextRole else c.specAt 0 1
      (d.opStart c fun y => { y with keep := [role] }).rotAdd role c.ctx

/-- A SPARE_ROTATE in WAIT_BOUNDARY or MIRROR is cancelled (R371, R372): a spare that mirrored returns to SELFTEST. Log 196 (DEDUCED, unsafe). -/
def Dev.rotCancel (d : Dev) (x : Nat) : Dev :=
  if d.rot.waiting.any fun w => w.2 = some x then
    let d := d.setRot fun r => { r with waiting := r.waiting.filter fun w => w.2 ≠ some x }
    (if d.rotPhase ≤ 1 then d.rotIdle else d).opEnd x 0x1009 0 0
  else if d.rot.op = some x then
    let d := if d.stripeState d.rot.spare = 2 then d.setStripe d.rot.spare 3 else d
    d.rotOver 0x1009 0
  else d

end Sys2Proof.Machine
end

