-- ==== Sys2Proof/Machine/Modes.lean ====
section
/-!
DEFINITION. The modes of the part, requests for them, starts, DISCOVER's readiness, and FAULT (chapter 16, R465 to R473).
-/
namespace Sys2Proof.Machine

def modeOf (code : Nat) : Option Mode :=
  [Mode.reset, .foyer, .recovery, .standby, .discover, .armed, .inspect, .degraded, .calibrate, .replay, .service, .fault][code]?

/-- The targets that a request may name in a mode (R466, R468). Log 182 (DEDUCED, unsafe). -/
def Mode.mayRequest (m t : Mode) : Bool :=
  match t with
  | .standby => match m with | .discover | .armed | .inspect | .degraded | .calibrate | .replay | .service => true | _ => false
  | .service => match m with | .standby | .discover | .armed | .inspect | .degraded | .calibrate | .replay => true | _ => false
  | .discover => decide (m = .standby)
  | .armed => decide (m = .inspect) || decide (m = .degraded) || decide (m = .calibrate)
  | .inspect => decide (m = .armed) || decide (m = .degraded) || decide (m = .calibrate)
  | .calibrate => decide (m = .inspect) || decide (m = .degraded)
  | _ => false

/-! ### The end of a request (R374, R468) -/

/-- A mode request ends: MODE_RSTAT and MODE_VALUE, and the FINAL entry of its command. -/
def Dev.modeEnd (d : Dev) (target : Nat) (who : Who) (status mode : Nat) : Dev :=
  let d := d.setCfg fun x => { x with modeR := { x.modeR with ready := true, fresh := true, status := status, value := mode }, modeTarget := target }
  let d := if status = 0 then d else d.glbErr status
  match who with
  | .host x => match d.ctx x with | some y => d.finish y.cmd status mode 0 | none => d
  | _ => d

/-- The pending request ends (R468). -/
def Dev.modeDone (d : Dev) (status mode : Nat) : Dev :=
  match d.cfg.modeReq with
  | none => d
  | some (t, who) => ((d.setCfg fun x => { x with modeReq := none }).setFld R.GLB_MODE_PENDING 15).modeEnd t who status mode

/-! ### A change of mode (R466) -/

/-- What leaving the present mode for another ends: open defects, requests to the classifier, chains, the rotation, the calibration cycle, and the
operations that the mode carries. Log 94 (DEDUCED, unsafe), 96 (DEDUCED, unsafe), 186 (DEDUCED, unsafe). -/
def Dev.leaveMode (d : Dev) (m : Mode) : Dev :=
  let old := d.mode
  let d : Dev := if old.looks && !m.looks then
      let (d, o) := d.blobStop m.framed
      let d := d.afterRow o
      if m = .fault then d else let (d, vs) := d.dcaStop; d.markDecisions vs
    else if decide (old = .calibrate) && !m.framed then (d.blobStop false).1
    else d
  let d := d.calAbandon 0x5008
  let d := if old = .calibrate then (d.opsOf 0x10).foldl (fun d x => d.extEnd.opEnd x.1 0x500C 0 0) d else d
  let d := if old = .replay then (d.opsOf 0x13).foldl (fun d x => if x.2.phase = 2 then d else d.opEnd x.1 0x1009 0 0) d else d
  if old.framed && !m.framed then d.segStop.rotAbandon else d

/-- The change itself, with what follows the mode: GLB.MODE, ports, links, the panel, commits that wait, and MODE_CHANGE. Log 47 (DEDUCED, unsafe). -/
def Dev.setMode (d : Dev) (m : Mode) : Dev :=
  let old := d.mode
  let d := d.leaveMode m
  let d := ({ d with mode := m }.setFld R.GLB_MODE_MODE m.code).setFld R.GLB_MODE_PREV old.code
  let d := if m.linked then d else (({ d with pos := { d.pos with follows := false, synced := false, msg := none } }.setFld R.POS_SYNC_STATUS_SYNC_OK 0).setFld R.POS_STATUS_HOLDOVER 0)
  let d := ((d.portsForMode.portPower 0).portPower 1).galCheck
  let d := d.fire P.modeChange
  let d := d.tellCascade
  let d := if old.framed && !m.framed then d.commitLeave else d
  match d.cfg.modeReq with
  | some (t, _) => if t ≠ m.code ∧ !(match modeOf t with | some x => m.mayRequest x | none => false) then d.modeDone 0x800E 0 else d
  | none => d

/-- Entry to DISCOVER: the position is live again (R462), and the readiness of R469 is awaited. -/
def Dev.enterDiscover (d : Dev) : Dev :=
  let d := (d.setFld R.KSL_CASCADE_FIXED 0).setMode .discover
  ((d.setCfg fun x => { x with discoverAt := d.time, late := false }).tellCascade).capHeld

/-! ### Entry to INSPECT (R46, R154, R171, R193, R238, R467, R470) -/

/-- The pipelines start a run whose rows begin with `first`; row and column values start from `base`. Log 178 (DEDUCED, unsafe). -/
def Dev.beginRun (d : Dev) (first base : Nat) (attic : Bool) : Dev :=
  let d := { d with pos := { d.pos with epochs := [(0, d.fld R.GLB_EPOCH)], firstLine := first } }
  let d := d.corStart
  let d := if attic then d.attInit else d
  let d := ((d.blvStart first).prfStart base).segStart
  let d := { (d.blobStart first).dcaStart.galStart with pantry := { d.pantry with settledSeen := false } }
  d.setRot fun r => { r with from_ := d.time, switches := [], stallAt := [] }

/-- The output grid of a run: the device's own, or for a slave the master's (R46, R57). -/
def Dev.gridStart (d : Dev) : Dev :=
  match d.pos.follows, d.pos.msg with
  | true, some (m, _) =>
    let p := d.outPitch
    let n := if d.pos.hwm < m.grid then 0 else ((d.pos.hwm - m.grid) / (p : Int) + 1).toNat
    { d with pos := { d.pos with gridOrigin := m.grid, grid := [{ line := 0, pos := m.grid, pitch := p }], linesPassed := n, frameLines := 2 ^ d.frameLog2 } }
  | _, _ => d.latchGrid

/-- A start (R470): from ARMED into INSPECT, or into DEGRADED while something is missing.  A request for INSPECT that waits completes.
Log 178 (DEDUCED, unsafe). -/
def Dev.start (d : Dev) : Dev :=
  if d.mode ≠ .armed then d else
  let d := { d with pos := { d.pos with hwm := d.pos.md, xAlign := if d.pos.used = [] then 0 else d.pos.md - d.ownForm.md d.pos.wpos } }
  let d := d.gridStart
  let d := (List.range 48).foldl Dev.genStart d
  let d := d.beginRun d.pos.linesPassed 0 true
  let m : Mode := if d.fld R.GLB_MISSING = 0 then .inspect else .degraded
  let d := d.setMode m
  if d.cfg.modeReq.isSome then d.modeDone 0 m.code else d

/-- START_SRC (R470); 3 acts as 2. -/
def Dev.startSrc (d : Dev) : Nat := min (d.live R.GLB_MODE_CFG_START_SRC) 2

/-- A MOTION start: the cycle in which MOVING is set (R470). -/
def Dev.motionEvent (d : Dev) (moved : Bool) : Dev :=
  if moved && !d.isSlave && decide (d.startSrc ≠ 1) then d.start else d

/-- Entry to ARMED: the position is fixed (R462), a slave may follow its master again (R59), record numbers start anew (R254), after the
records of the mode that is left (R258). Log 252 (DEDUCED, unsafe). -/
def Dev.enterArmed (d : Dev) : Dev :=
  let from_ := d.mode
  let d := if d.flag R.KSL_CASCADE_FIXED then d else (d.setFld R.KSL_CASCADE_FIXED 1).setFld R.KSL_CASCADE_DEVICE (d.fld R.KSL_CASCADE_W)
  let d := ({ d with pos := { d.pos with left := false, switched := false, follows := d.pos.follows && d.isSlave, unmatched := if d.pos.follows then d.pos.unmatched else 0, slaveFrom := d.time } }).setMode .armed
  let d := { d with recs := { d.recs with rseq := 0, boundaries := 0, hbAt := d.time }, prf := { d.prf with syncRow := none } }
  let d := d.setFld R.BLV_REC_LOST_TOTAL 0
  if from_ = .discover then d.motionEvent (d.flag R.POS_STATUS_MOVING) else d

/-! ### Requests (R468) -/

/-- A request's change takes effect: the next cycle for those within 1 µs. -/
def Dev.modeApply (d : Dev) (t : Mode) : Dev :=
  let d := d.advance (d.time + 1)
  let d := match t with
    | .discover => d.enterDiscover
    | .armed => d.enterArmed
    | m => d.setMode m
  d.modeDone 0 t.code

/-- A request for a mode (R468). Log 179 (DEDUCED, unsafe), 182 (DEDUCED, unsafe). -/
def Dev.modeRequest (d : Dev) (target : Nat) (who : Who) : Dev :=
  let waits : Bool := match d.cfg.modeReq with | some (t, _) => decide (t = 6) && decide (d.mode = .armed) | none => false
  match modeOf target with
  | none => d.modeEnd target who 0x800E 0
  | some t =>
    if !d.mode.mayRequest t then d.modeEnd target who 0x800E 0
    else if d.cfg.modeReq.isSome && !(waits && decide (t ≠ .inspect)) then d.modeEnd target who 0x800F 0
    else
      let d := if waits then d.modeDone 0x800E 0 else d
      let d := d.setCfg fun x => { x with modeReq := some (target, who), modeR := { latched := x.modeR.latched }, modeTarget := target }
      let d := d.setFld R.GLB_MODE_PENDING target
      match t with
      | .inspect => if d.mode = .armed ∧ !d.isSlave ∧ d.startSrc ≠ 0 then d.start else d
      | .calibrate => d
      | t => d.modeApply t

/-- The change of mode due at a boundary (R466, R473): a request, then DEGRADED, then the return to INSPECT. -/
def Dev.boundaryMode (d : Dev) : Dev :=
  let p := d.cfg.modeReq.map (·.1)
  let miss := decide (d.fld R.GLB_MISSING ≠ 0)
  match d.mode with
  | .inspect => if p = some 8 then (d.setMode .calibrate).modeDone 0 8 else if miss then d.setMode .degraded else d
  | .degraded =>
    if p = some 8 then (d.setMode .calibrate).modeDone 0 8
    else if !miss && decide (p = some 6) then (d.setMode .inspect).modeDone 0 6
    else if !miss && d.lflag R.GLB_MODE_CFG_AUTO_RETURN then d.setMode .inspect
    else d
  | .calibrate =>
    if p ≠ some 6 then d
    else if miss then (d.setMode .degraded).modeDone 0 7 else (d.setMode .inspect).modeDone 0 6
  | _ => d

/-! ### DISCOVER (R469) -/

/-- The ports that feed a role that runs, and have not come up. Log 61 (DEDUCED, unsafe). -/
def Dev.portsWaited (d : Dev) : List Nat :=
  (((streamsOf d.live).filter fun s => d.lflag (R.STR_COR_CTRL_ENABLE s.role)).map (·.port)).eraseDups.filter fun p => !d.portUp p

/-- Is a source of position there. Log 184 (DEDUCED, unsafe). -/
def Dev.posReady (d : Dev) : Bool := if d.isSlave then d.flag R.POS_SYNC_STATUS_SYNC_OK else decide (d.pos.used ≠ [])

/-- Is W the POSITION that the recipe was applied with. -/
def Dev.placed (d : Dev) : Bool := decide (d.fld R.KSL_CASCADE_W = d.fld R.GLB_BOOT_POSITION)

/-- DISCOVER_READY: everything that R469 waits for is there. Log 184 (DEDUCED, unsafe). -/
def Dev.discoverReady (d : Dev) : Dev :=
  if d.mode ≠ .discover ∨ !d.flag R.KSL_CASCADE_READY then d
  else if !d.placed then d.glbEvent R.GLB_EVENTS_POSITION_MISMATCH 0x8016
  else if d.portsWaited ≠ [] ∨ !d.posReady then d
  else (d.advance (d.time + 1)).enterArmed

/-- DISCOVER_TIMEOUT: under ALLOW_PARTIAL the part goes to ARMED with what is missing. Log 184 (DEDUCED, unsafe). -/
def Dev.discoverTimeout (d : Dev) : Dev :=
  if d.mode ≠ .discover ∨ d.cfg.late then d else
  let d := d.advance (max d.time (d.cfg.discoverAt + usCycles (1000 * max (d.live R.GLB_MODE_CFG_DISCOVER_TIMEOUT) 1)))
  let d := (d.setCfg fun x => { x with late := true }).setBit R.GLB_EVENTS_DISCOVER_LATE
  if !d.placed then d.glbEvent R.GLB_EVENTS_POSITION_MISMATCH 0x8016
  else if !d.lflag R.GLB_MODE_CFG_ALLOW_PARTIAL then d
  else
    let d := d.portsWaited.foldl Dev.portMissing d
    let d := if 0 < d.fld R.KSL_CASCADE_W ∧ !d.sideActive 0 then d.setFld (missingSide 0) 1 else d
    let d := if d.fld R.KSL_CASCADE_W + 1 < d.cascadeSize ∧ !d.sideActive 1 then d.setFld (missingSide 1) 1 else d
    let d := if d.posReady then d else d.setFld (Fld.bit R.GLB_MISSING_CAUSE (if d.isSlave then 1 else 0)) 1
    d.enterArmed

/-! ### Sessions and FAULT (R472, R506) -/

/-- The session closes (R506): the Porch's groups are released, and a session that asked for SERVICE asks for STANDBY. -/
def Dev.sessionClose (d : Dev) : Dev :=
  match d.svc.session with
  | none => d
  | some s =>
    let d := { d with svc := { d.svc with session := none } }
    let d := (d.setFld R.SVC_STATUS_SESSION 0).raise R.SVC_EVENTS_SESSION_CLOSED
    let d := ((List.range 31).filter fun g => d.grpOwned 1 g).foldl Dev.dropGroup d
    if s.service then d.modeRequest 3 .reg else d

/-- Entry to FAULT, or a further cause while it is in force (R472). Log 183 (DEDUCED, unsafe). -/
def Dev.faultEnter (d : Dev) (causes : List Nat) : Dev :=
  if d.mode = .reset then d else
  let d := causes.foldl (fun d c => d.setBit (Fld.bit R.GLB_FAULT_CAUSE c)) d
  if d.mode = .fault then d else
  let errs := [R.GLB_LAST_ERR, R.GLB_HOST_LAST_ERR, R.BLV_REC_LAST_ERR, R.DCA_LAST_ERR, R.PLZ_LAST_ERR, R.DMA_LAST_ERR, R.MEM_LAST_ERR, R.KSL_LAST_ERR, R.SVC_LAST_ERR, R.TST_LAST_ERR]
  let ports := (List.range 16).map R.CAM_LAST_ERR ++ (List.range 4).map R.CLG_LAST_ERR
  let cap : LogEntry := { causes := causes, time := d.time, mode := d.mode, md := d.pos.md, lines := d.pos.linesPassed, epoch := d.fld R.GLB_EPOCH, print := d.fld R.GLB_FINGERPRINT, errs := (errs ++ ports).map d.fld }
  let d := { d.markFault.holdPins with log := d.log ++ [cap] }
  let d := d.setFld R.GLB_FAULT_TIME d.time
  let d := [0, 1].foldl (fun d s => if d.stage s = 5 then (List.replicate 3 ()).foldl (fun d _ => d.sendPacket s (d.newPacket PT.linkinfo 0 true (d.linkinfo 11))) d else d) d
  let d := d.setMode .fault
  d.dcaAbandon.sessionClose

/-- What a step asked to fault for takes effect at its end (R472, R473). -/
def Dev.settleFault (d : Dev) : Dev :=
  if d.faultReq.isEmpty then d else { d with faultReq := [] }.faultEnter d.faultReq

end Sys2Proof.Machine
end

