-- ==== Sys2Proof/Machine/LongOps.lean ====
section
/-!
DEFINITION. The long operations CALIBRATE, TEST, REPLAY, MODEL_LOAD and LANE_RETRAIN, the DRAM tester and the eye monitors, what acts on a running
operation, and the resets of host functions (R49, R275, R276, R326, R371 to R373, R384 to R386, R530 to R533).
-/
namespace Sys2Proof.Machine

/-- Is another operation of the command's kind running (R371). -/
def Dev.opBusy (d : Dev) (c : HostCmd) : Bool := !(d.opsOf c.op).all fun x => some x.1 = c.ctx

/-- The state index of an operation. -/
def Dev.opPhase (d : Dev) (x phase : Nat) : Dev := d.updCtx x fun y => { y with phase := phase }

/-! ### CALIBRATE (R326, R327): BLACK 0, HOLD 1, WHITE 2, COMPUTE 3, APPLY 4, DONE 5 -/

/-- The CALIBRATE command. -/
def Dev.calibrateOp (d : Dev) (q : Nat) : Dev :=
  d.startCmd q 0x10 noBad noBuf fun c d =>
    if d.opBusy c then d.finish c 0x1005 0 0
    else if !d.extAllowed then (d.calCode 0x500C 5).finish c 0x500C 0 0
    else
      let d := d.extStart
      d.opStart c fun y => { y with phase := if (match d.cal.ext with | some e => decide (e.mode = 1) | none => false) then 2 else 0 }

/-- Does the external run sum lines now. Log 118 (DEDUCED, unsafe). -/
def Dev.extSums (d : Dev) : Bool := (d.opsOf 0x10).any fun x => decide (x.2.st = 1) && (decide (x.2.phase = 0) || decide (x.2.phase = 2))

/-- EXT_CAL_SUMS_DONE: BLACK or WHITE is complete. -/
def Dev.extSumsDone (d : Dev) : Dev :=
  match d.opsOf 0x10, d.cal.ext with
  | (x, y) :: _, some e =>
    if !d.extSums ∨ !e.full then d
    else if y.phase = 0 then
      let d := d.setCal fun c => { c with ext := some { e with black := e.sums, sums := if e.mode = 2 then e.sums else [] } }
      if e.mode = 2 then d.opPhase x 3 else d.updCtx x fun y => { y with phase := 1, st := 2 }
    else d.opPhase x 3
  | _, _ => d

/-- EXT_CAL_COMPUTE_DONE: the results, or their rejection. -/
def Dev.extComputeDone (d : Dev) : Dev :=
  match d.opsOf 0x10, d.cal.ext with
  | (x, y) :: _, some e =>
    if y.phase ≠ 3 then d else
    match d.extCompute e with
    | .ok e => (d.setCal fun c => { c with ext := some e }).opPhase x 4
    | .error code => (d.calCode code 5).extEnd.opEnd x code 0 0
  | _, _ => d

/-- APPLY at boundary `b`, and DONE. -/
def Dev.extBoundary (d : Dev) (b : Nat) : Dev × Bool :=
  match d.opsOf 0x10, d.cal.ext with
  | (x, y) :: _, some e => if y.phase ≠ 4 then (d, false) else ((d.extApply e b).opPhase x 5 |>.opEnd x 0 0 0, true)
  | _, _ => (d, false)

/-! ### TEST (R530 to R533): PREPARE 0, RUN 1, REPORT 2 -/

/-- Blocks of 64 KiB in the DRAM test region. -/
def Dev.drtBlocks (d : Dev) : Nat := d.fld R.TST_DRT_SIZE / 65536

/-- Is a lane receiving (R532). -/
def Dev.laneReceives (d : Dev) (l : Nat) : Bool := receiveLane l && !d.laneAsleep l && d.flag (R.KSL_LANE_STATUS_SIGNAL l)

/-- The TEST command. `keep`: TARGET and its operand; for DRAM the first block, the count, errors, and the first failing address.
Log 200 (DEDUCED, unsafe). -/
def Dev.testOp (d : Dev) (q : Nat) : Dev :=
  d.startCmd q 0x11 noBad noBuf fun c d =>
    let w := c.specAt 4 4
    if d.opBusy c then d.finish c 0x1005 0 0 else
    let refuse := fun (code : Nat) => (d.tstCode code).finish c code 0 0
    let begin_ := fun (d : Dev) (keep : List Nat) => d.opStart c fun y => { y with phase := 1, keep := keep }
    match c.specAt 0 1 with
    | 0 => match (List.range 17).find? fun n => decide (d.place n = w) with
      | none => refuse 0xC00E
      | some n => if d.stripeState n ≠ 1 then refuse 0xC001 else begin_ (d.setStripe n 3) [0, n]
    | 1 =>
      let n := w / 65536
      if d.drtBlocks < w % 65536 + n then (d.tstCode 0xC008).finish c 0xC008 0 0
      else
        let d := begin_ d [1, w % 65536, n, 0, 0]
        if n = 0 then d.opEnd (c.ctx.getD 0) 0 0 0 else d
    | 2 => if w / 256 ≠ 0 ∨ !d.laneReceives (w % 256) then refuse 0xC00E else begin_ d [2, w % 256]
    | _ => refuse 0xC00E

/-- The pattern of the 64 B block at an address (R531). -/
def drtPattern (a sweep : Nat) (invert : Bool) : List Byte :=
  let p := a ^^^ 0x5A5A5A5A5A5A5A5A ^^^ sweep
  let p := if invert then 2 ^ 64 - 1 - p % 2 ^ 64 else p
  (List.range 8).flatMap fun _ => leBytes 8 p

/-- Where bytes that were read back first differ from those written. Log 200 (DEDUCED, unsafe). -/
def firstDiff (want got : List Byte) : Option Nat := (List.range want.length).find? fun i => decide (want.getD i 0 ≠ got.getD i 0)

/-- The tester checks the block at an address (R531): `first` and `second` are what the two reads returned where that is not what was written,
`corrected` the errors that ECC corrected.  Answers the mismatches and the first failing address. Log 286 (DEDUCED, unsafe). -/
def Dev.drtCheck (d : Dev) (a : Nat) (first second : Option (List Byte)) (corrected : Nat) : Dev × Nat × Option Nat :=
  let s := d.fld R.TST_DRT_STATUS_SWEEP
  let p := drtPattern a s false
  let n := drtPattern a s true
  let bad := (match first with | some g => (firstDiff p g).toList | none => []) ++ (match second with | some g => (firstDiff n g).toList | none => [])
  let d := (d.dramWrite a p).dramWrite a n
  let d := if bad ≠ [] ∧ (d.fld R.TST_DRT_ERR_CNT = 0 ∨ d.fld R.TST_DRT_FAIL_ADDR = 0) then d.setFld R.TST_DRT_FAIL_ADDR (a + bad.headD 0) else d
  let d := d.bump R.TST_DRT_ERR_CNT (bad.length + corrected)
  let d := if bad = [] then d else (d.raise R.TST_EVENTS_DRAM_TEST_FAIL).tstCode 0xC007
  (d, bad.length + corrected, bad.head?.map (a + ·))

/-- DRT_BLOCK: the DRAM tester checks its next 64 B block, of the TEST that runs or of the continuous sweep, while no C0 or C1 request for the
channel is raised. Log 200 (DEDUCED, unsafe). -/
def Dev.drtBlock (d : Dev) (ofTest : Bool) (first second : Option (List Byte)) (corrected : Nat) : Dev :=
  let base := d.fld R.TST_DRT_BASE / 65536 * 65536
  if ofTest then
    match (d.opsOf 0x11).find? fun x => decide (x.2.keep.getD 0 9 = 1) && decide (x.2.st = 1) && decide (x.2.phase = 1) with
    | none => d
    | some (x, y) =>
      let a := base + (y.keep.getD 1 0) * 65536 + y.next * 64
      if !d.doorQuiet (d.channelOf a) then d else
      let (d, n, bad) := d.drtCheck a first second corrected
      let was := y.keep.getD 3 0
      let addr := if was = 0 then bad.getD 0 else y.keep.getD 4 0
      let z := { y with next := y.next + 1, progress := (y.next + 1) / 1024, keep := [1, y.keep.getD 1 0, y.keep.getD 2 0, was + n, addr] }
      let d := d.setCtx x (some z)
      if y.keep.getD 2 0 * 1024 ≤ z.next then (d.opPhase x 2).opEnd x 0 (was + n) (addr % 2 ^ 32) else d
  else
    let n := d.drtBlocks * 1024
    if d.fld R.TST_DRT_CFG = 0 ∨ n = 0 then d else
    let i := if d.tst.drt < n then d.tst.drt else 0
    let a := base + i * 64
    if !d.doorQuiet (d.channelOf a) then d else
    let (d, _, _) := d.drtCheck a first second corrected
    let d := if i + 1 < n then { d with tst := { d.tst with drt := i + 1 } }
      else { d with tst := { d.tst with drt := 0 } }.incr R.TST_DRT_STATUS_SWEEP
    d.setFld R.TST_DRT_STATUS_BLOCK (d.tst.drt / 1024)

/-- EYE_PASS_DONE: the monitor of a lane ends a pass, or the full scan of a TEST (R530, R532, R533). -/
def Dev.eyePassDone (d : Dev) (l w h : Nat) (full : Bool) : Dev :=
  if !d.laneReceives l then d
  else if full then
    match (d.opsOf 0x11).find? fun x => decide (x.2.keep = [2, l]) && decide (x.2.st = 1) && decide (x.2.phase = 1) with
    | some (x, _) => (d.updCtx x fun y => { y with phase := 2, progress := 192 }).opEnd x 0 (w + h * 65536) 0
    | none => d
  else
    let d := (d.setFld (R.KSL_LANE_EYE_EYE_W l) w).setFld (R.KSL_LANE_EYE_EYE_H l) h
    if w < d.fld R.TST_EYE_LIMIT_EYE_W_MIN ∨ h < d.fld R.TST_EYE_LIMIT_EYE_H_MIN then
      ((d.setBit (Fld.bit (R.TST_EYE_LOW_MAP (l / 32)) (l % 32))).raise R.TST_EVENTS_EYE_LOW).tstCode 0xC009
    else d

/-! ### MODEL_LOAD (R275, R276): LOADING 0, VERIFYING 1 -/

/-- The MODEL_LOAD command. `keep`: bank and source. -/
def Dev.modelLoad (d : Dev) (q : Nat) : Dev :=
  let bad := fun (c : HostCmd) => decide (1 < c.specAt 0 1) || decide (2 < c.specAt 1 1)
  d.startCmd q 0x14 bad noBuf fun c d =>
    let k := c.specAt 0 1
    let other := (d.opsOf 0x14).any fun x => decide (some x.1 ≠ c.ctx) && decide (x.2.keep.getD 0 9 = k)
    let st := d.fld (bankState k)
    let a := R.DCA_CTRL.addr
    let named := decide (tget 0 d.cfg.claims a ≠ 0) && decide (d.grpState (tget 0 d.cfg.claims a - 1) = grpSealed) && decide (d.fld R.DCA_CTRL_ACTIVE_BANK = k)
    if other then d.finish c 0x1005 0 0
    else if st = bankActive ∨ st = bankDraining ∨ named then (d.setFld R.DCA_LAST_ERR 0xB005).finish c 0xB005 0 0
    else ((d.bankClear k bankLoading).setDca fun s => { s with images := tset [] s.images k [] }).opStart c fun y => { y with keep := [k, c.specAt 1 1] }

/-- The MODEL_LOAD of a bank in a state. -/
def Dev.loadOf (d : Dev) (k phase : Nat) : Option (Nat × Ctx) :=
  (d.opsOf 0x14).find? fun x => decide (x.2.keep.getD 0 9 = k) && decide (x.2.phase = phase) && decide (x.2.st = 1)

/-- The flash bytes of a load from a model slot, the `from_` first ones left out. -/
def Dev.slotBytes (d : Dev) (y : Ctx) (from_ : Nat) : List Byte := (d.flashImage (flashModel (y.keep.getD 1 1 - 1)) modelSize).drop from_

/-- A load is suspended (R276): it holds the bytes received, whose running hash they determine. `next`: how many. Of a host buffer the count alone is
kept, since MODEL_LOAD_RECEIVED brings the bytes as they arrived. Log 263 (DESIGN CHOICE, safe). -/
def Dev.loadHold (d : Dev) (x : Nat) (y : Ctx) : Dev :=
  let k := y.keep.getD 0 0
  let held := tget [] d.dca.images k
  let rest := if y.keep.getD 1 0 = 0 then zeros (y.cmd.len - y.next) else d.slotBytes y y.next
  let n := Config.loadedSoFar d.draws % (rest.length + 1)
  let d := if y.keep.getD 1 0 = 0 then d else d.setDca fun s => { s with images := tset [] s.images k (held ++ rest.take n) }
  { (d.updCtx x fun y => { y with next := y.next + n }) with draws := d.draws + 1 }

/-- MODEL_LOAD_RECEIVED: all bytes have arrived; `host` is what came from the host's buffer.  A load from a slot goes on after the bytes it holds. -/
def Dev.modelReceived (d : Dev) (k : Nat) (host : List Byte) : Dev :=
  match d.loadOf k 0 with
  | none => d
  | some (x, y) =>
    let bs := if y.keep.getD 1 0 = 0 then host.take y.cmd.len else tget [] d.dca.images k ++ d.slotBytes y y.next
    ((d.setDca fun s => { s with images := tset [] s.images k bs }).setFld (bankState k) bankVerifying).opPhase x 1

/-- MODEL_VERIFY_DONE. -/
def Dev.modelVerified (d : Dev) (k : Nat) : Dev :=
  match d.loadOf k 1 with
  | none => d
  | some (x, _) =>
    let bs := tget [] d.dca.images k
    let d := d.setDca fun s => { s with images := tset [] s.images k [] }
    match verifyModel bs with
    | .ok m => (((d.bankFill k m).setFld (bankState k) bankReady).raise R.DCA_EVENTS_LOAD_DONE).opEnd x 0 0 0
    | .error code => (((d.bankClear k bankFailed).setFld R.DCA_LAST_ERR code).raise R.DCA_EVENTS_LOAD_DONE).opEnd x code 0 0

/-! ### REPLAY (R49, R371): LOAD 0, RUN 1, DRAIN 2 -/

/-- The REPLAY command. `keep`: SOURCE and ROWS; `next` is the next row or line. Log 198 (DEDUCED, unsafe). -/
def Dev.replayOp (d : Dev) (q : Nat) : Dev :=
  d.startCmd q 0x13 (fun c => decide (1 < c.specAt 0 1)) noBuf fun c d =>
    if d.opBusy c then d.finish c 0x1005 0 0
    else if d.mode ≠ .armed then (d.glbErr 0x800E).finish c 0x800E 0 0
    else d.opStart c fun y => { y with keep := [c.specAt 0 1, c.specAt 16 4], next := if c.specAt 0 1 = 0 then c.specAt 8 8 else 0 }

/-- The REPLAY in a state. -/
def Dev.replayIn (d : Dev) (phase : Nat) : Option (Nat × Ctx) := (d.opsOf 0x13).find? fun x => decide (x.2.phase = phase)

/-- The operation ends: its FINAL entry, and the part returns to ARMED (R466). Log 186 (DEDUCED, unsafe). -/
def Dev.replayEnd (d : Dev) (x status : Nat) : Dev :=
  let n := match d.ctx x with | some y => y.done | none => 0
  let d := d.opEnd x status n 0
  if d.mode = .replay then d.enterArmed else d

/-- REPLAY_LOAD_DONE: the operation leaves LOAD, and the part enters REPLAY.  `first` is the WPOS of the first line's stamp, of host lines. -/
def Dev.replayLoadDone (d : Dev) (first : Int) : Dev :=
  match d.replayIn 0 with
  | none => d
  | some (x, y) =>
    if d.mode ≠ .armed then (d.glbErr 0x800E).opEnd x 0x800E 0 0 else
    let d := d.opPhase x 1
    if y.keep.getD 0 0 = 1 then
      let d := { d with pos := { d.pos with md := d.mdOf first, hwm := d.mdOf first } }
      (d.latchGrid.beginRun 0 0 true).setMode .replay
    else
      let l := y.next
      let p := d.outPitch
      let grid := if d.pos.grid = [] then [{ line := 0, pos := d.pos.gridOrigin, pitch := p }] else d.pos.grid
      let d := { d with pos := { d.pos with linesPassed := l, frameLines := 2 ^ d.frameLog2, grid := grid } }
      (d.beginRun l l false).setMode .replay

/-- REPLAY_HOST_LINE: a line enters the streams of a port with its own stamp; HWM follows it. Log 198 (DEDUCED, unsafe), 199 (DESIGN CHOICE, unsafe). -/
def Dev.replayHostLine (d : Dev) (p : Nat) (wpos : Int) (planes : List (List Nat)) (field : Nat) : Dev :=
  match d.replayIn 1 with
  | none => d
  | some (x, y) =>
    if y.keep.getD 0 0 ≠ 1 ∨ y.st ≠ 1 ∨ d.mode ≠ .replay then d else
    let md := d.mdOf wpos
    let cfg := d.portCfg p
    let t : Trig := { t := d.time, floor := false, epoch := d.fld R.GLB_EPOCH, field := field, framed := true, cfg := cfg, form := d.mdForm, stamp := some (wpos, md) }
    let n := (planes.headD []).length
    let h : HeldLine := { trig := t, planes := planes.map fun z => fitLine cfg.width cfg.pad z, padded := decide (n < cfg.width), truncated := decide (cfg.width < n), acqStart := false, acqOutside := false, acqFrame := 0 }
    let d := (d.setMd md).deliver p h (wpos, md)
    let z := { y with next := y.next + 1, done := y.done + 1, progress := y.done + 1, phase := if y.keep.getD 1 0 ≤ y.done + 1 then 2 else 1 }
    d.setCtx x (some z)

/-- REPLAY_DONE: DRAIN is over. -/
def Dev.replayDone (d : Dev) : Dev := match d.replayIn 2 with | some (x, _) => d.replayEnd x 0 | none => d

/-- An Attic row read under the tag protocol, in place of a merged row (R49, R153). Log 77 (DEDUCED, unsafe). -/
def Dev.atticRow (d : Dev) (l : Nat) : Option Stitched :=
  if !d.attHolds l then none else
  match d.tagOf l with
  | none => none
  | some (e, f, _) =>
    some { line := l, epoch := e, flags := f, stored := d.layersOn.map fun k => (k, d.attStored k l 0 d.stitchCols), wide := d.layersOn.map fun k => (k, d.attWide k l 0 d.stitchCols), spans := [] }

/-! ### LANE_RETRAIN (R371, R449): QUIESCE 0, TRAIN 1, VERIFY 2 -/

/-- The LANE_RETRAIN command: the ports of the named lanes leave service and train anew. `keep`: camera ports, and 100 plus seam sides, that were up.
Log 201 (DEDUCED, unsafe). -/
def Dev.laneRetrain (d : Dev) (q : Nat) : Dev :=
  d.startCmd q 0x15 noBad noBuf fun c d =>
    if d.opBusy c then d.finish c 0x1005 0 0 else
    let cam := c.specAt 0 8
    let seam := c.specAt 8 4
    let ports := (List.range 16).filter fun p => decide (2 ≤ d.fld (portState p)) && (d.mappedLanes p).any fun l => bitOf cam l
    let sides := [0, 1].filter fun s => decide (2 ≤ d.stage s) && (List.range 16).any fun i => bitOf seam (16 * s + i)
    let d := d.opStart c fun y => { y with phase := 1, keep := ports ++ sides.map (100 + ·) }
    let d := ports.foldl (fun d p => let up := d.portUp p; let d := d.portDetect p; if up then d.portLeft p else d) d
    sides.foldl Dev.enterTrain d

/-- A LANE_RETRAIN follows its ports: VERIFY once all have trained, its end once all are in service. Log 201 (DEDUCED, unsafe). -/
def Dev.retrainFollow (d : Dev) : Dev :=
  match d.opsOf 0x15 with
  | [] => d
  | (x, y) :: _ =>
    let at_ := fun (cam seam k : Nat) => if k < 100 then decide (cam ≤ d.fld (portState k)) && decide (d.fld (portState k) ≠ 6) else decide (seam ≤ d.stage (k - 100))
    let d1 := if y.phase = 1 ∧ y.keep.all (at_ 3 3) then d.opPhase x 2 else d
    if y.keep.all (at_ 4 5) then d1.opEnd x 0 0 0 else d1

/-! ### SUSPEND, RESUME, CANCEL, OP_STATUS (R372, R373) -/

/-- The state word of a context (R373). Log 202 (DEDUCED, unsafe). -/
def Dev.stateWord (d : Dev) (x : Nat) : Nat :=
  match d.ctx x with
  | none => 0
  | some y => y.st + y.phase * 2 ^ 8 + y.progress % 2 ^ 32 * 2 ^ 32

/-- The target that a command names. -/
def Dev.target (d : Dev) (c : HostCmd) : Option (Nat × Ctx) :=
  match d.ctx (c.argAt 0 2) with
  | none => none
  | some y => if y.cmd.cid = c.argAt 2 2 ∧ y.cmd.fn = c.fn ∧ d.pairOf c.fn (c.argAt 4 2) = some y.cmd.sq then some (c.argAt 0 2, y) else none

/-- Has the target's command started. -/
def Dev.begun (d : Dev) (x : Nat) : Bool := !(d.host.fetched.any fun c => c.ctx = some x)

/-- Is an operation in a state that can be suspended (R371). -/
def suspendable (y : Ctx) : Bool :=
  match y.cmd.op with
  | 0x10 => decide (y.phase = 0) || decide (y.phase = 2)
  | 0x11 | 0x13 => decide (y.phase = 1)
  | 0x12 => true
  | 0x14 | 0x16 => decide (y.phase = 0)
  | _ => false

/-- The first state in which CANCEL is refused (R371). -/
def lastState (op : Nat) : Nat := match op with | 0x10 => 4 | 0x11 => 2 | 0x12 => 9 | 0x13 => 2 | 0x14 => 1 | 0x15 => 1 | _ => 2

/-- Begin a command of R372: its target, or NO_SUCH_OP. -/
def Dev.onTarget (d : Dev) (q op : Nat) (act : HostCmd → Nat → Ctx → Dev → Dev) : Dev :=
  d.startCmd q op noBad noBuf fun c d => match d.target c with | none => d.finish c 0x1006 0 0 | some (x, y) => act c x y d

/-- The SUSPEND command. Log 135 (DEDUCED, unsafe), 202 (DEDUCED, unsafe). -/
def Dev.suspendOp (d : Dev) (q : Nat) : Dev :=
  d.onTarget q 0x18 fun c x y d =>
    if y.st = 2 then d.finish c 0 (d.stateWord x) 0
    else if y.st = 1 ∧ d.begun x ∧ suspendable y then
      let d := d.updCtx x fun y => { y with st := 2 }
      let d := if y.cmd.op = 0x14 then d.loadHold x y else d
      let d := if y.cmd.op = 0x11 ∧ y.keep.getD 0 9 = 0 then d.setStripe (y.keep.getD 1 0) 1 else d
      d.finish c 0 (d.stateWord x) 0
    else d.finish c 0x1007 (d.stateWord x) 0

/-- The RESUME command.  A stripe test whose stripe has been taken meanwhile has ended already. -/
def Dev.resumeOp (d : Dev) (q : Nat) : Dev :=
  d.onTarget q 0x19 fun c x y d =>
    if y.st ≠ 2 then d.finish c 0 (d.stateWord x) 0 else
    let hold := decide (y.cmd.op = 0x10) && decide (y.phase = 1)
    let d := d.updCtx x fun y => { y with st := 1, phase := if hold then 2 else y.phase }
    let d := if hold then d.setCal fun s => { s with ext := s.ext.map fun e => { e with sums := d.extComps } } else d
    let d := if y.cmd.op = 0x11 ∧ y.keep.getD 0 9 = 0 then d.setStripe (y.keep.getD 1 0) 3 else d
    d.finish c 0 (d.stateWord x) 0

/-- The channel that runs the chain of a DMA_RUN. -/
def Dev.chanOfCtx (d : Dev) (x : Nat) : Option Nat := (List.range 64).find? fun n => decide ((d.chan n).ctx = some x) && decide (d.dmaState n = 1)

/-- A long operation ends before its last state (R372). -/
def Dev.opCancel (d : Dev) (x : Nat) (y : Ctx) : Dev :=
  match y.cmd.op with
  | 0x10 => d.extEnd.opEnd x 0x1009 0 0
  | 0x11 => (if y.keep.getD 0 9 = 0 ∧ y.st = 1 then d.setStripe (y.keep.getD 1 0) 1 else d).opEnd x 0x1009 0 0
  | 0x12 => d.opEnd x 0x1009 y.done y.at_
  | 0x13 => d.replayEnd x 0x1009
  | 0x14 => ((d.bankClear (y.keep.getD 0 0) bankEmpty).setDca fun s => { s with images := tset [] s.images (y.keep.getD 0 0) [] }).opEnd x 0x1009 0 0
  | 0x16 => d.rotCancel x
  | _ => d.opEnd x 0x1009 0 0

/-- Forget a command that has been fetched and not started. -/
def Dev.unfetch (d : Dev) (x : Nat) : Dev := d.setHost fun h => { h with fetched := h.fetched.filter fun c => c.ctx ≠ some x }

/-- The CANCEL command.  `blocks` and `data` say how far the stream of a DMA_RUN had come. Log 134 (DEDUCED, unsafe), 135 (DEDUCED, unsafe). -/
def Dev.cancelOp (d : Dev) (q blocks : Nat) (data : List Byte) : Dev :=
  d.onTarget q 0x1A fun c x y d =>
    let long := decide (0x10 ≤ y.cmd.op) && decide (y.cmd.op ≤ 0x16)
    if y.st = 3 then let d := d.subEnd x; d.finish c 0 (d.stateWord x) 0
    else if y.st = 4 then d.finish c 0x1008 (d.stateWord x) 0
    else if !d.begun x ∧ (long ∨ y.cmd.op = 0x07) then
      let d := (d.unfetch x).finish y.cmd 0x1009 0 0
      d.finish c 0 (d.stateWord x) 0
    else if y.cmd.op = 0x07 then
      match d.chanOfCtx x with
      | some n => let d := d.dmaStopChain n blocks 0x1009 data; d.finish c 0 (d.stateWord x) 0
      | none => d.finish c 0x1008 (d.stateWord x) 0
    else if long ∧ y.phase < lastState y.cmd.op then let d := d.opCancel x y; d.finish c 0 (d.stateWord x) 0
    else d.finish c 0x1008 (d.stateWord x) 0

/-- The OP_STATUS command. -/
def Dev.opStatus (d : Dev) (q : Nat) : Dev := d.onTarget q 0x1B fun c x _ d => d.finish c 0 (d.stateWord x) 0

/-! ### Resets of functions (R384 to R386) -/

/-- Operations and commands that move data to or from host memory, which a reset cancels (R385); a DMA_RUN goes by R394. -/
def movesData (y : Ctx) : Bool :=
  match y.cmd.op with
  | 0x01 | 0x06 | 0x12 => true
  | 0x14 => decide (y.cmd.specAt 1 1 = 0)
  | 0x13 => decide (y.cmd.specAt 0 1 = 1)
  | _ => false

/-- The commands of functions write no entry any more, and their buffers are forgotten (R384). -/
def Dev.silence (d : Dev) (fns : Nat → Bool) : Dev :=
  let mine := d.ctxList.filter fun x => fns x.2.cmd.fn
  let d := mine.foldl (fun d x => d.updCtx x.1 fun y => { y with cmd := { y.cmd with silent := true }, bufs := [] }) d
  d.setHost fun h => { h with fetched := h.fetched.map fun c => if fns c.fn then { c with silent := true } else c }

/-- A reset of the functions that `fns` names: their queues, subscriptions and commands (R384, R385). -/
def Dev.resetFns (d : Dev) (fns : Nat → Bool) (owner : Bool) : Dev :=
  let qs := d.usedPairs.filter fun q => fns (d.ownerFn q)
  let d := qs.foldl Dev.cqDiscard d
  let d := d.silence fns
  let d := if fns 0 then d.dmaReset else d
  let mine := d.ctxList.filter fun x => fns x.2.cmd.fn
  let d := mine.foldl (fun d x =>
    match d.ctx x.1 with
    | none => d
    | some y =>
      if y.st = 3 ∨ y.st = 4 then d.setCtx x.1 none
      else if ctxNeed y.cmd.op = 3 ∨ (movesData y ∧ !d.begun x.1) then (d.unfetch x.1).setCtx x.1 none
      else if movesData y then (if 0x10 ≤ y.cmd.op then d.opCancel x.1 y else d.setCtx x.1 none)
      else d) d
  let d := d.setHost fun h => { h with fetched := h.fetched.filter fun c => !(fns c.fn && decide (ctxNeed c.op = 0)) }
  qs.foldl (fun d q =>
    let own := d.fld (R.QUE_OWNER q)
    let d := (List.range 16).foldl (fun d i => d.setReg ((R.QUE_SQ_BASE q).addr + 4 * i) (resetWord ((R.QUE_SQ_BASE q).addr + 4 * i))) d
    (if owner then d else d.setFld (R.QUE_OWNER q) own).setQueue q queue0) d

/-- VF_FLR: the VF's configuration space is reset with its queues (R384). -/
def Dev.vfFlr (d : Dev) (fn : Nat) : Dev :=
  if fn = 0 then d else
  let other := fun (k : Nat) => decide (k / 2048 ≠ fn)
  (d.resetFns (fun f => decide (f = fn)) false).setPcie fun p => { p with bme := p.bme.filter (· ≠ fn), unmasked := p.unmasked.filter other, pendingVec := p.pendingVec.filter other, masked := p.masked.filter (· ≠ fn), table := p.table.filter fun x => other (x.1 / 4) }

/-- HOST_RESET, and what a link-down and PERST_N do: every function and queue. Log 128 (DEDUCED, unsafe), 140 (DEDUCED, unsafe), 141 (DEDUCED, unsafe). -/
def Dev.hostReset (d : Dev) : Dev :=
  let d := d.resetFns (fun _ => true) true
  (d.setPcie fun p => { p with bme := [], memEnable := false, numVfs := 0, unmasked := [], pendingVec := [], masked := [], table := [] }).hostRaise R.GLB_HOST_EVENTS_LINK_LOST

/-- VF_BME_CLEAR: the VF's queues neither fetch nor write (R386). Log 140 (DEDUCED, unsafe). -/
def Dev.vfBmeClear (d : Dev) (fn : Nat) : Dev := if fn = 0 then d else d.setPcie fun p => { p with bme := p.bme.filter fun f => f ≠ fn }

end Sys2Proof.Machine
end

