-- ==== Sys2Proof/Machine/Grid.lean ====
section
/-!
DEFINITION. Rows of the output grid: what a boundary brings (R46 to R48, R489), and how a merged row or a replayed Attic row is handed on to the
decimators, the background, the Gallery and the neighbours (R49, R139 to R143).
-/
namespace Sys2Proof.Machine

/-! ### Boundaries -/

/-- A role that was taken over is no longer missing, unless a port that feeds it is (R471, R526). Log 78 (DEDUCED, unsafe). -/
def Dev.roleBack (d : Dev) (r : Nat) : Dev :=
  if (List.range 20).any fun p => (d.port p).missing && (d.primaryRoles p).contains r then d else d.setFld (Fld.bit R.GLB_MISSING_ROLES r) 0

/-- A trigger of a Pantry write, where a part of the boundary's work was one (R330). -/
def Dev.triggerIf (x : Dev × Bool) : Dev := if x.2 then x.1.pantryTrigger else x.1

/-- What happens in the FRAME_POS cycle of boundary `b`, in this order: FRAME_POS (R48), commits (R489), rotations and take-overs (R519, R526), the
change of mode (R466), trims (R323, R327, R332), ports and seams that wait for a boundary (R92, R448), and the HEARTBEAT (R252). -/
def Dev.boundary (d : Dev) (b : Nat) : Dev :=
  let d := (d.fire P.framePos).boundaryCommit b
  let (d, role) := d.rotBoundary b
  let d := d.boundaryMode
  let d := match role with | some r => d.roleBack r | none => d
  let d := Dev.triggerIf (d.calBoundary b)
  let d := Dev.triggerIf (d.extBoundary b)
  ((d.pantryBoundary b).portsAtBoundary.portsActiveAtBoundary).hbBoundary b

/-- HWM reaches the grid position of the next output line (R46).  `differs`: a row CRC of the mirroring spare differs from its source's (R522).
Log 197 (DESIGN CHOICE, unsafe). -/
def Dev.linePassed (d : Dev) (t : Nat) (differs : Bool) : Dev :=
  let d := d.advance t
  let l := d.pos.linesPassed
  if !d.mode.framed || d.atticReplay || d.pos.grid.isEmpty || decide (d.pos.hwm < d.linePos l) then d else
  let d := { d with pos := { d.pos with linesPassed := l + 1 } }
  let d := (if differs then d.rotDiverge else d).rotProgress
  if d.isBoundary l then d.boundary l else d

/-! ### Rows -/

/-- The row enters the filters, and its outputs go to the Gallery and the host (R166, R186, R343). -/
def Dev.rowFiltered (d : Dev) (s : Stitched) : Dev :=
  let (d, outs) := d.prfRow s
  outs.foldl (fun d (o : PrfOut × List Byte) => d.profileOut o.1 o.2) d

/-- SETTLED has risen in a step (R330). -/
def Dev.settledSince (d : Dev) (was : Bool) : Dev := if d.prf.settled && !was then d.pantrySettled else d

/-- A merged row is handed on: to the filters, the calibration sums, the Gallery and the partners (R159, R166, R314, R335, R525); `was`: SETTLED before. -/
def Dev.rowOn (d : Dev) (was : Bool) (s : Stitched) : Dev :=
  let d := (((d.rowFiltered s).calRow s).galRow s.line s.wide).sendAprons s.line s.epoch
  (d.stallMark s.line).settledSince was

/-- What the background model and the calibration take from a row before it is merged (R163 to R181, R314). -/
def Dev.rowBefore (d : Dev) (late : List Nat) (s : Stitched) : Dev :=
  let (d, changed) := (d.calFlat s.line).prfBefore s late
  if changed.contains d.calLayer then d.calAbandon 0x5008 else d

/-- The next row is merged and handed on (R139 to R142, R159, R166, R314, R335, R525). -/
def Dev.rowMerge (d : Dev) (expiry : Bool) : Dev :=
  if !d.mergeDue expiry then d else
  let was := d.prf.settled
  let (late, s) := d.nextStitch
  let d := d.rowBefore late s
  let s := { s with flags := { s.flags with warmup := d.warmup } }
  (d.mergeRow late s (d.background (d.prfVer s.line))).rowOn was s

/-- Which columns of a row read from the Attic had a contributor (R192): all, unless it is flagged COVER_GAP. Log 75 (DESIGN CHOICE, safe). -/
def Dev.atticCover (d : Dev) (s : Stitched) : List (Nat × List Bool) :=
  d.layersOn.map fun k => (k, (List.range d.stitchCols).map fun c => !s.flags.coverGap || Config.covered s.line c)

/-- REPLAY_ATTIC_ROW: the next row of the Attic is handed on in place of a merged row, or the operation ends with ROWS_GONE (R49): its line passes first, with what
a boundary brings. Log 76 (DEDUCED, unsafe). -/
def Dev.replayAtticRow (d : Dev) : Dev :=
  match d.replayIn 1 with
  | none => d
  | some (x, y) =>
    if !d.atticReplay || decide (y.st ≠ 1) then d
    else if y.keep.getD 1 0 ≤ y.done then d.opPhase x 2 else
    match d.atticRow y.next with
    | none => d.replayEnd x 0x1010
    | some s =>
      let l := y.next
      let was := d.prf.settled
      let d := { d with pos := { d.pos with linesPassed := l + 1, hwm := d.linePos l, md := d.linePos l } }
      let d := if d.isBoundary l then d.boundary l else d
      let es := d.pos.epochs
      let d := { d with pos := { d.pos with epochs := if (match es with | x :: _ => x.2 | [] => 2 ^ 32) = s.epoch then es else (l, s.epoch) :: es } }
      let (d, _) := d.prfBefore s []
      let bg := d.background (d.prfVer l)
      let ri : RowInfo := { line := l, epoch := s.epoch, flags := s.flags, mergedAt := d.time, bg := bg, cover := d.atticCover s }
      let d := { d with blv := { d.blv with nextRow := l + 1, rows := d.blv.rows ++ [ri] } }
      let d := (d.rowFiltered s).galRow l s.wide
      let d := d.setCtx x (some { y with next := l + 1, done := y.done + 1, progress := y.done + 1, phase := if y.keep.getD 1 0 ≤ y.done + 1 then 2 else 1 })
      d.settledSince was

/-- A floor row is stitched 1 µs after its first floor band line, and goes to the Gallery (R143, R339). -/
def Dev.floorRow (d : Dev) : Dev :=
  let (d, s) := d.floorMerge
  match s with
  | some s => d.galFloor s.wide
  | none => d

end Sys2Proof.Machine
end

