-- ==== Sys2Proof/Machine/Platform.lean ====
section
/-!
DEFINITION. Resets, clocks and temperature (chapter 19, R547 to R552, R559 to R561) and the firmware's watchdog and memory errors (R472).
-/
namespace Sys2Proof.Machine

/-! ### Resets (R547, R548) -/

/-- The part as every reset leaves it: registers and internal state at their reset values, DRAM without contents.  What is outside stays: the boot
flash with its event log, the levels that drive encoder phases and pins, and lost clocks. DBG_NONCE is a new draw (R534).
Log 21 (DESIGN CHOICE, unsafe), 22 (DEDUCED, unsafe), 23 (DESIGN CHOICE, unsafe), 34 (DEDUCED, unsafe). -/
def Dev.inReset (d : Dev) : Dev :=
  { draws := d.draws + 1, tst := { nonce := d.draws }, flash := d.flash, flashLog := d.flashLog, log := d.log, out := d.out,
    pos := { encs := [0, 1, 2, 3].foldl (fun t e => tset enc0 t e { a := (d.enc e).a, b := (d.enc e).b }) [] },
    plz := { pins := (List.range 32).foldl (fun t p => tset pin0 t p { ext := (d.pin p).ext }) [] },
    plat := { perst := d.plat.perst, lost := d.plat.lost } }

/-- Power-on reset: POR is the one cause (R548). Log 21 (DESIGN CHOICE, unsafe), 223 (DESIGN CHOICE, unsafe). -/
def Dev.powerOn (d : Dev) : Dev := d.inReset.setFld R.GLB_RESET_CAUSE 1

/-- A warm reset keeps the fault latches, the causes with its own added, a latched trip and the TAP (R548). -/
def Dev.warmReset (d : Dev) (cause : Option Nat) : Dev :=
  let x := d.inReset
  let x := (x.setFld R.GLB_FAULT_CAUSE (d.fld R.GLB_FAULT_CAUSE)).setFld R.GLB_FAULT_TIME (d.fld R.GLB_FAULT_TIME)
  let x := (x.setFld R.GLB_RESET_CAUSE (d.fld R.GLB_RESET_CAUSE)).setFld R.GLB_PLAT_STATUS_TRIP (d.fld R.GLB_PLAT_STATUS_TRIP)
  let x := match cause with | some c => x.setFld (Fld.bit R.GLB_RESET_CAUSE c) 1 | none => x
  { x with tst := { x.tst with jtag := d.tst.jtag }, plat := { x.plat with comparator := d.plat.comparator } }

/-! ### Clocks and links (R384, R549, R552) -/

/-- The PCI Express link goes down (R384). Log 25 (DEDUCED, unsafe). -/
def Dev.linkDown (d : Dev) : Dev := d.hostReset.setFld R.GLB_HOST_STATUS_LINK_UP 0

/-- A reference clock is lost: 1 the lane clock, 2 the PCI Express clock. Log 31 (DEDUCED, unsafe). -/
def Dev.refclkLoss (d : Dev) (which : Nat) : Dev :=
  let d :=
    if d.mode = .reset then d
    else if which = 1 then ((List.range 112).foldl (fun d l => d.laneLol l true 0) d).setFld R.GLB_PLAT_STATUS_LANE_REFCLK_OK 0
    else d.linkDown.setFld R.GLB_PLAT_STATUS_PCIE_REFCLK_OK 0
  { d with plat := { d.plat with lost := which :: d.plat.lost.filter (· ≠ which) } }

/-- A lost reference clock runs again. -/
def Dev.refclkRestored (d : Dev) (which : Nat) : Dev :=
  let d := { d with plat := { d.plat with lost := d.plat.lost.filter (· ≠ which) } }
  if d.mode = .reset then d
  else if which = 1 then d.setFld R.GLB_PLAT_STATUS_LANE_REFCLK_OK 1
  else if which = 2 then d.setFld R.GLB_PLAT_STATUS_PCIE_REFCLK_OK 1 else d

/-- PERST_N goes low: a link-down, in the mode as it is (R549). -/
def Dev.perstAssert (d : Dev) : Dev :=
  let d := if d.mode = .reset then d else d.linkDown
  { d with plat := { d.plat with perst := true } }

/-- The PCI Express link reaches L0 (R355): its clock runs, and PERST_N is high again. Log 26 (DEDUCED, unsafe). -/
def Dev.pcieLinkUp (d : Dev) : Dev :=
  if d.plat.lost.contains 2 then d else { d with plat := { d.plat with perst := false } }.setFld R.GLB_HOST_STATUS_LINK_UP 1

/-! ### Temperature (R559 to R561) -/

/-- The hottest reading and its sensor, the lower one of equals. -/
def hottest : List Int → Nat → Int × Nat → Int × Nat
  | [], _, best => best
  | t :: ts, i, best => hottest ts (i + 1) (if best.1 < t then (t, i) else best)

/-- TEMP_SAMPLE: readings of the twenty sensors in quarters of a degree.  Two readings at 135 °C or above in a row trip. -/
def Dev.tempSample (d : Dev) (ts : List Int) : Dev :=
  match ts.take 20 with
  | [] => d
  | t :: rest =>
    let (top, s) := hottest rest 1 (t, 0)
    let d := (d.setFldI R.GLB_PLAT_STATUS_TEMP top).setFld R.GLB_PLAT_STATUS_HOTTEST s
    let hot := if 540 ≤ top then d.plat.hot + 1 else 0
    let d := { d with plat := { d.plat with hot := min hot 2 } }
    if hot < 2 then d else { d.setFld R.GLB_PLAT_STATUS_TRIP 1 with faultReq := d.faultReq ++ [2], plat := { d.plat with tripAt := some d.time } }

/-- T_THROTTLE and HYST as they act, in quarters of a degree. -/
def Dev.throttleAt (d : Dev) : Int := 4 * (max 85 (min 125 (d.fld R.GLB_PLAT_CFG_T_THROTTLE)) : Nat)
def Dev.throttleHyst (d : Dev) : Int := 4 * (max 1 (d.fld R.GLB_PLAT_CFG_HYST) : Nat)

/-- The steps change; THERM_ALERT_N follows THROTTLING. -/
def Dev.setSteps (d : Dev) (dca host : Nat) : Dev :=
  ((d.setFld R.GLB_PLAT_STATUS_DCA_STEP dca).setFld R.GLB_PLAT_STATUS_HOST_STEP host).setFlag R.GLB_PLAT_STATUS_THROTTLING (decide (0 < dca + host))

/-- THROTTLE_TICK: one step at most at each tick of 1 ms (R560); a trip in the same tick goes first (R561). -/
def Dev.throttleTick (d : Dev) : Dev :=
  let t := d.sfld R.GLB_PLAT_STATUS_TEMP
  let dca := d.fld R.GLB_PLAT_STATUS_DCA_STEP
  let host := d.fld R.GLB_PLAT_STATUS_HOST_STEP
  if d.plat.tripAt = some d.time then d
  else if !d.flag R.GLB_PLAT_CFG_THROTTLE_EN then d.setSteps 0 0
  else if d.throttleAt ≤ t then (if dca < 6 then d.setSteps (dca + 1) host else d.setSteps dca (min (host + 1) 7))
  else if t ≤ d.throttleAt - d.throttleHyst then (if 0 < host then d.setSteps dca (host - 1) else d.setSteps (dca - 1) host)
  else d

/-- The comparator drives THERM_TRIP_N low at 145 °C (R561). Log 24 (DEDUCED, unsafe). -/
def Dev.comparatorTrip (d : Dev) : Dev := { d with plat := { d.plat with comparator := true } }

/-- The level of THERM_TRIP_N and of THERM_ALERT_N (R550, R560, R561). Log 24 (DEDUCED, unsafe). -/
def Dev.thermTripN (d : Dev) : Bool := !(d.flag R.GLB_PLAT_STATUS_TRIP || d.plat.comparator)
def Dev.thermAlertN (d : Dev) : Bool := !(d.flag R.GLB_PLAT_STATUS_THROTTLING)

/-! ### Pins in RESET (R550) -/

/-- The groups of pins that R550 lists. -/
inductive PinGroup where
  | encoderIn | gpio | perst | therm | por | rst | resetOut | high | low | ioDown | ioUp | tdo | clgOut | clgIn | serial
  deriving DecidableEq, Repr

/-- What a pin does in RESET. -/
inductive PinDrive where
  | input | low | high | released | highZ | readsLow | idle
  deriving DecidableEq, Repr

inductive Pull where
  | none | down | up
  deriving DecidableEq, Repr

/-- The state of a group of pins while the part is in RESET, and its pull (R550).  THERM_TRIP_N is low while a trip is latched (R561). -/
def Dev.resetPins (d : Dev) : PinGroup → PinDrive × Pull
  | .encoderIn => (.input, .down)
  | .gpio => (.input, .down)
  | .perst => (.input, .up)
  | .therm => (if d.thermTripN then .released else .low, .none)
  | .por => (.input, .none)
  | .rst => (.input, .up)
  | .resetOut => (.low, .none)
  | .high => (.high, .none)
  | .low => (.low, .none)
  | .ioDown => (.input, .down)
  | .ioUp => (.input, .up)
  | .tdo => (.highZ, .none)
  | .clgOut => (.low, .none)
  | .clgIn => (.readsLow, .none)
  | .serial => (.idle, .none)

/-! ### The management cluster (R472, R514) -/

/-- The image has not been healthy: HOLD_S runs anew (R514). -/
def Dev.unhealthy (d : Dev) : Dev := { d with svc := { d.svc with healthyFrom := d.time } }

/-- WATCHDOG_EXPIRY: FAULT in a framed mode, else a warm reset. -/
def Dev.watchdogExpiry (d : Dev) : Dev :=
  if d.mode.framed then { d.unhealthy with faultReq := d.faultReq ++ [3] } else d.warmReset (some 4)

/-- SRAM_UE: an uncorrectable error in management SRAM enters FAULT. -/
def Dev.sramUe (d : Dev) : Dev := { d.unhealthy with faultReq := d.faultReq ++ [4] }

end Sys2Proof.Machine
end

