-- ==== Sys2Proof/Machine/Foyer.lean ====
section
/-!
DEFINITION. The Foyer: boot records, the choice of the firmware slot, and the boot sequence up to STANDBY, DISCOVER or RECOVERY (R474 to R482, R501,
R511, R513, R514).
-/
namespace Sys2Proof.Machine

/-! ### Boot records (R475, R476, R501, R511) -/

/-- Note a 0x6xxx code. -/
def Dev.svcErr (d : Dev) (code : Nat) : Dev := d.setFld R.SVC_LAST_ERR code

/-- Replace bytes of a list at an offset. -/
def putAt (bs : List Byte) (off : Nat) (x : List Byte) : List Byte := bs.take off ++ x ++ bs.drop (off + x.length)

/-- A boot record is valid when MAGIC, FORMAT and CRC are right. -/
def recordValid (bs : List Byte) : Bool :=
  decide (leAt bs 0 4 = 0x52425746) && decide (leAt bs 4 2 = 1) && decide (leAt bs 252 4 = crc32 (slice bs 0 252))

/-- The bytes of boot record 0 (A) or 1 (B). -/
def Dev.recordOf (d : Dev) (c : Nat) : List Byte := d.flashRead (flashBoot c) 256

/-- A number of the record in use. Log 214 (DEDUCED, unsafe). -/
def Dev.rec_ (d : Dev) (off n : Nat) : Nat := leAt d.svc.record off n

/-- STATE of a firmware slot in the record in use: 0 EMPTY, 1 GOOD, 2 TRIAL, 3 BAD. -/
def Dev.slotState (d : Dev) (s : Nat) : Nat := d.rec_ (13 + s) 1

/-- TRIAL_S and HOLD_S as they act. -/
def Dev.trialSeconds (d : Dev) : Nat := let v := d.rec_ 84 2; if 30 ≤ v ∧ v ≤ 3600 then v else 120
def Dev.holdSeconds (d : Dev) : Nat := let v := d.rec_ 86 2; if 1 ≤ v ∧ v ≤ 600 then v else 10

/-- Use a record: SVC.STATUS shows its slots. -/
def Dev.useRecord (d : Dev) (c : Nat) (bs : List Byte) : Dev :=
  let d := { d with svc := { d.svc with record := bs, recordValid := true } }
  ((d.setFld R.GLB_BOOT_RECORD c).setFld R.SVC_STATUS_SLOT_A (leAt bs 13 1)).setFld R.SVC_STATUS_SLOT_B (leAt bs 14 1)

/-- The record that is not current takes new contents, SEQ and CRC (R511). `held`: what the flash holds where it did not take what was programmed.
Answers whether the record was read back. Log 28 (DESIGN CHOICE, unsafe). -/
def Dev.recordWrite (d : Dev) (bs : List Byte) (held : Option (List Byte)) : Dev × Bool :=
  let target := 1 - d.fld R.GLB_BOOT_RECORD
  let body := putAt bs 8 (leBytes 4 (d.rec_ 8 4 + 1))
  let new := putAt body 252 (leBytes 4 (crc32 (slice body 0 252)))
  let got := fit 256 (held.getD new)
  let d := d.flashFill (flashBoot target) 4096 got
  if got = new then (d.useRecord target new, true) else ((d.svcErr 0x600D).raise R.SVC_EVENTS_FLASH_FAIL, false)

/-- A fallback is noted in a record: FALLBACK_CNT, saturating, and FALLBACK_CODE (R501, R513, R514). -/
def fallbackIn (bs : List Byte) : List Byte := putAt (putAt bs 90 (leBytes 2 (min (leAt bs 90 2 + 1) 65535))) 92 (leBytes 2 0x600F)

/-- Choose a boot record (R476): of the valid ones, the greater SEQ, and A when they are equal. -/
def Dev.chooseRecord (d : Dev) : Dev × Bool :=
  let a := d.recordOf 0
  let b := d.recordOf 1
  if recordValid a ∧ (!recordValid b ∨ leAt b 8 4 ≤ leAt a 8 4) then (d.useRecord 0 a, true)
  else if recordValid b then (d.useRecord 1 b, true) else (d, false)

/-- The network address in use (R498, R500, R501): static, or link-local. -/
def Dev.netAddress (d : Dev) : Nat :=
  if d.svc.recordValid ∧ d.rec_ 70 1 = 0 then beNat (slice d.svc.record 72 4)
  else 0xA9FE0000 + (1 + Config.linkLocal.toNat / 256 % 254) * 256 + Config.linkLocal.toNat % 256

/-! ### The firmware slot (R513) -/

/-- Does a slot pass verification. -/
def Dev.slotGood (d : Dev) (s : Nat) : Bool := decide (imageCheck 1 (d.flashImage (flashFirmware s) firmwareSize) = .ok)

/-- The other slot becomes FW_PREF in a record that marks slot `s` BAD; the fallback is noted when a trial ran out. Log 28 (DESIGN CHOICE, unsafe). -/
def Dev.slotBad (d : Dev) (s : Nat) (trial : Bool) : Dev :=
  let bs := putAt (putAt d.svc.record (13 + s) [3]) 12 [BitVec.ofNat 8 (1 - s)]
  let d := (d.recordWrite (if trial then fallbackIn bs else bs) none).1
  if trial then (d.svcErr 0x600F).raise R.SVC_EVENTS_FALLBACK else d

/-- Steps 2 to 5 of R513; the number bounds the restarts. Answers the slot that boots. -/
def Dev.slotChoice (d : Dev) : Nat → Dev × Option Nat
  | 0 => (d, none)
  | n + 1 =>
    let pref := d.rec_ 12 1 % 2
    let d := if d.slotState pref = 2 ∧ d.rec_ 15 1 = 0 then d.slotBad pref true else d
    let pref := d.rec_ 12 1 % 2
    let pick : Option Nat := if d.slotState pref = 1 then some pref else if d.slotState (1 - pref) = 1 then some (1 - pref) else none
    match pick with
    | none => (d, none)
    | some s => if d.slotGood s then (d, some s) else (d.slotBad s false).slotChoice n

/-- The choice of the firmware slot (R513). Answers the slot that boots, and whether it boots as a trial. -/
def Dev.chooseSlot (d : Dev) : Dev × Option (Nat × Bool) :=
  let pref := d.rec_ 12 1 % 2
  let later := fun (x : Dev × Option Nat) => (x.1, x.2.map fun s => (s, false))
  if d.slotState pref = 2 ∧ 0 < d.rec_ 15 1 then
    let d := (d.recordWrite (putAt d.svc.record 15 (leBytes 1 (d.rec_ 15 1 - 1))) none).1
    if d.slotGood pref then (d, some (pref, true)) else later ((d.slotBad pref false).slotChoice 3)
  else later (d.slotChoice 3)

/-- The firmware of a slot starts; a trial boot arms the trial timer, from reset (R514). -/
def Dev.startFirmware (d : Dev) (s : Nat) (trial : Bool) : Dev :=
  let d := match imageOf (d.flashImage (flashFirmware s) firmwareSize) with
    | some m => { d with fwVersion := m.version, fwBuild := m.build }
    | none => d
  let d := d.setFld R.GLB_BOOT_FW_SLOT s
  if trial then { d.setFld R.SVC_STATUS_TRIAL 1 with svc := { d.svc with trialEnd := some (usCycles (1000000 * d.trialSeconds)) } } else d

/-- Firmware version as text (R369, R503). -/
def Dev.versionText (d : Dev) : List Byte := (List.range 32).map fun i => Config.versionText d.fwVersion d.fwBuild i

/-! ### The sequence (R474) -/

/-- Recipe `i` is read into the recipe store, or marked empty (R481). -/
def Dev.loadRecipe (d : Dev) (i : Nat) : Dev :=
  let bs := d.flashImage (flashRecipe i) recipeSize
  let ok := decide (imageCheck 2 bs = .ok)
  (d.setCfg fun x => { x with recipes := tset [] x.recipes i (if ok then bs else []) }).setFld (Fld.bit R.GLB_BOOT_RECIPES i) (b2n ok)

/-- Steps 2 to 7 of the Foyer: boot record, DRAM, firmware slot, recipes, Pantry and models.  A failure leaves its code in GLB.LAST_ERR.
Log 27 (DEDUCED, unsafe). -/
def Dev.foyerSteps (d : Dev) (trained : List Nat) : Dev :=
  let (d, found) := d.chooseRecord
  let d := d.setFld R.SVC_IP d.netAddress
  let failed := fun (d : Dev) (code : Nat) => (d.glbErr code).setCfg fun x => { x with foyerBad := true }
  if !found then failed d 0x8012 else
  let d := (d.setFld R.GLB_BOOT_POSITION (d.rec_ 18 1)).setFld R.GLB_BOOT_AUTO_RUN (d.rec_ 17 1)
  match d.memConfigure (d.rec_ 20 4 % 512) (bytesWords 9 (slice d.svc.record 24 36)) trained with
  | (d, some code) => failed d code
  | (d, none) =>
    match d.chooseSlot with
    | (d, none) => failed d 0x8013
    | (d, some (s, trial)) =>
      let d := (d.startFirmware s trial).setCfg fun x => { x with fwRuns := true }
      (((List.range 4).foldl Dev.loadRecipe d).pantryBoot.loadModelSlot 0).loadModelSlot 1

/-- RESET_RELEASE: fuses are read, clocks run, and the part moves from RESET to FOYER, whose steps begin (R548, R474).  `trained`: the DRAM channels
that pass training. Log 27 (DEDUCED, unsafe), 33 (DESIGN CHOICE, unsafe). -/
def Dev.resetRelease (d : Dev) (trained : List Nat) : Dev :=
  if d.mode ≠ .reset then d else
  let d := ((d.setMode .foyer).setFlag R.GLB_PLAT_STATUS_LANE_REFCLK_OK (!d.plat.lost.contains 1)).setFlag R.GLB_PLAT_STATUS_PCIE_REFCLK_OK (!d.plat.lost.contains 2)
  let d := (List.range 16).foldl (fun d n => d.setFlag (R.STR_LBL_STATUS_EMITTING n) true) d
  ((d.setStripe 16 1).setFld (R.TST_UCODE_SEQ 16) d.cfg.ucode).recount.foyerSteps trained

/-- Apply the boot recipe and commit it: epoch 1 (R474 step 8, R482). Answers whether it was applied. -/
def Dev.bootRecipe (d : Dev) : Dev × Bool :=
  let (d, bad) := d.recipeApply (d.rec_ 16 1 % 4) false 0 none
  if bad.isSome then (d, false) else
  let (d, bad) := d.sealEnd 31
  if bad.isSome then (d.recipeDrop, false) else
  let d := (d.advance (d.time + 1)).commitDue none [{ index := none, whos := [.reg] }]
  (d, true)

/-- A recipe on trial is confirmed, or given up for PREV_RECIPE (R514). -/
def recipeConfirmed (bs : List Byte) : List Byte := putAt bs 89 [0]
def recipeGivenUp (bs : List Byte) : List Byte := fallbackIn (putAt (putAt bs 16 (slice bs 88 1)) 89 [0])

/-- FOYER_COMPLETE: the sequence ends in STANDBY or DISCOVER, or in RECOVERY on a failure; a boot recipe on trial that fails is given up, and the
part resets (R466, R474, R514). Log 27 (DEDUCED, unsafe), 29 (DESIGN CHOICE, unsafe). -/
def Dev.foyerComplete (d : Dev) : Dev :=
  if d.mode ≠ .foyer then d
  else if d.cfg.foyerBad then d.setMode .recovery else
  let onTrial := decide (d.rec_ 89 1 % 2 = 1)
  let (d, ok) := d.bootRecipe
  if ok then
    let d := if onTrial then (d.recordWrite (recipeConfirmed d.svc.record) none).1 else d
    let d := d.unhealthy
    if d.rec_ 17 1 % 2 = 1 then d.enterDiscover else d.setMode .standby
  else if onTrial then
    (((d.recordWrite (recipeGivenUp d.svc.record) none).1.svcErr 0x600F).raise R.SVC_EVENTS_FALLBACK).warmReset none
  else (d.glbErr 0x8011).setMode .recovery

end Sys2Proof.Machine
end

