-- ==== Sys2Proof/Machine/RegAccess.lean ====
section
/-!
DEFINITION. The register file as a writer or a reader meets it (R14 to R21): what a write of each word does, and what a read returns, with the
status fields that the part computes when they are read.
-/
namespace Sys2Proof.Machine

/-! ### Writes -/

/-- A write to a POS word. -/
def Dev.posWrite (d : Dev) (w a v : Nat) : Dev :=
  let o := a % 0x100000
  if o = 0x18 ∨ o = 0x1C then d.mdOffsetWord a v
  else if 0x4000 ≤ o ∧ o < 0x6000 then d.cmpWrite ((o - 0x4000) / 0x20) (o % 0x20) v
  else
    ((d.noteWord a).baseWrite w a v).mixedActs a v

/-- A write to a CAM word (R69, R90). -/
def Dev.camWrite (d : Dev) (w a v : Nat) : Dev :=
  let p := a / 0x10000 % 16
  let o := a % 0x10000
  if o = 0xA8 ∧ bitOf v 10 then (if bitOf v 12 && !bitOf (d.setHere a) 12 then d.setFld (R.CAM_GC_CTRL_DONE p) 0 else d).gcGo p (bitOf v 9) (bits v 0 9)
  else
    (d.baseWrite w a v).mixedActs a v

/-- A write to a CLG word (R73). -/
def Dev.clgWrite (d : Dev) (w a v : Nat) : Dev :=
  if a % 0x1000 = 0x64 then d.serTx (a / 0x1000 % 4) (BitVec.ofNat 8 v) else d.baseWrite w a v

/-- A write to a PLZ word (R287); OVERRUN_CNT of an input is cleared with its OVERRUN. -/
def Dev.plzWrite (d : Dev) (w a v : Nat) : Dev :=
  let o := a % 0x100000
  if o = 0x10 then d.swEvents (BitVec.ofNat 16 v) .pulse
  else if o = 0x14 then d.swEvents (BitVec.ofNat 16 v) .set
  else if o = 0x18 then d.swEvents (BitVec.ofNat 16 v) .clear
  else
    let d := d.baseWrite w a v
    if 0x4000 ≤ o ∧ o < 0x5000 ∧ o % 0x10 = 8 ∧ bitOf v 1 then d.setFld (R.PLZ_IN_STATUS_OVERRUN_CNT ((o - 0x4000) / 0x10)) 0 else d

/-- A write to a GAL word (R345, R351). -/
def Dev.galWrite (d : Dev) (a v : Nat) : Dev :=
  let d := d.plainWrite a v
  if a % 0x100000 = 0 then
    let d := d.galCheck
    if bitOf v 2 then d.galUpdate d.composing else d
  else if galStaged a then d.galWritten d.composing else d

/-- A write to a GLB word (R466, R468, R483 to R488). -/
def Dev.glbWrite (d : Dev) (w a v : Nat) : Dev :=
  match a with
  | 0x008 => d.modeRequest (bits v 0 4) .reg
  | 0x100 => d.shadowOpen w (bits v 0 5)
  | 0x104 => d.shadowSeal w (bits v 0 5)
  | 0x108 => d.shadowAbort w (bits v 0 5)
  | 0x120 => d.commitClash.requestCommit (bitOf v 0) (d.fld R.GLB_COMMIT_INDEX) .reg
  | 0xA10 => if v = 0x52535421 then d.warmReset (some 2) else d
  | _ => d.baseWrite w a v

/-- A write to a DMA word (R388, R389, R403). Log 145 (DESIGN CHOICE, unsafe). -/
def Dev.dmaWrite (d : Dev) (a v : Nat) : Dev :=
  let o := a % 0x100000
  if o < 0x1000 ∨ 0x2000 ≤ o then d.plainWrite a v else
  let n := (o - 0x1000) / 0x40
  match o % 0x40 with
  | 0x00 => if d.dmaState n = 0 then d.plainWrite a v else d
  | 0x04 => if d.dmaState n = 0 then d.plainWrite a v else d
  | 0x10 =>
    let d := if bitOf v 2 then d.dmaClear n else d
    let d := if bitOf v 1 then d.dmaStop n (Config.dmaBlocks n d.time) (Config.dmaData n d.time) else d
    if bitOf v 0 then d.dmaStart n none 0 else d
  | _ => d.plainWrite a v

/-- A write to a MEM word (R419, R424). -/
def Dev.memWrite (d : Dev) (a v : Nat) : Dev :=
  let o := a % 0x100000
  if 0x2000 ≤ o ∧ o < 0x2800 ∧ o % 0x10 = 0 then d.reqCfgWrite ((o - 0x2000) / 0x10) v else d.plainWrite a v

/-- A write to a KSL word (R435, R439, R446, R450). -/
def Dev.kslWrite (d : Dev) (w a v : Nat) : Dev :=
  let o := a % 0x100000
  let d := (d.baseWrite w a v).mixedActs a v
  if 0x1000 ≤ o ∧ o < 0x1200 then
    let side := (o - 0x1000) / 0x100
    if o % 0x100 = 8 then d.portPower side
    else if o % 0x100 = 0 ∧ bitOf v 8 then d.portRetry side else d
  else if 0x4000 ≤ o ∧ o < 0x4E00 ∧ o % 0x20 = 0 ∧ bitOf v 8 then d.bitslip ((o - 0x4000) / 0x20)
  else d

/-! ### Debug access (R534, R535) -/

/-- A check of chapter 18 refuses: its event with its code. -/
def Dev.tstRefuse (d : Dev) (f : Fld) (code : Nat) : Dev := (d.raise f).tstCode code

/-- The 16 bytes of DBG_NONCE (R534): a draw of the part. -/
def Dev.dbgNonce (d : Dev) : List Byte := leBytes 16 (Config.random d.tst.nonce).toNat

/-- A new DBG_NONCE is drawn. Log 23 (DESIGN CHOICE, unsafe). -/
def Dev.newNonce (d : Dev) : Dev := { d with tst := { d.tst with nonce := d.draws }, draws := d.draws + 1 }

/-- The debug token is submitted (R534). Log 208 (DEDUCED, unsafe). -/
def Dev.tokenSubmit (d : Dev) : Dev :=
  let t := wordBytes ((List.range 40).map fun i => (d.reg (0x00D00600 + 4 * i)).toNat)
  let key := slice t 96 64
  let form := decide (leAt t 0 4 = 0x54474244) && decide (leAt t 4 2 = 1) && decide (leAt t 6 2 < 4) && decide (leAt t 8 8 = Config.uid.toNat) && decide (slice t 16 16 = d.dbgNonce)
  let keyOk := decide (Config.debugKeyHash ≠ 0) && decide (beNat (sha256 key) = Config.debugKeyHash.toNat)
  let d2 :=
    if !form then d.tstRefuse R.TST_EVENTS_TOKEN_BAD 0xC00A
    else if !keyOk then d.tstRefuse R.TST_EVENTS_TOKEN_BAD 0xC00B
    else if !ecdsaOk (sha256 (slice t 0 32)) (slice t 32 64) key then d.tstRefuse R.TST_EVENTS_TOKEN_BAD 0xC00A
    else (d.setFld R.TST_DBG_STATUS_UNLOCKED 1).setFld R.TST_DBG_STATUS_RIGHTS (leAt t 6 2)
  d2.newNonce

/-- A write of DBG_LOCK (R534). -/
def Dev.dbgLock (d : Dev) : Dev := (d.setFld R.TST_DBG_STATUS_UNLOCKED 0).setFld R.TST_DBG_STATUS_RIGHTS 0

/-- A right of the debug unlock: 0 TMUX, 1 JTAG_DEBUG. -/
def Dev.dbgRight (d : Dev) (i : Nat) : Bool := d.flag R.TST_DBG_STATUS_UNLOCKED && bitOf (d.fld R.TST_DBG_STATUS_RIGHTS) i

/-- What the pins TMUX0 to TMUX7 show; they drive low without rights or ENABLE (R535). -/
def Dev.tmuxByte (d : Dev) : Nat := if d.dbgRight 0 && d.flag R.TST_TMUX_CTRL_ENABLE then d.tst.tmux else 0

/-- A write of TMUX_CTRL (R535). -/
def Dev.tmuxWrite (d : Dev) (v : Nat) : Dev :=
  let a := 0x00D00400
  if bitOf v 0 && !d.dbgRight 0 then
    ((d.plainWrite a (v - 1)).setFlag R.TST_TMUX_CTRL_ENABLE (d.flag R.TST_TMUX_CTRL_ENABLE)).tstRefuse R.TST_EVENTS_LOCKED 0xC00C
  else
    let d := if bitOf v 0 && !d.flag R.TST_TMUX_CTRL_ENABLE then { d with tst := { d.tst with tmux := 0 } } else d
    d.plainWrite a v

/-- A write to a TST word (R531, R534, R535): DRT_EN is taken only with a region; a TMUX_ADDR of type 3 is malformed, and reported as TEST_TARGET (R5).
Log 253 (DESIGN CHOICE, unsafe). -/
def Dev.tstWrite (d : Dev) (a v : Nat) : Dev :=
  let o := a % 0x100000
  if 0x600 ≤ o ∧ o < 0x6A0 then
    let d := d.setReg a (BitVec.ofNat 32 v)
    if o = 0x69C then d.tokenSubmit else d
  else if o = 0x6A4 then (if bitOf v 0 then d.dbgLock else d)
  else if o = 0x400 then d.tmuxWrite v
  else if o = 0x20C ∧ bitOf v 0 ∧ d.fld R.TST_DRT_SIZE < 65536 then d.plainWrite a (v - 1)
  else if o = 0x408 ∧ v / 2 ^ 30 = 3 then (d.plainWrite a v).tstCode 0xC00E
  else d.plainWrite a v

/-- A write to a BLV word (R172). -/
def Dev.blvWrite (d : Dev) (w a v : Nat) : Dev :=
  (d.baseWrite w a v).mixedActs a v

/-- A write of a word by a writer, 0 the host PF or 1 the Porch (R15 to R21).  Addresses that no chapter defines, and live copies, ignore it. -/
def Dev.regWrite (d : Dev) (w a v : Nat) : Dev :=
  if a % 4 ≠ 0 then d
  else if inTap a then d.shadowWrite w a v
  else if (findDesc a).isNone then d
  else match a / 0x100000 with
  | 0 => d.glbWrite w a v
  | 1 => d.posWrite w a v
  | 2 => d.camWrite w a v
  | 3 => d.clgWrite w a v
  | 4 => d.plzWrite w a v
  | 5 => d.blvWrite w a v
  | 7 => d.galWrite a v
  | 8 => d.dmaWrite a v
  | 9 => d.memWrite a v
  | 10 => d.kslWrite w a v
  | 13 => d.tstWrite a v
  | 40 => d.queWrite false (a % 0x100000 / 0x40) (a % 0x40) v
  | _ => d.baseWrite w a v

/-- An access of 4 or 8 bytes: the addresses of its words; none for another size or a misaligned one (R16). -/
def accessWords (a size : Nat) : List Nat :=
  if size = 4 ∧ a % 4 = 0 then [a] else if size = 8 ∧ a % 8 = 0 then [a, a + 4] else []

/-- A write access to BAR0 by a writer (R16). Log 9 (DEDUCED, unsafe). -/
def Dev.barWrite (d : Dev) (w a size v : Nat) : Dev :=
  if a = 0x100018 ∧ size = 8 then d.mdOffsetWrite v else
  (accessWords a size).foldl (fun (x : Dev × Nat) b => (x.1.regWrite w b (x.2 % 2 ^ 32), x.2 / 2 ^ 32)) (d, v) |>.1

/-- A write access to BAR2 by a function: its doorbells and its MSI-X table (R356, R359). -/
def Dev.bar2Write (d : Dev) (fn a size v : Nat) : Dev :=
  let table := if fn = 0 then 0x40000 else 0x1000
  let cq := if fn = 0 then 0x20000 else 0x0800
  let pairs := if fn = 0 then 16384 else 256
  if table ≤ a then ((accessWords a size).foldl (fun (x : Dev × Nat) b => (x.1.msixWrite fn ((b - table) / 4) (x.2 % 2 ^ 32), x.2 / 2 ^ 32)) (d, v)).1
  else if accessWords a size = [] ∨ a % 8 ≠ 0 then d
  else if a / 8 < pairs then d.sqDoorbell fn (a / 8) (v % 65536)
  else if cq ≤ a ∧ (a - cq) / 8 < pairs then d.cqDoorbell fn ((a - cq) / 8) (v % 65536)
  else d

/-- A write access through a VF's queue view (R356, R357). -/
def Dev.vfWrite (d : Dev) (fn a size v : Nat) : Dev :=
  (accessWords a size).foldl (fun (x : Dev × Nat) b =>
    (match (if b < 0x4000 then d.pairOf fn (b / 0x40) else none) with
      | some q => x.1.queWrite true q (b % 0x40) (x.2 % 2 ^ 32)
      | none => x.1, x.2 / 2 ^ 32)) (d, v) |>.1

/-! ### Reads: computed fields -/

/-- The core clock in MHz (R2). -/
def coreMhz : Nat := if Config.grade12 then 1200 else 1000

/-- A value latched by the read of its status word, and that word (R374). -/
def RStat.reads (x : RStat) (lo : Nat) (word value : Fld) : List (Fld × Nat) :=
  [(word, b2n x.ready + 2 * b2n x.fresh + lo + x.status * 65536), (value, x.latched)]

/-- Computed fields of the GLB block. -/
def Dev.glbReads (d : Dev) (a : Nat) : List (Fld × Nat) :=
  if a < 0x200 then
    d.cfg.sealR.reads (d.cfg.sealGroup * 256) R.GLB_SEAL_RSTAT R.GLB_SEAL_VALUE ++ d.cfg.commitR.reads 0 R.GLB_COMMIT_RSTAT R.GLB_COMMIT_VALUE ++
      (R.GLB_COMMIT_EPOCH, d.cfg.commitEpochLatched) :: d.cfg.modeR.reads (d.cfg.modeTarget * 256) R.GLB_MODE_RSTAT ⟨0x158, 0, 64⟩
  else if a = 0x40004 then
    let on := fun (op : Nat) => b2n !(d.subsOf op).isEmpty
    [(R.GLB_HOST_STATUS_CTX_USED, d.ctxList.length), (R.GLB_HOST_STATUS_SUBS, on 0x20 + 2 * on 0x21 + 4 * on 0x23 + 8 * on 0x22)]
  else if 0x42000 ≤ a ∧ a < 0x42070 then
    let k := (a - 0x42000) / 16
    (d.rstat k).reads 0 (R.GLB_OP_RSTAT k) (R.GLB_OP_VALUE k)
  else if 0x48000 ≤ a ∧ a < 0x4C000 then
    let k := (a - 0x48000) / 4
    match d.ctx k with
    | some x => [(R.GLB_CTX_STATE_STATE k, x.st), (R.GLB_CTX_STATE_OPCODE k, x.cmd.op), (R.GLB_CTX_STATE_SQ k, x.cmd.sq)]
    | none => []
  else []

/-- Computed fields of the POS block (R27, R31, R34, R36, R38, R43, R46). -/
def Dev.posReads (d : Dev) (o : Nat) : List (Fld × Nat) :=
  if o < 0x1000 then
    let fast := (List.range 48).any fun g => d.flag (R.POS_TRG_STATUS_OVERSPEED g)
    [(R.POS_STATUS_OVERSPEED, b2n fast), (R.POS_STATUS_ENC_USED, (d.pos.used.map fun e => 2 ^ e).sum),
      (R.POS_WPOS, wrapN 64 d.pos.wpos), (R.POS_MD, wrapN 64 d.pos.md), (R.POS_HWM, wrapN 64 d.pos.hwm), (R.POS_SPEED, speedShown d.pos.speed),
      (R.POS_GRID_ORIGIN, wrapN 64 d.pos.gridOrigin), (R.POS_LINES_PASSED, d.pos.linesPassed), (R.POS_TIME, d.time)]
  else if o < 0x1100 then
    let e := (o - 0x1000) / 0x40
    [(R.POS_ECOUNT e, wrapN 64 (d.enc e).ecount), (R.POS_STATE_USED e, b2n (d.pos.used.contains e)), (R.POS_STATE_EXCLUDED e, b2n (d.enc e).excluded)]
  else if 0x2000 ≤ o ∧ o < 0x2600 then
    let g := (o - 0x2000) / 0x20
    [(R.POS_TRG_STATUS_WAITING g, b2n (d.genWaits g))]
  else []

/-- MID_DELAY of a port, from the shadow and from the live values: the rounded delay in ns, truncated to a whole ns (R66). -/
def Dev.midReads (d : Dev) (mid delay exposure : Fld) : List (Fld × Nat) :=
  [(mid, midCycles (d.fld delay) (d.fld exposure) * 5 / 2), (liveOf mid, midCycles (d.live delay) (d.live exposure) * 5 / 2)]

/-- Computed fields of a CAM port. Log 63 (DESIGN CHOICE, unsafe). -/
def Dev.camReads (d : Dev) (p : Nat) : List (Fld × Nat) :=
  (R.CAM_STATUS_FIELD_NEXT p, d.nextField p) :: d.midReads (R.CAM_MID_DELAY p) (R.CAM_SHD_TRG_DELAY p) (R.CAM_SHD_EXPOSURE p)

/-- Computed fields of a CLG port (R66, R73). -/
def Dev.clgReads (d : Dev) (m : Nat) : List (Fld × Nat) :=
  let rx := (d.port (16 + m)).rx
  [(R.CLG_SER_RX_DATA m, rx.headD 0), (R.CLG_SER_RX_VALID m, b2n !rx.isEmpty), (R.CLG_SER_STATUS_RX_COUNT m, rx.length), (R.CLG_SER_STATUS_TX_FREE m, 256 - (d.txLeft m).length)] ++
    d.midReads (R.CLG_MID_DELAY m) (R.CLG_SHD_TRG_DELAY m) (R.CLG_SHD_EXPOSURE m)

/-- DLY_MAX_LINES of a role: the largest of its channels (R117). -/
def Dev.dlyMaxOf (d : Dev) (r : Nat) : Nat :=
  let v := d.outSnap r 0
  v.chans.foldl (fun m (ch : OutChan) => if ch.on then max m (dlyMaxLines (Dev.dlyHi v r ch (d.compsOf ch.stream) (d.widthOf ch.stream) d.outPitch) d.outPitch) else m) 0

/-- The stripe's role, when it holds one (R8). -/
def Dev.roleHeldBy (d : Dev) (n : Nat) : Option Nat := if d.stripeState n = 6 then none else d.roleOf n

/-- The role that a stripe works for: the one it holds, or the one it mirrors from B1 on (R520, R521). Log 255 (DEDUCED, unsafe). -/
def Dev.roleWorkedBy (d : Dev) (n : Nat) : Option Nat :=
  match d.roleHeldBy n with
  | some r => some r
  | none => let r := d.fld R.TST_ROT_STATUS_ROLE; if d.mirrorOf r = some n then some r else none

/-- Computed fields of a stripe and of the role with its number (R107, R117, R194 to R197, R222). Log 255 (DEDUCED, unsafe). -/
def Dev.strReads (d : Dev) (n o : Nat) : List (Fld × Nat) :=
  if 0x800 ≤ o ∧ o < 0x1000 then
    (match d.roleWorkedBy n with
      | some r => [(R.STR_COR_STATUS_LDS_DEPTH n, d.ldsDepth r), (R.STR_COR_STATUS_DLY_MAX_LINES n, d.dlyMaxOf r)]
      | none => []) ++
    match d.roleHeldBy n with
    | some r => [(R.STR_COR_STATUS_ROLE n, r), (R.STR_COR_STATUS_ROLE_VALID n, 1)]
    | none => []
  else if o = 0x1800 then
    match d.roleWorkedBy n with
    | some r => [(R.STR_SEG_STATUS_RUNNING n, b2n (d.segRuns r)), (R.STR_SEG_STATUS_BACKLOG n, min (d.segBacklog r) 65535)]
    | none => []
  else if n < 16 ∧ o % 0x8000 / 8 = 0x1010 / 8 then
    let budget := fun (g : Fld → Nat) (at_ : Fld → Fld) =>
      let v := segVerOf g n 0
      let ps := segParsOf g n
      [(at_ (R.STR_SEG_BUDGET_LAT_CHAIN n), min (v.lat ps) 255), (at_ (R.STR_SEG_BUDGET_REACH_CHAIN n), min (v.reach ps) 255), (at_ (R.STR_SEG_BUDGET_COST n), min v.cost 65535),
        (at_ (R.STR_SEG_STORE n), min (segStore g n) (2 ^ 22 - 1))]
    if o < 0x8000 then budget d.fld id else budget d.live liveOf
  else []

/-- Computed fields of the BLV block (R138, R141, R149, R154, R155, R166, R177, R183). -/
def Dev.blvReads (d : Dev) (o : Nat) : List (Fld × Nat) :=
  let ready := d.attReady
  if 0x100 ≤ o % 0x8000 ∧ o % 0x8000 < 0x140 then
    let k := (o % 0x8000 - 0x100) / 16
    [(R.BLV_LAYER_OFS k, layerOfs d.fld k), (liveOf (R.BLV_LAYER_OFS k), layerOfs d.live k)]
  else if o < 0x1000 then
    [(R.BLV_ATT_STATE, b2n ready), (R.BLV_ATT_HEAD, if ready then d.blv.head else 0), (R.BLV_ATT_OLDEST, if ready then d.attOldest else 0)]
  else if o < 0x1200 then
    let r := (o - 0x1000) / 0x20
    [(R.BLV_ROLE_STATUS_WAITED r, b2n (d.waitedAt d.blv.nextRow r)), (R.BLV_ROLE_STATUS_LATE r, b2n (d.blv.lateRoles.contains r))]
  else if o = 0x3000 then
    let seeded := (List.range 4).foldl (fun m k => m + (if (d.prfLayer k).seeded then 2 ^ k else 0)) 0
    [(R.BLV_PRF_STATUS_WARMUP, b2n d.warmup), (R.BLV_PRF_STATUS_SETTLED, b2n d.prf.settled), (R.BLV_PRF_STATUS_FILLING, b2n d.prfFilling),
      (R.BLV_PRF_STATUS_SYNC_PENDING, b2n d.prf.syncRow.isSome), (R.BLV_PRF_STATUS_SEEDED, seeded)]
  else if 0x3100 ≤ o ∧ o < 0x3140 then
    let k := (o - 0x3100) / 16
    let x := d.prfLayer k
    [(R.BLV_PRF_LR k, x.lr), (R.BLV_PRF_COLS k, (x.cols.filter fun c => c.st ≠ 0).length), (R.BLV_PRF_FILLING k, (x.filling.filter id).length)]
  else []

/-- Computed fields of a lane (R434, R444): which lanes are in use, the taps of a camera uplink, and the code of a receive equaliser, which it
chooses itself under AUTO. Log 63 (DESIGN CHOICE, unsafe). -/
def Dev.laneReads (d : Dev) (l : Nat) : List (Fld × Nat) :=
  let mapped := if l < 64 then [(R.KSL_LANE_STATUS_IN_USE l, b2n ((List.range 16).any fun p => (d.mappedLanes p).contains l))] else []
  let uplink :=
    if 64 ≤ l ∧ l < 80 then
      let n := d.fld (R.KSL_LANE_CFG_TX_PRESET l)
      let n := if n ≤ 10 then n else (Config.unstated 6 n).toNat % 11
      let (a, b) := presetOf n
      if d.mappedLanes (l - 64) = [] then [] else [(R.KSL_LANE_STATUS_IN_USE l, 1), (R.KSL_LANE_STATUS_PRESET l, n), (R.KSL_LANE_STATUS_PRE l, a), (R.KSL_LANE_STATUS_POST l, b)]
    else []
  let ctle := if receiveLane l then [(R.KSL_LANE_STATUS_CTLE l, if d.flag (R.KSL_LANE_CFG_CTLE_MODE l) then d.fld (R.KSL_LANE_CFG_CTLE_CODE l) else (Config.unstated 7 (l + 112 * d.time)).toNat % 32)] else []
  mapped ++ uplink ++ ctle

/-- Computed fields of the SVC block (R498, R507 to R509, R514). -/
def Dev.svcReads (d : Dev) : List (Fld × Nat) :=
  let left := match d.svc.trialEnd with | some t => (t - d.time + 399999999) / 400000000 | none => 0
  [(R.SVC_STATUS_KEY_SET, b2n Config.keySet), (R.SVC_TRIAL_LEFT_S, left), (R.SVC_BLOCKS_DONE, match d.svc.download with | some x => x.blocks.length | none => 0)]

/-- The fields of the word at an address that are computed when it is read. Log 175 (DESIGN CHOICE, unsafe), 203 (DESIGN CHOICE, unsafe). -/
def Dev.computed (d : Dev) (a : Nat) : List (Fld × Nat) :=
  let o := a % 0x100000
  match a / 0x100000 with
  | 0 => d.glbReads a
  | 1 => d.posReads o
  | 2 => d.camReads (o / 0x10000)
  | 3 => d.clgReads (o / 0x1000 % 4)
  | 4 => if 0x5000 ≤ o ∧ o < 0x5200 then let p := (o - 0x5000) / 16; [(R.PLZ_GPIO_STATUS_PIN p, b2n (d.pinLevel p)), (R.PLZ_GPIO_STATUS_PENDING p, (d.pin p).pend.length)] else []
  | 5 => d.blvReads o
  | 6 => [(R.DCA_STATUS_CLK_MHZ, coreMhz * (8 - d.fld R.GLB_PLAT_STATUS_DCA_STEP) / 8)]
  | 9 => if 0x2000 ≤ o ∧ o < 0x2800 then
      let r := (o - 0x2000) / 16
      (R.MEM_REQ_STATUS r, d.reqStatus r) :: (if 32 ≤ r ∧ r < 96 then [(R.MEM_REQ_CFG_CLASS r, d.classAt 0 r)] else [])
    else []
  | 10 => if 0x4000 ≤ o ∧ o < 0x4E00 then d.laneReads ((o - 0x4000) / 0x20) else []
  | 11 => [(R.CAL_STATUS_PANTRY_PENDING, b2n d.pantryPending), (R.CAL_SINCE_WRITE, d.sinceWrite)]
  | 12 => d.svcReads
  | 13 => if 0x500 ≤ o ∧ o < 0x510 then [(R.TST_DBG_NONCE ((o - 0x500) / 4), leAt d.dbgNonce (o - 0x500) 4)] else []
  | b => if 16 ≤ b ∧ b ≤ 32 then d.strReads (b - 16) o else []

/-- Put the part of a computed field that lies in the word at an address. -/
def putField (a v : Nat) (x : Fld × Nat) : Nat :=
  if x.1.addr = a then putBits v x.1.lo (min x.1.w (32 - x.1.lo)) x.2
  else if x.1.addr + 4 = a ∧ 32 < x.1.lo + x.1.w then putBits v 0 (x.1.lo + x.1.w - 32) (x.2 / 2 ^ (32 - x.1.lo)) else v

/-- What the word at an address reads as, but for the latch of R16 (R15 to R18). Log 204 (DESIGN CHOICE, unsafe). -/
def Dev.readWord (d : Dev) (a : Nat) : Nat :=
  let seen := fun (v : Nat) => (d.computed a).foldl (putField a) v
  if inTap a then d.shadowWord a
  else match findDesc a with
  | some r => let v := seen (d.reg a).toNat; v - (v &&& r.wo)
  | none =>
    match (if 0x8000 ≤ a then findDesc (a - 0x8000) else none) with
    | some r => if r.rws ||| r.comp = 0 then 0 else seen ((d.reg a).toNat &&& r.rws)
    | none => 0

/-- Is the word at an address part of a live 64-bit value, or of a live copy of one (R16). Log 138 (DEDUCED, unsafe). -/
def live64At (a : Nat) : Bool :=
  match findDesc a with
  | some r => r.live64
  | none => match (if 0x8000 ≤ a then findDesc (a - 0x8000) else none) with | some r => r.live64 && decide (r.comp ≠ 0) | none => false

/-! ### Reads: side effects -/

/-- A read of a status word clears FRESH and latches its value (R374). Log 137 (DEDUCED, unsafe). -/
def RStat.read (x : RStat) : RStat := { x with fresh := false, latched := if x.ready then x.value else 0 }

/-- What a read of a word changes (R73, R374). Log 137 (DEDUCED, unsafe). -/
def Dev.readEffect (d : Dev) (a : Nat) : Dev :=
  if a = 0x110 then d.setCfg fun x => { x with sealR := x.sealR.read }
  else if a = 0x130 then d.setCfg fun x => { x with commitR := x.commitR.read, commitEpochLatched := if x.commitR.ready then x.commitEpoch else 0 }
  else if a = 0x150 then d.setCfg fun x => { x with modeR := x.modeR.read }
  else if 0x42000 ≤ a ∧ a < 0x42070 ∧ a % 16 = 0 then d.rstatRead ((a - 0x42000) / 16)
  else if 0x300000 ≤ a ∧ a < 0x304000 ∧ a % 0x1000 = 0x68 then d.serRx (a / 0x1000 % 4)
  else d

/-- The latch of a reader (R16). Log 138 (DEDUCED, unsafe). -/
def Dev.latch (d : Dev) (porch : Bool) (a : Nat) : Word := tget 0 (if porch then d.hiPorch else d.hiHost) a

/-- Set the latch of a reader. -/
def Dev.setLatch (d : Dev) (porch : Bool) (a v : Nat) : Dev :=
  if porch then { d with hiPorch := tset 0 d.hiPorch a (BitVec.ofNat 32 v) } else { d with hiHost := tset 0 d.hiHost a (BitVec.ofNat 32 v) }

/-- A 4-byte read (R16): the low word of a live 64-bit value latches the high half, whose read returns the latch. -/
def Dev.read4 (d : Dev) (porch : Bool) (a : Nat) : Nat × Dev :=
  let v := d.readWord a
  if !live64At a then (v, d.readEffect a)
  else if a % 8 = 0 then (v, d.setLatch porch a (d.readWord (a + 4)))
  else ((d.latch porch (a - 4)).toNat, d)

/-- A read access to BAR0 (R16): its value, zero for another size or a misaligned one. Log 9 (DEDUCED, unsafe). -/
def Dev.barRead (d : Dev) (porch : Bool) (a size : Nat) : Nat × Dev :=
  match accessWords a size with
  | [b] => d.read4 porch b
  | [b, c] => (d.readWord b + d.readWord c * 2 ^ 32, (d.readEffect b).readEffect c)
  | _ => (0, d)

end Sys2Proof.Machine
end

