-- ==== Sys2Proof/Machine/Porch.lean ====
section
/-!
DEFINITION. The Porch (chapter 17): the KSP messages over Ethernet and the recovery UART, sessions, downloads, verification, activation and trials.
-/
namespace Sys2Proof.Machine

def Dev.setSvc (d : Dev) (f : SvcState → SvcState) : Dev := { d with svc := f d.svc }

/-! ### Transports (R498 to R500) -/

/-- UART escaping of a frame's bytes (R499). -/
def uartEscape (bs : List Byte) : List Byte :=
  (0x7E : Byte) :: (bs.flatMap fun b => if b = 0x7E ∨ b = 0x7D then [0x7D, b ^^^ 0x20] else [b]) ++ [0x7E]

/-- Remove the escapes of what lies between a frame's 0x7E marks. -/
def unescape : List Byte → List Byte
  | [] => []
  | b :: bs => if b = 0x7D then (match bs with | [] => [] | c :: cs => (c ^^^ 0x20) :: unescape cs) else b :: unescape bs

/-- The bytes of a UART frame; none where it does not begin and end with 0x7E or holds more than 1,472 bytes (R499). -/
def uartFrame (bs : List Byte) : Option (List Byte) :=
  match bs with
  | b :: rest =>
    let body := unescape rest.dropLast
    if b = 0x7E ∧ rest.getLast? = some 0x7E ∧ rest.dropLast.all (fun c => decide (c ≠ 0x7E)) ∧ body.length ≤ 1472 then some body else none
  | [] => none

/-- Does a transport reach the Porch (R498, R500): both run in every mode except RESET, Ethernet while its link is up. -/
def Dev.porchUp (d : Dev) (transport : Nat) : Bool :=
  decide (d.mode ≠ .reset) && (decide (transport = 2) || (decide (transport = 1) && d.flag R.SVC_STATUS_LINK_UP))

/-- The next hop of a datagram (R498): GATEWAY outside the subnet of a static address. -/
def Dev.nextHop (d : Dev) (ip : Nat) : Nat :=
  if !d.svc.recordValid ∨ d.rec_ 70 1 ≠ 0 then ip else
  let mask := beNat (slice d.svc.record 76 4)
  if ip &&& mask = d.netAddress &&& mask then ip else beNat (slice d.svc.record 80 4)

/-- The Ethernet address in use (R501). -/
def Dev.macAddress (d : Dev) : Nat :=
  let m := beNat (slice d.svc.record 64 6)
  if d.svc.recordValid ∧ m ≠ 0 then m else Config.mac.toNat

/-- Send the bytes of a message to a peer. -/
def Dev.porchSend (d : Dev) (p : Peer) (bs : List Byte) : Dev :=
  if p.transport = 2 then d.emit (.porch p 0 (uartEscape bs)) else d.emit (.porch p (d.nextHop p.ip) bs)

/-- ARP_REQUEST: a request for the part's address is answered (R498). Log 218 (DEDUCED, unsafe). -/
def Dev.arpRequest (d : Dev) (ip : Nat) : Dev :=
  if d.porchUp 1 && decide (ip = d.fld R.SVC_IP) && decide (ip ≠ 0) then d.emit (.arpReply ip d.macAddress) else d

/-- ETHERNET_LINK_CHANGE (R498). -/
def Dev.ethernetLink (d : Dev) (up : Bool) : Dev := d.setFlag R.SVC_STATUS_LINK_UP up

/-! ### Messages (R502, R503) -/

/-- A KSP message. -/
structure Ksp where
  type : Nat
  response : Bool
  tagged : Bool
  session : Nat
  seq : Nat
  payload : List Byte
  /-- Header and payload, which TAG covers. -/
  signed : List Byte
  tag : List Byte
  deriving DecidableEq, Repr

/-- Read a message; none where its CRC, MAGIC, VERSION or LEN is wrong (R502). -/
def kspOf (bs : List Byte) : Option Ksp :=
  let len := leAt bs 6 2
  let tagged := bitOf (leAt bs 4 1) 1
  let n := 20 + len + (if tagged then 16 else 0)
  if leAt bs 0 2 ≠ 0x534B ∨ leAt bs 2 1 ≠ 1 ∨ 1408 < len ∨ bs.length ≠ n + 4 ∨ leAt bs n 4 ≠ crc32 (bs.take n) then none
  else some { type := leAt bs 3 1, response := bitOf (leAt bs 4 1) 0, tagged := tagged, session := leAt bs 8 4, seq := leAt bs 12 4, payload := slice bs 20 len, signed := bs.take (20 + len), tag := if tagged then slice bs (20 + len) 16 else [] }

/-- The TYPEs of R503. Log 210 (DEDUCED, unsafe). -/
def kspListed (t : Nat) : Bool := decide (1 ≤ t ∧ t ≤ 4) || decide (0x10 ≤ t ∧ t ≤ 0x14) || decide (0x20 ≤ t ∧ t ≤ 0x25)

/-- The bytes of a response, with a TAG under a key when it goes through a session. -/
def kspResponse (q : Ksp) (status : Nat) (payload : List Byte) (key : Option (List Byte)) : List Byte :=
  let head := leBytes 2 0x534B ++ [1] ++ leBytes 1 q.type ++ leBytes 1 (1 + (if key.isSome then 2 else 0)) ++ [0] ++ leBytes 2 payload.length ++ leBytes 4 q.session ++ leBytes 4 q.seq ++ leBytes 2 status ++ [0, 0]
  let body := head ++ payload
  let all := body ++ (match key with | some k => (hmac k body).take 16 | none => [])
  all ++ leBytes 4 (crc32 all)

/-- Note the code of a refusal. -/
def Dev.noteCode (d : Dev) (status : Nat) : Dev := if 0x6000 ≤ status ∧ status < 0x7000 then d.svcErr status else d

/-- Answer a request outside a session. -/
def Dev.answer (d : Dev) (p : Peer) (q : Ksp) (status : Nat) (payload : List Byte) : Dev := (d.noteCode status).porchSend p (kspResponse q status payload none)

/-- Answer a request of the session; the response is kept for a repetition (R506). Log 211 (DEDUCED, unsafe). -/
def Dev.reply (d : Dev) (p : Peer) (q : Ksp) (status : Nat) (payload : List Byte) : Dev :=
  match d.svc.session with
  | none => d
  | some s =>
    let bs := kspResponse q status payload (some s.key)
    let d := d.setSvc fun x => { x with session := some { s with response := if s.seq = q.seq then bs else s.response } }
    (d.noteCode status).porchSend p bs

/-- A message of one TYPE arrives (R500 to R503): `body` takes the request.  A TYPE outside R503 is answered with MSG_BAD; in FOYER only HELLO is
answered. Log 210 (DEDUCED, unsafe). -/
def Dev.porchIn (d : Dev) (p : Peer) (raw : List Byte) (type : Nat) (body : Ksp → Dev → Dev) : Dev :=
  if !d.porchUp p.transport then d else
  match (if p.transport = 2 then uartFrame raw else some raw).bind kspOf with
  | none => d
  | some q =>
    if q.response then d
    else if d.mode = .foyer ∧ q.type ≠ 1 then d
    else if !kspListed q.type then d.answer p q 0x6005 []
    else if q.type ≠ type then d else body q d

/-- A request of the session (R503, R506): its TAG, its SEQ, and its least payload. Log 211 (DEDUCED, unsafe). -/
def Dev.inSession (d : Dev) (p : Peer) (raw : List Byte) (type least : Nat) (body : Ksp → Dev → Dev) : Dev :=
  d.porchIn p raw type fun q d =>
    match d.svc.session with
    | none => d.answer p q 0x6004 []
    | some s =>
      if !q.tagged ∨ q.session ≠ s.id ∨ q.tag ≠ (hmac s.key q.signed).take 16 then d.answer p q 0x6004 []
      else if q.seq = s.seq ∧ s.response ≠ [] then (d.setSvc fun x => { x with session := some { s with lastAt := d.time } }).porchSend p s.response
      else if q.seq ≠ (s.seq + 1) % 2 ^ 32 then d
      else
        let d := d.setSvc fun x => { x with session := some { s with lastAt := d.time, seq := q.seq, response := [] } }
        if q.payload.length < least then d.reply p q 0x6005 [] else body q d

/-! ### Sessions (R503, R506, R507) -/

/-- A random draw of 32 bytes. Log 15 (DESIGN CHOICE, safe). -/
def Dev.draw (d : Dev) : List Byte × Dev := (leBytes 32 (Config.random d.draws).toNat, { d with draws := d.draws + 1 })

/-- The label of a proof: four ASCII characters. -/
def label (s : String) : List Byte := s.toList.map fun c => BitVec.ofNat 8 c.toNat

/-- Does a firmware image run: it does unless the Foyer failed before one was started. Log 215 (DEDUCED, unsafe). -/
def Dev.firmwareRuns (d : Dev) : Bool := d.cfg.fwRuns

/-- HELLO. -/
def Dev.hello (d : Dev) (p : Peer) (raw : List Byte) : Dev :=
  d.porchIn p raw 1 fun q d =>
    let (nonce, d) := d.draw
    let d := d.setSvc fun x => { x with nonce := some (nonce, d.time, d.devicePlace) }
    let head := leBytes 4 d.devicePlace ++ leBytes 1 d.mode.code ++ leBytes 1 (b2n Config.secureBoot + 2 * b2n Config.keySet) ++ leBytes 1 (d.fld R.GLB_BOOT_FW_SLOT) ++ [0] ++ leBytes 4 (d.rec_ 8 4)
    d.answer p q 0 (head ++ d.versionText ++ nonce)

/-- Refuse an OPEN. Log 213 (DEDUCED, unsafe). -/
def Dev.openRefused (d : Dev) (p : Peer) (q : Ksp) (code : Nat) : Dev := (d.bump R.SVC_AUTH_FAIL_CNT).answer p q code []

/-- The nonce while it is valid, 10 s, and the place of its HELLO response (R507). -/
def Dev.nonceNow (d : Dev) : Option (List Byte × Nat) :=
  match d.svc.nonce with
  | some (n, t, place) => if d.time ≤ t + usCycles 10000000 then some (n, place) else none
  | none => none

/-- The service key as it acts (R507). Log 13 (DESIGN CHOICE, safe). -/
def serviceKey : List Byte := if Config.keySet then beBytes 32 Config.serviceKey.toNat else zeros 32

/-- OPEN. Log 213 (DEDUCED, unsafe). -/
def Dev.openSession (d : Dev) (p : Peer) (raw : List Byte) : Dev :=
  d.porchIn p raw 2 fun q d =>
    let nonceH := slice q.payload 0 32
    if q.payload.length < 68 then d.openRefused p q 0x6005
    else if d.svc.session.isSome then d.openRefused p q 0x6003
    else if !Config.keySet && Config.secureBoot then d.openRefused p q 0x6002
    else
      let failed := ((d.setSvc fun x => { x with nonce := none }).raise R.SVC_EVENTS_AUTH_FAIL).openRefused p q 0x6001
      match d.nonceNow with
      | none => failed
      | some (nonceD, place) =>
        if slice q.payload 32 32 ≠ hmac serviceKey (label "HOST" ++ nonceD ++ nonceH ++ leBytes 4 place) then failed else
        let (r, d) := d.draw
        let id := 1 + leNat r % (2 ^ 32 - 1)
        let service := bitOf (leAt q.payload 64 1) 0
        let s : Session := { transport := p.transport, id := id, key := hmac serviceKey (label "KSP1" ++ nonceD ++ nonceH), service := service, lastAt := d.time }
        let d := ((d.setSvc fun x => { x with session := some s }).setFld R.SVC_STATUS_SESSION p.transport).raise R.SVC_EVENTS_SESSION_OPEN
        let d := d.answer p q 0 (leBytes 4 id ++ hmac serviceKey (label "DEVC" ++ nonceH ++ nonceD))
        if service then d.modeRequest 10 .reg else d

/-- CLOSE. -/
def Dev.closeMsg (d : Dev) (p : Peer) (raw : List Byte) : Dev := d.inSession p raw 3 0 fun q d => (d.reply p q 0 []).sessionClose

/-- KEEPALIVE. -/
def Dev.keepalive (d : Dev) (p : Peer) (raw : List Byte) : Dev := d.inSession p raw 4 0 fun q d => d.reply p q 0 []

/-- SESSION_IDLE_TIMEOUT: 30 s without a valid request (R506). -/
def Dev.sessionTimeout (d : Dev) : Dev :=
  match d.svc.session with
  | some s => (d.advance (s.lastAt + usCycles 30000000)).sessionClose
  | none => d

/-! ### Status, registers, log, reset (R503 to R505) -/

def Dev.updState (d : Dev) : Nat := d.fld R.SVC_STATUS_UPD_STATE

/-- STATUS. -/
def Dev.statusMsg (d : Dev) (p : Peer) (raw : List Byte) : Dev :=
  d.inSession p raw 0x10 0 fun q d =>
    let slot := match d.svc.download with | some x => x.slot | none => 0
    let b := fun (n : Nat) => leBytes 1 n
    d.reply p q 0 (b d.mode.code ++ b d.updState ++ b (d.fld R.SVC_STATUS_TARGET) ++ b slot ++ b (d.slotState 0) ++ b (d.slotState 1) ++ b (d.rec_ 15 1) ++ b (d.rec_ 16 1) ++ leBytes 2 (d.readWord 0x00C00010) ++ leBytes 2 (d.rec_ 90 2) ++
      leBytes 4 (d.fld R.GLB_EPOCH) ++ leBytes 8 (d.fld R.GLB_FINGERPRINT) ++ leBytes 2 (d.fld R.SVC_LAST_ERR) ++ zeros 6)

/-- May the Porch reach words of BAR0 (R504): in RECOVERY it reads GLB and SVC and writes SVC. Log 212 (DEDUCED, unsafe). -/
def Dev.porchReaches (d : Dev) (write : Bool) (a n : Nat) : Bool :=
  decide (d.mode ≠ .recovery) || decide (0x00C00000 ≤ a ∧ a + 4 * n ≤ 0x00D00000) || (!write && decide (a + 4 * n ≤ 0x00100000))

/-- REG_READ. Log 212 (DEDUCED, unsafe). -/
def Dev.regReadMsg (d : Dev) (p : Peer) (raw : List Byte) : Dev :=
  d.inSession p raw 0x11 6 fun q d =>
    let a := leAt q.payload 0 4
    let n := leAt q.payload 4 2
    if a % 4 ≠ 0 ∨ n = 0 ∨ 256 < n then d.reply p q 0x6005 []
    else if !d.porchReaches false a n then d.reply p q 0x6010 []
    else
      let (bs, d) := (List.range n).foldl (fun (x : List Byte × Dev) i => let (v, d) := x.2.read4 true (a + 4 * i); (x.1 ++ leBytes 4 v, d)) ([], d)
      d.reply p q 0 bs

/-- REG_WRITE. -/
def Dev.regWriteMsg (d : Dev) (p : Peer) (raw : List Byte) : Dev :=
  d.inSession p raw 0x12 8 fun q d =>
    let a := leAt q.payload 0 4
    let n := (q.payload.length - 4) / 4
    if a % 4 ≠ 0 ∨ q.payload.length % 4 ≠ 0 ∨ 256 < n then d.reply p q 0x6005 []
    else if !d.porchReaches true a n then d.reply p q 0x6010 []
    else (List.range n).foldl (fun d i => d.regWrite 1 (a + 4 * i) (leAt q.payload (4 + 4 * i) 4)) (d.reply p q 0 [])

/-- LOG_READ: bytes of the event log. Log 212 (DEDUCED, unsafe). -/
def Dev.logRead (d : Dev) (p : Peer) (raw : List Byte) : Dev :=
  d.inSession p raw 0x13 6 fun q d =>
    let o := leAt q.payload 0 4
    let n := leAt q.payload 4 2
    if n < 4 ∨ 1024 < n ∨ n % 4 ≠ 0 ∨ 0x400000 < o + n then d.reply p q 0x6005 []
    else d.reply p q 0 ((List.range n).map fun i => Config.logByte d.log.length (o + i))

/-- Blocks of 64 KiB of an image, and chunks of 1,024 B of a block. -/
def Download.blockCount (x : Download) : Nat := (x.len + 65535) / 65536
def Download.chunkCount (x : Download) (b : Nat) : Nat := (min 65536 (x.len - 65536 * b) + 1023) / 1024

/-- Is a block complete (R509): all its chunks have arrived, and the last block holds the bytes up to IMAGE_LEN. Log 214 (DEDUCED, unsafe). -/
def Download.full (x : Download) (b : Nat) : Bool :=
  (List.range (x.chunkCount b)).all fun c =>
    let bs := tget [] x.chunks (b * 64 + c)
    decide (bs ≠ []) && (decide (b + 1 < x.blockCount) || decide (min 1024 (x.len - (b * 65536 + c * 1024)) ≤ bs.length))

/-- The staged blocks of a download. -/
def Download.staged (x : Download) : List Nat := (List.range x.blockCount).filter fun b => x.chunks.any fun c => decide (c.1 / 64 = b)

/-- Is a flash write of the chapter in progress (R505): a complete block waits to be written. -/
def Dev.flashBusy (d : Dev) : Bool := match d.svc.download with | some x => x.staged.any x.full | none => false

/-- RESET (R505). Log 212 (DEDUCED, unsafe). -/
def Dev.kspReset (d : Dev) (p : Peer) (raw : List Byte) : Dev :=
  d.inSession p raw 0x14 4 fun q d =>
    if leAt q.payload 0 4 ≠ 0x52535421 then d.reply p q 0x6005 []
    else if d.mode.framed then d.reply p q 0x600E []
    else if d.flashBusy then d.reply p q 0x6009 []
    else (d.reply p q 0 []).warmReset (some 3)

/-! ### Download (R508, R509) -/

/-- The BLOCKS map, 48 bytes. -/
def Dev.blocksMap (d : Dev) : List Byte :=
  let bs := match d.svc.download with | some x => x.blocks | none => []
  leBytes 48 ((bs.map fun b => 2 ^ b).sum)

/-- Where a target's slot lies in flash, and its size (R474). -/
def slotPlace (target slot : Nat) : Nat × Nat :=
  if target = 0 then (flashFirmware slot, firmwareSize) else if target = 1 then (flashRecipe slot, recipeSize) else (flashModel slot, modelSize)

/-- Is a slot inactive (R508). -/
def Dev.slotInactive (d : Dev) (target slot : Nat) : Bool :=
  if target = 0 then !(d.firmwareRuns && decide (slot = d.fld R.GLB_BOOT_FW_SLOT))
  else if target = 1 then decide (slot ≠ d.fld R.GLB_BOOT_RECIPE) && (!d.svc.recordValid || (decide (slot ≠ d.rec_ 16 1) && decide (slot ≠ d.rec_ 88 1)))
  else true

/-- The record that new contents start from: the one in use, or an empty one where none is valid. -/
def Dev.recordBase (d : Dev) : List Byte := if d.svc.recordValid then d.svc.record else fit 256 (leBytes 4 0x52425746 ++ leBytes 2 1)

/-- UPD_STATE and TARGET. -/
def Dev.setUpd (d : Dev) (st : Nat) : Dev := d.setFld R.SVC_STATUS_UPD_STATE st

/-- UPD_BEGIN (R508).  `held`: what the flash holds where the record write of a firmware download fails. -/
def Dev.updBegin (d : Dev) (p : Peer) (raw : List Byte) (held : Option (List Byte)) : Dev :=
  d.inSession p raw 0x20 40 fun q d =>
    let target := leAt q.payload 0 1
    let slot := leAt q.payload 1 1
    let len := leAt q.payload 4 4
    let digest := slice q.payload 8 32
    let other : Bool := match d.svc.download with | some x => !(decide (x.target = target) && decide (x.slot = slot)) | none => false
    let same : Bool := match d.svc.download with | some x => !other && decide (x.len = len) && decide (x.digest = digest) | none => false
    if 2 < target ∨ (if target = 1 then 3 else 1) < slot then d.reply p q 0x6005 []
    else if !d.slotInactive target slot then d.reply p q 0x6006 []
    else if (target = 0 ∧ (d.slotState 0 = 2 ∨ d.slotState 1 = 2)) ∨ (target = 1 ∧ d.rec_ 89 1 % 2 = 1) then d.reply p q 0x6007 []
    else if (slotPlace target slot).2 < len then d.reply p q 0x6008 []
    else if other then d.reply p q 0x6009 []
    else if same then d.reply p q 0 ([1, 0, 0, 0] ++ d.blocksMap)
    else
      let (d, ok) := if target = 0 then d.recordWrite (putAt d.recordBase (13 + slot) [0]) held else (d, true)
      if !ok then d.reply p q 0x600D [] else
      let d := (d.setSvc fun x => { x with download := some { target := target, slot := slot, len := len, digest := digest }, verifying := none }).setFld R.SVC_STATUS_TARGET target
      let d := d.setUpd (if len = 0 then 2 else 1)
      d.reply p q 0 ([0, 0, 0, 0] ++ d.blocksMap)

/-- UPD_DATA (R509). Log 214 (DEDUCED, unsafe). -/
def Dev.updData (d : Dev) (p : Peer) (raw : List Byte) : Dev :=
  d.inSession p raw 0x21 9 fun q d =>
    let o := leAt q.payload 0 4
    let bs := q.payload.drop 8
    match d.svc.download with
    | none => d.reply p q 0x6009 []
    | some x =>
      if o % 1024 ≠ 0 ∨ 1024 < bs.length ∨ x.len < o + bs.length then d.reply p q 0x6005 [] else
      let b := o / 65536
      let open_ := x.staged.filter fun c => !x.full c
      if x.blocks.contains b || (x.staged.contains b && x.full b) then d.reply p q 0 []
      else if !open_.contains b ∧ 4 ≤ open_.length then d.reply p q 0x600A []
      else (d.setSvc fun s => { s with download := some { x with chunks := tset [] x.chunks (o / 1024) bs } }).reply p q 0 []

/-- The bytes of a staged block as they are programmed: chunks in order, 0xFF beyond the image and where a chunk is short. -/
def Download.blockBytes (x : Download) (b : Nat) : List Byte :=
  (List.range (x.chunkCount b)).flatMap fun c => let bs := tget [] x.chunks (b * 64 + c); bs ++ List.replicate (1024 - bs.length) 0xFF

/-- UPD_BLOCK_WRITTEN: a complete block is erased, programmed and read back.  `held`: what the flash holds where the retry failed as well.
Log 217 (DESIGN CHOICE, unsafe). -/
def Dev.blockWritten (d : Dev) (b : Nat) (held : Option (List Byte)) : Dev :=
  match d.svc.download with
  | none => d
  | some x =>
    if !(x.staged.contains b && x.full b) then d else
    let want := x.blockBytes b ++ List.replicate (65536 - (x.blockBytes b).length) (0xFF : Byte)
    let got := match held with | some h => h.take 65536 ++ List.replicate (65536 - h.length) (0xFF : Byte) | none => want
    let d := d.flashFill ((slotPlace x.target x.slot).1 + 65536 * b) 65536 got
    let x := { x with chunks := x.chunks.filter fun c => decide (c.1 / 64 ≠ b) }
    if got ≠ want then ((((d.setSvc fun s => { s with download := none }).setUpd 5).svcErr 0x600D).raise R.SVC_EVENTS_FLASH_FAIL)
    else
      let x := { x with blocks := b :: x.blocks.filter (· ≠ b) }
      let d := d.setSvc fun s => { s with download := some x }
      if x.blocks.length = x.blockCount then d.setUpd 2 else d

/-- UPD_QUERY. Log 214 (DEDUCED, unsafe). -/
def Dev.updQuery (d : Dev) (p : Peer) (raw : List Byte) : Dev := d.inSession p raw 0x22 0 fun q d => d.reply p q 0 ([0, 0, 0, 0] ++ d.blocksMap)

/-- UPD_ABORT. -/
def Dev.updAbort (d : Dev) (p : Peer) (raw : List Byte) : Dev :=
  d.inSession p raw 0x25 0 fun q d => (((d.setSvc fun x => { x with download := none, verifying := none }).setUpd 0).setFld R.SVC_STATUS_TARGET 0).reply p q 0 []

/-! ### Verification and activation (R510 to R512) -/

/-- Are all blocks of a download in flash. -/
def Download.done (x : Download) : Bool := decide (x.blocks.length = x.blockCount)

/-- UPD_VERIFY: the read-back verification starts; its response comes with its end. Log 216 (DEDUCED, unsafe). -/
def Dev.updVerify (d : Dev) (p : Peer) (raw : List Byte) : Dev :=
  d.inSession p raw 0x23 0 fun q d =>
    match d.svc.download with
    | some x => if x.done ∧ d.svc.verifying.isNone then (d.setSvc fun s => { s with verifying := some (p, q.seq) }).setUpd 3 else d.reply p q 0x6009 []
    | none => d.reply p q 0x6009 []

/-- The first failing check of R510, or 0. -/
def updCheck (x : Download) (bs : List Byte) : Nat :=
  match imageOf bs with
  | none => 1
  | some m =>
    let end_ := m.trailer + 32 + (if m.signed then 128 else 0)
    let digest := sha256 (bs.take m.trailer)
    let key := slice bs (m.trailer + 96) 64
    if m.len ≠ end_ ∨ bs.length < end_ then 1
    else if m.sections.any fun s => !s.crcOk then 2
    else if digest ≠ slice bs m.trailer 32 then 3
    else if digest ≠ x.digest then 4
    else if m.kind ≠ x.target + 1 then 5
    else if Config.secureBoot && !(m.signed && decide (sha256 key = beBytes 32 Config.keyHash.toNat) && ecdsaOk digest (slice bs (m.trailer + 32) 64) key) then 6
    else 0

/-- UPD_VERIFY_DONE. Log 216 (DEDUCED, unsafe). -/
def Dev.updVerifyDone (d : Dev) : Dev :=
  match d.svc.download, d.svc.verifying with
  | some x, some (p, seq) =>
    let (o, size) := slotPlace x.target x.slot
    let bs := d.flashImage o size
    let check := updCheck x bs
    let code := if check = 0 then 0 else if check = 4 then 0x600C else 0x600B
    let d := d.setSvc fun s => { s with verifying := none }
    let d := if check = 0 then (d.setUpd 4).raise R.SVC_EVENTS_VERIFIED else (d.setUpd 5).noteCode code
    let d := if check = 0 ∧ x.target = 1 then (d.setCfg fun c => { c with recipes := tset [] c.recipes x.slot bs }).setFld (Fld.bit R.GLB_BOOT_RECIPES x.slot) 1 else d
    match d.svc.session with
    | some s => d.reply p { type := 0x23, response := false, tagged := true, session := s.id, seq := seq, payload := [], signed := [], tag := [] } code (leBytes 2 check)
    | none => d
  | _, _ => d

/-- UPD_ACTIVATE (R512).  `held`: what the flash holds where the record write fails. -/
def Dev.updActivate (d : Dev) (p : Peer) (raw : List Byte) (held : Option (List Byte)) : Dev :=
  d.inSession p raw 0x24 1 fun q d =>
    let boots := leAt q.payload 0 1
    match d.svc.download with
    | none => d.reply p q 0x6009 []
    | some x =>
      if d.updState ≠ 4 ∨ x.target = 2 then d.reply p q 0x6009 []
      else if boots = 0 ∨ 7 < boots then d.reply p q 0x6005 []
      else
        let bs := d.recordBase
        let bs :=
          if x.target = 0 then putAt (putAt (putAt bs (13 + x.slot) [2]) 12 (leBytes 1 x.slot)) 15 (leBytes 1 boots)
          else putAt (putAt (putAt bs 88 (slice bs 16 1)) 16 (leBytes 1 x.slot)) 89 [1]
        let (d, ok) := d.recordWrite bs held
        d.reply p q (if ok then 0 else 0x600D) []

/-! ### Trials (R514) -/

/-- TRIAL_CONFIRM: HOLD_S has passed since the Foyer ended and since the last sign of bad health, before
the timer expires; the slot is written GOOD and the timer stops. Log 285 (DEDUCED, unsafe). -/
def Dev.trialConfirm (d : Dev) (held : Option (List Byte)) : Dev :=
  if d.svc.trialEnd.isNone ∨ d.mode = .reset ∨ d.mode = .foyer ∨ d.mode = .recovery ∨ d.mode = .fault ∨ d.fld R.GLB_EPOCH = 0 then d else
  let due := max d.time (d.svc.healthyFrom + usCycles (1000000 * d.holdSeconds))
  if d.svc.trialEnd.any fun t => t < due then d else
  let d := d.advance due
  let (d, ok) := d.recordWrite (putAt d.svc.record (13 + d.fld R.GLB_BOOT_FW_SLOT) [1]) held
  if ok then (d.setSvc fun x => { x with trialEnd := none }).setFld R.SVC_STATUS_TRIAL 0 else d

/-- TRIAL_TIMER_EXPIRY. Log 32 (DESIGN CHOICE, unsafe). -/
def Dev.trialExpiry (d : Dev) : Dev := match d.svc.trialEnd with | some t => (d.advance t).warmReset (some 6) | none => d

end Sys2Proof.Machine
end

