-- ==== Sys2Proof/Machine/Debug.lean ====
section
/-!
DEFINITION. The test multiplexer and the JTAG port (R535 to R537).
-/
namespace Sys2Proof.Machine

/-! ### The test multiplexer (R535, R536) -/

/-- Put a number in bits of a word. -/
def withBits (v : Nat) (xs : List (Nat × Nat × Nat)) : Nat := xs.foldl (fun v x => putBits v x.1 x.2.1 x.2.2) v

/-- The stripe that a place names when it is a stripe place, or any place within a stripe (R6, R7). -/
def Dev.stripeOfAddr (d : Dev) (a : Nat) (lane : Bool) : Option Nat :=
  (List.range 17).find? fun n => decide ((if lane then a / 2 ^ 14 * 2 ^ 14 else a) = d.place n) && decide (a % 16 = 0)

/-- What lane `lane` of a stripe shows of the stage, row and column that `seen` says it works on: FINAL of the column, and the stage's output (R195, R536).
The lane runs the window columns that leave `lane` by 1,024. Log 254 (DEDUCED, unsafe). -/
def Dev.laneShows (d : Dev) (n lane seen : Nat) : List (Nat × Nat × Nat) :=
  match d.roleWorkedBy n with
  | none => []
  | some r =>
    let c := d.chain r
    let cols := (List.range (winCols d.live r)).filter fun w => decide (w % 1024 = lane)
    match c.rows.find? fun w => decide (w.line % 2 ^ 32 = bits seen 32 32), cols[bits seen 8 24 % max cols.length 1]? with
    | some row, some w =>
      let x := d.segCtx r c
      [(0, 1, (x.plane 17 (16 + c.ver.final) w row.line).toNat), (8, 24, wrapN 24 (x.plane 17 (16 + bits seen 1 4) w row.line))]
    | _, _ => []

/-- The word of the selected group (R536).  `seen` gives the bits that no state of the part holds: what happens in this very clock, and values inside the
stages and stores. A selection whose address does not fit the group's scope gives zero. Log 207 (DEDUCED, unsafe). -/
def Dev.tmuxWord (d : Dev) (seen : Nat) : Nat :=
  let a := d.fld R.TST_TMUX_ADDR
  let i := d.fld R.TST_TMUX_SEL_INDEX
  let whole := decide (a = d.devicePlace)
  match d.fld R.TST_TMUX_SEL_GROUP with
  | 0 =>
    if !whole then 0 else
    withBits seen [(0, 4, d.mode.code), (7, 1, d.fld R.POS_STATUS_MOVING), (8, 1, d.fld R.POS_STATUS_REVERSE), (9, 7, 0), (16, 24, d.pos.linesPassed), (40, 24, wrapN 64 d.pos.md / 16)]
  | 1 =>
    match d.stripeOfAddr a false with
    | none => 0
    | some n =>
      let involved := decide (2 ≤ d.rotPhase) && (decide (n = d.rot.spare) || decide (n = d.rot.source))
      withBits seen [(5, 3, 0), (8, 5, if involved then d.rotPhase else 0), (13, 3, 0), (32, 32, d.fld (R.STR_LAST_LINE n))]
  | 2 => match d.stripeOfAddr a true with | none => 0 | some n => withBits seen ((5, 3, 0) :: d.laneShows n (a / 16 % 1024) seen)
  | 3 =>
    match (List.range 48).find? fun n => decide (a = d.streamAddr n) with
    | none => 0
    | some n =>
      match d.streamInfo n with
      | none => 0
      | some s => withBits seen [(0, 3, d.fld (portState s.port)), (7, 9, 0)]
  | 4 =>
    if !whole ∨ 16 ≤ i then 0 else
    let y := d.door i
    let who := match y.grant with | some (q, _) => q.who | none => 0
    withBits seen [(0, 7, who), (7, 3, if y.grant.isSome then d.classAt i who else 0), (10, 1, b2n (y.grant.isSome && y.lock.isSome)), (13, 3, 0), (28, 36, 0)]
  | 5 => if !whole then 0 else withBits seen [(6, 26, 0)]
  | 6 =>
    match (List.range 2).find? fun c => decide (a / 2 ^ 18 = d.queueAddr (decide (c = 1)) 0 / 2 ^ 18) with
    | none => 0
    | some c =>
      let q := a % 2 ^ 18 / 16
      if a % 16 ≠ 0 then 0
      else if c = 0 then withBits seen [(3, 13, 0), (16, 16, d.fld (R.QUE_SQ_STATUS_SQ_HEAD q)), (32, 16, 0), (48, 16, (d.queue q).tail)]
      else withBits seen [(3, 13, 0), (16, 16, d.fld (R.QUE_CQ_HEAD q)), (32, 16, 0), (48, 16, d.fld (R.QUE_CQ_STATUS_CQ_TAIL q))]
  | _ => if !whole ∨ 2 ≤ i then 0 else withBits seen [(0, 3, d.stage i), (32, 32, 0)]

/-- TMUX_STROBE: a rising edge of TMUX_STB samples the selected word; the pins carry its chosen byte from the falling edge on (R535).
Log 207 (DEDUCED, unsafe). -/
def Dev.tmuxStrobe (d : Dev) (seen : Nat) : Dev :=
  if d.mode = .reset ∨ !d.dbgRight 0 ∨ !d.flag R.TST_TMUX_CTRL_ENABLE then d else
  let d := { d with tst := { d.tst with tmux := d.tmuxWord (seen % 2 ^ 64) / 256 ^ d.fld R.TST_TMUX_CTRL_BYTE % 256 } }
  d.emit (.tmux d.tst.tmux)

/-! ### JTAG (R537, R548) -/

/-- JTAG_INSTRUCTION: a new instruction becomes current, or BYPASS in its place. Log 209 (DEDUCED, unsafe). -/
def Dev.jtagInstruction (d : Dev) (op : Nat) : Dev :=
  let set := fun (d : Dev) (i : Nat) => { d with tst := { d.tst with jtag := i } }
  if op = 1 ∨ op = 2 then set d op
  else if 3 ≤ op ∧ op ≤ 5 then (if d.mode = .reset then set d op else (set d 0xFF).tstRefuse R.TST_EVENTS_JTAG_REFUSED 0xC010)
  else if 0x20 ≤ op ∧ op ≤ 0x2F ∧ d.dbgRight 1 then set d op
  else set d 0xFF

/-- The instruction that acts (R537): one whose condition has passed since it was taken acts as BYPASS. Log 209 (DEDUCED, unsafe). -/
def Dev.jtagActs (d : Dev) : Nat :=
  let i := d.tst.jtag
  if (3 ≤ i ∧ i ≤ 5 ∧ d.mode ≠ .reset) ∨ (0x20 ≤ i ∧ i ≤ 0x2F ∧ !d.dbgRight 1) then 0xFF else i

/-- The word of IDCODE (R537). Log 209 (DEDUCED, unsafe). -/
def idcode : Nat := 1 + Config.manufacturer.toNat * 2 + 0x1648 * 2 ^ 12 + Config.rev.toNat % 16 * 2 ^ 28

/-- TRST_N_ASSERT: the TAP is reset, and IDCODE is current. -/
def Dev.trstAssert (d : Dev) : Dev := { d with tst := { d.tst with jtag := 1 } }

end Sys2Proof.Machine
end

