-- ==== Sys2Proof/Machine/Commands.lean ====
section
/-!
DEFINITION. The short host commands that ask the rest of the part for something (R366, R468, R482, R488, R172), and host accesses outside BAR0 (R156,
R356).
-/
namespace Sys2Proof.Machine

/-- Who a command's outcome goes to. -/
def HostCmd.who (c : HostCmd) : Who := match c.ctx with | some x => .host x | none => .reg

/-- COMMIT: FORM 0 at the next boundary, 1 at INDEX. Log 11 (DESIGN CHOICE, unsafe), 177 (DEDUCED, unsafe). -/
def Dev.commitCmd (d : Dev) (q : Nat) : Dev :=
  d.startCmd q 0x02 (fun c => decide (1 < c.argAt 0 1)) noBuf fun c d => d.commitClash.requestCommit (decide (c.argAt 0 1 = 1)) (c.specAt 0 8) c.who

/-- MODE_REQUEST. Log 11 (DESIGN CHOICE, unsafe), 177 (DEDUCED, unsafe). -/
def Dev.modeCmd (d : Dev) (q : Nat) : Dev := d.startCmd q 0x03 noBad noBuf fun c d => d.modeRequest (c.argAt 0 1) c.who

/-- RECIPE_SWITCH. Log 11 (DESIGN CHOICE, unsafe). -/
def Dev.recipeCmd (d : Dev) (q : Nat) : Dev :=
  d.startCmd q 0x04 (fun c => decide (3 < c.argAt 0 1) || decide (1 < c.argAt 1 1)) noBuf fun c d => d.recipeSwitch (c.argAt 0 1) (decide (c.argAt 1 1 = 1)) (c.specAt 0 8) c.who

/-- PROFILE_RESET: it answers L_S, on a slave once the master has sent it. Log 206 (DESIGN CHOICE, unsafe). -/
def Dev.profileReset (d : Dev) (q : Nat) : Dev :=
  d.startCmd q 0x05 noBad noBuf fun c d =>
    let d := (d.syncClash false).syncRequest 2
    if d.mode.filters && d.isSlave then d else d.finish c 0 d.syncRow 0

/-- SYNC_RECEIVE: L_S from the master; the PROFILE_RESET commands that wait for it end (R172, R174). -/
def Dev.syncReceive (d : Dev) (bs : List Byte) : Dev :=
  if !d.isSlave then d else
  let d := d.setSync (leAt bs 0 8)
  (d.opsOf 0x05).foldl (fun d x => d.finish x.2.cmd 0 (leAt bs 0 8) 0) d

/-! ### Host accesses outside the queues (R156, R355, R356) -/

/-- May a host access reach BAR0 now (R355): every block once the Foyer has ended in STANDBY or beyond, GLB and SVC for reading in RECOVERY. -/
def Dev.hostReaches (d : Dev) (write : Bool) (a : Nat) : Bool :=
  decide (3 ≤ d.mode.code) || (decide (d.mode = .recovery) && !write && (decide (a / 0x100000 = 0) || decide (a / 0x100000 = 0xC)))

/-- A 4-byte write of the PF to BAR0. Log 10 (DEDUCED, unsafe). -/
def Dev.hostWrite (d : Dev) (a v : Nat) : Dev := if d.hostReaches true a then d.regWrite 0 a v else d

/-- A write of the PF or of a VF: to BAR0 or a VF's queue view, or to BAR2 (R16, R355 to R357). -/
def Dev.busWrite (d : Dev) (bar2 : Bool) (fn a size v : Nat) : Dev :=
  if !d.hostReaches true a then d
  else if bar2 then d.bar2Write fn a size v
  else if fn = 0 then d.barWrite 0 a size v else d.vfWrite fn a size v

/-- A read of the PF from BAR0; its value goes out. -/
def Dev.hostRead (d : Dev) (a size : Nat) : Dev :=
  if !d.hostReaches false a then d else
  let (v, d) := d.barRead false a size
  d.emit (.readData (leBytes size v) false)

/-- A host read through BAR4 (R156): bytes of DRAM, zero beyond installed DRAM. Log 79 (DEDUCED, unsafe). -/
def Dev.bar4Read (d : Dev) (o n : Nat) (ecc : EccResult) : Dev :=
  if n = 0 ∨ d.mode.code < 3 ∨ 2 ^ d.host.pcie.bar4 < o + n then d else
  let a := d.bar4Addr o
  let d := d.eccReport ecc (a / 64 * 64)
  d.emit (.readData (d.dramRead a n) (d.flag R.MEM_DRAM_CFG_ECC_EN && decide (ecc = .uncorrectable)))

/-- BAR4_WRITE: a write within the window that BAR4 now has (R157). -/
def Dev.bar4Put (d : Dev) (o : Nat) (bs : List Byte) : Dev :=
  if d.mode.code < 3 ∨ 2 ^ d.host.pcie.bar4 < o + bs.length then d else d.bar4Write o bs

/-- PCIE_CONFIG_WRITE (R355, R356, R381, R386). In RECOVERY the part is the PF alone. Log 129 (DEDUCED, unsafe). -/
def Dev.configWrite (d : Dev) (c : CfgWrite) : Dev :=
  if d.mode.code < 2 then d else
  match c with
  | .memEnable on => d.setPcie fun p => { p with memEnable := on, bar4 := if on && !p.memEnable then p.bar4Next else p.bar4 }
  | .bar4Size n => if 28 ≤ n ∧ n ≤ 36 then d.setPcie fun p => { p with bar4Next := n } else d
  | .busMaster fn => d.setPcie fun p => { p with bme := if p.bme.contains fn.val then p.bme else p.bme ++ [fn.val] }
  | .numVfs n => if d.mode = .recovery then d else d.setPcie fun p => { p with numVfs := n.val }
  | .functionMask fn on =>
    let d := d.setPcie fun p => { p with masked := if on then fn.val :: p.masked.filter (· ≠ fn.val) else p.masked.filter (· ≠ fn.val) }
    if on then d else
    (d.host.pcie.pendingVec.filter fun k => decide (k / 2048 = fn.val) && d.host.pcie.unmasked.contains k).foldl (fun d k => d.msixUnmask fn.val (k % 2048)) d

/-! ### Packets and position messages (R56, R452) -/

/-- A packet arrives on a port; what it carries is taken where this device is meant. -/
def Dev.packet (d : Dev) (side t : Nat) (p : RxPacket) (act : Dev → Dev) : Dev :=
  let (d, mine) := d.rxPacket side t p
  if mine then act d else d

/-- POS_SYNC_PULSE: at every 1,024th position clock the master of a cascade pulses POS_SYNC and sends POS on both ports (R55, R56, R458).
Log 45 (DEDUCED, unsafe). -/
def Dev.posSyncPulse (d : Dev) : Dev :=
  if !(d.flag R.POS_STATUS_MASTER) ∨ d.cascadeSize < 2 then d else
  let d := d.advance ((d.time / 1024 + 1) * 1024)
  let seq := (d.fld R.POS_SYNC_STATUS_SYNC_SEQ + 1) % 65536
  ((d.broadcast PT.pos (d.posPayload seq)).setFld R.POS_SYNC_STATUS_SYNC_SEQ seq).emit .posSync

/-- POS_SYNC_EDGE: a slave latches its position clock (R57). -/
def Dev.posSyncEdge (d : Dev) (t : Nat) : Dev := if d.isSlave then d.latchSync t else d

/-- APRON_RECEIVE: the row goes into the store of its side, or is discarded when it comes late (R160). -/
def Dev.apronReceive (d : Dev) (side : Nat) (bs : List Byte) : Dev :=
  let r := apronOf bs
  { d with blv := if side = 0 then { d.blv with west := d.blv.west.put r } else { d.blv with east := d.blv.east.put r } }

/-- SYNC_REQ_RECEIVE: a forwarded request reaches the master (R172). -/
def Dev.syncReqReceive (d : Dev) (bs : List Byte) : Dev := if d.isSlave then d else (d.syncClash false).syncRequest (leAt bs 0 1)

/-- LINKINFO_RECEIVE: a slave in ARMED starts when its master runs (R460, R470). -/
def Dev.linkinfoTake (d : Dev) (side : Nat) (p : RxPacket) : Dev :=
  let (d, runs) := d.linkinfoReceive side p.hops p.payload
  if runs && d.isSlave then d.start else d

/-! ### Plaza inputs (R172, R295, R296, R488) -/

/-- DEC_SYNC. -/
def Dev.decSync (d : Dev) : Dev := d.onPulse 0xF0 fun _ d => (d.syncClash true).syncRequest 1

/-- PROFILE_SYNC_PIN: a slave's pin does nothing. -/
def Dev.syncPin (d : Dev) : Dev := if d.isSlave then d else (d.syncClash false).syncRequest 0

/-- COMMIT_INPUT: a commit at the next boundary, unless one is requested already. Log 104 (DEDUCED, unsafe). -/
def Dev.commitInput (d : Dev) : Dev :=
  d.onPulse 0xF1 fun x d =>
    let d := { d with plz := { d.plz with comAt := d.time + 1 } }
    if d.plz.softAt = d.time + 1 then d.clash 0xF1
    else if d.cfg.next.isSome then d.overrun 0xF1
    else d.requestNext .reg (min (x.lineage + 1) 7)

/-- DMA_START: an event reaches the input of a channel (R388, R389). -/
def Dev.dmaInput (d : Dev) (n : Nat) : Dev := d.onPulse (0x70 + n) fun x d => d.dmaStart n (some (0x70 + n)) (x.lineage + 1)

/-! ### Rows of the grid and of the stripes -/

/-- ENCODER_EDGE: in RESET the levels of the phases alone are followed (R23). -/
def Dev.encoderRow (d : Dev) (e : Nat) (a b : Bool) (t stable : Nat) : Dev :=
  if d.mode = .reset then d.setEnc e { d.enc e with a := a, b := b } else
  let (d, moved) := d.encoderEdge e a b t stable
  d.motionEvent moved

/-- MOTION_STOP: the state of motion is judged at a cycle (R37). Log 49 (DEDUCED, unsafe). -/
def Dev.motionRow (d : Dev) (t : Nat) : Dev :=
  let (d, moved) := ((d.advance t).motionStop).motionStart
  d.motionEvent moved

/-- CMP_FIRE: a slot of a marker's pool goes on to its marker (R51, R307). -/
def Dev.cmpRow (d : Dev) (k t : Nat) : Dev :=
  let (d, fired) := d.cmpFire k t
  if fired && d.slotOwned k then d.slotFired k else d

/-- GPIO_EDGE: in RESET the level from outside alone is followed (R299). -/
def Dev.gpioRow (d : Dev) (p : Nat) (level : Bool) (t stable : Nat) : Dev :=
  if d.mode = .reset then d.setPin p { d.pin p with ext := level } else d.gpioEdge p level t stable

/-- CAM_IDENTIFY_DONE: a port that becomes READY takes its stored trims (R91, R332). -/
def Dev.identifyRow (d : Dev) (p : Nat) (ident : List Byte) : Dev :=
  let (d, ready) := d.camIdentified p ident
  if ready then d.pantryPort p else d

/-- CLG_CLOCK_LOCKED: a port that becomes LOCKED takes its stored trims (R74, R332). -/
def Dev.clgRow (d : Dev) (m mhz : Nat) : Dev :=
  let (d, ready) := d.clgLocked m mhz
  if ready then d.pantryPort (16 + m) else d

/-- A line that the camera side has completed joins the sums of an external calibration that sums now, and a floor line goes to the Boulevard (R143, R326). -/
def Dev.lineOn (d : Dev) (r : Nat) (l : BusLine) : Dev :=
  let d := if d.extSums then d.extLine r l else d
  match (if l.floor then d.floorBand r l else none) with
  | some b => d.floorArrive b
  | none => d

/-- CAMSIDE_CHUNK: the camera side takes a chunk, and a completed line goes on (R127). -/
def Dev.chunkRow (d : Dev) (r : Nat) : Dev :=
  match d.camsideChunk r with
  | (d, none) => d
  | (d, some l) => d.lineOn r l

/-- BAND_LINE_TAKE: the role has handed on a line (R138, R141, R525). -/
def Dev.bandRow (d : Dev) (r : Nat) : Dev := if d.bandTakes r then (d.takeBand r).stallClear r else d

/-- The window of the next row of a role is released when it may be (R148, R160, R176). -/
def Dev.windowOut (d : Dev) (r : Nat) (giveUp : Bool) : Dev :=
  let l := tget 0 d.blv.nextWin r
  let d := d.releaseWindow r (d.sideActive 0) (d.sideActive 1) (d.expected 0) (d.expected 1) giveUp
  if (tget [] d.windows r).any fun w => decide (w.line = l) && w.flags.apronMissing then d.prfApron l else d

/-- APRON_WAIT_EXPIRY: APRON_WAIT has passed since the merge of the row that the role's next window needs (R160). -/
def Dev.apronExpiry (d : Dev) (r : Nat) : Dev :=
  match d.blv.rows.find? fun x => x.line = tget 0 d.blv.nextWin r with
  | none => d
  | some x => (d.advance (x.mergedAt + usCycles (max (d.live R.BLV_APRON_WAIT) 1))).windowOut r true

/-- SEG_ROW: the row joins what waits to be labelled (R218, R233). -/
def Dev.segRowOut (d : Dev) (r : Nat) : Dev :=
  match d.segRow r with
  | (d, some _) => d.labelNext
  | (d, none) => d

/-- SEG_SKIP: the skip notice reaches the labeller (R222, R257). -/
def Dev.segSkipOut (d : Dev) (r : Nat) : Dev :=
  match d.segSkip r with
  | (d, some (first, last)) => d.skipNotice r first last
  | (d, none) => d

/-- What a step of the labelled row means for the classifier and the markers (R263, R305, R306). -/
def Dev.rowDone (x : Dev × RowOut) : Dev := x.1.afterRow x.2

/-- The marker decisions that a step of the classifier gives (R283, R305). -/
def Dev.decided (x : Dev × List (Subject × Verdict)) : Dev := x.1.markDecisions x.2

/-- VBLANK_START: a preview frame goes to the host (R344, R352). -/
def Dev.vblankRow (d : Dev) : Dev :=
  match d.vblank d.composing with
  | (d, some f) => d.previewOut f
  | (d, none) => d

/-- DMA_READ_FAIL: an uncorrectable DRAM error is found where ECC runs only, and is reported as such (R402, R411). Log 146 (DEDUCED, unsafe). -/
def Dev.dmaFailRow (d : Dev) (n : Nat) (f : ReadFail) (wrote : Nat) (data : List Byte) : Dev :=
  match f with
  | .timeout => d.dmaReadFail n 0 wrote data
  | .errorCompletion => d.dmaReadFail n 1 wrote data
  | .unavailable => d.dmaReadFail n 2 wrote data
  | .dramError a => if d.flag R.MEM_DRAM_CFG_ECC_EN then (d.eccReport .uncorrectable a).dmaReadFail n 3 wrote data else d

/-! ### What every command's meaning shares -/

/-- The bytes that the step wrote go into the stores it began with; a reset has emptied DRAM (R548). Log 19 (DESIGN CHOICE, unsafe). -/
def Dev.flush (d : Dev) (dram flash : Tbl Byte) : Dev :=
  { d with
    dram := d.dramLog.foldr (fun x t => tfill 0 t x.1 x.2.length x.2) (if d.dram.isEmpty then [] else dram)
    flash := d.flashLog.foldr (fun x t => tfill 0xFF t x.1 x.2.1 x.2.2) flash
    dramLog := [], flashLog := [] }

/-- A command's effect on everything but the queue: nothing has gone out yet when it begins; then a fault that it asked for is entered (R472), and a
LANE_RETRAIN follows its ports (R371), and pins note their levels (R299). Log 4 (DESIGN CHOICE, unsafe). -/
def State.always (s : State) (f : Dev → Dev) : Host.Outcome State Fault Refusal :=
  .next { s with dev := (f { s.dev with out := [] }).settleFault.retrainFollow.settlePins.flush s.dev.dram s.dev.flash }

/-- The same for a command that does nothing while the part is in RESET (R548). Log 3 (DESIGN CHOICE, unsafe), 4 (DESIGN CHOICE, unsafe). -/
def State.run (s : State) (f : Dev → Dev) : Host.Outcome State Fault Refusal :=
  s.always fun d => if d.mode = .reset then d else f d

/-- What an empty queue does: one tick of the position clock (DESIGN CHOICE). In RESET the clock stands still. Log 1 (DESIGN CHOICE, unsafe). -/
def State.tick (s : State) : Host.Outcome State Fault Refusal := s.run fun d => d.advance (d.time + 1)

end Sys2Proof.Machine
end

