-- ==== Sys2Proof/Machine/CalibrationCommands.lean ====
section
/-!
DEFINITION. What the commands of self-calibration and the Pantry (chapter 10) mean.
-/
namespace Sys2Proof.Machine

/-- PANTRY_WRITE_DONE (R331): Erasing, programming and read-back of the Pantry copy end in success or in PANTRY_FAIL. -/
def execPantryWriteDone (held : Option (List Byte)) (s : State) : Host.Outcome State Fault Refusal := s.run fun d => d.pantryWriteDone held

/-- CAL_DECISION (R321): The firmware's arithmetic on the two snapshots ends, and each unit is accepted or rejected. -/
def execCalDecision (s : State) : Host.Outcome State Fault Refusal := s.run fun d => d.calDecision

/-- CAL_COMPUTE_LATE (R316): COMPUTE_FRAMES output frames pass without a decision, and the cycle is abandoned. -/
def execCalComputeLate (s : State) : Host.Outcome State Fault Refusal := s.run fun d => d.calLate

/-- EXT_CAL_SUMS_DONE (R326): REF_LINES lines have been summed in BLACK or WHITE, and the external calibration moves to its next state. -/
def execExtCalSumsDone (s : State) : Host.Outcome State Fault Refusal := s.run fun d => d.extSumsDone

/-- EXT_CAL_COMPUTE_DONE (R327): The external calibration computes DARK, GAIN and DEFECT results, or rejects them. -/
def execExtCalComputeDone (s : State) : Host.Outcome State Fault Refusal := s.run fun d => d.extComputeDone

/-- PANTRY_WRITE_START (R330): A Pantry write falls due, and its contents are taken at one boundary. -/
def execPantryWriteStart (s : State) : Host.Outcome State Fault Refusal := s.run fun d => d.pantryWriteStart

end Sys2Proof.Machine
end

