-- ==== Sys2Proof/Machine/CameraCommands.lean ====
section
/-!
DEFINITION. What the commands of camera ports (chapter 2) mean.
-/
namespace Sys2Proof.Machine

/-- CAM_TRIG (R65): A trigger event reaches a CAM port, which sends the rising-edge pulse message and queues the trigger. -/
def execCamTrig (p : Fin 16) (s : State) : Host.Outcome State Fault Refusal := s.run fun d => d.camTrig p.val

/-- CLG_CC (R72): An event reaches a CLG CC input, which drives the CC line as a pulse or level and queues CC1 triggers. -/
def execClgCc (m c : Fin 4) (s : State) : Host.Outcome State Fault Refusal := s.run fun d => d.clgCc m.val c.val

/-- TRIGGER_PULSE_END (R65): SHD_EXPOSURE or 100 ns after the trigger, the falling-edge pulse message is sent or the CC line falls. -/
def execTriggerPulseEnd (p : Fin 20) (s : State) : Host.Outcome State Fault Refusal := s.run fun d => d.pulseEnd p.val

/-- EXPOSURE_STAMP (R39): The stamp of a camera line is fixed at its exposure midpoint, interpolated between bracketing edges or taken from the live WPOS. -/
def execExposureStamp (p : Fin 20) (s : State) : Host.Outcome State Fault Refusal := s.run fun d => d.exposureStamp p.val

/-- CAM_LINE (R67): A camera line arrives at a port: it is matched to a trigger, padded or cut, numbered by field, and delivered to the pixel bus or its landing ring. -/
def execCamLine (p : Fin 20) (at_ : Nat) (planes : List (List Nat)) (elasticFull : Bool) (s : State) : Host.Outcome State Fault Refusal := s.run fun d => d.camLine p.val at_ planes elasticFull

/-- ACQ_FRAME_EDGE (R80): An acquisition frame opens or closes at FVAL from the camera, and SHORT_FRAME or LONG_FRAME is checked. -/
def execAcqFrameEdge (p : Fin 20) (opens : Bool) (at_ : Nat) (s : State) : Host.Outcome State Fault Refusal := s.run fun d => d.acqEdge p.val opens at_

/-- GC_GO (R69): A write of GO = 1 starts a command-channel transaction, or sets GC_COLLIDE while BUSY is set. -/
def execGcGo (p : Fin 16) (v : BitVec 32) (s : State) : Host.Outcome State Fault Refusal := s.run fun d => d.hostWrite (0x2000A8 + 0x10000 * p.val) (v.toNat ||| 0x400)

/-- GC_ANSWER (R69): The camera answers the command-channel transaction, which sets DONE with the status. -/
def execGcAnswer (p : Fin 16) (ok : Bool) (data : List Byte) (s : State) : Host.Outcome State Fault Refusal := s.run fun d => d.gcAnswer p.val ok data

/-- GC_TIMEOUT (R69): A command-channel transaction gets no answer within GC_TIMEOUT ms and ends with status 0x4009. -/
def execGcTimeout (p : Fin 16) (s : State) : Host.Outcome State Fault Refusal := s.run fun d => d.gcTimeout p.val

/-- CAM_LANES_SIGNAL (R90): All mapped lanes of a port show signal, and the port moves from DETECT to LINK. -/
def execCamLanesSignal (p : Fin 16) (s : State) : Host.Outcome State Fault Refusal := s.run fun d => d.camLanesSignal p.val

/-- CAM_LINK_UP (R90): All lanes of a port are block-locked and deskewed, and the port moves from LINK to IDENTIFY. -/
def execCamLinkUp (p : Fin 16) (skew : Nat) (s : State) : Host.Outcome State Fault Refusal := s.run fun d => d.camLinkUp p.val skew

/-- DESKEW_RETRY (R62): Every 10 ms a port whose lane skew was too large retries deskew. -/
def execDeskewRetry (p : Fin 16) (skew : Nat) (s : State) : Host.Outcome State Fault Refusal := s.run fun d => d.deskewRetry p.val skew

/-- CAM_IDENTIFY_DONE (R91): The identity reads are complete and the port goes to READY or MISMATCH, applying stored Pantry trims. -/
def execCamIdentifyDone (p : Fin 16) (ident : List Byte) (s : State) : Host.Outcome State Fault Refusal := s.run fun d => d.identifyRow p.val ident

/-- CAM_IDENTIFY_WAIT_END (R90): One second after the third timed-out identify try, the port returns to DETECT. -/
def execCamIdentifyWaitEnd (p : Fin 16) (s : State) : Host.Outcome State Fault Refusal := s.run fun d => d.identifyWaitEnd p.val

/-- CAM_RETRY (R90): A write of RETRY takes a port from MISMATCH back to DETECT. -/
def execCamRetry (p : Fin 16) (v : BitVec 32) (s : State) : Host.Outcome State Fault Refusal := s.run fun d => d.hostWrite (0x200000 + 0x10000 * p.val) (v.toNat ||| 0x1000)

/-- ROLE_MISSING_TIMEOUT (R93): A port stays outside STREAMING for 100 ms after a trigger, which makes its role or streams missing. -/
def execRoleMissingTimeout (p : Fin 20) (s : State) : Host.Outcome State Fault Refusal := s.run fun d => d.roleMissing p.val

/-- CLG_CLOCK_LOCKED (R74): Every needed channel clock of a CLG port has stayed in range for 1 ms, and the port becomes LOCKED. -/
def execClgClockLocked (m : Fin 4) (mhz : Nat) (s : State) : Host.Outcome State Fault Refusal := s.run fun d => d.clgRow m.val mhz

/-- CLG_CLOCK_LOST (R74): A needed CLG channel clock goes missing or out of range, which makes the port NO_CLOCK and sets CLOCK_LOST. -/
def execClgClockLost (m : Fin 4) (ch : Fin 3) (s : State) : Host.Outcome State Fault Refusal := s.run fun d => d.clgLost m.val ch.val

/-- SER_BYTE_RECEIVE (R73): A byte arrives on a CLG serial pair and enters the receive FIFO, or sets SER_OVF when the FIFO is full. -/
def execSerByteReceive (m : Fin 4) (b : Byte) (s : State) : Host.Outcome State Fault Refusal := s.run fun d => d.serReceive m.val b

/-- SER_TX_WRITE (R73): A write of SER_TX queues a byte for the camera's serial line. -/
def execSerTxWrite (m : Fin 4) (v : BitVec 32) (s : State) : Host.Outcome State Fault Refusal := s.run fun d => d.hostWrite (0x300064 + 0x1000 * m.val) (v.toNat)

/-- SER_RX_READ (R73): A read of SER_RX takes one byte from the receive FIFO. -/
def execSerRxRead (m : Fin 4) (s : State) : Host.Outcome State Fault Refusal := s.run fun d => d.hostRead (0x300068 + 0x1000 * m.val) 4

end Sys2Proof.Machine
end

