-- ==== Sys2Proof/Machine/DisplayCommands.lean ====
section
/-!
DEFINITION. What the commands of the Gallery and DisplayPort (chapter 11) mean.
-/
namespace Sys2Proof.Machine

/-- GAL_UPDATE (R345): A write of CTRL.UPDATE = 1 makes the staged GAL registers live at the next vertical blank. -/
def execGalUpdate (v : BitVec 32) (s : State) : Host.Outcome State Fault Refusal := s.run fun d => d.hostWrite (0x700000) (v.toNat ||| 4)

/-- DP_PLUG (R348): HPD is held high for 100 ms, which starts the DPCD read, EDID read, timing choice, training and video. -/
def execDpPlug (lanes rate : Nat) (edid : List Byte) (s : State) : Host.Outcome State Fault Refusal := s.run fun d => d.dpPlug lanes rate edid

/-- IRQ_HPD (R348): A 0.25–2 ms low on HPD reads the link status, and the link is retrained if lock was lost. -/
def execIrqHpd (lost : Bool) (s : State) : Host.Outcome State Fault Refusal := s.run fun d => d.irqHpd lost

/-- DP_TRAIN_DONE (R350): Link training ends with video started, or with TRAIN_FAIL once every candidate has failed. -/
def execDpTrainDone (good : List (Nat × Nat)) (s : State) : Host.Outcome State Fault Refusal := s.run fun d => d.trainDone good

/-- DP_TRAIN_RETRY (R350): One second after TRAIN_FAIL, with HPD still high, the plug sequence restarts. -/
def execDpTrainRetry (lanes rate : Nat) (edid : List Byte) (s : State) : Host.Outcome State Fault Refusal := s.run fun d => d.trainRetry lanes rate edid

/-- VBLANK_START (R344): Vertical blank starts: the staged registers become live, the next panel frame's state is fixed, and a preview frame is written. -/
def execVblankStart (s : State) : Host.Outcome State Fault Refusal := s.run fun d => d.vblankRow

/-- UNDERRUN (R346): A scan-out pixel finds the FIFO empty and is sent as UNDERRUN_COLOR. -/
def execUnderrun (s : State) : Host.Outcome State Fault Refusal := s.run fun d => d.underrun

/-- DP_UNPLUG (R348): HPD is low for more than 2 ms, which abandons the sequence and stops the video. -/
def execDpUnplug (s : State) : Host.Outcome State Fault Refusal := s.run fun d => d.dpUnplug

end Sys2Proof.Machine
end

