-- ==== Sys2Proof/Machine/DmaMemoryCommands.lean ====
section
/-!
DEFINITION. What the commands of the DMA engine and the memory (chapters 13 and 14) mean.
-/
namespace Sys2Proof.Machine

/-- DMA_GO (R388): A write of GO = 1 starts or queues a REGISTER-mode chain. -/
def execDmaGo (n : Fin 64) (s : State) : Host.Outcome State Fault Refusal := s.run fun d => d.hostWrite (0x801010 + 0x40 * n.val) (1)

/-- DMA_STOP (R403): A write of STOP = 1 stops a running REGISTER-mode chain at the next 64 B boundary. -/
def execDmaStop (n : Fin 64) (blocks : Nat) (data : List Byte) (s : State) : Host.Outcome State Fault Refusal := s.run fun d => if d.hostReaches true 0x801010 then d.dmaStop n.val blocks data else d

/-- DMA_CLEAR (R389): A write of CLEAR = 1 returns a HALTED channel to IDLE. -/
def execDmaClear (n : Fin 64) (s : State) : Host.Outcome State Fault Refusal := s.run fun d => d.hostWrite (0x801010 + 0x40 * n.val) (4)

/-- DMA_DESC_READ (R401): A descriptor is read and checked, and it runs or halts the chain. -/
def execDmaDescRead (n : Fin 64) (host : List Byte) (s : State) : Host.Outcome State Fault Refusal := s.run fun d => d.dmaDescRead n.val host

/-- DMA_DESC_DONE (R400): All writes of a descriptor are visible: CH_TAG and CH_DESC_DONE update, and DMA_DONEn fires when asked or at the chain's end. -/
def execDmaDescDone (n : Fin 64) (data : List Byte) (s : State) : Host.Outcome State Fault Refusal := s.run fun d => d.dmaDescDone n.val data

/-- DMA_READ_FAIL (R402): A host or DRAM read of a chain fails or times out, and the chain halts after draining. -/
def execDmaReadFail (n : Fin 64) (kind : ReadFail) (wrote : Nat) (data : List Byte) (s : State) : Host.Outcome State Fault Refusal := s.run fun d => d.dmaFailRow n.val kind wrote data

/-- DOORWAY_DECISION (R420): A Doorway decides who takes the next 64 B transfer slot, by lock, grant, class and rank. -/
def execDoorwayDecision (x : Fin 19) (arrivals : List Arrival) (move release : Bool) (ecc : EccResult) (s : State) : Host.Outcome State Fault Refusal := s.run fun d => d.doorway x.val arrivals move release ecc

/-- LOCK_TIMEOUT (R423): A locked sequence exceeds 2 µs and is broken with LOCK_BROKEN. -/
def execLockTimeout (x : Fin 19) (s : State) : Host.Outcome State Fault Refusal := s.run fun d => d.lockTimeout x.val

/-- STARVE (R425): A requester's wait counter reaches WAIT_LIMIT, which sets STARVE_MAP and fires MEM_EVENT. -/
def execStarve (x : Fin 19) (r : Fin 128) (s : State) : Host.Outcome State Fault Refusal := s.run fun d => d.starve x.val r.val

/-- REFRESH_DUE (R413): A bank's per-bank refresh is issued when the bank is idle, or forced at 8 behind. -/
def execRefreshDue (c : Fin 16) (bank : Fin 32) (issued : Nat) (s : State) : Host.Outcome State Fault Refusal := s.run fun d => d.refreshDue c.val bank.val issued

/-- RETRAIN_DUE (R414): Every RETRAIN_MS a channel's tracking steps fall due and are made in the first 100 ns gap. -/
def execRetrainDue (c : Fin 16) (gap drift : Bool) (s : State) : Host.Outcome State Fault Refusal := s.run fun d => d.retrainDue c.val gap drift

/-- RETRAIN_FORCED (R414): No gap comes within RETRAIN_WAIT_US, and the tracking steps are forced. -/
def execRetrainForced (c : Fin 16) (drift : Bool) (s : State) : Host.Outcome State Fault Refusal := s.run fun d => d.retrainForced c.val drift

/-- MR4_POLL (R415): Every 1 ms the controllers read MR4, and an over-temperature sets DRAM_HOT and requests FAULT. -/
def execMr4Poll (mults : List (Fin 3)) (hot : Bool) (s : State) : Host.Outcome State Fault Refusal := s.run fun d => d.mr4Poll (mults.map Fin.val) hot

/-- C0_LOAD_WINDOW (R430): A 10 µs window ends: CH_LOAD is updated and C0_LOAD is set above C0_LIMIT. -/
def execC0LoadWindow (c : Fin 16) (s : State) : Host.Outcome State Fault Refusal := s.run fun d => d.loadWindow c.val

/-- REQ_CLASS_WRITE (R424): A write of a requester's CLASS takes effect at the next decision of each Doorway. -/
def execReqClassWrite (r : Fin 128) (v : BitVec 32) (s : State) : Host.Outcome State Fault Refusal := s.run fun d => d.hostWrite (0x902000 + 0x10 * r.val) (v.toNat)

end Sys2Proof.Machine
end

