-- ==== Sys2Proof/Machine/HostCommands.lean ====
section
/-!
DEFINITION. What the commands of the host commands and long operations (chapter 12) mean.
-/
namespace Sys2Proof.Machine

/-- IDENTIFY (R369): The IDENTIFY command writes the 4,096-byte identity page. -/
def execIdentify (q : Fin 16384) (s : State) : Host.Outcome State Fault Refusal := s.run fun d => d.identify q.val d.versionText

/-- COMMIT (R488): The COMMIT command requests a commit at the next boundary or at an index. -/
def execCommit (q : Fin 16384) (s : State) : Host.Outcome State Fault Refusal := s.run fun d => d.commitCmd q.val

/-- MODE_REQUEST (R468): The MODE_REQUEST command requests a change of mode. -/
def execModeRequest (q : Fin 16384) (s : State) : Host.Outcome State Fault Refusal := s.run fun d => d.modeCmd q.val

/-- RECIPE_SWITCH (R482): The RECIPE_SWITCH command applies a stored recipe through group 31 and commits it. -/
def execRecipeSwitch (q : Fin 16384) (s : State) : Host.Outcome State Fault Refusal := s.run fun d => d.recipeCmd q.val

/-- PROFILE_RESET (R172): The PROFILE_RESET command requests a profile sync and returns L_S. -/
def execProfileReset (q : Fin 16384) (s : State) : Host.Outcome State Fault Refusal := s.run fun d => d.profileReset q.val

/-- CROP_READ (R368): The CROP_READ command copies a rectangle of Attic rows to a host buffer. -/
def execCropRead (q : Fin 16384) (s : State) : Host.Outcome State Fault Refusal := s.run fun d => d.cropRead q.val

/-- DMA_RUN (R392): The DMA_RUN command starts a chain on a bound COMMAND-mode channel. -/
def execDmaRun (q : Fin 16384) (s : State) : Host.Outcome State Fault Refusal := s.run fun d => d.dmaRun q.val

/-- CALIBRATE (R326): The CALIBRATE long operation runs the external-reference calibration. -/
def execCalibrate (q : Fin 16384) (s : State) : Host.Outcome State Fault Refusal := s.run fun d => d.calibrateOp q.val

/-- TEST (R530): The TEST long operation runs an extended stripe self-test, a DRAM sweep or an eye scan. -/
def execTest (q : Fin 16384) (s : State) : Host.Outcome State Fault Refusal := s.run fun d => d.testOp q.val

/-- ATTIC_EXPORT (R371): The ATTIC_EXPORT long operation copies Attic rows to a host buffer. -/
def execAtticExport (q : Fin 16384) (s : State) : Host.Outcome State Fault Refusal := s.run fun d => d.atticExport q.val

/-- REPLAY (R49): The REPLAY long operation feeds host lines or Attic rows through the part in REPLAY mode. -/
def execReplay (q : Fin 16384) (s : State) : Host.Outcome State Fault Refusal := s.run fun d => d.replayOp q.val

/-- REPLAY_LOAD_DONE (R466): The REPLAY operation leaves LOAD, and the part enters REPLAY. -/
def execReplayLoadDone (first : Int) (s : State) : Host.Outcome State Fault Refusal := s.run fun d => d.replayLoadDone first

/-- MODEL_LOAD (R276): The MODEL_LOAD long operation loads a model image into a bank. -/
def execModelLoad (q : Fin 16384) (s : State) : Host.Outcome State Fault Refusal := s.run fun d => d.modelLoad q.val

/-- LANE_RETRAIN (R371): The LANE_RETRAIN long operation quiesces, retrains and verifies the named lanes. -/
def execLaneRetrain (q : Fin 16384) (s : State) : Host.Outcome State Fault Refusal := s.run fun d => d.laneRetrain q.val

/-- SPARE_ROTATE (R529): The SPARE_ROTATE long operation rotates a named role onto the spare. -/
def execSpareRotate (q : Fin 16384) (s : State) : Host.Outcome State Fault Refusal := s.run fun d => d.spareRotate q.val

/-- SUSPEND (R372): The SUSPEND command suspends a long operation in a suspendable state. -/
def execSuspend (q : Fin 16384) (s : State) : Host.Outcome State Fault Refusal := s.run fun d => d.suspendOp q.val

/-- RESUME (R372): The RESUME command resumes a suspended long operation. -/
def execResume (q : Fin 16384) (s : State) : Host.Outcome State Fault Refusal := s.run fun d => d.resumeOp q.val

/-- CANCEL (R372): The CANCEL command ends a long operation before its last state, or ends a subscription. -/
def execCancel (q : Fin 16384) (blocks : Nat) (data : List Byte) (s : State) : Host.Outcome State Fault Refusal := s.run fun d => d.cancelOp q.val blocks data

/-- OP_STATUS (R373): The OP_STATUS command returns the state word of a target context. -/
def execOpStatus (q : Fin 16384) (s : State) : Host.Outcome State Fault Refusal := s.run fun d => d.opStatus q.val

/-- SUBSCRIBE_RECORDS (R378): The SUBSCRIBE_RECORDS command opens the records subscription from the spool or after emptying it. -/
def execSubscribeRecords (q : Fin 16384) (s : State) : Host.Outcome State Fault Refusal := s.run fun d => d.subscribeRecords q.val

/-- SUBSCRIBE_PREVIEW (R352): The SUBSCRIBE_PREVIEW command opens the preview subscription. -/
def execSubscribePreview (q : Fin 16384) (s : State) : Host.Outcome State Fault Refusal := s.run fun d => d.subscribePreview q.val

/-- SUBSCRIBE_IMAGE (R379): The SUBSCRIBE_IMAGE command opens an image subscription of a layer. -/
def execSubscribeImage (q : Fin 16384) (s : State) : Host.Outcome State Fault Refusal := s.run fun d => d.subscribeImage q.val

/-- SUBSCRIBE_PROFILE (R186): The SUBSCRIBE_PROFILE command opens the profile subscription. -/
def execSubscribeProfile (q : Fin 16384) (s : State) : Host.Outcome State Fault Refusal := s.run fun d => d.subscribeProfile q.val

/-- POST_BUFFER (R375): The POST_BUFFER command posts a host buffer to a subscription. -/
def execPostBuffer (q : Fin 16384) (s : State) : Host.Outcome State Fault Refusal := s.run fun d => d.postBuffer q.val

/-- UNSUBSCRIBE (R380): The UNSUBSCRIBE command ends a subscription and completes its buffers. -/
def execUnsubscribe (q : Fin 16384) (s : State) : Host.Outcome State Fault Refusal := s.run fun d => d.unsubscribe q.val

/-- REPLAY_HOST_LINE (R49): Under REPLAY with SOURCE = 1, a line is read from the host buffer and enters its stream with its own stamp, which advances HWM and the grid. -/
def execReplayHostLine (p : Fin 20) (wpos : Int) (planes : List (List Nat)) (field : Fin 4) (s : State) : Host.Outcome State Fault Refusal := s.run fun d => d.replayHostLine p.val wpos planes field.val

/-- REPLAY_ATTIC_ROW (R49): An Attic row is read under the tag protocol and handed to the windows, decimators and Gallery, or ends the operation with ROWS_GONE. -/
def execReplayAtticRow (s : State) : Host.Outcome State Fault Refusal := s.run fun d => d.replayAtticRow

/-- REPLAY_DONE (R466): The REPLAY operation ends after DRAIN, and the part returns to ARMED. -/
def execReplayDone (s : State) : Host.Outcome State Fault Refusal := s.run fun d => d.replayDone

/-- ATTIC_EXPORT_ROW (R371): An ATTIC_EXPORT operation in COPY reads its next row under the tag protocol and writes it to the host buffer, or counts it skipped when it is gone. -/
def execAtticExportRow (s : State) : Host.Outcome State Fault Refusal := s.run fun d => d.exportRow

end Sys2Proof.Machine
end

