-- ==== Sys2Proof/Machine/ModeCommands.lean ====
section
/-!
DEFINITION. What the commands of modes, shadow groups and commits (chapter 16) mean.
-/
namespace Sys2Proof.Machine

/-- MODE_REQ_WRITE (R468): A write of GLB.MODE_REQ requests a change of mode. -/
def execModeReqWrite (v : BitVec 32) (s : State) : Host.Outcome State Fault Refusal := s.run fun d => d.hostWrite (0x008) (v.toNat)

/-- RESET_REQ_WRITE (R466): A write of GLB.RESET_REQ with the key makes a warm reset. -/
def execResetReqWrite (v : BitVec 32) (s : State) : Host.Outcome State Fault Refusal := s.run fun d => d.hostWrite (0xA10) (v.toNat)

/-- SHADOW_OPEN (R483): A write of SHADOW_OPEN opens a free group for the writer, or is refused with GROUP_BUSY. -/
def execShadowOpen (v : BitVec 32) (s : State) : Host.Outcome State Fault Refusal := s.run fun d => d.hostWrite (0x100) (v.toNat)

/-- SHADOW_WRITE (R484): A write to a word with RWS fields, or to a TAP entry, goes to the writer's group, or sets CLAIM_CONFLICT or STRAY_WRITE. -/
def execShadowWrite (addr v : BitVec 32) (s : State) : Host.Outcome State Fault Refusal := s.run fun d => d.hostWrite (addr.toNat) (v.toNat)

/-- SHADOW_SEAL (R485): A write of SHADOW_SEAL moves the writer's group to SEALING and starts the seal checks. -/
def execShadowSeal (v : BitVec 32) (s : State) : Host.Outcome State Fault Refusal := s.run fun d => d.hostWrite (0x104) (v.toNat)

/-- SEAL_CHECK_DONE (R485): The seal checks end, and the group becomes SEALED with a fingerprint, or returns to OPEN with a code. -/
def execSealCheckDone (g : Fin 32) (s : State) : Host.Outcome State Fault Refusal := s.run fun d => d.sealCheckDone g.val

/-- SHADOW_ABORT (R487): A write of SHADOW_ABORT restores the group's claimed words from live and frees the group. -/
def execShadowAbort (v : BitVec 32) (s : State) : Host.Outcome State Fault Refusal := s.run fun d => d.hostWrite (0x108) (v.toNat)

/-- COMMIT_REQ_WRITE (R488): A write of GLB.COMMIT_REQ requests a commit at the next boundary or at COMMIT_INDEX. -/
def execCommitReqWrite (v : BitVec 32) (s : State) : Host.Outcome State Fault Refusal := s.run fun d => d.hostWrite (0x120) (v.toNat)

/-- DISCOVER_READY (R469): The ports, the cascade and the position source are ready, and the part moves from DISCOVER to ARMED. -/
def execDiscoverReady (s : State) : Host.Outcome State Fault Refusal := s.run fun d => d.discoverReady

/-- DISCOVER_TIMEOUT (R469): DISCOVER_TIMEOUT passes, which sets DISCOVER_LATE and, with ALLOW_PARTIAL, enters ARMED with the missing parts. -/
def execDiscoverTimeout (s : State) : Host.Outcome State Fault Refusal := s.run fun d => d.discoverTimeout

end Sys2Proof.Machine
end

