-- ==== Sys2Proof/Machine/PipelineCommands.lean ====
section
/-!
DEFINITION. What the commands of correction, stitching, the Attic, segmentation and blobs (chapters 3 to 7) mean.
-/
namespace Sys2Proof.Machine

/-- CAMSIDE_CHUNK (R127): The camera side takes the next 256-pixel chunk, primary first, and applies dark, gain and defective-pixel correction to it. -/
def execCamsideChunk (r : Fin 16) (s : State) : Host.Outcome State Fault Refusal := s.run fun d => d.chunkRow r.val

/-- OUTPUT_LINE_COMPUTE (R117): An accepted line beyond G_L + DLY_HI has passed stage 2, and the channel's band line for output line L is resampled, remapped and binned. -/
def execOutputLineCompute (r : Fin 16) (c : Fin 4) (s : State) : Host.Outcome State Fault Refusal := s.run fun d => d.outputCompute r.val c.val

/-- OUTPUT_LINE_DEADLINE (R117): LINES_PASSED reaches the deadline of an output line not yet computed, which is then computed at once with HELD columns. -/
def execOutputLineDeadline (r : Fin 16) (c : Fin 4) (s : State) : Host.Outcome State Fault Refusal := s.run fun d => d.outputDeadline r.val c.val

/-- BAND_LINE_TAKE (R138): The Boulevard takes a band line from a stripe's band output buffer. -/
def execBandLineTake (r : Fin 16) (s : State) : Host.Outcome State Fault Refusal := s.run fun d => d.bandRow r.val

/-- FENCE_COMPLETE (R417): Every earlier write of a source is visible, and the source's next request may be granted. -/
def execFenceComplete (source : Fin 128) (s : State) : Host.Outcome State Fault Refusal := s.run fun d => d.fenceComplete source.val

/-- WINDOW_RELEASE (R148): The tag of a row is written and its aprons are present, and the row's window is released to the stripe that holds the role. -/
def execWindowRelease (r : Fin 16) (s : State) : Host.Outcome State Fault Refusal := s.run fun d => d.windowOut r.val false

/-- APRON_WAIT_EXPIRY (R160): APRON_WAIT µs pass without the apron row, and the window is released with replicated edges and APRON_MISSING. -/
def execApronWaitExpiry (r : Fin 16) (s : State) : Host.Outcome State Fault Refusal := s.run fun d => d.apronExpiry r.val

/-- APRON_RECEIVE (R160): An APRON packet is stored in the apron store, replacing the oldest row when the store is full, or discarded when it comes late. -/
def execApronReceive (side : Fin 2) (p : RxPacket) (s : State) : Host.Outcome State Fault Refusal := s.run fun d => d.packet side.val PT.apron p fun d => d.apronReceive side.val p.payload

/-- BAR4_READ (R156): A host read through BAR4 returns DRAM bytes, or zero beyond the installed DRAM. -/
def execBar4Read (offset len : Nat) (ecc : EccResult) (s : State) : Host.Outcome State Fault Refusal := s.run fun d => d.bar4Read offset len ecc

/-- BAR4_WRITE (R157): A host write through BAR4 is performed, or is dropped with BAR4_WR_DROP when it falls in the Attic during inspection. -/
def execBar4Write (offset : Nat) (bytes : List Byte) (s : State) : Host.Outcome State Fault Refusal := s.run fun d => d.bar4Put offset bytes

/-- SEG_ROW (R218): The chain has read window row L + LAT_CHAIN and hands on the planes of row L to the labeller and the decimators. -/
def execSegRow (r : Fin 16) (s : State) : Host.Outcome State Fault Refusal := s.run fun d => d.segRowOut r.val

/-- SEG_SKIP (R222): BACKLOG exceeds SEG_LAG_MAX: the chain stops, the rows are skipped and it restarts with a skip notice. -/
def execSegSkip (r : Fin 16) (s : State) : Host.Outcome State Fault Refusal := s.run fun d => d.segSkipOut r.val

/-- TAP_COPYBACK (R124): After a commit the new live tap tables are copied back into the shadow copy in the background. -/
def execTapCopyback (s : State) : Host.Outcome State Fault Refusal := s.run fun d => d.tapCopyback

/-- ROW_MERGE (R139): Every waited-for role has delivered row L, which is stitched and written to the Attic, with aprons sent and the rows fed to the decimators and the Gallery. -/
def execRowMerge (s : State) : Host.Outcome State Fault Refusal := s.run fun d => d.rowMerge false

/-- MERGE_HOLD_EXPIRY (R139): LINES_PASSED reaches L + 2 + MERGE_HOLD, and row L is merged without the roles that are late. -/
def execMergeHoldExpiry (s : State) : Host.Outcome State Fault Refusal := s.run fun d => d.rowMerge true

/-- FLOOR_ROW_MERGE (R143): 1 µs after the first floor band line, a floor row is stitched and sent to the Gallery and the preview. -/
def execFloorRowMerge (s : State) : Host.Outcome State Fault Refusal := s.run fun d => d.floorRow

/-- ROW_RESOLVE (R233): Row L is resolved once every role has handed it on and the border data are joined, and its records are created. -/
def execRowResolve (s : State) : Host.Outcome State Fault Refusal := s.run fun d => Dev.rowDone d.rowResolve

/-- SEAM_WAIT_EXPIRY (R233): SEAM_WAIT µs pass without the partner's border data, and the row resolves with SEAM_PARTIAL. -/
def execSeamWaitExpiry (s : State) : Host.Outcome State Fault Refusal := s.run fun d => Dev.rowDone d.seamWaitExpiry

/-- YIELD_WAIT_EXPIRY (R237): A yield from another device has not arrived within SEAM_WAIT, and the owner emits its record without it. -/
def execYieldWaitExpiry (s : State) : Host.Outcome State Fault Refusal := s.run fun d => Dev.rowDone d.yieldWaitExpiry

end Sys2Proof.Machine
end

