-- ==== Sys2Proof/Machine/PlazaCommands.lean ====
section
/-!
DEFINITION. What the commands of the Plaza, its outputs, timers and markers (chapter 9) mean.
-/
namespace Sys2Proof.Machine

/-- SW_PULSE (R287): A write of PLZ.SW_PULSE makes PULSE events on the chosen SW producers. -/
def execSwPulse (mask : BitVec 16) (s : State) : Host.Outcome State Fault Refusal := s.run fun d => d.hostWrite (0x400010) (mask.toNat)

/-- SW_SET (R287): A write of PLZ.SW_SET makes SET events on the chosen SW producers. -/
def execSwSet (mask : BitVec 16) (s : State) : Host.Outcome State Fault Refusal := s.run fun d => d.hostWrite (0x400014) (mask.toNat)

/-- SW_CLEAR (R287): A write of PLZ.SW_CLEAR makes CLEAR events on the chosen SW producers. -/
def execSwClear (mask : BitVec 16) (s : State) : Host.Outcome State Fault Refusal := s.run fun d => d.hostWrite (0x400018) (mask.toNat)

/-- GPIO_EDGE (R299): A filtered GPIO input edge makes a PULSE, SET or CLEAR on its producer. -/
def execGpioEdge (p : Fin 32) (level : Bool) (at_ stable : Nat) (s : State) : Host.Outcome State Fault Refusal := s.always fun d => d.gpioRow p.val level at_ stable

/-- GPO (R301): An event reaches an output pin's GPO input, which sets, clears or toggles the pin or schedules a pulse. -/
def execGpo (p : Fin 32) (s : State) : Host.Outcome State Fault Refusal := s.run fun d => d.gpoEvent p.val

/-- GPO_PULSE_RISE (R301): DELAY ns after its event, a pending GPO pulse rises. -/
def execGpoPulseRise (p : Fin 32) (s : State) : Host.Outcome State Fault Refusal := s.run fun d => d.gpoRise p.val

/-- GPO_PULSE_END (R301): PULSE ns after it rose, a GPO pulse ends. -/
def execGpoPulseEnd (p : Fin 32) (s : State) : Host.Outcome State Fault Refusal := s.run fun d => d.gpoEnd p.val

/-- TMR_START (R302): A START event begins or restarts a timer's count. -/
def execTmrStart (n : Fin 16) (s : State) : Host.Outcome State Fault Refusal := s.run fun d => d.tmrStart n.val

/-- TMR_STOP (R302): A STOP event ends a timer's count without an expiry. -/
def execTmrStop (n : Fin 16) (s : State) : Host.Outcome State Fault Refusal := s.run fun d => d.tmrStop n.val

/-- TMR_EXPIRY (R302): A timer's PERIOD elapses: the producer TMRn fires, and the timer restarts under REPEAT. -/
def execTmrExpiry (n : Fin 16) (s : State) : Host.Outcome State Fault Refusal := s.run fun d => d.tmrExpiry n.val

/-- MARK_FIRE (R307): A FIRE event makes a manual rise of the marker output. -/
def execMarkFire (k : Fin 8) (s : State) : Host.Outcome State Fault Refusal := s.run fun d => d.markFire k.val

/-- MARK_INHIBIT (R307): A SET or CLEAR event inhibits or releases a marker. -/
def execMarkInhibit (k : Fin 8) (s : State) : Host.Outcome State Fault Refusal := s.run fun d => d.markInhibit k.val

/-- MARK_PULSE_END (R307): A marker's pulse interval ends; the output falls and holdoff begins. -/
def execMarkPulseEnd (k : Fin 8) (s : State) : Host.Outcome State Fault Refusal := s.run fun d => d.markPulseEnd k.val

/-- MARK_HOLDOFF_END (R307): Holdoff ends, and a rise that waited on it takes place. -/
def execMarkHoldoffEnd (k : Fin 8) (s : State) : Host.Outcome State Fault Refusal := s.run fun d => d.markHoldoffEnd k.val

/-- SYNC_REQ_WRITE (R172): A write of PRF_CTRL.SYNC_REQ = 1 is a sync request. -/
def execSyncReqWrite (v : BitVec 32) (s : State) : Host.Outcome State Fault Refusal := s.run fun d => d.hostWrite (0x502000) (v.toNat ||| 0x1000)

/-- IRQ (R382): An event at an IRQ input writes or merges an EVENT completion entry, or is lost with IRQ_DROP. -/
def execIrq (n : Fin 64) (s : State) : Host.Outcome State Fault Refusal := s.run fun d => d.irq n.val

/-- DMA_START (R388): An event at DMA_START starts or queues a REGISTER-mode chain, or sets START_IGNORED. -/
def execDmaStart (n : Fin 64) (s : State) : Host.Outcome State Fault Refusal := s.run fun d => d.dmaInput n.val

/-- MARK_SLOT_ARRIVE (R307): A pool slot's firing reaches its marker two cycles later, which starts a pulse or opens or closes a span, and creates the MARKED record. -/
def execMarkSlotArrive (s : State) : Host.Outcome State Fault Refusal := s.run fun d => d.slotArrive

/-- DEC_SYNC (R172): An event at DEC_SYNC is a profile sync request. -/
def execDecSync (s : State) : Host.Outcome State Fault Refusal := s.run fun d => d.decSync

/-- PROFILE_SYNC_PIN (R172): A rising edge on PROFILE_SYNC at the master is a sync request. -/
def execProfileSyncPin (s : State) : Host.Outcome State Fault Refusal := s.run fun d => d.syncPin

/-- COMMIT_INPUT (R488): An event at the Plaza input COMMIT requests a commit at the next boundary. -/
def execCommitInput (s : State) : Host.Outcome State Fault Refusal := s.run fun d => d.commitInput

/-- POS_CAPTURE (R303): An event at POS_CAPTURE latches MD, HWM, LINES_PASSED, POS.TIME and the event's address. -/
def execPosCapture (s : State) : Host.Outcome State Fault Refusal := s.run fun d => d.posCapture

end Sys2Proof.Machine
end

