-- ==== Sys2Proof/Machine/PorchCommands.lean ====
section
/-!
DEFINITION. What the commands of the Porch (chapter 17) mean.
-/
namespace Sys2Proof.Machine

/-- HELLO (R503): The KSP HELLO message answers with identity and a fresh NONCE_D. -/
def execHello (p : Peer) (raw : List Byte) (s : State) : Host.Outcome State Fault Refusal := s.run fun d => d.hello p raw

/-- OPEN (R507): The KSP OPEN message checks PROOF_H and opens an authenticated session. -/
def execOpenSession (p : Peer) (raw : List Byte) (s : State) : Host.Outcome State Fault Refusal := s.run fun d => d.openSession p raw

/-- CLOSE (R506): The KSP CLOSE message closes the session and releases its group. -/
def execCloseSession (p : Peer) (raw : List Byte) (s : State) : Host.Outcome State Fault Refusal := s.run fun d => d.closeMsg p raw

/-- KEEPALIVE (R506): The KSP KEEPALIVE message keeps the session open. -/
def execKeepalive (p : Peer) (raw : List Byte) (s : State) : Host.Outcome State Fault Refusal := s.run fun d => d.keepalive p raw

/-- STATUS (R503): The KSP STATUS message returns the mode, update and trial state. -/
def execStatus (p : Peer) (raw : List Byte) (s : State) : Host.Outcome State Fault Refusal := s.run fun d => d.statusMsg p raw

/-- REG_READ (R504): The KSP REG_READ message reads BAR0 words as the Porch. -/
def execRegRead (p : Peer) (raw : List Byte) (s : State) : Host.Outcome State Fault Refusal := s.run fun d => d.regReadMsg p raw

/-- REG_WRITE (R504): The KSP REG_WRITE message writes BAR0 words as the Porch. -/
def execRegWrite (p : Peer) (raw : List Byte) (s : State) : Host.Outcome State Fault Refusal := s.run fun d => d.regWriteMsg p raw

/-- LOG_READ (R503): The KSP LOG_READ message returns bytes of the event log. -/
def execLogRead (p : Peer) (raw : List Byte) (s : State) : Host.Outcome State Fault Refusal := s.run fun d => d.logRead p raw

/-- KSP_RESET (R505): The KSP RESET message resets the part within 10 ms, unless refused. -/
def execKspReset (p : Peer) (raw : List Byte) (s : State) : Host.Outcome State Fault Refusal := s.run fun d => d.kspReset p raw

/-- UPD_BEGIN (R508): The KSP UPD_BEGIN message starts or resumes a download to an inactive slot. -/
def execUpdBegin (p : Peer) (raw : List Byte) (held : Option (List Byte)) (s : State) : Host.Outcome State Fault Refusal := s.run fun d => d.updBegin p raw held

/-- UPD_DATA (R509): The KSP UPD_DATA message stages one chunk of a download. -/
def execUpdData (p : Peer) (raw : List Byte) (s : State) : Host.Outcome State Fault Refusal := s.run fun d => d.updData p raw

/-- UPD_BLOCK_WRITTEN (R509): A complete 64 KiB block has been erased, programmed and read back, and its BLOCKS bit is set. -/
def execUpdBlockWritten (block : Nat) (held : Option (List Byte)) (s : State) : Host.Outcome State Fault Refusal := s.run fun d => d.blockWritten block held

/-- UPD_QUERY (R503): The KSP UPD_QUERY message returns the BLOCKS map. -/
def execUpdQuery (p : Peer) (raw : List Byte) (s : State) : Host.Outcome State Fault Refusal := s.run fun d => d.updQuery p raw

/-- UPD_VERIFY (R510): The KSP UPD_VERIFY message verifies the downloaded slot and names the first failing check. -/
def execUpdVerify (p : Peer) (raw : List Byte) (s : State) : Host.Outcome State Fault Refusal := s.run fun d => d.updVerify p raw

/-- UPD_ACTIVATE (R512): The KSP UPD_ACTIVATE message writes a boot record that puts the firmware or recipe on trial. -/
def execUpdActivate (p : Peer) (raw : List Byte) (held : Option (List Byte)) (s : State) : Host.Outcome State Fault Refusal := s.run fun d => d.updActivate p raw held

/-- UPD_ABORT (R509): The KSP UPD_ABORT message discards the held download. -/
def execUpdAbort (p : Peer) (raw : List Byte) (s : State) : Host.Outcome State Fault Refusal := s.run fun d => d.updAbort p raw

/-- ARP_REQUEST (R498): An ARP request for the part's address is answered. -/
def execArpRequest (ip : BitVec 32) (s : State) : Host.Outcome State Fault Refusal := s.run fun d => d.arpRequest ip.toNat

/-- TRIAL_CONFIRM (R514): HOLD_S passes healthy after a trial boot: the slot is written GOOD and the trial timer stops. -/
def execTrialConfirm (held : Option (List Byte)) (s : State) : Host.Outcome State Fault Refusal := s.run fun d => d.trialConfirm held

/-- ETHERNET_LINK_CHANGE (R498): The external PHY reports the Ethernet link coming up or going down, which updates SVC.STATUS.LINK_UP and whether the Porch can exchange datagrams. -/
def execEthernetLinkChange (up : Bool) (s : State) : Host.Outcome State Fault Refusal := s.run fun d => d.ethernetLink up

/-- SESSION_IDLE_TIMEOUT (R506): 30 s without a valid request closes the session. -/
def execSessionIdleTimeout (s : State) : Host.Outcome State Fault Refusal := s.run fun d => d.sessionTimeout

/-- TRIAL_TIMER_EXPIRY (R514): The trial timer expires before confirmation, which makes a warm reset with TRIAL. -/
def execTrialTimerExpiry (s : State) : Host.Outcome State Fault Refusal := s.run fun d => d.trialExpiry

/-- UPD_VERIFY_DONE (R510): The read-back verification of a downloaded slot ends, within 2 s, and leaves UPD_STATE VERIFIED or FAILED with the response naming the first failing check. -/
def execUpdVerifyDone (s : State) : Host.Outcome State Fault Refusal := s.run fun d => d.updVerifyDone

end Sys2Proof.Machine
end

