-- ==== Sys2Proof/Machine/PositionCommands.lean ====
section
/-!
DEFINITION. What the commands of the web position (chapter 1) mean.
-/
namespace Sys2Proof.Machine

/-- ENCODER_EDGE (R24): A filtered edge on an encoder phase updates that encoder's count and interpolation history, and through them WPOS, MD and SPEED. -/
def execEncoderEdge (e : Fin 4) (a b : Bool) (at_ stable : Nat) (s : State) : Host.Outcome State Fault Refusal := s.always fun d => d.encoderRow e.val a b at_ stable

/-- Z_EDGE (R26): A rising Z edge in forward motion compares the counts since the last Z edge with Z_COUNT and may set ZSLIP. -/
def execZEdge (e : Fin 4) (at_ : Nat) (s : State) : Host.Outcome State Fault Refusal := s.run fun d => d.zEdge e.val at_

/-- ENCODER_LOST (R28): An encoder shows no edge for STOP_US while the web moves, becomes LOST, and may leave no position source. -/
def execEncoderLost (e : Fin 4) (at_ : Nat) (s : State) : Host.Outcome State Fault Refusal := s.run fun d => d.encoderLost e.val at_

/-- MOTION_STOP (R37): The speed source shows no edge within STOP_US, or the speed falls below MOVE_SPEED: STOPPED is set and MOTION_STOP fires once. -/
def execMotionStop (at_ : Nat) (s : State) : Host.Outcome State Fault Refusal := s.run fun d => d.motionRow at_

/-- READMIT (R29): A write of READMIT = 1 returns an excluded encoder to use in the next cycle, with ADJ recomputed. -/
def execReadmit (e : Fin 4) (v : BitVec 32) (s : State) : Host.Outcome State Fault Refusal := s.run fun d => d.hostWrite (0x101000 + 0x40 * e.val) (v.toNat ||| 0x10000)

/-- MD_OFFSET_WRITE (R35): A write of MD_OFFSET is taken only in the allowed modes; in any other mode it is ignored and sets WR_IGNORED. -/
def execMdOffsetWrite (v : BitVec 64) (s : State) : Host.Outcome State Fault Refusal := s.always fun d => d.mdOffsetWrite v.toNat

/-- LTRIG_TARGET (R41): HWM reaches a generator's next target and the generator issues a trigger, or waits on the ceiling and drops further targets. -/
def execLtrigTarget (g : Fin 48) (at_ : Nat) (s : State) : Host.Outcome State Fault Refusal := s.run fun d => d.ltrigTarget g.val at_

/-- TRG_CEIL_EXPIRY (R43): The ceiling interval ends, and the trigger that was waiting on it is issued. -/
def execTrgCeilExpiry (g : Fin 48) (s : State) : Host.Outcome State Fault Refusal := s.run fun d => d.ceilExpiry g.val

/-- TRG_FLOOR_EXPIRY (R44): A generator has issued no trigger for TRG_FLOOR ns and issues a floor trigger. -/
def execTrgFloorExpiry (g : Fin 48) (s : State) : Host.Outcome State Fault Refusal := s.run fun d => d.floorExpiry g.val

/-- TRG_CLEAR (R43): A write of TRG_CTRL.CLEAR = 1 clears TRG_ISSUED, SKIPPED and OVERSPEED. -/
def execTrgClear (g : Fin 48) (v : BitVec 32) (s : State) : Host.Outcome State Fault Refusal := s.run fun d => d.hostWrite (0x102000 + 0x20 * g.val) (v.toNat ||| 0x80000000)

/-- LINE_PASSED (R46): HWM reaches the grid position of the next output line, which advances LINES_PASSED. -/
def execLinePassed (at_ : Nat) (differs : Bool) (s : State) : Host.Outcome State Fault Refusal := s.run fun d => d.linePassed at_ differs

/-- CMP_FIRE (R51): MD + D reaches or crosses an armed slot's target: the slot fires, then disarms or moves its target by PERIOD. -/
def execCmpFire (k : Fin 256) (at_ : Nat) (s : State) : Host.Outcome State Fault Refusal := s.run fun d => d.cmpRow k.val at_

/-- CMP_ARM (R50): A write of CMP_CTRL.ARM reads TARGET, PERIOD, LEAD and the direction into the slot and arms it, or disarms it with 0. -/
def execCmpArm (k : Fin 256) (v : BitVec 32) (s : State) : Host.Outcome State Fault Refusal := s.run fun d => d.hostWrite (0x104010 + 0x20 * k.val) (v.toNat)

/-- POS_SYNC_EDGE (R57): A slave latches its position clock at a rising edge of POS_SYNC. -/
def execPosSyncEdge (at_ : Nat) (s : State) : Host.Outcome State Fault Refusal := s.run fun d => d.posSyncEdge at_

/-- POS_RECEIVE (R458): A POS packet is paired with the latch of equal SYNC_SEQ, so that the slave extrapolates its position, or it is discarded. -/
def execPosReceive (side : Fin 2) (p : RxPacket) (s : State) : Host.Outcome State Fault Refusal := s.run fun d => d.packet side.val PT.pos p fun d => (d.pairMsg (posMsgOf p.payload)).1

/-- HOLDOVER (R59): Four pulses without a matching message, or four periods without a pulse, set HOLDOVER and extrapolate at the last SPEED. -/
def execHoldover (at_ : Nat) (s : State) : Host.Outcome State Fault Refusal := s.run fun d => d.holdover at_

/-- HEARTBEAT_IDLE (R252): HB_IDLE_MS ms pass without a HEARTBEAT, and one is created. -/
def execHeartbeatIdle (s : State) : Host.Outcome State Fault Refusal := s.run fun d => d.hbIdle

/-- POS_SYNC_PULSE (R56): Every 1,024 position clocks the master pulses POS_SYNC and sends a POS message. -/
def execPosSyncPulse (s : State) : Host.Outcome State Fault Refusal := s.run fun d => d.posSyncPulse

/-- HOLDOVER_EXPIRY (R59): After HOLDOVER_US the slave switches to its local encoder with MASTER_LOST, or sets POS_LOST and requests FAULT. -/
def execHoldoverExpiry (s : State) : Host.Outcome State Fault Refusal := s.run fun d => d.holdoverExpiry

end Sys2Proof.Machine
end

