-- ==== Sys2Proof/Machine/QueueCommands.lean ====
section
/-!
DEFINITION. What the commands of queues, interrupts, function resets and configuration space (chapter 12) mean.
-/
namespace Sys2Proof.Machine

/-- SQ_DOORBELL (R359): A submission doorbell write sets the new tail, or halts the queue on a bad value. -/
def execSqDoorbell (fn : Fin 64) (n : Fin 16384) (value : BitVec 16) (s : State) : Host.Outcome State Fault Refusal := s.run fun d => if d.hostReaches true 0 then d.sqDoorbell fn.val n.val value.toNat else d

/-- CQ_DOORBELL (R359): A completion doorbell write sets the new head, or halts the queue when the head passes the tail. -/
def execCqDoorbell (fn : Fin 64) (n : Fin 16384) (value : BitVec 16) (s : State) : Host.Outcome State Fault Refusal := s.run fun d => if d.hostReaches true 0 then d.cqDoorbell fn.val n.val value.toNat else d

/-- SQ_ENABLE_WRITE (R358): Writing SQ ENABLE zeroes the head and tail, or stops fetching from the queue. -/
def execSqEnableWrite (fn : Fin 64) (n : Fin 16384) (v : BitVec 32) (s : State) : Host.Outcome State Fault Refusal := s.run fun d => d.busWrite false fn.val ((if fn.val = 0 then 0x2800000 else 0) + 0x40 * n.val + 0x10) 4 v.toNat

/-- CQ_ENABLE_WRITE (R358): Writing CQ ENABLE resets the queue with phase 1, or discards its waiting entries. -/
def execCqEnableWrite (fn : Fin 64) (n : Fin 16384) (v : BitVec 32) (s : State) : Host.Outcome State Fault Refusal := s.run fun d => d.busWrite false fn.val ((if fn.val = 0 then 0x2800000 else 0) + 0x40 * n.val + 0x14) 4 v.toNat

/-- COMMAND_FETCH (R360): The part fetches up to 8 commands from a queue in rotation and takes a context for each that needs one. -/
def execCommandFetch (q : Fin 16384) (entries : List (List Byte)) (s : State) : Host.Outcome State Fault Refusal := s.run fun d => d.commandFetch q.val entries

/-- CQ_ENTRY_WRITE (R361): A waiting completion entry is written once the queue has room. -/
def execCqEntryWrite (q : Fin 16384) (s : State) : Host.Outcome State Fault Refusal := s.run fun d => d.cqNext q.val

/-- CQ_COAL_EXPIRY (R381): COAL_US passes since the first entry not yet signalled, and the MSI-X vector is raised. -/
def execCqCoalExpiry (q : Fin 16384) (s : State) : Host.Outcome State Fault Refusal := s.run fun d => d.cqCoal q.val

/-- MSIX_UNMASK (R381): A masked vector with its pending bit set is unmasked, and the message is sent. -/
def execMsixUnmask (fn : Fin 64) (vector : Fin 2048) (s : State) : Host.Outcome State Fault Refusal := s.run fun d => d.msixUnmask fn.val vector.val

/-- VF_FLR (R384): A function-level reset of a VF disables its queues and ends its commands and subscriptions. -/
def execVfFlr (fn : Fin 64) (s : State) : Host.Outcome State Fault Refusal := s.run fun d => d.vfFlr fn.val

/-- HOST_RESET (R384): A PF function-level reset, hot reset, link-down or clear of the PF's Bus Master Enable resets every queue and function, and sets LINK_LOST. -/
def execHostReset (linkDown : Bool) (s : State) : Host.Outcome State Fault Refusal := s.run fun d => if linkDown then d.linkDown else d.hostReset

/-- VF_BME_CLEAR (R386): A VF's Bus Master Enable is cleared, so that its queues and subscriptions wait. -/
def execVfBmeClear (fn : Fin 64) (s : State) : Host.Outcome State Fault Refusal := s.run fun d => d.vfBmeClear fn.val

/-- PCIE_CONFIG_WRITE (R356): A host configuration-space write sets memory space enable, which applies a new BAR4 size, or sets Bus Master Enable, which lets a VF's waiting queues and subscriptions resume, or changes NumVFs. -/
def execPcieConfigWrite (c : CfgWrite) (s : State) : Host.Outcome State Fault Refusal := s.run fun d => d.configWrite c

/-- QUEUE_FETCH_ERROR (R360): A submission-queue entry read ends in a completion timeout or an error completion, which halts the queue with FETCH_ERROR and raises the host error interrupt. -/
def execQueueFetchError (q : Fin 16384) (s : State) : Host.Outcome State Fault Refusal := s.run fun d => d.fetchError q.val

end Sys2Proof.Machine
end

