-- ==== Sys2Proof/Machine/RecordCommands.lean ====
section
/-!
DEFINITION. What the commands of records, image delivery and the classifier (chapters 7, 8 and 12) mean.
-/
namespace Sys2Proof.Machine

/-- IMAGE_ROW_DELIVER (R379): A due Attic row is read under the tag protocol into an image subscription buffer, or skipped when it is gone. -/
def execImageRowDeliver (ctx : Fin 4096) (s : State) : Host.Outcome State Fault Refusal := s.run fun d => d.imageDeliver ctx.val

/-- DCA_RESULT (R283): A model result becomes known and gives the CLASSIFIED record and, if it is not yet given, the marker decision by class. -/
def execDcaResult (memError : Bool) (s : State) : Host.Outcome State Fault Refusal := s.run fun d => Dev.decided (d.dcaResult memError)

/-- DCA_DEADLINE (R283): HWM reaches MD_DEADLINE before the result, and the marker decision follows UNCL_POLICY. -/
def execDcaDeadline (at_ : Nat) (s : State) : Host.Outcome State Fault Refusal := s.run fun d => Dev.decided (d.advance at_).dcaDeadline

/-- MODEL_LOAD_RECEIVED (R275): All bytes of a model image have arrived, and the bank moves to VERIFYING. -/
def execModelLoadReceived (bank : Fin 2) (host : List Byte) (s : State) : Host.Outcome State Fault Refusal := s.run fun d => d.modelReceived bank.val host

/-- MODEL_VERIFY_DONE (R275): Model verification ends, and the bank becomes READY or FAILED. -/
def execModelVerifyDone (bank : Fin 2) (s : State) : Host.Outcome State Fault Refusal := s.run fun d => d.modelVerified bank.val

/-- RECORD_SPOOL (R377): The record at the head of the FIFO moves to the spool in RSEQ order, or waits there, or pushes the oldest records out under KEEP_NEWEST. -/
def execRecordSpool (s : State) : Host.Outcome State Fault Refusal := s.run fun d => d.recordSpool

/-- RECORD_DELIVER (R377): A record moves from the spool into a posted buffer of the records subscription. -/
def execRecordDeliver (s : State) : Host.Outcome State Fault Refusal := s.run fun d => d.recordDeliver

/-- RECORD_FLUSH (R376): FLUSH_US passes after a buffer's first record, and the buffer completes. -/
def execRecordFlush (s : State) : Host.Outcome State Fault Refusal := s.run fun d => d.recordFlush

/-- DCA_CROP_FETCH (R266): A request becomes ready once ATT_HEAD covers its crop, and the crop is fetched, or the request expires. -/
def execDcaCropFetch (s : State) : Host.Outcome State Fault Refusal := s.run fun d => Dev.decided d.cropFetch

/-- DCA_RUN_START (R279): The array takes the next ready request, by deadline and then by request order. -/
def execDcaRunStart (s : State) : Host.Outcome State Fault Refusal := s.run fun d => Dev.decided d.runStart

end Sys2Proof.Machine
end

