-- ==== Sys2Proof/Machine/RegisterCommands.lean ====
section
/-!
DEFINITION. What the commands of register accesses (R16 to R21, R374) mean.
-/
namespace Sys2Proof.Machine

/-- LIVE64_LOW_READ (R16): A 4-byte read of the low word of a live 64-bit value latches its high half. -/
def execLive64LowRead (addr : BitVec 32) (s : State) : Host.Outcome State Fault Refusal := s.run fun d => d.hostRead addr.toNat 4

/-- RSTAT_READ (R374): A read of a READY and FRESH status word clears FRESH and latches the value. -/
def execRstatRead (addr : BitVec 32) (s : State) : Host.Outcome State Fault Refusal := s.run fun d => d.hostRead addr.toNat 4

/-- COUNTER_CLEAR_WRITE (R17): A write of any value to a counter register that clears on write clears it. -/
def execCounterClearWrite (addr v : BitVec 32) (s : State) : Host.Outcome State Fault Refusal := s.run fun d => d.hostWrite (addr.toNat) (v.toNat)

/-- REGISTER_WRITE (R21): A write to a register without behaviour of its own takes effect under its access codes. -/
def execRegisterWrite (bar2 : Bool) (fn : Fin 64) (addr : BitVec 32) (size : Nat) (value : BitVec 64) (s : State) : Host.Outcome State Fault Refusal := s.run fun d => d.busWrite bar2 fn.val addr.toNat size value.toNat

end Sys2Proof.Machine
end

