-- ==== Sys2Proof/Machine/ResetCommands.lean ====
section
/-!
DEFINITION. What the commands of resets, clocks and temperature (chapters 16 and 19) mean.
-/
namespace Sys2Proof.Machine

/-- RESET_RELEASE (R548): Within 200 µs after the last reset cause ends, the part reads fuses, locks its PLLs and moves from RESET to FOYER. -/
def execResetRelease (trained : List (Fin 16)) (s : State) : Host.Outcome State Fault Refusal := s.always fun d => d.resetRelease (trained.map Fin.val)

/-- TEMP_SAMPLE (R559): The twenty junction sensors are read every 100 µs, updating TEMP and HOTTEST. -/
def execTempSample (quarters : List Int) (s : State) : Host.Outcome State Fault Refusal := s.run fun d => d.tempSample quarters

/-- REFCLK_RESTORED (R552): A lost LANE_REFCLK or PCIE_REFCLK runs again, so that LANE_REFCLK_OK or PCIE_REFCLK_OK is set again and the lanes or the link can recover. -/
def execRefclkRestored (lane : Bool) (s : State) : Host.Outcome State Fault Refusal := s.always fun d => d.refclkRestored (if lane then 1 else 2)

/-- POR_ASSERT (R548): POR_N goes low for at least 1 µs, putting the whole part in RESET with every register, the TAP and the fault latches at their reset values. -/
def execPorAssert (s : State) : Host.Outcome State Fault Refusal := s.always fun d => d.powerOn

/-- RST_N_ASSERT (R548): A low pulse of at least 1 µs on RST_N makes a warm reset that keeps FAULT_CAUSE, FAULT_TIME, RESET_CAUSE, TRIP and the TAP. -/
def execRstNAssert (s : State) : Host.Outcome State Fault Refusal := s.always fun d => d.warmReset (some 1)

/-- SUPPLY_DROOP (R547): VDD_CORE or VDD_IO18 stays below 90 % of nominal for 1 µs while POR_N is high, which acts as POR_N low. -/
def execSupplyDroop (s : State) : Host.Outcome State Fault Refusal := s.always fun d => d.powerOn

/-- SYS_REFCLK_LOSS (R552): SYS_REFCLK stops or leaves 100 MHz ±1 % for 10 µs, causing a warm reset with CLOCK_LOSS. -/
def execSysRefclkLoss (s : State) : Host.Outcome State Fault Refusal := s.always fun d => d.warmReset (some 5)

/-- LANE_REFCLK_LOSS (R552): The lane reference clock is lost, which clears LANE_REFCLK_OK and makes every lane report LOL. -/
def execLaneRefclkLoss (s : State) : Host.Outcome State Fault Refusal := s.always fun d => d.refclkLoss 1

/-- PCIE_REFCLK_LOSS (R552): The PCIe reference clock is lost, which clears PCIE_REFCLK_OK and brings the link down under R384. -/
def execPcieRefclkLoss (s : State) : Host.Outcome State Fault Refusal := s.always fun d => d.refclkLoss 2

/-- PERST_N_ASSERT (R549): PERST_N goes low, resetting only the PCIe endpoint, with the effect of a link-down. -/
def execPerstNAssert (s : State) : Host.Outcome State Fault Refusal := s.always fun d => d.perstAssert

/-- THROTTLE_TICK (R560): At each 1 ms tick the throttle raises or lowers DCA_STEP or HOST_STEP by one, and drives THERM_ALERT_N. -/
def execThrottleTick (s : State) : Host.Outcome State Fault Refusal := s.run fun d => d.throttleTick

/-- THERM_COMPARATOR_TRIP (R561): The comparator, independent of the firmware, drives THERM_TRIP_N low at 145 °C. -/
def execThermComparatorTrip (s : State) : Host.Outcome State Fault Refusal := s.always fun d => d.comparatorTrip

/-- WATCHDOG_EXPIRY (R472): The firmware watchdog expires: this enters FAULT in a framed mode and is a warm reset otherwise. -/
def execWatchdogExpiry (s : State) : Host.Outcome State Fault Refusal := s.run fun d => d.watchdogExpiry

/-- SRAM_UE (R472): An uncorrectable error in management SRAM enters FAULT. -/
def execSramUe (s : State) : Host.Outcome State Fault Refusal := s.run fun d => d.sramUe

/-- FOYER_COMPLETE (R474): The Foyer's boot sequence ends in STANDBY or DISCOVER, or in RECOVERY on a failure. -/
def execFoyerComplete (s : State) : Host.Outcome State Fault Refusal := s.run fun d => d.foyerComplete

/-- PCIE_LINK_UP (R355): The PCI Express link finishes training and reaches L0, which sets LINK_UP and lets the host enumerate. -/
def execPcieLinkUp (s : State) : Host.Outcome State Fault Refusal := s.run fun d => d.pcieLinkUp

end Sys2Proof.Machine
end

