-- ==== Sys2Proof/Machine/RotationCommands.lean ====
section
/-!
DEFINITION. What the commands of spare rotation, tests and debug access (chapter 18) mean.
-/
namespace Sys2Proof.Machine

/-- SELFTEST_DONE (R524): A stripe's self-test ends, and the stripe becomes SPARE_READY or FAILED. -/
def execSelftestDone (n : Fin 17) (pass : Bool) (unit : Fin 16) (s : State) : Host.Outcome State Fault Refusal := s.run fun d => d.selftestDone n.val pass unit.val

/-- STRIPE_ERROR (R525): An uncorrectable stripe SRAM error or a microcode parity error fails the stripe. -/
def execStripeError (n : Fin 17) (e : SramError) (s : State) : Host.Outcome State Fault Refusal := s.run fun d => d.stripeError n.val e

/-- STRIPE_STALL (R525): A stripe hands on no band line for STALL_US while its role is waited for, and fails. -/
def execStripeStall (n : Fin 17) (s : State) : Host.Outcome State Fault Refusal := s.run fun d => d.stripeStall n.val

/-- DRT_BLOCK (R531): After a refresh the DRAM tester checks one block with a locked pattern sequence. -/
def execDrtBlock (ofTest : Bool) (first second : Option (List Byte)) (corrected : Nat) (s : State) : Host.Outcome State Fault Refusal := s.run fun d => d.drtBlock ofTest first second corrected

/-- EYE_PASS_DONE (R532): An eye-monitor pass ends: LANE_EYE is updated and EYE_LOW is checked. -/
def execEyePassDone (l : Fin 112) (width height : Nat) (full : Bool) (s : State) : Host.Outcome State Fault Refusal := s.run fun d => d.eyePassDone l.val width height full

/-- DBG_TOKEN_SUBMIT (R534): The write of byte 159 of DBG_TOKEN submits the debug token for checking. -/
def execDbgTokenSubmit (v : BitVec 32) (s : State) : Host.Outcome State Fault Refusal := s.run fun d => d.hostWrite (0xD0069C) (v.toNat)

/-- DBG_LOCK (R534): A write of DBG_LOCK ends the debug unlock. -/
def execDbgLock (v : BitVec 32) (s : State) : Host.Outcome State Fault Refusal := s.run fun d => d.hostWrite (0xD006A4) (v.toNat)

/-- TMUX_ENABLE (R535): A write of TMUX_CTRL.ENABLE starts the test multiplexer, or raises LOCKED without rights. -/
def execTmuxEnable (v : BitVec 32) (s : State) : Host.Outcome State Fault Refusal := s.run fun d => d.hostWrite (0xD00400) (v.toNat ||| 1)

/-- JTAG_INSTRUCTION (R537): A new JTAG instruction becomes current and acts, or acts as BYPASS when refused. -/
def execJtagInstruction (op : BitVec 8) (s : State) : Host.Outcome State Fault Refusal := s.always fun d => d.jtagInstruction op.toNat

/-- TMUX_STROBE (R535): Every STB_DIV core clocks the test multiplexer samples the selected group word at TMUX_STB's rising edge and drives the chosen byte on TMUX0–7 from the next falling edge. -/
def execTmuxStrobe (seen : BitVec 64) (s : State) : Host.Outcome State Fault Refusal := s.run fun d => d.tmuxStrobe seen.toNat

/-- ROTATION_DUE (R518): ROTATE_PERIOD passes, and a rotation of the next role falls due. -/
def execRotationDue (s : State) : Host.Outcome State Fault Refusal := s.run fun d => d.rotationDue

/-- ROTATION_SWITCH_DONE (R523): The old stripe has handed on its last row below B3, and it becomes the spare and starts self-test. -/
def execRotationSwitchDone (s : State) : Host.Outcome State Fault Refusal := s.run fun d => d.rotationSwitchDone

/-- TRST_N_ASSERT (R548): TRST_N goes low and resets the JTAG TAP, making IDCODE current. -/
def execTrstNAssert (s : State) : Host.Outcome State Fault Refusal := s.always fun d => d.trstAssert

end Sys2Proof.Machine
end

