-- ==== Sys2Proof/Machine/SeamCommands.lean ====
section
/-!
DEFINITION. What the commands of the seam link (chapter 15) mean.
-/
namespace Sys2Proof.Machine

/-- LANE_LOS (R434): A receive lane's swing stays below squelch for 1 µs, and LOS is reported with its port consequences. -/
def execLaneLos (l : Fin 112) (s : State) : Host.Outcome State Fault Refusal := s.run fun d => d.laneLos l.val

/-- LANE_LOL (R434): A receive lane loses bit or block lock, and LOL is reported with its port consequences. -/
def execLaneLol (l : Fin 112) (bitLock : Bool) (errors : Nat) (s : State) : Host.Outcome State Fault Refusal := s.run fun d => d.laneLol l.val bitLock errors

/-- BITSLIP (R435): A write of BITSLIP = 1 queues a one-UI slip on a MANUAL lane, or sets BITSLIP_IGNORED. -/
def execBitslip (l : Fin 112) (v : BitVec 32) (s : State) : Host.Outcome State Fault Refusal := s.run fun d => d.hostWrite (0xA04000 + 0x20 * l.val) (v.toNat ||| 0x100)

/-- BITSLIP_APPLY (R435): Within 100 ns a queued slip shifts the lane's deserialiser. -/
def execBitslipApply (l : Fin 112) (s : State) : Host.Outcome State Fault Refusal := s.run fun d => d.bitslipApply l.val

/-- DETECT_PROBE (R440): Every 1 ms a seam transmit lane probes for a receiver, and the port moves to TRAIN when one is present. -/
def execDetectProbe (side : Fin 2) (present : List (Fin 8)) (s : State) : Host.Outcome State Fault Refusal := s.run fun d => d.detectProbe side.val (present.map Fin.val)

/-- KTS_RECEIVE (R442): A KTS ordered set is received, which trains lanes, sets the width and target, and applies equalisation requests. -/
def execKtsReceive (side : Fin 2) (second : Bool) (count sent : Nat) (sets : List KtsIn) (s : State) : Host.Outcome State Fault Refusal := s.run fun d => d.ktsReceive side.val second count sent sets

/-- TRAIN_TIMEOUT (R442): No handshake comes within 20 ms of entering TRAIN, and the port returns to DETECT. -/
def execTrainTimeout (side : Fin 2) (s : State) : Host.Outcome State Fault Refusal := s.run fun d => d.trainTimeout side.val

/-- RATE_IDLE_END (R443): After 2 µs of electrical idle, both ends send KTS1 at the target rate. -/
def execRateIdleEnd (side : Fin 2) (s : State) : Host.Outcome State Fault Refusal := s.run fun d => d.rateIdleEnd side.val

/-- EQ_TIMEOUT (R445): Equalisation has not ended within 24 ms, so the rate is excluded and TRAIN restarts at K1. -/
def execEqTimeout (side : Fin 2) (s : State) : Host.Outcome State Fault Refusal := s.run fun d => d.eqTimeout side.val

/-- LOCK_HOLD_DONE (R446): After 100 µs without error in LOCK, the port enters EXCHANGE. -/
def execLockHoldDone (side : Fin 2) (s : State) : Host.Outcome State Fault Refusal := s.run fun d => d.lockHoldDone side.val

/-- PORT_RETRY (R446): A write of RETRY clears EXCLUDED and returns a mismatched port to DETECT. -/
def execPortRetry (side : Fin 2) (v : BitVec 32) (s : State) : Host.Outcome State Fault Refusal := s.run fun d => d.hostWrite (0xA01000 + 0x100 * side.val) (v.toNat ||| 0x100)

/-- CAP_RECEIVE (R447): A partner's CAP is checked, and the port moves to ACTIVE or stays with MISMATCH. -/
def execCapReceive (side : Fin 2) (p : RxPacket) (s : State) : Host.Outcome State Fault Refusal := s.run fun d => d.packet side.val PT.cap p fun d => d.capReceive side.val p.payload

/-- CAP_RESEND (R447): Every 10 ms a port in MISMATCH resends its CAP. -/
def execCapResend (side : Fin 2) (s : State) : Host.Outcome State Fault Refusal := s.run fun d => d.capResend side.val

/-- ACK_RECEIVE (R456): An ACK releases acknowledged reliable packets, or triggers a replay on NAK. -/
def execAckReceive (side : Fin 2) (p : RxPacket) (s : State) : Host.Outcome State Fault Refusal := s.run fun d => d.packet side.val PT.ack p fun d => d.ackReceive side.val (leAt p.payload 0 2) (bitOf (leAt p.payload 2 2) 0)

/-- REPLAY_TIMEOUT (R456): 20 µs without acknowledgement replays every unacknowledged packet, setting REPLAY_FAIL after 16 replays. -/
def execReplayTimeout (side : Fin 2) (s : State) : Host.Outcome State Fault Refusal := s.run fun d => d.replayTimeout side.val

/-- LINKINFO_RECEIVE (R460): A LINKINFO updates W, E, DEV_INFO and SAME, is forwarded, and may start a slave. -/
def execLinkinfoReceive (side : Fin 2) (p : RxPacket) (s : State) : Host.Outcome State Fault Refusal := s.run fun d => d.packet side.val PT.linkinfo p fun d => d.linkinfoTake side.val p

/-- SYNC_RECEIVE (R172): A SYNC packet sets L_S on a slave, which sets SYNC_LATE when the row has already passed. -/
def execSyncReceive (side : Fin 2) (p : RxPacket) (s : State) : Host.Outcome State Fault Refusal := s.run fun d => d.packet side.val PT.sync p fun d => d.syncReceive p.payload

/-- SYNC_REQ_RECEIVE (R172): A forwarded sync request reaches the master. -/
def execSyncReqReceive (side : Fin 2) (p : RxPacket) (s : State) : Host.Outcome State Fault Refusal := s.run fun d => d.packet side.val PT.syncReq p fun d => d.syncReqReceive p.payload

/-- COMMIT_RECEIVE (R491): A COMMIT packet is accepted for its index or refused with INDEX_PASSED. -/
def execCommitReceive (side : Fin 2) (p : RxPacket) (s : State) : Host.Outcome State Fault Refusal := s.run fun d => d.packet side.val PT.commit p fun d => d.commitReceive p.payload

/-- COMMIT_RESULT_RECEIVE (R491): A COMMIT_RESULT is recorded by the commit's origin. -/
def execCommitResultReceive (side : Fin 2) (p : RxPacket) (s : State) : Host.Outcome State Fault Refusal := s.run fun d => d.packet side.val PT.commitResult p fun d => d.commitResult p.payload

/-- BORDER_RECEIVE (R234): A BORDER packet brings the partner's border runs of a row, or is discarded when it comes late. -/
def execBorderReceive (side : Fin 2) (p : RxPacket) (s : State) : Host.Outcome State Fault Refusal := s.run fun d => d.packet side.val PT.border p fun d => d.borderReceive side.val (borderOf p.payload)

/-- YIELD_RECEIVE (R459): A YIELD packet adds partial features to the owner's defects, or is discarded late with YIELD_DISCARD. -/
def execYieldReceive (side : Fin 2) (p : RxPacket) (s : State) : Host.Outcome State Fault Refusal := s.run fun d => d.packet side.val PT.yield p fun d => d.yieldReceive p.src p.payload

/-- DOZE_IDLE_EXPIRY (R450): After DOZE_IDLE_US with only idle to send, a transmitter sends DOZE and holds electrical idle. -/
def execDozeIdleExpiry (side : Fin 2) (s : State) : Host.Outcome State Fault Refusal := s.run fun d => d.dozeIdleExpiry side.val

/-- DOZE_RECEIVE (R450): A receiver that gets a DOZE set enters DOZE. -/
def execDozeReceive (side : Fin 2) (s : State) : Host.Outcome State Fault Refusal := s.run fun d => d.dozeReceive side.val

/-- WAKE_DETECT (R450): A dozing receiver detects signal and regains lock on the WAKE sets. -/
def execWakeDetect (side : Fin 2) (s : State) : Host.Outcome State Fault Refusal := s.run fun d => d.wakeDetect side.val

/-- WAKE_LOCK_TIMEOUT (R449): A receiver fails to regain lock within 10 µs of WAKE, and the port goes down. -/
def execWakeLockTimeout (side : Fin 2) (s : State) : Host.Outcome State Fault Refusal := s.run fun d => d.wakeLockTimeout side.val

/-- LOCK_FAIL (R446): During the LOCK hold a seam port meets a code error, an invalid sync header or skew beyond 8 ns, so it excludes the rate and restarts TRAIN at K1, or at K1 returns to DETECT. -/
def execLockFail (side : Fin 2) (s : State) : Host.Outcome State Fault Refusal := s.run fun d => d.lockFail side.val

/-- LINKINFO_TIMER (R460): Every 1 ms each device sends its own LINKINFO. -/
def execLinkinfoTimer (s : State) : Host.Outcome State Fault Refusal := s.run fun d => d.sendLinkinfo

/-- CASCADE_COMMIT_TIMEOUT (R491): 10 ms after the hand-over, the origin completes with CASCADE_PARTIAL for the missing answers. -/
def execCascadeCommitTimeout (s : State) : Host.Outcome State Fault Refusal := s.run fun d => d.cascadeTimeout

end Sys2Proof.Machine
end

