-- ==== Sys2Proof/Machine/Dispatch.lean ====
section
/-!
DEFINITION. One arm per command: a direct call of its meaning.
-/
namespace Sys2Proof.Machine

def exec (i : Instr) (s : State) : Host.Outcome State Fault Refusal :=
  match i with
  | .resetRelease trained => Sys2Proof.Machine.execResetRelease trained s
  | .tempSample quarters => Sys2Proof.Machine.execTempSample quarters s
  | .encoderEdge e a b at_ stable => Sys2Proof.Machine.execEncoderEdge e a b at_ stable s
  | .zEdge e at_ => Sys2Proof.Machine.execZEdge e at_ s
  | .encoderLost e at_ => Sys2Proof.Machine.execEncoderLost e at_ s
  | .motionStop at_ => Sys2Proof.Machine.execMotionStop at_ s
  | .readmit e v => Sys2Proof.Machine.execReadmit e v s
  | .mdOffsetWrite v => Sys2Proof.Machine.execMdOffsetWrite v s
  | .ltrigTarget g at_ => Sys2Proof.Machine.execLtrigTarget g at_ s
  | .trgCeilExpiry g => Sys2Proof.Machine.execTrgCeilExpiry g s
  | .trgFloorExpiry g => Sys2Proof.Machine.execTrgFloorExpiry g s
  | .trgClear g v => Sys2Proof.Machine.execTrgClear g v s
  | .linePassed at_ differs => Sys2Proof.Machine.execLinePassed at_ differs s
  | .cmpFire k at_ => Sys2Proof.Machine.execCmpFire k at_ s
  | .cmpArm k v => Sys2Proof.Machine.execCmpArm k v s
  | .posSyncEdge at_ => Sys2Proof.Machine.execPosSyncEdge at_ s
  | .posReceive side p => Sys2Proof.Machine.execPosReceive side p s
  | .holdover at_ => Sys2Proof.Machine.execHoldover at_ s
  | .camTrig p => Sys2Proof.Machine.execCamTrig p s
  | .clgCc m c => Sys2Proof.Machine.execClgCc m c s
  | .triggerPulseEnd p => Sys2Proof.Machine.execTriggerPulseEnd p s
  | .exposureStamp p => Sys2Proof.Machine.execExposureStamp p s
  | .camLine p at_ planes elasticFull => Sys2Proof.Machine.execCamLine p at_ planes elasticFull s
  | .acqFrameEdge p opens at_ => Sys2Proof.Machine.execAcqFrameEdge p opens at_ s
  | .gcGo p v => Sys2Proof.Machine.execGcGo p v s
  | .gcAnswer p ok data => Sys2Proof.Machine.execGcAnswer p ok data s
  | .gcTimeout p => Sys2Proof.Machine.execGcTimeout p s
  | .camLanesSignal p => Sys2Proof.Machine.execCamLanesSignal p s
  | .camLinkUp p skew => Sys2Proof.Machine.execCamLinkUp p skew s
  | .deskewRetry p skew => Sys2Proof.Machine.execDeskewRetry p skew s
  | .camIdentifyDone p ident => Sys2Proof.Machine.execCamIdentifyDone p ident s
  | .camIdentifyWaitEnd p => Sys2Proof.Machine.execCamIdentifyWaitEnd p s
  | .camRetry p v => Sys2Proof.Machine.execCamRetry p v s
  | .roleMissingTimeout p => Sys2Proof.Machine.execRoleMissingTimeout p s
  | .clgClockLocked m mhz => Sys2Proof.Machine.execClgClockLocked m mhz s
  | .clgClockLost m ch => Sys2Proof.Machine.execClgClockLost m ch s
  | .serByteReceive m b => Sys2Proof.Machine.execSerByteReceive m b s
  | .serTxWrite m v => Sys2Proof.Machine.execSerTxWrite m v s
  | .serRxRead m => Sys2Proof.Machine.execSerRxRead m s
  | .camsideChunk r => Sys2Proof.Machine.execCamsideChunk r s
  | .outputLineCompute r c => Sys2Proof.Machine.execOutputLineCompute r c s
  | .outputLineDeadline r c => Sys2Proof.Machine.execOutputLineDeadline r c s
  | .bandLineTake r => Sys2Proof.Machine.execBandLineTake r s
  | .fenceComplete source => Sys2Proof.Machine.execFenceComplete source s
  | .windowRelease r => Sys2Proof.Machine.execWindowRelease r s
  | .apronWaitExpiry r => Sys2Proof.Machine.execApronWaitExpiry r s
  | .apronReceive side p => Sys2Proof.Machine.execApronReceive side p s
  | .bar4Read offset len ecc => Sys2Proof.Machine.execBar4Read offset len ecc s
  | .bar4Write offset bytes => Sys2Proof.Machine.execBar4Write offset bytes s
  | .segRow r => Sys2Proof.Machine.execSegRow r s
  | .segSkip r => Sys2Proof.Machine.execSegSkip r s
  | .imageRowDeliver ctx => Sys2Proof.Machine.execImageRowDeliver ctx s
  | .dcaResult memError => Sys2Proof.Machine.execDcaResult memError s
  | .dcaDeadline at_ => Sys2Proof.Machine.execDcaDeadline at_ s
  | .modelLoadReceived bank host => Sys2Proof.Machine.execModelLoadReceived bank host s
  | .modelVerifyDone bank => Sys2Proof.Machine.execModelVerifyDone bank s
  | .swPulse mask => Sys2Proof.Machine.execSwPulse mask s
  | .swSet mask => Sys2Proof.Machine.execSwSet mask s
  | .swClear mask => Sys2Proof.Machine.execSwClear mask s
  | .gpioEdge p level at_ stable => Sys2Proof.Machine.execGpioEdge p level at_ stable s
  | .gpo p => Sys2Proof.Machine.execGpo p s
  | .gpoPulseRise p => Sys2Proof.Machine.execGpoPulseRise p s
  | .gpoPulseEnd p => Sys2Proof.Machine.execGpoPulseEnd p s
  | .tmrStart n => Sys2Proof.Machine.execTmrStart n s
  | .tmrStop n => Sys2Proof.Machine.execTmrStop n s
  | .tmrExpiry n => Sys2Proof.Machine.execTmrExpiry n s
  | .markFire k => Sys2Proof.Machine.execMarkFire k s
  | .markInhibit k => Sys2Proof.Machine.execMarkInhibit k s
  | .markPulseEnd k => Sys2Proof.Machine.execMarkPulseEnd k s
  | .markHoldoffEnd k => Sys2Proof.Machine.execMarkHoldoffEnd k s
  | .syncReqWrite v => Sys2Proof.Machine.execSyncReqWrite v s
  | .irq n => Sys2Proof.Machine.execIrq n s
  | .dmaStart n => Sys2Proof.Machine.execDmaStart n s
  | .pantryWriteDone held => Sys2Proof.Machine.execPantryWriteDone held s
  | .galUpdate v => Sys2Proof.Machine.execGalUpdate v s
  | .dpPlug lanes rate edid => Sys2Proof.Machine.execDpPlug lanes rate edid s
  | .irqHpd lost => Sys2Proof.Machine.execIrqHpd lost s
  | .dpTrainDone good => Sys2Proof.Machine.execDpTrainDone good s
  | .dpTrainRetry lanes rate edid => Sys2Proof.Machine.execDpTrainRetry lanes rate edid s
  | .sqDoorbell fn n value => Sys2Proof.Machine.execSqDoorbell fn n value s
  | .cqDoorbell fn n value => Sys2Proof.Machine.execCqDoorbell fn n value s
  | .sqEnableWrite fn n v => Sys2Proof.Machine.execSqEnableWrite fn n v s
  | .cqEnableWrite fn n v => Sys2Proof.Machine.execCqEnableWrite fn n v s
  | .commandFetch q entries => Sys2Proof.Machine.execCommandFetch q entries s
  | .cqEntryWrite q => Sys2Proof.Machine.execCqEntryWrite q s
  | .cqCoalExpiry q => Sys2Proof.Machine.execCqCoalExpiry q s
  | .msixUnmask fn vector => Sys2Proof.Machine.execMsixUnmask fn vector s
  | .identify q => Sys2Proof.Machine.execIdentify q s
  | .commit q => Sys2Proof.Machine.execCommit q s
  | .modeRequest q => Sys2Proof.Machine.execModeRequest q s
  | .recipeSwitch q => Sys2Proof.Machine.execRecipeSwitch q s
  | .profileReset q => Sys2Proof.Machine.execProfileReset q s
  | .cropRead q => Sys2Proof.Machine.execCropRead q s
  | .dmaRun q => Sys2Proof.Machine.execDmaRun q s
  | .calibrate q => Sys2Proof.Machine.execCalibrate q s
  | .test q => Sys2Proof.Machine.execTest q s
  | .atticExport q => Sys2Proof.Machine.execAtticExport q s
  | .replay q => Sys2Proof.Machine.execReplay q s
  | .replayLoadDone first => Sys2Proof.Machine.execReplayLoadDone first s
  | .modelLoad q => Sys2Proof.Machine.execModelLoad q s
  | .laneRetrain q => Sys2Proof.Machine.execLaneRetrain q s
  | .spareRotate q => Sys2Proof.Machine.execSpareRotate q s
  | .suspend q => Sys2Proof.Machine.execSuspend q s
  | .resume q => Sys2Proof.Machine.execResume q s
  | .cancel q blocks data => Sys2Proof.Machine.execCancel q blocks data s
  | .opStatus q => Sys2Proof.Machine.execOpStatus q s
  | .subscribeRecords q => Sys2Proof.Machine.execSubscribeRecords q s
  | .subscribePreview q => Sys2Proof.Machine.execSubscribePreview q s
  | .subscribeImage q => Sys2Proof.Machine.execSubscribeImage q s
  | .subscribeProfile q => Sys2Proof.Machine.execSubscribeProfile q s
  | .postBuffer q => Sys2Proof.Machine.execPostBuffer q s
  | .unsubscribe q => Sys2Proof.Machine.execUnsubscribe q s
  | .vfFlr fn => Sys2Proof.Machine.execVfFlr fn s
  | .hostReset linkDown => Sys2Proof.Machine.execHostReset linkDown s
  | .vfBmeClear fn => Sys2Proof.Machine.execVfBmeClear fn s
  | .dmaGo n => Sys2Proof.Machine.execDmaGo n s
  | .dmaStop n blocks data => Sys2Proof.Machine.execDmaStop n blocks data s
  | .dmaClear n => Sys2Proof.Machine.execDmaClear n s
  | .dmaDescRead n host => Sys2Proof.Machine.execDmaDescRead n host s
  | .dmaDescDone n data => Sys2Proof.Machine.execDmaDescDone n data s
  | .dmaReadFail n kind wrote data => Sys2Proof.Machine.execDmaReadFail n kind wrote data s
  | .doorwayDecision x arrivals move release ecc => Sys2Proof.Machine.execDoorwayDecision x arrivals move release ecc s
  | .lockTimeout x => Sys2Proof.Machine.execLockTimeout x s
  | .starve x r => Sys2Proof.Machine.execStarve x r s
  | .refreshDue c bank issued => Sys2Proof.Machine.execRefreshDue c bank issued s
  | .retrainDue c gap drift => Sys2Proof.Machine.execRetrainDue c gap drift s
  | .retrainForced c drift => Sys2Proof.Machine.execRetrainForced c drift s
  | .mr4Poll mults hot => Sys2Proof.Machine.execMr4Poll mults hot s
  | .c0LoadWindow c => Sys2Proof.Machine.execC0LoadWindow c s
  | .reqClassWrite r v => Sys2Proof.Machine.execReqClassWrite r v s
  | .laneLos l => Sys2Proof.Machine.execLaneLos l s
  | .laneLol l bitLock errors => Sys2Proof.Machine.execLaneLol l bitLock errors s
  | .bitslip l v => Sys2Proof.Machine.execBitslip l v s
  | .bitslipApply l => Sys2Proof.Machine.execBitslipApply l s
  | .detectProbe side present => Sys2Proof.Machine.execDetectProbe side present s
  | .ktsReceive side second count sent sets => Sys2Proof.Machine.execKtsReceive side second count sent sets s
  | .trainTimeout side => Sys2Proof.Machine.execTrainTimeout side s
  | .rateIdleEnd side => Sys2Proof.Machine.execRateIdleEnd side s
  | .eqTimeout side => Sys2Proof.Machine.execEqTimeout side s
  | .lockHoldDone side => Sys2Proof.Machine.execLockHoldDone side s
  | .portRetry side v => Sys2Proof.Machine.execPortRetry side v s
  | .capReceive side p => Sys2Proof.Machine.execCapReceive side p s
  | .capResend side => Sys2Proof.Machine.execCapResend side s
  | .ackReceive side p => Sys2Proof.Machine.execAckReceive side p s
  | .replayTimeout side => Sys2Proof.Machine.execReplayTimeout side s
  | .linkinfoReceive side p => Sys2Proof.Machine.execLinkinfoReceive side p s
  | .syncReceive side p => Sys2Proof.Machine.execSyncReceive side p s
  | .syncReqReceive side p => Sys2Proof.Machine.execSyncReqReceive side p s
  | .commitReceive side p => Sys2Proof.Machine.execCommitReceive side p s
  | .commitResultReceive side p => Sys2Proof.Machine.execCommitResultReceive side p s
  | .borderReceive side p => Sys2Proof.Machine.execBorderReceive side p s
  | .yieldReceive side p => Sys2Proof.Machine.execYieldReceive side p s
  | .dozeIdleExpiry side => Sys2Proof.Machine.execDozeIdleExpiry side s
  | .dozeReceive side => Sys2Proof.Machine.execDozeReceive side s
  | .wakeDetect side => Sys2Proof.Machine.execWakeDetect side s
  | .wakeLockTimeout side => Sys2Proof.Machine.execWakeLockTimeout side s
  | .modeReqWrite v => Sys2Proof.Machine.execModeReqWrite v s
  | .resetReqWrite v => Sys2Proof.Machine.execResetReqWrite v s
  | .shadowOpen v => Sys2Proof.Machine.execShadowOpen v s
  | .shadowWrite addr v => Sys2Proof.Machine.execShadowWrite addr v s
  | .shadowSeal v => Sys2Proof.Machine.execShadowSeal v s
  | .sealCheckDone g => Sys2Proof.Machine.execSealCheckDone g s
  | .shadowAbort v => Sys2Proof.Machine.execShadowAbort v s
  | .commitReqWrite v => Sys2Proof.Machine.execCommitReqWrite v s
  | .hello p raw => Sys2Proof.Machine.execHello p raw s
  | .openSession p raw => Sys2Proof.Machine.execOpenSession p raw s
  | .closeSession p raw => Sys2Proof.Machine.execCloseSession p raw s
  | .keepalive p raw => Sys2Proof.Machine.execKeepalive p raw s
  | .status p raw => Sys2Proof.Machine.execStatus p raw s
  | .regRead p raw => Sys2Proof.Machine.execRegRead p raw s
  | .regWrite p raw => Sys2Proof.Machine.execRegWrite p raw s
  | .logRead p raw => Sys2Proof.Machine.execLogRead p raw s
  | .kspReset p raw => Sys2Proof.Machine.execKspReset p raw s
  | .updBegin p raw held => Sys2Proof.Machine.execUpdBegin p raw held s
  | .updData p raw => Sys2Proof.Machine.execUpdData p raw s
  | .updBlockWritten block held => Sys2Proof.Machine.execUpdBlockWritten block held s
  | .updQuery p raw => Sys2Proof.Machine.execUpdQuery p raw s
  | .updVerify p raw => Sys2Proof.Machine.execUpdVerify p raw s
  | .updActivate p raw held => Sys2Proof.Machine.execUpdActivate p raw held s
  | .updAbort p raw => Sys2Proof.Machine.execUpdAbort p raw s
  | .arpRequest ip => Sys2Proof.Machine.execArpRequest ip s
  | .trialConfirm held => Sys2Proof.Machine.execTrialConfirm held s
  | .selftestDone n pass unit => Sys2Proof.Machine.execSelftestDone n pass unit s
  | .stripeError n e => Sys2Proof.Machine.execStripeError n e s
  | .stripeStall n => Sys2Proof.Machine.execStripeStall n s
  | .drtBlock ofTest first second corrected => Sys2Proof.Machine.execDrtBlock ofTest first second corrected s
  | .eyePassDone l width height full => Sys2Proof.Machine.execEyePassDone l width height full s
  | .dbgTokenSubmit v => Sys2Proof.Machine.execDbgTokenSubmit v s
  | .dbgLock v => Sys2Proof.Machine.execDbgLock v s
  | .tmuxEnable v => Sys2Proof.Machine.execTmuxEnable v s
  | .jtagInstruction op => Sys2Proof.Machine.execJtagInstruction op s
  | .live64LowRead addr => Sys2Proof.Machine.execLive64LowRead addr s
  | .rstatRead addr => Sys2Proof.Machine.execRstatRead addr s
  | .counterClearWrite addr v => Sys2Proof.Machine.execCounterClearWrite addr v s
  | .registerWrite bar2 fn addr size value => Sys2Proof.Machine.execRegisterWrite bar2 fn addr size value s
  | .pcieConfigWrite c => Sys2Proof.Machine.execPcieConfigWrite c s
  | .refclkRestored lane => Sys2Proof.Machine.execRefclkRestored lane s
  | .queueFetchError q => Sys2Proof.Machine.execQueueFetchError q s
  | .lockFail side => Sys2Proof.Machine.execLockFail side s
  | .replayHostLine p wpos planes field => Sys2Proof.Machine.execReplayHostLine p wpos planes field s
  | .tmuxStrobe seen => Sys2Proof.Machine.execTmuxStrobe seen s
  | .ethernetLinkChange up => Sys2Proof.Machine.execEthernetLinkChange up s
  | .porAssert => Sys2Proof.Machine.execPorAssert s
  | .rstNAssert => Sys2Proof.Machine.execRstNAssert s
  | .supplyDroop => Sys2Proof.Machine.execSupplyDroop s
  | .sysRefclkLoss => Sys2Proof.Machine.execSysRefclkLoss s
  | .laneRefclkLoss => Sys2Proof.Machine.execLaneRefclkLoss s
  | .pcieRefclkLoss => Sys2Proof.Machine.execPcieRefclkLoss s
  | .perstNAssert => Sys2Proof.Machine.execPerstNAssert s
  | .throttleTick => Sys2Proof.Machine.execThrottleTick s
  | .thermComparatorTrip => Sys2Proof.Machine.execThermComparatorTrip s
  | .watchdogExpiry => Sys2Proof.Machine.execWatchdogExpiry s
  | .sramUe => Sys2Proof.Machine.execSramUe s
  | .foyerComplete => Sys2Proof.Machine.execFoyerComplete s
  | .heartbeatIdle => Sys2Proof.Machine.execHeartbeatIdle s
  | .posSyncPulse => Sys2Proof.Machine.execPosSyncPulse s
  | .holdoverExpiry => Sys2Proof.Machine.execHoldoverExpiry s
  | .tapCopyback => Sys2Proof.Machine.execTapCopyback s
  | .rowMerge => Sys2Proof.Machine.execRowMerge s
  | .mergeHoldExpiry => Sys2Proof.Machine.execMergeHoldExpiry s
  | .floorRowMerge => Sys2Proof.Machine.execFloorRowMerge s
  | .rowResolve => Sys2Proof.Machine.execRowResolve s
  | .seamWaitExpiry => Sys2Proof.Machine.execSeamWaitExpiry s
  | .yieldWaitExpiry => Sys2Proof.Machine.execYieldWaitExpiry s
  | .recordSpool => Sys2Proof.Machine.execRecordSpool s
  | .recordDeliver => Sys2Proof.Machine.execRecordDeliver s
  | .recordFlush => Sys2Proof.Machine.execRecordFlush s
  | .dcaCropFetch => Sys2Proof.Machine.execDcaCropFetch s
  | .dcaRunStart => Sys2Proof.Machine.execDcaRunStart s
  | .markSlotArrive => Sys2Proof.Machine.execMarkSlotArrive s
  | .decSync => Sys2Proof.Machine.execDecSync s
  | .profileSyncPin => Sys2Proof.Machine.execProfileSyncPin s
  | .commitInput => Sys2Proof.Machine.execCommitInput s
  | .posCapture => Sys2Proof.Machine.execPosCapture s
  | .calDecision => Sys2Proof.Machine.execCalDecision s
  | .calComputeLate => Sys2Proof.Machine.execCalComputeLate s
  | .extCalSumsDone => Sys2Proof.Machine.execExtCalSumsDone s
  | .extCalComputeDone => Sys2Proof.Machine.execExtCalComputeDone s
  | .pantryWriteStart => Sys2Proof.Machine.execPantryWriteStart s
  | .vblankStart => Sys2Proof.Machine.execVblankStart s
  | .underrun => Sys2Proof.Machine.execUnderrun s
  | .dpUnplug => Sys2Proof.Machine.execDpUnplug s
  | .replayAtticRow => Sys2Proof.Machine.execReplayAtticRow s
  | .replayDone => Sys2Proof.Machine.execReplayDone s
  | .linkinfoTimer => Sys2Proof.Machine.execLinkinfoTimer s
  | .cascadeCommitTimeout => Sys2Proof.Machine.execCascadeCommitTimeout s
  | .discoverReady => Sys2Proof.Machine.execDiscoverReady s
  | .discoverTimeout => Sys2Proof.Machine.execDiscoverTimeout s
  | .sessionIdleTimeout => Sys2Proof.Machine.execSessionIdleTimeout s
  | .trialTimerExpiry => Sys2Proof.Machine.execTrialTimerExpiry s
  | .rotationDue => Sys2Proof.Machine.execRotationDue s
  | .rotationSwitchDone => Sys2Proof.Machine.execRotationSwitchDone s
  | .pcieLinkUp => Sys2Proof.Machine.execPcieLinkUp s
  | .atticExportRow => Sys2Proof.Machine.execAtticExportRow s
  | .updVerifyDone => Sys2Proof.Machine.execUpdVerifyDone s
  | .trstNAssert => Sys2Proof.Machine.execTrstNAssert s

end Sys2Proof.Machine
end

