-- ==== Sys2Proof/Safety.lean ====
section
/-!
DEFINITION. What counts as a sound state of the block: the forms that every step keeps, in the terms of the claims.
-/
namespace Sys2Proof

open Sys2Proof.Machine

/-- A store of bytes in canonical form: addresses strictly rising, and no entry that equals what an unlisted address reads as. -/
def Memory.wf (dflt : Byte) (t : Tbl Byte) : Bool := tcanon (fun _ => dflt) t

/-- A step goes on, whatever the state. -/
def safe (s : State) : Prop := ∃ t, step s = .next t

namespace Machine

/-- DRAM and flash are in canonical form, and nothing is left over from a step. -/
def State.sound (s : State) : Bool :=
  Memory.wf 0 s.dev.dram && Memory.wf 0xFF s.dev.flash && s.dev.dramLog.isEmpty && s.dev.flashLog.isEmpty

/-- The commands that act in RESET too: the resets and clocks, the levels at the pins, MD_OFFSET (R35) and JTAG. Every other command finds nothing that
runs. -/
def actsInReset : Instr → Bool
  | .porAssert | .rstNAssert | .resetRelease _ | .supplyDroop | .sysRefclkLoss | .laneRefclkLoss | .pcieRefclkLoss | .refclkRestored _ | .perstNAssert
  | .thermComparatorTrip | .encoderEdge .. | .gpioEdge .. | .mdOffsetWrite _ | .jtagInstruction _ | .trstNAssert => true
  | _ => false

/-- The part as a command finds it: nothing has gone out yet. Log 6 (DESIGN CHOICE, safe). -/
def State.start (s : State) : Dev := { s.dev with out := [] }

/-- The state that a command leaves when its own effect has made the part `d`: a FAULT that it asked for is entered (R472), a LANE_RETRAIN follows its
ports (R371), the pins take their levels (R298), and the bytes written go into DRAM and flash. Log 5 (DESIGN CHOICE, unsafe), 34 (DEDUCED, unsafe). -/
def State.after (s : State) (d : Dev) : State := { s with dev := d.settleFault.retrainFollow.settlePins.flush s.dev.dram s.dev.flash }

/-- What an effect leaves alone: every register word but those it may change, and every byte of DRAM and of flash. -/
def Dev.keeps (d d' : Dev) (may : Nat → Prop) : Prop :=
  (∀ a, ¬ may a → d'.reg a = d.reg a) ∧ d'.dramLog = d.dramLog ∧ d'.flashLog = d.flashLog

/-- The words that count the events on the Plaza's channels (R289). -/
def chanCount (a : Nat) : Prop := ∃ c, c < 1024 ∧ a = (R.PLZ_CH_CNT c).addr

/-- The words that the passing of time may change: POS.STATUS, POS.FAULT, XCHK_DIFF, GLB.MISSING, and the channel counters of the Plaza. -/
def timeWord (a : Nat) : Prop :=
  a = R.POS_STATUS.addr ∨ a = R.POS_FAULT.addr ∨ a = R.POS_XCHK_DIFF.addr ∨ a = R.GLB_MISSING.addr ∨ chanCount a

end Machine

end Sys2Proof
end

