-- ==== Sys2Proof/Certificates/Slice0/Obligations.lean ====
section
/-!
DEFINITION. The statements about the block, one after the other by family of commands.  Each says for its commands that `exec` answers
a next state, of which part, and what that part holds; `State.after` (Safety) is what ends every command.
-/
open Sys2Proof Sys2Proof.Machine

/-- A step takes the command at the front of the queue and runs it on the state with the queue's rest. -/
def Obligations.StepTakesTheFront : Prop :=
  ∀ (c : Instr) (s : State), step { s with pending := c :: s.pending } = exec c s

/-- With an empty queue a step lets the position clock reach the next cycle, and in RESET it leaves the part as it is: the model's choice (log 1). -/
def Obligations.EmptyQueueTicks : Prop :=
  ∀ s : State, s.pending = [] →
    (s.dev.mode ≠ .reset → ∃ d, step s = .next (s.after d) ∧ d = s.start.advance (s.dev.time + 1) ∧ d.time = s.dev.time + 1 ∧ s.dev.keeps d timeWord) ∧
    (s.dev.mode = .reset → step s = .next (s.after s.start))

/-- No command stops the block: every step answers a next state, whose queue is the rest. -/
def Obligations.EveryStepGoesOn : Prop :=
  ∀ s : State, safe s ∧ ∀ t, step s = .next t → t.pending = s.pending.tail

/-- In RESET a command has no effect (R548), but for the resets and clocks, the levels at the pins, MD_OFFSET (R35) and JTAG, which act there: the model's
choice of rows (log 4). -/
def Obligations.NothingRunsInReset : Prop :=
  ∀ (c : Instr) (s : State), s.dev.mode = .reset → actsInReset c = false → exec c s = .next (s.after s.start)

/-- The state after reset is sound: DRAM and flash are in canonical form, and nothing is left over from a step. -/
def Obligations.ResetIsSound : Prop := State.reset.sound = true ∧ State.reset.pending = [] ∧ State.reset.dev.mode = .reset

/-- Every step keeps DRAM and flash in canonical form and writes all of its bytes into them, from every sound state, reached or not. -/
def Obligations.EveryStepKeepsSound : Prop := ∀ s t : State, s.sound = true → step s = .next t → t.sound = true

/-- What ends a command whose effect asks for no FAULT while no LANE_RETRAIN runs: the queue and all else of the part stay, each pin takes its level, the bytes of
its one write go into DRAM or flash, and every other byte reads as before. -/
def Obligations.StoresAfterACommand : Prop :=
  ∀ (s : State) (d : Dev), d.faultReq = [] → d.opsOf 0x15 = [] → let t := s.after d
    t.pending = s.pending ∧ (∀ p, t.dev.pin p = if p < 32 then d.pinNow p else d.pin p) ∧
    t.dev = { d with plz := { d.plz with pins := t.dev.plz.pins }, dram := t.dev.dram, flash := t.dev.flash, dramLog := [], flashLog := [] } ∧
    (d.dram = s.dev.dram → d.dramLog = [] → t.dev.dram = s.dev.dram) ∧
    (d.dram = s.dev.dram → ∀ x bs, d.dramLog = [(x, bs)] → ∀ a, tget 0 t.dev.dram a = if x ≤ a ∧ a < x + bs.length then bs.getD (a - x) 0 else tget 0 s.dev.dram a) ∧
    (d.flashLog = [] → t.dev.flash = s.dev.flash) ∧
    (∀ x n bs, d.flashLog = [(x, n, bs)] → ∀ a, tget 0xFF t.dev.flash a = if x ≤ a ∧ a < x + n then (bs.take n).getD (a - x) 0xFF else tget 0xFF s.dev.flash a)

/-- A warm reset of a part: what it keeps and what it resets (R548). -/
def Sys2Proof.warmOf (d d' : Dev) (cause : Nat) : Prop :=
  d'.mode = .reset ∧ d'.fld (Fld.bit R.GLB_RESET_CAUSE cause) = 1 ∧
  (∀ i, i < 32 → i ≠ cause → d'.fld (Fld.bit R.GLB_RESET_CAUSE i) = d.fld (Fld.bit R.GLB_RESET_CAUSE i)) ∧
  d'.fld R.GLB_FAULT_CAUSE = d.fld R.GLB_FAULT_CAUSE ∧ d'.fld R.GLB_FAULT_TIME = d.fld R.GLB_FAULT_TIME ∧
  d'.fld R.GLB_PLAT_STATUS_TRIP = d.fld R.GLB_PLAT_STATUS_TRIP ∧ d'.tst.jtag = d.tst.jtag ∧
  (∀ a, a ∉ [R.GLB_RESET_CAUSE.addr, R.GLB_FAULT_CAUSE.addr, R.GLB_FAULT_TIME.addr, R.GLB_FAULT_TIME.addr + 4, R.GLB_PLAT_STATUS_TRIP.addr] → d'.reg a = resetWord a) ∧
  d'.dram = [] ∧ d'.dramLog = [] ∧ d'.flash = d.flash ∧ d'.flashLog = d.flashLog ∧ d'.faultReq = [] ∧ d'.host = {} ∧ d'.cfg = {}

/-- R547, R548: a power-on reset, by POR_N or a droop of a monitored supply, leaves the part in RESET with POR as the one cause; every other register is at its
reset value, DRAM has no contents, and the boot flash stays.
R548, R466, R472, R552: the RST_N pin, the loss of SYS_REFCLK, a RESET_REQ write with the key, and a watchdog expiry outside the framed modes are warm
resets, each with its own cause. -/
def Obligations.WarmReset : Prop :=
  (∀ (s : State) (c : Instr), c = .porAssert ∨ c = .supplyDroop →
    ∃ d, exec c s = .next (s.after d) ∧ d.mode = .reset ∧ d.fld R.GLB_RESET_CAUSE = 1 ∧
      (∀ a, a ≠ R.GLB_RESET_CAUSE.addr → d.reg a = resetWord a) ∧ d.dram = [] ∧ d.dramLog = [] ∧ d.flash = s.dev.flash ∧ d.flashLog = s.dev.flashLog ∧
      d.faultReq = [] ∧ d.host = {} ∧ d.cfg = {}) ∧
  (∀ s : State,
    (∃ d, exec .rstNAssert s = .next (s.after d) ∧ warmOf s.dev d 1) ∧
    (∃ d, exec .sysRefclkLoss s = .next (s.after d) ∧ warmOf s.dev d 5) ∧
    (3 ≤ s.dev.mode.code → ∃ d, exec (.resetReqWrite 0x52535421) s = .next (s.after d) ∧ warmOf s.dev d 2) ∧
    (s.dev.mode ≠ .reset → s.dev.mode.framed = false → ∃ d, exec .watchdogExpiry s = .next (s.after d) ∧ warmOf s.dev d 4))

/-- R559, R561: a sample of the junction sensors shows the hottest reading and its sensor; a second reading in a row at 135 °C or above trips and asks for
FAULT; the comparator's trip drives THERM_TRIP_N low.
R560: at each tick of 1 ms with THROTTLE_EN set and no trip in the same cycle (R561: a trip goes first), a part at T_THROTTLE or above takes one step more of DCA throttling, or of the host's once the DCA has six;
a part HYST below it takes one back, the host's first. -/
def Obligations.Temperature : Prop :=
  (∀ (s : State) (ts : List Int), s.dev.mode ≠ .reset →
    (ts ≠ [] → ∃ d top n, exec (.tempSample ts) s = .next (s.after d) ∧ (ts.take 20)[n]? = some top ∧ (∀ x ∈ ts.take 20, x ≤ top) ∧
      d.fld R.GLB_PLAT_STATUS_TEMP = wrapN 12 top ∧ d.fld R.GLB_PLAT_STATUS_HOTTEST = n ∧
      (1 ≤ s.dev.plat.hot → 540 ≤ top → d.fld R.GLB_PLAT_STATUS_TRIP = 1 ∧ d.faultReq = s.dev.faultReq ++ [2]) ∧
      (s.dev.plat.hot = 0 ∨ top < 540 → d.fld R.GLB_PLAT_STATUS_TRIP = s.dev.fld R.GLB_PLAT_STATUS_TRIP ∧ d.faultReq = s.dev.faultReq) ∧
      s.dev.keeps d (· = R.GLB_PLAT_STATUS.addr)) ∧
    ∃ d, exec .thermComparatorTrip s = .next (s.after d) ∧ d.thermTripN = false ∧ s.dev.keeps d fun _ => False) ∧
  (∀ s : State, s.dev.mode ≠ .reset → s.dev.flag R.GLB_PLAT_CFG_THROTTLE_EN = true → s.dev.plat.tripAt ≠ some s.dev.time →
    ∃ d, exec .throttleTick s = .next (s.after d) ∧ s.dev.keeps d (· = R.GLB_PLAT_STATUS.addr) ∧
      (s.dev.throttleAt ≤ s.dev.sfld R.GLB_PLAT_STATUS_TEMP → s.dev.fld R.GLB_PLAT_STATUS_DCA_STEP < 6 →
        d.fld R.GLB_PLAT_STATUS_DCA_STEP = s.dev.fld R.GLB_PLAT_STATUS_DCA_STEP + 1 ∧ d.fld R.GLB_PLAT_STATUS_HOST_STEP = s.dev.fld R.GLB_PLAT_STATUS_HOST_STEP ∧
        d.fld R.GLB_PLAT_STATUS_THROTTLING = 1) ∧
      (s.dev.throttleAt ≤ s.dev.sfld R.GLB_PLAT_STATUS_TEMP → 6 ≤ s.dev.fld R.GLB_PLAT_STATUS_DCA_STEP →
        d.fld R.GLB_PLAT_STATUS_DCA_STEP = s.dev.fld R.GLB_PLAT_STATUS_DCA_STEP ∧
        d.fld R.GLB_PLAT_STATUS_HOST_STEP = min (s.dev.fld R.GLB_PLAT_STATUS_HOST_STEP + 1) 7 ∧ d.fld R.GLB_PLAT_STATUS_THROTTLING = 1) ∧
      (s.dev.sfld R.GLB_PLAT_STATUS_TEMP ≤ s.dev.throttleAt - s.dev.throttleHyst → 0 < s.dev.fld R.GLB_PLAT_STATUS_HOST_STEP →
        d.fld R.GLB_PLAT_STATUS_HOST_STEP = s.dev.fld R.GLB_PLAT_STATUS_HOST_STEP - 1 ∧ d.fld R.GLB_PLAT_STATUS_DCA_STEP = s.dev.fld R.GLB_PLAT_STATUS_DCA_STEP) ∧
      (s.dev.sfld R.GLB_PLAT_STATUS_TEMP ≤ s.dev.throttleAt - s.dev.throttleHyst → s.dev.fld R.GLB_PLAT_STATUS_HOST_STEP = 0 →
        d.fld R.GLB_PLAT_STATUS_HOST_STEP = 0 ∧ d.fld R.GLB_PLAT_STATUS_DCA_STEP = s.dev.fld R.GLB_PLAT_STATUS_DCA_STEP - 1) ∧
      (s.dev.throttleAt - s.dev.throttleHyst < s.dev.sfld R.GLB_PLAT_STATUS_TEMP → s.dev.sfld R.GLB_PLAT_STATUS_TEMP < s.dev.throttleAt → d = s.start))

/-- R24, R25: an encoder whose phases A and B take levels of which one is new, and hold them for FILTER cycles, counts one under x4 decoding: up when A leads B.
No other encoder's count changes, and no register beyond those that the passing of time may change. -/
def Obligations.EncoderEdge : Prop :=
  ∀ (s : State) (e : Fin 4) (a b : Bool) (at_ stable : Nat),
    let x := s.dev.enc e
    let swap := s.dev.lflag (R.POS_ENC_CFG_SWAP_AB e)
    let a' := if swap then b else a
    let b' := if swap then a else b
    let filter := min (s.dev.live (R.POS_ENC_CFG_FILTER e)) 100
    let up := if a' ≠ x.a then a' != b' else a' == b'
    s.dev.mode ≠ .reset → filter ≤ stable → s.dev.time ≤ at_ + filter → s.dev.lflag (R.POS_ENC_CFG_ENABLE e) = true →
    s.dev.live (R.POS_ENC_CFG_DECODE e) = 0 → (a' ≠ x.a ∧ b' = x.b ∨ a' = x.a ∧ b' ≠ x.b) → s.dev.flag R.POS_STATUS_STOPPED = false →
    ∃ d, exec (.encoderEdge e a b at_ stable) s = .next (s.after d) ∧ d.time = at_ + filter ∧
      (d.enc e).count = (if up then x.count + 1 else x.count - 1) ∧ (d.enc e).a = a' ∧ (d.enc e).b = b' ∧
      (∀ i, i ≠ e.val → (d.enc i).count = (s.dev.enc i).count) ∧ d.pos.gens = s.dev.pos.gens ∧ d.pos.slots = s.dev.pos.slots ∧ s.dev.keeps d timeWord

/-- R26, R28: a rising Z edge in forward motion (that in which MD rises, R34, R36) notes the count; with one noted before, a distance from Z_COUNT beyond Z_TOL is
ZSLIP, and counted. An encoder without an edge for STOP_US while |SPEED| is at least MOVE_SPEED is LOST.
R37: when the speed source has no edge within STOP_US, or is too slow, MOVING is cleared, STOPPED set and SPEED forced to zero. -/
def Obligations.EncoderFaults : Prop :=
  (∀ (s : State) (e : Fin 4) (at_ : Nat), s.dev.mode ≠ .reset →
    let d1 := s.start.advance at_
    let x := d1.enc e
    (∀ k rest z, x.edges = k :: rest → k.fwd ≠ d1.dirInvert → d1.lflag (R.POS_ENC_CFG_Z_ENABLE e) = true → x.zRef = some z →
      let far := ((if d1.dirInvert then z - x.count else x.count - z) - d1.fldNow (R.POS_Z_COUNT e)).natAbs
      ∃ d, exec (.zEdge e at_) s = .next (s.after d) ∧ (d.enc e).zRef = some x.count ∧ (d.enc e).count = x.count ∧
        (far ≤ d1.fldNow (R.POS_Z_TOL e) → d1.keeps d fun _ => False) ∧
        (d1.fldNow (R.POS_Z_TOL e) < far →
          d.fld (Fld.bit R.POS_FAULT_ZSLIP e) = 1 ∧ d.fld (R.POS_ERR_COUNT_ZSLIP_CNT e) = min (d1.fld (R.POS_ERR_COUNT_ZSLIP_CNT e) + 1) 65535 ∧
          d1.keeps d fun a => timeWord a ∨ a = (R.POS_ERR_COUNT e).addr)) ∧
    (∀ k rest, x.edges = k :: rest → k.t + d1.stopCycles ≤ d1.time → d1.lflag (R.POS_ENC_CFG_ENABLE e) = true → d1.fldNow R.POS_MOVE_SPEED ≤ d1.pos.speed.natAbs →
      ∃ d, exec (.encoderLost e at_) s = .next (s.after d) ∧ d.fld (Fld.bit R.POS_FAULT_LOST e) = 1 ∧ (d.enc e).count = x.count ∧
        (d1.combine ≠ 0 → (d.enc e).excluded = true) ∧ d1.keeps d timeWord)) ∧
  (∀ (s : State) (at_ : Nat), s.dev.mode ≠ .reset →
    let d1 := s.start.advance at_
    d1.flag R.POS_STATUS_MOVING = true → d1.movesNow = false →
    ∃ d, exec (.motionStop at_) s = .next (s.after d) ∧ d.fld R.POS_STATUS_STOPPED = 1 ∧ d.fld R.POS_STATUS_MOVING = 0 ∧
      d.pos.speed = 0 ∧ d.pos.md = d1.pos.md ∧ d.pos.wpos = d1.pos.wpos ∧ d1.keeps d fun a => a = R.POS_STATUS.addr ∨ chanCount a)

/-- R21, R35: MD_OFFSET may be written in RESET, FOYER, RECOVERY, STANDBY and SERVICE alone: the word holds the new value, which the rules of the write's own
cycle do not see and those of every later cycle do. Elsewhere the write sets WR_IGNORED and changes nothing else. -/
def Obligations.MdOffsetWrite : Prop :=
  ∀ (s : State) (v : BitVec 64),
    ((s.dev.mode = .reset ∨ s.dev.mode = .foyer ∨ s.dev.mode = .recovery ∨ s.dev.mode = .standby ∨ s.dev.mode = .service) →
      ∃ d, exec (.mdOffsetWrite v) s = .next (s.after d) ∧ d.fld R.POS_MD_OFFSET = v.toNat ∧ d.pos.wpos = s.dev.pos.wpos ∧ d.pos.md = s.dev.pos.md ∧
        d.ownForm = s.dev.ownForm ∧ (∀ t, t ≠ s.dev.time → ({ d with time := t } : Dev).ownForm = { s.dev.ownForm with offset := sx 64 v.toNat }) ∧
        s.dev.keeps d fun a => a = R.POS_MD_OFFSET.addr ∨ a = R.POS_MD_OFFSET.addr + 4) ∧
    (¬ (s.dev.mode = .reset ∨ s.dev.mode = .foyer ∨ s.dev.mode = .recovery ∨ s.dev.mode = .standby ∨ s.dev.mode = .service) →
      ∃ d, exec (.mdOffsetWrite v) s = .next (s.after d) ∧ d.fld R.POS_FAULT_WR_IGNORED = 1 ∧ d.fld R.POS_MD_OFFSET = s.dev.fld R.POS_MD_OFFSET ∧
        d.pos = s.dev.pos ∧ s.dev.keeps d fun a => a = R.POS_FAULT.addr ∨ chanCount a)

/-- R41, R43, R44: a generator whose next target HWM has reached consumes it: the target is skipped and counted while a trigger waits, waits while the ceiling
does not let it go, and is issued and counted otherwise; the waiting trigger is issued when the ceiling lets it; a floor trigger consumes no target; CLEAR
clears the counts.
R46, R48: in a framed mode an output line whose grid position HWM has reached is counted in LINES_PASSED and nothing else of the position unit moves, where
the line is no boundary and no divergence of a spare is reported with it; at a boundary the boundary's work follows. -/
def Obligations.TriggerGenerators : Prop :=
  (∀ (s : State) (g : Fin 48), s.dev.mode ≠ .reset →
    let counts := fun (a : Nat) => a = (R.POS_TRG_ISSUED g).addr ∨ chanCount a
    (∀ at_ : Nat, let d1 := s.start.advance at_; let x := d1.gen g
      d1.genRuns g = true → x.next ≤ d1.pos.hwm →
      ∃ d, exec (.ltrigTarget g at_) s = .next (s.after d) ∧ (d.gen g).next = x.next + d1.genPitch g ∧ (d.gen g).last = some x.next ∧
        ((x.waiting || d1.floorWaits g) = true → d.fld (R.POS_TRG_STATUS_OVERSPEED g) = 1 ∧ d.fld (R.POS_TRG_STATUS_SKIPPED g) = min (d1.fld (R.POS_TRG_STATUS_SKIPPED g) + 1) 65535 ∧
          d1.keeps d (· = (R.POS_TRG_STATUS g).addr)) ∧
        (x.waiting = false → d1.floorWaits g = false → d1.time < d1.ceilFree g → (d.gen g).waiting = true ∧ d1.keeps d fun _ => False) ∧
        (x.waiting = false → d1.ceilFree g ≤ d1.time → d.fld (R.POS_TRG_ISSUED g) = (d1.fld (R.POS_TRG_ISSUED g) + 1) % 2 ^ 32 ∧
          (d.gen g).lastTrig = some d1.time ∧ d1.keeps d counts)) ∧
    ((s.dev.gen g).waiting = true → s.dev.genRuns g = true → let d1 := s.start.advance (s.dev.ceilFree g)
      ∃ d, exec (.trgCeilExpiry g) s = .next (s.after d) ∧ d.fld (R.POS_TRG_ISSUED g) = (d1.fld (R.POS_TRG_ISSUED g) + 1) % 2 ^ 32 ∧
        (d.gen g).waiting = false ∧ (d.gen g).lastTrig = some d1.time ∧ (d.gen g).next = (s.dev.gen g).next ∧ d1.keeps d counts) ∧
    ((s.dev.gen g).waiting = false → s.dev.genRuns g = true → s.dev.lflag (R.POS_TRG_FLOOR g) = true →
      let d1 := s.start.advance (max ((s.dev.gen g).floorFrom + s.dev.floorCycles g) (s.dev.ceilFree g))
      ∃ d, exec (.trgFloorExpiry g) s = .next (s.after d) ∧ d.fld (R.POS_TRG_ISSUED g) = (d1.fld (R.POS_TRG_ISSUED g) + 1) % 2 ^ 32 ∧
        (d.gen g).lastTrig = some d1.time ∧ (d.gen g).floorFrom = d1.time ∧ (d.gen g).next = (s.dev.gen g).next ∧ d1.keeps d counts) ∧
    (∀ v : BitVec 32, 3 ≤ s.dev.mode.code → let d1 := (s.start.noteWord (R.POS_TRG_CTRL g).addr).baseWrite 0 (R.POS_TRG_CTRL g).addr (v.toNat ||| 0x80000000)
      ∃ d, exec (.trgClear g v) s = .next (s.after d) ∧ d.fld (R.POS_TRG_ISSUED g) = 0 ∧ d.fld (R.POS_TRG_STATUS_SKIPPED g) = 0 ∧
        d.fld (R.POS_TRG_STATUS_OVERSPEED g) = 0 ∧ d1.keeps d fun a => a = (R.POS_TRG_ISSUED g).addr ∨ a = (R.POS_TRG_STATUS g).addr)) ∧
  (∀ (s : State) (at_ : Nat) (differs : Bool), s.dev.mode ≠ .reset →
    let d1 := s.start.advance at_
    let l := d1.pos.linesPassed
    d1.mode.framed = true → d1.atticReplay = false → d1.pos.grid ≠ [] → d1.linePos l ≤ d1.pos.hwm →
    ∃ d d2, exec (.linePassed at_ differs) s = .next (s.after d) ∧ d2 = (if differs then ({ d1 with pos := { d1.pos with linesPassed := l + 1 } }).rotDiverge
        else { d1 with pos := { d1.pos with linesPassed := l + 1 } }).rotProgress ∧
      d = (if l % d2.pos.frameLines = 0 then d2.boundary l else d2) ∧ (differs = false → d2.pos = { d1.pos with linesPassed := l + 1 }) ∧
      (differs = false → l % d1.pos.frameLines ≠ 0 → d.pos.linesPassed = l + 1 ∧ d.pos.hwm = d1.pos.hwm ∧ d1.keeps d fun _ => False))

/-- R50, R51, R52, R54: an armed slot whose target MD + D has reached, or that was found beyond it, fires and counts while there is a source of position; without a PERIOD it disarms, with one its target moves on; a write of
CMP_CTRL comes after the comparison of its own cycle and arms a slot with the values written, or disarms it; a slot of a marker's pool refuses the write. -/
def Obligations.CompareSlots : Prop :=
  ∀ (s : State) (k : Fin 256), s.dev.mode ≠ .reset →
    (∀ at_ : Nat, s.dev.flag (R.POS_CMP_CTRL_ARM k) = true → let x := s.dev.slot k; let d1 := s.start.advance (max at_ x.since)
      let r := decide (x.target ≤ d1.slotReach x)
      (x.late || x.hit r) = true → d1.flag R.POS_STATUS_POS_LOST = false →
      ∃ d, exec (.cmpFire k at_) s = .next (s.after (if d.slotOwned k then d.slotFired k else d)) ∧ d.fld (R.POS_CMP_STATUS_FIRED k) = 1 ∧
        d.fld (R.POS_CMP_STATUS_FIRE_COUNT k) = (d1.fld (R.POS_CMP_STATUS_FIRE_COUNT k) + 1) % 65536 ∧
        (x.late = true → d.fld (R.POS_CMP_STATUS_LATE k) = 1) ∧
        (x.period = 0 → d.fld (R.POS_CMP_CTRL_ARM k) = 0 ∧ (d.slot k).target = x.target) ∧
        (x.period ≠ 0 → d.fld (R.POS_CMP_CTRL_ARM k) = d1.fld (R.POS_CMP_CTRL_ARM k) ∧ (d.slot k).target = x.target + x.period) ∧
        d1.keeps d fun a => a = (R.POS_CMP_STATUS k).addr ∨ a = (R.POS_CMP_CTRL k).addr ∨ chanCount a) ∧
    (∀ v : BitVec 32, 3 ≤ s.dev.mode.code →
      (s.dev.slotOwned k = true → ∃ d, exec (.cmpArm k v) s = .next (s.after d) ∧ d.fld R.PLZ_EVENTS_SLOT_WRITE = 1 ∧ d.pos = s.dev.pos ∧
        s.dev.keeps d fun a => a = R.PLZ_EVENTS_SLOT_WRITE.addr ∨ chanCount a) ∧
      (s.dev.slotOwned k = false → ∃ d, exec (.cmpArm k v) s = .next (s.after d) ∧ d.fld (R.POS_CMP_CTRL_ARM k) = v.toNat % 2 ∧
        (v.toNat % 2 = 1 → (d.slot k).target = s.dev.sfld (R.POS_CMP_TARGET k) ∧ (d.slot k).lead = s.dev.fld (R.POS_CMP_LEAD k) ∧
          (d.slot k).period = (if s.dev.fld (R.POS_CMP_PERIOD k) = 0 then 0 else max (s.dev.fld (R.POS_CMP_PERIOD k)) 16) ∧ (d.slot k).since = s.dev.time + 1 ∧
          d.fld (R.POS_CMP_STATUS_FIRE_COUNT k) = 0) ∧
        s.dev.keeps d fun a => a = (R.POS_CMP_STATUS k).addr ∨ a = (R.POS_CMP_CTRL k).addr ∨ chanCount a))

/-- R57, R458, R59: a slave latches its position clock at each edge of POS_SYNC, and holds the last 8 latches; a POS message with the number of a latch is
the slave's source of position from then on: MD is the message's, extrapolated with its SPEED from the latch, and in forward motion never goes back; HOLDOVER
ends. Four pulses without a match, or four periods without a pulse, set HOLDOVER.
R59: HOLDOVER_US after HOLDOVER, a slave with a good local encoder and no XCHK leaves its master, and MD_OFFSET takes up the difference of the
two positions; any other slave sets POS_LOST and asks for FAULT. -/
def Obligations.SlavePosition : Prop :=
  (∀ s : State, s.dev.mode ≠ .reset →
    (∀ at_ : Nat, s.dev.isSlave = true → let d1 := s.start.advance at_
      ∃ d, exec (.posSyncEdge at_) s = .next (s.after d) ∧ d.pos.latches = ((d1.nextSync, d1.time) :: d1.pos.latches).take 8 ∧ d.pos.unmatched = d1.pos.unmatched + 1 ∧
        d.time = d1.time ∧ d1.keeps d fun _ => False) ∧
    (∀ (side : Fin 2) (p : RxPacket) (x : Dev) (l : Nat × Nat), s.start.rxPacket side PT.pos p = (x, true) → let m := posMsgOf p.payload
      ((x.latchesFor m).find? fun l => l.1 = m.seq) = some l →
      ∃ d, exec (.posReceive side p) s = .next (s.after d) ∧ d.pos.msg = some (m, l.2) ∧ d.pos.synced = true ∧ d.pos.unmatched = 0 ∧
        d.fld R.POS_SYNC_STATUS_SYNC_SEQ = m.seq % 65536 ∧ d.fld R.POS_SYNC_STATUS_SYNC_OK = 1 ∧
        (x.pos.left = false → d.pos.follows = true ∧ d.fld R.POS_STATUS_HOLDOVER = 0 ∧
          (x.mode ≠ .replay → d.pos.md = if x.pos.follows = true ∧ 0 ≤ m.speed then max x.pos.md (slaveMd m l.2 x.time) else slaveMd m l.2 x.time)) ∧
        x.keeps d fun a => a = R.POS_SYNC_STATUS.addr ∨ timeWord a) ∧
    (∀ at_ : Nat, let d1 := s.start.advance at_
      let lastPulse := max (match d1.pos.latches with | (_, x) :: _ => x | [] => 0) (if d1.pos.follows then 0 else d1.pos.slaveFrom)
      d1.awaitsMaster = true → d1.flag R.POS_STATUS_HOLDOVER = false → (4 ≤ d1.pos.unmatched ∨ lastPulse + 4096 ≤ d1.time) →
      ∃ d, exec (.holdover at_) s = .next (s.after d) ∧ d.fld R.POS_STATUS_HOLDOVER = 1 ∧ d.fld R.POS_SYNC_STATUS_SYNC_OK = 0 ∧ d.pos.holdFrom = d1.time ∧
        d.pos.follows = d1.pos.follows ∧ d1.keeps d fun a => a = R.POS_STATUS.addr ∨ a = R.POS_SYNC_STATUS.addr)) ∧
  (∀ s : State, s.dev.mode ≠ .reset → s.dev.flag R.POS_STATUS_HOLDOVER = true → s.dev.pos.left = false →
    let d1 := s.start.advance (s.dev.pos.holdFrom + usCycles (max (s.dev.fldNow R.POS_SYNC_CFG) 1))
    (d1.pos.used ≠ [] → d1.flag R.POS_FAULT_XCHK = false →
      ∃ d, exec .holdoverExpiry s = .next (s.after d) ∧ d.pos.follows = false ∧ d.pos.left = true ∧ d.fld R.POS_STATUS_HOLDOVER = 0 ∧
        d.fld R.POS_MD_OFFSET = wrapN 64 (d1.sfld R.POS_MD_OFFSET + (d1.pos.md - d1.ownForm.md d1.pos.wpos)) ∧
        d1.keeps d fun a => a = R.POS_MD_OFFSET.addr ∨ a = R.POS_MD_OFFSET.addr + 4 ∨ timeWord a) ∧
    ((d1.pos.used = [] ∨ d1.flag R.POS_FAULT_XCHK = true) →
      ∃ d, exec .holdoverExpiry s = .next (s.after d) ∧ d.pos.follows = false ∧ d.pos.left = true ∧ d.fld R.POS_STATUS_POS_LOST = 1 ∧
        d.faultReq = d1.faultReq ++ [0] ∧ d1.keeps d timeWord))

/-- R56, R252, R29: the master of a cascade pulses POS_SYNC at the next multiple of 1,024 position clocks with the next SYNC_SEQ; HB_IDLE_MS without a
HEARTBEAT make one; READMIT clears the mark of an excluded encoder, which is excluded again only with its DISAGREE flag. -/
def Obligations.PulseHeartbeatReadmit : Prop :=
  ∀ s : State, s.dev.mode ≠ .reset →
    (s.dev.flag R.POS_STATUS_MASTER = true → 2 ≤ s.dev.cascadeSize → let d1 := s.start.advance ((s.dev.time / 1024 + 1) * 1024)
      ∃ d, exec .posSyncPulse s = .next (s.after d) ∧ d.fld R.POS_SYNC_STATUS_SYNC_SEQ = (d1.fld R.POS_SYNC_STATUS_SYNC_SEQ + 1) % 65536 ∧ Output.posSync ∈ d.out ∧
        d1.time = (s.dev.time / 1024 + 1) * 1024) ∧
    ((s.dev.mode.framed = true ∨ s.dev.mode = .armed) →
      let d1 := s.start.advance (s.dev.recs.hbAt + usCycles (1000 * max (s.dev.live R.BLV_REC_HB_HB_IDLE_MS) 1))
      ∃ d, exec .heartbeatIdle s = .next (s.after d) ∧ d = d1.heartbeat ∧ d.recs.hbAt = d1.time) ∧
    (∀ (e : Fin 4) (v : BitVec 32), 3 ≤ s.dev.mode.code → let d1 := (s.start.noteWord (R.POS_ENC_CFG_ENABLE e).addr).baseWrite 0 (R.POS_ENC_CFG_ENABLE e).addr (v.toNat ||| 0x10000)
      (d1.enc e).excluded = true →
      ∃ d, exec (.readmit e v) s = .next (s.after d) ∧ d.time = d1.time + 1 ∧ ((d.enc e).excluded = true → d.fld (Fld.bit R.POS_FAULT_DISAGREE e) = 1) ∧
        (d.enc e).count = (d1.enc e).count ∧ d1.keeps d timeWord)

/-- R72, R65, R67: an event at a CC input in pulse mode drives the line high and lets it fall after the exposure time; in level mode SET and CLEAR drive the line;
CC1 is a trigger in pulse mode with each event, in level mode with SET, and where CC_CFG fixes its level with each event; at the end of a pulse the falling edge goes out. -/
def Obligations.CcLinesAndPulses : Prop :=
  ∀ s : State, s.dev.mode ≠ .reset →
    (∀ (m c : Fin 4) (x : Taken) (d1 : Dev), let p := 16 + m.val
      s.start.take (0x10 + 4 * m.val + c.val) = (some x, d1) → x.pulse = true → d1.ccMode p c = 0 →
      let d2 := (d1.setCc p c true).updPort p fun y => { y with falls := y.falls ++ [(c.val, d1.time + d1.exposureCycles p)] }
      (c.val ≠ 0 → exec (.clgCc m c) s = .next (s.after d2)) ∧
      (c.val = 0 → exec (.clgCc m c) s = .next (s.after (if d2.portUp p = true then d2.queueTrig p x.floor (some (0x10 + 4 * m.val + c.val)) else d2.trigSeen p)))) ∧
    (∀ (m c : Fin 4) (x : Taken) (d1 : Dev), let p := 16 + m.val
      s.start.take (0x10 + 4 * m.val + c.val) = (some x, d1) → d1.ccMode p c = 1 → x.level ≠ .pulse →
      let d2 := d1.setCc p c (x.level = .set)
      (c.val ≠ 0 ∨ x.level = .clear → exec (.clgCc m c) s = .next (s.after d2)) ∧
      (c.val = 0 → x.level = .set → exec (.clgCc m c) s = .next (s.after (if d2.portUp p = true then d2.queueTrig p x.floor none else d2.trigSeen p)))) ∧
    (∀ (m c : Fin 4) (x : Taken) (d1 : Dev), let p := 16 + m.val
      s.start.take (0x10 + 4 * m.val + c.val) = (some x, d1) → x.pulse = true → 2 ≤ d1.ccMode p c →
      (c.val ≠ 0 → exec (.clgCc m c) s = .next (s.after d1)) ∧
      (c.val = 0 → exec (.clgCc m c) s = .next (s.after (if d1.portUp p = true then d1.queueTrig p x.floor none else d1.trigSeen p)))) ∧
    (∀ (p : Fin 20) (f : Nat × Nat) (t : Nat), earliest ((s.dev.port p).falls.map Prod.snd) = some t → ((s.dev.port p).falls.find? fun f => f.2 = t) = some f →
      let d1 := s.start.advance t
      (p.val < 16 → ∃ d, exec (.triggerPulseEnd p) s = .next (s.after d) ∧ d.out = d1.out ++ [.pulse p false] ∧ (d.port p).falls = (d1.port p).falls.erase f ∧
        d1.keeps d fun _ => False) ∧
      (16 ≤ p.val → d1.ccMode p f.1 ≠ 3 → (((d1.port p).falls.erase f).any fun g => decide (g.1 = f.1)) = false → ∃ d, exec (.triggerPulseEnd p) s = .next (s.after d) ∧
        (d.port p).falls = (d1.port p).falls.erase f ∧ (f.1 < 4 → bitOf (d.port p).cc f.1 = false) ∧ d1.keeps d fun _ => False))

/-- R64, R65, R67, R68, R93, R296: a trigger that reaches a port that runs starts a pulse and is queued with its time, the epoch and the next field, after the
triggers older than LAT_MAX have been dropped, each a missed line; with 64 waiting it is a missed line itself, and an overrun of the input it came by; an enabled
port that does not run notes since when it has been out.
R39, R66: the stamp of the oldest unstamped trigger is fixed, for the trigger itself while no line waits, and for the line that waits first. -/
def Obligations.CameraTrigger : Prop :=
  ((∀ (s : State) (p : Fin 16) (x : Taken) (d1 : Dev), s.dev.mode ≠ .reset → s.start.take p = (some x, d1) → x.pulse = true →
    (d1.portUp p = true → exec (.camTrig p) s = .next (s.after
      (((d1.emit (.pulse p true)).updPort p fun y => { y with falls := y.falls ++ [(0, d1.time + d1.exposureCycles p)] }).queueTrig p x.floor (some p.val)))) ∧
    (d1.portUp p = false → d1.lflag (portEnable p) = true → ∃ d, exec (.camTrig p) s = .next (s.after d) ∧ (d.port p).outSince = some ((d1.port p).outSince.getD d1.time) ∧
      (d.port p).trigs = (d1.port p).trigs ∧ d.out = d1.out ∧ d1.keeps d fun _ => False)) ∧
  ∀ (d : Dev) (p : Fin 20) (floor : Bool) (input : Option Nat), (∀ i, input = some i → i < 256) →
    let live := (d.port p).trigs.filter fun t => ageClass t d.time ≠ .gt
    let old := (d.port p).trigs.length - live.length
    let count := portFld R.CAM_ERR_CNT0_MISSED R.CLG_ERR_CNT0_MISSED p
    let e0 := (d.dropExpired p).trigSeen p
    let e := d.queueTrig p floor input
    (e0.port p).trigs = live ∧ e0.fld count = min (d.fld count + old) 65535 ∧ (old = 0 → d.keeps e0 fun _ => False) ∧
    (e.port p).fieldNext = (e0.nextField p + 1) % e0.fieldsOf p ∧ e.out = d.out ∧
    (live.length < 64 → (e.port p).trigs = live ++
      [{ t := d.time, floor := floor, epoch := e0.fld R.GLB_EPOCH, field := e0.nextField p, framed := d.mode.framed, cfg := e0.portCfg p, form := e0.mdForm }] ∧ e0.keeps e fun _ => False) ∧
    (64 ≤ live.length → (e.port p).trigs = live ∧ e.fld count = min (d.fld count + old + 1) 65535 ∧
      ∀ i, input = some i → e.fld (R.PLZ_IN_STATUS_OVERRUN i) = 1 ∧ e.fld R.PLZ_LAST_ERR = 0xA006)) ∧
  (∀ (s : State) (p : Fin 20) (t : Trig), s.dev.mode ≠ .reset → (s.dev.port p).unstamped = some t →
    let d1 := s.start.advance (s.dev.stampDue (t.t + t.cfg.mid))
    ((d1.port p).held = [] → ∃ d, exec (.exposureStamp p) s = .next (s.after d) ∧
      (d.port p).trigs = (d1.port p).trigs.map (fun y => if y = t then { y with stamp := some (d1.stampAt t.form (t.t + t.cfg.mid)) } else y) ∧ d1.keeps d fun _ => False) ∧
    (∀ h rest, (d1.port p).held = h :: rest → h.trig = t →
      exec (.exposureStamp p) s = .next (s.after ((d1.setPort p { d1.port p with held := rest }).deliver p h (d1.stampAt t.form (t.t + t.cfg.mid))))))

/-- R67, R87, R99: a line at a port that runs is a LAND_OVF where the elastic store is full, an EXTRA line where no trigger of the right age waits, and goes
on with its trigger otherwise; its length is then fitted to WIDTH (R79).
R80, R81: FVAL from the camera opens an acquisition frame with the next ACQ_FRAME, or closes it; a frame closed with fewer lines than ACQ_LINES is short. -/
def Obligations.CameraLine : Prop :=
  ((∀ (s : State) (p : Fin 20) (at_ : Nat) (planes : List (List Nat)), s.dev.mode ≠ .reset →
    let d1 := s.start.advance at_
    d1.portUp p = true →
    (∃ d, exec (.camLine p at_ planes true) s = .next (s.after d) ∧ d.fld (portFld R.CAM_EVENTS_LAND_OVF R.CLG_EVENTS_LAND_OVF p) = 1 ∧
      d.fld (portLastErr p) = 0x400E ∧ d.ports = d1.ports) ∧
    (∀ rest, matchTrig d1.time (d1.port p).trigs = (none, rest, 0) → ∃ d, exec (.camLine p at_ planes false) s = .next (s.after d) ∧
      d.fld (portFld R.CAM_EVENTS_EXTRA_LINE R.CLG_EVENTS_EXTRA_LINE p) = 1 ∧
      d.fld (portFld R.CAM_ERR_CNT0_EXTRA R.CLG_ERR_CNT0_EXTRA p) = min (d1.fld (portFld R.CAM_ERR_CNT0_EXTRA R.CLG_ERR_CNT0_EXTRA p) + 1) 65535 ∧ (d.port p).trigs = rest) ∧
    (∀ m rest, matchTrig d1.time (d1.port p).trigs = (some m, rest, 0) → p.val < 16 → d1.fvalMode p ≠ 0 → (d1.port p).waitBoundary = false → (d1.port p).acceptFrom ≤ m.t →
      exec (.camLine p at_ planes false) s = .next (s.after ((d1.updPort p fun x => { x with trigs := rest }).acceptLine p m
        ((planes.take (if fmtRgb (d1.pixFmt p) then 3 else 1)).map fun x => x.map fun v => v * 2 ^ fmtShift (d1.pixFmt p) % 65536))))) ∧
  ∀ (width pad : Nat) (pix : List Nat), (fitLine width pad pix).length = width ∧ (∀ i, i < width → (fitLine width pad pix)[i]? = some (pix.getD i pad))) ∧
  (∀ (s : State) (p : Fin 20) (at_ : Nat), s.dev.mode ≠ .reset →
    let d1 := s.start.advance at_
    d1.fvalMode p ≠ 1 → d1.portUp p = true →
    ((d1.port p).acqOpen = false → ∃ d, exec (.acqFrameEdge p true at_) s = .next (s.after d) ∧ (d.port p).acqOpen = true ∧ (d.port p).acqCount = 0 ∧
      (d.port p).acqFrame = ((d1.port p).acqFrame + 1) % 2 ^ 32 ∧ d1.keeps d fun _ => False) ∧
    ((d1.port p).acqOpen = true → ∃ d, exec (.acqFrameEdge p false at_) s = .next (s.after d) ∧ (d.port p).acqOpen = false ∧
      (d1.acqLines p ≠ 0 → (d1.port p).acqCount < d1.acqLines p → d.fld (portFld R.CAM_EVENTS_SHORT_FRAME R.CLG_EVENTS_SHORT_FRAME p) = 1 ∧
        d.fld (portFld R.CAM_ERR_CNT2_FRAME_ERR R.CLG_ERR_CNT2_FRAME_ERR p) = min (d1.fld (portFld R.CAM_ERR_CNT2_FRAME_ERR R.CLG_ERR_CNT2_FRAME_ERR p) + 1) 65535) ∧
      (d1.acqLines p = 0 ∨ d1.acqLines p ≤ (d1.port p).acqCount → d1.keeps d fun _ => False)))

/-- R62, R90, R100: a CAM port goes from DETECT to LINK when its lanes show signal, from LINK to IDENTIFY when they are deskewed, with the first field read, and stays
in LINK with DESKEW_FAIL while the skew is too large, to try again 10 ms later; the wait after the third try and RETRY of an enabled port take it back to DETECT. -/
def Obligations.PortBringUp : Prop :=
  ∀ (s : State) (p : Fin 16), s.dev.mode ≠ .reset →
    let up := fun (d0 d : Dev) (skew : Nat) =>
      (skew ≤ 50 → d.fld (portState p) = 3 ∧ d.fld (R.CAM_GC_CTRL_BUSY p) = 1 ∧ (d.port p).deskewAt = none ∧ (d.port p).idTries = 0 ∧
        d.out = d0.out ++ [.gcCommand p false (Config.idAddr 0) 32 []]) ∧
      (50 < skew → d.fld (portState p) = 2 ∧ d.fld (R.CAM_EVENTS_DESKEW_FAIL p) = 1 ∧ (d.port p).deskewAt = some d0.time)
    (s.dev.fld (portState p) = 1 → s.dev.mappedLanes p ≠ [] → ∃ d, exec (.camLanesSignal p) s = .next (s.after d) ∧ d.fld (portState p) = 2 ∧ d.ports = s.dev.ports ∧
      s.dev.keeps d fun a => a = (R.CAM_STATUS p).addr ∨ ∃ l, l < 64 ∧ a = (R.KSL_LANE_STATUS l).addr) ∧
    (∀ skew : Nat, s.dev.fld (portState p) = 2 →
      (∃ d, exec (.camLinkUp p skew) s = .next (s.after d) ∧ up s.start d skew) ∧
      (∀ t, (s.dev.port p).deskewAt = some t → let d1 := s.start.advance (t + 4000000)
        ∃ d, exec (.deskewRetry p skew) s = .next (s.after d) ∧ up d1 d skew)) ∧
    (∀ t : Nat, (s.dev.port p).idWait = some t → let d1 := s.start.advance (t + 400000000)
      ∃ d, exec (.camIdentifyWaitEnd p) s = .next (s.after d) ∧ d.fld (portState p) = 1 ∧ (d.port p).idTries = 0 ∧ (d.port p).idWait = none ∧
        d1.keeps d fun a => a = (R.CAM_STATUS p).addr ∨ a = (R.CAM_GC_CTRL p).addr) ∧
    (∀ v : BitVec 32, 3 ≤ s.dev.mode.code → let d1 := s.start.baseWrite 0 (R.CAM_CTRL_ENABLE p).addr (v.toNat ||| 0x1000)
      (d1.portDisabled p = true → ∃ d, exec (.camRetry p v) s = .next (s.after d) ∧ d.fld (portLastErr p) = 0x4001 ∧ d1.keeps d (· = (portLastErr p).addr)) ∧
      (d1.portDisabled p = false → d1.fld (portState p) = 6 → ∃ d, exec (.camRetry p v) s = .next (s.after d) ∧ d.fld (portState p) = 1 ∧
        d1.keeps d fun a => a = (R.CAM_STATUS p).addr ∨ a = (R.CAM_GC_CTRL p).addr))

/-- R74, R91, R92, R93: a port whose identity is as expected, or whose clocks are locked, becomes READY and takes its stored trims; another identity is a
MISMATCH; a lost clock that its CONFIG needs ends the port's work, and any lost clock clears its CLK_OK; an enabled port out for 100 ms is missing. -/
def Obligations.PortReadiness : Prop :=
  ∀ s : State, s.dev.mode ≠ .reset →
    (∀ (p : Fin 16) (ident : List Byte), s.dev.fld (portState p) = 3 → (s.dev.port p).idWait = none →
      let ok := idMatches (s.dev.live (R.CAM_ID_MATCH p)) (s.dev.live (R.CAM_EXPECT_CRC p)) (fit 128 ident)
      (ok = true → ∃ d : Dev, exec (.camIdentifyDone p ident) s = .next (s.after (d.pantryPort p)) ∧ d.fld (portState p) = 4 ∧ d.fld (R.CAM_EVENTS_PLUGGED p) = 1 ∧
        ((d.port p).waitBoundary = true ↔ s.dev.mode = .inspect ∨ s.dev.mode = .degraded)) ∧
      (ok = false → ∃ d, exec (.camIdentifyDone p ident) s = .next (s.after d) ∧ d.fld (portState p) = 6 ∧ d.fld (portLastErr p) = 0x400C ∧
        d.fld (R.CAM_EVENTS_MISMATCH p) = 1)) ∧
    (∀ (m : Fin 4) (mhz : Nat), s.dev.fld (R.CLG_STATUS_STATE m) = 1 →
      ∃ d : Dev, exec (.clgClockLocked m mhz) s = .next (s.after (d.pantryPort (16 + m))) ∧ d.fld (R.CLG_STATUS_STATE m) = 2 ∧ d.fld (R.CLG_STATUS_PCLK_MHZ m) = mhz % 256 ∧
        s.dev.keeps d (· = (R.CLG_STATUS m).addr)) ∧
    (∀ (m : Fin 4) (ch : Fin 3), s.dev.fld (R.CLG_STATUS_STATE m) ≠ 0 → s.dev.clgChannels m ≤ ch.val →
      ∃ d : Dev, exec (.clgClockLost m ch) s = .next (s.after d) ∧ d.fld (Fld.bit (R.CLG_STATUS_CLK_OK m) ch) = 0 ∧ d.fld (R.CLG_STATUS_STATE m) = s.dev.fld (R.CLG_STATUS_STATE m) ∧
        s.dev.keeps d (· = (R.CLG_STATUS m).addr)) ∧
    (∀ (m : Fin 4) (ch : Fin 3), s.dev.fld (R.CLG_STATUS_STATE m) ≠ 0 → ch.val < s.dev.clgChannels m →
      ∃ d : Dev, exec (.clgClockLost m ch) s = .next (s.after (if s.dev.portUp (16 + m.val) then d.portLeft (16 + m.val) else d)) ∧ d.fld (R.CLG_STATUS_STATE m) = 1 ∧
        d.fld (R.CLG_EVENTS_CLOCK_LOST m) = 1 ∧ d.fld (portLastErr (16 + m.val)) = 0x4010 ∧ d.fld (Fld.bit (R.CLG_STATUS_CLK_OK m) ch) = 0) ∧
    (∀ (p : Fin 20) (t : Nat), (s.dev.port p).outSince = some t → s.dev.fld (portState p) ≠ streamState p → s.dev.lflag (portEnable p) = true → let d1 := s.start.advance (t + 40000000)
      ∃ d, exec (.roleMissingTimeout p) s = .next (s.after d) ∧ (d.port p).missing = true ∧ d1.keeps d (· = R.GLB_MISSING_ROLES.addr))

/-- R69, R90, R100: GO starts a transaction of the command channel where none runs, is a collision otherwise, and at a disabled port sends nothing; the answer ends
it with DONE and its status, and so does GC_TIMEOUT. In IDENTIFY an answer lets the next of the four fields be read, and a try without one is followed by the next,
or, after the third, by the wait.
R73: a byte from the serial pair waits in the receive FIFO, or is lost with SER_OVF; a byte written goes to the line while the transmit FIFO has room; a
read takes one byte. -/
def Obligations.CameraControl : Prop :=
  (∀ (s : State) (p : Fin 16), s.dev.mode ≠ .reset →
    let ctrl := fun (a : Nat) => a = (R.CAM_GC_CTRL p).addr
    (∀ v : BitVec 32, 3 ≤ s.dev.mode.code →
      (s.dev.portDisabled p = true → ∃ d, exec (.gcGo p v) s = .next (s.after d) ∧ d.fld (portLastErr p) = 0x4001 ∧ d.out = [] ∧
        s.dev.keeps d fun a => ctrl a ∨ a = (portLastErr p).addr) ∧
      (s.dev.portDisabled p = false → s.dev.flag (R.CAM_GC_CTRL_BUSY p) = false → s.dev.fld (portState p) ≠ 3 → ∃ d, exec (.gcGo p v) s = .next (s.after d) ∧
        d.fld (R.CAM_GC_CTRL_BUSY p) = 1 ∧ d.fld (R.CAM_GC_CTRL_GC_LEN p) = v.toNat % 512 ∧ d.out.length = 1 ∧ s.dev.keeps d ctrl) ∧
      (s.dev.portDisabled p = false → s.dev.flag (R.CAM_GC_CTRL_BUSY p) = true → ∃ d, exec (.gcGo p v) s = .next (s.after d) ∧ d.fld (R.CAM_EVENTS_GC_COLLIDE p) = 1 ∧
        d.fld (portLastErr p) = 0x400B ∧ d.out = [])) ∧
    (s.dev.flag (R.CAM_GC_CTRL_BUSY p) = true → s.dev.fld (portState p) ≠ 3 → ∀ (ok : Bool) (data : List Byte),
      ∃ d, exec (.gcAnswer p ok data) s = .next (s.after d) ∧ d.fld (R.CAM_GC_CTRL_BUSY p) = 0 ∧ d.fld (R.CAM_GC_CTRL_DONE p) = 1 ∧
        d.fld (R.CAM_GC_CTRL_GC_STATUS p) = (if ok then 0 else 0x400A) ∧ (ok = false → d.fld (portLastErr p) = 0x400A)) ∧
    (s.dev.flag (R.CAM_GC_CTRL_BUSY p) = true → s.dev.fld (portState p) = 3 → (s.dev.port p).idWait = none → (s.dev.port p).idRead < 4 → ∀ data : List Byte,
      ∃ d, exec (.gcAnswer p true data) s = .next (s.after d) ∧ (d.port p).idRead = (s.dev.port p).idRead + 1 ∧
        d.out = (if (s.dev.port p).idRead = 3 then [] else [.gcCommand p false (Config.idAddr ((s.dev.port p).idRead + 1)) 32 []]) ∧ s.dev.keeps d fun _ => False) ∧
    (s.dev.flag (R.CAM_GC_CTRL_BUSY p) = true →
      let d1 := s.start.advance ((s.dev.port p).gcSince + usCycles (1000 * max (s.dev.fld (R.CAM_GC_TIMEOUT p)) 1))
      (s.dev.fld (portState p) ≠ 3 → ∃ d, exec (.gcTimeout p) s = .next (s.after d) ∧ d.fld (R.CAM_GC_CTRL_BUSY p) = 0 ∧ d.fld (R.CAM_GC_CTRL_DONE p) = 1 ∧
        d.fld (R.CAM_GC_CTRL_GC_STATUS p) = 0x4009 ∧ d.fld (portLastErr p) = 0x4009 ∧ d1.keeps d fun a => ctrl a ∨ a = (portLastErr p).addr) ∧
      (s.dev.fld (portState p) = 3 → (s.dev.port p).idWait = none → (s.dev.port p).idRead < 4 → ∃ d, exec (.gcTimeout p) s = .next (s.after d) ∧
        (d.port p).idTries = (s.dev.port p).idTries + 1 ∧ (d.port p).idRead = 0 ∧
        (d.port p).idWait = (if 2 ≤ (s.dev.port p).idTries then some d1.time else none) ∧
        d.out = (if 2 ≤ (s.dev.port p).idTries then d1.out else d1.out ++ [.gcCommand p false (Config.idAddr 0) 32 []]) ∧ d1.keeps d fun _ => False))) ∧
  (∀ (s : State) (m : Fin 4), s.dev.mode ≠ .reset → let p := 16 + m.val
    (∀ b : Byte, ((s.dev.port p).rx.length < 256 → ∃ d, exec (.serByteReceive m b) s = .next (s.after d) ∧ (d.port p).rx = (s.dev.port p).rx ++ [b.toNat] ∧
        s.dev.keeps d fun _ => False) ∧
      (256 ≤ (s.dev.port p).rx.length → ∃ d, exec (.serByteReceive m b) s = .next (s.after d) ∧ (d.port p).rx = (s.dev.port p).rx ∧
        d.fld (R.CLG_EVENTS_SER_OVF m) = 1 ∧ s.dev.keeps d fun a => a = (R.CLG_EVENTS_SER_OVF m).addr ∨ chanCount a)) ∧
    (∀ v : BitVec 32, 3 ≤ s.dev.mode.code → (s.dev.txLeft m).length < 256 → ∃ d, exec (.serTxWrite m v) s = .next (s.after d) ∧
      d.out = [.serial p (v.toNat % 256)] ∧ (d.port p).tx.length = (s.dev.txLeft m).length + 1 ∧ s.dev.keeps d fun _ => False) ∧
    (3 ≤ s.dev.mode.code → ∃ d, exec (.serRxRead m) s = .next (s.after d) ∧ (d.port p).rx = (s.dev.port p).rx.drop 1 ∧
      d.out = [.readData (leBytes 4 (s.dev.readWord (R.CLG_SER_RX m).addr)) false] ∧ s.dev.keeps d fun _ => False))

/-- R127: the camera side of a role that runs takes the next chunk of the line whose turn it is; a line with chunks left waits for
its next turn, and a completed one leaves its buffer and goes on to the resampler. -/
def Obligations.CameraSideChunk : Prop :=
  ∀ (s : State) (r : Fin 16) (primary : Bool) (l0 : BusLine), s.dev.mode ≠ .reset → let d1 := s.start
    d1.lflag (R.STR_COR_CTRL_ENABLE r) = true → d1.roleRuns r = true → d1.nextChunk r = some (primary, l0) → let l := d1.chunkOf r l0
    l.chunks = l0.chunks + 1 ∧
    (l.complete = false → ∃ d, exec (.camsideChunk r) s = .next (s.after d) ∧ (primary = true → (d.cor r).prim = l :: (d1.cor r).prim.drop 1) ∧
      (primary = false → (d.cor r).sec = ((d1.cor r).sec.filter fun x => x.stream ≠ l.stream) ++ [l]) ∧ s.dev.keeps d fun _ => False) ∧
    (l.complete = true → ∃ d : Dev, exec (.camsideChunk r) s = .next (s.after ((d.acceptForResample r l).lineOn r l)) ∧
      (primary = true → (d.cor r).prim = (d1.cor r).prim.drop 1) ∧
      (primary = false → (d.ring l.stream).slots = (d1.ring l.stream).slots.drop 1 ∧ (d.cor r).sec = (d1.cor r).sec.filter fun x => x.stream ≠ l.stream) ∧
      s.dev.keeps d fun _ => False)

/-- R102, R117, R118, R129: while the grid advances with a role running, and its output buffer has room, its channel's next output line is computed once a line beyond the position it needs has been
stored, or once LINES_PASSED reaches its deadline; the line of every component joins the role's
output buffer. While the buffer has no room for it nothing is computed. -/
def Obligations.OutputLines : Prop :=
  (∀ (s : State) (r : Fin 16) (c : Fin 4) (ch : OutChan) (need : Int) (area : Bool) (deadline : Nat), s.dev.mode ≠ .reset → let d1 := s.start
    d1.outRuns r = true → d1.outDue r c = some (ch, need, area, deadline) →
    (d1.outPaused r c = true → exec (.outputLineCompute r c) s = .next (s.after d1) ∧ exec (.outputLineDeadline r c) s = .next (s.after d1)) ∧
    (d1.outPaused r c = false → (∃ l ∈ (d1.compStore r c (d1.compsOf ch.stream - 1)).lines, need < l.m) → exec (.outputLineCompute r c) s = .next (s.after (d1.computeLine r c ch deadline))) ∧
    (d1.outPaused r c = false → deadline ≤ d1.pos.linesPassed → exec (.outputLineDeadline r c) s = .next (s.after (d1.computeLine r c ch deadline))) ∧
    ((∀ l ∈ (d1.compStore r c (d1.compsOf ch.stream - 1)).lines, l.m < need) → exec (.outputLineCompute r c) s = .next (s.after d1))) ∧
  ∀ (d : Dev) (r : Nat) (c : Nat) (ch : OutChan) (deadline : Nat), let x := (d.computeLine r c ch deadline).cor r
    tget 0 x.computed c = tget 0 (d.cor r).computed c + 1 ∧ x.bands.length = (d.cor r).bands.length + d.compsOf ch.stream ∧
    (∀ b ∈ (d.cor r).bands, b ∈ x.bands) ∧
    (∀ k, k < d.compsOf ch.stream → let b := d.bandLine r c k (d.nextOut r c) (decide (deadline < d.pos.linesPassed))
      b ∈ x.bands ∧ b.role = r ∧ b.chan = c ∧ b.line = d.nextOut r c ∧ b.outLate = decide (deadline < d.pos.linesPassed))

/-- R138, R141: the Boulevard takes the next band line of a role's output buffer; it keeps one of a row still to be merged, and discards and counts one that
its row has left out; what it may not take yet stays where it is. -/
def Obligations.BandLineTake : Prop :=
  ∀ (s : State) (r : Fin 16), s.dev.mode ≠ .reset → (s.dev.bandTakes r = false → exec (.bandLineTake r) s = .next (s.after s.start)) ∧
    ∀ (b : BandLine) (rest : List BandLine), s.dev.bandTakes r = true → (s.dev.cor r).bands = b :: rest → let d1 := s.start.setCor r { s.dev.cor r with bands := rest }
    (d1.blvVer b.line).enable = true → d1.roleAt r b.line = true →
    (s.dev.blv.nextRow ≤ b.line → ∃ d : Dev, exec (.bandLineTake r) s = .next (s.after (d.stallClear r)) ∧ (d.cor r).bands = rest ∧ d.blv.taken = s.dev.blv.taken ++ [b] ∧
      s.dev.keeps d fun _ => False) ∧
    (b.line < s.dev.blv.nextRow → (d1.blvVer b.line).names b = true → ∃ d : Dev, exec (.bandLineTake r) s = .next (s.after (d.stallClear r)) ∧ (d.cor r).bands = rest ∧
      d.blv = s.dev.blv ∧ d.fld R.BLV_EVENTS_BAND_DISCARD = 1 ∧
      d.fld R.BLV_CNT0_BAND_DISCARD_CNT = min (s.dev.fld R.BLV_CNT0_BAND_DISCARD_CNT + 1) 65535 ∧
      s.dev.keeps d fun a => a = R.BLV_CNT0_BAND_DISCARD_CNT.addr ∨ a = R.BLV_EVENTS_BAND_DISCARD.addr ∨ chanCount a)

/-- R139, R141, R142: a row is merged once its roles have delivered, or its hold has run out; the next row follows it, its windows are to come, and a row with a
role left out, or with columns nobody covers, sets its event. -/
def Obligations.RowMerges : Prop :=
  ∀ (s : State) (expiry : Bool), s.dev.mode ≠ .reset → s.start.mergeDue expiry = true →
    ∃ (d : Dev) (late : List Nat) (x : Stitched), exec (if expiry then .mergeHoldExpiry else .rowMerge) s = .next (s.after (d.rowOn s.dev.prf.settled x)) ∧
      x.line = s.dev.blv.nextRow ∧ late = s.start.nextStitch.1 ∧ x.stored = s.start.nextStitch.2.stored ∧
      d.blv.nextRow = s.dev.blv.nextRow + 1 ∧ d.blv.lateRoles = late ∧ (∀ b ∈ d.blv.taken, x.line < b.line) ∧
      (∃ i, d.blv.rows.getLast? = some i ∧ i.line = x.line ∧ i.epoch = x.epoch ∧ i.flags = x.flags) ∧ (∃ t, d.blv.tagsPending.getLast? = some (x.line, t)) ∧
      (late ≠ [] → d.fld R.BLV_EVENTS_ROLE_LATE = 1) ∧ (x.flags.coverGap = true → d.fld R.BLV_EVENTS_COVER_GAP = 1)

/-- R148, R153, R155, R160, R162: the fence behind a row completes, its tag is written and ATT_HEAD follows; the window of the next row of a role, while the Attic holds
the row and the input buffer of the stripe has room, is released then, at once
where no apron is wanting, and without it once APRON_WAIT has passed since the merge. -/
def Obligations.TagsAndWindows : Prop :=
  ∀ s : State, s.dev.mode ≠ .reset →
    (∀ (l t : Nat) (rest : List (Nat × Nat)), s.dev.blv.tagsPending = (l, t) :: rest →
      (∀ y ∈ s.dev.mem.doors, y.2.grant = none ∧ ∀ q ∈ y.2.waiting, q.who ≠ 1 ∨ q.fences ≠ 0) →
      ∃ d, exec (.fenceComplete 1) s = .next (s.after d) ∧ d.blv.head = l ∧ d.blv.ready = true ∧ d.blv.tagsPending = rest ∧ d.blv.rows = s.dev.blv.rows) ∧
    (∀ (r : Fin 16) (i : RowInfo), let l := tget 0 s.dev.blv.nextWin r
      (s.dev.blv.rows.find? fun x => x.line = l) = some i → s.dev.blv.ready = true → l ≤ s.dev.blv.head →
      (s.start.waitedAt l r = true → s.start.attOldest ≤ l → s.start.inputFull r = false → 64 ≤ s.start.ownStart r → s.start.ownEnd r + 64 < s.start.stitchCols →
        ∃ (d : Dev) (w : WinRow), exec (.windowRelease r) s = .next (s.after d) ∧ tget [] d.windows r = tget [] s.dev.windows r ++ [w] ∧ w.line = l ∧ w.epoch = i.epoch ∧
          tget 0 d.blv.nextWin r = l + 1) ∧
      (let d1 := s.start.advance (i.mergedAt + usCycles (max (s.dev.live R.BLV_APRON_WAIT) 1))
       d1.waitedAt l r = true → d1.attOldest ≤ l → d1.inputFull r = false →
        ∃ (d : Dev) (w : WinRow), exec (.apronWaitExpiry r) s = .next (s.after d) ∧ tget [] d.windows r = tget [] s.dev.windows r ++ [w] ∧ w.line = l ∧
          tget 0 d.blv.nextWin r = l + 1))

/-- R124, R143, R156, R157, R160: an apron row joins its side's store unless it was given up, and replaces the oldest row of a full store; BAR4 reads and writes DRAM from
BAR4_BASE on, and a write into an Attic ring is dropped in INSPECT, DEGRADED and CALIBRATE; a floor row is stitched 1 µs after its first floor
band line, from those that came by then; the background copy of the tap tables ends. -/
def Obligations.ApronsFloorAndBar4 : Prop :=
  ∀ s : State, s.dev.mode ≠ .reset →
    (∀ (side : Fin 2) (p : RxPacket) (x : Dev), s.start.rxPacket side PT.apron p = (x, true) →
      exec (.apronReceive side p) s = .next (s.after (x.apronReceive side p.payload)) ∧
      (∀ a : ApronSide, a.gone (apronOf p.payload).line = false → (a.put (apronOf p.payload)).row (apronOf p.payload).line ≠ none ∧
        (a.put (apronOf p.payload)).rows = (if 256 ≤ a.rows.length then a.rows.drop 1 else a.rows) ++ [apronOf p.payload]) ∧
      (∀ a : ApronSide, a.gone (apronOf p.payload).line = true → a.put (apronOf p.payload) = a) ∧
      (side = 0 → (x.apronReceive side p.payload).blv.west = x.blv.west.put (apronOf p.payload)) ∧
      (side = 1 → (x.apronReceive side p.payload).blv.east = x.blv.east.put (apronOf p.payload))) ∧
    (∀ o n : Nat, 3 ≤ s.dev.mode.code → 0 < n → o + n ≤ 2 ^ s.dev.host.pcie.bar4 →
      let a := s.dev.fld R.BLV_BAR4_BASE / 0x10000 * 0x10000 + o
      exec (.bar4Read o n .clean) s = .next (s.after (s.start.emit (.readData (s.start.dramRead a n) false)))) ∧
    (∀ (o : Nat) (bs : List Byte), 3 ≤ s.dev.mode.code → o + bs.length ≤ 2 ^ s.dev.host.pcie.bar4 →
      let a := s.dev.fld R.BLV_BAR4_BASE / 0x10000 * 0x10000 + o
      let guarded := (s.dev.mode = .inspect ∨ s.dev.mode = .degraded ∨ s.dev.mode = .calibrate) ∧ ∃ i < bs.length, s.start.inAttic (a + i) = true
      (¬ guarded → exec (.bar4Write o bs) s = .next (s.after (s.start.dramWrite a bs))) ∧
      (guarded → exec (.bar4Write o bs) s = .next (s.after (s.start.raise R.BLV_EVENTS_BAR4_WR_DROP)))) ∧
    (∀ t : Nat, s.dev.blv.floorAt = some t → ∃ (d : Dev) (w : List (Nat × List Nat)), exec .floorRowMerge s = .next (s.after (d.galFloor w)) ∧ d.blv.floorBands = (s.dev.blv.floorBands.filter fun b => decide (t + 400 < b.1)) ∧
      d.blv.floorAt = d.blv.floorBands.head?.map Prod.fst ∧ d.time = max s.dev.time (t + 400)) ∧
    (s.dev.cfg.copying = true → ∃ d, exec .tapCopyback s = .next (s.after d) ∧ d.cfg.copying = false)

/-- R218, R222, R257: a row that a chain hands on joins what waits for the labeller, which takes its next row if it can; the chain goes on with the row
after it and has no restart to report. A chain whose backlog is above the SEG_LAG_MAX of its settings skips to their SEG_RESUME behind ATT_HEAD, drops the
rows it holds and the windows of the skipped rows, restarts after them with LAST_ERR 9008h, and the labeller is told of them. -/
def Obligations.SegmentationRows : Prop :=
  ∀ (s : State) (r : Fin 16), s.dev.mode ≠ .reset →
    (∀ (x : Dev) (h : HandRow), s.start.segRow r = (x, some h) → exec (.segRow r) s = .next (s.after x.labelNext) ∧
      tget [] x.handed r = tget [] s.dev.handed r ++ [h] ∧ (x.chain r).next = h.line + 1 ∧ (x.chain r).restart = false) ∧
    (∀ (x : Dev) (f l : Nat), s.start.segSkip r = (x, some (f, l)) → exec (.segSkip r) s = .next (s.after (x.skipNotice r f l)) ∧
      (s.dev.chain r).ver.lagMax < s.start.segBacklog r ∧ l = s.dev.blv.head - (s.dev.chain r).ver.resume ∧ f ≤ l ∧
      (x.chain r).next = l + 1 ∧ (x.chain r).rows = [] ∧ (x.chain r).restart = true ∧ (∀ w ∈ tget [] x.windows r, l < w.line) ∧ x.fld R.BLV_REC_LAST_ERR = 0x9008)

/-- R233, R234, R237: a labelled row whose borders are joined and whose yields have come makes its records; SEAM_WAIT after the row was ready it goes on
without borders that have not come, and SEAM_WAIT after the joining it makes its records without the yields that have not come, with EVENTS.SEAM_PARTIAL.
A row that has made its records is no longer worked on, the next row is the one after it, no yield of it or of a row before it is kept, and MERGE_USED
counts the fragments with an entry in the merge table. -/
def Obligations.RowRecords : Prop :=
  (∀ (s : State) (w : RowWork), s.dev.mode ≠ .reset → s.dev.blob.work = some w →
    (∀ t, w.joinedAt = some t → s.start.labelReady = false → s.start.yieldsIn w = true → let x := s.start.recordRow w
      exec .rowResolve s = .next (s.after (Dev.rowDone (x.1.labelNext, x.2)))) ∧
    (w.joinedAt = none → s.start.bordersIn w.line = false → let x := (s.start.advance (w.readyAt + s.start.seamWait w.line)).progressRow true false
      exec .seamWaitExpiry s = .next (s.after (Dev.rowDone (x.1.labelNext, x.2)))) ∧
    (∀ t, w.joinedAt = some t → s.start.yieldsIn w = false → let x := (s.start.advance (t + s.start.seamWait w.line)).progressRow false true
      exec .yieldWaitExpiry s = .next (s.after (Dev.rowDone (x.1.labelNext, x.2))))) ∧
  (∀ (d : Dev) (w : RowWork), let x := d.recordRow w
    x.1.blob.work = none ∧ x.1.blob.nextRow = w.line + 1 ∧ x.2.line = w.line ∧ (∀ y ∈ x.1.blob.yields, w.line < y.line) ∧
    x.1.fld R.BLV_REC_STATUS_MERGE_USED = (x.1.blob.frags.filter (·.entry)).length % 2 ^ 15) ∧
  (∀ (d : Dev) (w : RowWork) (t : Nat), d.blob.work = some w → w.joinedAt = some t → d.yieldsIn w = false →
    ∃ e : Dev, d.progressRow false true = e.recordRow w ∧ e.fld R.BLV_REC_EVENTS_SEAM_PARTIAL = 1)

/-- A word that no chapter defines: it is no word of a TAP window, no register, and no live copy of one. -/
def Sys2Proof.Machine.undefinedWord (a : Nat) : Prop :=
  inTap a = false ∧ findDesc a = none ∧ (a < 0x8000 ∨ findDesc (a - 0x8000) = none ∨ ∃ r, findDesc (a - 0x8000) = some r ∧ r.rws = 0 ∧ r.comp = 0)

/-- R15: an access to words that no chapter defines reads zero and is ignored by a write, from the host and from the Porch alike, and no error is reported:
nothing of the part changes. The same through the commands that write a register and read one. -/
def Obligations.UndefinedAddresses : Prop :=
  ∀ a size : Nat, (∀ b ∈ accessWords a size, undefinedWord b) →
    (∀ (d : Dev) (porch : Bool), d.barRead porch a size = (0, d)) ∧
    (∀ (d : Dev) (w v : Nat), d.barWrite w a size v = d) ∧
    (∀ (s : State) (b : BitVec 32) (v : BitVec 64), b.toNat = a → s.dev.mode ≠ .reset → exec (.registerWrite false 0 b size v) s = .next (s.after s.start)) ∧
    (∀ (s : State) (b : BitVec 32), b.toNat = a → size = 4 → 3 ≤ s.dev.mode.code →
      exec (.live64LowRead b) s = .next (s.after (s.start.emit (.readData (zeros 4) false))) ∧
      exec (.rstatRead b) s = .next (s.after (s.start.emit (.readData (zeros 4) false))))

/-- R16, R374: a 4-byte read of the low word of a live 64-bit value returns it and latches its high half for the reader, whose next read of the high word
returns the latched half whatever the value has become; a read of a status word of an operation returns it, clears FRESH and latches the value.
R17, R20: a write to a word of the classifier, of self-calibration, of the service block or of a stripe with no shadowed field takes its RW bits from
the value, clears its W1C bits that are written one, but for those that the block has set in the same cycle, and all bits of a counter that clears on a
write, and keeps every other bit; no other word changes. -/
def Obligations.LatchingReads : Prop :=
  (∀ (s : State) (a : BitVec 32), 3 ≤ s.dev.mode.code →
    (∀ x : Dev, live64At a.toNat = true → live64At (a.toNat + 4) = true → a.toNat % 8 = 0 → x = s.start.setLatch false a.toNat (s.start.readWord (a.toNat + 4)) →
      exec (.live64LowRead a) s = .next (s.after (x.emit (.readData (leBytes 4 (s.start.readWord a.toNat)) false))) ∧
      (∀ y : Dev, y.hiHost = x.hiHost → y.barRead false (a.toNat + 4) 4 = (s.start.readWord (a.toNat + 4) % 2 ^ 32, y)) ∧
      x.hiPorch = s.dev.hiPorch ∧ (∀ b, b ≠ a.toNat → x.latch false b = s.start.latch false b)) ∧
    (∀ (k : Fin 7) (x : Dev), a.toNat = 0x42000 + 16 * k → x = s.start.rstatRead k →
      exec (.rstatRead a) s = .next (s.after (x.emit (.readData (leBytes 4 (s.start.readWord a.toNat)) false))) ∧
      (x.rstat k).fresh = false ∧ (x.rstat k).ready = (s.dev.rstat k).ready ∧ (x.rstat k).status = (s.dev.rstat k).status ∧
      ((s.dev.rstat k).ready = true → (x.rstat k).latched = (s.dev.rstat k).value) ∧ (∀ j : Nat, j ≠ k → x.rstat j = s.dev.rstat j))) ∧
  (∀ (s : State) (a v : BitVec 32) (r : RegDesc), 3 ≤ s.dev.mode.code → a.toNat % 4 = 0 →
    (a.toNat / 0x100000 = 6 ∨ a.toNat / 0x100000 = 11 ∨ a.toNat / 0x100000 = 12 ∨ (16 ≤ a.toNat / 0x100000 ∧ a.toNat / 0x100000 ≤ 32)) →
    findDesc a.toNat = some r → r.rws = 0 →
    ∃ w : Word, exec (.counterClearWrite a v) s = .next (s.after (s.start.setReg a.toNat w)) ∧
      exec (.registerWrite false 0 a 4 (v.setWidth 64)) s = .next (s.after (s.start.setReg a.toNat w)) ∧
      ∀ i < 32, w.getLsbD i = (!(r.clr.testBit i) && !(v.getLsbD i && r.w1c.testBit i && !(s.start.setHere a.toNat).testBit i) && (if r.rw.testBit i then v.getLsbD i else (s.dev.reg a.toNat).getLsbD i)))

/-- R330, R331: a Pantry write that is due writes the contents that the last boundary took (those of now in a mode without frames), with the next
PANTRY_SEQ: it erases the copy that is not the current one, clears that copy's VALID bit and takes its trigger; while no boundary has taken contents
it waits. When it ends the copy holds what the flash reads back: where that is valid with its SEQ, PANTRY_WRITTEN is set and the interval to the
next write runs from now; where it is not, PANTRY_FAIL is set with reason 500Dh and the trigger stands again, for a retry an interval later. -/
def Obligations.PantryWrites : Prop :=
  ∀ s : State, s.dev.mode ≠ .reset →
    (s.start.pantryDue = true → s.dev.mode.framed = true → s.dev.pantry.taken = none → exec .pantryWriteStart s = .next (s.after s.start)) ∧
    (∀ c : PantryTaken, s.start.pantryDue = true → (s.dev.mode.framed = true → s.dev.pantry.taken = some c) →
      (s.dev.mode.framed = false → c = s.start.pantryTake (s.dev.pos.linesPassed / s.dev.pos.frameLines * s.dev.pos.frameLines)) →
      ∃ (x : Dev) (t q : Nat), exec .pantryWriteStart s = .next (s.after x) ∧ x.pantry.writing = some (t, q, pantryBytes q s.start.devicePlace c.trimSeq c.line c.secs) ∧
      x.pantry.trigger = false ∧ (flashPantry t, pantrySize, ([] : List Byte)) ∈ x.flashLog ∧
      x.fld R.CAL_STATUS_PANTRY_VALID = (if t = 0 then s.dev.fld R.CAL_STATUS_PANTRY_VALID / 2 * 2 else s.dev.fld R.CAL_STATUS_PANTRY_VALID % 2) % 2 ^ 2 ∧
      (s.dev.fld R.CAL_STATUS_PANTRY_VALID = 0 → t = 0 ∧ q = 1) ∧
      (s.dev.fld R.CAL_STATUS_PANTRY_VALID ≠ 0 → t = 1 - s.dev.fld R.CAL_STATUS_PANTRY_COPY ∧ q = (s.dev.fld R.CAL_PANTRY_SEQ + 1) % 2 ^ 32)) ∧
    (∀ (held : Option (List Byte)) (t q : Nat) (bs : List Byte), s.dev.pantry.writing = some (t, q, bs) → let got := (held.getD bs).take pantrySize
      ∃ x : Dev, exec (.pantryWriteDone held) s = .next (s.after x) ∧ x.pantry.writing = none ∧ (flashPantry t, pantrySize, got) ∈ x.flashLog ∧
        (pantryValid got = true → leAt got 8 4 = leAt bs 8 4 → x.fld R.CAL_EVENTS_PANTRY_WRITTEN = 1 ∧ x.pantry.lastWrite = some s.dev.time ∧ x.pantry.failedAt = none) ∧
        (pantryValid got = false ∨ leAt got 8 4 ≠ leAt bs 8 4 → x.fld R.CAL_EVENTS_PANTRY_FAIL = 1 ∧ x.fld R.CAL_REJECT_REASON = 0x500D ∧ x.pantry.failedAt = some s.dev.time ∧
          x.pantry.trigger = true ∧ x.pantry.lastWrite = s.dev.pantry.lastWrite))

/-- R316, R321, R325 to R327: the decision of a cycle, before COMPUTE_FRAMES have passed, ends the cycle where no unit was accepted, and else sets the
targets and ACCEPT one cycle later; once COMPUTE_FRAMES have passed without a decision the cycle is abandoned with 5009h, by a decision that comes then
too; an external calibration whose sums are complete goes on from BLACK to COMPUTE in its mode 2 and to HOLD in the others, and from WHITE to COMPUTE;
from COMPUTE it goes on to APPLY with its results, or ends with the code of its rejection. -/
def Obligations.CalibrationCycle : Prop :=
  ∀ s : State, s.dev.mode ≠ .reset →
    (∀ (d : Dev) (u : CalUnits), s.start.calReady = true → s.dev.pos.linesPassed < s.start.calDeadline → s.start.calUnits = (d, u) →
      ∃ x : Dev, exec .calDecision s = .next (s.after x) ∧
        (u.count = 0 → x = d.calEnd ∧ x.calPhase = 0 ∧ x.cal = { ext := d.cal.ext }) ∧
        (u.count ≠ 0 → x.cal = ((d.advance (d.time + 1)).calTargets u).cal ∧ x.cal.decided = true ∧ x.fld R.CAL_EVENTS_ACCEPT = 1)) ∧
    (s.start.calPhase = calCompute → s.dev.cal.decided = false → s.start.calDeadline ≤ s.dev.pos.linesPassed →
      ∃ x : Dev, exec .calComputeLate s = .next (s.after x) ∧ (s.start.calReady = true → exec .calDecision s = .next (s.after x)) ∧ x.calPhase = 0 ∧ x.fld R.CAL_REJECT_REASON = 0x5009 ∧ x.fld R.CAL_EVENTS_ABANDONED = 1 ∧ x.cal = { ext := s.dev.cal.ext, endedAt := s.dev.time + 1 }) ∧
    (∀ (c : Nat) (y : Ctx) (t : List (Nat × Ctx)) (e : ExtCal), s.start.opsOf 0x10 = (c, y) :: t → s.dev.cal.ext = some e →
      (s.start.extSums = true → e.full = true → ∃ x : Dev, exec .extCalSumsDone s = .next (s.after x) ∧
        (y.phase = 0 → e.mode = 2 → x.ctx c = (s.start.ctx c).map (fun z => { z with phase := 3 }) ∧ x.cal.ext = some { e with black := e.sums, sums := e.sums }) ∧
        (y.phase = 0 → e.mode ≠ 2 → x.ctx c = (s.start.ctx c).map (fun z => { z with phase := 1, st := 2 }) ∧ x.cal.ext = some { e with black := e.sums, sums := [] }) ∧
        (y.phase ≠ 0 → x.ctx c = (s.start.ctx c).map (fun z => { z with phase := 3 }) ∧ x.cal = s.dev.cal)) ∧
      (y.phase = 3 →
        (∀ e' : ExtCal, s.start.extCompute e = .ok e' → ∃ x : Dev, exec .extCalComputeDone s = .next (s.after x) ∧ x.cal.ext = some e' ∧
          x.ctx c = (s.start.ctx c).map (fun z => { z with phase := 4 })) ∧
        (∀ code : Nat, s.start.extCompute e = .error code → exec .extCalComputeDone s = .next (s.after ((s.start.calCode code 5).extEnd.opEnd c code 0 0)) ∧
          (code = 0x500A ∨ code = 0x500B))))

/-- R266, R267, R279, R280, R283: of the requests that ATT_HEAD covers and that are not fetched, the first in the order of R279 is fetched; the array
takes, of all requests that are ready, the first in that order, and fetches it where that has not been done. A fetch gives the crop, or ends the request as
expired where its rows have left the Attic or cannot be read; a request whose bank has no model ends with reason 4. The result ends the running request by
its class, or a memory error ends it with the bank FAILED. Requests whose deadline HWM has reached are decided by the policy a cycle later, each once. -/
def Obligations.ClassifierRequests : Prop :=
  (∀ s : State, s.dev.mode ≠ .reset → let wait := s.dev.dca.reqs.filter fun r => r.crop.isNone && s.start.reqReady r; let ready := s.dev.dca.reqs.filter s.start.reqReady
    (wait ≠ [] → ∃ r ∈ wait, (∀ q ∈ wait, startsBefore s.dev.pos.hwm q r = false) ∧ exec .dcaCropFetch s = .next (s.after (Dev.decided (s.start.fetchReq r)))) ∧
    (s.dev.dca.reqs.any (·.running) = false → ready ≠ [] → ∃ r ∈ ready, (∀ q ∈ ready, startsBefore s.dev.pos.hwm q r = false) ∧
      (s.start.noModel r.bank = true → exec .dcaRunStart s = .next (s.after (Dev.decided (s.start.endNoResult r 4)))) ∧
      (s.start.noModel r.bank = false → ∀ x : Dev × List (Subject × Verdict), x = (if r.crop.isNone then s.start.fetchReq r else (s.start, [])) →
        exec .dcaRunStart s = .next (s.after (Dev.decided (x.1.updReq r.seq fun q => { q with running := q.crop.isSome }, x.2))))) ∧
    (∀ r : DcaReq, s.dev.dca.reqs.find? (·.running) = some r →
      (∃ x : Dev, exec (.dcaResult true) s = .next (s.after (Dev.decided (x.endNoResult r 5))) ∧ x.fld R.DCA_LAST_ERR = 0xB009 ∧ x.fld R.DCA_EVENTS_MODEL_FAULT = 1 ∧ x.bankModel r.bank = none) ∧
      (∀ (m : DcaModel) (c : List (List Int)), s.start.bankModel r.bank = some m → r.crop = some c → let k := m.classify c
        exec (.dcaResult false) s = .next (s.after (Dev.decided (s.start.endRequest r k.1 k.2.1 k.2.2.1 k.2.2.2 m.id (.byClass k.1)))))) ∧
    (∀ t : Nat, let d1 := s.start.advance t; let due := d1.dca.reqs.filter fun r => !r.decided && match r.deadline with | some t => decide (t ≤ d1.pos.hwm) | none => false
      ∃ x : Dev, exec (.dcaDeadline t) s = .next (s.after (Dev.decided (x, due.map fun r => (r.who, .policy)))) ∧ x.dca.reqs.length = d1.dca.reqs.length ∧
        (due ≠ [] → x.time = d1.time + 1) ∧ ∀ r ∈ x.dca.reqs, ∀ l : Int, r.deadline = some l → l ≤ d1.pos.hwm → r.decided = true)) ∧
  (∀ (d : Dev) (r : DcaReq),
    (d.bankModel r.bank = none → d.fetchReq r = d.endNoResult r 4) ∧
    (∀ m : DcaModel, d.bankModel r.bank = some m →
      (∀ c, d.attOldest ≤ r.top → d.readCrop r m = some c → d.fetchReq r = (d.updReq r.seq fun q => { q with crop := some c }, [])) ∧
      (r.top < d.attOldest ∨ d.readCrop r m = none → ∃ x : Dev, d.fetchReq r = x.endNoResult r 1 ∧ x.dca = d.dca ∧ x.fld R.DCA_LAST_ERR = 0xB007 ∧ x.fld R.DCA_EVENTS_CROP_EXPIRED = 1)))

/-- R275, R276: when all bytes of a model have come, from the host's buffer or as the bytes of the slot after those that the load holds, its bank is
VERIFYING; at the end of the verification the bank is READY with the model and shows its ID, or is FAILED and empty with the code in LAST_ERR; LOAD_DONE is
set and the operation ends with the code, 0 for a model that was accepted. -/
def Obligations.ModelLoads : Prop :=
  ∀ (s : State) (k : Fin 2) (c : Nat) (y : Ctx), s.dev.mode ≠ .reset →
    (∀ host : List Byte, s.start.loadOf k 0 = some (c, y) → ∃ x : Dev, exec (.modelLoadReceived k host) s = .next (s.after x) ∧ x.fld (bankState k) = bankVerifying ∧
      x.ctx c = (s.start.ctx c).map (fun z => { z with phase := 1 }) ∧
      (y.keep.getD 1 0 = 0 → tget [] x.dca.images k = host.take y.cmd.len) ∧ (y.keep.getD 1 0 ≠ 0 → tget [] x.dca.images k = tget [] s.dev.dca.images k ++ s.start.slotBytes y y.next)) ∧
    (s.start.loadOf k 1 = some (c, y) →
      (∀ m : DcaModel, verifyModel (tget [] s.dev.dca.images k) = .ok m → ∃ x : Dev, exec (.modelVerifyDone k) s = .next (s.after (x.opEnd c 0 0 0)) ∧ x.fld (bankState k) = bankReady ∧
        x.bankModel k = some m ∧ x.fld R.DCA_EVENTS_LOAD_DONE = 1 ∧ x.fld (R.DCA_BANK_ID k) = m.id % 2 ^ 32 ∧ tget [] x.dca.images k = []) ∧
      (∀ code : Nat, code < 2 ^ 32 → verifyModel (tget [] s.dev.dca.images k) = .error code → ∃ x : Dev, exec (.modelVerifyDone k) s = .next (s.after (x.opEnd c code 0 0)) ∧
        x.fld (bankState k) = bankFailed ∧ x.bankModel k = none ∧ x.fld R.DCA_EVENTS_LOAD_DONE = 1 ∧ x.fld R.DCA_LAST_ERR = code % 65536))

/-- R256, R376, R377, R379: the record at the head of the FIFO moves to the end of the spool and is stored there; while the spool is full it waits, or, under
KEEP_NEWEST, pushes out the oldest record that is no LOST record, if there is one. A record goes from the spool, or from the FIFO without one, into the
posted buffer and is gone once it is taken; FLUSH_US after its first record a buffer completes. An Attic row that an image subscription is due and that is
gone is skipped with IMG_SKIP, and one that is there goes into the subscription's buffer. An item that fits the first posted buffer is written there behind
what it holds, and the buffer completes once a further item would not fit. -/
def Obligations.RecordsOut : Prop :=
  ∀ s : State, s.dev.mode ≠ .reset →
    (∀ (r : Rec) (rest : List Rec), s.start.spoolCap ≠ 0 → s.dev.recs.fifo = r :: rest →
      (s.start.spoolCap ≤ s.dev.host.spool.length → s.dev.flag R.GLB_HOST_CTRL_SPOOL_POLICY = false ∨ (∀ q ∈ s.dev.host.spool, q.ty = tyLost) → exec .recordSpool s = .next (s.after s.start)) ∧
      (s.dev.host.spool.length < s.start.spoolCap → ∃ x : Dev, exec .recordSpool s = .next (s.after x) ∧ x.host.spool = s.dev.host.spool ++ [r] ∧ x.host.spoolOut = s.dev.host.spoolOut ∧
        (s.start.spoolAddr (s.dev.host.spoolOut + s.dev.host.spool.length), r.bytes.take (s.start.installed - s.start.spoolAddr (s.dev.host.spoolOut + s.dev.host.spool.length))) ∈ x.dramLog) ∧
      (∀ (before after : List Rec) (old : Rec), s.start.spoolCap ≤ s.dev.host.spool.length → s.dev.flag R.GLB_HOST_CTRL_SPOOL_POLICY = true →
        s.dev.host.spool = before ++ old :: after → (∀ q ∈ before, q.ty = tyLost) → old.ty ≠ tyLost → ∃ x : Dev, exec .recordSpool s = .next (s.after x) ∧
        x.host.spool = before ++ after ++ [r] ∧ x.host.spoolOut = s.dev.host.spoolOut + 1)) ∧
    (∀ (c : Nat) (y : Ctx) (t : List (Nat × Ctx)), s.start.subsOf 0x20 = (c, y) :: t →
      (∀ (r : Rec) (rest : List Rec), s.start.spoolCap = 0 → s.dev.recs.fifo = r :: rest →
        let z := s.start.deliverItem c r.bytes 128
        exec .recordDeliver s = .next (s.after (if z.2 then (match z.1.fifoTake with | some q => q.2 | none => z.1) else z.1))) ∧
      (∀ (z : Dev) (bs : List Byte), s.start.spoolCap ≠ 0 → s.dev.host.spool ≠ [] → s.start.dramLoad (s.start.spoolAddr s.dev.host.spoolOut) 128 = (bs, z) →
        exec .recordDeliver s = .next (s.after (if (z.deliverItem c bs 128).2 then (z.deliverItem c bs 128).1.spoolDrop else (z.deliverItem c bs 128).1))) ∧
      (∀ (b : PostBuf) (bs : List PostBuf), y.bufs = b :: bs → b.items ≠ 0 → exec .recordFlush s = .next (s.after ((s.start.advance (b.firstAt + usCycles (y.cmd.specAt 0 4))).bufDone c)))) ∧
    (∀ (c : Fin 4096) (y : Ctx), s.start.ctx c = some y → y.st = 3 → y.cmd.op = 0x22 → s.start.attReady = true → y.next ≤ s.dev.blv.head →
      (s.start.attHolds y.next = false → ∃ x : Dev, exec (.imageRowDeliver c) s = .next (s.after x) ∧ x.fld R.GLB_HOST_EVENTS_IMG_SKIP = 1 ∧ x.ctx c = some { y with next := y.next + y.keep.getD 1 1, lost := y.lost + 1 }) ∧
      (∀ row : List Byte, s.start.attHolds y.next = true → s.start.imageRow (y.keep.getD 0 0) y.next (y.keep.getD 2 0) (y.keep.getD 3 0) y.lost = some row → let x := s.start.deliverItem c row row.length
        exec (.imageRowDeliver c) s = .next (s.after (if x.2 then x.1.updCtx c fun z => { z with next := z.next + y.keep.getD 1 1, lost := 0 } else x.1)))) ∧
    (∀ (d : Dev) (c n : Nat) (item : List Byte) (y : Ctx) (b : PostBuf) (bs : List PostBuf), d.ctx c = some y → y.bufs = b :: bs → b.used + item.length ≤ b.len → d.busMaster y.cmd.fn = true →
      ∃ e : Dev, e.out = d.out ++ [.hostWrite y.cmd.fn (b.addr + b.used) item] ∧ e.regs = d.regs ∧ (d.deliverItem c item n).2 = true ∧
        e.ctx c = some { y with bufs := { b with used := b.used + item.length, items := b.items + 1, firstAt := if b.items = 0 then d.time else b.firstAt } :: bs, done := y.done + 1 } ∧
        (d.deliverItem c item n).1 = if b.len < b.used + item.length + n then e.bufDone c else e)

/-- R303: the event that POS_CAPTURE takes, acting as a pulse, latches MD, HWM, LINES_PASSED and POS.TIME of the cycle in which it arrives, with its address, and
sets VALID of CAP_STATUS, whether or not a capture was held; a write of one to VALID by software clears it and keeps the capture, but in the cycle in which it was set (R20) it stays. -/
def Obligations.PositionCapture : Prop :=
  (∀ (s : State) (x : Taken) (d : Dev), s.dev.mode ≠ .reset → s.start.take 0xF2 = (some x, d) → x.pulse = true →
    ∃ e : Dev, exec .posCapture s = .next (s.after e) ∧ e.fld R.PLZ_CAP_MD = wrapN 64 d.pos.md ∧ e.fld R.PLZ_CAP_HWM = wrapN 64 d.pos.hwm ∧
      e.fld R.PLZ_CAP_LINES = d.pos.linesPassed % 2 ^ 64 ∧ e.fld R.PLZ_CAP_TIME = d.time % 2 ^ 64 ∧ e.fld R.PLZ_CAP_ADDR = x.addr % 2 ^ 32 ∧ e.fld R.PLZ_CAP_STATUS = 1 ∧
      e.pos = d.pos ∧ e.time = d.time) ∧
  (∀ s : State, 3 ≤ s.dev.mode.code →
    ∃ e : Dev, exec (.registerWrite false 0 0x400044 4 1) s = .next (s.after e) ∧
      e.fld R.PLZ_CAP_STATUS = (if (s.start.setHere 0x400044).testBit 0 then s.dev.fld R.PLZ_CAP_STATUS else 0) ∧ e.fld R.PLZ_CAP_MD = s.dev.fld R.PLZ_CAP_MD ∧
      e.fld R.PLZ_CAP_HWM = s.dev.fld R.PLZ_CAP_HWM ∧ e.fld R.PLZ_CAP_LINES = s.dev.fld R.PLZ_CAP_LINES ∧ e.fld R.PLZ_CAP_TIME = s.dev.fld R.PLZ_CAP_TIME ∧
      e.fld R.PLZ_CAP_ADDR = s.dev.fld R.PLZ_CAP_ADDR)

/-- R483 to R487: SHADOW_OPEN gives a FREE group to the host unless it holds an open one; a write of a TAP word claims it for the open group, is a stray one
without a group, and conflicts with another group's claim; SHADOW_SEAL starts the check of an OPEN group, whose end seals it or returns it to OPEN;
SHADOW_ABORT frees a group of the host with its claims. -/
def Obligations.ShadowGroups : Prop :=
  ∀ (s : State) (v : BitVec 32), 3 ≤ s.dev.mode.code → let g := bits v.toNat 0 5
    let busy := (List.range 32).any fun q => s.start.grpOwned 0 q && (decide (s.start.grpState q = grpOpen) || decide (s.start.grpState q = grpSealing))
    (g ≠ 31 → s.start.grpState g = grpFree → busy = false → ∃ x : Dev, exec (.shadowOpen v) s = .next (s.after x) ∧ x.grpState g = grpOpen ∧ x.fld (R.GLB_GROUP_OWNER g) = 0 ∧
      x.fld (R.GLB_GROUP_WORDS g) = 0 ∧ s.start.keeps x fun a => a = (R.GLB_GROUP g).addr) ∧
    (g = 31 ∨ s.start.grpState g ≠ grpFree ∨ busy = true → exec (.shadowOpen v) s = .next (s.after (s.start.glbErr 0x8001))) ∧
    (∀ a : BitVec 32, a.toNat % 4 = 0 → inTap a.toNat = true → v.toNat &&& tapMask a.toNat ≠ s.start.shadowWord a.toNat →
      (s.start.openGroup 0 = none → exec (.shadowWrite a v) s = .next (s.after (s.start.glbEvent R.GLB_EVENTS_STRAY_WRITE 0x8015))) ∧
      (∀ q : Nat, s.start.openGroup 0 = some q → (tget 0 s.dev.cfg.claims a.toNat = 0 ∨ tget 0 s.dev.cfg.claims a.toNat = q + 1) →
        ∃ x : Dev, exec (.shadowWrite a v) s = .next (s.after x) ∧ x.shadowWord a.toNat = v.toNat &&& tapMask a.toNat ∧ tget 0 x.cfg.claims a.toNat = q + 1 ∧ x.tapsLive = s.dev.tapsLive) ∧
      (∀ q : Nat, s.start.openGroup 0 = some q → tget 0 s.dev.cfg.claims a.toNat ≠ 0 → tget 0 s.dev.cfg.claims a.toNat ≠ q + 1 →
        exec (.shadowWrite a v) s = .next (s.after (s.start.glbEvent R.GLB_EVENTS_CLAIM_CONFLICT 0x8003)))) ∧
    (s.start.grpOwned 0 g = true → s.start.grpState g = grpOpen → ∃ x : Dev, exec (.shadowSeal v) s = .next (s.after x) ∧ x.grpState g = grpSealing ∧ x.cfg.sealR.ready = false ∧
      x.cfg.sealGroup = g ∧ x.cfg.claims = s.dev.cfg.claims) ∧
    (s.start.grpOwned 0 g = false ∨ s.start.grpState g ≠ grpOpen → ∃ x : Dev, exec (.shadowSeal v) s = .next (s.after x) ∧ x.fld R.GLB_LAST_ERR = 0x8002 ∧ x.cfg.sealR.ready = true ∧
      x.cfg.sealR.status = 0x8002 ∧ x.cfg.claims = s.dev.cfg.claims) ∧
    (s.start.grpOwned 0 g = true → s.start.grpState g = grpOpen ∨ s.start.grpState g = grpSealed → ∃ x : Dev, exec (.shadowAbort v) s = .next (s.after x) ∧ x.grpState g = grpFree ∧
      ∀ c ∈ x.cfg.claims, c.2 ≠ g + 1) ∧
    (∀ k : Fin 32, k.val ≠ 31 → s.start.grpState k = grpSealing → ∃ x : Dev, exec (.sealCheckDone k) s = .next (s.after x) ∧ x.cfg.sealR.ready = true ∧ x.cfg.sealGroup = k ∧
      ((s.start.sealCheck k).2 = none → x.grpState k = grpSealed ∧ x.cfg.sealR.status = 0) ∧
      (∀ code, (s.start.sealCheck k).2 = some code → x.grpState k = grpOpen ∧ x.cfg.sealR.status = code ∧ x.fld R.GLB_EVENTS_SEAL_REFUSED = 1))

/-- R466 to R468, R488: a request for a mode that the live mode does not allow ends with 0x800E, one while another waits with 0x800F, and one that is taken
applies at once but for INSPECT and CALIBRATE; a commit request asks for the next boundary or, with AT, for the one of COMMIT_INDEX; DISCOVER ends in ARMED
a cycle after the part is placed, its ports are ready and the position is; at DISCOVER_TIMEOUT DISCOVER_LATE is set once, a part that is not placed reports
8016h, and one that is ends DISCOVER where ALLOW_PARTIAL is set, with the position among the missing parts where it is not ready. -/
def Obligations.ModeAndCommitRequests : Prop :=
  ∀ s : State, 3 ≤ s.dev.mode.code →
    (∀ v : BitVec 32, let t := bits v.toNat 0 4
      ((∀ m, modeOf t = some m → s.dev.mode.mayRequest m = false) → ∃ x : Dev, exec (.modeReqWrite v) s = .next (s.after x) ∧ x.mode = s.dev.mode ∧ x.fld R.GLB_LAST_ERR = 0x800E ∧
        x.cfg.modeR.status = 0x800E ∧ x.cfg.modeReq = s.dev.cfg.modeReq) ∧
      (∀ m, modeOf t = some m → s.dev.mode.mayRequest m = true → s.dev.cfg.modeReq = none → m ≠ .inspect → m ≠ .calibrate →
        ∃ x : Dev, exec (.modeReqWrite v) s = .next (s.after (x.modeApply m)) ∧ x.cfg.modeReq = some (t, .reg) ∧ x.fld R.GLB_MODE_PENDING = t ∧ x.mode = s.dev.mode) ∧
      (∀ m, modeOf t = some m → s.dev.mode.mayRequest m = true → s.dev.cfg.modeReq = none → m = .calibrate →
        ∃ x : Dev, exec (.modeReqWrite v) s = .next (s.after x) ∧ x.cfg.modeReq = some (t, .reg) ∧ x.fld R.GLB_MODE_PENDING = t ∧ x.mode = s.dev.mode) ∧
      (∀ m, modeOf t = some m → s.dev.mode.mayRequest m = true → s.dev.cfg.modeReq.isSome = true → s.dev.mode ≠ .armed →
        ∃ x : Dev, exec (.modeReqWrite v) s = .next (s.after x) ∧ x.fld R.GLB_LAST_ERR = 0x800F ∧ x.cfg.modeR.status = 0x800F ∧ x.cfg.modeReq = s.dev.cfg.modeReq ∧ x.mode = s.dev.mode)) ∧
    (∀ v : BitVec 32, let d := s.start.commitClash
      (bitOf v.toNat 0 = false → exec (.commitReqWrite v) s = .next (s.after (d.requestNext .reg 0))) ∧
      (bitOf v.toNat 0 = true → exec (.commitReqWrite v) s = .next (s.after (d.requestAt (s.dev.fld R.GLB_COMMIT_INDEX) .reg none)))) ∧
    (s.dev.mode = .discover → s.dev.flag R.KSL_CASCADE_READY = true → s.start.placed = true → s.start.portsWaited = [] → s.start.posReady = true →
      exec .discoverReady s = .next (s.after (s.start.advance (s.dev.time + 1)).enterArmed)) ∧
    (s.dev.mode = .discover → s.dev.cfg.late = false → ∃ x : Dev, x.cfg.late = true ∧ x.fld R.GLB_EVENTS_DISCOVER_LATE = 1 ∧ x.mode = .discover ∧
      (x.placed = true → x.lflag R.GLB_MODE_CFG_ALLOW_PARTIAL = false → exec .discoverTimeout s = .next (s.after x)) ∧
      (x.placed = false → exec .discoverTimeout s = .next (s.after (x.glbEvent R.GLB_EVENTS_POSITION_MISMATCH 0x8016))) ∧
      (x.placed = true → x.lflag R.GLB_MODE_CFG_ALLOW_PARTIAL = true → ∃ y : Dev, exec .discoverTimeout s = .next (s.after y.enterArmed) ∧ (y.posReady = false → y.fld (Fld.bit R.GLB_MISSING_CAUSE (if y.isSlave then 1 else 0)) = 1)))

/-- R287, R299, R301, R302: a write of SW_PULSE, SW_SET or SW_CLEAR makes events of its kind on the SW producers by their bits, and one with bit n alone fires
SWn; a level that holds for FILTER cycles is the level that a pin receives from then on, and no other pin's; an event at GPOp sets, clears or toggles a pin
in LEVEL mode and puts a pulse in line, DELAY later, in PULSE mode, with an overrun when four wait; the pulse that is due first rises and runs for PULSE, and
the one that ends first ends; START starts a timer for PERIOD, or is an overrun while it runs without RETRIGGER; STOP ends its count without an event; at its
expiry TMRn fires and the timer restarts under REPEAT, and stops without it. -/
def Obligations.PinsAndTimers : Prop :=
  (∀ (s : State) (m : BitVec 16), 3 ≤ s.dev.mode.code → exec (.swPulse m) s = .next (s.after (s.start.swEvents m .pulse)) ∧
    exec (.swSet m) s = .next (s.after (s.start.swEvents m .set)) ∧ exec (.swClear m) s = .next (s.after (s.start.swEvents m .clear))) ∧
  (∀ (d : Dev) (k : EvKind) (n : Fin 16), d.swEvents (BitVec.twoPow 16 n) k = d.fire (P.sw n) k ∧ d.swEvents 0 k = d) ∧
  (∀ (s : State) (p : Fin 32) (b : Bool) (t u : Nat), s.dev.mode ≠ .reset → min (s.dev.live (R.PLZ_GPIO_CFG_FILTER p)) 100 ≤ u →
    ∃ x : Dev, exec (.gpioEdge p b t u) s = .next (s.after x) ∧ (x.pin p).ext = b ∧ x.time = (s.start.advance (t + min (s.dev.live (R.PLZ_GPIO_CFG_FILTER p)) 100)).time ∧
      ∀ q : Nat, q ≠ p → x.pin q = (s.start.advance (t + min (s.dev.live (R.PLZ_GPIO_CFG_FILTER p)) 100)).pin q) ∧
  (∀ (s : State) (p : Fin 32), s.dev.mode ≠ .reset →
    (∀ (e : Taken) (d : Dev), s.start.take (0x20 + p) = (some e, d) →
      (d.live (R.PLZ_GPIO_CFG_MODE p) = 0 → ∃ x : Dev, exec (.gpo p) s = .next (s.after x) ∧
        (x.pin p).level = (match e.level with | .set => true | .clear => false | .pulse => !(d.pin p).level) ∧ (x.pin p).pend = (d.pin p).pend ∧ x.regs = d.regs) ∧
      (d.live (R.PLZ_GPIO_CFG_MODE p) ≠ 0 → e.pulse = true → (d.pin p).pend.length < 4 → ∃ x : Dev, exec (.gpo p) s = .next (s.after x) ∧
        (x.pin p).pend = (d.pin p).pend ++ [d.time + nsFloor (d.live (R.PLZ_GPIO_DELAY p))] ∧ x.regs = d.regs) ∧
      (d.live (R.PLZ_GPIO_CFG_MODE p) ≠ 0 → e.pulse = true → 4 ≤ (d.pin p).pend.length → exec (.gpo p) s = .next (s.after (d.overrun (0x20 + p))))) ∧
    (∀ t : Nat, earliest (s.start.pin p).pend = some t → ∃ x : Dev, exec (.gpoPulseRise p) s = .next (s.after x) ∧
      (x.pin p).pend = ((s.start.advance t).pin p).pend.erase t ∧ t + pulseCycles ((s.start.advance t).live (R.PLZ_GPIO_PULSE p)) ∈ (x.pin p).run) ∧
    (∀ t : Nat, earliest (s.start.pin p).run = some t → ∃ x : Dev, exec (.gpoPulseEnd p) s = .next (s.after x) ∧ (x.pin p).run = ((s.start.advance t).pin p).run.erase t)) ∧
  (∀ (s : State) (n : Fin 16), s.dev.mode ≠ .reset →
    (∀ (e : Taken) (d : Dev), s.start.take (0x50 + n) = (some e, d) → e.pulse = true → d.pulseDueAt (0x60 + n) d.time = false → (d.timer n).stopAt ≠ d.time + 1 →
      (d.flag (R.PLZ_TMR_STATUS_RUNNING n) = false ∨ d.lflag (R.PLZ_TMR_CFG_RETRIGGER n) = true → ∃ x : Dev, exec (.tmrStart n) s = .next (s.after x) ∧
        (x.timer n).endAt = d.time + d.tmrCycles n ∧ x.fld (R.PLZ_TMR_STATUS_RUNNING n) = 1 ∧ x.fld (R.PLZ_TMR_STATUS_LINEAGE n) = min (e.lineage + 1) 7) ∧
      (d.flag (R.PLZ_TMR_STATUS_RUNNING n) = true → d.lflag (R.PLZ_TMR_CFG_RETRIGGER n) = false → exec (.tmrStart n) s = .next (s.after (d.overrun (0x50 + n))))) ∧
    (∀ (e : Taken) (d : Dev), s.start.take (0x60 + n) = (some e, d) → e.pulse = true → ∃ x : Dev, exec (.tmrStop n) s = .next (s.after x) ∧ x.fld (R.PLZ_TMR_STATUS_RUNNING n) = 0 ∧
      (x.timer n).stopAt = d.time + 1 ∧ x.out = d.out) ∧
    (let t := (s.start.timer n).endAt; let f := (s.start.advance t).fire (P.tmr n) .pulse ((s.start.advance t).fld (R.PLZ_TMR_STATUS_LINEAGE n))
      s.dev.flag (R.PLZ_TMR_STATUS_RUNNING n) = true → s.dev.plz.inflight.any (fun x => decide (x.input = 0x60 + n) && decide (x.due ≤ t) && decide (x.kind ≠ .clear)) = false →
      ∃ x : Dev, exec (.tmrExpiry n) s = .next (s.after x) ∧ (f.lflag (R.PLZ_TMR_CFG_REPEAT n) = true → (x.timer n).endAt = t + f.tmrCycles n ∧ x.regs = f.regs) ∧
        (f.lflag (R.PLZ_TMR_CFG_REPEAT n) = false → x = f.setFld (R.PLZ_TMR_STATUS_RUNNING n) 0)))

/-- R288, R293, R295, R296, R307, R308: a FIRE event that no INHIBIT event meets makes the marker rise with the next LINEAGE unless it is inhibited, and is an
overrun in holdoff; one that meets an INHIBIT event is a clash and acts after it; SET or CLEAR at INHIBIT sets or releases it, a pulse there does nothing; when
an interval or a span ends the output is brought to what is left; at the end of holdoff the rises that waited take place for PULSE; a slot that reaches its
marker opens a pulse or a span, closes one, or is inhibited. The output falls when nothing holds it up, with HOLDOFF from then on, and rises within an
interval that no INHIBIT and no holdoff keeps down. -/
def Obligations.MarkerOutputs : Prop :=
  ∀ s : State, s.dev.mode ≠ .reset →
    (∀ (k : Fin 8) (e : Taken) (d : Dev), s.start.take (0x40 + k) = (some e, d) → e.pulse = true → d.dueAt (0x48 + k) d.time = false → (d.mark k).inhAt ≠ d.time + 1 →
      ((d.mark k).high = true ∨ (d.mark k).holdUntil ≤ d.time →
        ((d.mark k).inhibit = true → exec (.markFire k) s = .next (s.after d)) ∧
        ((d.mark k).inhibit = false → exec (.markFire k) s = .next (s.after ((d.setMark k { d.mark k with endAt := d.time + d.markPulse k }).markUpdate k (e.lineage + 1))))) ∧
      ((d.mark k).high = false → d.time < (d.mark k).holdUntil →
        ((d.mark k).inhibit = true → exec (.markFire k) s = .next (s.after (d.overrun (0x40 + k)))) ∧
        ((d.mark k).inhibit = false → exec (.markFire k) s = .next (s.after ((d.overrun (0x40 + k)).markRise k none (e.lineage + 1)))))) ∧
    (∀ (k : Fin 8) (e : Taken) (d : Dev), s.start.take (0x40 + k) = (some e, d) → e.pulse = true → d.dueAt (0x48 + k) d.time = true →
      let x := (d.markInhibit k).clash (0x40 + k)
      (x.mark k).high = true ∨ (x.mark k).holdUntil ≤ x.time →
        ((x.mark k).inhibit = true → exec (.markFire k) s = .next (s.after x)) ∧
        ((x.mark k).inhibit = false → exec (.markFire k) s = .next (s.after (x.markRise k none (e.lineage + 1))))) ∧
    (∀ (k : Fin 8) (e : Taken) (d : Dev), s.start.take (0x48 + k) = (some e, d) →
      (e.level = .pulse → exec (.markInhibit k) s = .next (s.after d)) ∧
      (e.level ≠ .pulse → exec (.markInhibit k) s = .next (s.after ((d.setMark k { d.mark k with inhibit := decide (e.level = .set), inhAt := d.time + 1 }).markUpdate k)))) ∧
    (∀ (k : Fin 8) (t : Nat), let m := s.start.mark k
      earliest ((if s.dev.time < m.endAt then [m.endAt] else []) ++ (m.spans.filter fun x => x.offFired && decide (s.dev.time < x.closeAt)).map (·.closeAt)) = some t →
      exec (.markPulseEnd k) s = .next (s.after ((s.start.advance t).markUpdate k))) ∧
    (∀ k : Fin 8, (s.start.mark k).high = false → let d := s.start.advance (s.start.mark k).holdUntil; let m := s.start.mark k
      ∃ x : Dev, exec (.markHoldoffEnd k) s = .next (s.after (x.markUpdate k m.waitLin)) ∧ (x.mark k).waitPulse = false ∧ (x.mark k).waitSpans = [] ∧
        (x.mark k).endAt = (if m.waitPulse then d.time + d.markPulse k else m.endAt) ∧ (x.mark k).spans.length = m.spans.length + m.waitSpans.length) ∧
    (∀ (t slot : Nat) (md : Int) (e : MarkSlot), earliest (s.dev.marks.arrivals.map fun x => x.2.1) = some t → s.dev.marks.arrivals.find? (fun x => x.2.1 = t) = some (slot, t, md, e) →
      let d := (({ s.start with marks := { s.dev.marks with arrivals := s.dev.marks.arrivals.erase (slot, t, md, e) } } : Dev).advance t).inhibitFirst e.marker
      (e.off = true → exec .markSlotArrive s = .next (s.after (d.offArrive slot e.marker))) ∧
      (e.off = false → (d.mark e.marker).inhibit = false → e.action % 4 ≠ 2 →
        exec .markSlotArrive s = .next (s.after (((d.bump (R.PLZ_MARK_CNT0_FIRED e.marker)).marked e.marker slot e.who e.target md e.action e.decision).markRise e.marker none 0))) ∧
      (e.off = false → (d.mark e.marker).inhibit = false → e.action % 4 = 2 →
        exec .markSlotArrive s = .next (s.after (((d.bump (R.PLZ_MARK_CNT0_FIRED e.marker)).marked e.marker slot e.who e.target md e.action e.decision).markRise e.marker
          (some { on := slot, off := e.pair.getD slot, offFired := e.pair.isNone, closeAt := 0 }) 0))) ∧
      (e.off = false → (d.mark e.marker).inhibit = true → e.pair = none →
        exec .markSlotArrive s = .next (s.after (((d.bump (R.PLZ_MARK_CNT1_INHIBIT_CNT e.marker)).marked e.marker slot e.who e.target noMd e.action e.decision).markStatus e.marker)))) ∧
    (∀ (d : Dev) (k : Nat), let m := d.mark k
      (m.high = true → m.endAt ≤ d.time → m.spans = [] → ((d.markUpdate k).mark k).high = false ∧ ((d.markUpdate k).mark k).holdUntil = d.time + nsFloor (d.live (R.PLZ_MARK_HOLDOFF k))) ∧
      (m.high = false → d.time < m.endAt → m.inhibit = false → m.holdUntil ≤ d.time → ((d.markUpdate k).mark k).high = true))

/-- R172, R295, R382, R388, R454, R488: a sync request of software, of DEC_SYNC or of the PROFILE_SYNC pin of the master sets L_S, a multiple of 16 at least 16
rows ahead, where the filters run and none is pending, and tells the other devices; an event at an IRQ input whose queue is enabled makes an EVENT entry with
its address and a count of one, or is counted in the one that waits, and is dropped where input or queue is not enabled; an event at DMA_START starts an idle
channel in REGISTER mode, leaves one start pending at a running one, is dropped with an overrun beside that, and is ignored in RING mode; an event at COMMIT
requests a commit, with an overrun while one waits, and clashes with a software request of its cycle. -/
def Obligations.PlazaRequests : Prop :=
  (∀ (s : State) (v : BitVec 32), 3 ≤ s.dev.mode.code → exec (.syncReqWrite v) s = .next (s.after (((s.start.baseWrite 0 0x502000 (v.toNat ||| 0x1000)).syncClash false).syncRequest 3))) ∧
  (∀ s : State, s.dev.mode ≠ .reset →
    (s.dev.isSlave = false → exec .profileSyncPin s = .next (s.after ((s.start.syncClash false).syncRequest 0))) ∧
    (s.dev.isSlave = true → exec .profileSyncPin s = .next (s.after s.start)) ∧
    (∀ (e : Taken) (d : Dev), s.start.take 0xF0 = (some e, d) → e.pulse = true → exec .decSync s = .next (s.after ((d.syncClash true).syncRequest 1))) ∧
    (∀ (n : Fin 64) (e : Taken) (d : Dev), s.start.take (0xB0 + n) = (some e, d) → e.pulse = true → let q := d.fld (R.GLB_IRQ_CFG_IRQ_CQ n)
      (d.flag (R.GLB_IRQ_CFG_ENABLE n) = false ∨ d.flag (R.QUE_CQ_CFG_ENABLE q) = false → exec (.irq n) s = .next (s.after (d.hostRaise R.GLB_HOST_EVENTS_IRQ_DROP))) ∧
      (d.flag (R.GLB_IRQ_CFG_ENABLE n) = true → d.flag (R.QUE_CQ_CFG_ENABLE q) = true → ((d.queue q).waiting.find? fun e => e.source = some n.val) = none →
        ∃ c : CqEntry, exec (.irq n) s = .next (s.after (d.cqPut (some q) c)) ∧ c.result = e.addr % 2 ^ 32 + 2 ^ 32 + n * 2 ^ 48 ∧ c.source = some n.val ∧ c.kind = 2) ∧
      (d.flag (R.GLB_IRQ_CFG_ENABLE n) = true → d.flag (R.QUE_CQ_CFG_ENABLE q) = true → ∀ w, ((d.queue q).waiting.find? fun e => e.source = some n.val) = some w →
        ∃ x : Dev, exec (.irq n) s = .next (s.after x) ∧ (x.queue q).waiting.length = (d.queue q).waiting.length ∧
          ∀ c ∈ (x.queue q).waiting, c.source = some n.val → bits c.result 32 16 = (bits w.result 32 16 + 1) % 65536)) ∧
    (∀ (n : Fin 64) (e : Taken) (d : Dev), s.start.take (0x70 + n) = (some e, d) → e.pulse = true →
      (d.fld (R.DMA_CH_CFG_MODE n) = 2 → exec (.dmaStart n) s = .next (s.after (d.raise R.DMA_EVENTS_START_IGNORED))) ∧
      (d.fld (R.DMA_CH_CFG_MODE n) = 1 → d.dmaState n = 0 → exec (.dmaStart n) s = .next (s.after (d.dmaRegister n (e.lineage + 1)))) ∧
      (d.fld (R.DMA_CH_CFG_MODE n) = 1 → d.dmaState n = 1 → (d.chan n).startPending = false → ∃ x : Dev, exec (.dmaStart n) s = .next (s.after x) ∧
        x.fld (R.DMA_CH_STATUS_PENDING n) = 1 ∧ (x.chan n).startPending = true ∧ (x.chan n).pendLineage = e.lineage + 1) ∧
      (d.fld (R.DMA_CH_CFG_MODE n) = 1 → d.dmaState n = 1 → (d.chan n).startPending = true →
        exec (.dmaStart n) s = .next (s.after ((d.overrun (0x70 + n)).raise R.DMA_EVENTS_START_DROP)))) ∧
    (∀ (e : Taken) (d : Dev), s.start.take 0xF1 = (some e, d) → e.pulse = true → let x : Dev := { d with plz := { d.plz with comAt := d.time + 1 } }
      (d.plz.softAt ≠ d.time + 1 → d.cfg.next = none → exec .commitInput s = .next (s.after (x.requestNext .reg (min (e.lineage + 1) 7)))) ∧
      (d.plz.softAt ≠ d.time + 1 → d.cfg.next.isSome = true → exec .commitInput s = .next (s.after (x.overrun 0xF1))) ∧
      (d.plz.softAt = d.time + 1 → exec .commitInput s = .next (s.after (x.clash 0xF1))))) ∧
  (∀ (d : Dev) (src : Nat), d.mode.filters = true → d.isSlave = false → d.prf.syncRow = none → d.syncRequest src = (d.setSync d.syncTarget).broadcast PT.sync (leBytes 8 d.syncTarget ++ zeros 8) ∧
    (d.setSync d.syncTarget).prf.syncRow = some d.syncTarget ∧ d.pos.linesPassed + 16 ≤ d.syncTarget ∧ d.syncTarget % 16 = 0)

/-- R344, R345, R346, R348, R350: UPDATE while the display shows or a preview composes waits for the next vertical blank, and is taken at once otherwise; a sink is
plugged, which begins its training, and unplugged; an IRQ_HPD pulse of a sink that has lost the link begins training anew; training ends at the first candidate
at which the sink trains, or fails and is tried again a second later; a vertical blank gives the host its preview frame, where it has one; an underrun shows its
colour and is counted once a frame. -/
def Obligations.GalleryAndDisplay : Prop :=
  (∀ (s : State) (v : BitVec 32), 3 ≤ s.dev.mode.code → let x := (s.start.plainWrite 0x700000 (v.toNat ||| 4)).galCheck
    (x.galTiming = true ∨ x.composing = true → ∃ y : Dev, exec (.galUpdate v) s = .next (s.after y) ∧ y.fld R.GAL_STATUS_UPDATE_PENDING = 1 ∧ y.gal.updateAt = some x.time) ∧
    (x.galTiming = false → x.composing = false → exec (.galUpdate v) s = .next (s.after x.galTake))) ∧
  (∀ s : State, s.dev.mode ≠ .reset →
    (∀ (l r : Nat) (edid : List Byte), s.start.galRuns = true → s.dev.flag R.GAL_STATUS_HPD = false → ∃ x : Dev, exec (.dpPlug l r edid) s = .next (s.after (x.plugSequence l r edid)) ∧
      x.fld R.GAL_STATUS_HPD = 1 ∧ x.fld R.GAL_EVENTS_PLUGGED = 1 ∧ x.gal = s.dev.gal) ∧
    (s.dev.flag R.GAL_STATUS_HPD = true → ∃ x : Dev, exec .dpUnplug s = .next (s.after x) ∧ x.fld R.GAL_STATUS_HPD = 0 ∧ x.fld R.GAL_STATUS_LINK = 0 ∧ x.fld R.GAL_STATUS_LANES = 0 ∧
      x.fld R.GAL_STATUS_RATE = 0 ∧ x.fld R.GAL_EVENTS_UNPLUGGED = 1 ∧ s.start.keeps x fun a => a = R.GAL_STATUS.addr ∨ a = R.GAL_EVENTS_UNPLUGGED.addr ∨ chanCount a) ∧
    (s.start.galRuns = true → (∃ x : Dev, exec (.irqHpd true) s = .next (s.after x) ∧ x.fld R.GAL_EVENTS_IRQ_HPD = 1 ∧ (s.start.galVideo = true → x.fld R.GAL_STATUS_LINK = 2)) ∧
      (∃ x : Dev, exec (.irqHpd false) s = .next (s.after x) ∧ x.fld R.GAL_EVENTS_IRQ_HPD = 1 ∧ x.fld R.GAL_STATUS_LINK = s.dev.fld R.GAL_STATUS_LINK)) ∧
    (∀ good : List (Nat × Nat), s.dev.fld R.GAL_STATUS_LINK = 2 →
      (∀ l r : Nat, s.start.linkCandidates.find? (fun x => good.contains x) = some (l, r) → ∃ x : Dev, exec (.dpTrainDone good) s = .next (s.after x) ∧ (l, r) ∈ good ∧ (l, r) ∈ s.start.linkCandidates ∧
        x.fld R.GAL_STATUS_LINK = 3 ∧ x.gal.frames = (if s.dev.gal.retrain then s.dev.gal.frames else 0)) ∧
      (s.start.linkCandidates.find? (fun x => good.contains x) = none → ∃ x : Dev, exec (.dpTrainDone good) s = .next (s.after x) ∧ x.fld R.GAL_STATUS_LINK = 4 ∧ x.gal.failAt = s.dev.time ∧
        x.fld R.GAL_EVENTS_TRAIN_FAIL = 1)) ∧
    (∀ (l r : Nat) (edid : List Byte), s.dev.fld R.GAL_STATUS_LINK = 4 →
      exec (.dpTrainRetry l r edid) s = .next (s.after ((s.start.advance (s.dev.gal.failAt + 400000000)).plugSequence l r edid))) ∧
    (∀ (x : Dev) (f : Option (List Byte)), s.start.vblank s.start.composing = (x, f) → exec .vblankStart s = .next (s.after (match f with | some b => x.previewOut b | none => x))) ∧
    (s.start.galVideo = true → ∃ x : Dev, exec .underrun s = .next (s.after x) ∧ x.gal.underrun = true ∧ x.fld R.GAL_EVENTS_UNDERRUN = 1 ∧ Output.underrun (s.start.galF R.GAL_UNDERRUN_COLOR) ∈ x.out ∧
      (s.dev.gal.underrun = true → x.fld R.GAL_UNDERRUN_CNT = s.dev.fld R.GAL_UNDERRUN_CNT) ∧
      (s.dev.gal.underrun = false → x.fld R.GAL_UNDERRUN_CNT = min (s.dev.fld R.GAL_UNDERRUN_CNT + 1) (2 ^ 32 - 1))))

/-- R357, R359, R360, R363: a doorbell of an enabled pair sets the submission tail or the completion head, and one out of range or of a queue that is not enabled
halts the queue; a write of SQ_CFG or CQ_CFG reaches the pair from the host and through a VF's view, and one that enables a submission queue takes its size and
its completion queue and empties it; a queue whose turn it is fetches up to eight commands, and the next turn is of the queues after it; an error at a fetch
halts the submission queue; a waiting entry is written as soon as there is room; COAL_US after the first entry that is not signalled its vector is sent. -/
def Obligations.QueuePairs : Prop :=
  ∀ s : State, 3 ≤ s.dev.mode.code →
    (∀ (fn : Fin 64) (n : Fin 16384) (v : BitVec 16) (q : Nat), s.start.pairOf fn n = some q →
      (s.dev.flag (R.QUE_SQ_CFG_ENABLE q) = true → v.toNat < Machine.sizeOf (s.dev.fld (R.QUE_SQ_CFG_SIZE_LOG2 q)) → ∃ x : Dev, exec (.sqDoorbell fn n v) s = .next (s.after x) ∧
        (x.queue q).tail = v.toNat ∧ x.regs = s.dev.regs ∧ ∀ p : Nat, p ≠ q → x.queue p = s.start.queue p) ∧
      (s.dev.flag (R.QUE_SQ_CFG_ENABLE q) = false ∨ Machine.sizeOf (s.dev.fld (R.QUE_SQ_CFG_SIZE_LOG2 q)) ≤ v.toNat → exec (.sqDoorbell fn n v) s = .next (s.after (s.start.sqHalt q 0x100E))) ∧
      (let size := Machine.sizeOf (s.dev.fld (R.QUE_CQ_CFG_SIZE_LOG2 q)); let head := s.dev.fld (R.QUE_CQ_HEAD q)
        s.dev.flag (R.QUE_CQ_CFG_ENABLE q) = true → v.toNat < size → ringDist size head v.toNat ≤ ringDist size head (s.dev.fld (R.QUE_CQ_STATUS_CQ_TAIL q)) →
        ∃ x : Dev, exec (.cqDoorbell fn n v) s = .next (s.after x) ∧ x.fld (R.QUE_CQ_HEAD q) = v.toNat ∧ s.start.keeps x fun a => a = (R.QUE_CQ_HEAD q).addr) ∧
      (s.dev.flag (R.QUE_CQ_CFG_ENABLE q) = false ∨ Machine.sizeOf (s.dev.fld (R.QUE_CQ_CFG_SIZE_LOG2 q)) ≤ v.toNat → exec (.cqDoorbell fn n v) s = .next (s.after (s.start.cqHalt q)))) ∧
    (∀ (n : Fin 16384) (v : BitVec 32), exec (.sqEnableWrite 0 n v) s = .next (s.after (s.start.sqCfgWrite n v.toNat)) ∧ exec (.cqEnableWrite 0 n v) s = .next (s.after (s.start.cqCfgWrite n v.toNat))) ∧
    (∀ (fn : Fin 64) (n : Fin 16384) (v : BitVec 32) (q : Nat), fn ≠ 0 → n.val < 256 → s.start.pairOf fn n = some q →
      exec (.sqEnableWrite fn n v) s = .next (s.after (s.start.sqCfgWrite q v.toNat)) ∧ exec (.cqEnableWrite fn n v) s = .next (s.after (s.start.cqCfgWrite q v.toNat))) ∧
    (∀ (q : Fin 16384) (es : List (List Byte)), 
      (s.start.mayFetch q = true → s.start.fetchTurn q = true → exec (.commandFetch q es) s = .next (s.after ((s.start.setHost fun h => { h with fetchNext := (q + 1) % 16384 }).fetchMany q (es.take 8)))) ∧
      (s.start.mayFetch q = false ∨ s.start.fetchTurn q = false → exec (.commandFetch q es) s = .next (s.after s.start))) ∧
    (∀ q : Fin 16384, s.start.mayFetch q = true → exec (.queueFetchError q) s = .next (s.after (s.start.sqHalt q 0x100F))) ∧
    (∀ (q : Fin 16384) (e : CqEntry) (rest : List CqEntry), (s.start.queue q).waiting = e :: rest → s.start.cqRoom q = true → ∃ x : Dev, (x.queue q).waiting = rest ∧ x.regs = s.dev.regs ∧
      exec (.cqEntryWrite q) s = .next (s.after (if rest = [] then (x.cqWrite q e).setFld (R.QUE_CQ_STATUS_FULL q) 0 else x.cqWrite q e))) ∧
    (∀ q : Fin 16384, (s.start.queue q).unsignalled ≠ 0 → s.dev.fld (R.QUE_CQ_COAL_COAL_US q) ≠ 0 → s.dev.flag (R.QUE_CQ_CFG_IRQ_EN q) = true →
      ∃ x : Dev, exec (.cqCoalExpiry q) s = .next (s.after (x.vector (x.ownerFn q) (x.fld (R.QUE_CQ_CFG_VECTOR q)))) ∧ (x.queue q).unsignalled = 0) ∧
    (∀ (d : Dev) (q v : Nat), bitOf v 0 = true → d.flag (R.QUE_SQ_CFG_ENABLE q) = false → sizeOk (bits v 4 5) = true → let x := d.sqCfgWrite q v
      x.fld (R.QUE_SQ_CFG_ENABLE q) = 1 ∧ x.fld (R.QUE_SQ_CFG_SIZE_LOG2 q) = bits v 4 5 ∧ x.fld (R.QUE_SQ_CFG_CQ_ID q) = bits v 16 14 ∧ (x.queue q).tail = 0)

/-- R354, R355, R356, R384, R386: an unmasked vector sends its pending message once; a function-level reset clears the function's Bus Master Enable, vectors and
table; a reset of the host's side clears those of all functions, and a lost link clears LINK_UP too; clearing Bus Master Enable of a VF touches nothing
else; configuration writes set what they name. -/
def Obligations.PcieFunctions : Prop :=
  ∀ s : State, s.dev.mode ≠ .reset →
    (∀ (fn : Fin 64) (v : Fin 2048), v.val < vectorsOf fn → let k := fn.val * 2048 + v.val
      (k ∉ s.dev.host.pcie.pendingVec → ∃ x : Dev, exec (.msixUnmask fn v) s = .next (s.after x) ∧ k ∈ x.host.pcie.unmasked ∧ x.out = s.start.out ∧ x.regs = s.dev.regs) ∧
      (k ∈ s.dev.host.pcie.pendingVec → fn.val ∉ s.dev.host.pcie.masked → ∃ x : Dev, exec (.msixUnmask fn v) s = .next (s.after x) ∧ k ∈ x.host.pcie.unmasked ∧
        x.host.pcie.pendingVec = s.dev.host.pcie.pendingVec.erase k ∧ x.out.length = 1)) ∧
    (∀ fn : Fin 64, fn.val ≠ 0 → ∃ x : Dev, exec (.vfFlr fn) s = .next (s.after x) ∧ fn.val ∉ x.host.pcie.bme ∧ fn.val ∉ x.host.pcie.masked ∧ (∀ k ∈ x.host.pcie.unmasked, k / 2048 ≠ fn.val) ∧
      (∀ k ∈ x.host.pcie.pendingVec, k / 2048 ≠ fn.val) ∧ (∀ e ∈ x.host.pcie.table, e.1 / 4 / 2048 ≠ fn.val)) ∧
    (∃ x : Dev, exec (.hostReset false) s = .next (s.after x) ∧ x.host.pcie.bme = [] ∧ x.host.pcie.memEnable = false ∧ x.host.pcie.numVfs = 0 ∧ x.host.pcie.unmasked = [] ∧ x.host.pcie.table = [] ∧
      x.fld R.GLB_HOST_EVENTS_LINK_LOST = 1) ∧
    (∃ x : Dev, exec (.hostReset true) s = .next (s.after x) ∧ x.host.pcie.bme = [] ∧ x.host.pcie.memEnable = false ∧ x.host.pcie.numVfs = 0 ∧ x.fld R.GLB_HOST_STATUS_LINK_UP = 0) ∧
    (∀ fn : Fin 64, fn.val ≠ 0 → ∃ x : Dev, exec (.vfBmeClear fn) s = .next (s.after x) ∧ fn.val ∉ x.host.pcie.bme ∧ (∀ g, g ≠ fn.val → (g ∈ x.host.pcie.bme ↔ g ∈ s.dev.host.pcie.bme)) ∧
      x.regs = s.dev.regs ∧ x.host.ctxs = s.dev.host.ctxs) ∧
    (2 ≤ s.dev.mode.code →
      (∀ on : Bool, ∃ x : Dev, exec (.pcieConfigWrite (.memEnable on)) s = .next (s.after x) ∧ x.host.pcie.memEnable = on ∧ x.regs = s.dev.regs) ∧
      (∀ n : Nat, 28 ≤ n → n ≤ 36 → ∃ x : Dev, exec (.pcieConfigWrite (.bar4Size n)) s = .next (s.after x) ∧ x.host.pcie.bar4Next = n ∧ x.host.pcie.bar4 = s.dev.host.pcie.bar4) ∧
      (∀ n : Nat, n < 28 ∨ 36 < n → exec (.pcieConfigWrite (.bar4Size n)) s = .next (s.after s.start)) ∧
      (∀ fn : Fin 64, ∃ x : Dev, exec (.pcieConfigWrite (.busMaster fn)) s = .next (s.after x) ∧ x.busMaster fn = true ∧ ∀ g, s.start.busMaster g = true → x.busMaster g = true) ∧
      (∀ n : Fin 64, s.dev.mode ≠ .recovery → ∃ x : Dev, exec (.pcieConfigWrite (.numVfs n)) s = .next (s.after x) ∧ x.host.pcie.numVfs = n) ∧
      (∀ fn : Fin 64, ∃ x : Dev, exec (.pcieConfigWrite (.functionMask fn true)) s = .next (s.after x) ∧ fn.val ∈ x.host.pcie.masked ∧ x.out = s.start.out))

/-- The device with the host command that starts taken from the queue's fetched commands (R367). -/
def Sys2Proof.Machine.takeCmd (d : Dev) (c : HostCmd) : Dev := d.setHost fun h => { h with fetched := h.fetched.erase c }

/-- The next command of a queue may start: it has its opcode, its function may issue it, and its reserved fields are zero (R360, R366, R367). -/
def Sys2Proof.Machine.mayStart (d : Dev) (q op : Nat) (c : HostCmd) : Prop := d.nextCmd q [op] = some c ∧ (c.fn = 0 ∨ opVf op = true) ∧ c.bad = false

/-- The commands that a queue can start, with their opcodes (R366); DMA_RUN, opcode 0x07, waits for its channel first and is not among them. -/
def Sys2Proof.Machine.hostOps (q : Fin 16384) (blocks : Nat) (data : List Byte) : List (Instr × Nat) :=
  [(.identify q, 0x01), (.commit q, 0x02), (.modeRequest q, 0x03), (.recipeSwitch q, 0x04), (.profileReset q, 0x05), (.cropRead q, 0x06), (.calibrate q, 0x10), (.test q, 0x11), (.atticExport q, 0x12),
   (.replay q, 0x13), (.modelLoad q, 0x14), (.laneRetrain q, 0x15), (.spareRotate q, 0x16), (.suspend q, 0x18), (.resume q, 0x19), (.cancel q blocks data, 0x1A), (.opStatus q, 0x1B),
   (.subscribeRecords q, 0x20), (.subscribePreview q, 0x21), (.subscribeImage q, 0x22), (.subscribeProfile q, 0x23), (.postBuffer q, 0x24), (.unsubscribe q, 0x25)]

/-- R361, R365, R366, R367: a command that does not stand next in its queue does nothing; one that a VF may not issue ends with 0x1003 and one with a reserved
field that is not zero with 0x1002; the final entry of a command names its result, detail, CID and status, and where the completion queue has room
it is written to host memory and the command's context goes free; a silent command, and a QUIET one that succeeds, write none. -/
def Obligations.HostCommandChecks : Prop :=
  (∀ (s : State) (q : Fin 16384) (blocks : Nat) (data : List Byte), s.dev.mode ≠ .reset → ∀ p ∈ Machine.hostOps q blocks data,
    (s.start.nextCmd q [p.2] = none → exec p.1 s = .next (s.after s.start)) ∧
    (∀ c : HostCmd, s.start.nextCmd q [p.2] = some c → c.fn ≠ 0 → opVf p.2 = false → exec p.1 s = .next (s.after ((Machine.takeCmd s.start c).finish c 0x1003 0 0))) ∧
    (∀ c : HostCmd, s.start.nextCmd q [p.2] = some c → (c.fn = 0 ∨ opVf p.2 = true) → c.bad = true → exec p.1 s = .next (s.after ((Machine.takeCmd s.start c).finish c 0x1002 0 0)))) ∧
  (∀ (d : Dev) (c : HostCmd) (status result detail : Nat), (c.silent = true ∨ (c.quiet = true ∧ status = 0)) → let t := d.finish c status result detail
    t.out = d.out ∧ ∀ x, c.ctx = some x → t.ctx x = none) ∧
  (∀ (d : Dev) (c : HostCmd) (result detail : Nat) (q : Nat), c.silent = false → c.quiet = false → d.cqOf c.sq = some q → d.flag (R.QUE_CQ_CFG_ENABLE q) = true →
    (d.queue q).waiting = [] → d.cqRoom q = true → d.flag (R.QUE_CQ_CFG_IRQ_EN q) = false → let t := d.finish c 0 result detail
    t.out = d.out ++ [.hostWrite (d.ownerFn q) (d.fld (R.QUE_CQ_BASE q) / 4096 * 4096 + d.fld (R.QUE_CQ_STATUS_CQ_TAIL q) * 32)
      (leBytes 8 result ++ leBytes 4 detail ++ leBytes 2 c.head ++ leBytes 2 (d.localNum c.sq) ++ leBytes 2 c.cid ++ leBytes 2 0 ++ leBytes 4 (ctxWord c.ctx) ++ zeros 7 ++ leBytes 1 (d.fld (R.QUE_CQ_STATUS_PHASE q) + 2 * 0))] ∧
    (∀ x, c.ctx = some x → t.ctx x = none) ∧ (∀ x, c.ctx ≠ some x → t.ctx x = d.ctx x))

/-- R367 to R369, R375 to R379, R402: the short commands and the subscriptions under the conditions in which each is carried out. -/
def Obligations.ShortCommands : Prop :=
  ∀ (s : State) (q : Fin 16384) (c : HostCmd), s.dev.mode ≠ .reset → let d := Machine.takeCmd s.start c
    (Machine.mayStart s.start q 0x01 c → 4096 ≤ c.len → exec (.identify q) s = .next (s.after ((d.bufWrite c 0 (d.identityPage c.fn s.dev.versionText)).finish c 0 0 0))) ∧
    (Machine.mayStart s.start q 0x02 c → c.argAt 0 1 ≤ 1 → exec (.commit q) s = .next (s.after (d.commitClash.requestCommit (decide (c.argAt 0 1 = 1)) (c.specAt 0 8) c.who))) ∧
    (Machine.mayStart s.start q 0x03 c → exec (.modeRequest q) s = .next (s.after (d.modeRequest (c.argAt 0 1) c.who))) ∧
    (Machine.mayStart s.start q 0x04 c → c.argAt 0 1 ≤ 3 → c.argAt 1 1 ≤ 1 → exec (.recipeSwitch q) s = .next (s.after (d.recipeSwitch (c.argAt 0 1) (decide (c.argAt 1 1 = 1)) (c.specAt 0 8) c.who))) ∧
    (Machine.mayStart s.start q 0x05 c → s.dev.mode.filters = false → ∃ t : Dev, exec (.profileReset q) s = .next (s.after (t.finish c 0 t.syncRow 0)) ∧ t.syncRow = s.dev.fld R.BLV_PRF_SYNC_ROW ∧ t.prf = s.dev.prf) ∧
    (Machine.mayStart s.start q 0x06 c → c.argAt 0 1 ≤ 3 → s.start.layerOn (c.argAt 0 1) = true → 1 ≤ c.specAt 12 2 → c.specAt 12 2 ≤ 32768 → 1 ≤ c.specAt 14 2 → c.specAt 14 2 ≤ 4096 →
      c.specAt 8 4 + c.specAt 12 2 ≤ s.start.stitchCols → c.specAt 12 2 * c.specAt 14 2 * s.start.bpp (c.argAt 0 1) ≤ c.len → let bs := (d.cropRows (c.argAt 0 1) (c.specAt 8 4) (c.specAt 12 2) (c.specAt 14 2) (c.specAt 0 8))
      (bs.length < c.specAt 14 2 → ∃ t : Dev, exec (.cropRead q) s = .next (s.after (t.finish c 0x1010 bs.flatten.length bs.length)) ∧ t.regs = s.dev.regs) ∧
      (c.specAt 14 2 ≤ bs.length → bs.flatten ≠ [] → exec (.cropRead q) s = .next (s.after ((d.bufWrite c 0 bs.flatten).finish c 0 bs.flatten.length 0)))) ∧
    (Machine.mayStart s.start q 0x07 c → c.argAt 0 1 < 64 → c.argAt 1 1 ≤ 1 → c.argAt 2 6 = 0 → leAt c.spec 8 24 = 0 → s.dev.fld (R.DMA_CH_CFG_MODE (c.argAt 0 1)) = 2 →
      (s.dev.fld (R.DMA_CH_CFG_BIND_SQ (c.argAt 0 1)) = q → s.start.dmaState (c.argAt 0 1) = 0 → c.specAt 0 8 % 64 = 0 →
        exec (.dmaRun q) s = .next (s.after (d.dmaBegin (c.argAt 0 1) (c.specAt 0 8) (c.argAt 1 1 = 1) c.ctx 0))) ∧
      (c.waits = false → s.dev.fld (R.DMA_CH_CFG_BIND_SQ (c.argAt 0 1)) ≠ q → exec (.dmaRun q) s = .next (s.after ((d.dmaCode (c.argAt 0 1) 0x200A).finish c 0x200A 0 0))) ∧
      (c.waits = false → c.fn = 0 → s.dev.fld (R.DMA_CH_CFG_BIND_SQ (c.argAt 0 1)) = q → s.start.dmaState (c.argAt 0 1) = 1 → c.specAt 0 8 % 64 = 0 →
        exec (.dmaRun q) s = .next (s.after (s.start.dmaWaits c))) ∧
      (c.waits = true → s.start.dmaState (c.argAt 0 1) ≠ 0 → exec (.dmaRun q) s = .next (s.after s.start))) ∧
    (∀ (x : Nat) (y : Ctx), c.ctx = some x → s.start.ctx x = some y →
      (Machine.mayStart s.start q 0x20 c → 1 ≤ c.specAt 0 4 → c.specAt 0 4 ≤ 1000000 → c.specAt 4 1 ≤ 1 → c.op = 0x20 → d.subsOf 0x20 = [] → ∃ t : Dev, exec (.subscribeRecords q) s = .next (s.after t) ∧ t.ctx x = some { y with st := 3 } ∧
        t.host.spool = if c.specAt 4 1 = 1 then [] else s.dev.host.spool) ∧
      (Machine.mayStart s.start q 0x21 c → c.op = 0x21 → d.subsOf 0x21 = [] → ∃ t : Dev, exec (.subscribePreview q) s = .next (s.after t) ∧ t.ctx x = some { y with st := 3 }) ∧
      (Machine.mayStart s.start q 0x22 c → c.op = 0x22 → c.specAt 0 1 ≤ 3 → s.start.layerOn (c.specAt 0 1) = true → c.specAt 1 1 = 0 → c.specAt 4 4 ≤ c.specAt 8 4 → c.specAt 8 4 < s.start.stitchCols → (d.subsOf 0x22).length < 8 →
        ∃ t : Dev, exec (.subscribeImage q) s = .next (s.after t) ∧ t.ctx x = some { y with st := 3, keep := [c.specAt 0 1, max (c.specAt 2 2) 1, c.specAt 4 4, c.specAt 8 4], next := s.dev.blv.nextRow }) ∧
      (Machine.mayStart s.start q 0x23 c → c.op = 0x23 → c.specAt 0 1 < 16 → d.subsOf 0x23 = [] → ∃ t : Dev, exec (.subscribeProfile q) s = .next (s.after t) ∧ t.ctx x = some { y with st := 3, keep := [c.specAt 0 1] })) ∧
    (∀ y : Ctx, s.start.ctx (c.argAt 0 2) = some y → y.st = 3 → y.cmd.fn = c.fn →
      (Machine.mayStart s.start q 0x24 c → d.bufFits y c.len = true → d.bufsInUse (c.argAt 0 2) y < 1024 → ∃ t : Dev, exec (.postBuffer q) s = .next (s.after t) ∧
        t.ctx (c.argAt 0 2) = some { y with bufs := y.bufs ++ [{ cid := c.cid, sq := q, addr := c.addr, len := c.len }] } ∧ t.regs = s.dev.regs ∧ t.out = s.start.out) ∧
      (Machine.mayStart s.start q 0x25 c → exec (.unsubscribe q) s = .next (s.after ((d.subEnd (c.argAt 0 2)).finish c 0 y.done 0)))) ∧
    (Machine.mayStart s.start q 0x24 c → s.start.ctx (c.argAt 0 2) = none → exec (.postBuffer q) s = .next (s.after (d.finish c 0x100B 0 0))) ∧
    (Machine.mayStart s.start q 0x25 c → s.start.ctx (c.argAt 0 2) = none → exec (.unsubscribe q) s = .next (s.after (d.finish c 0x1006 0 0)))

/-- R370 to R373, R49, R275: the long operations as each starts, is suspended, resumed, cancelled and asked for, and the steps of EXPORT and REPLAY. -/
def Obligations.LongOperations : Prop :=
  ∀ (s : State) (q : Fin 16384) (c : HostCmd), s.dev.mode ≠ .reset → let d := Machine.takeCmd s.start c
    (∀ (x : Nat) (y : Ctx), c.ctx = some x → s.start.ctx x = some y →
      (Machine.mayStart s.start q 0x10 c → d.opBusy c = false → s.start.extAllowed = true → ∃ (t : Dev) (e : ExtCal), exec (.calibrate q) s = .next (s.after t) ∧ t.ctx x = some { y with phase := if e.mode = 1 then 2 else 0 } ∧
        d.extStart.cal.ext = some e ∧ e.mode = (if s.dev.live R.CAL_EXT_CFG_EXT_MODE = 3 then 0 else s.dev.live R.CAL_EXT_CFG_EXT_MODE) ∧ e.white = s.dev.live R.CAL_EXT_CFG_WHITE_TARGET) ∧
      (Machine.mayStart s.start q 0x10 c → d.opBusy c = false → s.start.extAllowed = false → exec (.calibrate q) s = .next (s.after ((d.calCode 0x500C 5).finish c 0x500C 0 0))) ∧
      (Machine.mayStart s.start q 0x11 c → d.opBusy c = false → c.specAt 0 1 = 1 → c.specAt 4 4 % 65536 + c.specAt 4 4 / 65536 ≤ s.start.drtBlocks → c.specAt 4 4 / 65536 ≠ 0 →
        ∃ t : Dev, exec (.test q) s = .next (s.after t) ∧ t.ctx x = some { y with phase := 1, keep := [1, c.specAt 4 4 % 65536, c.specAt 4 4 / 65536, 0, 0] }) ∧
      (Machine.mayStart s.start q 0x11 c → d.opBusy c = false → 3 ≤ c.specAt 0 1 → exec (.test q) s = .next (s.after ((d.tstCode 0xC00E).finish c 0xC00E 0 0))) ∧
      (Machine.mayStart s.start q 0x12 c → c.specAt 0 1 ≤ 3 → s.start.layerOn (c.specAt 0 1) = true → c.specAt 20 4 ≤ c.specAt 24 4 → c.specAt 24 4 < s.start.stitchCols →
        c.specAt 16 4 * rowSize (c.specAt 24 4 + 1 - c.specAt 20 4) (s.start.bpp (c.specAt 0 1)) ≤ c.len → (d.opsOf 0x12).all (fun z => decide (some z.1 = c.ctx)) = true → c.specAt 16 4 ≠ 0 →
        ∃ t : Dev, exec (.atticExport q) s = .next (s.after t) ∧ t.ctx x = some { y with keep := [c.specAt 0 1, c.specAt 16 4, c.specAt 20 4, c.specAt 24 4], next := c.specAt 8 8 }) ∧
      (Machine.mayStart s.start q 0x13 c → c.specAt 0 1 ≤ 1 → d.opBusy c = false → s.dev.mode = .armed →
        ∃ t : Dev, exec (.replay q) s = .next (s.after t) ∧ t.ctx x = some { y with keep := [c.specAt 0 1, c.specAt 16 4], next := if c.specAt 0 1 = 0 then c.specAt 8 8 else 0 }) ∧
      (Machine.mayStart s.start q 0x13 c → c.specAt 0 1 ≤ 1 → d.opBusy c = false → s.dev.mode ≠ .armed → exec (.replay q) s = .next (s.after ((d.glbErr 0x800E).finish c 0x800E 0 0))) ∧
      (Machine.mayStart s.start q 0x14 c → c.specAt 0 1 ≤ 1 → c.specAt 1 1 ≤ 2 → d.opsOf 0x14 = [] → s.dev.fld (bankState (c.specAt 0 1)) ≠ bankActive → s.dev.fld (bankState (c.specAt 0 1)) ≠ bankDraining →
        tget 0 s.dev.cfg.claims R.DCA_CTRL.addr = 0 → ∃ t : Dev, exec (.modelLoad q) s = .next (s.after t) ∧ t.ctx x = some { y with keep := [c.specAt 0 1, c.specAt 1 1] }) ∧
      (Machine.mayStart s.start q 0x15 c → d.opBusy c = false →
        let ports := (List.range 16).filter fun p => decide (2 ≤ s.dev.fld (portState p)) && (s.start.mappedLanes p).any fun l => bitOf (c.specAt 0 8) l
        let sides := [0, 1].filter fun k => decide (2 ≤ s.start.stage k) && (List.range 16).any fun i => bitOf (c.specAt 8 4) (16 * k + i)
        ∃ t : Dev, t.ctx x = some { y with phase := 1, keep := ports ++ sides.map (100 + ·) } ∧
          exec (.laneRetrain q) s = .next (s.after (sides.foldl Dev.enterTrain (ports.foldl (fun e p => if e.portUp p then (e.portDetect p).portLeft p else e.portDetect p) t)))) ∧
      (Machine.mayStart s.start q 0x16 c → c.specAt 0 1 ≤ 15 → (d.opsOf 0x16).all (fun z => decide (some z.1 = c.ctx)) = true → s.dev.mode.framed = true → s.start.spareReady.isSome = true →
        ∃ t : Dev, exec (.spareRotate q) s = .next (s.after (t.rotAdd (c.specAt 0 1) c.ctx)) ∧ t.ctx x = some { y with keep := [c.specAt 0 1] })) ∧
    (∀ (x : Nat) (y : Ctx), d.target c = some (x, y) → c.ctx = none →
      (Machine.mayStart s.start q 0x18 c → y.st = 1 → d.begun x = true → suspendable y = true → y.cmd.op ≠ 0x11 → y.cmd.op ≠ 0x14 → ∃ t : Dev, exec (.suspend q) s = .next (s.after t) ∧ t.ctx x = some { y with st := 2 }) ∧
      (Machine.mayStart s.start q 0x18 c → y.st = 1 → d.begun x = true → suspendable y = true → y.cmd.op = 0x14 → ∃ (t : Dev) (n : Nat), exec (.suspend q) s = .next (s.after t) ∧ t.ctx x = some { y with st := 2, next := y.next + n }) ∧
      (Machine.mayStart s.start q 0x18 c → (y.st ≠ 1 ∨ d.begun x = false ∨ suspendable y = false) → y.st ≠ 2 → exec (.suspend q) s = .next (s.after (d.finish c 0x1007 (d.stateWord x) 0))) ∧
      (Machine.mayStart s.start q 0x19 c → y.st = 2 → y.cmd.op ≠ 0x11 → y.cmd.op ≠ 0x10 → ∃ t : Dev, exec (.resume q) s = .next (s.after t) ∧ t.ctx x = some { y with st := 1 }) ∧
      (Machine.mayStart s.start q 0x1B c → exec (.opStatus q) s = .next (s.after (d.finish c 0 (y.st + y.phase * 2 ^ 8 + y.progress % 2 ^ 32 * 2 ^ 32) 0))) ∧
      (∀ (blocks : Nat) (data : List Byte), Machine.mayStart s.start q 0x1A c →
        (y.st = 3 → let t := d.subEnd x
          exec (.cancel q blocks data) s = .next (s.after (t.finish c 0 (t.stateWord x) 0))) ∧
        (y.st = 4 → exec (.cancel q blocks data) s = .next (s.after (d.finish c 0x1008 (d.stateWord x) 0))) ∧
        (y.st = 1 → d.begun x = false → 0x10 ≤ y.cmd.op → y.cmd.op ≤ 0x16 → let t := (d.unfetch x).finish y.cmd 0x1009 0 0
          exec (.cancel q blocks data) s = .next (s.after (t.finish c 0 (t.stateWord x) 0))) ∧
        (y.st = 1 → d.begun x = true → y.cmd.op = 0x12 → let t := d.opEnd x 0x1009 y.done y.at_
          (y.phase < 9 → exec (.cancel q blocks data) s = .next (s.after (t.finish c 0 (t.stateWord x) 0)))))) ∧
    (d.target c = none → Machine.mayStart s.start q 0x1B c → exec (.opStatus q) s = .next (s.after (d.finish c 0x1006 0 0))) ∧
    (∀ (x : Nat) (y : Ctx), s.start.replayIn 0 = some (x, y) →
      (∀ first : Int, s.dev.mode ≠ .armed → exec (.replayLoadDone first) s = .next (s.after ((s.start.glbErr 0x800E).opEnd x 0x800E 0 0))) ∧
      (∀ first : Int, s.dev.mode = .armed → y.keep.getD 0 0 = 1 → let e := s.start.opPhase x 1
        exec (.replayLoadDone first) s = .next (s.after ((({ e with pos := { e.pos with md := e.mdOf first, hwm := e.mdOf first } } : Dev).latchGrid.beginRun 0 0 true).setMode .replay)))) ∧
    (∀ (x : Nat) (y : Ctx), s.start.replayIn 1 = some (x, y) → y.st = 1 →
      (∀ (p : Fin 20) (wpos : Int) (planes : List (List Nat)) (field : Fin 4), y.keep.getD 0 0 = 1 → s.dev.mode = .replay → ∃ t : Dev, exec (.replayHostLine p wpos planes field) s = .next (s.after t) ∧
        t.ctx x = some { y with next := y.next + 1, done := y.done + 1, progress := y.done + 1, phase := if y.keep.getD 1 0 ≤ y.done + 1 then 2 else 1 }) ∧
      (s.start.atticReplay = true → y.keep.getD 1 0 ≤ y.done → exec .replayAtticRow s = .next (s.after (s.start.opPhase x 2))) ∧
      (s.start.atticReplay = true → y.done < y.keep.getD 1 0 → s.start.atticRow y.next = none → exec .replayAtticRow s = .next (s.after (s.start.replayEnd x 0x1010))) ∧
      (∀ row : Stitched, s.start.atticReplay = true → y.done < y.keep.getD 1 0 → s.start.atticRow y.next = some row →
        let e : Dev := { s.start with pos := { s.start.pos with linesPassed := y.next + 1, hwm := s.start.linePos y.next, md := s.start.linePos y.next } }
        let b := if e.isBoundary y.next then e.boundary y.next else e
        ∃ (v : Dev) (es : List (Nat × Nat)) (ri : RowInfo), v = (({ b with pos := { b.pos with epochs := es } } : Dev).prfBefore row []).1 ∧ ri.line = y.next ∧ ri.epoch = row.epoch ∧ ri.flags = row.flags ∧
          exec .replayAtticRow s = .next (s.after (((((({ v with blv := { v.blv with nextRow := y.next + 1, rows := v.blv.rows ++ [ri] } } : Dev).rowFiltered row).galRow y.next row.wide).setCtx x
            (some { y with next := y.next + 1, done := y.done + 1, progress := y.done + 1, phase := if y.keep.getD 1 0 ≤ y.done + 1 then 2 else 1 })).settledSince s.dev.prf.settled))))) ∧
    (∀ (x : Nat) (y : Ctx), s.start.replayIn 2 = some (x, y) → exec .replayDone s = .next (s.after (s.start.replayEnd x 0))) ∧
    (∀ (x : Nat) (y : Ctx) (rest : List (Nat × Ctx)) (bs : List Byte), s.start.opsOf 0x12 = (x, y) :: rest → y.st = 1 → s.start.attReady = true → y.next ≤ s.dev.blv.head → s.start.attHolds y.next = true →
      s.start.imageRow (y.keep.getD 0 0) y.next (y.keep.getD 2 0) (y.keep.getD 3 0) (y.lost % 2 ^ 32) = some bs → y.next + 1 < y.cmd.specAt 8 8 + y.keep.getD 1 0 →
      ∃ t : Dev, exec .atticExportRow s = .next (s.after t) ∧ t.ctx x = some { y with phase := 1, next := y.next + 1, done := y.done + 1, progress := y.progress + 1, lost := 0 } ∧
        (y.cmd.silent = false → t.out = s.start.out ++ [.hostWrite y.cmd.fn (y.cmd.addr + y.done * rowSize (y.keep.getD 3 0 + 1 - y.keep.getD 2 0) (s.start.bpp (y.keep.getD 0 0))) bs]))

/-- R388, R389, R400 to R403: GO starts a chain on an idle channel in REGISTER mode, and a second start waits; CLEAR takes a halted channel to IDLE; a
descriptor that passes the checks is held, and one that does not halts the chain; a descriptor that is not the last moves the chain on; a failed read
halts the chain with its code, and STOP ends it with 0x200D; a halt leaves the channel HALTED with its code, diagnosis and address. -/
def Obligations.DmaChains : Prop :=
  ∀ (s : State) (n : Fin 64), s.dev.mode ≠ .reset → let x := s.start.chan n
    (3 ≤ s.dev.mode.code → s.dev.fld (R.DMA_CH_CFG_MODE n) = 1 →
      (s.start.dmaState n = 0 → ∃ t : Dev, exec (.dmaGo n) s = .next (s.after t) ∧ t.dmaState n = 1 ∧ t.fld (R.DMA_CH_DESC_DONE n) = 0 ∧ t.fld (R.DMA_CH_BYTES n) = 0 ∧ t.fld (R.DMA_CH_ERR n) = 0 ∧
        (t.chan n).next = s.dev.fld (R.DMA_CH_CHAIN_ADDR n) / 64 * 64 ∧ (t.chan n).desc = none ∧ (t.chan n).count = 0) ∧
      (s.start.dmaState n = 1 → x.startPending = false → ∃ t : Dev, exec (.dmaGo n) s = .next (s.after t) ∧ t.fld (R.DMA_CH_STATUS_PENDING n) = 1 ∧ t.chan n = { x with startPending := true, pendLineage := 0 }) ∧
      (s.start.dmaState n = 1 → x.startPending = true → exec (.dmaGo n) s = .next (s.after (s.start.raise R.DMA_EVENTS_START_DROP)))) ∧
    (3 ≤ s.dev.mode.code →
      (s.start.dmaState n = 2 → exec (.dmaClear n) s = .next (s.after (s.start.setDmaState n 0))) ∧
      (s.start.dmaState n ≠ 2 → exec (.dmaClear n) s = .next (s.after s.start)) ∧
      (∀ (blocks : Nat) (data : List Byte),
        (s.dev.fld (R.DMA_CH_CFG_MODE n) = 1 → s.start.dmaState n = 1 → exec (.dmaStop n blocks data) s = .next (s.after (s.start.dmaStopChain n blocks 0x200D data))) ∧
        (s.dev.fld (R.DMA_CH_CFG_MODE n) ≠ 1 ∨ s.start.dmaState n ≠ 1 → exec (.dmaStop n blocks data) s = .next (s.after s.start)))) ∧
    (∀ host : List Byte, s.start.dmaState n = 1 → x.desc = none → x.host = true →
      (s.start.hostUp = true → s.start.descCheck n x.next (fit 64 host) = none → ∃ t : Dev, exec (.dmaDescRead n host) s = .next (s.after t) ∧
        (t.chan n).desc = some (x.next, fit 64 host) ∧ (t.chan n).next = x.next ∧ t.regs = s.dev.regs ∧ t.out = s.start.out) ∧
      (∀ code diag : Nat, s.start.hostUp = true → s.start.descCheck n x.next (fit 64 host) = some (code, diag) → exec (.dmaDescRead n host) s = .next (s.after (s.start.dmaHalt n code diag x.next 0))) ∧
      (s.start.hostUp = false → exec (.dmaDescRead n host) s = .next (s.after (s.start.dmaHalt n 0x2006 0 x.next 0)))) ∧
    (∀ (at_ : Nat) (b : List Byte) (data : List Byte), x.desc = some (at_, b) → let y := descOf b
      ((y.srcHost = true ∨ y.dstHost = true) → s.start.hostUp = false → exec (.dmaDescDone n data) s = .next (s.after (s.start.dmaHalt n 0x2006 0 at_ 0))) ∧
      (y.srcHost = false → y.dstHost = false → y.event = false → y.last = false → ∃ t : Dev, exec (.dmaDescDone n data) s = .next (s.after t) ∧
        t.fld (R.DMA_CH_TAG n) = y.tag % 2 ^ 32 ∧ t.chan n = { x with desc := none, count := x.count + 1, next := y.next })) ∧
    (∀ (wrote : Nat) (data : List Byte), s.start.dmaState n = 1 → x.desc = none →
      exec (.dmaReadFail n .timeout wrote data) s = .next (s.after (s.start.dmaHalt n 0x2004 0 x.next 0)) ∧
      exec (.dmaReadFail n .errorCompletion wrote data) s = .next (s.after (s.start.dmaHalt n 0x2005 0 x.next 0)) ∧
      exec (.dmaReadFail n .unavailable wrote data) s = .next (s.after (s.start.dmaHalt n 0x2006 0 x.next 0))) ∧
    (∀ (code diag at_ wrote : Nat), x.ctx = none → 0 < code → code < 65536 → diag < 8 → at_ < 2 ^ 64 → let t := s.start.dmaHalt n code diag at_ wrote
      t.dmaState n = 2 ∧ t.fld (R.DMA_CH_ERR_CODE n) = code ∧ t.fld (R.DMA_CH_ERR_DIAG n) = diag ∧ t.fld (R.DMA_CH_ERR_ADDR n) = at_ ∧ t.fld R.DMA_LAST_ERR_CODE = code ∧
        t.fld R.DMA_LAST_ERR_CHANNEL = n ∧ t.fld (R.DMA_CH_STATUS_PENDING n) = 0 ∧ (t.chan n).desc = none ∧ (t.chan n).startPending = false)

/-- Rows of the memory controllers and the Doorways: with no request a Doorway's slot passes; a single unlocked DRAM request of at most 64 bytes is granted, moved and ended in one decision, and its
requester drops to the lowest rank; a host read that finds no tag is not granted; a locked sequence that lasts is
broken, and a request that waits too long is reported; refreshes that fall due are counted; tracking steps are made in a gap or forced; MR4 sets the
refresh multipliers; a load window sets C0_NOW; REQ_CFG takes CLASS 2 to 4 of the programmable requesters and any WAIT_LIMIT. -/
def Obligations.MemoryControllers : Prop :=
  ∀ s : State, s.dev.mode ≠ .reset →
    (∀ (x : Fin 16) (q : DoorReq), let y := s.start.door x
      (y.waiting = [] → y.grant = none → ∃ t : Dev, exec (.doorwayDecision x.castSucc.castSucc.castSucc [] false false .clean) s = .next (s.after t) ∧ t.door x = { y with slot := (y.slot + 1) % 8 }) ∧
      (y.waiting = [q] → y.grant = none → y.lock = none → q.fences = 0 → q.untagged = false → q.done = 0 → q.lock = false → 1 ≤ q.bytes → q.bytes ≤ 64 → ∃ t : Dev, exec (.doorwayDecision x.castSucc.castSucc.castSucc [] false false .clean) s = .next (s.after t) ∧
        t.door x = { waiting := [], grant := none, lock := none, dropped := (y.dropped.filter fun r => r ≠ q.who) ++ [q.who], slot := (y.slot + 1) % 8 })) ∧
    (∀ q : DoorReq, let y := s.start.door 16
      y.waiting = [q] → y.grant = none → q.untagged = true → s.start.tagFor q.who = none → ∃ t : Dev, exec (.doorwayDecision 16 [] false false .clean) s = .next (s.after t) ∧ t.door 16 = { y with slot := (y.slot + 1) % 8 }) ∧
    (∀ (x : Fin 19) (q : DoorReq) (k : Nat) (l : DoorLock), (s.start.door x).grant = some (q, k) → (s.start.door x).lock = some l → ∃ t : Dev, exec (.lockTimeout x) s = .next (s.after t) ∧
      t.door x = (s.start.door x).ended q.who ∧ t.fld R.MEM_LAST_ERR = 0x3001 ∧ t.flag R.MEM_EVENTS_LOCK_BROKEN = true ∧ t.fld R.MEM_LOCK_INFO_OWNER = q.who % 2 ^ 7) ∧
    (∀ (x : Fin 17) (r : Fin 128) (q : DoorReq), ((s.start.door x).waiting.find? fun q => decide (q.who = r.val)) = some q → s.dev.mem.starved.contains r.val = false → (∀ p ∈ s.start.raisedBy x r.val, q.since ≤ p.since) →
      ∃ t : Dev, exec (.starve x.castSucc.castSucc r) s = .next (s.after t) ∧ t.fld R.MEM_LAST_ERR = 0x3002 ∧ t.flag R.MEM_EVENTS_STARVE = true ∧ t.fld (Fld.bit (R.MEM_STARVE_MAP (r.val / 32)) (r.val % 32)) = 1) ∧
    (∀ (c : Fin 16) (bank : Fin 32) (issued : Nat), bank.val < 16 → s.dev.flag (Fld.bit R.MEM_STATUS_TRAINED c.val) = true → let k := c.val * 32 + bank.val; let lag := max (-8) (tget 0 s.dev.mem.lag k + 1 - issued)
      (lag < 8 → ∃ t : Dev, exec (.refreshDue c bank issued) s = .next (s.after t) ∧ tget 0 t.mem.lag k = lag ∧ t.fld (R.MEM_CH_REF_CNT c.val) = s.dev.fld (R.MEM_CH_REF_CNT c.val)) ∧
      (8 ≤ lag → ∃ t : Dev, exec (.refreshDue c bank issued) s = .next (s.after t) ∧ tget 0 t.mem.lag k = 7 ∧ t.fld (R.MEM_CH_REF_CNT c.val) = min (s.dev.fld (R.MEM_CH_REF_CNT c.val) + 1) (2 ^ 32 - 1) ∧
        t.fld (R.MEM_CH_STATUS_REF_BEHIND c.val) = 8)) ∧
    (∀ c : Fin 16, s.dev.flag (Fld.bit R.MEM_STATUS_TRAINED c.val) = true → s.dev.mem.stepsWait.contains c.val = true → s.start.doorQuiet c.val = true →
      ∃ t : Dev, exec (.retrainDue c true false) s = .next (s.after t) ∧ c.val ∉ t.mem.stepsWait ∧ t.fld (R.MEM_CH_RETRAIN_CNT_GAP c.val) = min (s.dev.fld (R.MEM_CH_RETRAIN_CNT_GAP c.val) + 1) 65535) ∧
    (∀ (c : Fin 16) (drift : Bool), s.dev.flag (Fld.bit R.MEM_STATUS_TRAINED c.val) = true → s.dev.mem.stepsWait.contains c.val = false →
      ∃ t : Dev, exec (.retrainDue c false drift) s = .next (s.after t) ∧ c.val ∈ t.mem.stepsWait) ∧
    (∀ (c : Fin 16) (drift : Bool), s.dev.mem.stepsWait.contains c.val = true → ∃ t : Dev, exec (.retrainForced c drift) s = .next (s.after t) ∧ c.val ∉ t.mem.stepsWait ∧
      (drift = true → t.fld R.MEM_LAST_ERR = 0x3007 ∧ t.flag R.MEM_EVENTS_DRIFT_LIMIT = true ∧ t.fld (Fld.bit R.MEM_STATUS_DRIFT c.val) = 1)) ∧
    (∀ mults : List (Fin 3), s.dev.fld R.MEM_STATUS_TRAINED ≠ 0 → (∃ t : Dev, exec (.mr4Poll mults false) s = .next (s.after t) ∧ t.faultReq = s.dev.faultReq ∧
      ∀ c : Nat, c < 16 → t.fld (R.MEM_CH_STATUS_REF_MULT c) = (mults.map Fin.val).getD c 0) ∧
      (∃ t : Dev, exec (.mr4Poll mults true) s = .next (s.after t) ∧ t.faultReq = s.dev.faultReq ++ [1] ∧ t.fld R.MEM_LAST_ERR = 0x3008)) ∧
    (∀ c : Fin 16, let load := tget 0 s.dev.mem.c0Slots c.val * 8192 / (10 * s.start.dramRate)
      ∃ t : Dev, exec (.c0LoadWindow c) s = .next (s.after t) ∧ t.fld (R.MEM_CH_LOAD_C0_NOW c.val) = min load 255 ∧ tget 0 t.mem.c0Slots c.val = 0 ∧ min load 255 ≤ t.fld (R.MEM_CH_LOAD_C0_PEAK c.val) ∧
        (s.dev.fld R.MEM_C0_LIMIT < load → t.flag R.MEM_EVENTS_C0_LOAD = true ∧ t.fld R.MEM_LAST_ERR = 0x3009)) ∧
    (3 ≤ s.dev.mode.code → ∀ (r : Fin 128) (v : BitVec 32), requesterAt 0 r.val = true → ∃ t : Dev, exec (.reqClassWrite r v) s = .next (s.after t) ∧ t.fld (R.MEM_REQ_CFG_WAIT_LIMIT r.val) = bits v.toNat 16 16 ∧
      (21 ≤ r.val → r.val ≤ 25 → 2 ≤ bits v.toNat 0 3 → bits v.toNat 0 3 ≤ 4 → t.fld (R.MEM_REQ_CFG_CLASS r.val) = bits v.toNat 0 3) ∧
      (r.val < 21 ∨ 25 < r.val ∨ bits v.toNat 0 3 < 2 ∨ 4 < bits v.toNat 0 3 → t.fld (R.MEM_REQ_CFG_CLASS r.val) = s.dev.fld (R.MEM_REQ_CFG_CLASS r.val)))

/-- R472: a watchdog expiry in a framed mode, and an uncorrectable error in management SRAM, ask for FAULT with their causes; no register is written before
FAULT is entered.
R549, R552, R355: the losses of the lane and PCIe reference clocks and PERST_N, the return of a clock, and the link's arrival.
R548, R474, R466, R514: the release of reset takes the part from RESET to FOYER with its clocks and stripes noted, and in any other mode does nothing; the Foyer
ends in RECOVERY after a failed step, and after a boot recipe that is not applied; else in DISCOVER or STANDBY, a recipe on trial confirmed; a recipe on trial that is
not applied is given up with a warm reset. -/
def Obligations.PlatformEvents : Prop :=
  (∀ s : State, s.dev.mode ≠ .reset →
    (s.dev.mode.framed = true → ∃ d, exec .watchdogExpiry s = .next (s.after d) ∧ d.faultReq = s.dev.faultReq ++ [3] ∧ s.dev.keeps d fun _ => False) ∧
    (∃ d, exec .sramUe s = .next (s.after d) ∧ d.faultReq = s.dev.faultReq ++ [4] ∧ s.dev.keeps d fun _ => False)) ∧
  (∀ s : State, s.dev.mode ≠ .reset →
    (∃ d, exec .laneRefclkLoss s = .next (s.after d) ∧ d.fld R.GLB_PLAT_STATUS_LANE_REFCLK_OK = 0 ∧ 1 ∈ d.plat.lost) ∧
    (∃ d, exec .pcieRefclkLoss s = .next (s.after d) ∧ d.fld R.GLB_PLAT_STATUS_PCIE_REFCLK_OK = 0 ∧ d.fld R.GLB_HOST_STATUS_LINK_UP = 0 ∧ 2 ∈ d.plat.lost) ∧
    (∃ d, exec .perstNAssert s = .next (s.after d) ∧ d.fld R.GLB_HOST_STATUS_LINK_UP = 0 ∧ d.plat.perst = true) ∧
    (∃ d, exec (.refclkRestored true) s = .next (s.after d) ∧ d.fld R.GLB_PLAT_STATUS_LANE_REFCLK_OK = 1 ∧ 1 ∉ d.plat.lost ∧ s.dev.keeps d (· = R.GLB_PLAT_STATUS.addr)) ∧
    (∃ d, exec (.refclkRestored false) s = .next (s.after d) ∧ d.fld R.GLB_PLAT_STATUS_PCIE_REFCLK_OK = 1 ∧ 2 ∉ d.plat.lost ∧ s.dev.keeps d (· = R.GLB_PLAT_STATUS.addr)) ∧
    (2 ∉ s.dev.plat.lost → ∃ d, exec .pcieLinkUp s = .next (s.after d) ∧ d.fld R.GLB_HOST_STATUS_LINK_UP = 1 ∧ d.plat.perst = false ∧
      s.dev.keeps d (· = R.GLB_HOST_STATUS.addr))) ∧
  (∀ s : State,
    (∀ trained : List (Fin 16),
      (s.dev.mode ≠ .reset → exec (.resetRelease trained) s = .next (s.after s.start)) ∧
      (s.dev.mode = .reset → ∃ e : Dev, exec (.resetRelease trained) s = .next (s.after (e.recount.foyerSteps (trained.map Fin.val))) ∧ e.mode = (s.start.setMode .foyer).mode ∧
        e.fld R.GLB_PLAT_STATUS_LANE_REFCLK_OK = b2n (!s.dev.plat.lost.contains 1) ∧ e.fld R.GLB_PLAT_STATUS_PCIE_REFCLK_OK = b2n (!s.dev.plat.lost.contains 2) ∧
        e.stripeState 16 = 1 ∧ (∀ n, n < 16 → e.fld (R.STR_LBL_STATUS_EMITTING n) = 1))) ∧
    (s.dev.mode = .foyer → s.dev.cfg.foyerBad = true → exec .foyerComplete s = .next (s.after (s.start.setMode .recovery))) ∧
    (s.dev.mode = .foyer → s.dev.cfg.foyerBad = false → s.dev.rec_ 89 1 % 2 = 0 → let e := s.start.bootRecipe
      (e.2 = false → exec .foyerComplete s = .next (s.after ((e.1.glbErr 0x8011).setMode .recovery))) ∧
      (e.2 = true → e.1.unhealthy.rec_ 17 1 % 2 = 1 → exec .foyerComplete s = .next (s.after e.1.unhealthy.enterDiscover)) ∧
      (e.2 = true → e.1.unhealthy.rec_ 17 1 % 2 ≠ 1 → exec .foyerComplete s = .next (s.after (e.1.unhealthy.setMode .standby)))) ∧
    (s.dev.mode = .foyer → s.dev.cfg.foyerBad = false → s.dev.rec_ 89 1 % 2 = 1 → let e := s.start.bootRecipe
      (e.2 = false → exec .foyerComplete s = .next (s.after (((((e.1.recordWrite (recipeGivenUp e.1.svc.record) none).1.svcErr 0x600F).raise R.SVC_EVENTS_FALLBACK).warmReset none)))) ∧
      (e.2 = true → let t := (e.1.recordWrite (recipeConfirmed e.1.svc.record) none).1.unhealthy
        exec .foyerComplete s = .next (s.after (if t.rec_ 17 1 % 2 = 1 then t.enterDiscover else t.setMode .standby)))))

/-- R531 to R537: JTAG instructions and TRST_N; DBG_LOCK, the debug token and the test multiplexer; a block of the continuous DRAM sweep; a pass of the eye monitor. -/
def Obligations.DebugAndTests : Prop :=
  ∀ s : State,
    (∀ op : BitVec 8,
      ((op = 1 ∨ op = 2 ∨ (3 ≤ op.toNat ∧ op.toNat ≤ 5 ∧ s.dev.mode = .reset) ∨ (0x20 ≤ op.toNat ∧ op.toNat ≤ 0x2F ∧ s.dev.dbgRight 1 = true)) →
        ∃ t : Dev, exec (.jtagInstruction op) s = .next (s.after t) ∧ t.tst.jtag = op.toNat ∧ t.regs = s.dev.regs) ∧
      (3 ≤ op.toNat → op.toNat ≤ 5 → s.dev.mode ≠ .reset → ∃ t : Dev, exec (.jtagInstruction op) s = .next (s.after t) ∧ t.tst.jtag = 0xFF ∧ t.fld R.TST_LAST_ERR_CODE = 0xC010 ∧ t.flag R.TST_EVENTS_JTAG_REFUSED = true) ∧
      (op.toNat = 0 ∨ (6 ≤ op.toNat ∧ op.toNat < 0x20) ∨ 0x2F < op.toNat ∨ (0x20 ≤ op.toNat ∧ op.toNat ≤ 0x2F ∧ s.dev.dbgRight 1 = false) →
        ∃ t : Dev, exec (.jtagInstruction op) s = .next (s.after t) ∧ t.tst.jtag = 0xFF ∧ t.regs = s.dev.regs)) ∧
    (∃ t : Dev, exec .trstNAssert s = .next (s.after t) ∧ t.tst.jtag = 1 ∧ t.regs = s.dev.regs) ∧
    (3 ≤ s.dev.mode.code → ∀ v : BitVec 32,
      (v.toNat % 2 = 1 → ∃ t : Dev, exec (.dbgLock v) s = .next (s.after t) ∧ t.fld R.TST_DBG_STATUS_UNLOCKED = 0 ∧ t.fld R.TST_DBG_STATUS_RIGHTS = 0 ∧ s.dev.keeps t (· = R.TST_DBG_STATUS.addr)) ∧
      (v.toNat % 2 = 0 → exec (.dbgLock v) s = .next (s.after s.start)) ∧
      (let e := s.start.setReg 0xD0069C v
        let bs := wordBytes ((List.range 40).map fun i => (e.reg (0x00D00600 + 4 * i)).toNat)
        ∃ t : Dev, exec (.dbgTokenSubmit v) s = .next (s.after t) ∧ t.tst.nonce = s.dev.draws ∧ t.draws = s.dev.draws + 1 ∧
          (leAt bs 0 4 ≠ 0x54474244 ∨ leAt bs 4 2 ≠ 1 ∨ 4 ≤ leAt bs 6 2 ∨ leAt bs 8 8 ≠ Config.uid.toNat ∨ slice bs 16 16 ≠ e.dbgNonce →
            t.flag R.TST_EVENTS_TOKEN_BAD = true ∧ t.fld R.TST_LAST_ERR_CODE = 0xC00A ∧ t.fld R.TST_DBG_STATUS = s.dev.fld R.TST_DBG_STATUS) ∧
          (t.flag R.TST_DBG_STATUS_UNLOCKED = true → s.dev.flag R.TST_DBG_STATUS_UNLOCKED = true ∨
            (leAt bs 0 4 = 0x54474244 ∧ leAt bs 8 8 = Config.uid.toNat ∧ slice bs 16 16 = e.dbgNonce ∧ ecdsaOk (sha256 (slice bs 0 32)) (slice bs 32 64) (slice bs 96 64) = true ∧ t.fld R.TST_DBG_STATUS_RIGHTS = leAt bs 6 2))) ∧
      (s.dev.dbgRight 0 = true → ∃ t : Dev, exec (.tmuxEnable v) s = .next (s.after t) ∧ t.flag R.TST_TMUX_CTRL_ENABLE = true ∧ t.fld R.TST_TMUX_CTRL_BYTE = bits v.toNat 4 3) ∧
      (s.dev.dbgRight 0 = false → ∃ t : Dev, exec (.tmuxEnable v) s = .next (s.after t) ∧ t.fld R.TST_TMUX_CTRL_ENABLE = s.dev.fld R.TST_TMUX_CTRL_ENABLE ∧ t.flag R.TST_EVENTS_LOCKED = true ∧ t.fld R.TST_LAST_ERR_CODE = 0xC00C)) ∧
    (∀ seen : BitVec 64, s.dev.mode ≠ .reset → s.dev.dbgRight 0 = true → s.dev.flag R.TST_TMUX_CTRL_ENABLE = true → let b := s.start.tmuxWord seen.toNat / 256 ^ s.dev.fld R.TST_TMUX_CTRL_BYTE % 256
      ∃ t : Dev, exec (.tmuxStrobe seen) s = .next (s.after t) ∧ t.tst = { s.dev.tst with tmux := b } ∧ t.out = s.start.out ++ [.tmux b] ∧ t.regs = s.dev.regs) ∧
    (∀ (first second : Option (List Byte)) (corrected : Nat), s.dev.mode ≠ .reset → s.dev.fld R.TST_DRT_CFG ≠ 0 → let n := s.start.drtBlocks * 1024; let i := if s.dev.tst.drt < n then s.dev.tst.drt else 0
      let a := s.dev.fld R.TST_DRT_BASE / 65536 * 65536 + i * 64; let w := s.dev.fld R.TST_DRT_STATUS_SWEEP
      n ≠ 0 → s.start.doorQuiet (s.start.channelOf a) = true → ∃ t : Dev, exec (.drtBlock false first second corrected) s = .next (s.after t) ∧
        t.tst.drt = (if i + 1 < n then i + 1 else 0) ∧ t.fld R.TST_DRT_STATUS_SWEEP = (if i + 1 < n then w else (w + 1) % 65536) ∧
        (first = none → second = none → t.fld R.TST_DRT_ERR_CNT = min (s.dev.fld R.TST_DRT_ERR_CNT + corrected) (2 ^ 32 - 1) ∧ t.fld R.TST_EVENTS = s.dev.fld R.TST_EVENTS) ∧
        (∀ g j, first = some g → firstDiff (drtPattern a w false) g = some j → t.flag R.TST_EVENTS_DRAM_TEST_FAIL = true ∧ t.fld R.TST_LAST_ERR_CODE = 0xC007 ∧
          (s.dev.fld R.TST_DRT_ERR_CNT = 0 → t.fld R.TST_DRT_FAIL_ADDR = (a + j) % 2 ^ 64))) ∧
    (∀ (l : Fin 112) (w h : Nat), s.dev.mode ≠ .reset → s.start.laneReceives l.val = true → w < 65536 → h < 65536 → ∃ t : Dev, exec (.eyePassDone l w h false) s = .next (s.after t) ∧
      t.fld (R.KSL_LANE_EYE_EYE_W l.val) = w ∧ t.fld (R.KSL_LANE_EYE_EYE_H l.val) = h ∧
      (w < s.dev.fld R.TST_EYE_LIMIT_EYE_W_MIN ∨ h < s.dev.fld R.TST_EYE_LIMIT_EYE_H_MIN → t.fld (Fld.bit (R.TST_EYE_LOW_MAP (l.val / 32)) (l.val % 32)) = 1 ∧ t.flag R.TST_EVENTS_EYE_LOW = true ∧ t.fld R.TST_LAST_ERR_CODE = 0xC009))

/-- R518, R519, R523 to R527: self-tests end; SRAM errors are counted or fail their stripe; a stripe that stalls fails; a rotation falls due; a switch ends. -/
def Obligations.RotationRows : Prop :=
  ∀ s : State, s.dev.mode ≠ .reset → let p := s.start.rotPhase
    (∀ (n : Fin 17) (unit : Fin 16), s.start.stripeState n = 3 → s.start.stripeTest = none → s.dev.rot.again = none → ¬(p = 5 ∧ s.dev.rot.source = n.val) →
      (∃ t : Dev, exec (.selftestDone n true unit) s = .next (s.after t) ∧ t.stripeState n = 1 ∧ t.fld (R.TST_UCODE_SEQ n) = s.dev.cfg.ucode % 2 ^ 32) ∧
      (∃ t : Dev, exec (.selftestDone n false unit) s = .next (s.after t) ∧ t.stripeState n = 4 ∧ t.fld (R.TST_STRIPE_STATE_FAIL_UNIT n) = unit ∧ t.flag R.TST_EVENTS_SELFTEST_FAIL = true ∧ t.fld R.TST_LAST_ERR_CODE = 0xC005 ∧
        t.fld R.TST_LAST_ERR_STRIPE = n)) ∧
    (∀ n : Fin 17, (∃ t : Dev, exec (.stripeError n .corrected) s = .next (s.after t) ∧ t.fld (R.TST_STRIPE_STATE_CE_CNT n) = min (s.dev.fld (R.TST_STRIPE_STATE_CE_CNT n) + 1) 15 ∧ s.dev.keeps t (· = (R.TST_STRIPE_STATE_CE_CNT n).addr)) ∧
      exec (.stripeError n .stripeStore) s = .next (s.after (s.start.stripeFail n 6 0xC006)) ∧ exec (.stripeError n .microcodeStore) s = .next (s.after (s.start.stripeFail n 7 0xC006)) ∧
      exec (.stripeError n .microcodeParity) s = .next (s.after (s.start.stripeFail n 7 0xC00D)) ∧
      (∀ r : Nat, s.start.roleOf n = some r → let t := tget 0 s.dev.rot.stallAt r
        t ≠ 0 → s.dev.mode.framed = true → s.start.waitedAt s.dev.blv.nextRow r = true →
          exec (.stripeStall n) s = .next (s.after ((s.start.advance (max s.dev.time (t - 1 + usCycles (max (s.dev.fld R.TST_STALL_US) 1)))).stripeFail n 0 0xC006))) ∧
      (∀ (d : Dev) (unit code : Nat), d.stripeState n ≠ 4 → d.stripeTest = none → d.rotPhase ≠ 2 → d.rotPhase ≠ 3 → ¬(d.rotPhase = 5 ∧ d.rot.source = n.val) → unit < 16 → code < 65536 → let t := d.stripeFail n unit code
        t.stripeState n = 4 ∧ t.fld (R.TST_STRIPE_STATE_FAIL_UNIT n) = unit ∧ t.flag R.TST_EVENTS_STRIPE_FAIL = true ∧ t.fld R.TST_LAST_ERR_CODE = code ∧ t.fld R.TST_LAST_ERR_STRIPE = n ∧
        (∀ r, d.roleOf n = some r → t.fld (Fld.bit R.GLB_MISSING r) = 1 ∧ t.rot.failed = d.rot.failed ++ [(r, false)]))) ∧
    (s.dev.flag R.TST_ROT_CTRL_ROTATE_EN = true → s.dev.fld R.TST_ROT_CTRL_ROTATE_PERIOD ≠ 0 → s.dev.rot.from_ ≠ 0 → s.start.scheduled = false → s.dev.rot.again = none →
      let e := s.start.advance (max s.dev.time (s.dev.rot.from_ + s.dev.fld R.TST_ROT_CTRL_ROTATE_PERIOD * usCycles 1000000))
      exec .rotationDue s = .next (s.after (e.rotAdd e.nextRole none)) ∧ (e.rotAdd e.nextRole none).rot.waiting = s.dev.rot.waiting ++ [(s.start.nextRole, none)] ∧
        (∀ r, s.dev.rot.last = some r → s.start.nextRole = (r + 1) % 16)) ∧
    (p = 4 → s.start.switchDone = true →
      (s.start.stripeState s.dev.rot.source = 4 → ∃ e : Dev, exec .rotationSwitchDone s = .next (s.after (e.rotOver 0xC006 0)) ∧ e.flag R.TST_EVENTS_NO_SPARE = true ∧ e.rot = s.dev.rot) ∧
      (s.start.stripeState s.dev.rot.source ≠ 4 → s.dev.rot.source < 17 → s.dev.rot.op = none → ∃ t : Dev, exec .rotationSwitchDone s = .next (s.after t) ∧ t.rotPhase = 5 ∧ t.fld R.TST_ROT_STATUS_SPARE = s.dev.rot.source ∧
        t.stripeState s.dev.rot.source = 3 ∧ t.fld (R.STR_LBL_STATUS_EMITTING s.dev.rot.source) = 0))

/-- R434, R435: a receive lane that is awake loses signal or lock, which its port then feels; BITSLIP counts a slip to make on a lane that aligns by hand and is ignored
on any other; a slip is made.
R440 to R450: a seam port finds receivers, trains, fixes its width, changes rate, equalises, locks, exchanges capabilities, sleeps, wakes and goes down. -/
def Obligations.SeamPorts : Prop :=
  ((∀ (s : State) (l : Fin 112), s.dev.mode ≠ .reset → receiveLane l.val = true →
    (s.start.laneAsleep l.val = false →
      (∃ t : Dev, exec (.laneLos l) s = .next (s.after (t.laneLost l.val true)) ∧ t.fld (R.KSL_LANE_STATUS_SIGNAL l.val) = 0 ∧ t.fld (R.KSL_LANE_STATUS_BIT_LOCK l.val) = 0 ∧ t.fld (R.KSL_LANE_STATUS_BLOCK_LOCK l.val) = 0 ∧
        t.flag (R.KSL_LANE_EVENTS_LOS l.val) = true ∧ t.fld R.KSL_LAST_ERR_CODE = 0x700B ∧ t.flag R.KSL_EVENTS_LANE_LOS = true) ∧
      (∀ (bitLock : Bool) (errors : Nat), ∃ t : Dev, exec (.laneLol l bitLock errors) s = .next (s.after (t.laneLost l.val false)) ∧ t.fld (R.KSL_LANE_STATUS_BLOCK_LOCK l.val) = 0 ∧
        (bitLock = true → t.fld (R.KSL_LANE_STATUS_BIT_LOCK l.val) = 0) ∧ t.fld (R.KSL_LANE_ERR_CNT_CODE_ERR l.val) = min (s.dev.fld (R.KSL_LANE_ERR_CNT_CODE_ERR l.val) + errors) 65535 ∧
        t.fld (R.KSL_LANE_ERR_CNT_LOL_CNT l.val) = min (s.dev.fld (R.KSL_LANE_ERR_CNT_LOL_CNT l.val) + 1) 65535 ∧ t.flag (R.KSL_LANE_EVENTS_LOL l.val) = true ∧ t.fld R.KSL_LAST_ERR_CODE = 0x700C ∧ t.flag R.KSL_EVENTS_LANE_LOL = true)) ∧
    (∀ v : BitVec 32, 3 ≤ s.dev.mode.code → let e := s.start.baseWrite 0 (0xA04000 + 0x20 * l.val) (v.toNat ||| 0x100)
      (e.flag (R.KSL_LANE_CFG_ALIGN l.val) = true → ∃ t : Dev, exec (.bitslip l v) s = .next (s.after t) ∧ t.fld (R.KSL_LANE_SLIP_PENDING l.val) = min (e.fld (R.KSL_LANE_SLIP_PENDING l.val) + 1) 63) ∧
      (e.flag (R.KSL_LANE_CFG_ALIGN l.val) = false → ∃ t : Dev, exec (.bitslip l v) s = .next (s.after t) ∧ t.fld (R.KSL_LANE_SLIP_PENDING l.val) = e.fld (R.KSL_LANE_SLIP_PENDING l.val) ∧
        t.flag (R.KSL_LANE_EVENTS_BITSLIP_IGNORED l.val) = true ∧ t.flag R.KSL_EVENTS_BITSLIP_IGNORED = true)) ∧
    (0 < s.dev.fld (R.KSL_LANE_SLIP_PENDING l.val) → ∃ t : Dev, exec (.bitslipApply l) s = .next (s.after t) ∧ t.fld (R.KSL_LANE_SLIP_PENDING l.val) = s.dev.fld (R.KSL_LANE_SLIP_PENDING l.val) - 1 ∧
      t.fld (R.KSL_LANE_SLIP_SLIPS l.val) = (s.dev.fld (R.KSL_LANE_SLIP_SLIPS l.val) + 1) % 65536 ∧ s.dev.keeps t (· = (R.KSL_LANE_SLIP l.val).addr))) ∧
  (∀ (d : Dev) (side : Fin 2) (i l : Nat), seamRxOf l = some (side.val, i) →
    (i ∉ (d.seamPort side.val).order → ∀ signal : Bool, d.laneLost l signal = d) ∧
    (i ∈ (d.seamPort side.val).order → d.stage side.val = 5 → ∀ signal : Bool, d.laneLost l signal = d.portDown side.val) ∧
    (i ∈ (d.seamPort side.val).order → d.stage side.val = 3 → d.laneLost l false = d.lockFail side.val))) ∧
  ((∀ (s : State) (side : Fin 2), s.dev.mode ≠ .reset → let k := side.val; let x := s.start.seamPort k
    (∀ present : List (Fin 8), let ps := (List.range 8).filter fun i => (present.map Fin.val).contains i
      s.start.stage k = 1 → ps ≠ [] → exec (.detectProbe side present) s = .next (s.after ((s.start.setSeamPort k { x with present := ps, order := [] }).enterTrain k))) ∧
    (∀ (second : Bool) (count sent : Nat) (sets : List KtsIn), s.start.stage k = 2 → x.phase ≠ 1 →
      let e := (sets.foldl (fun d i => d.takeKts k second count i) s.start).noteWidth k
      ((e.seamPort k).order = [] → exec (.ktsReceive side second count sent sets) s = .next (s.after (sets.foldl (fun d i => d.emit (.kts k i.lane false (d.ktsOut k i.lane i.ask))) e))) ∧
      ((e.seamPort k).order ≠ [] → second = true → (∀ i ∈ (e.seamPort k).order, 8 ≤ ((e.seamPort k).rx i).second) → 16 ≤ (e.seamPort k).sent + sent → (e.seamPort k).phase = 0 →
        let y := { e.seamPort k with sent := (e.seamPort k).sent + sent }
        (2 ≤ (e.seamPort k).target → ∃ t : Dev, exec (.ktsReceive side second count sent sets) s = .next (s.after t) ∧ t.seamPort k = { y with phase := 1, phaseAt := e.time } ∧ t.regs = e.regs ∧ t.out = e.out) ∧
        ((e.seamPort k).target < 2 → exec (.ktsReceive side second count sent sets) s = .next (s.after ((e.setSeamPort k y).enterLock k))))) ∧
    (s.start.stage k = 2 → x.phase = 0 → exec (.trainTimeout side) s = .next (s.after (((s.start.advance (x.trainAt + usCycles 20000)).seamCode k 0x7001).enterDetect k))) ∧
    (s.start.stage k = 2 → x.phase = 1 → x.order = [] → ∃ t : Dev, exec (.rateIdleEnd side) s = .next (s.after t) ∧ (t.seamPort k).phase = 2 ∧ (t.seamPort k).sent = 0 ∧ (t.seamPort k).lanes = [] ∧ t.fld (R.KSL_PORT_STATUS_RATE k) = x.target % 4) ∧
    (s.start.stage k = 2 → x.phase = 2 → (x.order.all fun i => (x.rx i).eqDone && s.start.eqOwn k i) = false →
      exec (.eqTimeout side) s = .next (s.after (((s.start.advance (x.phaseAt + usCycles 24000)).seamErr k R.KSL_EVENTS_EQ_FAIL 0x7002).excludeRate k))) ∧
    (s.start.stage k = 3 → exec (.lockFail side) s = .next (s.after ((s.start.seamErr k R.KSL_EVENTS_LOCK_FAIL 0x7003).excludeRate k))) ∧
    (s.start.stage k = 3 → ∃ e : Dev, exec (.lockHoldDone side) s = .next (s.after (e.sendCap k)) ∧ e.stage k = 4 ∧
      e.seamPort k = { x with txSeq := 0, rxSeq := 0, unacked := [], waiting := [], replays := 0, ignoring := false }) ∧
    (∀ v : BitVec 32, 3 ≤ s.dev.mode.code → exec (.portRetry side v) s = .next (s.after ((s.start.baseWrite 0 (0xA01000 + 0x100 * k) (v.toNat ||| 0x100)).portRetry k))) ∧
    (s.start.stage k = 4 → s.dev.flag (R.KSL_PORT_STATUS_MISMATCH k) = true → exec (.capResend side) s = .next (s.after ((s.start.advance (x.capAt + usCycles 10000)).sendCap k))) ∧
    (s.start.stage k = 5 → s.dev.flag (R.KSL_PORT_CFG_DOZE_EN k) = true → s.dev.fld (R.KSL_PORT_STATUS_TX_PWR k) = 0 → x.unacked = [] → x.waiting = [] →
      let e := s.start.advance (x.lastSent + usCycles (max (s.dev.fld (R.KSL_PORT_CFG_DOZE_IDLE_US k)) 1))
      ∃ t : Dev, exec (.dozeIdleExpiry side) s = .next (s.after t) ∧ t.fld (R.KSL_PORT_STATUS_TX_PWR k) = 1 ∧ t.out = e.out ++ [.seamSet k 1 (OrderedSet.doze.symbols (e.seamRate k))]) ∧
    (s.start.stage k = 5 → s.dev.fld (R.KSL_PORT_STATUS_RX_PWR k) = 0 → ∃ t : Dev, exec (.dozeReceive side) s = .next (s.after t) ∧ t.fld (R.KSL_PORT_STATUS_RX_PWR k) = 1 ∧ t.seamPort k = { x with wakeAt := none } ∧
      s.dev.keeps t (· = (R.KSL_PORT_STATUS k).addr)) ∧
    (s.dev.fld (R.KSL_PORT_STATUS_RX_PWR k) = 1 → ∃ t : Dev, exec (.wakeDetect side) s = .next (s.after t) ∧ t.fld (R.KSL_PORT_STATUS_RX_PWR k) = 0 ∧ t.seamPort k = { x with wakeAt := some s.dev.time } ∧
      s.dev.keeps t (· = (R.KSL_PORT_STATUS k).addr)) ∧
    (∀ t : Nat, x.wakeAt = some t → s.start.stage k = 5 → exec (.wakeLockTimeout side) s = .next (s.after ((s.start.advance (t + usCycles 10)).portDown k)))) ∧
  (∀ (d : Dev) (side : Fin 2), let k := side.val
    (∃ e : Dev, d.enterDetect k = e.recount ∧ e.stage k = 1 ∧ e.fld (R.KSL_PORT_STATUS_EXCLUDED k) = 0 ∧ e.fld (R.KSL_PORT_STATUS_TX_PWR k) = 0 ∧ e.fld (R.KSL_PORT_STATUS_RX_PWR k) = 0 ∧ (e.seamPort k).present = [] ∧ (e.seamPort k).order = []) ∧
    (∃ e : Dev, d.enterTrain k = e.recount ∧ (e.seamPort k).phase = 0 ∧ (e.seamPort k).order = [] ∧ (e.seamPort k).trainAt = d.time ∧
      (e.seamPort k).present = (if (d.seamPort k).order = [] then (d.seamPort k).present else (d.seamPort k).order)) ∧
    (d.fld (R.KSL_PORT_STATUS_RATE k) ≤ 1 → d.excludeRate k = d.enterDetect k) ∧
    (2 ≤ d.fld (R.KSL_PORT_STATUS_RATE k) → d.excludeRate k = (d.setFld (Fld.bit (R.KSL_PORT_STATUS_EXCLUDED k) (d.fld (R.KSL_PORT_STATUS_RATE k) - 1)) 1).enterTrain k) ∧
    (d.stage k = 5 → ∃ e : Dev, d.portDown k = e.enterDetect k ∧ e.fld (R.KSL_PORT_CNT1_DOWN_CNT k) = min (d.fld (R.KSL_PORT_CNT1_DOWN_CNT k) + 1) 65535 ∧ e.fld R.KSL_LAST_ERR_CODE = 0x7007 ∧ e.fld R.KSL_LAST_ERR_PORT = k ∧
      e.flag R.KSL_EVENTS_PORT_DOWN = true) ∧
    (d.stage k = 4 → d.flag (R.KSL_PORT_STATUS_MISMATCH k) = true → d.portRetry k = (d.setFld (R.KSL_PORT_STATUS_EXCLUDED k) 0).enterDetect k) ∧
    (d.stage k ≠ 4 ∨ d.flag (R.KSL_PORT_STATUS_MISMATCH k) = false → d.portRetry k = d.setFld (R.KSL_PORT_STATUS_EXCLUDED k) 0)))

/-- R448, R452, R455, R456: what a seam port does with a packet before its type matters. A port below EXCHANGE, and one that waits
for an SDS, takes nothing, and a packet of a type that the port does not carry yet is discarded. A packet whose framing is broken counts FRAME_ERR and is answered with a NAK, and one of an unacknowledged
type whose CRC is wrong counts CRC_ERR. A reliable packet in order is acknowledged, one that came before is acknowledged again and not taken, and
any other, or one whose CRC is wrong, is answered with a NAK. A packet for the partner alone and one addressed to this device are taken and go no
further, a broadcast is taken and forwarded, and any other is forwarded alone. -/
def Obligations.PacketReception : Prop :=
  ∀ (d : Dev) (side : Fin 2) (t : Nat) (p : RxPacket), let k := side.val; let x := d.seamPort k
    (d.stage k < 4 → d.rxPacket k t p = (d, false)) ∧
    (4 ≤ d.stage k → p.framed = false → x.ignoring = false ∨ p.sds = true → ∃ e : Dev, d.rxPacket k t p = (e.sendAck k true, false) ∧ e.seamPort k = { x with ignoring := true } ∧
      e.fld (R.KSL_PORT_CNT0_FRAME_ERR k) = min (d.fld (R.KSL_PORT_CNT0_FRAME_ERR k) + 1) 65535 ∧ e.fld R.KSL_LAST_ERR_CODE = 0x700A ∧ e.fld R.KSL_LAST_ERR_PORT = k ∧ e.flag R.KSL_EVENTS_FRAME_ERR = true) ∧
    (x.ignoring = true → p.sds = false → d.rxPacket k t p = (d, false)) ∧
    (4 ≤ d.stage k → d.carries k t = false → p.framed = true → x.ignoring = false ∨ p.sds = true → ∃ e : Dev, d.rxPacket k t p = (e, false) ∧ e.seamPort k = { x with ignoring := false, wakeAt := none } ∧ e.out = d.out) ∧
    (4 ≤ d.stage k → d.carries k t = true → p.framed = true → x.ignoring = false ∨ p.sds = true → ∃ e : Dev, e.seamPort k = { x with ignoring := false, wakeAt := none } ∧ e.mode = d.mode ∧ e.blob = d.blob ∧ e.pos = d.pos ∧
      let next := (x.rxSeq + 1) % 65536
      (reliable t = true → p.crcOk = false → d.rxPacket k t p = (e.sendAck k true, false)) ∧
      (reliable t = true → p.crcOk = true → p.lseq = next → let f := (e.setSeamPort k { e.seamPort k with rxSeq := next }).sendAck k false
        (partnerOnly t = true → d.rxPacket k t p = (f, true)) ∧
        (partnerOnly t = false → p.bcast = true → d.rxPacket k t p = (f.forward k t p, true)) ∧
        (partnerOnly t = false → p.bcast = false → p.dst = f.ownPos → d.rxPacket k t p = (f, true)) ∧
        (partnerOnly t = false → p.bcast = false → p.dst ≠ f.ownPos → d.rxPacket k t p = (f.forward k t p, false))) ∧
      (reliable t = true → p.crcOk = true → p.lseq ≠ next → (next + 65535 - p.lseq) % 65536 < 32768 → d.rxPacket k t p = (e.sendAck k false, false)) ∧
      (reliable t = true → p.crcOk = true → p.lseq ≠ next → 32768 ≤ (next + 65535 - p.lseq) % 65536 → d.rxPacket k t p = (e.sendAck k true, false)) ∧
      (reliable t = false → p.crcOk = false → ∃ f : Dev, d.rxPacket k t p = (f, false) ∧ f.fld (R.KSL_PORT_CNT0_CRC_ERR k) = min (e.fld (R.KSL_PORT_CNT0_CRC_ERR k) + 1) 65535 ∧ f.fld R.KSL_LAST_ERR_CODE = 0x7008 ∧ f.flag R.KSL_EVENTS_CRC_ERR = true) ∧
      (reliable t = false → p.crcOk = true → partnerOnly t = true → d.rxPacket k t p = (e, true)) ∧
      (reliable t = false → p.crcOk = true → partnerOnly t = false → p.bcast = true → d.rxPacket k t p = (e.forward k t p, true)) ∧
      (reliable t = false → p.crcOk = true → partnerOnly t = false → p.bcast = false → p.dst = e.ownPos → d.rxPacket k t p = (e, true)) ∧
      (reliable t = false → p.crcOk = true → partnerOnly t = false → p.bcast = false → p.dst ≠ e.ownPos → d.rxPacket k t p = (e.forward k t p, false)))

/-- R172, R234, R447, R456, R459, R460, R491: a packet that its port hands on does what its type says. CAP tells of the partner and, checked, moves
the port on or leaves it with MISMATCH. ACK releases what it acknowledges and, as a NAK, replays the rest; a replay goes out as well 20 µs after an unacknowledged
packet, and the seventeenth takes the port down with REPLAY_FAIL. LINKINFO fills the device table, one whose PLACE has an address of type 3 is malformed (log 253, the model's choice), and each device sends its own when it is due.
SYNC gives a slave its row, SYNC_REQ reaches the master. COMMIT is kept for its index, or refused when no mode is framed or the index has passed; COMMIT_RESULT is noted for its sender,
and 10 ms after the hand-over the commits that still wait end. BORDER and YIELD are kept for their row, or thrown away with their event when they come late.
R172, R234, R447, R456, R460, R491: what the operations of these packets do. -/
def Obligations.SeamPackets : Prop :=
  ((∀ (s : State) (side : Fin 2) (p : RxPacket) (x : Dev), s.dev.mode ≠ .reset → let k := side.val
    (s.start.rxPacket k PT.cap p = (x, true) → exec (.capReceive side p) s = .next (s.after (x.capReceive k p.payload))) ∧
    (s.start.rxPacket k PT.ack p = (x, true) → exec (.ackReceive side p) s = .next (s.after (x.ackReceive k (leAt p.payload 0 2) (bitOf (leAt p.payload 2 2) 0)))) ∧
    (s.start.rxPacket k PT.linkinfo p = (x, true) → exec (.linkinfoReceive side p) s = .next (s.after (x.linkinfoTake k p))) ∧
    (s.start.rxPacket k PT.sync p = (x, true) → exec (.syncReceive side p) s = .next (s.after (x.syncReceive p.payload))) ∧
    (s.start.rxPacket k PT.syncReq p = (x, true) → exec (.syncReqReceive side p) s = .next (s.after (x.syncReqReceive p.payload))) ∧
    (s.start.rxPacket k PT.commit p = (x, true) → exec (.commitReceive side p) s = .next (s.after (x.commitReceive p.payload))) ∧
    (s.start.rxPacket k PT.commitResult p = (x, true) → exec (.commitResultReceive side p) s = .next (s.after (x.commitResult p.payload))) ∧
    (s.start.rxPacket k PT.border p = (x, true) → exec (.borderReceive side p) s = .next (s.after (x.borderReceive k (borderOf p.payload)))) ∧
    (s.start.rxPacket k PT.yield p = (x, true) → exec (.yieldReceive side p) s = .next (s.after (x.yieldReceive p.src p.payload))) ∧
    (∀ (u : Packet × Nat) (us : List (Packet × Nat)), (s.start.seamPort k).unacked = u :: us → let e := s.start.advance (u.2 + usCycles 20)
      (e.fld (R.KSL_PORT_POWER_TX_FORCE k) = 1 → exec (.replayTimeout side) s = .next (s.after e)) ∧
      (e.fld (R.KSL_PORT_POWER_TX_FORCE k) ≠ 1 → (e.seamPort k).unacked ≠ [] → (e.seamPort k).replays < 16 → exec (.replayTimeout side) s = .next (s.after (e.replayAll k))) ∧
      (e.fld (R.KSL_PORT_POWER_TX_FORCE k) ≠ 1 → (e.seamPort k).unacked ≠ [] → 16 ≤ (e.seamPort k).replays → exec (.replayTimeout side) s = .next (s.after ((e.seamErr k R.KSL_EVENTS_REPLAY_FAIL 0x7009).portDown k)))) ∧
    exec .linkinfoTimer s = .next (s.after (s.start.broadcast PT.linkinfo (s.start.linkinfo s.dev.mode.code))) ∧
    (∀ (w : CommitWait) (ws : List CommitWait), s.dev.cfg.waits = w :: ws → exec .cascadeCommitTimeout s = .next (s.after ((s.start.advance (w.doneAt + usCycles 10000)).waitEnd true))))) ∧
  ((∀ (d : Dev) (side : Fin 2) (bs : List Byte), let k := side.val
    (∃ e : Dev, (d.stage k < 4 → d.capReceive k bs = e) ∧
      (4 ≤ d.stage k → e.capCode k bs = none → d.capReceive k bs = (e.capAccept k (leAt bs 2 1)).noteReady) ∧
      (d.stage k = 4 → ∀ code, e.capCode k bs = some code → d.capReceive k bs = (((e.setSeamPort k { e.seamPort k with held := false }).setFld (R.KSL_PORT_STATUS_MISMATCH k) 1).seamErr k R.KSL_EVENTS_MISMATCH code).noteReady) ∧
      (d.stage k = 5 → ∀ code, e.capCode k bs = some code → d.capReceive k bs = e.recount) ∧
      e.seamPort k = { d.seamPort k with pw := leAt bs 2 1, pe := leAt bs 3 1, place := leAt bs 8 4 } ∧ e.fld (R.KSL_PORT_STATUS_PARTNER_DEV k) = leAt bs 2 1 % 8 ∧ e.flag (R.KSL_PORT_STATUS_PARTNER_MASTER k) = bitOf (leAt bs 4 1) 7) ∧
    (d.flag R.KSL_CASCADE_FIXED = true → (d.seamPort k).held = true → d.capAccept k (leAt bs 2 1) = (d.setSeamPort k { d.seamPort k with held := true }).seamErr k R.KSL_EVENTS_CASCADE_CHANGE 0x700D) ∧
    (d.stage k = 4 → d.flag R.KSL_CASCADE_FIXED = false → ∃ e : Dev, d.capAccept k (leAt bs 2 1) = e.recount.sendLinkinfo ∧ e.stage k = 5 ∧ e.flag (R.KSL_PORT_STATUS_MISMATCH k) = false ∧ e.flag R.KSL_EVENTS_PORT_UP = true ∧
      (e.seamPort k).lastSent = d.time) ∧
    (∀ (n : Nat), (d.seamPort k).waiting = [] → (d.ackReceive k n false).seamPort k =
      let left := (d.seamPort k).unacked.filter fun u => decide (32768 ≤ (n + 65536 - u.1.lseq) % 65536)
      { d.seamPort k with unacked := left, replays := if left.length < (d.seamPort k).unacked.length then 0 else (d.seamPort k).replays }) ∧
    (∀ n : Nat, let left := (d.seamPort k).unacked.filter fun u => decide (32768 ≤ (n + 65536 - u.1.lseq) % 65536)
      d.ackReceive k n true = ((d.setSeamPort k { d.seamPort k with unacked := left, replays := if left.length < (d.seamPort k).unacked.length then 0 else (d.seamPort k).replays }).replay k).flushWaiting k) ∧
    ((d.seamPort k).unacked ≠ [] → d.fld (R.KSL_PORT_POWER_TX_FORCE k) ≠ 1 → (16 ≤ (d.seamPort k).replays → d.replay k = (d.seamErr k R.KSL_EVENTS_REPLAY_FAIL 0x7009).portDown k) ∧ ((d.seamPort k).replays < 16 → d.replay k = d.replayAll k)) ∧
    ((d.seamPort k).unacked ≠ [] → ∃ e : Dev, d.replayAll k = (d.seamPort k).unacked.foldl (fun d u => d.putOut k u.1) e ∧ e.fld (R.KSL_PORT_CNT1_REPLAY_CNT k) = min (d.fld (R.KSL_PORT_CNT1_REPLAY_CNT k) + 1) 65535 ∧
      (e.seamPort k).replays = (d.seamPort k).replays + 1 ∧ (e.seamPort k).unacked = (d.seamPort k).unacked.map fun u => (u.1, d.time)) ∧
    (∀ hops : Nat, leAt bs 24 4 / 2 ^ 30 = 3 → d.linkinfoReceive k hops bs = (d.seamErr k R.KSL_EVENTS_FRAME_ERR 0x700A, false)) ∧
    (∀ hops : Nat, leAt bs 24 4 / 2 ^ 30 ≠ 3 → 0 < hops → leAt bs 0 1 < 8 → ∃ e : Dev, d.linkinfoReceive k hops bs = (e.noteReady, bitOf (leAt bs 4 1) 1 && decide (leAt bs 3 1 = 6 ∨ leAt bs 3 1 = 7)) ∧
      (let o := leAt bs 0 1
       e.fld (R.KSL_DEV_EPOCH o) = leAt bs 8 4 % 2 ^ 32 ∧ e.fld (R.KSL_DEV_FP o) = leAt bs 16 8 % 2 ^ 64 ∧ e.fld (R.KSL_DEV_STATE_MODE o) = leAt bs 3 1 % 2 ^ 8 ∧ e.flag (R.KSL_DEV_STATE_VALID o) = true ∧
       (o ∈ e.masters ↔ bitOf (leAt bs 4 1) 1 = true))) ∧
    (∀ p : RxPacket, (d.linkinfoReceive k p.hops p.payload).2 = true → (d.linkinfoReceive k p.hops p.payload).1.isSlave = true → d.linkinfoTake k p = (d.linkinfoReceive k p.hops p.payload).1.start) ∧
    (d.isSlave = false → d.syncReceive bs = d ∧ d.syncReqReceive bs = (d.syncClash false).syncRequest (leAt bs 0 1)) ∧
    (d.isSlave = true → d.syncReqReceive bs = d ∧ ((d.setSync (leAt bs 0 8)).opsOf 0x05 = [] → d.syncReceive bs = d.setSync (leAt bs 0 8))) ∧
    (let e := d.setSync (leAt bs 0 8)
     e.prf.syncRow = some (leAt bs 0 8) ∧ e.fld R.BLV_PRF_SYNC_ROW = leAt bs 0 8 % 2 ^ 64 ∧ e.prf.lateSync = (d.mode.filters && decide (leAt bs 0 8 < d.blv.nextRow)) ∧
     (d.mode.filters = true → leAt bs 0 8 < d.blv.nextRow → e.flag R.BLV_PRF_EVENTS_SYNC_LATE = true)) ∧
    (let n := leAt bs 0 8; let who : Who := .remote (leAt bs 14 1) (leAt bs 8 4)
     (d.mode.framed = false → d.commitReceive bs = d.commitEnd [who] 0x800B 0 0) ∧
     (d.mode.framed = true → n ≤ d.pos.linesPassed → d.commitReceive bs = d.commitEnd [who] 0x800A 0 0) ∧
     (d.mode.framed = true → d.pos.linesPassed < n → leAt bs 12 1 ≠ 1 → ∃ e : Dev, d.commitReceive bs = e.notePending ∧ e.cfg.atIndex = d.cfg.atIndex ++ [{ index := some n, whos := [who], recipe := none }])) ∧
    (d.cfg.waits = [] → ∃ e : Dev, d.commitResult bs = e ∧ e.cfg.waits = [] ∧ e.cfg.atIndex = d.cfg.atIndex.map fun c => if c.token = some (leAt bs 0 4) then
      { c with answered := leAt bs 6 1 :: c.answered.filter (· ≠ leAt bs 6 1), refused := if leAt bs 4 2 ≠ 0 then leAt bs 6 1 :: c.refused else c.refused } else c) ∧
    (∀ b : BorderRow,
      (b.line < d.blob.nextRow → ∃ e : Dev, d.borderReceive k b = e ∧ e.flag R.BLV_REC_EVENTS_SEAM_LATE = true ∧ e.fld R.BLV_REC_LAST_ERR = 0x9004 ∧ e.blob = d.blob) ∧
      (d.blob.nextRow ≤ b.line → (∀ w, d.blob.work = some w → w.line = b.line → w.joinedAt = none) → (d.borderReceive k b).borders k = ((d.borders k).filter fun x => x.line ≠ b.line) ++ [b])) ∧
    (∀ dev : Nat, let y := yieldOf bs
      (y.1 < d.blob.nextRow → ∃ e : Dev, d.yieldReceive dev bs = e ∧ e.flag R.BLV_REC_EVENTS_YIELD_DISCARD = true ∧ e.fld R.BLV_REC_LAST_ERR = 0x9005 ∧ e.fld R.BLV_REC_CNT_YIELD_DISCARD_CNT = min (d.fld R.BLV_REC_CNT_YIELD_DISCARD_CNT + 1) 65535 ∧ e.blob = d.blob) ∧
      (d.blob.nextRow ≤ y.1 → (d.blob.yields.find? fun z => decide (z.line = y.1) && decide (z.device = dev)) = none → (d.yieldReceive dev bs).blob.yields = d.blob.yields.filter (fun z => !(decide (z.line = y.1) && decide (z.device = dev))) ++ [{ line := y.1, device := dev, last := y.2.1, entries := y.2.2 }]))))

/-- The message that has come over a transport that runs (R498 to R502). -/
def Sys2Proof.Machine.Dev.message (d : Dev) (p : Peer) (raw : List Byte) : Option Ksp :=
  if d.porchUp p.transport then (if p.transport = 2 then uartFrame raw else some raw).bind kspOf else none

/-- A request of one TYPE (R502, R503). -/
def Sys2Proof.Machine.Dev.requests (d : Dev) (p : Peer) (raw : List Byte) (t : Nat) (q : Ksp) : Prop :=
  d.message p raw = some q ∧ q.response = false ∧ q.type = t ∧ (d.mode = .foyer → t = 1)

/-- A request of the open session that is the next one, with its least payload (R503, R506). -/
def Sys2Proof.Machine.Dev.inTurn (d : Dev) (p : Peer) (raw : List Byte) (t least : Nat) (q : Ksp) (se : Session) : Prop :=
  d.requests p raw t q ∧ d.svc.session = some se ∧ q.tagged = true ∧ q.session = se.id ∧ q.tag = (hmac se.key q.signed).take 16 ∧ q.seq = (se.seq + 1) % 2 ^ 32 ∧ least ≤ q.payload.length

/-- The session once it has taken a request (R506). -/
def Sys2Proof.Machine.Dev.turn (d : Dev) (q : Ksp) (se : Session) : Dev :=
  d.setSvc fun x => { x with session := some { se with lastAt := d.time, seq := q.seq, response := [] } }

/-- R500, R502, R503, R506: what becomes of bytes that come to the Porch. Bytes that are no message, come over a transport that does not run or hold a response are
dropped; in FOYER HELLO alone is taken; a TYPE outside the table is answered with MSG_BAD. A session's request without an open session, its identity or its TAG is answered with SESSION_BAD,
a repetition of the last request with the stored response, and any other SEQ but the next is dropped; a payload too short is answered with MSG_BAD. A response goes out with its TAG and is stored. -/
def Obligations.PorchMessages : Prop :=
  ∀ (d : Dev) (p : Peer) (raw : List Byte) (t least : Nat) (body : Ksp → Dev → Dev),
    (d.message p raw = none → d.porchIn p raw t body = d) ∧
    (∀ q : Ksp, d.message p raw = some q →
      (q.response = true → d.porchIn p raw t body = d) ∧
      (d.mode = .foyer → q.type ≠ 1 → d.porchIn p raw t body = d) ∧
      (q.response = false → (d.mode = .foyer → q.type = 1) → kspListed q.type = false → d.porchIn p raw t body = d.answer p q 0x6005 []) ∧
      (q.response = false → (d.mode = .foyer → q.type = 1) → kspListed q.type = true → q.type = t → d.porchIn p raw t body = body q d)) ∧
    (∀ q : Ksp, d.requests p raw t q → kspListed t = true →
      (d.svc.session = none → d.inSession p raw t least body = d.answer p q 0x6004 []) ∧
      (∀ se : Session, d.svc.session = some se →
        (q.tagged = false ∨ q.session ≠ se.id ∨ q.tag ≠ (hmac se.key q.signed).take 16 → d.inSession p raw t least body = d.answer p q 0x6004 []) ∧
        (q.tagged = true → q.session = se.id → q.tag = (hmac se.key q.signed).take 16 →
          (q.seq = se.seq → se.response ≠ [] → ∃ e : Dev, d.inSession p raw t least body = e.porchSend p se.response ∧ e.svc.session = some { se with lastAt := d.time } ∧ e.regs = d.regs) ∧
          (q.seq ≠ se.seq ∨ se.response = [] → q.seq ≠ (se.seq + 1) % 2 ^ 32 → d.inSession p raw t least body = d) ∧
          (q.seq = (se.seq + 1) % 2 ^ 32 → q.payload.length < least → d.inSession p raw t least body = (d.turn q se).reply p q 0x6005 []) ∧
          (q.seq = (se.seq + 1) % 2 ^ 32 → least ≤ q.payload.length → d.inSession p raw t least body = body q (d.turn q se))))) ∧
    (∀ (q : Ksp) (status : Nat) (payload : List Byte) (se : Session), d.svc.session = some se → se.seq = q.seq → let bs := kspResponse q status payload (some se.key)
      ∃ e : Dev, d.reply p q status payload = (e.noteCode status).porchSend p bs ∧ e.svc.session = some { se with response := bs } ∧ e.regs = d.regs ∧ e.out = d.out) ∧
    (∀ bs : List Byte, d.porchSend p bs = if p.transport = 2 then d.emit (.porch p 0 (uartEscape bs)) else d.emit (.porch p (d.nextHop p.ip) bs))

/-- R498, R503 to R507: HELLO answers with a fresh nonce; OPEN with the right proof opens a session, and otherwise counts its refusal; the session's requests CLOSE, KEEPALIVE, STATUS, REG_READ, REG_WRITE,
LOG_READ and RESET are answered and act; a session without a request for 30 s closes; ARP requests for the part's address are answered and the PHY's link is shown. -/
def Obligations.PorchSessions : Prop :=
  ∀ (s : State) (p : Peer) (raw : List Byte) (q : Ksp), s.dev.mode ≠ .reset →
    (s.start.requests p raw 1 q → let nonce := leBytes 32 (Config.random s.dev.draws).toNat
      ∃ (e : Dev) (rest : List Byte), exec (.hello p raw) s = .next (s.after (e.answer p q 0 (leBytes 4 s.start.devicePlace ++ leBytes 1 s.dev.mode.code ++ leBytes 1 (b2n Config.secureBoot + 2 * b2n Config.keySet) ++ rest ++ nonce))) ∧
        e.svc.nonce = some (nonce, s.dev.time, s.start.devicePlace) ∧ e.draws = s.dev.draws + 1) ∧
    (s.start.requests p raw 2 q →
      (q.payload.length < 68 → exec (.openSession p raw) s = .next (s.after (s.start.openRefused p q 0x6005))) ∧
      (68 ≤ q.payload.length → s.dev.svc.session ≠ none → exec (.openSession p raw) s = .next (s.after (s.start.openRefused p q 0x6003))) ∧
      (68 ≤ q.payload.length → s.dev.svc.session = none → Config.keySet = false → Config.secureBoot = true → exec (.openSession p raw) s = .next (s.after (s.start.openRefused p q 0x6002))) ∧
      (68 ≤ q.payload.length → s.dev.svc.session = none → (Config.keySet = true ∨ Config.secureBoot = false) →
        ((s.start.nonceNow = none ∨ ∃ (nonceD : List Byte) (place : Nat), s.start.nonceNow = some (nonceD, place) ∧ slice q.payload 32 32 ≠ hmac serviceKey (label "HOST" ++ nonceD ++ slice q.payload 0 32 ++ leBytes 4 place)) →
          ∃ e : Dev, exec (.openSession p raw) s = .next (s.after (e.openRefused p q 0x6001)) ∧ e.svc.nonce = none ∧ e.svc.session = none ∧ e.flag R.SVC_EVENTS_AUTH_FAIL = true) ∧
        (∀ (nonceD : List Byte) (place : Nat), s.start.nonceNow = some (nonceD, place) → slice q.payload 32 32 = hmac serviceKey (label "HOST" ++ nonceD ++ slice q.payload 0 32 ++ leBytes 4 place) →
          let id := 1 + leNat (leBytes 32 (Config.random s.dev.draws).toNat) % (2 ^ 32 - 1)
          let service := bitOf (leAt q.payload 64 1) 0
          ∃ e : Dev, e.svc.session = some { transport := p.transport, id := id, key := hmac serviceKey (label "KSP1" ++ nonceD ++ slice q.payload 0 32), service := service, lastAt := s.dev.time } ∧
            e.fld R.SVC_STATUS_SESSION = p.transport % 4 ∧ e.flag R.SVC_EVENTS_SESSION_OPEN = true ∧
            let f := e.answer p q 0 (leBytes 4 id ++ hmac serviceKey (label "DEVC" ++ slice q.payload 0 32 ++ nonceD))
            exec (.openSession p raw) s = .next (s.after (if service then f.modeRequest 10 .reg else f))))) ∧
    (∀ se : Session, let e := s.start.turn q se
      (s.start.inTurn p raw 3 0 q se → exec (.closeSession p raw) s = .next (s.after (e.reply p q 0 []).sessionClose)) ∧
      (s.start.inTurn p raw 4 0 q se → exec (.keepalive p raw) s = .next (s.after (e.reply p q 0 []))) ∧
      (s.start.inTurn p raw 0x10 0 q se → ∃ rest : List Byte, exec (.status p raw) s = .next (s.after (e.reply p q 0 (leBytes 1 s.dev.mode.code ++ leBytes 1 (s.dev.fld R.SVC_STATUS_UPD_STATE) ++ leBytes 1 (s.dev.fld R.SVC_STATUS_TARGET) ++ rest ++
        (leBytes 4 (s.dev.fld R.GLB_EPOCH) ++ leBytes 8 (s.dev.fld R.GLB_FINGERPRINT) ++ leBytes 2 (s.dev.fld R.SVC_LAST_ERR) ++ zeros 6))))) ∧
      (s.start.inTurn p raw 0x11 6 q se → let a := leAt q.payload 0 4; let n := leAt q.payload 4 2
        (a % 4 ≠ 0 ∨ n = 0 ∨ 256 < n → exec (.regRead p raw) s = .next (s.after (e.reply p q 0x6005 []))) ∧
        (a % 4 = 0 → 0 < n → n ≤ 256 →
          (s.start.porchReaches false a n = false → exec (.regRead p raw) s = .next (s.after (e.reply p q 0x6010 []))) ∧
          (s.start.porchReaches false a n = true → let x := (List.range n).foldl (fun (x : List Byte × Dev) i => (x.1 ++ leBytes 4 (x.2.read4 true (a + 4 * i)).1, (x.2.read4 true (a + 4 * i)).2)) ([], e)
            exec (.regRead p raw) s = .next (s.after (x.2.reply p q 0 x.1))))) ∧
      (s.start.inTurn p raw 0x12 8 q se → let a := leAt q.payload 0 4; let n := (q.payload.length - 4) / 4
        (a % 4 ≠ 0 ∨ q.payload.length % 4 ≠ 0 ∨ 256 < n → exec (.regWrite p raw) s = .next (s.after (e.reply p q 0x6005 []))) ∧
        (a % 4 = 0 → q.payload.length % 4 = 0 → n ≤ 256 →
          (s.start.porchReaches true a n = false → exec (.regWrite p raw) s = .next (s.after (e.reply p q 0x6010 []))) ∧
          (s.start.porchReaches true a n = true → exec (.regWrite p raw) s = .next (s.after ((List.range n).foldl (fun d i => d.regWrite 1 (a + 4 * i) (leAt q.payload (4 + 4 * i) 4)) (e.reply p q 0 [])))))) ∧
      (s.start.inTurn p raw 0x13 6 q se → let o := leAt q.payload 0 4; let n := leAt q.payload 4 2
        (n < 4 ∨ 1024 < n ∨ n % 4 ≠ 0 ∨ 0x400000 < o + n → exec (.logRead p raw) s = .next (s.after (e.reply p q 0x6005 []))) ∧
        (4 ≤ n → n ≤ 1024 → n % 4 = 0 → o + n ≤ 0x400000 → exec (.logRead p raw) s = .next (s.after (e.reply p q 0 ((List.range n).map fun i => Config.logByte s.dev.log.length (o + i)))))) ∧
      (s.start.inTurn p raw 0x14 4 q se →
        (leAt q.payload 0 4 ≠ 0x52535421 → exec (.kspReset p raw) s = .next (s.after (e.reply p q 0x6005 []))) ∧
        (leAt q.payload 0 4 = 0x52535421 → s.dev.mode.framed = true → exec (.kspReset p raw) s = .next (s.after (e.reply p q 0x600E []))) ∧
        (leAt q.payload 0 4 = 0x52535421 → s.dev.mode.framed = false → s.start.flashBusy = true → exec (.kspReset p raw) s = .next (s.after (e.reply p q 0x6009 []))) ∧
        (leAt q.payload 0 4 = 0x52535421 → s.dev.mode.framed = false → s.start.flashBusy = false → exec (.kspReset p raw) s = .next (s.after ((e.reply p q 0 []).warmReset (some 3)))))) ∧
    (∀ se : Session, s.dev.svc.session = some se → exec .sessionIdleTimeout s = .next (s.after (s.start.advance (se.lastAt + usCycles 30000000)).sessionClose)) ∧
    (∀ ip : BitVec 32, s.dev.flag R.SVC_STATUS_LINK_UP = true → ip.toNat ≠ 0 →
      (ip.toNat = s.dev.fld R.SVC_IP → exec (.arpRequest ip) s = .next (s.after (s.start.emit (.arpReply ip.toNat s.start.macAddress)))) ∧
      (ip.toNat ≠ s.dev.fld R.SVC_IP → exec (.arpRequest ip) s = .next (s.after s.start))) ∧
    (∀ up : Bool, ∃ d : Dev, exec (.ethernetLinkChange up) s = .next (s.after d) ∧ d.flag R.SVC_STATUS_LINK_UP = up ∧ s.dev.keeps d (· = R.SVC_STATUS.addr))

/-- R508 to R512, R514: a download begins or is taken up again, its chunks are staged, complete blocks are written and read back, the slot is verified, activated or given up; a trial is
confirmed once it has been healthy for HOLD_S, and is ended by its timer. -/
def Obligations.PorchUpdates : Prop :=
  ∀ (s : State) (p : Peer) (raw : List Byte) (q : Ksp) (se : Session), s.dev.mode ≠ .reset → let e := s.start.turn q se
    (s.start.inTurn p raw 0x20 40 q se → ∀ held : Option (List Byte),
      let target := leAt q.payload 0 1; let slot := leAt q.payload 1 1; let len := leAt q.payload 4 4; let digest := slice q.payload 8 32
      let trial := (target = 0 ∧ (s.dev.slotState 0 = 2 ∨ s.dev.slotState 1 = 2)) ∨ (target = 1 ∧ s.dev.rec_ 89 1 % 2 = 1)
      (2 < target ∨ (if target = 1 then 3 else 1) < slot → exec (.updBegin p raw held) s = .next (s.after (e.reply p q 0x6005 []))) ∧
      (target ≤ 2 → slot ≤ (if target = 1 then 3 else 1) →
        (s.start.slotInactive target slot = false → exec (.updBegin p raw held) s = .next (s.after (e.reply p q 0x6006 []))) ∧
        (s.start.slotInactive target slot = true → trial → exec (.updBegin p raw held) s = .next (s.after (e.reply p q 0x6007 []))) ∧
        (s.start.slotInactive target slot = true → ¬ trial → (slotPlace target slot).2 < len → exec (.updBegin p raw held) s = .next (s.after (e.reply p q 0x6008 []))) ∧
        (s.start.slotInactive target slot = true → ¬ trial → len ≤ (slotPlace target slot).2 →
          (∀ x : Download, s.dev.svc.download = some x → ¬ (x.target = target ∧ x.slot = slot) → exec (.updBegin p raw held) s = .next (s.after (e.reply p q 0x6009 []))) ∧
          (∀ x : Download, s.dev.svc.download = some x → x.target = target → x.slot = slot → x.len = len → x.digest = digest →
            exec (.updBegin p raw held) s = .next (s.after (e.reply p q 0 ([1, 0, 0, 0] ++ leBytes 48 ((x.blocks.map fun b => 2 ^ b).sum))))) ∧
          ((∀ x : Download, s.dev.svc.download = some x → x.target = target ∧ x.slot = slot ∧ ¬ (x.len = len ∧ x.digest = digest)) →
            let w := e.recordWrite (putAt e.recordBase (13 + slot) [0]) held
            (target = 0 → w.2 = false → exec (.updBegin p raw held) s = .next (s.after (w.1.reply p q 0x600D []))) ∧
            (target ≠ 0 ∨ w.2 = true → ∃ f : Dev, exec (.updBegin p raw held) s = .next (s.after (f.reply p q 0 ([0, 0, 0, 0] ++ leBytes 48 0))) ∧ f.svc.download = some { target := target, slot := slot, len := len, digest := digest } ∧
              f.svc.verifying = none ∧ f.fld R.SVC_STATUS_UPD_STATE = (if len = 0 then 2 else 1) ∧ f.flashLog = if target = 0 then w.1.flashLog else e.flashLog))))) ∧
    (s.start.inTurn p raw 0x21 9 q se → let o := leAt q.payload 0 4; let bs := q.payload.drop 8
      (s.dev.svc.download = none → exec (.updData p raw) s = .next (s.after (e.reply p q 0x6009 []))) ∧
      (∀ x : Download, s.dev.svc.download = some x →
        (o % 1024 ≠ 0 ∨ 1024 < bs.length ∨ x.len < o + bs.length → exec (.updData p raw) s = .next (s.after (e.reply p q 0x6005 []))) ∧
        (o % 1024 = 0 → bs.length ≤ 1024 → o + bs.length ≤ x.len → let b := o / 65536
          let whole := x.blocks.contains b || (x.staged.contains b && x.full b)
          let begun := x.staged.filter fun c => !x.full c
          (whole = true → exec (.updData p raw) s = .next (s.after (e.reply p q 0 []))) ∧
          (whole = false → begun.contains b = false → 4 ≤ begun.length → exec (.updData p raw) s = .next (s.after (e.reply p q 0x600A []))) ∧
          (whole = false → begun.contains b = true ∨ begun.length < 4 → exec (.updData p raw) s = .next (s.after ((e.setSvc fun z => { z with download := some { x with chunks := tset [] x.chunks (o / 1024) bs } }).reply p q 0 [])))))) ∧
    (∀ (x : Download) (b : Nat), s.dev.svc.download = some x → (x.staged.contains b && x.full b) = true →
      let want := x.blockBytes b ++ List.replicate (65536 - (x.blockBytes b).length) (0xFF : Byte)
      let at_ := (slotPlace x.target x.slot).1 + 65536 * b
      let y : Download := { x with chunks := x.chunks.filter (fun c => decide (c.1 / 64 ≠ b)), blocks := b :: x.blocks.filter (· ≠ b) }
      (∃ d : Dev, exec (.updBlockWritten b none) s = .next (s.after d) ∧ d.svc.download = some y ∧ d.flashLog = (at_, 65536, want) :: s.dev.flashLog ∧
        (y.blocks.length = y.blockCount → d.fld R.SVC_STATUS_UPD_STATE = 2) ∧ (y.blocks.length ≠ y.blockCount → d.regs = s.dev.regs)) ∧
      (∀ h : List Byte, let got := h.take 65536 ++ List.replicate (65536 - h.length) (0xFF : Byte)
        got ≠ want → ∃ d : Dev, exec (.updBlockWritten b (some h)) s = .next (s.after d) ∧ d.svc.download = none ∧ d.flashLog = (at_, 65536, got) :: s.dev.flashLog ∧ d.fld R.SVC_STATUS_UPD_STATE = 5 ∧ d.fld R.SVC_LAST_ERR = 0x600D ∧
          d.flag R.SVC_EVENTS_FLASH_FAIL = true)) ∧
    (s.start.inTurn p raw 0x22 0 q se → exec (.updQuery p raw) s = .next (s.after (e.reply p q 0 ([0, 0, 0, 0] ++ s.start.blocksMap)))) ∧
    (s.start.inTurn p raw 0x23 0 q se →
      (∀ x : Download, s.dev.svc.download = some x → x.blocks.length = x.blockCount → s.dev.svc.verifying = none → exec (.updVerify p raw) s = .next (s.after ((e.setSvc fun z => { z with verifying := some (p, q.seq) }).setFld R.SVC_STATUS_UPD_STATE 3))) ∧
      (s.dev.svc.download = none ∨ (∃ x : Download, s.dev.svc.download = some x ∧ x.blocks.length ≠ x.blockCount) → exec (.updVerify p raw) s = .next (s.after (e.reply p q 0x6009 [])))) ∧
    (∀ (x : Download) (seq : Nat), s.dev.svc.download = some x → s.dev.svc.verifying = some (p, seq) →
      let bs := s.start.flashImage (slotPlace x.target x.slot).1 (slotPlace x.target x.slot).2
      let check := updCheck x bs
      let code := if check = 0 then 0 else if check = 4 then 0x600C else 0x600B
      ∃ d : Dev, (s.dev.svc.session = none → exec .updVerifyDone s = .next (s.after d)) ∧
        (∀ z : Session, s.dev.svc.session = some z → exec .updVerifyDone s = .next (s.after (d.reply p { type := 0x23, response := false, tagged := true, session := z.id, seq := seq, payload := [], signed := [], tag := [] } code (leBytes 2 check)))) ∧
        d.svc.verifying = none ∧ d.fld R.SVC_STATUS_UPD_STATE = (if check = 0 then 4 else 5) ∧ (check = 0 → d.flag R.SVC_EVENTS_VERIFIED = true) ∧ (check ≠ 0 → d.fld R.SVC_LAST_ERR = code) ∧
        (check = 0 → x.target = 1 → d.cfg.recipes = tset [] s.dev.cfg.recipes x.slot bs)) ∧
    (s.start.inTurn p raw 0x24 1 q se → ∀ held : Option (List Byte), let boots := leAt q.payload 0 1
      (s.dev.svc.download = none → exec (.updActivate p raw held) s = .next (s.after (e.reply p q 0x6009 []))) ∧
      (∀ x : Download, s.dev.svc.download = some x →
        (s.dev.fld R.SVC_STATUS_UPD_STATE ≠ 4 ∨ x.target = 2 → exec (.updActivate p raw held) s = .next (s.after (e.reply p q 0x6009 []))) ∧
        (s.dev.fld R.SVC_STATUS_UPD_STATE = 4 → x.target ≠ 2 → boots = 0 ∨ 7 < boots → exec (.updActivate p raw held) s = .next (s.after (e.reply p q 0x6005 []))) ∧
        (s.dev.fld R.SVC_STATUS_UPD_STATE = 4 → x.target ≠ 2 → 1 ≤ boots → boots ≤ 7 →
          let base := s.start.recordBase
          let w := e.recordWrite (if x.target = 0 then putAt (putAt (putAt base (13 + x.slot) [2]) 12 (leBytes 1 x.slot)) 15 (leBytes 1 boots) else putAt (putAt (putAt base 88 (slice base 16 1)) 16 (leBytes 1 x.slot)) 89 [1]) held
          exec (.updActivate p raw held) s = .next (s.after (w.1.reply p q (if w.2 then 0 else 0x600D) []))))) ∧
    (s.start.inTurn p raw 0x25 0 q se → exec (.updAbort p raw) s = .next (s.after (((e.setSvc fun z => { z with download := none, verifying := none }).setFld R.SVC_STATUS_UPD_STATE 0).setFld R.SVC_STATUS_TARGET 0 |>.reply p q 0 []))) ∧
    (∀ (end_ : Nat) (held : Option (List Byte)), s.dev.svc.trialEnd = some end_ → s.dev.mode ≠ .foyer → s.dev.mode ≠ .recovery → s.dev.mode ≠ .fault → s.dev.fld R.GLB_EPOCH ≠ 0 →
      let due := max s.dev.time (s.dev.svc.healthyFrom + usCycles (1000000 * s.dev.holdSeconds))
      let d := s.start.advance due
      let w := d.recordWrite (putAt d.svc.record (13 + d.fld R.GLB_BOOT_FW_SLOT) [1]) held
      (end_ < due → exec (.trialConfirm held) s = .next (s.after s.start)) ∧
      (due ≤ end_ → w.2 = false → exec (.trialConfirm held) s = .next (s.after w.1)) ∧
      (due ≤ end_ → w.2 = true → ∃ f : Dev, exec (.trialConfirm held) s = .next (s.after f) ∧ f.svc.trialEnd = none ∧ f.fld R.SVC_STATUS_TRIAL = 0 ∧ f.flashLog = w.1.flashLog)) ∧
    (∀ end_ : Nat, s.dev.svc.trialEnd = some end_ → exec .trialTimerExpiry s = .next (s.after ((s.start.advance end_).warmReset (some 6))))
end

