-- ==== Sys2Proof/Laws/Bits.lean ====
section
/-!
SUPPORT. Bit fields of numbers: a field reads as what was put there, and the bits beside it stay.
-/
namespace Sys2Proof.Machine

theorem bits_lt (v lo w : Nat) : bits v lo w < 2 ^ w := Nat.mod_lt _ (Nat.two_pow_pos w)

/-- A number as what lies above a field, the field, and what lies below it. -/
theorem bits_split (v lo w : Nat) : v = (v / 2 ^ (lo + w) * 2 ^ w + bits v lo w) * 2 ^ lo + v % 2 ^ lo := by
  have h1 : v / 2 ^ lo = v / 2 ^ (lo + w) * 2 ^ w + bits v lo w := by
    unfold bits
    rw [Nat.pow_add, ← Nat.div_div_eq_div_mul]
    exact (Nat.div_add_mod' _ _).symm
  rw [← h1]
  exact (Nat.div_add_mod' _ _).symm

/-- The same for a number with a new value in the field. -/
theorem putBits_split (v lo w x : Nat) : putBits v lo w x = (v / 2 ^ (lo + w) * 2 ^ w + x % 2 ^ w) * 2 ^ lo + v % 2 ^ lo := by
  have h := bits_split v lo w
  unfold putBits
  rw [Nat.add_mul] at h ⊢
  omega

theorem putBits_low (v lo w x : Nat) : putBits v lo w x % 2 ^ lo = v % 2 ^ lo := by
  rw [putBits_split, Nat.mul_comm, Nat.mul_add_mod]
  exact Nat.mod_mod _ _

theorem putBits_shift (v lo w x : Nat) : putBits v lo w x / 2 ^ lo = v / 2 ^ (lo + w) * 2 ^ w + x % 2 ^ w := by
  rw [putBits_split, Nat.mul_comm, Nat.mul_add_div (Nat.two_pow_pos lo), Nat.div_eq_of_lt (Nat.mod_lt _ (Nat.two_pow_pos lo)), Nat.add_zero]

theorem putBits_high (v lo w x : Nat) : putBits v lo w x / 2 ^ (lo + w) = v / 2 ^ (lo + w) := by
  rw [Nat.pow_add, ← Nat.div_div_eq_div_mul, putBits_shift, Nat.mul_comm, Nat.mul_add_div (Nat.two_pow_pos w),
    Nat.div_eq_of_lt (Nat.mod_lt _ (Nat.two_pow_pos w)), Nat.add_zero, ← Nat.pow_add]

/-- A field reads as the low bits of what was put there. -/
@[simp] theorem bits_putBits_same (v lo w x : Nat) : bits (putBits v lo w x) lo w = x % 2 ^ w := by
  unfold bits
  rw [putBits_shift, Nat.mul_comm, Nat.mul_add_mod]
  exact Nat.mod_mod _ _

/-- A field below the one written stays. -/
theorem bits_putBits_below (v lo w x lo' w' : Nat) (h : lo' + w' ≤ lo) : bits (putBits v lo w x) lo' w' = bits v lo' w' := by
  have key : ∀ u : Nat, bits u lo' w' = bits (u % 2 ^ lo) lo' w' := fun u => by
    unfold bits
    rw [← Nat.mod_mod_of_dvd (u / 2 ^ lo') (Nat.pow_dvd_pow 2 (show w' ≤ lo - lo' by omega))]
    rw [← Nat.mod_mod_of_dvd (u % 2 ^ lo / 2 ^ lo') (Nat.pow_dvd_pow 2 (show w' ≤ lo - lo' by omega))]
    have e : 2 ^ lo = 2 ^ lo' * 2 ^ (lo - lo') := by rw [← Nat.pow_add]; congr 1; omega
    rw [e, Nat.mod_mul_right_div_self, Nat.mod_mod]
  rw [key, putBits_low, ← key]

/-- A field above the one written stays. -/
theorem bits_putBits_above (v lo w x lo' w' : Nat) (h : lo + w ≤ lo') : bits (putBits v lo w x) lo' w' = bits v lo' w' := by
  have e : 2 ^ lo' = 2 ^ (lo + w) * 2 ^ (lo' - (lo + w)) := by rw [← Nat.pow_add]; congr 1; omega
  unfold bits
  rw [e, ← Nat.div_div_eq_div_mul, ← Nat.div_div_eq_div_mul, putBits_high]

/-- A number stays within a width that holds the field. -/
theorem putBits_lt (v lo w x n : Nat) (h : lo + w ≤ n) (hv : v < 2 ^ n) : putBits v lo w x < 2 ^ n := by
  have hp : 2 ^ n = 2 ^ (lo + w) * 2 ^ (n - (lo + w)) := by rw [← Nat.pow_add]; congr 1; omega
  rw [hp] at hv ⊢
  rw [Nat.mul_comm] at hv ⊢
  rw [← Nat.div_lt_iff_lt_mul (Nat.two_pow_pos _)] at hv ⊢
  rwa [putBits_high]

end Sys2Proof.Machine
end

