-- ==== Sys2Proof/Laws/Tables.lean ====
section
/-!
SUPPORT. Sparse tables: reading what was written, and the canonical form that every write keeps.
-/
namespace Sys2Proof.Machine

/-! ### One key -/

/-- Reading passes over entries whose keys are at most a smaller key. -/
theorem tget_dropWhile {α : Type} (dflt : α) (i j : Nat) (h : i < j) :
    ∀ t : Tbl α, tget dflt (t.dropWhile fun e => decide (e.1 ≤ i)) j = tget dflt t j
  | [] => rfl
  | (k, v) :: t => by
    by_cases hk : k ≤ i
    · simp [hk, tget, tget_dropWhile dflt i j h t, show ¬ j = k by omega, show ¬ j < k by omega]
    · simp [hk]

/-- Keys at most `i` are not found behind an entry with a greater one. -/
theorem tget_dropWhile_le {α : Type} (dflt : α) (i j : Nat) (h : j ≤ i) :
    ∀ t : Tbl α, tget dflt (t.dropWhile fun e => decide (e.1 ≤ i)) j = dflt
  | [] => rfl
  | (k, v) :: t => by
    by_cases hk : k ≤ i
    · simpa [hk] using tget_dropWhile_le dflt i j h t
    · simp [hk, tget, show ¬ j = k by omega, show j < k by omega]

/-- A key reads as what was last written to it. -/
@[simp] theorem tget_tset_same {α : Type} [DecidableEq α] (dflt x : α) (i : Nat) :
    ∀ t : Tbl α, tget dflt (tset dflt t i x) i = x
  | [] => by by_cases hx : x = dflt <;> simp [tset, hx, tget]
  | (k, v) :: t => by
    by_cases hk : i = k
    · subst hk
      by_cases hx : x = dflt
      · simp [tset, hx, tget_dropWhile_le]
      · simp [tset, hx, tget]
    · by_cases hlt : i < k
      · by_cases hx : x = dflt <;> simp [tset, hk, hlt, hx, tget]
      · simp [tset, hk, hlt, tget, tget_tset_same dflt x i t]

/-- A write leaves every other key alone, whatever the two keys read as by default. -/
theorem tget_tset_other {α : Type} [DecidableEq α] (dflt e x : α) (i j : Nat) (h : j ≠ i) :
    ∀ t : Tbl α, tget e (tset dflt t i x) j = tget e t j
  | [] => by
    by_cases hx : x = dflt
    · simp [tset, hx]
    · by_cases hl : j < i <;> simp [tset, hx, tget, h, hl]
  | (k, v) :: t => by
    by_cases hk : i = k
    · subst hk
      by_cases hx : x = dflt
      · by_cases hl : j < i
        · simp [tset, hx, tget, h, hl, tget_dropWhile_le _ _ _ (Nat.le_of_lt hl)]
        · simp [tset, hx, tget, h, hl, tget_dropWhile e i j (by omega)]
      · simp [tset, hx, tget, h]
    · by_cases hlt : i < k
      · by_cases hx : x = dflt
        · simp [tset, hk, hlt, hx]
        · by_cases hl : j < i
          · simp [tset, hk, hlt, hx, tget, h, hl, show ¬ j = k by omega, show j < k by omega]
          · simp [tset, hk, hlt, hx, tget, h, hl]
      · simp [tset, hk, hlt, tget, tget_tset_other dflt e x i j h t]

/-! ### Canonical form -/

theorem tcanonFrom_mono {α : Type} [DecidableEq α] (d : Nat → α) {lo lo' : Nat} (h : lo' ≤ lo) :
    ∀ {t : Tbl α}, tcanonFrom d lo t = true → tcanonFrom d lo' t = true
  | [], _ => rfl
  | (k, v) :: t, ht => by
    simp only [tcanonFrom, Bool.and_eq_true, decide_eq_true_eq] at ht ⊢
    exact ⟨⟨by omega, ht.1.2⟩, ht.2⟩

/-- Dropping entries at the front keeps the canonical form, above the bound of what is dropped. -/
theorem tcanonFrom_dropWhile {α : Type} [DecidableEq α] (d : Nat → α) (b : Nat) :
    ∀ {t : Tbl α} {lo : Nat}, tcanonFrom d lo t = true → tcanonFrom d b (t.dropWhile fun e => decide (e.1 < b)) = true
  | [], _, _ => rfl
  | (k, v) :: t, lo, ht => by
    simp only [tcanonFrom, Bool.and_eq_true, decide_eq_true_eq] at ht
    by_cases hk : k < b
    · simpa [hk] using tcanonFrom_dropWhile d b ht.2
    · simp only [hk, decide_false, Bool.false_eq_true, not_false_eq_true, List.dropWhile_cons_of_neg, tcanonFrom, Bool.and_eq_true, decide_eq_true_eq]
      exact ⟨⟨by omega, ht.1.2⟩, ht.2⟩

/-- A run of entries below a bound followed by a table above it is in canonical form. -/
theorem tcanonFrom_append {α : Type} [DecidableEq α] (d : Nat → α) (b : Nat) {u : Tbl α} (hu : tcanonFrom d b u = true) :
    ∀ {t : Tbl α} {lo : Nat}, lo ≤ b → tcanonFrom d lo t = true → (∀ e ∈ t, e.1 < b) → tcanonFrom d lo (t ++ u) = true
  | [], lo, hlo, _, _ => tcanonFrom_mono d hlo hu
  | (k, v) :: t, lo, hlo, ht, hb => by
    simp only [tcanonFrom, Bool.and_eq_true, decide_eq_true_eq, List.cons_append] at ht ⊢
    have hk := hb (k, v) (by simp)
    exact ⟨ht.1, tcanonFrom_append d b hu hk ht.2 fun e he => hb e (by simp [he])⟩

theorem tcanonFrom_takeWhile {α : Type} [DecidableEq α] (d : Nat → α) (p : Nat × α → Bool) :
    ∀ {t : Tbl α} {lo : Nat}, tcanonFrom d lo t = true → tcanonFrom d lo (t.takeWhile p) = true
  | [], _, _ => rfl
  | (k, v) :: t, lo, ht => by
    simp only [tcanonFrom, Bool.and_eq_true, decide_eq_true_eq] at ht
    by_cases hp : p (k, v)
    · simp only [hp, List.takeWhile_cons_of_pos, tcanonFrom, Bool.and_eq_true, decide_eq_true_eq]
      exact ⟨ht.1, tcanonFrom_takeWhile d p ht.2⟩
    · simp [hp, tcanonFrom]

/-- New values, without those equal to the default, are in canonical form. -/
theorem tcanonFrom_placed {α : Type} [DecidableEq α] (dflt : α) :
    ∀ (xs : List α) (a lo : Nat), lo ≤ a → tcanonFrom (fun _ => dflt) lo ((placed a xs).filter fun x => x.2 ≠ dflt) = true
  | [], _, _, _ => rfl
  | x :: xs, a, lo, h => by
    have ih := tcanonFrom_placed dflt xs (a + 1)
    by_cases hx : x = dflt
    · simpa [placed, hx] using ih lo (by omega)
    · have := ih (a + 1) (Nat.le_refl _)
      simp only [placed, hx, ne_eq, not_false_eq_true, decide_true, List.filter_cons_of_pos, tcanonFrom, Bool.and_eq_true, decide_eq_true_eq]
      exact ⟨⟨h, trivial⟩, by simpa using this⟩

/-- The keys of new values lie within their run. -/
theorem placed_lt {α : Type} : ∀ (xs : List α) (a : Nat) (e : Nat × α), e ∈ placed a xs → e.1 < a + xs.length
  | [], _, _, h => by simp [placed] at h
  | x :: xs, a, e, h => by
    simp only [placed, List.mem_cons] at h
    rcases h with rfl | h
    · simp
    · have := placed_lt xs (a + 1) e h
      simp only [List.length_cons]; omega

/-- Entries that pass a test at the front pass it. -/
theorem takeWhile_lt {α : Type} (a : Nat) : ∀ (t : Tbl α) (e : Nat × α), e ∈ t.takeWhile (fun x => decide (x.1 < a)) → e.1 < a
  | [], _, h => by simp at h
  | y :: t, e, h => by
    by_cases hy : y.1 < a
    · simp only [hy, decide_true, List.takeWhile_cons_of_pos, List.mem_cons] at h
      rcases h with rfl | h
      · exact hy
      · exact takeWhile_lt a t e h
    · simp [hy] at h

/-- Replacing a run of keys keeps the canonical form. -/
theorem tcanon_tfill {α : Type} [DecidableEq α] (dflt : α) (t : Tbl α) (a n : Nat) (bs : List α)
    (h : tcanon (fun _ => dflt) t = true) : tcanon (fun _ => dflt) (tfill dflt t a n bs) = true := by
  unfold tcanon tfill at *
  have h3 := tcanonFrom_dropWhile _ (a + n) h
  have h1 := tcanonFrom_takeWhile _ (fun x => decide (x.1 < a)) h
  have h2 := tcanonFrom_append _ (a + n) h3 (Nat.le_add_right a n) (tcanonFrom_placed dflt (bs.take n) a a (Nat.le_refl a)) (by
    intro e he
    have := placed_lt _ _ _ ((List.mem_filter.mp he).1)
    simp only [List.length_take] at this
    omega)
  rw [List.append_assoc]
  exact tcanonFrom_append _ a h2 (Nat.zero_le a) h1 fun e he => takeWhile_lt a t e he

/-! ### Reading a replaced run -/

/-- A read passes over entries with smaller keys. -/
theorem tget_append_lt {α : Type} (dflt : α) (j : Nat) (u : Tbl α) :
    ∀ t : Tbl α, (∀ e ∈ t, e.1 < j) → tget dflt (t ++ u) j = tget dflt u j
  | [], _ => rfl
  | (k, v) :: t, h => by
    have hk := h (k, v) (by simp)
    simp only at hk
    simp [tget, show ¬ j = k by omega, show ¬ j < k by omega, tget_append_lt dflt j u t fun e he => h e (by simp [he])]

/-- A read does not reach beyond an entry with a greater key. -/
theorem tget_first_gt {α : Type} (dflt : α) (j : Nat) : ∀ u : Tbl α, (∀ e ∈ u, j < e.1) → tget dflt u j = dflt
  | [], _ => rfl
  | (k, v) :: u, h => by
    have hk := h (k, v) (by simp)
    simp only at hk
    simp [tget, show ¬ j = k by omega, hk]

/-- Entries at the front that are not below a bound hide what follows from smaller keys. -/
theorem tget_head_ge {α : Type} (dflt : α) (j a : Nat) (h : j < a) (p : Nat × α → Bool) (hp : ∀ e, p e = decide (e.1 < a)) (u : Tbl α) :
    tget dflt (u.dropWhile p) j = dflt := by
  induction u with
  | nil => rfl
  | cons e u ih =>
    by_cases hk : e.1 < a
    · simpa [hp, hk] using ih
    · obtain ⟨k, v⟩ := e
      simp only at hk
      simp [hp, hk, tget, show ¬ j = k by omega, show j < k by omega]

/-- A read below a bound sees the entries below it. -/
theorem tget_takeWhile {α : Type} (dflt : α) (j a : Nat) (h : j < a) (u : Tbl α) (hu : tget dflt u j = dflt) :
    ∀ t : Tbl α, tget dflt (t.takeWhile (fun x => decide (x.1 < a)) ++ u) j = tget dflt t j
  | [] => by simpa [tget] using hu
  | (k, v) :: t => by
    by_cases hk : k < a
    · simp only [hk, decide_true, List.takeWhile_cons_of_pos, List.cons_append, tget, tget_takeWhile dflt j a h u hu t]
    · simp [hk, tget, hu, show ¬ j = k by omega, show j < k by omega]

theorem tget_dropWhile_lt {α : Type} (dflt : α) (a j : Nat) (h : a ≤ j) :
    ∀ t : Tbl α, tget dflt (t.dropWhile fun x => decide (x.1 < a)) j = tget dflt t j
  | [] => rfl
  | (k, v) :: t => by
    by_cases hk : k < a
    · simp [hk, tget, tget_dropWhile_lt dflt a j h t, show ¬ j = k by omega, show ¬ j < k by omega]
    · simp [hk]

/-- The keys of new values are not below their run. -/
theorem placed_ge {α : Type} : ∀ (xs : List α) (a : Nat) (e : Nat × α), e ∈ placed a xs → a ≤ e.1
  | [], _, _, h => by simp [placed] at h
  | x :: xs, a, e, h => by
    simp only [placed, List.mem_cons] at h
    rcases h with rfl | h
    · exact Nat.le_refl _
    · have := placed_ge xs (a + 1) e h
      omega

/-- A key outside the run reads as before. -/
theorem tget_tfill_other {α : Type} [DecidableEq α] (dflt : α) (t : Tbl α) (a n : Nat) (bs : List α) (j : Nat)
    (h : j < a ∨ a + n ≤ j) : tget dflt (tfill dflt t a n bs) j = tget dflt t j := by
  unfold tfill
  rw [List.append_assoc]
  rcases h with h | h
  · refine tget_takeWhile dflt j a h _ ?_ t
    generalize hp : (placed a (bs.take n)).filter (fun x => decide (x.2 ≠ dflt)) = p
    have hge : ∀ e ∈ p, j < e.1 := fun e he => by
      subst hp; exact Nat.lt_of_lt_of_le h (placed_ge _ _ _ (List.mem_filter.mp he).1)
    cases p with
    | nil => exact tget_head_ge dflt j (a + n) (by omega) _ (fun _ => rfl) t
    | cons e p =>
      obtain ⟨k, v⟩ := e
      have := hge (k, v) (by simp)
      simp only at this
      simp [tget, show ¬ j = k by omega, this]
  · rw [tget_append_lt dflt j _ _ fun e he => Nat.lt_of_lt_of_le (takeWhile_lt a t e he) (by omega)]
    rw [tget_append_lt dflt j _ _ fun e he => by
      have := placed_lt _ _ _ (List.mem_filter.mp he).1
      simp only [List.length_take] at this
      omega]
    exact tget_dropWhile_lt dflt (a + n) j h t

/-- A read among new values. -/
theorem tget_placed {α : Type} [DecidableEq α] (dflt : α) (u : Tbl α) :
    ∀ (xs : List α) (a j : Nat), a ≤ j → tget dflt u j = dflt →
      tget dflt ((placed a xs).filter (fun x => decide (x.2 ≠ dflt)) ++ u) j = xs.getD (j - a) dflt
  | [], _, _, _, hu => by simpa [placed] using hu
  | x :: xs, a, j, h, hu => by
    by_cases hj : j = a
    · subst hj
      by_cases hx : x = dflt
      · subst hx
        simp only [placed, ne_eq, not_true_eq_false, decide_false, Bool.false_eq_true, not_false_eq_true, List.filter_cons_of_neg,
          Nat.sub_self, List.getD_cons_zero]
        generalize hp : (placed (j + 1) xs).filter (fun y => decide (¬ y.2 = x)) = p
        have hge : ∀ e ∈ p, j < e.1 := fun e he => by
          subst hp; exact placed_ge _ _ _ (List.mem_filter.mp he).1
        cases p with
        | nil => simpa using hu
        | cons e p =>
          obtain ⟨k, v⟩ := e
          have := hge (k, v) (by simp)
          simp only at this
          simp [tget, show ¬ j = k by omega, this]
      · simp [placed, hx, tget]
    · have ih := tget_placed dflt u xs (a + 1) j (by omega) hu
      have e1 : (x :: xs).getD (j - a) dflt = xs.getD (j - (a + 1)) dflt := by
        rw [show j - a = j - (a + 1) + 1 by omega, List.getD_cons_succ]
      rw [e1, ← ih]
      by_cases hx : x = dflt
      · simp [placed, hx]
      · simp [placed, hx, tget, hj, show ¬ j < a by omega]

/-- A key in the run reads as its new value, or as the default beyond the values given. -/
theorem tget_tfill_in {α : Type} [DecidableEq α] (dflt : α) (t : Tbl α) (a n : Nat) (bs : List α) (j : Nat)
    (h1 : a ≤ j) (h2 : j < a + n) : tget dflt (tfill dflt t a n bs) j = (bs.take n).getD (j - a) dflt := by
  unfold tfill
  rw [List.append_assoc]
  rw [tget_append_lt dflt j _ _ fun e he => Nat.lt_of_lt_of_le (takeWhile_lt a t e he) h1]
  exact tget_placed dflt _ _ a j h1 (tget_head_ge dflt j (a + n) h2 _ (fun _ => rfl) t)

end Sys2Proof.Machine
end

