-- ==== Sys2Proof/Laws/Registers.lean ====
section
/-!
SUPPORT. The register file: a field reads as what was stored in it, and every other field reads as before.
-/
namespace Sys2Proof.Machine

/-- Two fields that share no bit: they lie in different words, or beside each other in one word. -/
abbrev Fld.apart (f g : Fld) : Prop :=
  (g.addr ≠ f.addr ∧ (f.lo + f.w ≤ 32 ∨ g.addr ≠ f.addr + 4) ∧ (g.lo + g.w ≤ 32 ∨ g.addr + 4 ≠ f.addr)) ∨
  (g.addr = f.addr ∧ f.lo + f.w ≤ 32 ∧ g.lo + g.w ≤ 32 ∧ (g.lo + g.w ≤ f.lo ∨ f.lo + f.w ≤ g.lo))

/-! ### Words -/

@[simp] theorem reg_setReg_same (d : Dev) (a : Nat) (v : Word) : (d.setReg a v).reg a = v := by
  simp [Dev.reg, Dev.setReg]

theorem reg_setReg_other (d : Dev) (a b : Nat) (v : Word) (h : b ≠ a) : (d.setReg a v).reg b = d.reg b :=
  tget_tset_other _ _ _ _ _ h _

theorem reg_lt (d : Dev) (a : Nat) : (d.reg a).toNat < 2 ^ 32 := (d.reg a).isLt

theorem cell_lt (d : Dev) (f : Fld) : d.cell f < 2 ^ 64 := by
  have h1 := reg_lt d f.addr
  have h2 := reg_lt d (f.addr + 4)
  unfold Dev.cell
  split <;> omega

theorem cell_lt_word (d : Dev) (f : Fld) (h : f.lo + f.w ≤ 32) : d.cell f < 2 ^ 32 := by
  simpa [Dev.cell, h] using reg_lt d f.addr

/-! ### Fields -/

/-- A word that holds no part of a field stays when the field is stored. -/
theorem reg_setFld_other (d : Dev) (f : Fld) (v a : Nat) (h1 : a ≠ f.addr) (h2 : 32 < f.lo + f.w → a ≠ f.addr + 4) :
    (d.setFld f v).reg a = d.reg a := by
  unfold Dev.setFld
  dsimp only
  split
  · exact reg_setReg_other _ _ _ _ h1
  · rw [reg_setReg_other _ _ _ _ (h2 (by omega)), reg_setReg_other _ _ _ _ h1]

/-- The word of a field within one word, once the field is stored. -/
theorem reg_setFld_same (d : Dev) (f : Fld) (v : Nat) (h : f.lo + f.w ≤ 32) :
    (d.setFld f v).reg f.addr = BitVec.ofNat 32 (putBits (d.reg f.addr).toNat f.lo f.w v) := by
  simp [Dev.setFld, Dev.cell, h]

/-- What the words of a field hold once the field is stored. -/
theorem cell_setFld_same (d : Dev) (f : Fld) (v : Nat) (h : f.lo + f.w ≤ 64) :
    (d.setFld f v).cell f = putBits (d.cell f) f.lo f.w v := by
  by_cases h32 : f.lo + f.w ≤ 32
  · have hlt := putBits_lt (d.reg f.addr).toNat f.lo f.w v 32 h32 (reg_lt d f.addr)
    have hr := reg_setFld_same d f v h32
    simp only [Dev.cell, h32, if_true, Nat.add_zero, hr, BitVec.toNat_ofNat]
    exact Nat.mod_eq_of_lt hlt
  · have hlt := putBits_lt (d.cell f) f.lo f.w v 64 h (cell_lt d f)
    unfold Dev.setFld
    simp only [h32, if_false]
    generalize putBits (d.cell f) f.lo f.w v = c at hlt
    unfold Dev.cell
    simp only [h32, if_false, reg_setReg_same, reg_setReg_other _ _ _ _ (show f.addr ≠ f.addr + 4 by omega), BitVec.toNat_ofNat]
    omega

/-- A field reads as what was stored in it. -/
@[simp] theorem fld_setFld_same (d : Dev) (f : Fld) (v : Nat) (h : f.lo + f.w ≤ 64) : (d.setFld f v).fld f = v % 2 ^ f.w := by
  simp [Dev.fld, cell_setFld_same d f v h]

/-- Devices with the same words of a field read it alike. -/
theorem fld_congr {d d' : Dev} {f : Fld} (h1 : d'.reg f.addr = d.reg f.addr) (h2 : 32 < f.lo + f.w → d'.reg (f.addr + 4) = d.reg (f.addr + 4)) :
    d'.fld f = d.fld f := by
  unfold Dev.fld Dev.cell
  rw [h1]
  by_cases h : f.lo + f.w ≤ 32
  · simp [h]
  · simp [h, h2 (by omega)]

/-- Storing a field leaves every other field alone. -/
theorem fld_setFld_apart (d : Dev) (f g : Fld) (v : Nat) (h : f.apart g) : (d.setFld f v).fld g = d.fld g := by
  rcases h with ⟨h1, h2, h3⟩ | ⟨h1, h2, h3, h4⟩
  · refine fld_congr (reg_setFld_other _ _ _ _ h1 fun _ => by omega) fun hg => reg_setFld_other _ _ _ _ (by omega) fun _ => ?_
    omega
  · have hr := reg_setFld_same d f v h2
    have hlt := putBits_lt (d.reg f.addr).toNat f.lo f.w v 32 h2 (reg_lt d f.addr)
    simp only [Dev.fld, Dev.cell, h3, if_true, Nat.add_zero, h1, hr, BitVec.toNat_ofNat, Nat.mod_eq_of_lt hlt]
    rcases h4 with h4 | h4
    · exact bits_putBits_below _ _ _ _ _ _ h4
    · exact bits_putBits_above _ _ _ _ _ _ h4

/-- One bit of a field within a word. -/
theorem fld_bit (d : Dev) (f : Fld) (i : Nat) (h : f.lo + f.w ≤ 32) (hi : i < f.w) : d.fld (Fld.bit f i) = d.fld f / 2 ^ i % 2 := by
  have hc : d.cell (Fld.bit f i) = d.cell f := by simp [Dev.cell, Fld.bit, h, show f.lo + i + 1 ≤ 32 by omega]
  unfold Dev.fld
  rw [hc]
  simp only [Fld.bit, bits, Nat.pow_one]
  rw [Nat.pow_add, ← Nat.div_div_eq_div_mul]
  have e : 2 ^ f.w = 2 ^ i * 2 ^ (f.w - i) := by rw [← Nat.pow_add]; congr 1; omega
  rw [e, Nat.mod_mul_right_div_self, Nat.mod_mod_of_dvd]
  exact Nat.pow_dvd_pow 2 (show 1 ≤ f.w - i by omega)

theorem fld_lt (d : Dev) (f : Fld) : d.fld f < 2 ^ f.w := bits_lt _ _ _

/-! ### The register file by itself -/

/-- The word at an address in a register file. -/
def regOf (t : Tbl Word) (a : Nat) : Word := tget (resetWord a) t a

/-- A field in a register file. -/
def fldOf (t : Tbl Word) (f : Fld) : Nat := ({ regs := t } : Dev).fld f

theorem reg_of (d : Dev) (a : Nat) : d.reg a = regOf d.regs a := rfl
theorem fld_of (d : Dev) (f : Fld) : d.fld f = fldOf d.regs f := rfl
theorem sfld_of (d : Dev) (f : Fld) : d.sfld f = sx f.w (fldOf d.regs f) := rfl
theorem flag_of (d : Dev) (f : Fld) : d.flag f = decide (fldOf d.regs f ≠ 0) := rfl
theorem live_of (d : Dev) (f : Fld) : d.live f = fldOf d.regs (liveOf f) := rfl
theorem slive_of (d : Dev) (f : Fld) : d.slive f = sx f.w (fldOf d.regs (liveOf f)) := rfl
theorem lflag_of (d : Dev) (f : Fld) : d.lflag f = decide (fldOf d.regs (liveOf f) ≠ 0) := rfl

theorem regOf_setReg_same (d : Dev) (a : Nat) (v : Word) : regOf (d.setReg a v).regs a = v := reg_setReg_same d a v
theorem regOf_setReg_other (d : Dev) (a b : Nat) (v : Word) (h : b ≠ a) : regOf (d.setReg a v).regs b = regOf d.regs b := reg_setReg_other d a b v h
theorem regOf_setFld_other (d : Dev) (f : Fld) (v a : Nat) (h : a ≠ f.addr ∧ (f.lo + f.w ≤ 32 ∨ a ≠ f.addr + 4)) : regOf (d.setFld f v).regs a = regOf d.regs a :=
  reg_setFld_other d f v a h.1 fun _ => by omega
theorem fldOf_setFld_same (d : Dev) (f : Fld) (v : Nat) (h : f.lo + f.w ≤ 64) : fldOf (d.setFld f v).regs f = v % 2 ^ f.w := fld_setFld_same d f v h
theorem fldOf_setFld_apart (d : Dev) (f g : Fld) (v : Nat) (h : f.apart g) : fldOf (d.setFld f v).regs g = fldOf d.regs g := fld_setFld_apart d f g v h
theorem fldOf_setReg_apart (d : Dev) (a : Nat) (g : Fld) (v : Word) (h : g.addr ≠ a ∧ (g.lo + g.w ≤ 32 ∨ g.addr + 4 ≠ a)) :
    fldOf (d.setReg a v).regs g = fldOf d.regs g :=
  fld_congr (d := d) (d' := d.setReg a v) (reg_setReg_other _ _ _ _ h.1) fun hg => reg_setReg_other _ _ _ _ (by omega)
theorem fldOf_lt (t : Tbl Word) (f : Fld) : fldOf t f < 2 ^ f.w := bits_lt _ _ _

end Sys2Proof.Machine
end

