-- ==== Sys2Proof/Laws/State.lean ====
section
/-!
SUPPORT. What each update of the state leaves alone: one lemma per field per update.
-/
namespace Sys2Proof.Machine

/-- Storing a field changes the register file alone. -/
theorem Dev.setFld_eq (d : Dev) (f : Fld) (v : Nat) : d.setFld f v = { d with regs := (d.setFld f v).regs } := by
  unfold Dev.setFld; dsimp only; split <;> rfl

@[simp] theorem State.dev_with (s : State) (d : Dev) : ({ s with dev := d } : State).dev = d := rfl
@[simp] theorem State.pending_with (s : State) (d : Dev) : ({ s with dev := d } : State).pending = s.pending := rfl

@[simp] theorem Dev.setReg_time (d : Dev) (a : Nat) (v : Word) : (d.setReg a v).time = d.time := rfl
@[simp] theorem Dev.setReg_mode (d : Dev) (a : Nat) (v : Word) : (d.setReg a v).mode = d.mode := rfl
@[simp] theorem Dev.setReg_faultReq (d : Dev) (a : Nat) (v : Word) : (d.setReg a v).faultReq = d.faultReq := rfl
@[simp] theorem Dev.setReg_pos (d : Dev) (a : Nat) (v : Word) : (d.setReg a v).pos = d.pos := rfl
@[simp] theorem Dev.setReg_plz (d : Dev) (a : Nat) (v : Word) : (d.setReg a v).plz = d.plz := rfl
@[simp] theorem Dev.setReg_ports (d : Dev) (a : Nat) (v : Word) : (d.setReg a v).ports = d.ports := rfl
@[simp] theorem Dev.setReg_rings (d : Dev) (a : Nat) (v : Word) : (d.setReg a v).rings = d.rings := rfl
@[simp] theorem Dev.setReg_corr (d : Dev) (a : Nat) (v : Word) : (d.setReg a v).corr = d.corr := rfl
@[simp] theorem Dev.setReg_blv (d : Dev) (a : Nat) (v : Word) : (d.setReg a v).blv = d.blv := rfl
@[simp] theorem Dev.setReg_windows (d : Dev) (a : Nat) (v : Word) : (d.setReg a v).windows = d.windows := rfl
@[simp] theorem Dev.setReg_prf (d : Dev) (a : Nat) (v : Word) : (d.setReg a v).prf = d.prf := rfl
@[simp] theorem Dev.setReg_chains (d : Dev) (a : Nat) (v : Word) : (d.setReg a v).chains = d.chains := rfl
@[simp] theorem Dev.setReg_handed (d : Dev) (a : Nat) (v : Word) : (d.setReg a v).handed = d.handed := rfl
@[simp] theorem Dev.setReg_blob (d : Dev) (a : Nat) (v : Word) : (d.setReg a v).blob = d.blob := rfl
@[simp] theorem Dev.setReg_recs (d : Dev) (a : Nat) (v : Word) : (d.setReg a v).recs = d.recs := rfl
@[simp] theorem Dev.setReg_dca (d : Dev) (a : Nat) (v : Word) : (d.setReg a v).dca = d.dca := rfl
@[simp] theorem Dev.setReg_marks (d : Dev) (a : Nat) (v : Word) : (d.setReg a v).marks = d.marks := rfl
@[simp] theorem Dev.setReg_rot (d : Dev) (a : Nat) (v : Word) : (d.setReg a v).rot = d.rot := rfl
@[simp] theorem Dev.setReg_cal (d : Dev) (a : Nat) (v : Word) : (d.setReg a v).cal = d.cal := rfl
@[simp] theorem Dev.setReg_pantry (d : Dev) (a : Nat) (v : Word) : (d.setReg a v).pantry = d.pantry := rfl
@[simp] theorem Dev.setReg_gal (d : Dev) (a : Nat) (v : Word) : (d.setReg a v).gal = d.gal := rfl
@[simp] theorem Dev.setReg_host (d : Dev) (a : Nat) (v : Word) : (d.setReg a v).host = d.host := rfl
@[simp] theorem Dev.setReg_dma (d : Dev) (a : Nat) (v : Word) : (d.setReg a v).dma = d.dma := rfl
@[simp] theorem Dev.setReg_seam (d : Dev) (a : Nat) (v : Word) : (d.setReg a v).seam = d.seam := rfl
@[simp] theorem Dev.setReg_masters (d : Dev) (a : Nat) (v : Word) : (d.setReg a v).masters = d.masters := rfl
@[simp] theorem Dev.setReg_mem (d : Dev) (a : Nat) (v : Word) : (d.setReg a v).mem = d.mem := rfl
@[simp] theorem Dev.setReg_cfg (d : Dev) (a : Nat) (v : Word) : (d.setReg a v).cfg = d.cfg := rfl
@[simp] theorem Dev.setReg_svc (d : Dev) (a : Nat) (v : Word) : (d.setReg a v).svc = d.svc := rfl
@[simp] theorem Dev.setReg_tst (d : Dev) (a : Nat) (v : Word) : (d.setReg a v).tst = d.tst := rfl
@[simp] theorem Dev.setReg_plat (d : Dev) (a : Nat) (v : Word) : (d.setReg a v).plat = d.plat := rfl
@[simp] theorem Dev.setReg_draws (d : Dev) (a : Nat) (v : Word) : (d.setReg a v).draws = d.draws := rfl
@[simp] theorem Dev.setReg_hiHost (d : Dev) (a : Nat) (v : Word) : (d.setReg a v).hiHost = d.hiHost := rfl
@[simp] theorem Dev.setReg_hiPorch (d : Dev) (a : Nat) (v : Word) : (d.setReg a v).hiPorch = d.hiPorch := rfl
@[simp] theorem Dev.setReg_fwVersion (d : Dev) (a : Nat) (v : Word) : (d.setReg a v).fwVersion = d.fwVersion := rfl
@[simp] theorem Dev.setReg_fwBuild (d : Dev) (a : Nat) (v : Word) : (d.setReg a v).fwBuild = d.fwBuild := rfl
@[simp] theorem Dev.setReg_log (d : Dev) (a : Nat) (v : Word) : (d.setReg a v).log = d.log := rfl
@[simp] theorem Dev.setReg_prints (d : Dev) (a : Nat) (v : Word) : (d.setReg a v).prints = d.prints := rfl
@[simp] theorem Dev.setReg_seeds (d : Dev) (a : Nat) (v : Word) : (d.setReg a v).seeds = d.seeds := rfl
@[simp] theorem Dev.setReg_taps (d : Dev) (a : Nat) (v : Word) : (d.setReg a v).taps = d.taps := rfl
@[simp] theorem Dev.setReg_tapsLive (d : Dev) (a : Nat) (v : Word) : (d.setReg a v).tapsLive = d.tapsLive := rfl
@[simp] theorem Dev.setReg_out (d : Dev) (a : Nat) (v : Word) : (d.setReg a v).out = d.out := rfl
@[simp] theorem Dev.setReg_dram (d : Dev) (a : Nat) (v : Word) : (d.setReg a v).dram = d.dram := rfl
@[simp] theorem Dev.setReg_flash (d : Dev) (a : Nat) (v : Word) : (d.setReg a v).flash = d.flash := rfl
@[simp] theorem Dev.setReg_dramLog (d : Dev) (a : Nat) (v : Word) : (d.setReg a v).dramLog = d.dramLog := rfl
@[simp] theorem Dev.setReg_flashLog (d : Dev) (a : Nat) (v : Word) : (d.setReg a v).flashLog = d.flashLog := rfl

@[simp] theorem Dev.setFld_time (d : Dev) (f : Fld) (v : Nat) : (d.setFld f v).time = d.time := by unfold Dev.setFld; dsimp only; split <;> rfl
@[simp] theorem Dev.setFld_mode (d : Dev) (f : Fld) (v : Nat) : (d.setFld f v).mode = d.mode := by unfold Dev.setFld; dsimp only; split <;> rfl
@[simp] theorem Dev.setFld_faultReq (d : Dev) (f : Fld) (v : Nat) : (d.setFld f v).faultReq = d.faultReq := by unfold Dev.setFld; dsimp only; split <;> rfl
@[simp] theorem Dev.setFld_pos (d : Dev) (f : Fld) (v : Nat) : (d.setFld f v).pos = d.pos := by unfold Dev.setFld; dsimp only; split <;> rfl
@[simp] theorem Dev.setFld_plz (d : Dev) (f : Fld) (v : Nat) : (d.setFld f v).plz = d.plz := by unfold Dev.setFld; dsimp only; split <;> rfl
@[simp] theorem Dev.setFld_ports (d : Dev) (f : Fld) (v : Nat) : (d.setFld f v).ports = d.ports := by unfold Dev.setFld; dsimp only; split <;> rfl
@[simp] theorem Dev.setFld_rings (d : Dev) (f : Fld) (v : Nat) : (d.setFld f v).rings = d.rings := by unfold Dev.setFld; dsimp only; split <;> rfl
@[simp] theorem Dev.setFld_corr (d : Dev) (f : Fld) (v : Nat) : (d.setFld f v).corr = d.corr := by unfold Dev.setFld; dsimp only; split <;> rfl
@[simp] theorem Dev.setFld_blv (d : Dev) (f : Fld) (v : Nat) : (d.setFld f v).blv = d.blv := by unfold Dev.setFld; dsimp only; split <;> rfl
@[simp] theorem Dev.setFld_windows (d : Dev) (f : Fld) (v : Nat) : (d.setFld f v).windows = d.windows := by unfold Dev.setFld; dsimp only; split <;> rfl
@[simp] theorem Dev.setFld_prf (d : Dev) (f : Fld) (v : Nat) : (d.setFld f v).prf = d.prf := by unfold Dev.setFld; dsimp only; split <;> rfl
@[simp] theorem Dev.setFld_chains (d : Dev) (f : Fld) (v : Nat) : (d.setFld f v).chains = d.chains := by unfold Dev.setFld; dsimp only; split <;> rfl
@[simp] theorem Dev.setFld_handed (d : Dev) (f : Fld) (v : Nat) : (d.setFld f v).handed = d.handed := by unfold Dev.setFld; dsimp only; split <;> rfl
@[simp] theorem Dev.setFld_blob (d : Dev) (f : Fld) (v : Nat) : (d.setFld f v).blob = d.blob := by unfold Dev.setFld; dsimp only; split <;> rfl
@[simp] theorem Dev.setFld_recs (d : Dev) (f : Fld) (v : Nat) : (d.setFld f v).recs = d.recs := by unfold Dev.setFld; dsimp only; split <;> rfl
@[simp] theorem Dev.setFld_dca (d : Dev) (f : Fld) (v : Nat) : (d.setFld f v).dca = d.dca := by unfold Dev.setFld; dsimp only; split <;> rfl
@[simp] theorem Dev.setFld_marks (d : Dev) (f : Fld) (v : Nat) : (d.setFld f v).marks = d.marks := by unfold Dev.setFld; dsimp only; split <;> rfl
@[simp] theorem Dev.setFld_rot (d : Dev) (f : Fld) (v : Nat) : (d.setFld f v).rot = d.rot := by unfold Dev.setFld; dsimp only; split <;> rfl
@[simp] theorem Dev.setFld_cal (d : Dev) (f : Fld) (v : Nat) : (d.setFld f v).cal = d.cal := by unfold Dev.setFld; dsimp only; split <;> rfl
@[simp] theorem Dev.setFld_pantry (d : Dev) (f : Fld) (v : Nat) : (d.setFld f v).pantry = d.pantry := by unfold Dev.setFld; dsimp only; split <;> rfl
@[simp] theorem Dev.setFld_gal (d : Dev) (f : Fld) (v : Nat) : (d.setFld f v).gal = d.gal := by unfold Dev.setFld; dsimp only; split <;> rfl
@[simp] theorem Dev.setFld_host (d : Dev) (f : Fld) (v : Nat) : (d.setFld f v).host = d.host := by unfold Dev.setFld; dsimp only; split <;> rfl
@[simp] theorem Dev.setFld_dma (d : Dev) (f : Fld) (v : Nat) : (d.setFld f v).dma = d.dma := by unfold Dev.setFld; dsimp only; split <;> rfl
@[simp] theorem Dev.setFld_seam (d : Dev) (f : Fld) (v : Nat) : (d.setFld f v).seam = d.seam := by unfold Dev.setFld; dsimp only; split <;> rfl
@[simp] theorem Dev.setFld_masters (d : Dev) (f : Fld) (v : Nat) : (d.setFld f v).masters = d.masters := by unfold Dev.setFld; dsimp only; split <;> rfl
@[simp] theorem Dev.setFld_mem (d : Dev) (f : Fld) (v : Nat) : (d.setFld f v).mem = d.mem := by unfold Dev.setFld; dsimp only; split <;> rfl
@[simp] theorem Dev.setFld_cfg (d : Dev) (f : Fld) (v : Nat) : (d.setFld f v).cfg = d.cfg := by unfold Dev.setFld; dsimp only; split <;> rfl
@[simp] theorem Dev.setFld_svc (d : Dev) (f : Fld) (v : Nat) : (d.setFld f v).svc = d.svc := by unfold Dev.setFld; dsimp only; split <;> rfl
@[simp] theorem Dev.setFld_tst (d : Dev) (f : Fld) (v : Nat) : (d.setFld f v).tst = d.tst := by unfold Dev.setFld; dsimp only; split <;> rfl
@[simp] theorem Dev.setFld_plat (d : Dev) (f : Fld) (v : Nat) : (d.setFld f v).plat = d.plat := by unfold Dev.setFld; dsimp only; split <;> rfl
@[simp] theorem Dev.setFld_draws (d : Dev) (f : Fld) (v : Nat) : (d.setFld f v).draws = d.draws := by unfold Dev.setFld; dsimp only; split <;> rfl
@[simp] theorem Dev.setFld_hiHost (d : Dev) (f : Fld) (v : Nat) : (d.setFld f v).hiHost = d.hiHost := by unfold Dev.setFld; dsimp only; split <;> rfl
@[simp] theorem Dev.setFld_hiPorch (d : Dev) (f : Fld) (v : Nat) : (d.setFld f v).hiPorch = d.hiPorch := by unfold Dev.setFld; dsimp only; split <;> rfl
@[simp] theorem Dev.setFld_fwVersion (d : Dev) (f : Fld) (v : Nat) : (d.setFld f v).fwVersion = d.fwVersion := by unfold Dev.setFld; dsimp only; split <;> rfl
@[simp] theorem Dev.setFld_fwBuild (d : Dev) (f : Fld) (v : Nat) : (d.setFld f v).fwBuild = d.fwBuild := by unfold Dev.setFld; dsimp only; split <;> rfl
@[simp] theorem Dev.setFld_log (d : Dev) (f : Fld) (v : Nat) : (d.setFld f v).log = d.log := by unfold Dev.setFld; dsimp only; split <;> rfl
@[simp] theorem Dev.setFld_prints (d : Dev) (f : Fld) (v : Nat) : (d.setFld f v).prints = d.prints := by unfold Dev.setFld; dsimp only; split <;> rfl
@[simp] theorem Dev.setFld_seeds (d : Dev) (f : Fld) (v : Nat) : (d.setFld f v).seeds = d.seeds := by unfold Dev.setFld; dsimp only; split <;> rfl
@[simp] theorem Dev.setFld_taps (d : Dev) (f : Fld) (v : Nat) : (d.setFld f v).taps = d.taps := by unfold Dev.setFld; dsimp only; split <;> rfl
@[simp] theorem Dev.setFld_tapsLive (d : Dev) (f : Fld) (v : Nat) : (d.setFld f v).tapsLive = d.tapsLive := by unfold Dev.setFld; dsimp only; split <;> rfl
@[simp] theorem Dev.setFld_out (d : Dev) (f : Fld) (v : Nat) : (d.setFld f v).out = d.out := by unfold Dev.setFld; dsimp only; split <;> rfl
@[simp] theorem Dev.setFld_dram (d : Dev) (f : Fld) (v : Nat) : (d.setFld f v).dram = d.dram := by unfold Dev.setFld; dsimp only; split <;> rfl
@[simp] theorem Dev.setFld_flash (d : Dev) (f : Fld) (v : Nat) : (d.setFld f v).flash = d.flash := by unfold Dev.setFld; dsimp only; split <;> rfl
@[simp] theorem Dev.setFld_dramLog (d : Dev) (f : Fld) (v : Nat) : (d.setFld f v).dramLog = d.dramLog := by unfold Dev.setFld; dsimp only; split <;> rfl
@[simp] theorem Dev.setFld_flashLog (d : Dev) (f : Fld) (v : Nat) : (d.setFld f v).flashLog = d.flashLog := by unfold Dev.setFld; dsimp only; split <;> rfl

@[simp] theorem Dev.emit_time (d : Dev) (o : Output) : (d.emit o).time = d.time := rfl
@[simp] theorem Dev.emit_regs (d : Dev) (o : Output) : (d.emit o).regs = d.regs := rfl
@[simp] theorem Dev.emit_mode (d : Dev) (o : Output) : (d.emit o).mode = d.mode := rfl
@[simp] theorem Dev.emit_faultReq (d : Dev) (o : Output) : (d.emit o).faultReq = d.faultReq := rfl
@[simp] theorem Dev.emit_pos (d : Dev) (o : Output) : (d.emit o).pos = d.pos := rfl
@[simp] theorem Dev.emit_plz (d : Dev) (o : Output) : (d.emit o).plz = d.plz := rfl
@[simp] theorem Dev.emit_ports (d : Dev) (o : Output) : (d.emit o).ports = d.ports := rfl
@[simp] theorem Dev.emit_rings (d : Dev) (o : Output) : (d.emit o).rings = d.rings := rfl
@[simp] theorem Dev.emit_corr (d : Dev) (o : Output) : (d.emit o).corr = d.corr := rfl
@[simp] theorem Dev.emit_blv (d : Dev) (o : Output) : (d.emit o).blv = d.blv := rfl
@[simp] theorem Dev.emit_windows (d : Dev) (o : Output) : (d.emit o).windows = d.windows := rfl
@[simp] theorem Dev.emit_prf (d : Dev) (o : Output) : (d.emit o).prf = d.prf := rfl
@[simp] theorem Dev.emit_chains (d : Dev) (o : Output) : (d.emit o).chains = d.chains := rfl
@[simp] theorem Dev.emit_handed (d : Dev) (o : Output) : (d.emit o).handed = d.handed := rfl
@[simp] theorem Dev.emit_blob (d : Dev) (o : Output) : (d.emit o).blob = d.blob := rfl
@[simp] theorem Dev.emit_recs (d : Dev) (o : Output) : (d.emit o).recs = d.recs := rfl
@[simp] theorem Dev.emit_dca (d : Dev) (o : Output) : (d.emit o).dca = d.dca := rfl
@[simp] theorem Dev.emit_marks (d : Dev) (o : Output) : (d.emit o).marks = d.marks := rfl
@[simp] theorem Dev.emit_rot (d : Dev) (o : Output) : (d.emit o).rot = d.rot := rfl
@[simp] theorem Dev.emit_cal (d : Dev) (o : Output) : (d.emit o).cal = d.cal := rfl
@[simp] theorem Dev.emit_pantry (d : Dev) (o : Output) : (d.emit o).pantry = d.pantry := rfl
@[simp] theorem Dev.emit_gal (d : Dev) (o : Output) : (d.emit o).gal = d.gal := rfl
@[simp] theorem Dev.emit_host (d : Dev) (o : Output) : (d.emit o).host = d.host := rfl
@[simp] theorem Dev.emit_dma (d : Dev) (o : Output) : (d.emit o).dma = d.dma := rfl
@[simp] theorem Dev.emit_seam (d : Dev) (o : Output) : (d.emit o).seam = d.seam := rfl
@[simp] theorem Dev.emit_masters (d : Dev) (o : Output) : (d.emit o).masters = d.masters := rfl
@[simp] theorem Dev.emit_mem (d : Dev) (o : Output) : (d.emit o).mem = d.mem := rfl
@[simp] theorem Dev.emit_cfg (d : Dev) (o : Output) : (d.emit o).cfg = d.cfg := rfl
@[simp] theorem Dev.emit_svc (d : Dev) (o : Output) : (d.emit o).svc = d.svc := rfl
@[simp] theorem Dev.emit_tst (d : Dev) (o : Output) : (d.emit o).tst = d.tst := rfl
@[simp] theorem Dev.emit_plat (d : Dev) (o : Output) : (d.emit o).plat = d.plat := rfl
@[simp] theorem Dev.emit_draws (d : Dev) (o : Output) : (d.emit o).draws = d.draws := rfl
@[simp] theorem Dev.emit_hiHost (d : Dev) (o : Output) : (d.emit o).hiHost = d.hiHost := rfl
@[simp] theorem Dev.emit_hiPorch (d : Dev) (o : Output) : (d.emit o).hiPorch = d.hiPorch := rfl
@[simp] theorem Dev.emit_fwVersion (d : Dev) (o : Output) : (d.emit o).fwVersion = d.fwVersion := rfl
@[simp] theorem Dev.emit_fwBuild (d : Dev) (o : Output) : (d.emit o).fwBuild = d.fwBuild := rfl
@[simp] theorem Dev.emit_log (d : Dev) (o : Output) : (d.emit o).log = d.log := rfl
@[simp] theorem Dev.emit_prints (d : Dev) (o : Output) : (d.emit o).prints = d.prints := rfl
@[simp] theorem Dev.emit_seeds (d : Dev) (o : Output) : (d.emit o).seeds = d.seeds := rfl
@[simp] theorem Dev.emit_taps (d : Dev) (o : Output) : (d.emit o).taps = d.taps := rfl
@[simp] theorem Dev.emit_tapsLive (d : Dev) (o : Output) : (d.emit o).tapsLive = d.tapsLive := rfl
@[simp] theorem Dev.emit_dram (d : Dev) (o : Output) : (d.emit o).dram = d.dram := rfl
@[simp] theorem Dev.emit_flash (d : Dev) (o : Output) : (d.emit o).flash = d.flash := rfl
@[simp] theorem Dev.emit_dramLog (d : Dev) (o : Output) : (d.emit o).dramLog = d.dramLog := rfl
@[simp] theorem Dev.emit_flashLog (d : Dev) (o : Output) : (d.emit o).flashLog = d.flashLog := rfl

end Sys2Proof.Machine
end

