-- ==== Sys2Proof/Laws/Events.lean ====
section
/-!
SUPPORT. Events: what putting an event on the Plaza, or setting a bit of an event register, changes (R286, R289, R563).
-/
namespace Sys2Proof.Machine

theorem channelsOf_lt (d : Dev) (p c : Nat) (h : c ∈ d.channelsOf p) : c < 1024 := by
  unfold Dev.channelsOf at h
  rw [List.mem_filterMap] at h
  obtain ⟨⟨a, v⟩, _, h⟩ := h
  dsimp only at h
  split at h
  · simp only [Option.some.injEq] at h; omega
  · simp at h

/-- Counting on channels changes nothing but their counters. -/
theorem countOn_eq (cs : List Nat) : ∀ d : Dev,
    cs.foldl (fun d c => d.incr (R.PLZ_CH_CNT c)) d = { d with regs := (cs.foldl (fun d c => d.incr (R.PLZ_CH_CNT c)) d).regs } := by
  induction cs with
  | nil => intro d; rfl
  | cons c cs ih =>
    intro d
    simp only [List.foldl_cons]
    rw [ih]
    simp [Dev.incr]

theorem countOn_reg (cs : List Nat) (a : Nat) : ∀ d : Dev, (∀ c ∈ cs, c < 1024) → ¬ chanCount a →
    (cs.foldl (fun d c => d.incr (R.PLZ_CH_CNT c)) d).reg a = d.reg a := by
  induction cs with
  | nil => intro d _ _; rfl
  | cons c cs ih =>
    intro d hc ha
    simp only [List.foldl_cons]
    rw [ih _ (fun c h => hc c (by simp [h])) ha]
    refine reg_setFld_other _ _ _ _ (fun h => ha ⟨c, hc c (by simp), h⟩) (fun h => ?_)
    simp [R.PLZ_CH_CNT] at h

/-- Putting an event on channels changes the Plaza and their counters. -/
theorem carry_eq (d : Dev) (e : Fired) : d.carry e = { d with regs := (d.carry e).regs, plz := (d.carry e).plz } := by
  unfold Dev.carry
  dsimp only
  generalize hx : e.chans.foldl (fun d c => d.incr (R.PLZ_CH_CNT c)) d = x
  have h := countOn_eq e.chans d
  rw [hx] at h
  rw [h]

theorem carry_reg (d : Dev) (e : Fired) (a : Nat) (hc : ∀ c ∈ e.chans, c < 1024) (h : ¬ chanCount a) : (d.carry e).reg a = d.reg a :=
  countOn_reg _ a d hc h

/-- Routing an event changes the Plaza and its channel counters. -/
theorem route_eq (d : Dev) (p : Nat) (k : EvKind) (l a : Nat) (fl : Bool) :
    d.route p k l a fl = { d with regs := (d.route p k l a fl).regs, plz := (d.route p k l a fl).plz } := by
  unfold Dev.route
  split
  · rfl
  · dsimp only
    rw [carry_eq]

theorem route_reg (d : Dev) (p : Nat) (k : EvKind) (l b : Nat) (fl : Bool) (a : Nat) (h : ¬ chanCount a) :
    (d.route p k l b fl).reg a = d.reg a := by
  unfold Dev.route
  split
  · rfl
  · exact carry_reg _ _ _ (fun c => channelsOf_lt d p c) h

/-- Noting that a bit is set changes the Plaza's notes alone. -/
theorem noteSet_eq (d : Dev) (f : Fld) : d.noteSet f = { d with plz := (d.noteSet f).plz } := rfl

@[simp] theorem noteSet_reg (d : Dev) (f : Fld) (a : Nat) : (d.noteSet f).reg a = d.reg a := rfl
@[simp] theorem noteSet_fld (d : Dev) (f g : Fld) : (d.noteSet f).fld g = d.fld g := rfl
@[simp] theorem noteSet_regs (d : Dev) (f : Fld) : (d.noteSet f).regs = d.regs := rfl

/-- Setting a W1C bit changes its word and the Plaza's notes. -/
theorem setBit_eq (d : Dev) (f : Fld) : d.setBit f = { d with regs := (d.setBit f).regs, plz := (d.setBit f).plz } := by
  unfold Dev.setBit
  rw [Dev.setFld_eq]
  rfl

@[simp] theorem setBit_reg (d : Dev) (f : Fld) (a : Nat) : (d.setBit f).reg a = (d.setFld f 1).reg a := rfl
@[simp] theorem setBit_fld (d : Dev) (f g : Fld) : (d.setBit f).fld g = (d.setFld f 1).fld g := rfl
@[simp] theorem setBit_regs (d : Dev) (f : Fld) : (d.setBit f).regs = (d.setFld f 1).regs := rfl

theorem regOf_route (d : Dev) (p : Nat) (k : EvKind) (l b : Nat) (fl : Bool) (a : Nat) (h : ¬ chanCount a) :
    regOf (d.route p k l b fl).regs a = regOf d.regs a := route_reg d p k l b fl a h

theorem not_chanCount {a : Nat} (h : a < 0x402000 ∨ 0x403000 ≤ a) : ¬ chanCount a := by
  rintro ⟨c, hc, rfl⟩
  simp only [R.PLZ_CH_CNT] at h
  omega

/-- Setting a bit of an event register changes that bit, the Plaza and its channel counters. -/
theorem raise_eq (d : Dev) (f : Fld) : d.raise f = { d with regs := (d.raise f).regs, plz := (d.raise f).plz } := by
  unfold Dev.raise
  split
  · rfl
  · dsimp only
    split
    · split
      · rw [setBit_eq]
      · rw [route_eq, setBit_eq]
    · rw [setBit_eq]

theorem raiseIf_eq (d : Dev) (b : Bool) (f : Fld) : d.raiseIf b f = { d with regs := (d.raiseIf b f).regs, plz := (d.raiseIf b f).plz } := by
  cases b
  · rfl
  · exact raise_eq d f

theorem raise_reg (d : Dev) (f : Fld) (a : Nat) (hf : f.lo + f.w ≤ 32) (h1 : a ≠ f.addr) (h2 : ¬ chanCount a) : (d.raise f).reg a = d.reg a := by
  have hs : ∀ v, (d.setFld f v).reg a = d.reg a := fun v => reg_setFld_other d f v a h1 (by omega)
  unfold Dev.raise
  split
  · rfl
  · dsimp only
    split
    · split
      · exact hs _
      · rw [route_reg _ _ _ _ _ _ _ h2, setBit_reg, hs]
    · exact hs _

/-- An event bit is set once it is raised. -/
theorem raise_fld (d : Dev) (f : Fld) (hf : f.lo + f.w ≤ 32) (hw : f.w = 1) (h : ¬ chanCount f.addr) : (d.raise f).fld f = 1 := by
  unfold Dev.raise
  split
  · next hx =>
    rw [noteSet_fld]
    have := fld_lt d f
    rw [hw] at this
    simp only [Dev.flag, ne_eq, decide_not, Bool.not_eq_eq_eq_not, Bool.not_true, decide_eq_false_iff_not] at hx
    omega
  · dsimp only
    have hs : (d.setFld f 1).fld f = 1 := by simp [fld_setFld_same d f 1 (by omega), hw]
    split
    · split
      · exact hs
      · rw [fld_congr (d := d.setBit f) (route_reg _ _ _ _ _ _ _ h) (by omega), setBit_fld, hs]
    · exact hs

/-- A field outside the channel counters. -/
abbrev Fld.offChan (g : Fld) : Prop := g.addr + 4 < 0x402000 ∨ 0x403000 ≤ g.addr

theorem route_fld (d : Dev) (p : Nat) (k : EvKind) (l b : Nat) (fl : Bool) (g : Fld) (h : g.offChan) : (d.route p k l b fl).fld g = d.fld g := by
  unfold Fld.offChan at h
  exact fld_congr (route_reg _ _ _ _ _ _ _ (not_chanCount (by omega))) fun _ => route_reg _ _ _ _ _ _ _ (not_chanCount (by omega))

/-- Raising an event bit leaves every other field alone. -/
theorem raise_fld_apart (d : Dev) (f g : Fld) (h : f.apart g) (hg : g.offChan) : (d.raise f).fld g = d.fld g := by
  have hs : ∀ v, (d.setFld f v).fld g = d.fld g := fun v => fld_setFld_apart d f g v h
  unfold Dev.raise
  split
  · rfl
  · dsimp only
    split
    · split
      · exact hs _
      · rw [route_fld _ _ _ _ _ _ _ hg, setBit_fld, hs]
    · exact hs _

/-- An event with room for its LINEAGE goes to the channels bound to its producer. -/
theorem fire_low (d : Dev) (p : Nat) (k : EvKind) (l : Nat) (fl : Bool) (h : l < 7) : d.fire p k l fl = d.route p k l (d.producerAddr p) fl := by
  simp [Dev.fire, Nat.not_le.mpr h]

theorem fire_eq (d : Dev) (p : Nat) (k : EvKind) (l : Nat) (fl : Bool) :
    d.fire p k l fl = { d with regs := (d.fire p k l fl).regs, plz := (d.fire p k l fl).plz } := by
  unfold Dev.fire
  split
  · dsimp only [Dev.bump]
    rw [raise_eq, Dev.setFld_eq, Dev.setFld_eq, setBit_eq]
  · exact route_eq ..

theorem fire_reg (d : Dev) (p : Nat) (k : EvKind) (l : Nat) (fl : Bool) (a : Nat) (hl : l < 7) (h : ¬ chanCount a) : (d.fire p k l fl).reg a = d.reg a := by
  rw [fire_low _ _ _ _ _ hl, route_reg _ _ _ _ _ _ _ h]

theorem fire_fld (d : Dev) (p : Nat) (k : EvKind) (l : Nat) (fl : Bool) (g : Fld) (hl : l < 7) (h : g.offChan) : (d.fire p k l fl).fld g = d.fld g := by
  rw [fire_low _ _ _ _ _ hl, route_fld _ _ _ _ _ _ _ h]

/-! ### The same in terms of the register file by itself -/

theorem fldOf_route (d : Dev) (p : Nat) (k : EvKind) (l b : Nat) (fl : Bool) (g : Fld) (h : g.offChan) :
    fldOf (d.route p k l b fl).regs g = fldOf d.regs g := route_fld d p k l b fl g h
theorem regOf_raise (d : Dev) (f : Fld) (a : Nat) (h : f.lo + f.w ≤ 32 ∧ a ≠ f.addr) (hc : ¬ chanCount a) : regOf (d.raise f).regs a = regOf d.regs a :=
  raise_reg d f a h.1 h.2 hc
theorem regOf_setBit (d : Dev) (f : Fld) (a : Nat) (h : f.lo + f.w ≤ 32 ∧ a ≠ f.addr) : regOf (d.setBit f).regs a = regOf d.regs a :=
  (setBit_reg d f a).trans (reg_setFld_other d f 1 a h.2 (by omega))
theorem fldOf_setBit_same (d : Dev) (f : Fld) (h : f.lo + f.w ≤ 32 ∧ f.w = 1) : fldOf (d.setBit f).regs f = 1 :=
  (setBit_fld d f f).trans (by simp [fld_setFld_same d f 1 (by omega), h.2])
theorem fldOf_setBit_apart (d : Dev) (f g : Fld) (h : f.apart g) : fldOf (d.setBit f).regs g = fldOf d.regs g :=
  (setBit_fld d f g).trans (fld_setFld_apart d f g 1 h)
theorem fldOf_raise_same (d : Dev) (f : Fld) (h : f.lo + f.w ≤ 32 ∧ f.w = 1 ∧ f.offChan) : fldOf (d.raise f).regs f = 1 :=
  raise_fld d f h.1 h.2.1 (not_chanCount (by have := h.2.2; omega))
theorem fldOf_raise_apart (d : Dev) (f g : Fld) (h : f.apart g ∧ g.offChan) : fldOf (d.raise f).regs g = fldOf d.regs g := raise_fld_apart d f g h.1 h.2
theorem regOf_fire (d : Dev) (p : Nat) (k : EvKind) (l : Nat) (fl : Bool) (a : Nat) (hl : l < 7) (h : ¬ chanCount a) :
    regOf (d.fire p k l fl).regs a = regOf d.regs a := fire_reg d p k l fl a hl h
theorem fldOf_fire (d : Dev) (p : Nat) (k : EvKind) (l : Nat) (fl : Bool) (g : Fld) (hl : l < 7 ∧ g.offChan) :
    fldOf (d.fire p k l fl).regs g = fldOf d.regs g := fire_fld d p k l fl g hl.1 hl.2



/-! ### What an event leaves alone -/

@[simp] theorem Dev.route_time (d : Dev) (p : Nat) (k : EvKind) (l a : Nat) (fl : Bool) : (d.route p k l a fl).time = d.time := by rw [route_eq]
@[simp] theorem Dev.route_mode (d : Dev) (p : Nat) (k : EvKind) (l a : Nat) (fl : Bool) : (d.route p k l a fl).mode = d.mode := by rw [route_eq]
@[simp] theorem Dev.route_faultReq (d : Dev) (p : Nat) (k : EvKind) (l a : Nat) (fl : Bool) : (d.route p k l a fl).faultReq = d.faultReq := by rw [route_eq]
@[simp] theorem Dev.route_pos (d : Dev) (p : Nat) (k : EvKind) (l a : Nat) (fl : Bool) : (d.route p k l a fl).pos = d.pos := by rw [route_eq]
@[simp] theorem Dev.route_ports (d : Dev) (p : Nat) (k : EvKind) (l a : Nat) (fl : Bool) : (d.route p k l a fl).ports = d.ports := by rw [route_eq]
@[simp] theorem Dev.route_rings (d : Dev) (p : Nat) (k : EvKind) (l a : Nat) (fl : Bool) : (d.route p k l a fl).rings = d.rings := by rw [route_eq]
@[simp] theorem Dev.route_corr (d : Dev) (p : Nat) (k : EvKind) (l a : Nat) (fl : Bool) : (d.route p k l a fl).corr = d.corr := by rw [route_eq]
@[simp] theorem Dev.route_blv (d : Dev) (p : Nat) (k : EvKind) (l a : Nat) (fl : Bool) : (d.route p k l a fl).blv = d.blv := by rw [route_eq]
@[simp] theorem Dev.route_windows (d : Dev) (p : Nat) (k : EvKind) (l a : Nat) (fl : Bool) : (d.route p k l a fl).windows = d.windows := by rw [route_eq]
@[simp] theorem Dev.route_prf (d : Dev) (p : Nat) (k : EvKind) (l a : Nat) (fl : Bool) : (d.route p k l a fl).prf = d.prf := by rw [route_eq]
@[simp] theorem Dev.route_chains (d : Dev) (p : Nat) (k : EvKind) (l a : Nat) (fl : Bool) : (d.route p k l a fl).chains = d.chains := by rw [route_eq]
@[simp] theorem Dev.route_handed (d : Dev) (p : Nat) (k : EvKind) (l a : Nat) (fl : Bool) : (d.route p k l a fl).handed = d.handed := by rw [route_eq]
@[simp] theorem Dev.route_blob (d : Dev) (p : Nat) (k : EvKind) (l a : Nat) (fl : Bool) : (d.route p k l a fl).blob = d.blob := by rw [route_eq]
@[simp] theorem Dev.route_recs (d : Dev) (p : Nat) (k : EvKind) (l a : Nat) (fl : Bool) : (d.route p k l a fl).recs = d.recs := by rw [route_eq]
@[simp] theorem Dev.route_dca (d : Dev) (p : Nat) (k : EvKind) (l a : Nat) (fl : Bool) : (d.route p k l a fl).dca = d.dca := by rw [route_eq]
@[simp] theorem Dev.route_marks (d : Dev) (p : Nat) (k : EvKind) (l a : Nat) (fl : Bool) : (d.route p k l a fl).marks = d.marks := by rw [route_eq]
@[simp] theorem Dev.route_rot (d : Dev) (p : Nat) (k : EvKind) (l a : Nat) (fl : Bool) : (d.route p k l a fl).rot = d.rot := by rw [route_eq]
@[simp] theorem Dev.route_cal (d : Dev) (p : Nat) (k : EvKind) (l a : Nat) (fl : Bool) : (d.route p k l a fl).cal = d.cal := by rw [route_eq]
@[simp] theorem Dev.route_pantry (d : Dev) (p : Nat) (k : EvKind) (l a : Nat) (fl : Bool) : (d.route p k l a fl).pantry = d.pantry := by rw [route_eq]
@[simp] theorem Dev.route_gal (d : Dev) (p : Nat) (k : EvKind) (l a : Nat) (fl : Bool) : (d.route p k l a fl).gal = d.gal := by rw [route_eq]
@[simp] theorem Dev.route_host (d : Dev) (p : Nat) (k : EvKind) (l a : Nat) (fl : Bool) : (d.route p k l a fl).host = d.host := by rw [route_eq]
@[simp] theorem Dev.route_dma (d : Dev) (p : Nat) (k : EvKind) (l a : Nat) (fl : Bool) : (d.route p k l a fl).dma = d.dma := by rw [route_eq]
@[simp] theorem Dev.route_seam (d : Dev) (p : Nat) (k : EvKind) (l a : Nat) (fl : Bool) : (d.route p k l a fl).seam = d.seam := by rw [route_eq]
@[simp] theorem Dev.route_masters (d : Dev) (p : Nat) (k : EvKind) (l a : Nat) (fl : Bool) : (d.route p k l a fl).masters = d.masters := by rw [route_eq]
@[simp] theorem Dev.route_mem (d : Dev) (p : Nat) (k : EvKind) (l a : Nat) (fl : Bool) : (d.route p k l a fl).mem = d.mem := by rw [route_eq]
@[simp] theorem Dev.route_cfg (d : Dev) (p : Nat) (k : EvKind) (l a : Nat) (fl : Bool) : (d.route p k l a fl).cfg = d.cfg := by rw [route_eq]
@[simp] theorem Dev.route_svc (d : Dev) (p : Nat) (k : EvKind) (l a : Nat) (fl : Bool) : (d.route p k l a fl).svc = d.svc := by rw [route_eq]
@[simp] theorem Dev.route_tst (d : Dev) (p : Nat) (k : EvKind) (l a : Nat) (fl : Bool) : (d.route p k l a fl).tst = d.tst := by rw [route_eq]
@[simp] theorem Dev.route_plat (d : Dev) (p : Nat) (k : EvKind) (l a : Nat) (fl : Bool) : (d.route p k l a fl).plat = d.plat := by rw [route_eq]
@[simp] theorem Dev.route_draws (d : Dev) (p : Nat) (k : EvKind) (l a : Nat) (fl : Bool) : (d.route p k l a fl).draws = d.draws := by rw [route_eq]
@[simp] theorem Dev.route_hiHost (d : Dev) (p : Nat) (k : EvKind) (l a : Nat) (fl : Bool) : (d.route p k l a fl).hiHost = d.hiHost := by rw [route_eq]
@[simp] theorem Dev.route_hiPorch (d : Dev) (p : Nat) (k : EvKind) (l a : Nat) (fl : Bool) : (d.route p k l a fl).hiPorch = d.hiPorch := by rw [route_eq]
@[simp] theorem Dev.route_fwVersion (d : Dev) (p : Nat) (k : EvKind) (l a : Nat) (fl : Bool) : (d.route p k l a fl).fwVersion = d.fwVersion := by rw [route_eq]
@[simp] theorem Dev.route_fwBuild (d : Dev) (p : Nat) (k : EvKind) (l a : Nat) (fl : Bool) : (d.route p k l a fl).fwBuild = d.fwBuild := by rw [route_eq]
@[simp] theorem Dev.route_log (d : Dev) (p : Nat) (k : EvKind) (l a : Nat) (fl : Bool) : (d.route p k l a fl).log = d.log := by rw [route_eq]
@[simp] theorem Dev.route_prints (d : Dev) (p : Nat) (k : EvKind) (l a : Nat) (fl : Bool) : (d.route p k l a fl).prints = d.prints := by rw [route_eq]
@[simp] theorem Dev.route_seeds (d : Dev) (p : Nat) (k : EvKind) (l a : Nat) (fl : Bool) : (d.route p k l a fl).seeds = d.seeds := by rw [route_eq]
@[simp] theorem Dev.route_taps (d : Dev) (p : Nat) (k : EvKind) (l a : Nat) (fl : Bool) : (d.route p k l a fl).taps = d.taps := by rw [route_eq]
@[simp] theorem Dev.route_tapsLive (d : Dev) (p : Nat) (k : EvKind) (l a : Nat) (fl : Bool) : (d.route p k l a fl).tapsLive = d.tapsLive := by rw [route_eq]
@[simp] theorem Dev.route_out (d : Dev) (p : Nat) (k : EvKind) (l a : Nat) (fl : Bool) : (d.route p k l a fl).out = d.out := by rw [route_eq]
@[simp] theorem Dev.route_dram (d : Dev) (p : Nat) (k : EvKind) (l a : Nat) (fl : Bool) : (d.route p k l a fl).dram = d.dram := by rw [route_eq]
@[simp] theorem Dev.route_flash (d : Dev) (p : Nat) (k : EvKind) (l a : Nat) (fl : Bool) : (d.route p k l a fl).flash = d.flash := by rw [route_eq]
@[simp] theorem Dev.route_dramLog (d : Dev) (p : Nat) (k : EvKind) (l a : Nat) (fl : Bool) : (d.route p k l a fl).dramLog = d.dramLog := by rw [route_eq]
@[simp] theorem Dev.route_flashLog (d : Dev) (p : Nat) (k : EvKind) (l a : Nat) (fl : Bool) : (d.route p k l a fl).flashLog = d.flashLog := by rw [route_eq]

@[simp] theorem Dev.noteSet_time (d : Dev) (f : Fld) : (d.noteSet f).time = d.time := rfl
@[simp] theorem Dev.noteSet_mode (d : Dev) (f : Fld) : (d.noteSet f).mode = d.mode := rfl
@[simp] theorem Dev.noteSet_faultReq (d : Dev) (f : Fld) : (d.noteSet f).faultReq = d.faultReq := rfl
@[simp] theorem Dev.noteSet_pos (d : Dev) (f : Fld) : (d.noteSet f).pos = d.pos := rfl
@[simp] theorem Dev.noteSet_ports (d : Dev) (f : Fld) : (d.noteSet f).ports = d.ports := rfl
@[simp] theorem Dev.noteSet_rings (d : Dev) (f : Fld) : (d.noteSet f).rings = d.rings := rfl
@[simp] theorem Dev.noteSet_corr (d : Dev) (f : Fld) : (d.noteSet f).corr = d.corr := rfl
@[simp] theorem Dev.noteSet_blv (d : Dev) (f : Fld) : (d.noteSet f).blv = d.blv := rfl
@[simp] theorem Dev.noteSet_windows (d : Dev) (f : Fld) : (d.noteSet f).windows = d.windows := rfl
@[simp] theorem Dev.noteSet_prf (d : Dev) (f : Fld) : (d.noteSet f).prf = d.prf := rfl
@[simp] theorem Dev.noteSet_chains (d : Dev) (f : Fld) : (d.noteSet f).chains = d.chains := rfl
@[simp] theorem Dev.noteSet_handed (d : Dev) (f : Fld) : (d.noteSet f).handed = d.handed := rfl
@[simp] theorem Dev.noteSet_blob (d : Dev) (f : Fld) : (d.noteSet f).blob = d.blob := rfl
@[simp] theorem Dev.noteSet_recs (d : Dev) (f : Fld) : (d.noteSet f).recs = d.recs := rfl
@[simp] theorem Dev.noteSet_dca (d : Dev) (f : Fld) : (d.noteSet f).dca = d.dca := rfl
@[simp] theorem Dev.noteSet_marks (d : Dev) (f : Fld) : (d.noteSet f).marks = d.marks := rfl
@[simp] theorem Dev.noteSet_rot (d : Dev) (f : Fld) : (d.noteSet f).rot = d.rot := rfl
@[simp] theorem Dev.noteSet_cal (d : Dev) (f : Fld) : (d.noteSet f).cal = d.cal := rfl
@[simp] theorem Dev.noteSet_pantry (d : Dev) (f : Fld) : (d.noteSet f).pantry = d.pantry := rfl
@[simp] theorem Dev.noteSet_gal (d : Dev) (f : Fld) : (d.noteSet f).gal = d.gal := rfl
@[simp] theorem Dev.noteSet_host (d : Dev) (f : Fld) : (d.noteSet f).host = d.host := rfl
@[simp] theorem Dev.noteSet_dma (d : Dev) (f : Fld) : (d.noteSet f).dma = d.dma := rfl
@[simp] theorem Dev.noteSet_seam (d : Dev) (f : Fld) : (d.noteSet f).seam = d.seam := rfl
@[simp] theorem Dev.noteSet_masters (d : Dev) (f : Fld) : (d.noteSet f).masters = d.masters := rfl
@[simp] theorem Dev.noteSet_mem (d : Dev) (f : Fld) : (d.noteSet f).mem = d.mem := rfl
@[simp] theorem Dev.noteSet_cfg (d : Dev) (f : Fld) : (d.noteSet f).cfg = d.cfg := rfl
@[simp] theorem Dev.noteSet_svc (d : Dev) (f : Fld) : (d.noteSet f).svc = d.svc := rfl
@[simp] theorem Dev.noteSet_tst (d : Dev) (f : Fld) : (d.noteSet f).tst = d.tst := rfl
@[simp] theorem Dev.noteSet_plat (d : Dev) (f : Fld) : (d.noteSet f).plat = d.plat := rfl
@[simp] theorem Dev.noteSet_draws (d : Dev) (f : Fld) : (d.noteSet f).draws = d.draws := rfl
@[simp] theorem Dev.noteSet_hiHost (d : Dev) (f : Fld) : (d.noteSet f).hiHost = d.hiHost := rfl
@[simp] theorem Dev.noteSet_hiPorch (d : Dev) (f : Fld) : (d.noteSet f).hiPorch = d.hiPorch := rfl
@[simp] theorem Dev.noteSet_fwVersion (d : Dev) (f : Fld) : (d.noteSet f).fwVersion = d.fwVersion := rfl
@[simp] theorem Dev.noteSet_fwBuild (d : Dev) (f : Fld) : (d.noteSet f).fwBuild = d.fwBuild := rfl
@[simp] theorem Dev.noteSet_log (d : Dev) (f : Fld) : (d.noteSet f).log = d.log := rfl
@[simp] theorem Dev.noteSet_prints (d : Dev) (f : Fld) : (d.noteSet f).prints = d.prints := rfl
@[simp] theorem Dev.noteSet_seeds (d : Dev) (f : Fld) : (d.noteSet f).seeds = d.seeds := rfl
@[simp] theorem Dev.noteSet_taps (d : Dev) (f : Fld) : (d.noteSet f).taps = d.taps := rfl
@[simp] theorem Dev.noteSet_tapsLive (d : Dev) (f : Fld) : (d.noteSet f).tapsLive = d.tapsLive := rfl
@[simp] theorem Dev.noteSet_out (d : Dev) (f : Fld) : (d.noteSet f).out = d.out := rfl
@[simp] theorem Dev.noteSet_dram (d : Dev) (f : Fld) : (d.noteSet f).dram = d.dram := rfl
@[simp] theorem Dev.noteSet_flash (d : Dev) (f : Fld) : (d.noteSet f).flash = d.flash := rfl
@[simp] theorem Dev.noteSet_dramLog (d : Dev) (f : Fld) : (d.noteSet f).dramLog = d.dramLog := rfl
@[simp] theorem Dev.noteSet_flashLog (d : Dev) (f : Fld) : (d.noteSet f).flashLog = d.flashLog := rfl

@[simp] theorem Dev.setBit_time (d : Dev) (f : Fld) : (d.setBit f).time = d.time := by rw [setBit_eq]
@[simp] theorem Dev.setBit_mode (d : Dev) (f : Fld) : (d.setBit f).mode = d.mode := by rw [setBit_eq]
@[simp] theorem Dev.setBit_faultReq (d : Dev) (f : Fld) : (d.setBit f).faultReq = d.faultReq := by rw [setBit_eq]
@[simp] theorem Dev.setBit_pos (d : Dev) (f : Fld) : (d.setBit f).pos = d.pos := by rw [setBit_eq]
@[simp] theorem Dev.setBit_ports (d : Dev) (f : Fld) : (d.setBit f).ports = d.ports := by rw [setBit_eq]
@[simp] theorem Dev.setBit_rings (d : Dev) (f : Fld) : (d.setBit f).rings = d.rings := by rw [setBit_eq]
@[simp] theorem Dev.setBit_corr (d : Dev) (f : Fld) : (d.setBit f).corr = d.corr := by rw [setBit_eq]
@[simp] theorem Dev.setBit_blv (d : Dev) (f : Fld) : (d.setBit f).blv = d.blv := by rw [setBit_eq]
@[simp] theorem Dev.setBit_windows (d : Dev) (f : Fld) : (d.setBit f).windows = d.windows := by rw [setBit_eq]
@[simp] theorem Dev.setBit_prf (d : Dev) (f : Fld) : (d.setBit f).prf = d.prf := by rw [setBit_eq]
@[simp] theorem Dev.setBit_chains (d : Dev) (f : Fld) : (d.setBit f).chains = d.chains := by rw [setBit_eq]
@[simp] theorem Dev.setBit_handed (d : Dev) (f : Fld) : (d.setBit f).handed = d.handed := by rw [setBit_eq]
@[simp] theorem Dev.setBit_blob (d : Dev) (f : Fld) : (d.setBit f).blob = d.blob := by rw [setBit_eq]
@[simp] theorem Dev.setBit_recs (d : Dev) (f : Fld) : (d.setBit f).recs = d.recs := by rw [setBit_eq]
@[simp] theorem Dev.setBit_dca (d : Dev) (f : Fld) : (d.setBit f).dca = d.dca := by rw [setBit_eq]
@[simp] theorem Dev.setBit_marks (d : Dev) (f : Fld) : (d.setBit f).marks = d.marks := by rw [setBit_eq]
@[simp] theorem Dev.setBit_rot (d : Dev) (f : Fld) : (d.setBit f).rot = d.rot := by rw [setBit_eq]
@[simp] theorem Dev.setBit_cal (d : Dev) (f : Fld) : (d.setBit f).cal = d.cal := by rw [setBit_eq]
@[simp] theorem Dev.setBit_pantry (d : Dev) (f : Fld) : (d.setBit f).pantry = d.pantry := by rw [setBit_eq]
@[simp] theorem Dev.setBit_gal (d : Dev) (f : Fld) : (d.setBit f).gal = d.gal := by rw [setBit_eq]
@[simp] theorem Dev.setBit_host (d : Dev) (f : Fld) : (d.setBit f).host = d.host := by rw [setBit_eq]
@[simp] theorem Dev.setBit_dma (d : Dev) (f : Fld) : (d.setBit f).dma = d.dma := by rw [setBit_eq]
@[simp] theorem Dev.setBit_seam (d : Dev) (f : Fld) : (d.setBit f).seam = d.seam := by rw [setBit_eq]
@[simp] theorem Dev.setBit_masters (d : Dev) (f : Fld) : (d.setBit f).masters = d.masters := by rw [setBit_eq]
@[simp] theorem Dev.setBit_mem (d : Dev) (f : Fld) : (d.setBit f).mem = d.mem := by rw [setBit_eq]
@[simp] theorem Dev.setBit_cfg (d : Dev) (f : Fld) : (d.setBit f).cfg = d.cfg := by rw [setBit_eq]
@[simp] theorem Dev.setBit_svc (d : Dev) (f : Fld) : (d.setBit f).svc = d.svc := by rw [setBit_eq]
@[simp] theorem Dev.setBit_tst (d : Dev) (f : Fld) : (d.setBit f).tst = d.tst := by rw [setBit_eq]
@[simp] theorem Dev.setBit_plat (d : Dev) (f : Fld) : (d.setBit f).plat = d.plat := by rw [setBit_eq]
@[simp] theorem Dev.setBit_draws (d : Dev) (f : Fld) : (d.setBit f).draws = d.draws := by rw [setBit_eq]
@[simp] theorem Dev.setBit_hiHost (d : Dev) (f : Fld) : (d.setBit f).hiHost = d.hiHost := by rw [setBit_eq]
@[simp] theorem Dev.setBit_hiPorch (d : Dev) (f : Fld) : (d.setBit f).hiPorch = d.hiPorch := by rw [setBit_eq]
@[simp] theorem Dev.setBit_fwVersion (d : Dev) (f : Fld) : (d.setBit f).fwVersion = d.fwVersion := by rw [setBit_eq]
@[simp] theorem Dev.setBit_fwBuild (d : Dev) (f : Fld) : (d.setBit f).fwBuild = d.fwBuild := by rw [setBit_eq]
@[simp] theorem Dev.setBit_log (d : Dev) (f : Fld) : (d.setBit f).log = d.log := by rw [setBit_eq]
@[simp] theorem Dev.setBit_prints (d : Dev) (f : Fld) : (d.setBit f).prints = d.prints := by rw [setBit_eq]
@[simp] theorem Dev.setBit_seeds (d : Dev) (f : Fld) : (d.setBit f).seeds = d.seeds := by rw [setBit_eq]
@[simp] theorem Dev.setBit_taps (d : Dev) (f : Fld) : (d.setBit f).taps = d.taps := by rw [setBit_eq]
@[simp] theorem Dev.setBit_tapsLive (d : Dev) (f : Fld) : (d.setBit f).tapsLive = d.tapsLive := by rw [setBit_eq]
@[simp] theorem Dev.setBit_out (d : Dev) (f : Fld) : (d.setBit f).out = d.out := by rw [setBit_eq]
@[simp] theorem Dev.setBit_dram (d : Dev) (f : Fld) : (d.setBit f).dram = d.dram := by rw [setBit_eq]
@[simp] theorem Dev.setBit_flash (d : Dev) (f : Fld) : (d.setBit f).flash = d.flash := by rw [setBit_eq]
@[simp] theorem Dev.setBit_dramLog (d : Dev) (f : Fld) : (d.setBit f).dramLog = d.dramLog := by rw [setBit_eq]
@[simp] theorem Dev.setBit_flashLog (d : Dev) (f : Fld) : (d.setBit f).flashLog = d.flashLog := by rw [setBit_eq]

@[simp] theorem Dev.raise_time (d : Dev) (f : Fld) : (d.raise f).time = d.time := by rw [raise_eq]
@[simp] theorem Dev.raise_mode (d : Dev) (f : Fld) : (d.raise f).mode = d.mode := by rw [raise_eq]
@[simp] theorem Dev.raise_faultReq (d : Dev) (f : Fld) : (d.raise f).faultReq = d.faultReq := by rw [raise_eq]
@[simp] theorem Dev.raise_pos (d : Dev) (f : Fld) : (d.raise f).pos = d.pos := by rw [raise_eq]
@[simp] theorem Dev.raise_ports (d : Dev) (f : Fld) : (d.raise f).ports = d.ports := by rw [raise_eq]
@[simp] theorem Dev.raise_rings (d : Dev) (f : Fld) : (d.raise f).rings = d.rings := by rw [raise_eq]
@[simp] theorem Dev.raise_corr (d : Dev) (f : Fld) : (d.raise f).corr = d.corr := by rw [raise_eq]
@[simp] theorem Dev.raise_blv (d : Dev) (f : Fld) : (d.raise f).blv = d.blv := by rw [raise_eq]
@[simp] theorem Dev.raise_windows (d : Dev) (f : Fld) : (d.raise f).windows = d.windows := by rw [raise_eq]
@[simp] theorem Dev.raise_prf (d : Dev) (f : Fld) : (d.raise f).prf = d.prf := by rw [raise_eq]
@[simp] theorem Dev.raise_chains (d : Dev) (f : Fld) : (d.raise f).chains = d.chains := by rw [raise_eq]
@[simp] theorem Dev.raise_handed (d : Dev) (f : Fld) : (d.raise f).handed = d.handed := by rw [raise_eq]
@[simp] theorem Dev.raise_blob (d : Dev) (f : Fld) : (d.raise f).blob = d.blob := by rw [raise_eq]
@[simp] theorem Dev.raise_recs (d : Dev) (f : Fld) : (d.raise f).recs = d.recs := by rw [raise_eq]
@[simp] theorem Dev.raise_dca (d : Dev) (f : Fld) : (d.raise f).dca = d.dca := by rw [raise_eq]
@[simp] theorem Dev.raise_marks (d : Dev) (f : Fld) : (d.raise f).marks = d.marks := by rw [raise_eq]
@[simp] theorem Dev.raise_rot (d : Dev) (f : Fld) : (d.raise f).rot = d.rot := by rw [raise_eq]
@[simp] theorem Dev.raise_cal (d : Dev) (f : Fld) : (d.raise f).cal = d.cal := by rw [raise_eq]
@[simp] theorem Dev.raise_pantry (d : Dev) (f : Fld) : (d.raise f).pantry = d.pantry := by rw [raise_eq]
@[simp] theorem Dev.raise_gal (d : Dev) (f : Fld) : (d.raise f).gal = d.gal := by rw [raise_eq]
@[simp] theorem Dev.raise_host (d : Dev) (f : Fld) : (d.raise f).host = d.host := by rw [raise_eq]
@[simp] theorem Dev.raise_dma (d : Dev) (f : Fld) : (d.raise f).dma = d.dma := by rw [raise_eq]
@[simp] theorem Dev.raise_seam (d : Dev) (f : Fld) : (d.raise f).seam = d.seam := by rw [raise_eq]
@[simp] theorem Dev.raise_masters (d : Dev) (f : Fld) : (d.raise f).masters = d.masters := by rw [raise_eq]
@[simp] theorem Dev.raise_mem (d : Dev) (f : Fld) : (d.raise f).mem = d.mem := by rw [raise_eq]
@[simp] theorem Dev.raise_cfg (d : Dev) (f : Fld) : (d.raise f).cfg = d.cfg := by rw [raise_eq]
@[simp] theorem Dev.raise_svc (d : Dev) (f : Fld) : (d.raise f).svc = d.svc := by rw [raise_eq]
@[simp] theorem Dev.raise_tst (d : Dev) (f : Fld) : (d.raise f).tst = d.tst := by rw [raise_eq]
@[simp] theorem Dev.raise_plat (d : Dev) (f : Fld) : (d.raise f).plat = d.plat := by rw [raise_eq]
@[simp] theorem Dev.raise_draws (d : Dev) (f : Fld) : (d.raise f).draws = d.draws := by rw [raise_eq]
@[simp] theorem Dev.raise_hiHost (d : Dev) (f : Fld) : (d.raise f).hiHost = d.hiHost := by rw [raise_eq]
@[simp] theorem Dev.raise_hiPorch (d : Dev) (f : Fld) : (d.raise f).hiPorch = d.hiPorch := by rw [raise_eq]
@[simp] theorem Dev.raise_fwVersion (d : Dev) (f : Fld) : (d.raise f).fwVersion = d.fwVersion := by rw [raise_eq]
@[simp] theorem Dev.raise_fwBuild (d : Dev) (f : Fld) : (d.raise f).fwBuild = d.fwBuild := by rw [raise_eq]
@[simp] theorem Dev.raise_log (d : Dev) (f : Fld) : (d.raise f).log = d.log := by rw [raise_eq]
@[simp] theorem Dev.raise_prints (d : Dev) (f : Fld) : (d.raise f).prints = d.prints := by rw [raise_eq]
@[simp] theorem Dev.raise_seeds (d : Dev) (f : Fld) : (d.raise f).seeds = d.seeds := by rw [raise_eq]
@[simp] theorem Dev.raise_taps (d : Dev) (f : Fld) : (d.raise f).taps = d.taps := by rw [raise_eq]
@[simp] theorem Dev.raise_tapsLive (d : Dev) (f : Fld) : (d.raise f).tapsLive = d.tapsLive := by rw [raise_eq]
@[simp] theorem Dev.raise_out (d : Dev) (f : Fld) : (d.raise f).out = d.out := by rw [raise_eq]
@[simp] theorem Dev.raise_dram (d : Dev) (f : Fld) : (d.raise f).dram = d.dram := by rw [raise_eq]
@[simp] theorem Dev.raise_flash (d : Dev) (f : Fld) : (d.raise f).flash = d.flash := by rw [raise_eq]
@[simp] theorem Dev.raise_dramLog (d : Dev) (f : Fld) : (d.raise f).dramLog = d.dramLog := by rw [raise_eq]
@[simp] theorem Dev.raise_flashLog (d : Dev) (f : Fld) : (d.raise f).flashLog = d.flashLog := by rw [raise_eq]

@[simp] theorem Dev.raiseIf_time (d : Dev) (b : Bool) (f : Fld) : (d.raiseIf b f).time = d.time := by rw [raiseIf_eq]
@[simp] theorem Dev.raiseIf_mode (d : Dev) (b : Bool) (f : Fld) : (d.raiseIf b f).mode = d.mode := by rw [raiseIf_eq]
@[simp] theorem Dev.raiseIf_faultReq (d : Dev) (b : Bool) (f : Fld) : (d.raiseIf b f).faultReq = d.faultReq := by rw [raiseIf_eq]
@[simp] theorem Dev.raiseIf_pos (d : Dev) (b : Bool) (f : Fld) : (d.raiseIf b f).pos = d.pos := by rw [raiseIf_eq]
@[simp] theorem Dev.raiseIf_ports (d : Dev) (b : Bool) (f : Fld) : (d.raiseIf b f).ports = d.ports := by rw [raiseIf_eq]
@[simp] theorem Dev.raiseIf_rings (d : Dev) (b : Bool) (f : Fld) : (d.raiseIf b f).rings = d.rings := by rw [raiseIf_eq]
@[simp] theorem Dev.raiseIf_corr (d : Dev) (b : Bool) (f : Fld) : (d.raiseIf b f).corr = d.corr := by rw [raiseIf_eq]
@[simp] theorem Dev.raiseIf_blv (d : Dev) (b : Bool) (f : Fld) : (d.raiseIf b f).blv = d.blv := by rw [raiseIf_eq]
@[simp] theorem Dev.raiseIf_windows (d : Dev) (b : Bool) (f : Fld) : (d.raiseIf b f).windows = d.windows := by rw [raiseIf_eq]
@[simp] theorem Dev.raiseIf_prf (d : Dev) (b : Bool) (f : Fld) : (d.raiseIf b f).prf = d.prf := by rw [raiseIf_eq]
@[simp] theorem Dev.raiseIf_chains (d : Dev) (b : Bool) (f : Fld) : (d.raiseIf b f).chains = d.chains := by rw [raiseIf_eq]
@[simp] theorem Dev.raiseIf_handed (d : Dev) (b : Bool) (f : Fld) : (d.raiseIf b f).handed = d.handed := by rw [raiseIf_eq]
@[simp] theorem Dev.raiseIf_blob (d : Dev) (b : Bool) (f : Fld) : (d.raiseIf b f).blob = d.blob := by rw [raiseIf_eq]
@[simp] theorem Dev.raiseIf_recs (d : Dev) (b : Bool) (f : Fld) : (d.raiseIf b f).recs = d.recs := by rw [raiseIf_eq]
@[simp] theorem Dev.raiseIf_dca (d : Dev) (b : Bool) (f : Fld) : (d.raiseIf b f).dca = d.dca := by rw [raiseIf_eq]
@[simp] theorem Dev.raiseIf_marks (d : Dev) (b : Bool) (f : Fld) : (d.raiseIf b f).marks = d.marks := by rw [raiseIf_eq]
@[simp] theorem Dev.raiseIf_rot (d : Dev) (b : Bool) (f : Fld) : (d.raiseIf b f).rot = d.rot := by rw [raiseIf_eq]
@[simp] theorem Dev.raiseIf_cal (d : Dev) (b : Bool) (f : Fld) : (d.raiseIf b f).cal = d.cal := by rw [raiseIf_eq]
@[simp] theorem Dev.raiseIf_pantry (d : Dev) (b : Bool) (f : Fld) : (d.raiseIf b f).pantry = d.pantry := by rw [raiseIf_eq]
@[simp] theorem Dev.raiseIf_gal (d : Dev) (b : Bool) (f : Fld) : (d.raiseIf b f).gal = d.gal := by rw [raiseIf_eq]
@[simp] theorem Dev.raiseIf_host (d : Dev) (b : Bool) (f : Fld) : (d.raiseIf b f).host = d.host := by rw [raiseIf_eq]
@[simp] theorem Dev.raiseIf_dma (d : Dev) (b : Bool) (f : Fld) : (d.raiseIf b f).dma = d.dma := by rw [raiseIf_eq]
@[simp] theorem Dev.raiseIf_seam (d : Dev) (b : Bool) (f : Fld) : (d.raiseIf b f).seam = d.seam := by rw [raiseIf_eq]
@[simp] theorem Dev.raiseIf_masters (d : Dev) (b : Bool) (f : Fld) : (d.raiseIf b f).masters = d.masters := by rw [raiseIf_eq]
@[simp] theorem Dev.raiseIf_mem (d : Dev) (b : Bool) (f : Fld) : (d.raiseIf b f).mem = d.mem := by rw [raiseIf_eq]
@[simp] theorem Dev.raiseIf_cfg (d : Dev) (b : Bool) (f : Fld) : (d.raiseIf b f).cfg = d.cfg := by rw [raiseIf_eq]
@[simp] theorem Dev.raiseIf_svc (d : Dev) (b : Bool) (f : Fld) : (d.raiseIf b f).svc = d.svc := by rw [raiseIf_eq]
@[simp] theorem Dev.raiseIf_tst (d : Dev) (b : Bool) (f : Fld) : (d.raiseIf b f).tst = d.tst := by rw [raiseIf_eq]
@[simp] theorem Dev.raiseIf_plat (d : Dev) (b : Bool) (f : Fld) : (d.raiseIf b f).plat = d.plat := by rw [raiseIf_eq]
@[simp] theorem Dev.raiseIf_draws (d : Dev) (b : Bool) (f : Fld) : (d.raiseIf b f).draws = d.draws := by rw [raiseIf_eq]
@[simp] theorem Dev.raiseIf_hiHost (d : Dev) (b : Bool) (f : Fld) : (d.raiseIf b f).hiHost = d.hiHost := by rw [raiseIf_eq]
@[simp] theorem Dev.raiseIf_hiPorch (d : Dev) (b : Bool) (f : Fld) : (d.raiseIf b f).hiPorch = d.hiPorch := by rw [raiseIf_eq]
@[simp] theorem Dev.raiseIf_fwVersion (d : Dev) (b : Bool) (f : Fld) : (d.raiseIf b f).fwVersion = d.fwVersion := by rw [raiseIf_eq]
@[simp] theorem Dev.raiseIf_fwBuild (d : Dev) (b : Bool) (f : Fld) : (d.raiseIf b f).fwBuild = d.fwBuild := by rw [raiseIf_eq]
@[simp] theorem Dev.raiseIf_log (d : Dev) (b : Bool) (f : Fld) : (d.raiseIf b f).log = d.log := by rw [raiseIf_eq]
@[simp] theorem Dev.raiseIf_prints (d : Dev) (b : Bool) (f : Fld) : (d.raiseIf b f).prints = d.prints := by rw [raiseIf_eq]
@[simp] theorem Dev.raiseIf_seeds (d : Dev) (b : Bool) (f : Fld) : (d.raiseIf b f).seeds = d.seeds := by rw [raiseIf_eq]
@[simp] theorem Dev.raiseIf_taps (d : Dev) (b : Bool) (f : Fld) : (d.raiseIf b f).taps = d.taps := by rw [raiseIf_eq]
@[simp] theorem Dev.raiseIf_tapsLive (d : Dev) (b : Bool) (f : Fld) : (d.raiseIf b f).tapsLive = d.tapsLive := by rw [raiseIf_eq]
@[simp] theorem Dev.raiseIf_out (d : Dev) (b : Bool) (f : Fld) : (d.raiseIf b f).out = d.out := by rw [raiseIf_eq]
@[simp] theorem Dev.raiseIf_dram (d : Dev) (b : Bool) (f : Fld) : (d.raiseIf b f).dram = d.dram := by rw [raiseIf_eq]
@[simp] theorem Dev.raiseIf_flash (d : Dev) (b : Bool) (f : Fld) : (d.raiseIf b f).flash = d.flash := by rw [raiseIf_eq]
@[simp] theorem Dev.raiseIf_dramLog (d : Dev) (b : Bool) (f : Fld) : (d.raiseIf b f).dramLog = d.dramLog := by rw [raiseIf_eq]
@[simp] theorem Dev.raiseIf_flashLog (d : Dev) (b : Bool) (f : Fld) : (d.raiseIf b f).flashLog = d.flashLog := by rw [raiseIf_eq]

@[simp] theorem Dev.fire_time (d : Dev) (p : Nat) (k : EvKind) (l : Nat) (fl : Bool) : (d.fire p k l fl).time = d.time := by rw [fire_eq]
@[simp] theorem Dev.fire_mode (d : Dev) (p : Nat) (k : EvKind) (l : Nat) (fl : Bool) : (d.fire p k l fl).mode = d.mode := by rw [fire_eq]
@[simp] theorem Dev.fire_faultReq (d : Dev) (p : Nat) (k : EvKind) (l : Nat) (fl : Bool) : (d.fire p k l fl).faultReq = d.faultReq := by rw [fire_eq]
@[simp] theorem Dev.fire_pos (d : Dev) (p : Nat) (k : EvKind) (l : Nat) (fl : Bool) : (d.fire p k l fl).pos = d.pos := by rw [fire_eq]
@[simp] theorem Dev.fire_ports (d : Dev) (p : Nat) (k : EvKind) (l : Nat) (fl : Bool) : (d.fire p k l fl).ports = d.ports := by rw [fire_eq]
@[simp] theorem Dev.fire_rings (d : Dev) (p : Nat) (k : EvKind) (l : Nat) (fl : Bool) : (d.fire p k l fl).rings = d.rings := by rw [fire_eq]
@[simp] theorem Dev.fire_corr (d : Dev) (p : Nat) (k : EvKind) (l : Nat) (fl : Bool) : (d.fire p k l fl).corr = d.corr := by rw [fire_eq]
@[simp] theorem Dev.fire_blv (d : Dev) (p : Nat) (k : EvKind) (l : Nat) (fl : Bool) : (d.fire p k l fl).blv = d.blv := by rw [fire_eq]
@[simp] theorem Dev.fire_windows (d : Dev) (p : Nat) (k : EvKind) (l : Nat) (fl : Bool) : (d.fire p k l fl).windows = d.windows := by rw [fire_eq]
@[simp] theorem Dev.fire_prf (d : Dev) (p : Nat) (k : EvKind) (l : Nat) (fl : Bool) : (d.fire p k l fl).prf = d.prf := by rw [fire_eq]
@[simp] theorem Dev.fire_chains (d : Dev) (p : Nat) (k : EvKind) (l : Nat) (fl : Bool) : (d.fire p k l fl).chains = d.chains := by rw [fire_eq]
@[simp] theorem Dev.fire_handed (d : Dev) (p : Nat) (k : EvKind) (l : Nat) (fl : Bool) : (d.fire p k l fl).handed = d.handed := by rw [fire_eq]
@[simp] theorem Dev.fire_blob (d : Dev) (p : Nat) (k : EvKind) (l : Nat) (fl : Bool) : (d.fire p k l fl).blob = d.blob := by rw [fire_eq]
@[simp] theorem Dev.fire_recs (d : Dev) (p : Nat) (k : EvKind) (l : Nat) (fl : Bool) : (d.fire p k l fl).recs = d.recs := by rw [fire_eq]
@[simp] theorem Dev.fire_dca (d : Dev) (p : Nat) (k : EvKind) (l : Nat) (fl : Bool) : (d.fire p k l fl).dca = d.dca := by rw [fire_eq]
@[simp] theorem Dev.fire_marks (d : Dev) (p : Nat) (k : EvKind) (l : Nat) (fl : Bool) : (d.fire p k l fl).marks = d.marks := by rw [fire_eq]
@[simp] theorem Dev.fire_rot (d : Dev) (p : Nat) (k : EvKind) (l : Nat) (fl : Bool) : (d.fire p k l fl).rot = d.rot := by rw [fire_eq]
@[simp] theorem Dev.fire_cal (d : Dev) (p : Nat) (k : EvKind) (l : Nat) (fl : Bool) : (d.fire p k l fl).cal = d.cal := by rw [fire_eq]
@[simp] theorem Dev.fire_pantry (d : Dev) (p : Nat) (k : EvKind) (l : Nat) (fl : Bool) : (d.fire p k l fl).pantry = d.pantry := by rw [fire_eq]
@[simp] theorem Dev.fire_gal (d : Dev) (p : Nat) (k : EvKind) (l : Nat) (fl : Bool) : (d.fire p k l fl).gal = d.gal := by rw [fire_eq]
@[simp] theorem Dev.fire_host (d : Dev) (p : Nat) (k : EvKind) (l : Nat) (fl : Bool) : (d.fire p k l fl).host = d.host := by rw [fire_eq]
@[simp] theorem Dev.fire_dma (d : Dev) (p : Nat) (k : EvKind) (l : Nat) (fl : Bool) : (d.fire p k l fl).dma = d.dma := by rw [fire_eq]
@[simp] theorem Dev.fire_seam (d : Dev) (p : Nat) (k : EvKind) (l : Nat) (fl : Bool) : (d.fire p k l fl).seam = d.seam := by rw [fire_eq]
@[simp] theorem Dev.fire_masters (d : Dev) (p : Nat) (k : EvKind) (l : Nat) (fl : Bool) : (d.fire p k l fl).masters = d.masters := by rw [fire_eq]
@[simp] theorem Dev.fire_mem (d : Dev) (p : Nat) (k : EvKind) (l : Nat) (fl : Bool) : (d.fire p k l fl).mem = d.mem := by rw [fire_eq]
@[simp] theorem Dev.fire_cfg (d : Dev) (p : Nat) (k : EvKind) (l : Nat) (fl : Bool) : (d.fire p k l fl).cfg = d.cfg := by rw [fire_eq]
@[simp] theorem Dev.fire_svc (d : Dev) (p : Nat) (k : EvKind) (l : Nat) (fl : Bool) : (d.fire p k l fl).svc = d.svc := by rw [fire_eq]
@[simp] theorem Dev.fire_tst (d : Dev) (p : Nat) (k : EvKind) (l : Nat) (fl : Bool) : (d.fire p k l fl).tst = d.tst := by rw [fire_eq]
@[simp] theorem Dev.fire_plat (d : Dev) (p : Nat) (k : EvKind) (l : Nat) (fl : Bool) : (d.fire p k l fl).plat = d.plat := by rw [fire_eq]
@[simp] theorem Dev.fire_draws (d : Dev) (p : Nat) (k : EvKind) (l : Nat) (fl : Bool) : (d.fire p k l fl).draws = d.draws := by rw [fire_eq]
@[simp] theorem Dev.fire_hiHost (d : Dev) (p : Nat) (k : EvKind) (l : Nat) (fl : Bool) : (d.fire p k l fl).hiHost = d.hiHost := by rw [fire_eq]
@[simp] theorem Dev.fire_hiPorch (d : Dev) (p : Nat) (k : EvKind) (l : Nat) (fl : Bool) : (d.fire p k l fl).hiPorch = d.hiPorch := by rw [fire_eq]
@[simp] theorem Dev.fire_fwVersion (d : Dev) (p : Nat) (k : EvKind) (l : Nat) (fl : Bool) : (d.fire p k l fl).fwVersion = d.fwVersion := by rw [fire_eq]
@[simp] theorem Dev.fire_fwBuild (d : Dev) (p : Nat) (k : EvKind) (l : Nat) (fl : Bool) : (d.fire p k l fl).fwBuild = d.fwBuild := by rw [fire_eq]
@[simp] theorem Dev.fire_log (d : Dev) (p : Nat) (k : EvKind) (l : Nat) (fl : Bool) : (d.fire p k l fl).log = d.log := by rw [fire_eq]
@[simp] theorem Dev.fire_prints (d : Dev) (p : Nat) (k : EvKind) (l : Nat) (fl : Bool) : (d.fire p k l fl).prints = d.prints := by rw [fire_eq]
@[simp] theorem Dev.fire_seeds (d : Dev) (p : Nat) (k : EvKind) (l : Nat) (fl : Bool) : (d.fire p k l fl).seeds = d.seeds := by rw [fire_eq]
@[simp] theorem Dev.fire_taps (d : Dev) (p : Nat) (k : EvKind) (l : Nat) (fl : Bool) : (d.fire p k l fl).taps = d.taps := by rw [fire_eq]
@[simp] theorem Dev.fire_tapsLive (d : Dev) (p : Nat) (k : EvKind) (l : Nat) (fl : Bool) : (d.fire p k l fl).tapsLive = d.tapsLive := by rw [fire_eq]
@[simp] theorem Dev.fire_out (d : Dev) (p : Nat) (k : EvKind) (l : Nat) (fl : Bool) : (d.fire p k l fl).out = d.out := by rw [fire_eq]
@[simp] theorem Dev.fire_dram (d : Dev) (p : Nat) (k : EvKind) (l : Nat) (fl : Bool) : (d.fire p k l fl).dram = d.dram := by rw [fire_eq]
@[simp] theorem Dev.fire_flash (d : Dev) (p : Nat) (k : EvKind) (l : Nat) (fl : Bool) : (d.fire p k l fl).flash = d.flash := by rw [fire_eq]
@[simp] theorem Dev.fire_dramLog (d : Dev) (p : Nat) (k : EvKind) (l : Nat) (fl : Bool) : (d.fire p k l fl).dramLog = d.dramLog := by rw [fire_eq]
@[simp] theorem Dev.fire_flashLog (d : Dev) (p : Nat) (k : EvKind) (l : Nat) (fl : Bool) : (d.fire p k l fl).flashLog = d.flashLog := by rw [fire_eq]

end Sys2Proof.Machine
end

