-- ==== Sys2Proof/Laws/Steps.lean ====
section
/-!
SUPPORT. What every command's meaning shares: it answers a next state, made from the part as the command finds it.
-/
namespace Sys2Proof.Machine

/-- A command that is not gated by the mode answers a next state. -/
theorem always_eq (s : State) (f : Dev → Dev) : s.always f = .next (s.after (f s.start)) := rfl

/-- The queue is not a command's to change. -/
@[simp] theorem after_pending (s : State) (d : Dev) : (s.after d).pending = s.pending := by unfold State.after; rfl

/-- With nothing to do the position clock ticks, outside RESET. -/
theorem tick_eq (s : State) : ∃ d, s.tick = .next (s.after d) := by
  unfold State.tick State.run
  exact ⟨_, always_eq s _⟩

/-- A command outside RESET answers a next state. -/
theorem run_eq (s : State) (f : Dev → Dev) (h : s.dev.mode ≠ .reset) : s.run f = .next (s.after (f s.start)) := by
  simp [State.run, State.always, State.after, State.start, h]

/-- A command in RESET leaves the part as it found it. -/
theorem run_reset (s : State) (f : Dev → Dev) (h : s.dev.mode = .reset) : s.run f = .next (s.after s.start) := by
  simp [State.run, State.always, State.after, State.start, h]

/-- A command that is not gated completes, and what holds of its effect holds of the part it leaves. -/
theorem completes_always {s : State} {c : Instr} {P : Dev → Prop} (f : Dev → Dev) (hc : exec c s = s.always f) (h : P (f s.start)) :
    ∃ d, exec c s = .next (s.after d) ∧ P d := ⟨f s.start, hc, h⟩

/-- Outside RESET a gated command completes, and what holds of its effect holds of the part it leaves. -/
theorem completes_run {s : State} {c : Instr} {P : Dev → Prop} (f : Dev → Dev) (hc : exec c s = s.run f) (hm : s.dev.mode ≠ .reset) (h : P (f s.start)) :
    ∃ d, exec c s = .next (s.after d) ∧ P d := ⟨f s.start, hc.trans (run_eq s f hm), h⟩

/-- The same where another operation follows the effect that is described. -/
theorem completes_then {s : State} {c : Instr} {P : Dev → Prop} (f : Dev → Dev) (tail : Dev → Dev) (y : Dev) (hc : exec c s = s.run f) (hm : s.dev.mode ≠ .reset)
    (h : f s.start = tail y) (hp : P y) : ∃ d, exec c s = .next (s.after (tail d)) ∧ P d := ⟨y, hc.trans ((run_eq s f hm).trans (by rw [h])), hp⟩

/-- STANDBY and beyond are not RESET. -/
theorem not_reset {m : Mode} (h : 3 ≤ m.code) : m ≠ .reset := by
  rintro rfl
  simp [Mode.code] at h

/-- A write of the PF reaches BAR0 in STANDBY and beyond (R355). -/
theorem hostWrite_eq (d : Dev) (a v : Nat) (h : 3 ≤ d.mode.code) : d.hostWrite a v = d.regWrite 0 a v := by
  simp [Dev.hostWrite, Dev.hostReaches, h]

@[simp] theorem State.start_out (s : State) : s.start.out = [] := rfl
@[simp] theorem State.start_reg (s : State) (a : Nat) : s.start.reg a = s.dev.reg a := rfl
@[simp] theorem State.start_fld (s : State) (f : Fld) : s.start.fld f = s.dev.fld f := rfl
@[simp] theorem State.start_flag (s : State) (f : Fld) : s.start.flag f = s.dev.flag f := rfl
@[simp] theorem State.start_time (s : State) : s.start.time = s.dev.time := rfl
@[simp] theorem State.start_regs (s : State) : s.start.regs = s.dev.regs := rfl
@[simp] theorem State.start_mode (s : State) : s.start.mode = s.dev.mode := rfl
@[simp] theorem State.start_faultReq (s : State) : s.start.faultReq = s.dev.faultReq := rfl
@[simp] theorem State.start_pos (s : State) : s.start.pos = s.dev.pos := rfl
@[simp] theorem State.start_plz (s : State) : s.start.plz = s.dev.plz := rfl
@[simp] theorem State.start_ports (s : State) : s.start.ports = s.dev.ports := rfl
@[simp] theorem State.start_rings (s : State) : s.start.rings = s.dev.rings := rfl
@[simp] theorem State.start_corr (s : State) : s.start.corr = s.dev.corr := rfl
@[simp] theorem State.start_blv (s : State) : s.start.blv = s.dev.blv := rfl
@[simp] theorem State.start_windows (s : State) : s.start.windows = s.dev.windows := rfl
@[simp] theorem State.start_prf (s : State) : s.start.prf = s.dev.prf := rfl
@[simp] theorem State.start_chains (s : State) : s.start.chains = s.dev.chains := rfl
@[simp] theorem State.start_handed (s : State) : s.start.handed = s.dev.handed := rfl
@[simp] theorem State.start_blob (s : State) : s.start.blob = s.dev.blob := rfl
@[simp] theorem State.start_recs (s : State) : s.start.recs = s.dev.recs := rfl
@[simp] theorem State.start_dca (s : State) : s.start.dca = s.dev.dca := rfl
@[simp] theorem State.start_marks (s : State) : s.start.marks = s.dev.marks := rfl
@[simp] theorem State.start_rot (s : State) : s.start.rot = s.dev.rot := rfl
@[simp] theorem State.start_cal (s : State) : s.start.cal = s.dev.cal := rfl
@[simp] theorem State.start_pantry (s : State) : s.start.pantry = s.dev.pantry := rfl
@[simp] theorem State.start_gal (s : State) : s.start.gal = s.dev.gal := rfl
@[simp] theorem State.start_host (s : State) : s.start.host = s.dev.host := rfl
@[simp] theorem State.start_dma (s : State) : s.start.dma = s.dev.dma := rfl
@[simp] theorem State.start_seam (s : State) : s.start.seam = s.dev.seam := rfl
@[simp] theorem State.start_masters (s : State) : s.start.masters = s.dev.masters := rfl
@[simp] theorem State.start_mem (s : State) : s.start.mem = s.dev.mem := rfl
@[simp] theorem State.start_cfg (s : State) : s.start.cfg = s.dev.cfg := rfl
@[simp] theorem State.start_svc (s : State) : s.start.svc = s.dev.svc := rfl
@[simp] theorem State.start_tst (s : State) : s.start.tst = s.dev.tst := rfl
@[simp] theorem State.start_plat (s : State) : s.start.plat = s.dev.plat := rfl
@[simp] theorem State.start_draws (s : State) : s.start.draws = s.dev.draws := rfl
@[simp] theorem State.start_hiHost (s : State) : s.start.hiHost = s.dev.hiHost := rfl
@[simp] theorem State.start_hiPorch (s : State) : s.start.hiPorch = s.dev.hiPorch := rfl
@[simp] theorem State.start_fwVersion (s : State) : s.start.fwVersion = s.dev.fwVersion := rfl
@[simp] theorem State.start_fwBuild (s : State) : s.start.fwBuild = s.dev.fwBuild := rfl
@[simp] theorem State.start_log (s : State) : s.start.log = s.dev.log := rfl
@[simp] theorem State.start_prints (s : State) : s.start.prints = s.dev.prints := rfl
@[simp] theorem State.start_seeds (s : State) : s.start.seeds = s.dev.seeds := rfl
@[simp] theorem State.start_taps (s : State) : s.start.taps = s.dev.taps := rfl
@[simp] theorem State.start_tapsLive (s : State) : s.start.tapsLive = s.dev.tapsLive := rfl
@[simp] theorem State.start_dram (s : State) : s.start.dram = s.dev.dram := rfl
@[simp] theorem State.start_flash (s : State) : s.start.flash = s.dev.flash := rfl
@[simp] theorem State.start_dramLog (s : State) : s.start.dramLog = s.dev.dramLog := rfl
@[simp] theorem State.start_flashLog (s : State) : s.start.flashLog = s.dev.flashLog := rfl

end Sys2Proof.Machine
end

