-- ==== Sys2Proof/Laws/Exec.lean ====
section
/-!
SUPPORT. What `exec` is for each command: its effect, gated by RESET or not.
-/
namespace Sys2Proof.Machine

theorem exec_resetRelease (s : State) (trained : List (Fin 16)) : exec (.resetRelease trained) s = s.always fun d => d.resetRelease (trained.map Fin.val) := rfl
theorem exec_tempSample (s : State) (quarters : List Int) : exec (.tempSample quarters) s = s.run fun d => d.tempSample quarters := rfl
theorem exec_encoderEdge (s : State) (e : Fin 4) (a b : Bool) (at_ stable : Nat) : exec (.encoderEdge e a b at_ stable) s = s.always fun d => d.encoderRow e.val a b at_ stable := rfl
theorem exec_zEdge (s : State) (e : Fin 4) (at_ : Nat) : exec (.zEdge e at_) s = s.run fun d => d.zEdge e.val at_ := rfl
theorem exec_encoderLost (s : State) (e : Fin 4) (at_ : Nat) : exec (.encoderLost e at_) s = s.run fun d => d.encoderLost e.val at_ := rfl
theorem exec_motionStop (s : State) (at_ : Nat) : exec (.motionStop at_) s = s.run fun d => d.motionRow at_ := rfl
theorem exec_readmit (s : State) (e : Fin 4) (v : BitVec 32) : exec (.readmit e v) s = s.run fun d => d.hostWrite (0x101000 + 0x40 * e.val) (v.toNat ||| 0x10000) := rfl
theorem exec_mdOffsetWrite (s : State) (v : BitVec 64) : exec (.mdOffsetWrite v) s = s.always fun d => d.mdOffsetWrite v.toNat := rfl
theorem exec_ltrigTarget (s : State) (g : Fin 48) (at_ : Nat) : exec (.ltrigTarget g at_) s = s.run fun d => d.ltrigTarget g.val at_ := rfl
theorem exec_trgCeilExpiry (s : State) (g : Fin 48) : exec (.trgCeilExpiry g) s = s.run fun d => d.ceilExpiry g.val := rfl
theorem exec_trgFloorExpiry (s : State) (g : Fin 48) : exec (.trgFloorExpiry g) s = s.run fun d => d.floorExpiry g.val := rfl
theorem exec_trgClear (s : State) (g : Fin 48) (v : BitVec 32) : exec (.trgClear g v) s = s.run fun d => d.hostWrite (0x102000 + 0x20 * g.val) (v.toNat ||| 0x80000000) := rfl
theorem exec_linePassed (s : State) (at_ : Nat) (differs : Bool) : exec (.linePassed at_ differs) s = s.run fun d => d.linePassed at_ differs := rfl
theorem exec_cmpFire (s : State) (k : Fin 256) (at_ : Nat) : exec (.cmpFire k at_) s = s.run fun d => d.cmpRow k.val at_ := rfl
theorem exec_cmpArm (s : State) (k : Fin 256) (v : BitVec 32) : exec (.cmpArm k v) s = s.run fun d => d.hostWrite (0x104010 + 0x20 * k.val) (v.toNat) := rfl
theorem exec_posSyncEdge (s : State) (at_ : Nat) : exec (.posSyncEdge at_) s = s.run fun d => d.posSyncEdge at_ := rfl
theorem exec_posReceive (s : State) (side : Fin 2) (p : RxPacket) : exec (.posReceive side p) s = s.run fun d => d.packet side.val PT.pos p fun d => (d.pairMsg (posMsgOf p.payload)).1 := rfl
theorem exec_holdover (s : State) (at_ : Nat) : exec (.holdover at_) s = s.run fun d => d.holdover at_ := rfl
theorem exec_camTrig (s : State) (p : Fin 16) : exec (.camTrig p) s = s.run fun d => d.camTrig p.val := rfl
theorem exec_clgCc (s : State) (m c : Fin 4) : exec (.clgCc m c) s = s.run fun d => d.clgCc m.val c.val := rfl
theorem exec_triggerPulseEnd (s : State) (p : Fin 20) : exec (.triggerPulseEnd p) s = s.run fun d => d.pulseEnd p.val := rfl
theorem exec_exposureStamp (s : State) (p : Fin 20) : exec (.exposureStamp p) s = s.run fun d => d.exposureStamp p.val := rfl
theorem exec_camLine (s : State) (p : Fin 20) (at_ : Nat) (planes : List (List Nat)) (elasticFull : Bool) : exec (.camLine p at_ planes elasticFull) s = s.run fun d => d.camLine p.val at_ planes elasticFull := rfl
theorem exec_acqFrameEdge (s : State) (p : Fin 20) (opens : Bool) (at_ : Nat) : exec (.acqFrameEdge p opens at_) s = s.run fun d => d.acqEdge p.val opens at_ := rfl
theorem exec_gcGo (s : State) (p : Fin 16) (v : BitVec 32) : exec (.gcGo p v) s = s.run fun d => d.hostWrite (0x2000A8 + 0x10000 * p.val) (v.toNat ||| 0x400) := rfl
theorem exec_gcAnswer (s : State) (p : Fin 16) (ok : Bool) (data : List Byte) : exec (.gcAnswer p ok data) s = s.run fun d => d.gcAnswer p.val ok data := rfl
theorem exec_gcTimeout (s : State) (p : Fin 16) : exec (.gcTimeout p) s = s.run fun d => d.gcTimeout p.val := rfl
theorem exec_camLanesSignal (s : State) (p : Fin 16) : exec (.camLanesSignal p) s = s.run fun d => d.camLanesSignal p.val := rfl
theorem exec_camLinkUp (s : State) (p : Fin 16) (skew : Nat) : exec (.camLinkUp p skew) s = s.run fun d => d.camLinkUp p.val skew := rfl
theorem exec_deskewRetry (s : State) (p : Fin 16) (skew : Nat) : exec (.deskewRetry p skew) s = s.run fun d => d.deskewRetry p.val skew := rfl
theorem exec_camIdentifyDone (s : State) (p : Fin 16) (ident : List Byte) : exec (.camIdentifyDone p ident) s = s.run fun d => d.identifyRow p.val ident := rfl
theorem exec_camIdentifyWaitEnd (s : State) (p : Fin 16) : exec (.camIdentifyWaitEnd p) s = s.run fun d => d.identifyWaitEnd p.val := rfl
theorem exec_camRetry (s : State) (p : Fin 16) (v : BitVec 32) : exec (.camRetry p v) s = s.run fun d => d.hostWrite (0x200000 + 0x10000 * p.val) (v.toNat ||| 0x1000) := rfl
theorem exec_roleMissingTimeout (s : State) (p : Fin 20) : exec (.roleMissingTimeout p) s = s.run fun d => d.roleMissing p.val := rfl
theorem exec_clgClockLocked (s : State) (m : Fin 4) (mhz : Nat) : exec (.clgClockLocked m mhz) s = s.run fun d => d.clgRow m.val mhz := rfl
theorem exec_clgClockLost (s : State) (m : Fin 4) (ch : Fin 3) : exec (.clgClockLost m ch) s = s.run fun d => d.clgLost m.val ch.val := rfl
theorem exec_serByteReceive (s : State) (m : Fin 4) (b : Byte) : exec (.serByteReceive m b) s = s.run fun d => d.serReceive m.val b := rfl
theorem exec_serTxWrite (s : State) (m : Fin 4) (v : BitVec 32) : exec (.serTxWrite m v) s = s.run fun d => d.hostWrite (0x300064 + 0x1000 * m.val) (v.toNat) := rfl
theorem exec_serRxRead (s : State) (m : Fin 4) : exec (.serRxRead m) s = s.run fun d => d.hostRead (0x300068 + 0x1000 * m.val) 4 := rfl
theorem exec_camsideChunk (s : State) (r : Fin 16) : exec (.camsideChunk r) s = s.run fun d => d.chunkRow r.val := rfl
theorem exec_outputLineCompute (s : State) (r : Fin 16) (c : Fin 4) : exec (.outputLineCompute r c) s = s.run fun d => d.outputCompute r.val c.val := rfl
theorem exec_outputLineDeadline (s : State) (r : Fin 16) (c : Fin 4) : exec (.outputLineDeadline r c) s = s.run fun d => d.outputDeadline r.val c.val := rfl
theorem exec_bandLineTake (s : State) (r : Fin 16) : exec (.bandLineTake r) s = s.run fun d => d.bandRow r.val := rfl
theorem exec_fenceComplete (s : State) (source : Fin 128) : exec (.fenceComplete source) s = s.run fun d => d.fenceComplete source.val := rfl
theorem exec_windowRelease (s : State) (r : Fin 16) : exec (.windowRelease r) s = s.run fun d => d.windowOut r.val false := rfl
theorem exec_apronWaitExpiry (s : State) (r : Fin 16) : exec (.apronWaitExpiry r) s = s.run fun d => d.apronExpiry r.val := rfl
theorem exec_apronReceive (s : State) (side : Fin 2) (p : RxPacket) : exec (.apronReceive side p) s = s.run fun d => d.packet side.val PT.apron p fun d => d.apronReceive side.val p.payload := rfl
theorem exec_bar4Read (s : State) (offset len : Nat) (ecc : EccResult) : exec (.bar4Read offset len ecc) s = s.run fun d => d.bar4Read offset len ecc := rfl
theorem exec_bar4Write (s : State) (offset : Nat) (bytes : List Byte) : exec (.bar4Write offset bytes) s = s.run fun d => d.bar4Put offset bytes := rfl
theorem exec_segRow (s : State) (r : Fin 16) : exec (.segRow r) s = s.run fun d => d.segRowOut r.val := rfl
theorem exec_segSkip (s : State) (r : Fin 16) : exec (.segSkip r) s = s.run fun d => d.segSkipOut r.val := rfl
theorem exec_imageRowDeliver (s : State) (ctx : Fin 4096) : exec (.imageRowDeliver ctx) s = s.run fun d => d.imageDeliver ctx.val := rfl
theorem exec_dcaResult (s : State) (memError : Bool) : exec (.dcaResult memError) s = s.run fun d => Dev.decided (d.dcaResult memError) := rfl
theorem exec_dcaDeadline (s : State) (at_ : Nat) : exec (.dcaDeadline at_) s = s.run fun d => Dev.decided (d.advance at_).dcaDeadline := rfl
theorem exec_modelLoadReceived (s : State) (bank : Fin 2) (host : List Byte) : exec (.modelLoadReceived bank host) s = s.run fun d => d.modelReceived bank.val host := rfl
theorem exec_modelVerifyDone (s : State) (bank : Fin 2) : exec (.modelVerifyDone bank) s = s.run fun d => d.modelVerified bank.val := rfl
theorem exec_swPulse (s : State) (mask : BitVec 16) : exec (.swPulse mask) s = s.run fun d => d.hostWrite (0x400010) (mask.toNat) := rfl
theorem exec_swSet (s : State) (mask : BitVec 16) : exec (.swSet mask) s = s.run fun d => d.hostWrite (0x400014) (mask.toNat) := rfl
theorem exec_swClear (s : State) (mask : BitVec 16) : exec (.swClear mask) s = s.run fun d => d.hostWrite (0x400018) (mask.toNat) := rfl
theorem exec_gpioEdge (s : State) (p : Fin 32) (level : Bool) (at_ stable : Nat) : exec (.gpioEdge p level at_ stable) s = s.always fun d => d.gpioRow p.val level at_ stable := rfl
theorem exec_gpo (s : State) (p : Fin 32) : exec (.gpo p) s = s.run fun d => d.gpoEvent p.val := rfl
theorem exec_gpoPulseRise (s : State) (p : Fin 32) : exec (.gpoPulseRise p) s = s.run fun d => d.gpoRise p.val := rfl
theorem exec_gpoPulseEnd (s : State) (p : Fin 32) : exec (.gpoPulseEnd p) s = s.run fun d => d.gpoEnd p.val := rfl
theorem exec_tmrStart (s : State) (n : Fin 16) : exec (.tmrStart n) s = s.run fun d => d.tmrStart n.val := rfl
theorem exec_tmrStop (s : State) (n : Fin 16) : exec (.tmrStop n) s = s.run fun d => d.tmrStop n.val := rfl
theorem exec_tmrExpiry (s : State) (n : Fin 16) : exec (.tmrExpiry n) s = s.run fun d => d.tmrExpiry n.val := rfl
theorem exec_markFire (s : State) (k : Fin 8) : exec (.markFire k) s = s.run fun d => d.markFire k.val := rfl
theorem exec_markInhibit (s : State) (k : Fin 8) : exec (.markInhibit k) s = s.run fun d => d.markInhibit k.val := rfl
theorem exec_markPulseEnd (s : State) (k : Fin 8) : exec (.markPulseEnd k) s = s.run fun d => d.markPulseEnd k.val := rfl
theorem exec_markHoldoffEnd (s : State) (k : Fin 8) : exec (.markHoldoffEnd k) s = s.run fun d => d.markHoldoffEnd k.val := rfl
theorem exec_syncReqWrite (s : State) (v : BitVec 32) : exec (.syncReqWrite v) s = s.run fun d => d.hostWrite (0x502000) (v.toNat ||| 0x1000) := rfl
theorem exec_irq (s : State) (n : Fin 64) : exec (.irq n) s = s.run fun d => d.irq n.val := rfl
theorem exec_dmaStart (s : State) (n : Fin 64) : exec (.dmaStart n) s = s.run fun d => d.dmaInput n.val := rfl
theorem exec_pantryWriteDone (s : State) (held : Option (List Byte)) : exec (.pantryWriteDone held) s = s.run fun d => d.pantryWriteDone held := rfl
theorem exec_galUpdate (s : State) (v : BitVec 32) : exec (.galUpdate v) s = s.run fun d => d.hostWrite (0x700000) (v.toNat ||| 4) := rfl
theorem exec_dpPlug (s : State) (lanes rate : Nat) (edid : List Byte) : exec (.dpPlug lanes rate edid) s = s.run fun d => d.dpPlug lanes rate edid := rfl
theorem exec_irqHpd (s : State) (lost : Bool) : exec (.irqHpd lost) s = s.run fun d => d.irqHpd lost := rfl
theorem exec_dpTrainDone (s : State) (good : List (Nat × Nat)) : exec (.dpTrainDone good) s = s.run fun d => d.trainDone good := rfl
theorem exec_dpTrainRetry (s : State) (lanes rate : Nat) (edid : List Byte) : exec (.dpTrainRetry lanes rate edid) s = s.run fun d => d.trainRetry lanes rate edid := rfl
theorem exec_sqDoorbell (s : State) (fn : Fin 64) (n : Fin 16384) (value : BitVec 16) : exec (.sqDoorbell fn n value) s = s.run fun d => if d.hostReaches true 0 then d.sqDoorbell fn.val n.val value.toNat else d := rfl
theorem exec_cqDoorbell (s : State) (fn : Fin 64) (n : Fin 16384) (value : BitVec 16) : exec (.cqDoorbell fn n value) s = s.run fun d => if d.hostReaches true 0 then d.cqDoorbell fn.val n.val value.toNat else d := rfl
theorem exec_sqEnableWrite (s : State) (fn : Fin 64) (n : Fin 16384) (v : BitVec 32) : exec (.sqEnableWrite fn n v) s = s.run fun d => d.busWrite false fn.val ((if fn.val = 0 then 0x2800000 else 0) + 0x40 * n.val + 0x10) 4 v.toNat := rfl
theorem exec_cqEnableWrite (s : State) (fn : Fin 64) (n : Fin 16384) (v : BitVec 32) : exec (.cqEnableWrite fn n v) s = s.run fun d => d.busWrite false fn.val ((if fn.val = 0 then 0x2800000 else 0) + 0x40 * n.val + 0x14) 4 v.toNat := rfl
theorem exec_commandFetch (s : State) (q : Fin 16384) (entries : List (List Byte)) : exec (.commandFetch q entries) s = s.run fun d => d.commandFetch q.val entries := rfl
theorem exec_cqEntryWrite (s : State) (q : Fin 16384) : exec (.cqEntryWrite q) s = s.run fun d => d.cqNext q.val := rfl
theorem exec_cqCoalExpiry (s : State) (q : Fin 16384) : exec (.cqCoalExpiry q) s = s.run fun d => d.cqCoal q.val := rfl
theorem exec_msixUnmask (s : State) (fn : Fin 64) (vector : Fin 2048) : exec (.msixUnmask fn vector) s = s.run fun d => d.msixUnmask fn.val vector.val := rfl
theorem exec_identify (s : State) (q : Fin 16384) : exec (.identify q) s = s.run fun d => d.identify q.val d.versionText := rfl
theorem exec_commit (s : State) (q : Fin 16384) : exec (.commit q) s = s.run fun d => d.commitCmd q.val := rfl
theorem exec_modeRequest (s : State) (q : Fin 16384) : exec (.modeRequest q) s = s.run fun d => d.modeCmd q.val := rfl
theorem exec_recipeSwitch (s : State) (q : Fin 16384) : exec (.recipeSwitch q) s = s.run fun d => d.recipeCmd q.val := rfl
theorem exec_profileReset (s : State) (q : Fin 16384) : exec (.profileReset q) s = s.run fun d => d.profileReset q.val := rfl
theorem exec_cropRead (s : State) (q : Fin 16384) : exec (.cropRead q) s = s.run fun d => d.cropRead q.val := rfl
theorem exec_dmaRun (s : State) (q : Fin 16384) : exec (.dmaRun q) s = s.run fun d => d.dmaRun q.val := rfl
theorem exec_calibrate (s : State) (q : Fin 16384) : exec (.calibrate q) s = s.run fun d => d.calibrateOp q.val := rfl
theorem exec_test (s : State) (q : Fin 16384) : exec (.test q) s = s.run fun d => d.testOp q.val := rfl
theorem exec_atticExport (s : State) (q : Fin 16384) : exec (.atticExport q) s = s.run fun d => d.atticExport q.val := rfl
theorem exec_replay (s : State) (q : Fin 16384) : exec (.replay q) s = s.run fun d => d.replayOp q.val := rfl
theorem exec_replayLoadDone (s : State) (first : Int) : exec (.replayLoadDone first) s = s.run fun d => d.replayLoadDone first := rfl
theorem exec_modelLoad (s : State) (q : Fin 16384) : exec (.modelLoad q) s = s.run fun d => d.modelLoad q.val := rfl
theorem exec_laneRetrain (s : State) (q : Fin 16384) : exec (.laneRetrain q) s = s.run fun d => d.laneRetrain q.val := rfl
theorem exec_spareRotate (s : State) (q : Fin 16384) : exec (.spareRotate q) s = s.run fun d => d.spareRotate q.val := rfl
theorem exec_suspend (s : State) (q : Fin 16384) : exec (.suspend q) s = s.run fun d => d.suspendOp q.val := rfl
theorem exec_resume (s : State) (q : Fin 16384) : exec (.resume q) s = s.run fun d => d.resumeOp q.val := rfl
theorem exec_cancel (s : State) (q : Fin 16384) (blocks : Nat) (data : List Byte) : exec (.cancel q blocks data) s = s.run fun d => d.cancelOp q.val blocks data := rfl
theorem exec_opStatus (s : State) (q : Fin 16384) : exec (.opStatus q) s = s.run fun d => d.opStatus q.val := rfl
theorem exec_subscribeRecords (s : State) (q : Fin 16384) : exec (.subscribeRecords q) s = s.run fun d => d.subscribeRecords q.val := rfl
theorem exec_subscribePreview (s : State) (q : Fin 16384) : exec (.subscribePreview q) s = s.run fun d => d.subscribePreview q.val := rfl
theorem exec_subscribeImage (s : State) (q : Fin 16384) : exec (.subscribeImage q) s = s.run fun d => d.subscribeImage q.val := rfl
theorem exec_subscribeProfile (s : State) (q : Fin 16384) : exec (.subscribeProfile q) s = s.run fun d => d.subscribeProfile q.val := rfl
theorem exec_postBuffer (s : State) (q : Fin 16384) : exec (.postBuffer q) s = s.run fun d => d.postBuffer q.val := rfl
theorem exec_unsubscribe (s : State) (q : Fin 16384) : exec (.unsubscribe q) s = s.run fun d => d.unsubscribe q.val := rfl
theorem exec_vfFlr (s : State) (fn : Fin 64) : exec (.vfFlr fn) s = s.run fun d => d.vfFlr fn.val := rfl
theorem exec_hostReset (s : State) (linkDown : Bool) : exec (.hostReset linkDown) s = s.run fun d => if linkDown then d.linkDown else d.hostReset := rfl
theorem exec_vfBmeClear (s : State) (fn : Fin 64) : exec (.vfBmeClear fn) s = s.run fun d => d.vfBmeClear fn.val := rfl
theorem exec_dmaGo (s : State) (n : Fin 64) : exec (.dmaGo n) s = s.run fun d => d.hostWrite (0x801010 + 0x40 * n.val) (1) := rfl
theorem exec_dmaStop (s : State) (n : Fin 64) (blocks : Nat) (data : List Byte) : exec (.dmaStop n blocks data) s = s.run fun d => if d.hostReaches true 0x801010 then d.dmaStop n.val blocks data else d := rfl
theorem exec_dmaClear (s : State) (n : Fin 64) : exec (.dmaClear n) s = s.run fun d => d.hostWrite (0x801010 + 0x40 * n.val) (4) := rfl
theorem exec_dmaDescRead (s : State) (n : Fin 64) (host : List Byte) : exec (.dmaDescRead n host) s = s.run fun d => d.dmaDescRead n.val host := rfl
theorem exec_dmaDescDone (s : State) (n : Fin 64) (data : List Byte) : exec (.dmaDescDone n data) s = s.run fun d => d.dmaDescDone n.val data := rfl
theorem exec_dmaReadFail (s : State) (n : Fin 64) (kind : ReadFail) (wrote : Nat) (data : List Byte) : exec (.dmaReadFail n kind wrote data) s = s.run fun d => d.dmaFailRow n.val kind wrote data := rfl
theorem exec_doorwayDecision (s : State) (x : Fin 19) (arrivals : List Arrival) (move release : Bool) (ecc : EccResult) : exec (.doorwayDecision x arrivals move release ecc) s = s.run fun d => d.doorway x.val arrivals move release ecc := rfl
theorem exec_lockTimeout (s : State) (x : Fin 19) : exec (.lockTimeout x) s = s.run fun d => d.lockTimeout x.val := rfl
theorem exec_starve (s : State) (x : Fin 19) (r : Fin 128) : exec (.starve x r) s = s.run fun d => d.starve x.val r.val := rfl
theorem exec_refreshDue (s : State) (c : Fin 16) (bank : Fin 32) (issued : Nat) : exec (.refreshDue c bank issued) s = s.run fun d => d.refreshDue c.val bank.val issued := rfl
theorem exec_retrainDue (s : State) (c : Fin 16) (gap drift : Bool) : exec (.retrainDue c gap drift) s = s.run fun d => d.retrainDue c.val gap drift := rfl
theorem exec_retrainForced (s : State) (c : Fin 16) (drift : Bool) : exec (.retrainForced c drift) s = s.run fun d => d.retrainForced c.val drift := rfl
theorem exec_mr4Poll (s : State) (mults : List (Fin 3)) (hot : Bool) : exec (.mr4Poll mults hot) s = s.run fun d => d.mr4Poll (mults.map Fin.val) hot := rfl
theorem exec_c0LoadWindow (s : State) (c : Fin 16) : exec (.c0LoadWindow c) s = s.run fun d => d.loadWindow c.val := rfl
theorem exec_reqClassWrite (s : State) (r : Fin 128) (v : BitVec 32) : exec (.reqClassWrite r v) s = s.run fun d => d.hostWrite (0x902000 + 0x10 * r.val) (v.toNat) := rfl
theorem exec_laneLos (s : State) (l : Fin 112) : exec (.laneLos l) s = s.run fun d => d.laneLos l.val := rfl
theorem exec_laneLol (s : State) (l : Fin 112) (bitLock : Bool) (errors : Nat) : exec (.laneLol l bitLock errors) s = s.run fun d => d.laneLol l.val bitLock errors := rfl
theorem exec_bitslip (s : State) (l : Fin 112) (v : BitVec 32) : exec (.bitslip l v) s = s.run fun d => d.hostWrite (0xA04000 + 0x20 * l.val) (v.toNat ||| 0x100) := rfl
theorem exec_bitslipApply (s : State) (l : Fin 112) : exec (.bitslipApply l) s = s.run fun d => d.bitslipApply l.val := rfl
theorem exec_detectProbe (s : State) (side : Fin 2) (present : List (Fin 8)) : exec (.detectProbe side present) s = s.run fun d => d.detectProbe side.val (present.map Fin.val) := rfl
theorem exec_ktsReceive (s : State) (side : Fin 2) (second : Bool) (count sent : Nat) (sets : List KtsIn) : exec (.ktsReceive side second count sent sets) s = s.run fun d => d.ktsReceive side.val second count sent sets := rfl
theorem exec_trainTimeout (s : State) (side : Fin 2) : exec (.trainTimeout side) s = s.run fun d => d.trainTimeout side.val := rfl
theorem exec_rateIdleEnd (s : State) (side : Fin 2) : exec (.rateIdleEnd side) s = s.run fun d => d.rateIdleEnd side.val := rfl
theorem exec_eqTimeout (s : State) (side : Fin 2) : exec (.eqTimeout side) s = s.run fun d => d.eqTimeout side.val := rfl
theorem exec_lockHoldDone (s : State) (side : Fin 2) : exec (.lockHoldDone side) s = s.run fun d => d.lockHoldDone side.val := rfl
theorem exec_portRetry (s : State) (side : Fin 2) (v : BitVec 32) : exec (.portRetry side v) s = s.run fun d => d.hostWrite (0xA01000 + 0x100 * side.val) (v.toNat ||| 0x100) := rfl
theorem exec_capReceive (s : State) (side : Fin 2) (p : RxPacket) : exec (.capReceive side p) s = s.run fun d => d.packet side.val PT.cap p fun d => d.capReceive side.val p.payload := rfl
theorem exec_capResend (s : State) (side : Fin 2) : exec (.capResend side) s = s.run fun d => d.capResend side.val := rfl
theorem exec_ackReceive (s : State) (side : Fin 2) (p : RxPacket) : exec (.ackReceive side p) s = s.run fun d => d.packet side.val PT.ack p fun d => d.ackReceive side.val (leAt p.payload 0 2) (bitOf (leAt p.payload 2 2) 0) := rfl
theorem exec_replayTimeout (s : State) (side : Fin 2) : exec (.replayTimeout side) s = s.run fun d => d.replayTimeout side.val := rfl
theorem exec_linkinfoReceive (s : State) (side : Fin 2) (p : RxPacket) : exec (.linkinfoReceive side p) s = s.run fun d => d.packet side.val PT.linkinfo p fun d => d.linkinfoTake side.val p := rfl
theorem exec_syncReceive (s : State) (side : Fin 2) (p : RxPacket) : exec (.syncReceive side p) s = s.run fun d => d.packet side.val PT.sync p fun d => d.syncReceive p.payload := rfl
theorem exec_syncReqReceive (s : State) (side : Fin 2) (p : RxPacket) : exec (.syncReqReceive side p) s = s.run fun d => d.packet side.val PT.syncReq p fun d => d.syncReqReceive p.payload := rfl
theorem exec_commitReceive (s : State) (side : Fin 2) (p : RxPacket) : exec (.commitReceive side p) s = s.run fun d => d.packet side.val PT.commit p fun d => d.commitReceive p.payload := rfl
theorem exec_commitResultReceive (s : State) (side : Fin 2) (p : RxPacket) : exec (.commitResultReceive side p) s = s.run fun d => d.packet side.val PT.commitResult p fun d => d.commitResult p.payload := rfl
theorem exec_borderReceive (s : State) (side : Fin 2) (p : RxPacket) : exec (.borderReceive side p) s = s.run fun d => d.packet side.val PT.border p fun d => d.borderReceive side.val (borderOf p.payload) := rfl
theorem exec_yieldReceive (s : State) (side : Fin 2) (p : RxPacket) : exec (.yieldReceive side p) s = s.run fun d => d.packet side.val PT.yield p fun d => d.yieldReceive p.src p.payload := rfl
theorem exec_dozeIdleExpiry (s : State) (side : Fin 2) : exec (.dozeIdleExpiry side) s = s.run fun d => d.dozeIdleExpiry side.val := rfl
theorem exec_dozeReceive (s : State) (side : Fin 2) : exec (.dozeReceive side) s = s.run fun d => d.dozeReceive side.val := rfl
theorem exec_wakeDetect (s : State) (side : Fin 2) : exec (.wakeDetect side) s = s.run fun d => d.wakeDetect side.val := rfl
theorem exec_wakeLockTimeout (s : State) (side : Fin 2) : exec (.wakeLockTimeout side) s = s.run fun d => d.wakeLockTimeout side.val := rfl
theorem exec_modeReqWrite (s : State) (v : BitVec 32) : exec (.modeReqWrite v) s = s.run fun d => d.hostWrite (0x008) (v.toNat) := rfl
theorem exec_resetReqWrite (s : State) (v : BitVec 32) : exec (.resetReqWrite v) s = s.run fun d => d.hostWrite (0xA10) (v.toNat) := rfl
theorem exec_shadowOpen (s : State) (v : BitVec 32) : exec (.shadowOpen v) s = s.run fun d => d.hostWrite (0x100) (v.toNat) := rfl
theorem exec_shadowWrite (s : State) (addr v : BitVec 32) : exec (.shadowWrite addr v) s = s.run fun d => d.hostWrite (addr.toNat) (v.toNat) := rfl
theorem exec_shadowSeal (s : State) (v : BitVec 32) : exec (.shadowSeal v) s = s.run fun d => d.hostWrite (0x104) (v.toNat) := rfl
theorem exec_sealCheckDone (s : State) (g : Fin 32) : exec (.sealCheckDone g) s = s.run fun d => d.sealCheckDone g.val := rfl
theorem exec_shadowAbort (s : State) (v : BitVec 32) : exec (.shadowAbort v) s = s.run fun d => d.hostWrite (0x108) (v.toNat) := rfl
theorem exec_commitReqWrite (s : State) (v : BitVec 32) : exec (.commitReqWrite v) s = s.run fun d => d.hostWrite (0x120) (v.toNat) := rfl
theorem exec_hello (s : State) (p : Peer) (raw : List Byte) : exec (.hello p raw) s = s.run fun d => d.hello p raw := rfl
theorem exec_openSession (s : State) (p : Peer) (raw : List Byte) : exec (.openSession p raw) s = s.run fun d => d.openSession p raw := rfl
theorem exec_closeSession (s : State) (p : Peer) (raw : List Byte) : exec (.closeSession p raw) s = s.run fun d => d.closeMsg p raw := rfl
theorem exec_keepalive (s : State) (p : Peer) (raw : List Byte) : exec (.keepalive p raw) s = s.run fun d => d.keepalive p raw := rfl
theorem exec_status (s : State) (p : Peer) (raw : List Byte) : exec (.status p raw) s = s.run fun d => d.statusMsg p raw := rfl
theorem exec_regRead (s : State) (p : Peer) (raw : List Byte) : exec (.regRead p raw) s = s.run fun d => d.regReadMsg p raw := rfl
theorem exec_regWrite (s : State) (p : Peer) (raw : List Byte) : exec (.regWrite p raw) s = s.run fun d => d.regWriteMsg p raw := rfl
theorem exec_logRead (s : State) (p : Peer) (raw : List Byte) : exec (.logRead p raw) s = s.run fun d => d.logRead p raw := rfl
theorem exec_kspReset (s : State) (p : Peer) (raw : List Byte) : exec (.kspReset p raw) s = s.run fun d => d.kspReset p raw := rfl
theorem exec_updBegin (s : State) (p : Peer) (raw : List Byte) (held : Option (List Byte)) : exec (.updBegin p raw held) s = s.run fun d => d.updBegin p raw held := rfl
theorem exec_updData (s : State) (p : Peer) (raw : List Byte) : exec (.updData p raw) s = s.run fun d => d.updData p raw := rfl
theorem exec_updBlockWritten (s : State) (block : Nat) (held : Option (List Byte)) : exec (.updBlockWritten block held) s = s.run fun d => d.blockWritten block held := rfl
theorem exec_updQuery (s : State) (p : Peer) (raw : List Byte) : exec (.updQuery p raw) s = s.run fun d => d.updQuery p raw := rfl
theorem exec_updVerify (s : State) (p : Peer) (raw : List Byte) : exec (.updVerify p raw) s = s.run fun d => d.updVerify p raw := rfl
theorem exec_updActivate (s : State) (p : Peer) (raw : List Byte) (held : Option (List Byte)) : exec (.updActivate p raw held) s = s.run fun d => d.updActivate p raw held := rfl
theorem exec_updAbort (s : State) (p : Peer) (raw : List Byte) : exec (.updAbort p raw) s = s.run fun d => d.updAbort p raw := rfl
theorem exec_arpRequest (s : State) (ip : BitVec 32) : exec (.arpRequest ip) s = s.run fun d => d.arpRequest ip.toNat := rfl
theorem exec_trialConfirm (s : State) (held : Option (List Byte)) : exec (.trialConfirm held) s = s.run fun d => d.trialConfirm held := rfl
theorem exec_selftestDone (s : State) (n : Fin 17) (pass : Bool) (unit : Fin 16) : exec (.selftestDone n pass unit) s = s.run fun d => d.selftestDone n.val pass unit.val := rfl
theorem exec_stripeError (s : State) (n : Fin 17) (e : SramError) : exec (.stripeError n e) s = s.run fun d => d.stripeError n.val e := rfl
theorem exec_stripeStall (s : State) (n : Fin 17) : exec (.stripeStall n) s = s.run fun d => d.stripeStall n.val := rfl
theorem exec_drtBlock (s : State) (ofTest : Bool) (first second : Option (List Byte)) (corrected : Nat) : exec (.drtBlock ofTest first second corrected) s = s.run fun d => d.drtBlock ofTest first second corrected := rfl
theorem exec_eyePassDone (s : State) (l : Fin 112) (width height : Nat) (full : Bool) : exec (.eyePassDone l width height full) s = s.run fun d => d.eyePassDone l.val width height full := rfl
theorem exec_dbgTokenSubmit (s : State) (v : BitVec 32) : exec (.dbgTokenSubmit v) s = s.run fun d => d.hostWrite (0xD0069C) (v.toNat) := rfl
theorem exec_dbgLock (s : State) (v : BitVec 32) : exec (.dbgLock v) s = s.run fun d => d.hostWrite (0xD006A4) (v.toNat) := rfl
theorem exec_tmuxEnable (s : State) (v : BitVec 32) : exec (.tmuxEnable v) s = s.run fun d => d.hostWrite (0xD00400) (v.toNat ||| 1) := rfl
theorem exec_jtagInstruction (s : State) (op : BitVec 8) : exec (.jtagInstruction op) s = s.always fun d => d.jtagInstruction op.toNat := rfl
theorem exec_live64LowRead (s : State) (addr : BitVec 32) : exec (.live64LowRead addr) s = s.run fun d => d.hostRead addr.toNat 4 := rfl
theorem exec_rstatRead (s : State) (addr : BitVec 32) : exec (.rstatRead addr) s = s.run fun d => d.hostRead addr.toNat 4 := rfl
theorem exec_counterClearWrite (s : State) (addr v : BitVec 32) : exec (.counterClearWrite addr v) s = s.run fun d => d.hostWrite (addr.toNat) (v.toNat) := rfl
theorem exec_registerWrite (s : State) (bar2 : Bool) (fn : Fin 64) (addr : BitVec 32) (size : Nat) (value : BitVec 64) : exec (.registerWrite bar2 fn addr size value) s = s.run fun d => d.busWrite bar2 fn.val addr.toNat size value.toNat := rfl
theorem exec_pcieConfigWrite (s : State) (c : CfgWrite) : exec (.pcieConfigWrite c) s = s.run fun d => d.configWrite c := rfl
theorem exec_refclkRestored (s : State) (lane : Bool) : exec (.refclkRestored lane) s = s.always fun d => d.refclkRestored (if lane then 1 else 2) := rfl
theorem exec_queueFetchError (s : State) (q : Fin 16384) : exec (.queueFetchError q) s = s.run fun d => d.fetchError q.val := rfl
theorem exec_lockFail (s : State) (side : Fin 2) : exec (.lockFail side) s = s.run fun d => d.lockFail side.val := rfl
theorem exec_replayHostLine (s : State) (p : Fin 20) (wpos : Int) (planes : List (List Nat)) (field : Fin 4) : exec (.replayHostLine p wpos planes field) s = s.run fun d => d.replayHostLine p.val wpos planes field.val := rfl
theorem exec_tmuxStrobe (s : State) (seen : BitVec 64) : exec (.tmuxStrobe seen) s = s.run fun d => d.tmuxStrobe seen.toNat := rfl
theorem exec_ethernetLinkChange (s : State) (up : Bool) : exec (.ethernetLinkChange up) s = s.run fun d => d.ethernetLink up := rfl
theorem exec_porAssert (s : State) : exec (.porAssert) s = s.always fun d => d.powerOn := rfl
theorem exec_rstNAssert (s : State) : exec (.rstNAssert) s = s.always fun d => d.warmReset (some 1) := rfl
theorem exec_supplyDroop (s : State) : exec (.supplyDroop) s = s.always fun d => d.powerOn := rfl
theorem exec_sysRefclkLoss (s : State) : exec (.sysRefclkLoss) s = s.always fun d => d.warmReset (some 5) := rfl
theorem exec_laneRefclkLoss (s : State) : exec (.laneRefclkLoss) s = s.always fun d => d.refclkLoss 1 := rfl
theorem exec_pcieRefclkLoss (s : State) : exec (.pcieRefclkLoss) s = s.always fun d => d.refclkLoss 2 := rfl
theorem exec_perstNAssert (s : State) : exec (.perstNAssert) s = s.always fun d => d.perstAssert := rfl
theorem exec_throttleTick (s : State) : exec (.throttleTick) s = s.run fun d => d.throttleTick := rfl
theorem exec_thermComparatorTrip (s : State) : exec (.thermComparatorTrip) s = s.always fun d => d.comparatorTrip := rfl
theorem exec_watchdogExpiry (s : State) : exec (.watchdogExpiry) s = s.run fun d => d.watchdogExpiry := rfl
theorem exec_sramUe (s : State) : exec (.sramUe) s = s.run fun d => d.sramUe := rfl
theorem exec_foyerComplete (s : State) : exec (.foyerComplete) s = s.run fun d => d.foyerComplete := rfl
theorem exec_heartbeatIdle (s : State) : exec (.heartbeatIdle) s = s.run fun d => d.hbIdle := rfl
theorem exec_posSyncPulse (s : State) : exec (.posSyncPulse) s = s.run fun d => d.posSyncPulse := rfl
theorem exec_holdoverExpiry (s : State) : exec (.holdoverExpiry) s = s.run fun d => d.holdoverExpiry := rfl
theorem exec_tapCopyback (s : State) : exec (.tapCopyback) s = s.run fun d => d.tapCopyback := rfl
theorem exec_rowMerge (s : State) : exec (.rowMerge) s = s.run fun d => d.rowMerge false := rfl
theorem exec_mergeHoldExpiry (s : State) : exec (.mergeHoldExpiry) s = s.run fun d => d.rowMerge true := rfl
theorem exec_floorRowMerge (s : State) : exec (.floorRowMerge) s = s.run fun d => d.floorRow := rfl
theorem exec_rowResolve (s : State) : exec (.rowResolve) s = s.run fun d => Dev.rowDone d.rowResolve := rfl
theorem exec_seamWaitExpiry (s : State) : exec (.seamWaitExpiry) s = s.run fun d => Dev.rowDone d.seamWaitExpiry := rfl
theorem exec_yieldWaitExpiry (s : State) : exec (.yieldWaitExpiry) s = s.run fun d => Dev.rowDone d.yieldWaitExpiry := rfl
theorem exec_recordSpool (s : State) : exec (.recordSpool) s = s.run fun d => d.recordSpool := rfl
theorem exec_recordDeliver (s : State) : exec (.recordDeliver) s = s.run fun d => d.recordDeliver := rfl
theorem exec_recordFlush (s : State) : exec (.recordFlush) s = s.run fun d => d.recordFlush := rfl
theorem exec_dcaCropFetch (s : State) : exec (.dcaCropFetch) s = s.run fun d => Dev.decided d.cropFetch := rfl
theorem exec_dcaRunStart (s : State) : exec (.dcaRunStart) s = s.run fun d => Dev.decided d.runStart := rfl
theorem exec_markSlotArrive (s : State) : exec (.markSlotArrive) s = s.run fun d => d.slotArrive := rfl
theorem exec_decSync (s : State) : exec (.decSync) s = s.run fun d => d.decSync := rfl
theorem exec_profileSyncPin (s : State) : exec (.profileSyncPin) s = s.run fun d => d.syncPin := rfl
theorem exec_commitInput (s : State) : exec (.commitInput) s = s.run fun d => d.commitInput := rfl
theorem exec_posCapture (s : State) : exec (.posCapture) s = s.run fun d => d.posCapture := rfl
theorem exec_calDecision (s : State) : exec (.calDecision) s = s.run fun d => d.calDecision := rfl
theorem exec_calComputeLate (s : State) : exec (.calComputeLate) s = s.run fun d => d.calLate := rfl
theorem exec_extCalSumsDone (s : State) : exec (.extCalSumsDone) s = s.run fun d => d.extSumsDone := rfl
theorem exec_extCalComputeDone (s : State) : exec (.extCalComputeDone) s = s.run fun d => d.extComputeDone := rfl
theorem exec_pantryWriteStart (s : State) : exec (.pantryWriteStart) s = s.run fun d => d.pantryWriteStart := rfl
theorem exec_vblankStart (s : State) : exec (.vblankStart) s = s.run fun d => d.vblankRow := rfl
theorem exec_underrun (s : State) : exec (.underrun) s = s.run fun d => d.underrun := rfl
theorem exec_dpUnplug (s : State) : exec (.dpUnplug) s = s.run fun d => d.dpUnplug := rfl
theorem exec_replayAtticRow (s : State) : exec (.replayAtticRow) s = s.run fun d => d.replayAtticRow := rfl
theorem exec_replayDone (s : State) : exec (.replayDone) s = s.run fun d => d.replayDone := rfl
theorem exec_linkinfoTimer (s : State) : exec (.linkinfoTimer) s = s.run fun d => d.sendLinkinfo := rfl
theorem exec_cascadeCommitTimeout (s : State) : exec (.cascadeCommitTimeout) s = s.run fun d => d.cascadeTimeout := rfl
theorem exec_discoverReady (s : State) : exec (.discoverReady) s = s.run fun d => d.discoverReady := rfl
theorem exec_discoverTimeout (s : State) : exec (.discoverTimeout) s = s.run fun d => d.discoverTimeout := rfl
theorem exec_sessionIdleTimeout (s : State) : exec (.sessionIdleTimeout) s = s.run fun d => d.sessionTimeout := rfl
theorem exec_trialTimerExpiry (s : State) : exec (.trialTimerExpiry) s = s.run fun d => d.trialExpiry := rfl
theorem exec_rotationDue (s : State) : exec (.rotationDue) s = s.run fun d => d.rotationDue := rfl
theorem exec_rotationSwitchDone (s : State) : exec (.rotationSwitchDone) s = s.run fun d => d.rotationSwitchDone := rfl
theorem exec_pcieLinkUp (s : State) : exec (.pcieLinkUp) s = s.run fun d => d.pcieLinkUp := rfl
theorem exec_atticExportRow (s : State) : exec (.atticExportRow) s = s.run fun d => d.exportRow := rfl
theorem exec_updVerifyDone (s : State) : exec (.updVerifyDone) s = s.run fun d => d.updVerifyDone := rfl
theorem exec_trstNAssert (s : State) : exec (.trstNAssert) s = s.always fun d => d.trstAssert := rfl

/-- A command is gated by RESET, or it is one of those that act there. -/
theorem exec_gate (c : Instr) (s : State) : (actsInReset c = false ∧ ∃ f, exec c s = s.run f) ∨ (actsInReset c = true ∧ ∃ f, exec c s = s.always f) :=
  match c with
  | .resetRelease trained => .inr ⟨rfl, _, exec_resetRelease s trained⟩
  | .tempSample quarters => .inl ⟨rfl, _, exec_tempSample s quarters⟩
  | .encoderEdge e a b at_ stable => .inr ⟨rfl, _, exec_encoderEdge s e a b at_ stable⟩
  | .zEdge e at_ => .inl ⟨rfl, _, exec_zEdge s e at_⟩
  | .encoderLost e at_ => .inl ⟨rfl, _, exec_encoderLost s e at_⟩
  | .motionStop at_ => .inl ⟨rfl, _, exec_motionStop s at_⟩
  | .readmit e v => .inl ⟨rfl, _, exec_readmit s e v⟩
  | .mdOffsetWrite v => .inr ⟨rfl, _, exec_mdOffsetWrite s v⟩
  | .ltrigTarget g at_ => .inl ⟨rfl, _, exec_ltrigTarget s g at_⟩
  | .trgCeilExpiry g => .inl ⟨rfl, _, exec_trgCeilExpiry s g⟩
  | .trgFloorExpiry g => .inl ⟨rfl, _, exec_trgFloorExpiry s g⟩
  | .trgClear g v => .inl ⟨rfl, _, exec_trgClear s g v⟩
  | .linePassed at_ differs => .inl ⟨rfl, _, exec_linePassed s at_ differs⟩
  | .cmpFire k at_ => .inl ⟨rfl, _, exec_cmpFire s k at_⟩
  | .cmpArm k v => .inl ⟨rfl, _, exec_cmpArm s k v⟩
  | .posSyncEdge at_ => .inl ⟨rfl, _, exec_posSyncEdge s at_⟩
  | .posReceive side p => .inl ⟨rfl, _, exec_posReceive s side p⟩
  | .holdover at_ => .inl ⟨rfl, _, exec_holdover s at_⟩
  | .camTrig p => .inl ⟨rfl, _, exec_camTrig s p⟩
  | .clgCc m c => .inl ⟨rfl, _, exec_clgCc s m c⟩
  | .triggerPulseEnd p => .inl ⟨rfl, _, exec_triggerPulseEnd s p⟩
  | .exposureStamp p => .inl ⟨rfl, _, exec_exposureStamp s p⟩
  | .camLine p at_ planes elasticFull => .inl ⟨rfl, _, exec_camLine s p at_ planes elasticFull⟩
  | .acqFrameEdge p opens at_ => .inl ⟨rfl, _, exec_acqFrameEdge s p opens at_⟩
  | .gcGo p v => .inl ⟨rfl, _, exec_gcGo s p v⟩
  | .gcAnswer p ok data => .inl ⟨rfl, _, exec_gcAnswer s p ok data⟩
  | .gcTimeout p => .inl ⟨rfl, _, exec_gcTimeout s p⟩
  | .camLanesSignal p => .inl ⟨rfl, _, exec_camLanesSignal s p⟩
  | .camLinkUp p skew => .inl ⟨rfl, _, exec_camLinkUp s p skew⟩
  | .deskewRetry p skew => .inl ⟨rfl, _, exec_deskewRetry s p skew⟩
  | .camIdentifyDone p ident => .inl ⟨rfl, _, exec_camIdentifyDone s p ident⟩
  | .camIdentifyWaitEnd p => .inl ⟨rfl, _, exec_camIdentifyWaitEnd s p⟩
  | .camRetry p v => .inl ⟨rfl, _, exec_camRetry s p v⟩
  | .roleMissingTimeout p => .inl ⟨rfl, _, exec_roleMissingTimeout s p⟩
  | .clgClockLocked m mhz => .inl ⟨rfl, _, exec_clgClockLocked s m mhz⟩
  | .clgClockLost m ch => .inl ⟨rfl, _, exec_clgClockLost s m ch⟩
  | .serByteReceive m b => .inl ⟨rfl, _, exec_serByteReceive s m b⟩
  | .serTxWrite m v => .inl ⟨rfl, _, exec_serTxWrite s m v⟩
  | .serRxRead m => .inl ⟨rfl, _, exec_serRxRead s m⟩
  | .camsideChunk r => .inl ⟨rfl, _, exec_camsideChunk s r⟩
  | .outputLineCompute r c => .inl ⟨rfl, _, exec_outputLineCompute s r c⟩
  | .outputLineDeadline r c => .inl ⟨rfl, _, exec_outputLineDeadline s r c⟩
  | .bandLineTake r => .inl ⟨rfl, _, exec_bandLineTake s r⟩
  | .fenceComplete source => .inl ⟨rfl, _, exec_fenceComplete s source⟩
  | .windowRelease r => .inl ⟨rfl, _, exec_windowRelease s r⟩
  | .apronWaitExpiry r => .inl ⟨rfl, _, exec_apronWaitExpiry s r⟩
  | .apronReceive side p => .inl ⟨rfl, _, exec_apronReceive s side p⟩
  | .bar4Read offset len ecc => .inl ⟨rfl, _, exec_bar4Read s offset len ecc⟩
  | .bar4Write offset bytes => .inl ⟨rfl, _, exec_bar4Write s offset bytes⟩
  | .segRow r => .inl ⟨rfl, _, exec_segRow s r⟩
  | .segSkip r => .inl ⟨rfl, _, exec_segSkip s r⟩
  | .imageRowDeliver ctx => .inl ⟨rfl, _, exec_imageRowDeliver s ctx⟩
  | .dcaResult memError => .inl ⟨rfl, _, exec_dcaResult s memError⟩
  | .dcaDeadline at_ => .inl ⟨rfl, _, exec_dcaDeadline s at_⟩
  | .modelLoadReceived bank host => .inl ⟨rfl, _, exec_modelLoadReceived s bank host⟩
  | .modelVerifyDone bank => .inl ⟨rfl, _, exec_modelVerifyDone s bank⟩
  | .swPulse mask => .inl ⟨rfl, _, exec_swPulse s mask⟩
  | .swSet mask => .inl ⟨rfl, _, exec_swSet s mask⟩
  | .swClear mask => .inl ⟨rfl, _, exec_swClear s mask⟩
  | .gpioEdge p level at_ stable => .inr ⟨rfl, _, exec_gpioEdge s p level at_ stable⟩
  | .gpo p => .inl ⟨rfl, _, exec_gpo s p⟩
  | .gpoPulseRise p => .inl ⟨rfl, _, exec_gpoPulseRise s p⟩
  | .gpoPulseEnd p => .inl ⟨rfl, _, exec_gpoPulseEnd s p⟩
  | .tmrStart n => .inl ⟨rfl, _, exec_tmrStart s n⟩
  | .tmrStop n => .inl ⟨rfl, _, exec_tmrStop s n⟩
  | .tmrExpiry n => .inl ⟨rfl, _, exec_tmrExpiry s n⟩
  | .markFire k => .inl ⟨rfl, _, exec_markFire s k⟩
  | .markInhibit k => .inl ⟨rfl, _, exec_markInhibit s k⟩
  | .markPulseEnd k => .inl ⟨rfl, _, exec_markPulseEnd s k⟩
  | .markHoldoffEnd k => .inl ⟨rfl, _, exec_markHoldoffEnd s k⟩
  | .syncReqWrite v => .inl ⟨rfl, _, exec_syncReqWrite s v⟩
  | .irq n => .inl ⟨rfl, _, exec_irq s n⟩
  | .dmaStart n => .inl ⟨rfl, _, exec_dmaStart s n⟩
  | .pantryWriteDone held => .inl ⟨rfl, _, exec_pantryWriteDone s held⟩
  | .galUpdate v => .inl ⟨rfl, _, exec_galUpdate s v⟩
  | .dpPlug lanes rate edid => .inl ⟨rfl, _, exec_dpPlug s lanes rate edid⟩
  | .irqHpd lost => .inl ⟨rfl, _, exec_irqHpd s lost⟩
  | .dpTrainDone good => .inl ⟨rfl, _, exec_dpTrainDone s good⟩
  | .dpTrainRetry lanes rate edid => .inl ⟨rfl, _, exec_dpTrainRetry s lanes rate edid⟩
  | .sqDoorbell fn n value => .inl ⟨rfl, _, exec_sqDoorbell s fn n value⟩
  | .cqDoorbell fn n value => .inl ⟨rfl, _, exec_cqDoorbell s fn n value⟩
  | .sqEnableWrite fn n v => .inl ⟨rfl, _, exec_sqEnableWrite s fn n v⟩
  | .cqEnableWrite fn n v => .inl ⟨rfl, _, exec_cqEnableWrite s fn n v⟩
  | .commandFetch q entries => .inl ⟨rfl, _, exec_commandFetch s q entries⟩
  | .cqEntryWrite q => .inl ⟨rfl, _, exec_cqEntryWrite s q⟩
  | .cqCoalExpiry q => .inl ⟨rfl, _, exec_cqCoalExpiry s q⟩
  | .msixUnmask fn vector => .inl ⟨rfl, _, exec_msixUnmask s fn vector⟩
  | .identify q => .inl ⟨rfl, _, exec_identify s q⟩
  | .commit q => .inl ⟨rfl, _, exec_commit s q⟩
  | .modeRequest q => .inl ⟨rfl, _, exec_modeRequest s q⟩
  | .recipeSwitch q => .inl ⟨rfl, _, exec_recipeSwitch s q⟩
  | .profileReset q => .inl ⟨rfl, _, exec_profileReset s q⟩
  | .cropRead q => .inl ⟨rfl, _, exec_cropRead s q⟩
  | .dmaRun q => .inl ⟨rfl, _, exec_dmaRun s q⟩
  | .calibrate q => .inl ⟨rfl, _, exec_calibrate s q⟩
  | .test q => .inl ⟨rfl, _, exec_test s q⟩
  | .atticExport q => .inl ⟨rfl, _, exec_atticExport s q⟩
  | .replay q => .inl ⟨rfl, _, exec_replay s q⟩
  | .replayLoadDone first => .inl ⟨rfl, _, exec_replayLoadDone s first⟩
  | .modelLoad q => .inl ⟨rfl, _, exec_modelLoad s q⟩
  | .laneRetrain q => .inl ⟨rfl, _, exec_laneRetrain s q⟩
  | .spareRotate q => .inl ⟨rfl, _, exec_spareRotate s q⟩
  | .suspend q => .inl ⟨rfl, _, exec_suspend s q⟩
  | .resume q => .inl ⟨rfl, _, exec_resume s q⟩
  | .cancel q blocks data => .inl ⟨rfl, _, exec_cancel s q blocks data⟩
  | .opStatus q => .inl ⟨rfl, _, exec_opStatus s q⟩
  | .subscribeRecords q => .inl ⟨rfl, _, exec_subscribeRecords s q⟩
  | .subscribePreview q => .inl ⟨rfl, _, exec_subscribePreview s q⟩
  | .subscribeImage q => .inl ⟨rfl, _, exec_subscribeImage s q⟩
  | .subscribeProfile q => .inl ⟨rfl, _, exec_subscribeProfile s q⟩
  | .postBuffer q => .inl ⟨rfl, _, exec_postBuffer s q⟩
  | .unsubscribe q => .inl ⟨rfl, _, exec_unsubscribe s q⟩
  | .vfFlr fn => .inl ⟨rfl, _, exec_vfFlr s fn⟩
  | .hostReset linkDown => .inl ⟨rfl, _, exec_hostReset s linkDown⟩
  | .vfBmeClear fn => .inl ⟨rfl, _, exec_vfBmeClear s fn⟩
  | .dmaGo n => .inl ⟨rfl, _, exec_dmaGo s n⟩
  | .dmaStop n blocks data => .inl ⟨rfl, _, exec_dmaStop s n blocks data⟩
  | .dmaClear n => .inl ⟨rfl, _, exec_dmaClear s n⟩
  | .dmaDescRead n host => .inl ⟨rfl, _, exec_dmaDescRead s n host⟩
  | .dmaDescDone n data => .inl ⟨rfl, _, exec_dmaDescDone s n data⟩
  | .dmaReadFail n kind wrote data => .inl ⟨rfl, _, exec_dmaReadFail s n kind wrote data⟩
  | .doorwayDecision x arrivals move release ecc => .inl ⟨rfl, _, exec_doorwayDecision s x arrivals move release ecc⟩
  | .lockTimeout x => .inl ⟨rfl, _, exec_lockTimeout s x⟩
  | .starve x r => .inl ⟨rfl, _, exec_starve s x r⟩
  | .refreshDue c bank issued => .inl ⟨rfl, _, exec_refreshDue s c bank issued⟩
  | .retrainDue c gap drift => .inl ⟨rfl, _, exec_retrainDue s c gap drift⟩
  | .retrainForced c drift => .inl ⟨rfl, _, exec_retrainForced s c drift⟩
  | .mr4Poll mults hot => .inl ⟨rfl, _, exec_mr4Poll s mults hot⟩
  | .c0LoadWindow c => .inl ⟨rfl, _, exec_c0LoadWindow s c⟩
  | .reqClassWrite r v => .inl ⟨rfl, _, exec_reqClassWrite s r v⟩
  | .laneLos l => .inl ⟨rfl, _, exec_laneLos s l⟩
  | .laneLol l bitLock errors => .inl ⟨rfl, _, exec_laneLol s l bitLock errors⟩
  | .bitslip l v => .inl ⟨rfl, _, exec_bitslip s l v⟩
  | .bitslipApply l => .inl ⟨rfl, _, exec_bitslipApply s l⟩
  | .detectProbe side present => .inl ⟨rfl, _, exec_detectProbe s side present⟩
  | .ktsReceive side second count sent sets => .inl ⟨rfl, _, exec_ktsReceive s side second count sent sets⟩
  | .trainTimeout side => .inl ⟨rfl, _, exec_trainTimeout s side⟩
  | .rateIdleEnd side => .inl ⟨rfl, _, exec_rateIdleEnd s side⟩
  | .eqTimeout side => .inl ⟨rfl, _, exec_eqTimeout s side⟩
  | .lockHoldDone side => .inl ⟨rfl, _, exec_lockHoldDone s side⟩
  | .portRetry side v => .inl ⟨rfl, _, exec_portRetry s side v⟩
  | .capReceive side p => .inl ⟨rfl, _, exec_capReceive s side p⟩
  | .capResend side => .inl ⟨rfl, _, exec_capResend s side⟩
  | .ackReceive side p => .inl ⟨rfl, _, exec_ackReceive s side p⟩
  | .replayTimeout side => .inl ⟨rfl, _, exec_replayTimeout s side⟩
  | .linkinfoReceive side p => .inl ⟨rfl, _, exec_linkinfoReceive s side p⟩
  | .syncReceive side p => .inl ⟨rfl, _, exec_syncReceive s side p⟩
  | .syncReqReceive side p => .inl ⟨rfl, _, exec_syncReqReceive s side p⟩
  | .commitReceive side p => .inl ⟨rfl, _, exec_commitReceive s side p⟩
  | .commitResultReceive side p => .inl ⟨rfl, _, exec_commitResultReceive s side p⟩
  | .borderReceive side p => .inl ⟨rfl, _, exec_borderReceive s side p⟩
  | .yieldReceive side p => .inl ⟨rfl, _, exec_yieldReceive s side p⟩
  | .dozeIdleExpiry side => .inl ⟨rfl, _, exec_dozeIdleExpiry s side⟩
  | .dozeReceive side => .inl ⟨rfl, _, exec_dozeReceive s side⟩
  | .wakeDetect side => .inl ⟨rfl, _, exec_wakeDetect s side⟩
  | .wakeLockTimeout side => .inl ⟨rfl, _, exec_wakeLockTimeout s side⟩
  | .modeReqWrite v => .inl ⟨rfl, _, exec_modeReqWrite s v⟩
  | .resetReqWrite v => .inl ⟨rfl, _, exec_resetReqWrite s v⟩
  | .shadowOpen v => .inl ⟨rfl, _, exec_shadowOpen s v⟩
  | .shadowWrite addr v => .inl ⟨rfl, _, exec_shadowWrite s addr v⟩
  | .shadowSeal v => .inl ⟨rfl, _, exec_shadowSeal s v⟩
  | .sealCheckDone g => .inl ⟨rfl, _, exec_sealCheckDone s g⟩
  | .shadowAbort v => .inl ⟨rfl, _, exec_shadowAbort s v⟩
  | .commitReqWrite v => .inl ⟨rfl, _, exec_commitReqWrite s v⟩
  | .hello p raw => .inl ⟨rfl, _, exec_hello s p raw⟩
  | .openSession p raw => .inl ⟨rfl, _, exec_openSession s p raw⟩
  | .closeSession p raw => .inl ⟨rfl, _, exec_closeSession s p raw⟩
  | .keepalive p raw => .inl ⟨rfl, _, exec_keepalive s p raw⟩
  | .status p raw => .inl ⟨rfl, _, exec_status s p raw⟩
  | .regRead p raw => .inl ⟨rfl, _, exec_regRead s p raw⟩
  | .regWrite p raw => .inl ⟨rfl, _, exec_regWrite s p raw⟩
  | .logRead p raw => .inl ⟨rfl, _, exec_logRead s p raw⟩
  | .kspReset p raw => .inl ⟨rfl, _, exec_kspReset s p raw⟩
  | .updBegin p raw held => .inl ⟨rfl, _, exec_updBegin s p raw held⟩
  | .updData p raw => .inl ⟨rfl, _, exec_updData s p raw⟩
  | .updBlockWritten block held => .inl ⟨rfl, _, exec_updBlockWritten s block held⟩
  | .updQuery p raw => .inl ⟨rfl, _, exec_updQuery s p raw⟩
  | .updVerify p raw => .inl ⟨rfl, _, exec_updVerify s p raw⟩
  | .updActivate p raw held => .inl ⟨rfl, _, exec_updActivate s p raw held⟩
  | .updAbort p raw => .inl ⟨rfl, _, exec_updAbort s p raw⟩
  | .arpRequest ip => .inl ⟨rfl, _, exec_arpRequest s ip⟩
  | .trialConfirm held => .inl ⟨rfl, _, exec_trialConfirm s held⟩
  | .selftestDone n pass unit => .inl ⟨rfl, _, exec_selftestDone s n pass unit⟩
  | .stripeError n e => .inl ⟨rfl, _, exec_stripeError s n e⟩
  | .stripeStall n => .inl ⟨rfl, _, exec_stripeStall s n⟩
  | .drtBlock ofTest first second corrected => .inl ⟨rfl, _, exec_drtBlock s ofTest first second corrected⟩
  | .eyePassDone l width height full => .inl ⟨rfl, _, exec_eyePassDone s l width height full⟩
  | .dbgTokenSubmit v => .inl ⟨rfl, _, exec_dbgTokenSubmit s v⟩
  | .dbgLock v => .inl ⟨rfl, _, exec_dbgLock s v⟩
  | .tmuxEnable v => .inl ⟨rfl, _, exec_tmuxEnable s v⟩
  | .jtagInstruction op => .inr ⟨rfl, _, exec_jtagInstruction s op⟩
  | .live64LowRead addr => .inl ⟨rfl, _, exec_live64LowRead s addr⟩
  | .rstatRead addr => .inl ⟨rfl, _, exec_rstatRead s addr⟩
  | .counterClearWrite addr v => .inl ⟨rfl, _, exec_counterClearWrite s addr v⟩
  | .registerWrite bar2 fn addr size value => .inl ⟨rfl, _, exec_registerWrite s bar2 fn addr size value⟩
  | .pcieConfigWrite c => .inl ⟨rfl, _, exec_pcieConfigWrite s c⟩
  | .refclkRestored lane => .inr ⟨rfl, _, exec_refclkRestored s lane⟩
  | .queueFetchError q => .inl ⟨rfl, _, exec_queueFetchError s q⟩
  | .lockFail side => .inl ⟨rfl, _, exec_lockFail s side⟩
  | .replayHostLine p wpos planes field => .inl ⟨rfl, _, exec_replayHostLine s p wpos planes field⟩
  | .tmuxStrobe seen => .inl ⟨rfl, _, exec_tmuxStrobe s seen⟩
  | .ethernetLinkChange up => .inl ⟨rfl, _, exec_ethernetLinkChange s up⟩
  | .porAssert => .inr ⟨rfl, _, exec_porAssert s⟩
  | .rstNAssert => .inr ⟨rfl, _, exec_rstNAssert s⟩
  | .supplyDroop => .inr ⟨rfl, _, exec_supplyDroop s⟩
  | .sysRefclkLoss => .inr ⟨rfl, _, exec_sysRefclkLoss s⟩
  | .laneRefclkLoss => .inr ⟨rfl, _, exec_laneRefclkLoss s⟩
  | .pcieRefclkLoss => .inr ⟨rfl, _, exec_pcieRefclkLoss s⟩
  | .perstNAssert => .inr ⟨rfl, _, exec_perstNAssert s⟩
  | .throttleTick => .inl ⟨rfl, _, exec_throttleTick s⟩
  | .thermComparatorTrip => .inr ⟨rfl, _, exec_thermComparatorTrip s⟩
  | .watchdogExpiry => .inl ⟨rfl, _, exec_watchdogExpiry s⟩
  | .sramUe => .inl ⟨rfl, _, exec_sramUe s⟩
  | .foyerComplete => .inl ⟨rfl, _, exec_foyerComplete s⟩
  | .heartbeatIdle => .inl ⟨rfl, _, exec_heartbeatIdle s⟩
  | .posSyncPulse => .inl ⟨rfl, _, exec_posSyncPulse s⟩
  | .holdoverExpiry => .inl ⟨rfl, _, exec_holdoverExpiry s⟩
  | .tapCopyback => .inl ⟨rfl, _, exec_tapCopyback s⟩
  | .rowMerge => .inl ⟨rfl, _, exec_rowMerge s⟩
  | .mergeHoldExpiry => .inl ⟨rfl, _, exec_mergeHoldExpiry s⟩
  | .floorRowMerge => .inl ⟨rfl, _, exec_floorRowMerge s⟩
  | .rowResolve => .inl ⟨rfl, _, exec_rowResolve s⟩
  | .seamWaitExpiry => .inl ⟨rfl, _, exec_seamWaitExpiry s⟩
  | .yieldWaitExpiry => .inl ⟨rfl, _, exec_yieldWaitExpiry s⟩
  | .recordSpool => .inl ⟨rfl, _, exec_recordSpool s⟩
  | .recordDeliver => .inl ⟨rfl, _, exec_recordDeliver s⟩
  | .recordFlush => .inl ⟨rfl, _, exec_recordFlush s⟩
  | .dcaCropFetch => .inl ⟨rfl, _, exec_dcaCropFetch s⟩
  | .dcaRunStart => .inl ⟨rfl, _, exec_dcaRunStart s⟩
  | .markSlotArrive => .inl ⟨rfl, _, exec_markSlotArrive s⟩
  | .decSync => .inl ⟨rfl, _, exec_decSync s⟩
  | .profileSyncPin => .inl ⟨rfl, _, exec_profileSyncPin s⟩
  | .commitInput => .inl ⟨rfl, _, exec_commitInput s⟩
  | .posCapture => .inl ⟨rfl, _, exec_posCapture s⟩
  | .calDecision => .inl ⟨rfl, _, exec_calDecision s⟩
  | .calComputeLate => .inl ⟨rfl, _, exec_calComputeLate s⟩
  | .extCalSumsDone => .inl ⟨rfl, _, exec_extCalSumsDone s⟩
  | .extCalComputeDone => .inl ⟨rfl, _, exec_extCalComputeDone s⟩
  | .pantryWriteStart => .inl ⟨rfl, _, exec_pantryWriteStart s⟩
  | .vblankStart => .inl ⟨rfl, _, exec_vblankStart s⟩
  | .underrun => .inl ⟨rfl, _, exec_underrun s⟩
  | .dpUnplug => .inl ⟨rfl, _, exec_dpUnplug s⟩
  | .replayAtticRow => .inl ⟨rfl, _, exec_replayAtticRow s⟩
  | .replayDone => .inl ⟨rfl, _, exec_replayDone s⟩
  | .linkinfoTimer => .inl ⟨rfl, _, exec_linkinfoTimer s⟩
  | .cascadeCommitTimeout => .inl ⟨rfl, _, exec_cascadeCommitTimeout s⟩
  | .discoverReady => .inl ⟨rfl, _, exec_discoverReady s⟩
  | .discoverTimeout => .inl ⟨rfl, _, exec_discoverTimeout s⟩
  | .sessionIdleTimeout => .inl ⟨rfl, _, exec_sessionIdleTimeout s⟩
  | .trialTimerExpiry => .inl ⟨rfl, _, exec_trialTimerExpiry s⟩
  | .rotationDue => .inl ⟨rfl, _, exec_rotationDue s⟩
  | .rotationSwitchDone => .inl ⟨rfl, _, exec_rotationSwitchDone s⟩
  | .pcieLinkUp => .inl ⟨rfl, _, exec_pcieLinkUp s⟩
  | .atticExportRow => .inl ⟨rfl, _, exec_atticExportRow s⟩
  | .updVerifyDone => .inl ⟨rfl, _, exec_updVerifyDone s⟩
  | .trstNAssert => .inr ⟨rfl, _, exec_trstNAssert s⟩

/-- Every command answers a next state. -/
theorem exec_next (c : Instr) (s : State) : ∃ d, exec c s = .next (s.after d) := by
  rcases exec_gate c s with ⟨_, f, h⟩ | ⟨_, f, h⟩
  · by_cases hm : s.dev.mode = .reset
    · exact ⟨_, h.trans (run_reset s f hm)⟩
    · exact ⟨_, h.trans (run_eq s f hm)⟩
  · exact ⟨_, h⟩

end Sys2Proof.Machine
end

