-- ==== Sys2Proof/Laws/Keeps.lean ====
section
/-!
SUPPORT. What the shared operations leave alone: the words of the register file, and the bytes of memory.
-/
namespace Sys2Proof.Machine

theorem keeps_refl (d : Dev) (P : Nat → Prop) : d.keeps d P := ⟨fun _ _ => rfl, rfl, rfl⟩

/-- Two effects in a row, each of which leaves the same words alone. -/
theorem keeps_trans {a b c : Dev} {P : Nat → Prop} (h : a.keeps b P) (k : b.keeps c P) : a.keeps c P :=
  ⟨fun x hx => (k.1 x hx).trans (h.1 x hx), k.2.1.trans h.2.1, k.2.2.trans h.2.2⟩

/-- What leaves more words alone leaves these alone. -/
theorem keeps_mono {a b : Dev} {P Q : Nat → Prop} (h : a.keeps b P) (k : ∀ x, P x → Q x) : a.keeps b Q := ⟨fun x hx => h.1 x fun hp => hx (k x hp), h.2⟩

/-- A change that touches neither the register file nor the logs of memory. -/
theorem keeps_of_eq {a b : Dev} (P : Nat → Prop) (h1 : b.regs = a.regs) (h2 : b.dramLog = a.dramLog) (h3 : b.flashLog = a.flashLog) : a.keeps b P :=
  ⟨fun x _ => by rw [reg_of, reg_of, h1], h2, h3⟩

theorem keeps_setReg (d : Dev) (a : Nat) (v : Word) : d.keeps (d.setReg a v) (· = a) := ⟨fun _ h => reg_setReg_other _ _ _ _ h, by simp, by simp⟩

theorem keeps_setFld (d : Dev) (f : Fld) (v : Nat) (h : f.lo + f.w ≤ 32) : d.keeps (d.setFld f v) (· = f.addr) :=
  ⟨fun _ ha => reg_setFld_other _ _ _ _ ha (by omega), by simp, by simp⟩

theorem keeps_setFld64 (d : Dev) (f : Fld) (v : Nat) : d.keeps (d.setFld f v) fun a => a = f.addr ∨ a = f.addr + 4 :=
  ⟨fun _ ha => reg_setFld_other _ _ _ _ (fun e => ha (Or.inl e)) (fun _ e => ha (Or.inr e)), by simp, by simp⟩

theorem keeps_route (d : Dev) (p : Nat) (k : EvKind) (l a : Nat) (fl : Bool) : d.keeps (d.route p k l a fl) chanCount :=
  ⟨fun _ h => route_reg _ _ _ _ _ _ _ h, by simp, by simp⟩

theorem keeps_fire (d : Dev) (p : Nat) (k : EvKind) (l : Nat) (fl : Bool) (h : l < 7) : d.keeps (d.fire p k l fl) chanCount :=
  ⟨fun _ ha => fire_reg _ _ _ _ _ _ h ha, by simp, by simp⟩

theorem keeps_raise (d : Dev) (f : Fld) (h : f.lo + f.w ≤ 32) : d.keeps (d.raise f) fun a => a = f.addr ∨ chanCount a :=
  ⟨fun a ha => raise_reg d f a h (fun e => ha (Or.inl e)) (fun e => ha (Or.inr e)), by simp, by simp⟩

theorem keeps_noteSet (d : Dev) (f : Fld) (P : Nat → Prop) : d.keeps (d.noteSet f) P := keeps_of_eq _ rfl rfl rfl

theorem keeps_setBit (d : Dev) (f : Fld) (h : f.lo + f.w ≤ 32) : d.keeps (d.setBit f) (· = f.addr) :=
  keeps_trans (keeps_setFld d f 1 h) (keeps_noteSet ..)

theorem keeps_raiseIf (d : Dev) (b : Bool) (f : Fld) (h : f.lo + f.w ≤ 32) : d.keeps (d.raiseIf b f) fun a => a = f.addr ∨ chanCount a := by
  cases b
  · exact keeps_refl ..
  · exact keeps_raise d f h

theorem keeps_emit (d : Dev) (o : Output) (P : Nat → Prop) : d.keeps (d.emit o) P := keeps_of_eq _ rfl rfl rfl

end Sys2Proof.Machine
end

