-- ==== Sys2Proof/Laws/Pins.lean ====
section
/-!
SUPPORT. What a step's end does to the pins (R298, R299).
-/
namespace Sys2Proof.Machine

theorem setPin_pin (d : Dev) (p : Nat) (x : Pin) (i : Nat) : (d.setPin p x).pin i = if i = p then x else d.pin i := by
  unfold Dev.pin Dev.setPin
  split
  · next h => rw [h]; simp
  · next h => simp [tget_tset_other _ _ _ _ _ h]

/-- What a pin takes follows from itself, not from another pin. -/
theorem setPin_pinNow (d : Dev) (p : Nat) (x : Pin) (i : Nat) (h : i ≠ p) : (d.setPin p x).pinNow i = d.pinNow i := by
  have hp : (d.setPin p x).pin i = d.pin i := by rw [setPin_pin, if_neg h]
  have hs : (d.setPin p x).pinSource i = d.pinSource i := by unfold Dev.pinSource; rw [hp]; rfl
  have hd : (d.setPin p x).pinDrive i = d.pinDrive i := by
    unfold Dev.pinDrive
    rw [hp, hs]
    rfl
  unfold Dev.pinNow
  rw [hp, hd]
  rfl

/-- One pin settles. -/
theorem settle_one (d : Dev) (p : Nat) : ∃ t, (if d.pinNow p = d.pin p then d else d.setPin p (d.pinNow p)) = { d with plz := { d.plz with pins := t } } := by
  split
  · exact ⟨d.plz.pins, rfl⟩
  · exact ⟨_, rfl⟩

/-- Settling a list of pins changes the pins alone. -/
theorem settle_list (ps : List Nat) : ∀ d : Dev, ∃ t,
    ps.foldl (fun (d : Dev) (p : Nat) => if d.pinNow p = d.pin p then d else d.setPin p (d.pinNow p)) d = { d with plz := { d.plz with pins := t } } := by
  induction ps with
  | nil => exact fun d => ⟨d.plz.pins, rfl⟩
  | cons p ps ih =>
    intro d
    obtain ⟨t, e⟩ := settle_one d p
    obtain ⟨u, k⟩ := ih { d with plz := { d.plz with pins := t } }
    exact ⟨u, by rw [List.foldl_cons, e, k]⟩

theorem settle_pin (ps : List Nat) : ∀ d : Dev, ps.Nodup → ∀ i,
    (ps.foldl (fun (d : Dev) (p : Nat) => if d.pinNow p = d.pin p then d else d.setPin p (d.pinNow p)) d).pin i = if i ∈ ps then d.pinNow i else d.pin i := by
  induction ps with
  | nil => intro d _ i; simp
  | cons p ps ih =>
    intro d hn i
    have hp := List.nodup_cons.mp hn
    rw [List.foldl_cons, ih _ hp.2 i]
    by_cases hi : i = p
    · subst hi
      rw [if_neg hp.1, if_pos List.mem_cons_self]
      by_cases hc : d.pinNow i = d.pin i
      · rw [if_pos hc, hc]
      · rw [if_neg hc, setPin_pin, if_pos rfl]
    · simp only [List.mem_cons, hi, false_or]
      by_cases hc : d.pinNow p = d.pin p
      · rw [if_pos hc]
      · rw [if_neg hc, setPin_pin, if_neg hi, setPin_pinNow _ _ _ _ hi]

/-- The pins' settling changes the pins alone. -/
theorem settlePins_eq (d : Dev) : d.settlePins = { d with plz := { d.plz with pins := d.settlePins.plz.pins } } := by
  obtain ⟨t, h⟩ := settle_list (List.range 32) d
  rw [show d.settlePins = _ from h]

/-- Each of the 32 pins is then what it is now. -/
theorem settlePins_pin (d : Dev) (i : Nat) : d.settlePins.pin i = if i < 32 then d.pinNow i else d.pin i := by
  have h := settle_pin _ d (List.nodup_range (n := 32)) i
  simp only [List.mem_range] at h
  exact h

end Sys2Proof.Machine
end

