-- ==== Sys2Proof/Laws/Position.lean ====
section
/-!
SUPPORT. The position clock: what letting it reach a cycle can change (R27 to R38, R57, R58).
-/
namespace Sys2Proof.Machine

/-- What the passing of time keeps of the part: everything but the position unit, the Plaza's events, the registers of `timeWord`, and requests for FAULT. -/
structure TimeStep (d d' : Dev) : Prop where
  mode : d'.mode = d.mode
  regs : ∀ a, ¬ timeWord a → d'.reg a = d.reg a
  stopped : d'.fld R.POS_STATUS_STOPPED = d.fld R.POS_STATUS_STOPPED
  moving : d'.fld R.POS_STATUS_MOVING = d.fld R.POS_STATUS_MOVING
  master : d'.fld R.POS_STATUS_MASTER = d.fld R.POS_STATUS_MASTER
  holdover : d'.fld R.POS_STATUS_HOLDOVER = d.fld R.POS_STATUS_HOLDOVER
  count : ∀ e, (d'.enc e).count = (d.enc e).count
  edges : ∀ e, (d'.enc e).edges = (d.enc e).edges
  zRef : ∀ e, (d'.enc e).zRef = (d.enc e).zRef
  phaseA : ∀ e, (d'.enc e).a = (d.enc e).a
  phaseB : ∀ e, (d'.enc e).b = (d.enc e).b
  gens : d'.pos.gens = d.pos.gens
  slots : d'.pos.slots = d.pos.slots
  latches : d'.pos.latches = d.pos.latches
  lines : d'.pos.linesPassed = d.pos.linesPassed
  grid : d'.pos.grid = d.pos.grid
  follows : d'.pos.follows = d.pos.follows
  unmatched : d'.pos.unmatched = d.pos.unmatched
  msg : d'.pos.msg = d.pos.msg
  left : d'.pos.left = d.pos.left
  synced : d'.pos.synced = d.pos.synced
  frame : d'.pos.frameLines = d.pos.frameLines
  rest : d' = { d with time := d'.time, regs := d'.regs, pos := d'.pos, plz := d'.plz, faultReq := d'.faultReq }

theorem TimeStep.refl (d : Dev) : TimeStep d d := by constructor <;> first | rfl | (intros; rfl)

theorem TimeStep.trans {a b c : Dev} (h : TimeStep a b) (k : TimeStep b c) : TimeStep a c := by
  constructor
  case regs => intro x hx; rw [k.regs x hx, h.regs x hx]
  case rest =>
    have e1 := h.rest
    have e2 := k.rest
    rw [e1] at e2
    exact e2
  case count => intro e; rw [k.count, h.count]
  case edges => intro e; rw [k.edges, h.edges]
  case zRef => intro e; rw [k.zRef, h.zRef]
  case phaseA => intro e; rw [k.phaseA, h.phaseA]
  case phaseB => intro e; rw [k.phaseB, h.phaseB]
  case mode => rw [k.mode, h.mode]
  case stopped => rw [k.stopped, h.stopped]
  case moving => rw [k.moving, h.moving]
  case master => rw [k.master, h.master]
  case holdover => rw [k.holdover, h.holdover]
  case gens => rw [k.gens, h.gens]
  case slots => rw [k.slots, h.slots]
  case latches => rw [k.latches, h.latches]
  case lines => rw [k.lines, h.lines]
  case grid => rw [k.grid, h.grid]
  case follows => rw [k.follows, h.follows]
  case unmatched => rw [k.unmatched, h.unmatched]
  case msg => rw [k.msg, h.msg]
  case left => rw [k.left, h.left]
  case synced => rw [k.synced, h.synced]
  case frame => rw [k.frame, h.frame]

/-- A change of registers and of the Plaza alone. -/
theorem TimeStep.of_regs {d d' : Dev} (h : d' = { d with regs := d'.regs, plz := d'.plz }) (hr : ∀ a, ¬ timeWord a → d'.reg a = d.reg a)
    (hs : ∀ g : Fld, g.addr = R.POS_STATUS.addr → g.w = 1 → g.lo ∈ [0, 1, 3, 4] → d'.fld g = d.fld g) : TimeStep d d' := by
  have hp : d'.pos = d.pos := by rw [h]
  have he : ∀ e, d'.enc e = d.enc e := fun e => by unfold Dev.enc; rw [hp]
  constructor
  case regs => exact hr
  case stopped => exact hs _ rfl rfl (by decide)
  case moving => exact hs _ rfl rfl (by decide)
  case master => exact hs _ rfl rfl (by decide)
  case holdover => exact hs _ rfl rfl (by decide)
  case rest => rw [h]
  case mode => rw [h]
  case count => intro e; rw [he]
  case edges => intro e; rw [he]
  case zRef => intro e; rw [he]
  case phaseA => intro e; rw [he]
  case phaseB => intro e; rw [he]
  all_goals rw [hp]

/-- What the position unit keeps while time passes. -/
structure PosCore (p q : PosState) : Prop where
  encs : ∀ e, (tget enc0 q.encs e).count = (tget enc0 p.encs e).count ∧ (tget enc0 q.encs e).edges = (tget enc0 p.encs e).edges ∧
    (tget enc0 q.encs e).zRef = (tget enc0 p.encs e).zRef ∧ (tget enc0 q.encs e).a = (tget enc0 p.encs e).a ∧ (tget enc0 q.encs e).b = (tget enc0 p.encs e).b
  rest : q = { p with encs := q.encs, used := q.used, adj := q.adj, wpos := q.wpos, md := q.md, hwm := q.hwm, speed := q.speed, sets := q.sets }

/-- A change of the time, the position unit and requests for FAULT alone. -/
theorem TimeStep.of_pos {d d' : Dev} (h : d' = { d with time := d'.time, pos := d'.pos, faultReq := d'.faultReq }) (hp : PosCore d.pos d'.pos) : TimeStep d d' := by
  have hr : d'.regs = d.regs := by rw [h]
  have hf : ∀ f, d'.fld f = d.fld f := fun f => by rw [fld_of, fld_of, hr]
  constructor
  case regs => intro a _; rw [reg_of, reg_of, hr]
  case stopped => exact hf _
  case moving => exact hf _
  case master => exact hf _
  case holdover => exact hf _
  case rest => rw [h]
  case mode => rw [h]
  case count => intro e; exact (hp.encs e).1
  case edges => intro e; exact (hp.encs e).2.1
  case zRef => intro e; exact (hp.encs e).2.2.1
  case phaseA => intro e; exact (hp.encs e).2.2.2.1
  case phaseB => intro e; exact (hp.encs e).2.2.2.2
  all_goals rw [hp.rest]

/-- Storing a field of the words that time may change, beside the four flags of POS.STATUS that it may not. -/
theorem TimeStep.setFld (d : Dev) (f : Fld) (v : Nat) (h32 : f.lo + f.w ≤ 32) (hf : timeWord f.addr)
    (hs : f.addr = R.POS_STATUS.addr → f.lo = 2 ∧ f.w = 1 ∨ f.lo = 5 ∧ f.w = 1) : TimeStep d (d.setFld f v) := by
  refine .of_regs (by rw [Dev.setFld_eq]) (fun a ha => reg_setFld_other d f v a (fun e => ha (e ▸ hf)) (by omega)) fun g h1 h2 h3 => ?_
  simp only [List.mem_cons, List.not_mem_nil, or_false] at h3
  by_cases he : f.addr = R.POS_STATUS.addr
  · have := hs he
    exact fld_setFld_apart d f g v (Or.inr ⟨by omega, h32, by omega, by omega⟩)
  · exact fld_congr (reg_setFld_other d f v _ (by omega) (by omega)) fun hg => by omega

theorem not_time_chan {a : Nat} (h : ¬ timeWord a) : ¬ chanCount a := fun hc => h (Or.inr (Or.inr (Or.inr (Or.inr hc))))

theorem status_not_chan : ¬ chanCount R.POS_STATUS.addr := not_chanCount (by decide)

theorem TimeStep.route (d : Dev) (p : Nat) (k : EvKind) (l a : Nat) (fl : Bool) : TimeStep d (d.route p k l a fl) :=
  .of_regs (route_eq ..) (fun _ hb => route_reg _ _ _ _ _ _ _ (not_time_chan hb)) fun g h1 h2 h3 => by
    simp only [List.mem_cons, List.not_mem_nil, or_false] at h3
    exact fld_congr (route_reg _ _ _ _ _ _ _ (h1 ▸ status_not_chan)) fun hg => by omega

theorem TimeStep.raise (d : Dev) (f : Fld) (h32 : f.lo + f.w ≤ 32) (hf : timeWord f.addr) (hs : f.addr ≠ R.POS_STATUS.addr) : TimeStep d (d.raise f) := by
  unfold Dev.raise
  have n : ∀ x : Dev, TimeStep x (x.noteSet f) := fun x => .of_regs rfl (fun _ _ => rfl) fun _ _ _ _ => rfl
  split
  · exact n d
  · have h : TimeStep d (d.setBit f) := (TimeStep.setFld d f 1 h32 hf fun e => absurd e hs).trans (n _)
    dsimp only
    split
    · split
      · exact h
      · exact h.trans (.route ..)
    · exact h

theorem TimeStep.fire (d : Dev) (p : Nat) (k : EvKind) (l : Nat) (fl : Bool) (hl : l < 7) : TimeStep d (d.fire p k l fl) := by
  rw [fire_low _ _ _ _ _ hl]; exact .route ..

theorem PosCore.refl (p : PosState) : PosCore p p := ⟨fun _ => ⟨rfl, rfl, rfl, rfl, rfl⟩, rfl⟩

/-- Changing the fraction or the mark of an encoder keeps the rest of it. -/
theorem TimeStep.setEnc (d : Dev) (e : Nat) (x : Enc)
    (h : x.count = (d.enc e).count ∧ x.edges = (d.enc e).edges ∧ x.zRef = (d.enc e).zRef ∧ x.a = (d.enc e).a ∧ x.b = (d.enc e).b) : TimeStep d (d.setEnc e x) := by
  refine .of_pos rfl ⟨fun i => ?_, rfl⟩
  by_cases hi : i = e
  · subst hi
    simpa [Dev.setEnc, Dev.enc] using h
  · simp [Dev.setEnc, tget_tset_other _ _ _ _ _ hi]

theorem timeStep_fracs (es : List Nat) : ∀ d : Dev,
    TimeStep d (es.foldl (fun d e => let x := d.enc e; d.setEnc e { x with frac := fracOf d.speedWin x.run d.time }) d) := by
  induction es with
  | nil => exact fun d => .refl d
  | cons e es ih => exact fun d => .trans (.setEnc d e { d.enc e with frac := fracOf d.speedWin (d.enc e).run d.time } ⟨rfl, rfl, rfl, rfl, rfl⟩) (ih _)

theorem timeStep_refreshFracs (d : Dev) : TimeStep d d.refreshFracs := by
  unfold Dev.refreshFracs
  split
  · exact .refl d
  · exact timeStep_fracs _ d

theorem timeStep_posLost (d : Dev) : TimeStep d d.posLost := by
  unfold Dev.posLost
  refine ((TimeStep.setFld d R.POS_STATUS_POS_LOST 1 (by decide) (Or.inl rfl) (by decide)).trans
    (TimeStep.raise _ R.POS_FAULT_POS_LOST (by decide) (Or.inr (Or.inl rfl)) (by decide))).trans ?_
  exact .of_pos rfl (.refl _)

theorem timeStep_newSet (d : Dev) (us : List Nat) (adj : Int) : TimeStep d (d.newSet us adj) :=
  .of_pos rfl ⟨fun _ => ⟨rfl, rfl, rfl, rfl, rfl⟩, rfl⟩

theorem timeStep_formWpos (d : Dev) : TimeStep d d.formWpos := by
  unfold Dev.formWpos
  dsimp only
  split
  · split
    · exact .refl d
    · split
      · exact timeStep_newSet ..
      · exact (timeStep_newSet ..).trans (timeStep_posLost _)
  · split
    · exact .of_pos rfl ⟨fun _ => ⟨rfl, rfl, rfl, rfl, rfl⟩, rfl⟩
    · exact (timeStep_newSet ..).trans (TimeStep.setFld _ R.POS_STATUS_POS_LOST 0 (by decide) (Or.inl rfl) (by decide))

theorem timeStep_exclude (d : Dev) (e : Nat) : TimeStep d (d.exclude e) := by
  unfold Dev.exclude
  split
  · exact .refl d
  · dsimp only
    have h := (TimeStep.setEnc d e { d.enc e with excluded := true } ⟨rfl, rfl, rfl, rfl, rfl⟩).trans (timeStep_formWpos _)
    split
    · exact h
    · exact h.trans (TimeStep.setFld _ (Fld.bit R.GLB_MISSING_CAUSE 0) 1 (by decide) (Or.inr (Or.inr (Or.inr (Or.inl rfl)))) (by decide))

theorem timeStep_fault (d : Dev) (f : Fld) (h : f.addr = R.POS_FAULT.addr) (h32 : f.lo + f.w ≤ 32) : TimeStep d (d.raise f) :=
  .raise d f h32 (Or.inr (Or.inl h)) (by rw [h]; decide)

theorem usedNow_lt (d : Dev) : ∀ e ∈ d.usedNow, e < 4 := by
  have h : ∀ e ∈ ([0, 1, 2, 3].filter fun e => d.lflag (R.POS_ENC_CFG_ENABLE e)), e < 4 := by
    intro e he
    have := (List.mem_filter.mp he).1
    simp only [List.mem_cons, List.not_mem_nil, or_false] at this
    omega
  unfold Dev.usedNow
  dsimp only
  split
  · exact fun e he => h e (List.mem_filter.mp he).1
  · exact fun e he => h e (List.mem_filter.mp (List.mem_of_mem_take he)).1
  · exact fun e he => h e (List.mem_filter.mp he).1

theorem formWpos_used (d : Dev) : ∀ e ∈ d.formWpos.pos.used, e < 4 := by
  have h := usedNow_lt d
  unfold Dev.formWpos
  dsimp only
  split
  · split
    · next hu => rw [hu]; simp
    · split <;> simp [Dev.newSet, Dev.posLost]
  · split
    · next h1 h2 => intro e he; exact h e (by rw [h2]; exact he)
    · simpa [Dev.newSet] using h

/-- Encoders are excluded for disagreement out of those in use. -/
theorem disagreeing_used (d : Dev) : ∀ e ∈ d.disagreeing, e ∈ d.pos.used := by
  unfold Dev.disagreeing
  split
  · simp
  · dsimp only
    split
    · simp
    · split
      · next x y z _ hu =>
        intro e he
        simp only [List.mem_singleton] at he
        rw [hu, he]
        simp only [List.foldl_cons, List.foldl_nil]
        repeat' split
        all_goals simp
      · next _ _ x y hu =>
        intro e he
        rw [hu]
        split at he
        · simp only [List.mem_singleton] at he
          rw [he]
          rcases Nat.le_total x y with h | h
          · simp [Nat.max_eq_right h]
          · simp [Nat.max_eq_left h]
        · simp only [List.mem_singleton] at he
          rw [he]
          split <;> simp
      · exact fun e he => (List.mem_filter.mp he).1

theorem timeStep_excludeAll (es : List Nat) : ∀ d : Dev, (∀ e ∈ es, e < 4) → TimeStep d (es.foldl (fun d e => (d.raise (Fld.bit R.POS_FAULT_DISAGREE e)).exclude e) d) := by
  induction es with
  | nil => exact fun d _ => .refl d
  | cons e es ih =>
    intro d h
    have he := h e (by simp)
    have h1 := timeStep_fault d (Fld.bit R.POS_FAULT_DISAGREE e) rfl (by simp [Fld.bit, R.POS_FAULT_DISAGREE]; omega)
    exact (h1.trans (timeStep_exclude _ e)).trans (ih _ fun x hx => h x (by simp [hx]))

theorem timeStep_checkDisagree (d : Dev) (h : ∀ e ∈ d.pos.used, e < 4) : TimeStep d d.checkDisagree :=
  timeStep_excludeAll _ d fun e he => h e (disagreeing_used d e he)

theorem timeStep_setMd (d : Dev) (md : Int) : TimeStep d (d.setMd md) := by
  unfold Dev.setMd
  dsimp only
  have h : TimeStep d { d with pos := { d.pos with md := md, hwm := max d.pos.hwm md } } := .of_pos rfl ⟨fun _ => ⟨rfl, rfl, rfl, rfl, rfl⟩, rfl⟩
  have hs := fun (x : Dev) v => TimeStep.setFld x R.POS_STATUS_REVERSE v (by decide) (Or.inl rfl) (by decide)
  split
  · split
    · exact h.trans (hs _ _)
    · exact h
  · split
    · exact (h.trans (hs _ _)).trans (.fire _ _ _ _ _ (by decide))
    · exact h

theorem timeStep_xchk (d : Dev) (diff : Int) : TimeStep d (d.xchk diff) := by
  have h := TimeStep.setFld d R.POS_XCHK_DIFF (wrapN R.POS_XCHK_DIFF.w (clampI (-(2 ^ 31)) (2 ^ 31 - 1) diff)) (by decide) (Or.inr (Or.inr (Or.inl rfl))) (by decide)
  unfold Dev.xchk Dev.raiseIf
  split
  · exact h.trans (timeStep_fault _ R.POS_FAULT_XCHK rfl (by decide))
  · exact h

theorem timeStep_crossCheck (d : Dev) : TimeStep d d.crossCheck := by
  unfold Dev.crossCheck
  split
  · exact .refl d
  · exact timeStep_xchk _ _

theorem timeStep_formMd (d : Dev) : TimeStep d d.formMd := by
  unfold Dev.formMd
  split
  · exact .refl d
  · dsimp only
    have h : TimeStep d { d with pos := { d.pos with speed := d.speedNow, wpos := d.wposNow } } := .of_pos rfl ⟨fun _ => ⟨rfl, rfl, rfl, rfl, rfl⟩, rfl⟩
    have k := h.trans (timeStep_setMd _ d.mdNow)
    split
    · exact k.trans (timeStep_crossCheck _)
    · exact k

/-- Letting the position clock reach a cycle. -/
theorem timeStep_advance (d : Dev) (t : Nat) : TimeStep d (d.advance t) := by
  unfold Dev.advance
  have h : TimeStep d { d with time := max d.time t } := .of_pos rfl (.refl _)
  exact ((h.trans (timeStep_refreshFracs _)).trans (timeStep_formWpos _)).trans ((timeStep_checkDisagree _ (formWpos_used _)).trans (timeStep_formMd _))

/-! ### The cycle that the clock reaches -/

@[simp] theorem refreshFracs_time (d : Dev) : d.refreshFracs.time = d.time := by
  unfold Dev.refreshFracs
  split
  · rfl
  · rfl

@[simp] theorem formWpos_time (d : Dev) : d.formWpos.time = d.time := by
  unfold Dev.formWpos
  dsimp only
  repeat' split
  all_goals simp [Dev.newSet, Dev.posLost]

@[simp] theorem exclude_time (d : Dev) (e : Nat) : (d.exclude e).time = d.time := by
  unfold Dev.exclude
  split
  · rfl
  · dsimp only
    split
    · simp [Dev.setEnc]
    · simp [Dev.setEnc]

@[simp] theorem checkDisagree_time (d : Dev) : d.checkDisagree.time = d.time := by
  unfold Dev.checkDisagree
  generalize d.disagreeing = es
  induction es generalizing d with
  | nil => rfl
  | cons e es ih => rw [List.foldl_cons, ih]; simp

@[simp] theorem setMd_time (d : Dev) (md : Int) : (d.setMd md).time = d.time := by
  unfold Dev.setMd
  dsimp only
  repeat' split
  all_goals simp

@[simp] theorem crossCheck_time (d : Dev) : d.crossCheck.time = d.time := by
  have hx : ∀ (x : Dev) v, (x.xchk v).time = x.time := fun x v => (Dev.raiseIf_time _ _ _).trans (Dev.setFld_time _ _ _)
  unfold Dev.crossCheck
  split
  · rfl
  · exact hx _ _

@[simp] theorem formMd_time (d : Dev) : d.formMd.time = d.time := by
  unfold Dev.formMd
  dsimp only
  repeat' split
  all_goals simp

@[simp] theorem advance_time (d : Dev) (t : Nat) : (d.advance t).time = max d.time t := by simp [Dev.advance]

@[simp] theorem advance_mode (d : Dev) (t : Nat) : (d.advance t).mode = d.mode := (timeStep_advance d t).mode

/-- A field outside the words of `timeWord` is as before. -/
theorem TimeStep.fld {d d' : Dev} (h : TimeStep d d') (f : Fld) (h1 : ¬ timeWord f.addr) (h2 : 32 < f.lo + f.w → ¬ timeWord (f.addr + 4)) : d'.fld f = d.fld f :=
  fld_congr (h.regs _ h1) fun hf => h.regs _ (h2 hf)

/-- Passing time writes no byte of memory. -/
theorem TimeStep.logs {d d' : Dev} (h : TimeStep d d') : d'.dramLog = d.dramLog ∧ d'.flashLog = d.flashLog := by rw [h.rest]; exact ⟨rfl, rfl⟩

/-- Passing time leaves alone what `timeWord` does not name. -/
theorem TimeStep.keeps {a b : Dev} (h : TimeStep a b) : a.keeps b timeWord := ⟨h.regs, h.logs.1, h.logs.2⟩

/-- A word that time may not change. -/
theorem not_timeWord' {a : Nat} (h : a ≠ 0x100004 ∧ a ≠ 0x100008 ∧ a ≠ 0x100078 ∧ a ≠ 0x810) (h2 : a < 0x402000 ∨ 0x403000 ≤ a) : ¬ timeWord a := by
  unfold timeWord
  rintro (e | e | e | e | e)
  · exact h.1 e
  · exact h.2.1 e
  · exact h.2.2.1 e
  · exact h.2.2.2 e
  · exact not_chanCount h2 e

/-- The words that time may change lie in GLB, in the first 0x100 bytes of POS, and among the channel counters. -/
theorem not_timeWord {a : Nat} (h1 : 0x100100 ≤ a) (h2 : a < 0x402000 ∨ 0x403000 ≤ a) : ¬ timeWord a := not_timeWord' (by omega) h2

end Sys2Proof.Machine
end

