-- ==== Sys2Proof/WellFormed.lean ====
section
/-!
DEFINITION. Which commands are well formed: the lengths and ranges of operands that their types leave open.  A meaning does not rest on it.
-/
namespace Sys2Proof

/-- A packet that a port can carry (R453). -/
def packetFits (p : RxPacket) : Bool :=
  decide (p.src < 8) && decide (p.dst < 8) && decide (p.lseq < 65536) && decide (p.hops < 256) && decide (p.epoch < 2 ^ 32) &&
  decide (p.payload.length ≤ 1024) && decide (p.payload.length % 4 = 0)

/-- A peer of the Porch (R498, R499). -/
def peerOk (p : Peer) : Bool := decide (p.transport = 1 ∨ p.transport = 2) && decide (p.ip < 2 ^ 32) && decide (p.port < 65536)

/-- Is a command well formed. -/
def Instr.wellFormed : Instr → Bool
  | .resetRelease _ => true
  | .tempSample quarters => decide (quarters.length = 20)
  | .encoderEdge _ _ _ _ _ => true
  | .zEdge _ _ => true
  | .encoderLost _ _ => true
  | .motionStop _ => true
  | .readmit _ _ => true
  | .mdOffsetWrite _ => true
  | .ltrigTarget _ _ => true
  | .trgCeilExpiry _ => true
  | .trgFloorExpiry _ => true
  | .trgClear _ _ => true
  | .linePassed _ _ => true
  | .cmpFire _ _ => true
  | .cmpArm _ _ => true
  | .posSyncEdge _ => true
  | .posReceive _ p => packetFits p
  | .holdover _ => true
  | .camTrig _ => true
  | .clgCc _ _ => true
  | .triggerPulseEnd _ => true
  | .exposureStamp _ => true
  | .camLine _ _ planes _ => decide (planes.length = 1 ∨ planes.length = 3) && planes.all fun x => x.all fun v => decide (v < 65536)
  | .acqFrameEdge _ _ _ => true
  | .gcGo _ _ => true
  | .gcAnswer _ _ _ => true
  | .gcTimeout _ => true
  | .camLanesSignal _ => true
  | .camLinkUp _ _ => true
  | .deskewRetry _ _ => true
  | .camIdentifyDone _ _ => true
  | .camIdentifyWaitEnd _ => true
  | .camRetry _ _ => true
  | .roleMissingTimeout _ => true
  | .clgClockLocked _ _ => true
  | .clgClockLost _ _ => true
  | .serByteReceive _ _ => true
  | .serTxWrite _ _ => true
  | .serRxRead _ => true
  | .camsideChunk _ => true
  | .outputLineCompute _ _ => true
  | .outputLineDeadline _ _ => true
  | .bandLineTake _ => true
  | .fenceComplete _ => true
  | .windowRelease _ => true
  | .apronWaitExpiry _ => true
  | .apronReceive _ p => packetFits p
  | .bar4Read _ len _ => decide (0 < len)
  | .bar4Write _ _ => true
  | .segRow _ => true
  | .segSkip _ => true
  | .imageRowDeliver _ => true
  | .dcaResult _ => true
  | .dcaDeadline _ => true
  | .modelLoadReceived _ _ => true
  | .modelVerifyDone _ => true
  | .swPulse _ => true
  | .swSet _ => true
  | .swClear _ => true
  | .gpioEdge _ _ _ _ => true
  | .gpo _ => true
  | .gpoPulseRise _ => true
  | .gpoPulseEnd _ => true
  | .tmrStart _ => true
  | .tmrStop _ => true
  | .tmrExpiry _ => true
  | .markFire _ => true
  | .markInhibit _ => true
  | .markPulseEnd _ => true
  | .markHoldoffEnd _ => true
  | .syncReqWrite _ => true
  | .irq _ => true
  | .dmaStart _ => true
  | .pantryWriteDone _ => true
  | .galUpdate _ => true
  | .dpPlug _ _ _ => true
  | .irqHpd _ => true
  | .dpTrainDone _ => true
  | .dpTrainRetry _ _ _ => true
  | .sqDoorbell fn n _ => decide (fn.val = 0 ∨ n.val < 256)
  | .cqDoorbell fn n _ => decide (fn.val = 0 ∨ n.val < 256)
  | .sqEnableWrite fn n _ => decide (fn.val = 0 ∨ n.val < 256)
  | .cqEnableWrite fn n _ => decide (fn.val = 0 ∨ n.val < 256)
  | .commandFetch _ entries => decide (entries.length ≤ 8) && entries.all fun x => decide (x.length = 64)
  | .cqEntryWrite _ => true
  | .cqCoalExpiry _ => true
  | .msixUnmask fn vector => decide (fn.val = 0 ∨ vector.val < 64)
  | .identify _ => true
  | .commit _ => true
  | .modeRequest _ => true
  | .recipeSwitch _ => true
  | .profileReset _ => true
  | .cropRead _ => true
  | .dmaRun _ => true
  | .calibrate _ => true
  | .test _ => true
  | .atticExport _ => true
  | .replay _ => true
  | .replayLoadDone _ => true
  | .modelLoad _ => true
  | .laneRetrain _ => true
  | .spareRotate _ => true
  | .suspend _ => true
  | .resume _ => true
  | .cancel _ _ _ => true
  | .opStatus _ => true
  | .subscribeRecords _ => true
  | .subscribePreview _ => true
  | .subscribeImage _ => true
  | .subscribeProfile _ => true
  | .postBuffer _ => true
  | .unsubscribe _ => true
  | .vfFlr fn => decide (fn.val ≠ 0)
  | .hostReset _ => true
  | .vfBmeClear fn => decide (fn.val ≠ 0)
  | .dmaGo _ => true
  | .dmaStop _ _ _ => true
  | .dmaClear _ => true
  | .dmaDescRead _ _ => true
  | .dmaDescDone _ _ => true
  | .dmaReadFail _ _ _ _ => true
  | .doorwayDecision _ _ _ _ _ => true
  | .lockTimeout _ => true
  | .starve _ _ => true
  | .refreshDue _ _ _ => true
  | .retrainDue _ _ _ => true
  | .retrainForced _ _ => true
  | .mr4Poll mults _ => decide (mults.length = 16)
  | .c0LoadWindow _ => true
  | .reqClassWrite _ _ => true
  | .laneLos _ => true
  | .laneLol _ _ _ => true
  | .bitslip _ _ => true
  | .bitslipApply _ => true
  | .detectProbe _ _ => true
  | .ktsReceive _ _ _ _ sets => decide (sets.length ≤ 8) && sets.all fun x => decide (x.lane < 8) && decide (x.bytes.length = 15)
  | .trainTimeout _ => true
  | .rateIdleEnd _ => true
  | .eqTimeout _ => true
  | .lockHoldDone _ => true
  | .portRetry _ _ => true
  | .capReceive _ p => packetFits p
  | .capResend _ => true
  | .ackReceive _ p => packetFits p
  | .replayTimeout _ => true
  | .linkinfoReceive _ p => packetFits p
  | .syncReceive _ p => packetFits p
  | .syncReqReceive _ p => packetFits p
  | .commitReceive _ p => packetFits p
  | .commitResultReceive _ p => packetFits p
  | .borderReceive _ p => packetFits p
  | .yieldReceive _ p => packetFits p
  | .dozeIdleExpiry _ => true
  | .dozeReceive _ => true
  | .wakeDetect _ => true
  | .wakeLockTimeout _ => true
  | .modeReqWrite _ => true
  | .resetReqWrite _ => true
  | .shadowOpen _ => true
  | .shadowWrite addr _ => decide (addr.toNat % 4 = 0)
  | .shadowSeal _ => true
  | .sealCheckDone _ => true
  | .shadowAbort _ => true
  | .commitReqWrite _ => true
  | .hello p _ => peerOk p
  | .openSession p _ => peerOk p
  | .closeSession p _ => peerOk p
  | .keepalive p _ => peerOk p
  | .status p _ => peerOk p
  | .regRead p _ => peerOk p
  | .regWrite p _ => peerOk p
  | .logRead p _ => peerOk p
  | .kspReset p _ => peerOk p
  | .updBegin p _ _ => peerOk p
  | .updData p _ => peerOk p
  | .updBlockWritten _ _ => true
  | .updQuery p _ => peerOk p
  | .updVerify p _ => peerOk p
  | .updActivate p _ _ => peerOk p
  | .updAbort p _ => peerOk p
  | .arpRequest _ => true
  | .trialConfirm _ => true
  | .selftestDone _ _ _ => true
  | .stripeError _ _ => true
  | .stripeStall _ => true
  | .drtBlock _ _ _ _ => true
  | .eyePassDone _ _ _ _ => true
  | .dbgTokenSubmit _ => true
  | .dbgLock _ => true
  | .tmuxEnable _ => true
  | .jtagInstruction _ => true
  | .live64LowRead addr => decide (addr.toNat % 8 = 0)
  | .rstatRead addr => decide (addr.toNat % 4 = 0)
  | .counterClearWrite addr _ => decide (addr.toNat % 4 = 0)
  | .registerWrite _ _ addr size value => decide ((size = 4 ∧ addr.toNat % 4 = 0 ∧ value.toNat < 2 ^ 32) ∨ (size = 8 ∧ addr.toNat % 8 = 0))
  | .pcieConfigWrite _ => true
  | .refclkRestored _ => true
  | .queueFetchError _ => true
  | .lockFail _ => true
  | .replayHostLine _ _ planes _ => decide (planes.length = 1 ∨ planes.length = 3) && planes.all fun x => x.all fun v => decide (v < 65536)
  | .tmuxStrobe _ => true
  | .ethernetLinkChange _ => true
  | .porAssert => true
  | .rstNAssert => true
  | .supplyDroop => true
  | .sysRefclkLoss => true
  | .laneRefclkLoss => true
  | .pcieRefclkLoss => true
  | .perstNAssert => true
  | .throttleTick => true
  | .thermComparatorTrip => true
  | .watchdogExpiry => true
  | .sramUe => true
  | .foyerComplete => true
  | .heartbeatIdle => true
  | .posSyncPulse => true
  | .holdoverExpiry => true
  | .tapCopyback => true
  | .rowMerge => true
  | .mergeHoldExpiry => true
  | .floorRowMerge => true
  | .rowResolve => true
  | .seamWaitExpiry => true
  | .yieldWaitExpiry => true
  | .recordSpool => true
  | .recordDeliver => true
  | .recordFlush => true
  | .dcaCropFetch => true
  | .dcaRunStart => true
  | .markSlotArrive => true
  | .decSync => true
  | .profileSyncPin => true
  | .commitInput => true
  | .posCapture => true
  | .calDecision => true
  | .calComputeLate => true
  | .extCalSumsDone => true
  | .extCalComputeDone => true
  | .pantryWriteStart => true
  | .vblankStart => true
  | .underrun => true
  | .dpUnplug => true
  | .replayAtticRow => true
  | .replayDone => true
  | .linkinfoTimer => true
  | .cascadeCommitTimeout => true
  | .discoverReady => true
  | .discoverTimeout => true
  | .sessionIdleTimeout => true
  | .trialTimerExpiry => true
  | .rotationDue => true
  | .rotationSwitchDone => true
  | .pcieLinkUp => true
  | .atticExportRow => true
  | .updVerifyDone => true
  | .trstNAssert => true

end Sys2Proof
end

