-- ==== Sys2Proof/Tests/Slice0.lean ====
section
/-!
SUPPORT. Tests: a term that each check of well-formedness refuses, check values and single steps with results worked out outside the model, and witnesses: for
the hypotheses of each statement, states and operands that meet them together, at a boundary value of each range. Hypotheses that say what an opaque constant of Config is
(a key set, a model that verifies, a draw that collides) are left to the reader: no value of such a constant can be shown.
-/
namespace Sys2Proof.Tests

open Machine

-- one theorem after another: side by side, each would hold a thread of its own while the kernel evaluates
set_option Elab.async false

/-! ### Well-formedness: for each check, a term that it refuses -/

def packet (n : Nat) : RxPacket := { src := 1, dst := 0, bcast := false, lseq := 0, hops := 0, epoch := 0, payload := List.replicate n 0 }

theorem test_wf_accepts : Instr.wellFormed (.ackReceive 0 (packet 8)) = true := by decide
theorem test_wf_packet : Instr.wellFormed (.ackReceive 0 (packet 6)) = false := by decide
theorem test_wf_packet_source : Instr.wellFormed (.posReceive 0 { packet 8 with src := 8 }) = false := by decide
theorem test_wf_sensors : Instr.wellFormed (.tempSample [1, 2]) = false := by decide
theorem test_wf_planes : Instr.wellFormed (.camLine 0 0 [[1], [2]] false) = false := by decide
theorem test_wf_pixel : Instr.wellFormed (.replayHostLine 0 0 [[65536]] 0) = false := by decide
theorem test_wf_bar4 : Instr.wellFormed (.bar4Read 0 0 .clean) = false := by decide
theorem test_wf_vf_queue : Instr.wellFormed (.sqDoorbell 3 256 0) = false := by decide
theorem test_wf_entries : Instr.wellFormed (.commandFetch 0 [[0, 0]]) = false := by decide
theorem test_wf_vector : Instr.wellFormed (.msixUnmask 1 64) = false := by decide
theorem test_wf_vf : Instr.wellFormed (.vfFlr 0) = false := by decide
theorem test_wf_channels : Instr.wellFormed (.mr4Poll [1] false) = false := by decide
theorem test_wf_training_set : Instr.wellFormed (.ktsReceive 0 true 1 1 [{ lane := 8, bytes := [] }]) = false := by decide
theorem test_wf_shadow : Instr.wellFormed (.shadowWrite 0x100002 0) = false := by decide
theorem test_wf_peer : Instr.wellFormed (.hello { transport := 3 } []) = false := by decide
theorem test_wf_live64 : Instr.wellFormed (.live64LowRead 0x100024) = false := by decide
theorem test_wf_write_size : Instr.wellFormed (.registerWrite false 0 0x100000 2 0) = false := by decide

/-! ### Check values of the checksums, and single steps from reset -/

/-- The published check value of the CRC of R453. -/
theorem test_crc32 : crc32 [0x31, 0x32, 0x33, 0x34, 0x35, 0x36, 0x37, 0x38, 0x39] = 0xCBF43926 := by decide +kernel
/-- The first bytes of the published SHA-256 of "abc". -/
theorem test_sha256 : (sha256 [0x61, 0x62, 0x63]).take 4 = [0xBA, 0x78, 0x16, 0xBF] := by decide +kernel
/-- What a step from reset with one command in front answers, seen through a function. -/
def after {α : Type} (i : Instr) (s : State) (see : State → α) : Option α := match step { s with pending := [i] } with | .next t => some (see t) | _ => none
/-- R548: the release of reset takes the part to the Foyer. -/
theorem test_reset_release : after (.resetRelease []) State.reset (fun t => t.dev.mode.code) = some 1 := by decide +kernel
/-- R549: a PCIe clock that is lost stays noted. -/
theorem test_clock_loss : after .pcieRefclkLoss ({ State.reset with dev := { State.reset.dev with mode := .standby } }) (fun t => t.dev.plat.lost) = some [2] := by decide +kernel
/-- R534: TRST_N selects IDCODE. -/
theorem test_trst : after .trstNAssert State.reset (fun t => t.dev.tst.jtag) = some 1 := by decide +kernel

/-! ### Witnesses: states and operands that meet the hypotheses of the statements -/

/-- The part after reset in another mode, with some changes. -/
def st (m : Mode) (f : Dev → Dev) : State := { pending := [], dev := f { State.reset.dev with mode := m } }

/-- A field and its live copy hold a value. -/
def both (f : Fld) (v : Nat) (d : Dev) : Dev := (d.setFld f v).setFld (liveOf f) v

/-- A field holds a value. -/
def put (f : Fld) (v : Nat) (d : Dev) : Dev := d.setFld f v

/-- An event of one kind arrives at a consumer input in a cycle. -/
def event (i : Nat) (k : EvKind) (t : Nat) (d : Dev) : Dev :=
  { d with plz := { d.plz with inflight := d.plz.inflight ++ [{ input := i, chan := 0, kind := k, lineage := 0, addr := 0, floor := false, due := t }] } }

/-- A changed position unit. -/
def pos (f : PosState → PosState) (d : Dev) : Dev := { d with pos := f d.pos }

theorem witness_EmptyQueueTicks : State.reset.pending = [] ∧ State.reset.dev.mode = .reset ∧ (st .fault id).pending = [] ∧ (st .fault id).dev.mode ≠ .reset := by decide

theorem witness_NothingRunsInReset : State.reset.dev.mode = .reset ∧ actsInReset (.trgCeilExpiry 0) = false := by decide

theorem witness_EveryStepKeepsSound : State.reset.sound = true ∧ ∃ t, step State.reset = .next t := ⟨by decide, _, rfl⟩

/-- A part with DRAM installed. -/
def stored : State := st .foyer (put R.MEM_INSTALLED 0x10000)

theorem witness_StoresAfterACommand : stored.dev.faultReq = [] ∧ stored.dev.opsOf 0x15 = [] ∧ (stored.dev.dramWrite 0 [1]).dram = stored.dev.dram ∧
    (stored.dev.dramWrite 0 [1]).dramLog = [(0, [1])] ∧ (stored.dev.flashFill 0 1 [2]).flashLog = [(0, 1, [2])] := by decide

theorem witness_WarmReset : (st .standby id).dev.mode ≠ .reset ∧ (st .standby id).dev.mode.framed = false ∧ 3 ≤ (st .standby id).dev.mode.code := by decide

/-- A part in INSPECT at T_THROTTLE, one in FOYER, with a reading of 135 °C behind it, and one HYST below T_THROTTLE whose host is throttled. -/
def hot : State := st .inspect fun d => put R.GLB_PLAT_STATUS_TEMP 460 (put R.GLB_PLAT_CFG_THROTTLE_EN 1 d)
def hot6 : State := st .inspect fun _ => put R.GLB_PLAT_STATUS_DCA_STEP 6 hot.dev
def cool (host : Nat) : State := st .inspect fun d => put R.GLB_PLAT_STATUS_HOST_STEP host (put R.GLB_PLAT_CFG_THROTTLE_EN 1 d)
def warm : State := st .inspect (put R.GLB_PLAT_STATUS_TEMP 441)

theorem witness_Temperature : hot.dev.mode ≠ .reset ∧ hot.dev.flag R.GLB_PLAT_CFG_THROTTLE_EN = true ∧ hot.dev.plat.tripAt ≠ some hot.dev.time ∧
    hot.dev.throttleAt ≤ hot.dev.sfld R.GLB_PLAT_STATUS_TEMP ∧ hot.dev.fld R.GLB_PLAT_STATUS_DCA_STEP < 6 ∧ 6 ≤ hot6.dev.fld R.GLB_PLAT_STATUS_DCA_STEP ∧
    (cool 1).dev.sfld R.GLB_PLAT_STATUS_TEMP ≤ (cool 1).dev.throttleAt - (cool 1).dev.throttleHyst ∧ 0 < (cool 1).dev.fld R.GLB_PLAT_STATUS_HOST_STEP ∧
    (cool 0).dev.fld R.GLB_PLAT_STATUS_HOST_STEP = 0 ∧ (warm.dev.throttleAt - warm.dev.throttleHyst < warm.dev.sfld R.GLB_PLAT_STATUS_TEMP ∧ warm.dev.sfld R.GLB_PLAT_STATUS_TEMP < warm.dev.throttleAt) := by decide

/-- Encoder 0 in use, without an edge yet, in INSPECT. -/
def encOn : State := st .inspect fun d => put R.POS_STATUS_STOPPED 0 (both (R.POS_ENC_CFG_ENABLE 0) 1 d)

theorem witness_EncoderEdge : encOn.dev.mode ≠ .reset ∧ min (encOn.dev.live (R.POS_ENC_CFG_FILTER 0)) 100 ≤ 100 ∧ encOn.dev.lflag (R.POS_ENC_CFG_ENABLE 0) = true ∧
    encOn.dev.live (R.POS_ENC_CFG_DECODE 0) = 0 ∧ encOn.dev.lflag (R.POS_ENC_CFG_SWAP_AB 0) = false ∧ (encOn.dev.enc 0).a = false ∧ (encOn.dev.enc 0).b = false ∧
    encOn.dev.flag R.POS_STATUS_STOPPED = false := by decide

/-- Encoder 0 has shown a forward edge; a Z edge has been seen before; the web moves. -/
def zSeen (zc : Nat) : State := st .inspect fun d => pos (fun x => { x with used := [0], encs := [(0, { count := 100, edges := [{ t := 0, n := 100, fwd := true }], zRef := some 0 })] })
  (put R.POS_MOVE_SPEED 0 <| put (R.POS_Z_COUNT 0) zc (put (R.POS_Z_TOL 0) 4 (put R.POS_STATUS_STOPPED 0 (put R.POS_STATUS_MOVING 1 (both (R.POS_ENC_CFG_Z_ENABLE 0) 1 (both (R.POS_ENC_CFG_ENABLE 0) 1 d))))))

theorem witness_EncoderFaults : (zSeen 100).dev.mode ≠ .reset ∧
    (∃ k rest, (((zSeen 100).start.advance 5).enc 0).edges = k :: rest ∧ k.fwd ≠ ((zSeen 100).start.advance 5).dirInvert ∧ k.t + ((zSeen 100).start.advance 400000000).stopCycles ≤ ((zSeen 100).start.advance 400000000).time) ∧
    ((zSeen 100).start.advance 5).lflag (R.POS_ENC_CFG_Z_ENABLE 0) = true ∧ (((zSeen 100).start.advance 5).enc 0).zRef = some 0 ∧
    ((100 : Int) - ((zSeen 96).start.advance 5).fldNow (R.POS_Z_COUNT 0)).natAbs ≤ ((zSeen 96).start.advance 5).fldNow (R.POS_Z_TOL 0) ∧
    ((zSeen 95).start.advance 5).fldNow (R.POS_Z_TOL 0) < ((100 : Int) - ((zSeen 95).start.advance 5).fldNow (R.POS_Z_COUNT 0)).natAbs ∧
    ((zSeen 100).start.advance 400000000).fldNow R.POS_MOVE_SPEED ≤ ((zSeen 100).start.advance 400000000).pos.speed.natAbs ∧
    ((zSeen 100).start.advance 400000000).flag R.POS_STATUS_MOVING = true ∧ ((zSeen 100).start.advance 400000000).movesNow = false := by
  refine ⟨by decide, ⟨_, _, rfl, by decide, by decide⟩, ?_⟩; decide

theorem witness_MdOffsetWrite : State.reset.dev.mode = .reset ∧ (st .service id).dev.mode = .service ∧ (1 : Nat) ≠ (st .service id).dev.time ∧
    ¬ ((st .inspect id).dev.mode = .reset ∨ (st .inspect id).dev.mode = .foyer ∨ (st .inspect id).dev.mode = .recovery ∨ (st .inspect id).dev.mode = .standby ∨ (st .inspect id).dev.mode = .service) := by decide

/-- Generator 47 is enabled in INSPECT with a floor, HWM at its next target. -/
def genOn (g : Gen) : State := st .inspect fun d => pos (fun x => { x with gens := [(47, g)], hwm := 32, grid := [{ line := 0, pos := 0, pitch := 16 }] })
  (both (R.POS_TRG_FLOOR 47) 1000 (both (R.POS_TRG_CTRL_ENABLE 47) 1 d))

theorem witness_TriggerGenerators : let s0 := genOn { next := 32 }; let s1 := genOn { next := 32, waiting := true, lastTrig := some 0 }; let s2 := genOn { next := 32, lastTrig := some 0 }
    s0.dev.mode ≠ .reset ∧ 3 ≤ s0.dev.mode.code ∧ (s0.start.advance 0).genRuns 47 = true ∧ (s0.dev.gen 47).next ≤ (s0.start.advance 0).pos.hwm ∧
    (s0.dev.gen 47).waiting = false ∧ (s0.start.advance 0).ceilFree 47 ≤ (s0.start.advance 0).time ∧
    (s1.dev.gen 47).waiting = true ∧ s1.dev.genRuns 47 = true ∧ (s2.dev.gen 47).waiting = false ∧ (s2.start.advance 399).floorWaits 47 = false ∧
    (s2.start.advance 399).time < (s2.start.advance 399).ceilFree 47 ∧ s2.dev.genRuns 47 = true ∧ s2.dev.lflag (R.POS_TRG_FLOOR 47) = true ∧
    (s0.start.advance 0).mode.framed = true ∧ (s0.start.advance 0).atticReplay = false ∧ (s0.start.advance 0).pos.grid ≠ [] ∧ (s0.start.advance 0).linePos 0 ≤ (s0.start.advance 0).pos.hwm ∧
    0 % (s0.start.advance 0).pos.frameLines = 0 ∧ 1 % (s0.start.advance 0).pos.frameLines ≠ 0 := by decide

/-- Compare slot 255 armed with a target that MD has reached. -/
def slotOn (x : Slot) : State := st .inspect fun d => pos (fun p => { p with slots := [(255, x)] }) (put (R.POS_CMP_CTRL_ARM 255) 1 d)

/-- Slot 255 alone is the pool of marker 7. -/
def slotOfMarker : State := st .inspect fun d => both (R.PLZ_MARK_CFG_ENABLE 7) 1 (both (R.PLZ_MARK_CFG_SLOT_BASE 7) 255 (both (R.PLZ_MARK_CFG_SLOT_COUNT 7) 1 d))

theorem witness_CompareSlots : (slotOn {}).dev.flag (R.POS_CMP_CTRL_ARM 255) = true ∧ ({} : Slot).hit (decide ((0 : Int) ≤ ((slotOn {}).start.advance 0).slotReach {})) = true ∧
    ((slotOn {}).start.advance 0).flag R.POS_STATUS_POS_LOST = false ∧ (slotOn {}).dev.slotOwned 255 = false ∧ slotOfMarker.dev.slotOwned 255 = true ∧ 3 ≤ (slotOn {}).dev.mode.code := by decide

/-- A slave in ARMED. -/
def slave (f : PosState → PosState) : State := st .armed fun d => pos f (put R.KSL_CASCADE_FIXED 1 (put R.POS_STATUS_MASTER 0 d))
/-- A slave that follows and holds over, with and without an encoder. -/
def holding (us : List Nat) : State := st .armed fun d => pos (fun x => { x with follows := true, used := us }) (put R.POS_STATUS_HOLDOVER 1 (put R.POS_STATUS_MASTER 0 (both (R.POS_ENC_CFG_ENABLE 0) us.length d)))

theorem witness_SlavePosition : (slave id).dev.isSlave = true ∧ ((slave fun x => { x with latches := [(7, 0)], synced := true, follows := true, unmatched := 4 }).start.advance 0).awaitsMaster = true ∧
    ((slave fun x => { x with latches := [(7, 0)], synced := true, follows := true, unmatched := 4 }).start.advance 0).pos.unmatched = 4 ∧
    ((slave id).start.advance 4096).awaitsMaster = true ∧ ((slave id).start.advance 4096).pos.slaveFrom + 4096 ≤ ((slave id).start.advance 4096).time ∧ ((slave id).start.advance 4096).flag R.POS_STATUS_HOLDOVER = false ∧
    (holding [0]).dev.mode ≠ .reset ∧ (holding [0]).dev.flag R.POS_STATUS_HOLDOVER = true ∧ (holding [0]).dev.pos.left = false ∧ ((holding [0]).start.advance 400).pos.used ≠ [] ∧
    ((holding [0]).start.advance 400).flag R.POS_FAULT_XCHK = false ∧ ((holding []).start.advance 400).pos.used = [] := by decide

theorem witness_PulseHeartbeatReadmit : let m := st .armed (put R.POS_STATUS_MASTER 1 ∘ both R.KSL_CTRL_CASCADE_SIZE 2)
    m.dev.mode ≠ .reset ∧ m.dev.flag R.POS_STATUS_MASTER = true ∧ 2 ≤ m.dev.cascadeSize ∧ m.dev.mode = .armed ∧
    ((st .armed (pos fun x => { x with encs := [(3, { excluded := true })] })).start.enc 3).excluded = true := by decide

/-- CC mode `n` on all four lines of CLG port 3, an event of one kind at one of its inputs. -/
def ccState (n : Nat) (c : Nat) (k : EvKind) : State := st .inspect fun d => event (0x1C + c) k 5 (both (R.CLG_CC_CFG 3) (n * 0x55) d)

theorem witness_CcLinesAndPulses : (ccState 0 0 .pulse).dev.mode ≠ .reset ∧
    (∃ x d1, (ccState 0 0 .pulse).start.take 0x1C = (some x, d1) ∧ x.pulse = true ∧ d1.ccMode 19 0 = 0) ∧
    (∃ x d1, (ccState 0 3 .set).start.take 0x1F = (some x, d1) ∧ x.pulse = true ∧ d1.ccMode 19 3 = 0) ∧
    (∃ x d1, (ccState 1 0 .set).start.take 0x1C = (some x, d1) ∧ d1.ccMode 19 0 = 1 ∧ x.level ≠ .pulse ∧ x.level = .set) ∧
    (∃ x d1, (ccState 1 0 .clear).start.take 0x1C = (some x, d1) ∧ d1.ccMode 19 0 = 1 ∧ x.level ≠ .pulse ∧ x.level = .clear) ∧
    (∃ x d1, (ccState 2 0 .pulse).start.take 0x1C = (some x, d1) ∧ x.pulse = true ∧ 2 ≤ d1.ccMode 19 0) :=
  ⟨by decide, ⟨_, _, rfl, by decide, by decide⟩, ⟨_, _, rfl, by decide, by decide⟩, ⟨_, _, rfl, by decide, by decide, by decide⟩, ⟨_, _, rfl, by decide, by decide, by decide⟩, _, _, rfl, by decide, by decide⟩

/-- A pulse runs on port 15, and one on CC3 of CLG port 3. -/
def falling : State := st .inspect fun d => { d with ports := [(15, { falls := [(0, 40)] }), (19, { falls := [(3, 40)] })] }

theorem witness_CcLinesAndPulses_ends : earliest ((falling.dev.port 15).falls.map Prod.snd) = some 40 ∧ ((falling.dev.port 15).falls.find? fun f => f.2 = 40) = some (0, 40) ∧
    earliest ((falling.dev.port 19).falls.map Prod.snd) = some 40 ∧ ((falling.dev.port 19).falls.find? fun f => f.2 = 40) = some (3, 40) ∧
    (falling.start.advance 40).ccMode 19 3 ≠ 3 ∧ ((((falling.start.advance 40).port 19).falls.erase (3, 40)).any fun g => decide (g.1 = 3)) = false := by decide

/-- CAM port 15 in a state, with a trigger event on the way, and with a trigger that waits. -/
def camEvent (state : Nat) : State := st .inspect fun d => event 15 .pulse 7 (put (portState 15) state (both (portEnable 15) 1 d))
def trig0 : Trig := { t := 0, floor := false, epoch := 0, field := 0, framed := true, cfg := { width := 4, pad := 0, latMin := 0, latMax := 100, mid := 0, dests := [] }, form := { invert := false, scale := 0, offset := 0 } }
def held0 : HeldLine := { trig := trig0, planes := [[1]], padded := false, truncated := false, acqStart := false, acqOutside := false, acqFrame := 0 }
def camWaits (p : Port) : State := st .inspect fun d => put (portState 15) 5 { d with ports := [(15, p)] }

theorem witness_CameraTrigger : (∃ x d1, (camEvent 5).start.take 15 = (some x, d1) ∧ x.pulse = true ∧ d1.portUp 15 = true) ∧
    (∃ x d1, (camEvent 1).start.take 15 = (some x, d1) ∧ x.pulse = true ∧ d1.portUp 15 = false ∧ d1.lflag (portEnable 15) = true) ∧
    (camEvent 5).dev.mode ≠ .reset ∧ ((camWaits {}).dev.port 15).trigs.length < 64 ∧ 64 ≤ (((camWaits { trigs := List.replicate 64 trig0 }).dev.port 15).trigs.filter fun t => ageClass t 0 ≠ .gt).length ∧
    ((camWaits { trigs := [trig0] }).dev.port 15).unstamped = some trig0 ∧ (((camWaits { trigs := [trig0] }).start.advance 0).port 15).held = [] ∧
    ((camWaits { held := [held0] }).dev.port 15).unstamped = some trig0 ∧ (((camWaits { held := [held0] }).start.advance 0).port 15).held = [held0] :=
  ⟨⟨_, _, rfl, by decide, by decide⟩, ⟨_, _, rfl, by decide, by decide, by decide⟩, by decide +kernel⟩

theorem witness_CameraLine : (camWaits {}).dev.mode ≠ .reset ∧ ((camWaits {}).start.advance 0).portUp 15 = true ∧ matchTrig 0 ((camWaits {}).dev.port 15).trigs = (none, [], 0) ∧
    matchTrig 20 ((camWaits { trigs := [trig0] }).dev.port 15).trigs = (some trig0, [], 0) ∧ (camWaits {}).dev.fvalMode 15 ≠ 1 ∧
    (st .inspect (both (portFld R.CAM_CTRL_FVAL_MODE R.CLG_CTRL_FVAL_MODE 15) 2)).dev.fvalMode 15 ≠ 0 ∧ ((camWaits { trigs := [trig0] }).dev.port 15).waitBoundary = false ∧
    ((camWaits { trigs := [trig0] }).dev.port 15).acceptFrom ≤ trig0.t ∧ ((camWaits {}).dev.port 15).acqOpen = false ∧ ((camWaits { acqOpen := true }).dev.port 15).acqOpen = true ∧
    (camWaits {}).dev.acqLines 15 = 0 ∧ (st .inspect (both (R.CAM_ACQ_LINES 15) 8)).dev.acqLines 15 ≠ 0 := by decide

/-- CAM port 15 in a state, with one lane mapped. -/
def camAt (state : Nat) (p : Port) : State := st .inspect fun d => put (portState 15) state (both (R.CAM_LANE_MAP0 15) 0x80 { d with ports := [(15, p)] })

def enabled6 : State := st .inspect fun d => put (portState 15) 6 (both (portEnable 15) 1 d)

theorem witness_PortBringUp : (camAt 1 {}).dev.mode ≠ .reset ∧ 3 ≤ (camAt 1 {}).dev.mode.code ∧ (camAt 1 {}).dev.fld (portState 15) = 1 ∧ (camAt 1 {}).dev.mappedLanes 15 ≠ [] ∧ (camAt 2 {}).dev.fld (portState 15) = 2 ∧
    ((camAt 2 { deskewAt := some 9 }).dev.port 15).deskewAt = some 9 ∧ ((camAt 3 { idWait := some 9 }).dev.port 15).idWait = some 9 ∧
    ((camAt 6 {}).start.baseWrite 0 (R.CAM_CTRL_ENABLE 15).addr 0x1001).fld (portState 15) = 6 ∧ ((camAt 6 {}).start.baseWrite 0 (R.CAM_CTRL_ENABLE 15).addr 0x1001).portDisabled 15 = true ∧
    (enabled6.start.baseWrite 0 (R.CAM_CTRL_ENABLE 15).addr 0x1001).fld (portState 15) = 6 ∧ (enabled6.start.baseWrite 0 (R.CAM_CTRL_ENABLE 15).addr 0x1001).portDisabled 15 = false := by decide

/-- CLG port 3 in a state. -/
def clgAt (state : Nat) (p : Port) : State := st .inspect fun d => put (portState 19) state (both (portEnable 19) 1 { d with ports := [(19, p)] })

theorem witness_PortReadiness : (camAt 3 {}).dev.fld (portState 15) = 3 ∧ ((camAt 3 {}).dev.port 15).idWait = none ∧ idMatches ((camAt 3 {}).dev.live (R.CAM_ID_MATCH 15)) ((camAt 3 {}).dev.live (R.CAM_EXPECT_CRC 15)) (fit 128 []) = true ∧
    idMatches 1 1 (fit 128 []) = false ∧ (clgAt 1 {}).dev.fld (R.CLG_STATUS_STATE 3) = 1 ∧ (clgAt 2 {}).dev.fld (R.CLG_STATUS_STATE 3) ≠ 0 ∧ (clgAt 2 {}).dev.clgChannels 3 ≤ (2 : Fin 3).val ∧
    (0 : Fin 3).val < (clgAt 2 {}).dev.clgChannels 3 ∧ ((clgAt 2 { outSince := some 4 }).dev.port 19).outSince = some 4 ∧ (clgAt 2 {}).dev.fld (portState 19) ≠ streamState 19 ∧ (clgAt 2 {}).dev.lflag (portEnable 19) = true := by decide +kernel

/-- CAM port 15 in a state with a transaction under way. -/
def gcBusy (state busy : Nat) (p : Port) : State := st .inspect fun d => put (R.CAM_GC_CTRL_BUSY 15) busy (put (portState 15) state (both (portEnable 15) 1 { d with ports := [(15, p)] }))

theorem witness_CameraControl : (gcBusy 4 0 {}).dev.mode ≠ .reset ∧ 3 ≤ (gcBusy 4 0 {}).dev.mode.code ∧ (camAt 4 {}).dev.portDisabled 15 = true ∧ (gcBusy 4 0 {}).dev.portDisabled 15 = false ∧ (gcBusy 4 0 {}).dev.flag (R.CAM_GC_CTRL_BUSY 15) = false ∧
    (gcBusy 4 0 {}).dev.fld (portState 15) ≠ 3 ∧ (gcBusy 4 1 {}).dev.flag (R.CAM_GC_CTRL_BUSY 15) = true ∧ (gcBusy 4 1 {}).dev.fld (portState 15) ≠ 3 ∧ (gcBusy 3 1 {}).dev.fld (portState 15) = 3 ∧
    ((gcBusy 3 1 { idRead := 3 }).dev.port 15).idRead < 4 ∧ ((gcBusy 3 1 { idRead := 3 }).dev.port 15).idWait = none ∧ ((clgAt 2 { rx := List.replicate 255 0 }).dev.port 19).rx.length < 256 ∧
    256 ≤ ((clgAt 2 { rx := List.replicate 256 0 }).dev.port 19).rx.length ∧ ((clgAt 2 {}).dev.txLeft 3).length < 256 := by decide +kernel

def line0 (n chunks : Nat) : BusLine :=
  { wpos := 0, md := 0, trig := 0, epoch := 0, seq := 0, stream := 3, color := 0, field := 0, bondOdd := false, floor := false, padded := false, truncated := false, acqStart := false, acqOutside := false, secondary := false,
    acqFrame := 0, framed := true, pix := List.replicate n 0, chunks := chunks, done := [] }
/-- Role 15 runs with one line in its primary buffer. -/
def corState (c : Corr) : State := st .inspect fun d => pos (fun x => { x with grid := [{ line := 0, pos := 0, pitch := 16 }], linesPassed := 99 }) (both (R.STR_COR_CTRL_ENABLE 15) 1 { d with corr := [(15, c)] })

theorem witness_CameraSideChunk : let s := corState { prim := [line0 257 0] }; let t := corState { prim := [line0 256 0] }
    s.dev.mode ≠ .reset ∧ s.start.lflag (R.STR_COR_CTRL_ENABLE 15) = true ∧ s.start.roleRuns 15 = true ∧ s.start.nextChunk 15 = some (true, line0 257 0) ∧ (s.start.chunkOf 15 (line0 257 0)).complete = false ∧
    t.start.nextChunk 15 = some (true, line0 256 0) ∧ (t.start.chunkOf 15 (line0 256 0)).complete = true := by decide +kernel

def outChan0 : OutChan := { on := true, stream := 3, srcBase := 0, remapBase := 0, x0 := 0, m := 0, k2 := 0, k3 := 0, centre := 0, xred := 0, xblue := 0 }
def outVer0 : OutVer := { line := 0, rsMode := 0, binLog2 := 0, bandCols := 0, chans := [outChan0], taps := [] }
def stored0 (m : Int) : StoredLine := { m := m, epoch := 0, pix := [0] }
def band0 (l n : Nat) : BandLine := { role := 15, chan := 0, comp := 0, line := l, epoch := 0, lo := 0, hi := 0, pix := List.replicate n 0 }
def outState (m : Int) : State := corState { outs := [outVer0], store := [(0, { lines := [stored0 m] })] }
/-- The Boulevard runs, and the output buffer of role 15 is full. -/
def pausedOut : State := st .inspect fun _ => both R.BLV_CTRL_ENABLE 1 (corState { outs := [{ outVer0 with bandCols := 32769 }], bands := [band0 0 0], computed := [(0, 1)] }).dev

theorem witness_OutputLines : (outState 1).dev.mode ≠ .reset ∧ (outState 1).start.outRuns 15 = true ∧
    (∃ ch need area deadline, (outState 1).start.outDue 15 0 = some (ch, need, area, deadline) ∧ need = 0 ∧ deadline ≤ 99 ∧ (outState 1).start.compsOf ch.stream - 1 = 0) ∧
    (outState 1).start.outPaused 15 0 = false ∧ (∃ l ∈ ((outState 1).start.compStore 15 0 0).lines, (0 : Int) < l.m) ∧ (∀ l ∈ ((outState (-1)).start.compStore 15 0 0).lines, l.m < 0) ∧
    pausedOut.start.outRuns 15 = true ∧ pausedOut.start.outPaused 15 0 = true ∧ (pausedOut.start.outDue 15 0).isSome = true :=
  ⟨by decide, by decide +kernel, ⟨_, _, _, _, rfl, by decide +kernel⟩, by decide +kernel, ⟨stored0 1, by decide +kernel, by decide⟩, by decide +kernel, by decide +kernel⟩

/-- The Boulevard runs, one band line of role 15 for row `l` waits, and row `n` is the next. -/
def bandState (l n : Nat) (on : Bool) : State := st .inspect fun _ => both R.BLV_CTRL_ENABLE 1 (both (R.BLV_LAYER_SRC 15) 0x10
  { (corState { outs := [{ outVer0 with chans := [{ outChan0 with on := on }] }], bands := [band0 l 0], computed := [(0, l)] }).dev with blv := { nextRow := n } })

theorem witness_BandLineTake : (bandState 7 7 true).dev.mode ≠ .reset ∧ (bandState 7 7 true).dev.bandTakes 15 = false ∧ (bandState 7 7 false).dev.bandTakes 15 = true ∧ ((bandState 7 7 false).dev.cor 15).bands = [band0 7 0] ∧
    ((bandState 7 7 false).start.blvVer 7).enable = true ∧ (bandState 7 7 false).start.roleAt 15 7 = true ∧ (bandState 7 7 false).dev.blv.nextRow ≤ 7 ∧ 7 < (bandState 7 8 false).dev.blv.nextRow ∧
    ((bandState 7 8 false).start.blvVer 7).names (band0 7 0) = true := by decide +kernel

/-- Row 0 may be merged: role 15 is waited for and has delivered, or its hold has run out. -/
def rowState : State := st .inspect fun _ => both R.BLV_CTRL_ENABLE 1 (both R.BLV_STITCH_COLS 4096 (both (R.STR_BAND_COLS 15) 4096
  { (corState {}).dev with blv := { taken := [band0 0 0] } }))

theorem witness_RowMerges : rowState.dev.mode ≠ .reset ∧ rowState.start.mergeDue false = true ∧ rowState.start.mergeDue true = true := by decide +kernel

/-- Row 0 is in the Attic with its tag to come; its window is released with the tag. -/
def tagState : State := st .inspect fun _ => both (R.BLV_OWN_START 15) 64 (both (R.BLV_OWN_END 15) 4031
  (both R.BLV_CTRL_ENABLE 1 (both R.BLV_STITCH_COLS 4096 (both (R.STR_BAND_COLS 15) 4096
  { (corState {}).dev with blv := { nextRow := 1, tagsPending := [(1, 0)], ready := true, rows := [{ line := 0, epoch := 0, flags := {}, mergedAt := 0, bg := [], cover := [] }] } }))))

theorem witness_TagsAndWindows : tagState.dev.mode ≠ .reset ∧ tagState.dev.blv.tagsPending = [(1, 0)] ∧ tagState.dev.mem.doors = [] ∧ (tagState.dev.blv.rows.find? fun x => x.line = 0).isSome = true ∧ tagState.dev.blv.ready = true ∧
    0 ≤ tagState.dev.blv.head ∧ tagState.start.waitedAt 0 15 = true ∧ tagState.start.attOldest ≤ 0 ∧ tagState.start.inputFull 15 = false ∧ 64 ≤ tagState.start.ownStart 15 ∧
    tagState.start.ownEnd 15 + 64 < tagState.start.stitchCols := by decide +kernel

/-- A packet that a port hands on. -/
def pk (bs : List Byte) : RxPacket := { src := 0, dst := 0, bcast := false, lseq := 1, hops := 0, epoch := 0, payload := bs }
/-- Both seam ports are Active. -/
def linked (f : Dev → Dev) : State := st .inspect fun d => put (R.KSL_PORT_STATUS_STAGE 0) 5 (put (R.KSL_PORT_STATUS_STAGE 1) 5 (put (R.KSL_PORT_STATUS_DATA 0) 1 (put (R.KSL_PORT_STATUS_DATA 1) 1 (f d))))

theorem witness_ApronsFloorAndBar4 : (∃ x, (linked id).start.rxPacket 0 PT.apron (pk (zeros 24)) = (x, true)) ∧ (∃ x, (linked id).start.rxPacket 1 PT.apron (pk (zeros 24)) = (x, true)) ∧
    ({} : ApronSide).gone 5 = false ∧ ({ replaced := some 5 } : ApronSide).gone 5 = true ∧ 3 ≤ (linked id).dev.mode.code ∧ 0xFFFFFFF + 1 ≤ 2 ^ (linked id).dev.host.pcie.bar4 ∧
    ((linked id).dev.mode = .inspect ∧ ∃ i < [(0 : Byte)].length, (st .inspect fun d => both R.BLV_CTRL_ENABLE 1 (both (R.BLV_LAYER_CFG_ENABLE 0) 1 (both R.BLV_STITCH_COLS 4096 d))).start.inAttic (0 + i) = true) ∧
    ({ blob := {}, blv := { floorAt := some 3 } } : Dev).blv.floorAt = some 3 ∧ ({ cfg := { copying := true } } : Dev).cfg.copying = true :=
  ⟨⟨_, rfl⟩, ⟨_, rfl⟩, by decide, by decide, by decide, by decide, ⟨by decide, 0, by decide +kernel⟩, by decide, by decide⟩

def win0 (l : Nat) : WinRow := { line := l, epoch := 0, flags := {}, edgeLo := false, edgeHi := false, start := 0, layers := [], bg := [], cover := [] }
/-- The chain of role 15, disabled, has two rows of windows to read, ATT_HEAD at row `head`. -/
def segState (head : Nat) : State := st .inspect fun d =>
  { d with windows := [(15, [win0 0, win0 1])], blv := { ready := true, head := head },
           chains := [(15, { ver := { lagMax := 4, resume := 2 }, pars := [{ line := 0, words := [] }] })] }

theorem witness_SegmentationRows : (segState 1).dev.mode ≠ .reset ∧ (∃ x h, (segState 1).start.segRow 15 = (x, some h)) ∧ ∃ x f l, (segState 5).start.segSkip 15 = (x, some (f, l)) :=
  ⟨by decide, ⟨_, _, rfl⟩, _, _, _, rfl⟩

def work0 (joined : Option Nat) : RowWork := { line := 7, readyAt := 0, joinedAt := joined, frags := [], prev := [], absorbed := [], cut := [], lost := [], alive := [], released := [] }
/-- A row is under way; with a partner on each side, and a device whose yields it waits for. -/
def rowUnder (joined : Option Nat) : State := linked fun d => { d with blob := { work := some (work0 joined), defects :=
  [{ key := 1, line := 0, col := 0, role := 0, own := true, side := 0, ident := 1, total := 0, acc := {}, flags := 0, sticky := 0, pieces := 0, spanLast := 0, roles := [], boxLo := 0, boxHi := 0, holders := [3], lastRow := 0 }] } }

theorem witness_RowRecords : (rowUnder none).dev.mode ≠ .reset ∧ (rowUnder none).dev.blob.work = some (work0 none) ∧ (rowUnder none).start.bordersIn 7 = false ∧ (rowUnder (some 3)).start.yieldsIn (work0 (some 3)) = false ∧
    (st .inspect fun d => { d with blob := { work := some (work0 (some 3)) } }).start.yieldsIn (work0 (some 3)) = true ∧
    (st .inspect fun d => { d with blob := { work := some (work0 (some 3)) } }).start.labelReady = false := by decide +kernel

/-- A word that no chapter defines. -/
theorem undefined_word : Machine.undefinedWord 0x00FF000 ∧ Machine.undefinedWord 0x00FF004 := ⟨⟨by decide +kernel, by decide +kernel, .inr (.inl (by decide +kernel))⟩, by decide +kernel, by decide +kernel, .inr (.inl (by decide +kernel))⟩

theorem witness_UndefinedAddresses : (∀ b ∈ accessWords 0x00FF000 8, Machine.undefinedWord b) ∧ (0x00FF000 : BitVec 32).toNat = 0x00FF000 ∧ (∀ b ∈ accessWords 0x00FF004 4, Machine.undefinedWord b) := by
  refine ⟨fun b hb => ?_, by decide, fun b hb => ?_⟩
  · have h : b = 0x00FF000 ∨ b = 0x00FF004 := by simpa [accessWords] using hb
    rcases h with rfl | rfl
    · exact undefined_word.1
    · exact undefined_word.2
  · have h : b = 0x00FF004 := by simpa [accessWords] using hb
    subst h; exact undefined_word.2

theorem witness_LatchingReads : live64At 0x100020 = true ∧ live64At (0x100020 + 4) = true ∧ 0x100020 % 8 = 0 ∧ (0x42060 : BitVec 32).toNat = 0x42000 + 16 * (6 : Fin 7).val ∧
    (findDesc 0xC00020).map (·.rws) = some 0 ∧ 0xC00020 / 0x100000 = 12 ∧ (findDesc 0x2000800).map (·.rws) = some 0 ∧ 0x2000800 / 0x100000 = 32 ∧ (findDesc 0x600014).map (·.rws) = some 0 ∧ (findDesc 0xB00800).map (·.rws) = some 0 := by decide +kernel

/-- A write of the Pantry is due in ARMED, and in INSPECT, where a boundary has taken contents. -/
def due (m : Mode) : State := st m fun d => both R.CAL_CTRL_PERSIST_EN 1 { d with pantry := { trigger := true } }
def taken0 : PantryTaken := { line := 0, trimSeq := 0, secs := [], omitted := false }
def dueTaken : State := st .inspect fun _ => { (due .inspect).dev with pantry := { trigger := true, taken := some taken0 } }
def writing (bs : List Byte) : State := st .armed fun d => { d with pantry := { writing := some (1, 5, bs) } }

theorem witness_PantryWrites : (due .inspect).start.pantryDue = true ∧ (due .inspect).dev.mode.framed = true ∧ (due .inspect).dev.pantry.taken = none ∧ dueTaken.start.pantryDue = true ∧ dueTaken.dev.pantry.taken = some taken0 ∧
    (due .armed).start.pantryDue = true ∧ (due .armed).dev.mode.framed = false ∧ (writing []).dev.pantry.writing = some (1, 5, []) ∧
    pantryValid ((([] : List Byte)).take pantrySize) = false := by decide +kernel

theorem witness_PantryWrites_valid : pantryValid (pantryBytes 5 0 0 0 []) = true ∧ leAt (pantryBytes 5 0 0 0 []) 8 4 = 5 := by decide +kernel

/-- The calibration computes: rows behind the windows, the deadline not yet passed or passed. -/
def calState (lines : Nat) : State := st .inspect fun d => put R.CAL_STATUS_PHASE calCompute <| both R.CAL_WIN_CFG_WIN_FRAMES 1 <| both R.CAL_WIN_CFG_COMPUTE_FRAMES 1 { d with pos := { d.pos with linesPassed := lines }, blv := { nextRow := 4160 } }

theorem witness_CalibrationCycle : (calState 6143).start.calReady = true ∧ (calState 6143).dev.pos.linesPassed < (calState 6143).start.calDeadline ∧ (calState 6144).start.calPhase = calCompute ∧
    (calState 6144).dev.cal.decided = false ∧ (calState 6144).start.calDeadline ≤ (calState 6144).dev.pos.linesPassed := by decide +kernel

def hostCmd (op : Nat) (arg spec : List Byte) (ctx : Option Nat) : HostCmd := { sq := 0, fn := 0, head := 0, op := op, cid := 7, fence := false, quiet := false, bad := false, arg := arg, addr := 0x1000, len := 4096, spec := spec, ctx := ctx }
def ext0 (mode : Nat) (sums : List ExtComp) : ExtCal := { mode := mode, white := 0, lines := 2, minSpan := 0, agree := 4, sums := sums }
def ctx0 (op st phase : Nat) : Ctx := { cmd := hostCmd op [] [] (some 0), st := st, phase := phase }
def extState (phase mode : Nat) (sums : List ExtComp) : State := st .calibrate fun d => { d with cal := { d.cal with ext := some (ext0 mode sums) }, host := { d.host with ctxs := [(0, some (ctx0 0x10 1 phase))] } }

theorem witness_CalibrationCycle_ext : (extState 0 2 []).start.opsOf 0x10 = [(0, ctx0 0x10 1 0)] ∧ (extState 0 2 []).dev.cal.ext = some (ext0 2 []) ∧ (extState 0 2 []).start.extSums = true ∧ (ext0 2 []).full = true ∧
    (extState 2 1 []).start.extSums = true ∧ (∃ e, (extState 3 0 []).start.extCompute (ext0 0 []) = .ok e) ∧
    (extState 3 0 []).start.extCompute (ext0 0 [{ role := 0, chan := 0, comp := 0, lines := 2, h1 := [0], h2 := [99] }]) = .error 0x500B :=
  ⟨by decide +kernel, by decide, by decide +kernel, by decide, by decide +kernel, ⟨_, rfl⟩, rfl⟩

def who0 : Subject := { ident := 1, role := 0, stripe := 0, line := 0, md := 0, col := 0, colMin := 0, colMax := 0 }
def req0 (crop : Option (List (List Int))) (running : Bool) : DcaReq := { seq := 0, who := who0, left := 0, top := 0, w := 0, h := 0, bank := 0, deadline := some 5, decided := false, crop := crop, running := running }
def model0 : DcaModel := { id := 3, classes := 1, inW := 0, inH := 0, inCh := 1, ops := 0, map := [0], layers := [], weights := [], lut := [] }
/-- The Attic runs, HWM is at 5, a request waits. -/
def dcaState (crop : Option (List (List Int))) (running : Bool) (m : Option DcaModel) (bank : Nat) : State := st .inspect fun d => pos (fun x => { x with md := 5, hwm := 5 }) (put (bankState 0) bank (both R.BLV_CTRL_ENABLE 1
  { d with blv := { ready := true }, dca := { reqs := [req0 crop running], models := [(0, m)] } }))

theorem witness_ClassifierRequests : (dcaState none false none 0).start.reqReady (req0 none false) = true ∧ (dcaState none false none 0).start.noModel 0 = true ∧ (dcaState none false (some model0) bankActive).start.noModel 0 = false ∧
    (dcaState none false none 0).dev.dca.reqs.any (·.running) = false ∧ (dcaState (some []) true (some model0) bankActive).dev.dca.reqs.find? (·.running) = some (req0 (some []) true) ∧
    (dcaState (some []) true (some model0) bankActive).start.bankModel 0 = some model0 ∧ (5 : Int) ≤ ((dcaState none false none 0).start.advance 0).pos.hwm ∧
    (dcaState none false (some model0) bankActive).start.attOldest ≤ 0 ∧ (dcaState none false (some model0) bankActive).start.readCrop { req0 none false with h := 0 } model0 = some [[]] ∧
    (dcaState none false (some model0) bankActive).start.readCrop { req0 none false with top := 9, h := 1 } model0 = none := by decide +kernel

/-- A load of bank 1 in a phase, from the host's buffer or from a model slot. -/
def loading (phase src : Nat) (img : List Byte) : State := st .armed fun d => { d with dca := { images := [(1, img)] }, host := { d.host with ctxs := [(0, some { ctx0 0x14 1 phase with keep := [1, src] })] } }

theorem witness_ModelLoads : (loading 0 0 []).start.loadOf 1 0 = some (0, { ctx0 0x14 1 0 with keep := [1, 0] }) ∧ (loading 0 1 []).start.loadOf 1 0 = some (0, { ctx0 0x14 1 0 with keep := [1, 1] }) ∧
    (loading 1 0 []).start.loadOf 1 1 = some (0, { ctx0 0x14 1 1 with keep := [1, 0] }) ∧ verifyModel (tget [] (loading 1 0 []).dev.dca.images 1) = .error 0xB001 :=
  ⟨by decide +kernel, by decide +kernel, by decide +kernel, rfl⟩

def rec0 (ty : Nat) : Rec := { ty := ty, role := none, line := none, rseq := 0, bytes := zeros 128 }
/-- A spool of `cap` × 512 records (none where `cap` is 0), what it holds, a record in the FIFO, and one subscription. -/
def spoolState (cap keep : Nat) (spool : List Rec) (ctx : Ctx) : State := st .inspect fun d => put R.GLB_SPOOL_SIZE cap (put R.GLB_HOST_CTRL_SPOOL_POLICY keep
  (both R.BLV_CTRL_ENABLE 1 { d with recs := { fifo := [rec0 1] }, blv := { ready := true, head := 7 }, host := { d.host with spool := spool, ctxs := [(0, some ctx)] } }))
def sub0 (op next : Nat) : Ctx := { cmd := hostCmd op [] (zeros 32) (some 0), st := 3, next := next, keep := [0, 1, 0, 0], bufs := [{ cid := 0, sq := 0, addr := 0, len := 256, items := 1 }] }

theorem witness_RecordsOut : (spoolState 1 0 [] (sub0 0x20 0)).start.spoolCap ≠ 0 ∧ (spoolState 1 0 [] (sub0 0x20 0)).dev.recs.fifo = [rec0 1] ∧ (spoolState 1 0 [] (sub0 0x20 0)).dev.host.spool.length < (spoolState 1 0 [] (sub0 0x20 0)).start.spoolCap ∧
    (let s := spoolState 1 0 (List.replicate 512 (rec0 1)) (sub0 0x20 0); s.start.spoolCap ≤ s.dev.host.spool.length ∧ s.dev.flag R.GLB_HOST_CTRL_SPOOL_POLICY = false) ∧
    (let s := spoolState 1 1 (rec0 tyLost :: rec0 1 :: List.replicate 510 (rec0 1)) (sub0 0x20 0); s.start.spoolCap ≤ s.dev.host.spool.length ∧ s.dev.flag R.GLB_HOST_CTRL_SPOOL_POLICY = true ∧
      s.dev.host.spool = [rec0 tyLost] ++ rec0 1 :: List.replicate 510 (rec0 1)) ∧ (rec0 1).ty ≠ tyLost ∧
    (spoolState 0 0 [] (sub0 0x20 0)).start.spoolCap = 0 ∧ (spoolState 0 0 [] (sub0 0x20 0)).start.subsOf 0x20 = [(0, sub0 0x20 0)] ∧ (sub0 0x20 0).bufs ≠ [] ∧
    (spoolState 0 0 [] (sub0 0x22 0)).start.ctx (0 : Fin 4096) = some (sub0 0x22 0) ∧ (spoolState 0 0 [] (sub0 0x22 0)).start.attReady = true ∧ (spoolState 0 0 [] (sub0 0x22 0)).start.attHolds 0 = true ∧
    (spoolState 0 0 [] (sub0 0x22 8)).start.attHolds 8 = false ∧ ((spoolState 0 0 [] (sub0 0x22 0)).start.imageRow 0 0 0 0 0).isSome = true := by decide +kernel

/-- An event of one kind at one input. -/
def at_ (i : Nat) (k : EvKind) (f : Dev → Dev) : State := st .inspect fun d => event i k 5 (f d)

theorem witness_PositionCapture : (∃ x d, (at_ 0xF2 .set id).start.take 0xF2 = (some x, d) ∧ x.pulse = true) ∧ 3 ≤ (at_ 0xF2 .set id).dev.mode.code := ⟨⟨_, _, rfl, by decide⟩, by decide⟩

/-- Group `g` in a state, owned by the host. -/
def group (g state : Nat) : State := st .standby (put (R.GLB_GROUP_STATE g) state)
def claimed (q : Nat) : State := st .standby fun _ => { (group 3 grpOpen).dev with cfg := { claims := [(0x03000000, q)] } }

theorem witness_ShadowGroups : bits (30 : BitVec 32).toNat 0 5 ≠ 31 ∧ (group 3 grpFree).start.grpState 30 = grpFree ∧
    ((List.range 32).any fun q => (group 3 grpFree).start.grpOwned 0 q && (decide ((group 3 grpFree).start.grpState q = grpOpen) || decide ((group 3 grpFree).start.grpState q = grpSealing))) = false ∧
    (group 3 grpOpen).start.grpOwned 0 3 = true ∧ (group 3 grpOpen).start.openGroup 0 = some 3 ∧ (group 3 grpFree).start.openGroup 0 = none ∧ inTap 0x03000000 = true ∧
    ((5 : BitVec 32).toNat &&& tapMask 0x03000000) ≠ (group 3 grpOpen).start.shadowWord 0x03000000 ∧ tget 0 (claimed 4).dev.cfg.claims 0x03000000 = 3 + 1 ∧ tget 0 (claimed 9).dev.cfg.claims 0x03000000 ≠ 3 + 1 ∧
    (group 3 grpFree).start.grpOwned 0 3 = false ∧ (group 3 grpSealed).start.grpState 3 = grpSealed ∧ (group 30 grpSealing).start.grpState 30 = grpSealing := by decide +kernel

/-- A slave in DISCOVER that has its position, and one that has not. -/
def discover (w : Nat) : State := st .discover fun d => put R.KSL_CASCADE_READY 1 (put R.POS_STATUS_MASTER 0 (put R.POS_SYNC_STATUS_SYNC_OK 1 (put R.KSL_CASCADE_W w d)))

theorem witness_ModeAndCommitRequests : (∀ m, modeOf 15 = some m → (st .standby id).dev.mode.mayRequest m = false) ∧ modeOf 4 = some .discover ∧ (st .standby id).dev.mode.mayRequest .discover = true ∧ (st .standby id).dev.cfg.modeReq = none ∧
    modeOf 8 = some .calibrate ∧ (st .inspect id).dev.mode.mayRequest .calibrate = true ∧ (st .inspect fun d => { d with cfg := { modeReq := some (8, .reg) } }).dev.cfg.modeReq.isSome = true ∧
    (discover 0).dev.flag R.KSL_CASCADE_READY = true ∧ (discover 0).start.placed = true ∧ (discover 0).start.portsWaited = [] ∧ (discover 0).start.posReady = true ∧ (discover 0).dev.cfg.late = false ∧
    (discover 1).start.placed = false := by
  refine ⟨fun m h => ?_, by decide +kernel⟩
  simp [modeOf] at h

def pinState (f : Pin → Pin) (mode : Nat) : State := at_ 0x3F .pulse fun d => both (R.PLZ_GPIO_CFG_MODE 31) mode { d with plz := { d.plz with pins := [(31, f {})] } }
def timerState (i running retrigger : Nat) : State := at_ i .pulse fun d => put (R.PLZ_TMR_STATUS_RUNNING 15) running (both (R.PLZ_TMR_CFG_RETRIGGER 15) retrigger d)

theorem witness_PinsAndTimers : min ((pinState id 0).dev.live (R.PLZ_GPIO_CFG_FILTER 31)) 100 ≤ 100 ∧
    (∃ e d, (pinState id 0).start.take 0x3F = (some e, d) ∧ d.live (R.PLZ_GPIO_CFG_MODE 31) = 0) ∧
    (∃ e d, (pinState (fun x => { x with pend := [1, 2, 3] }) 1).start.take 0x3F = (some e, d) ∧ d.live (R.PLZ_GPIO_CFG_MODE 31) ≠ 0 ∧ e.pulse = true ∧ (d.pin 31).pend.length < 4) ∧
    (∃ e d, (pinState (fun x => { x with pend := [1, 2, 3, 4] }) 1).start.take 0x3F = (some e, d) ∧ d.live (R.PLZ_GPIO_CFG_MODE 31) ≠ 0 ∧ e.pulse = true ∧ 4 ≤ (d.pin 31).pend.length) ∧
    earliest ((pinState (fun x => { x with pend := [9, 7] }) 1).start.pin 31).pend = some 7 ∧ earliest ((pinState (fun x => { x with run := [9, 7] }) 1).start.pin 31).run = some 7 ∧
    (∃ e d, (timerState 0x5F 0 0).start.take 0x5F = (some e, d) ∧ e.pulse = true ∧ d.pulseDueAt 0x6F d.time = false ∧ (d.timer 15).stopAt ≠ d.time + 1 ∧ d.flag (R.PLZ_TMR_STATUS_RUNNING 15) = false) ∧
    (∃ e d, (timerState 0x5F 1 1).start.take 0x5F = (some e, d) ∧ e.pulse = true ∧ d.lflag (R.PLZ_TMR_CFG_RETRIGGER 15) = true) ∧
    (∃ e d, (timerState 0x5F 1 0).start.take 0x5F = (some e, d) ∧ e.pulse = true ∧ d.flag (R.PLZ_TMR_STATUS_RUNNING 15) = true ∧ d.lflag (R.PLZ_TMR_CFG_RETRIGGER 15) = false) ∧
    (∃ e d, (timerState 0x6F 1 0).start.take 0x6F = (some e, d) ∧ e.pulse = true) ∧
    (timerState 0x5F 1 0).dev.flag (R.PLZ_TMR_STATUS_RUNNING 15) = true ∧
    ((timerState 0x5F 1 0).dev.plz.inflight.any (fun x => decide (x.input = 0x6F) && decide (x.due ≤ ((timerState 0x5F 1 0).start.timer 15).endAt) && decide (x.kind ≠ .clear))) = false :=
  ⟨by decide, ⟨_, _, rfl, by decide⟩, ⟨_, _, rfl, by decide, by decide, by decide⟩, ⟨_, _, rfl, by decide, by decide, by decide⟩, by decide, by decide, ⟨_, _, rfl, by decide, by decide, by decide, by decide⟩,
    ⟨_, _, rfl, by decide, by decide⟩, ⟨_, _, rfl, by decide, by decide, by decide⟩, ⟨_, _, rfl, by decide⟩, by decide, by decide⟩

def markState (i : Nat) (k : EvKind) (m : Mark) : State := at_ i k fun d => { d with marks := { d.marks with outs := [(7, m)] } }
def slotMark (off : Bool) (action : Nat) : MarkSlot := { marker := 7, off := off, pair := none, who := who0, action := action, decision := 0, target := 0 }
def arriving (e : MarkSlot) (m : Mark) : State := st .inspect fun d => { d with marks := { d.marks with outs := [(7, m)], arrivals := [(200, 6, 0, e)] } }

theorem witness_MarkerOutputs : (∃ e d, (markState 0x47 .pulse {}).start.take 0x47 = (some e, d) ∧ e.pulse = true ∧ d.dueAt 0x4F d.time = false ∧ (d.mark 7).inhAt ≠ d.time + 1 ∧ (d.mark 7).holdUntil ≤ d.time ∧ (d.mark 7).inhibit = false) ∧
    (∃ e d, (markState 0x47 .pulse { inhibit := true }).start.take 0x47 = (some e, d) ∧ e.pulse = true ∧ (d.mark 7).inhibit = true ∧ (d.mark 7).holdUntil ≤ d.time) ∧
    (∃ e d, (markState 0x47 .pulse { holdUntil := 6 }).start.take 0x47 = (some e, d) ∧ e.pulse = true ∧ (d.mark 7).high = false ∧ d.time < (d.mark 7).holdUntil ∧ (d.mark 7).inhibit = false) ∧
    (∃ e d, (markState 0x47 .pulse { holdUntil := 6, inhibit := true }).start.take 0x47 = (some e, d) ∧ e.pulse = true ∧ d.time < (d.mark 7).holdUntil ∧ (d.mark 7).inhibit = true) ∧
    (∃ e d, (st .inspect fun _ => event 0x4F .set 5 (markState 0x47 .pulse {}).dev).start.take 0x47 = (some e, d) ∧ e.pulse = true ∧ d.dueAt 0x4F d.time = true ∧ (((d.markInhibit 7).clash 0x47).mark 7).inhibit = true ∧
      (((d.markInhibit 7).clash 0x47).mark 7).holdUntil ≤ ((d.markInhibit 7).clash 0x47).time) ∧
    (∃ e d, (markState 0x4F .pulse {}).start.take 0x4F = (some e, d) ∧ e.level = .pulse) ∧ (∃ e d, (markState 0x4F .set {}).start.take 0x4F = (some e, d) ∧ e.level ≠ .pulse) ∧
    earliest ((if 0 < ({ endAt := 9 } : Mark).endAt then [9] else []) ++ []) = some 9 ∧ ((markState 0x4F .set {}).start.mark 7).high = false ∧
    earliest ((arriving (slotMark true 0) {}).dev.marks.arrivals.map fun x => x.2.1) = some 6 ∧ (arriving (slotMark true 0) {}).dev.marks.arrivals.find? (fun x => x.2.1 = 6) = some (200, 6, 0, slotMark true 0) ∧
    (slotMark false 1).off = false ∧ (slotMark false 1).action % 4 ≠ 2 ∧ (slotMark false 2).action % 4 = 2 ∧ ((arriving (slotMark false 1) { inhibit := true }).start.advance 6 |>.inhibitFirst 7 |>.mark 7).inhibit = true ∧ (slotMark false 1).pair = none :=
  ⟨⟨_, _, rfl, by decide⟩, ⟨_, _, rfl, by decide⟩, ⟨_, _, rfl, by decide⟩, ⟨_, _, rfl, by decide⟩, ⟨_, _, rfl, by decide⟩, ⟨_, _, rfl, by decide⟩, ⟨_, _, rfl, by decide⟩, by decide, by decide, by decide, by decide, by decide⟩

def dmaMode (n mode state : Nat) (c : DmaChan) (d : Dev) : Dev := put (R.DMA_CH_CFG_MODE n) mode (put (R.DMA_CH_STATUS_STATE n) state { d with dma := [(n, c)] })
def irqState (en cqen : Nat) (w : List CqEntry) : State := at_ 0xEF .pulse fun d => put (R.GLB_IRQ_CFG_ENABLE 63) en (put (R.QUE_CQ_CFG_ENABLE 0) cqen { d with host := { d.host with queues := [(0, { waiting := w })] } })
def entry0 : CqEntry := { result := 0, detail := 0, head := 0, sqId := 0, cid := 0, status := 0, ctx := 0, kind := 2, source := some 63 }

theorem witness_PlazaRequests : (st .inspect (put R.POS_STATUS_MASTER 1)).dev.isSlave = false ∧ (slave id).dev.isSlave = true ∧ (∃ e d, (at_ 0xF0 .pulse id).start.take 0xF0 = (some e, d) ∧ e.pulse = true) ∧
    (∃ e d, (irqState 0 1 []).start.take 0xEF = (some e, d) ∧ e.pulse = true ∧ d.flag (R.GLB_IRQ_CFG_ENABLE 63) = false) ∧
    (∃ e d, (irqState 1 1 []).start.take 0xEF = (some e, d) ∧ e.pulse = true ∧ d.flag (R.GLB_IRQ_CFG_ENABLE 63) = true ∧ d.flag (R.QUE_CQ_CFG_ENABLE (d.fld (R.GLB_IRQ_CFG_IRQ_CQ 63))) = true ∧ ((d.queue (d.fld (R.GLB_IRQ_CFG_IRQ_CQ 63))).waiting.find? fun e => e.source = some 63) = none) ∧
    (∃ e d, (irqState 1 1 [entry0]).start.take 0xEF = (some e, d) ∧ e.pulse = true ∧ ((d.queue (d.fld (R.GLB_IRQ_CFG_IRQ_CQ 63))).waiting.find? fun e => e.source = some 63) = some entry0) ∧
    (∃ e d, (at_ 0xAF .pulse (dmaMode 63 2 0 {})).start.take 0xAF = (some e, d) ∧ e.pulse = true ∧ d.fld (R.DMA_CH_CFG_MODE 63) = 2) ∧
    (∃ e d, (at_ 0xAF .pulse (dmaMode 63 1 0 {})).start.take 0xAF = (some e, d) ∧ e.pulse = true ∧ d.fld (R.DMA_CH_CFG_MODE 63) = 1 ∧ d.dmaState 63 = 0) ∧
    (∃ e d, (at_ 0xAF .pulse (dmaMode 63 1 1 {})).start.take 0xAF = (some e, d) ∧ e.pulse = true ∧ d.dmaState 63 = 1 ∧ (d.chan 63).startPending = false) ∧
    (∃ e d, (at_ 0xAF .pulse (dmaMode 63 1 1 { startPending := true })).start.take 0xAF = (some e, d) ∧ e.pulse = true ∧ d.dmaState 63 = 1 ∧ (d.chan 63).startPending = true) ∧
    (∃ e d, (at_ 0xF1 .pulse id).start.take 0xF1 = (some e, d) ∧ e.pulse = true ∧ d.plz.softAt ≠ d.time + 1 ∧ d.cfg.next = none) ∧
    (∃ e d, (at_ 0xF1 .pulse fun d => { d with cfg := { next := some { index := none, whos := [], recipe := none } } }).start.take 0xF1 = (some e, d) ∧ e.pulse = true ∧ d.cfg.next.isSome = true) ∧
    (∃ e d, (at_ 0xF1 .pulse fun d => { d with plz := { d.plz with softAt := 6 } }).start.take 0xF1 = (some e, d) ∧ e.pulse = true ∧ d.plz.softAt = d.time + 1) ∧
    (st .inspect (put R.POS_STATUS_MASTER 1)).dev.mode.filters = true ∧ (st .inspect id).dev.prf.syncRow = none :=
  ⟨by decide, by decide, ⟨_, _, rfl, by decide⟩, ⟨_, _, rfl, by decide⟩, ⟨_, _, rfl, by decide⟩, ⟨_, _, rfl, by decide⟩, ⟨_, _, rfl, by decide⟩, ⟨_, _, rfl, by decide⟩, ⟨_, _, rfl, by decide⟩, ⟨_, _, rfl, by decide⟩,
    ⟨_, _, rfl, by decide⟩, ⟨_, _, rfl, by decide⟩, ⟨_, _, rfl, by decide⟩, by decide, by decide⟩

/-- The transmitter runs with a sink in a state of the link. -/
def gal (hpd link : Nat) : State := st .armed fun d => put R.GAL_CTRL_ENABLE 1 (put R.GAL_STATUS_HPD hpd (put R.GAL_STATUS_LINK link (put R.GAL_CTRL_MAX_LANES 2 (put R.GAL_CTRL_MAX_RATE 3 { d with gal := { d.gal with sinkLanes := 2, sinkRate := 3 } }))))

theorem witness_GalleryAndDisplay : 3 ≤ (gal 1 3).dev.mode.code ∧ ((gal 1 3).start.plainWrite 0x700000 5).galCheck.galVideo = true ∧ ((gal 1 1).start.plainWrite 0x700000 5).galCheck.galVideo = false ∧
    ((gal 1 1).start.plainWrite 0x700000 5).galCheck.composing = false ∧ (gal 0 0).start.galRuns = true ∧ (gal 0 0).dev.flag R.GAL_STATUS_HPD = false ∧ (gal 1 3).dev.flag R.GAL_STATUS_HPD = true ∧ (gal 1 3).start.galVideo = true ∧
    (gal 1 2).dev.fld R.GAL_STATUS_LINK = 2 ∧ ((gal 1 2).start.linkCandidates.find? fun x => [(2, 3)].contains x) = some (2, 3) ∧ ((gal 1 2).start.linkCandidates.find? fun x => ([] : List (Nat × Nat)).contains x) = none ∧
    (gal 1 4).dev.fld R.GAL_STATUS_LINK = 4 ∧ (gal 1 3).dev.gal.underrun = false := by decide +kernel

/-- Queue pair 3 of the physical function: 16 entries each way, with bus mastering. -/
def pair (sq cq : Nat) (q : Queue) (f : Dev → Dev) : State := st .inspect fun d => put (R.QUE_SQ_CFG_ENABLE 3) sq (put (R.QUE_SQ_CFG_SIZE_LOG2 3) 4 (put (R.QUE_CQ_CFG_ENABLE 3) cq (put (R.QUE_CQ_CFG_SIZE_LOG2 3) 4
  (put (R.QUE_CQ_COAL_COAL_US 3) 10 (put (R.QUE_CQ_CFG_IRQ_EN 3) 1 (put R.GLB_HOST_STATUS_LINK_UP 1 (f { d with host := { d.host with queues := [(3, q)], pcie := { d.host.pcie with bme := [0, 5] } } })))))))

theorem witness_QueuePairs : 3 ≤ (pair 1 1 {} id).dev.mode.code ∧ (pair 1 1 {} id).start.pairOf (0 : Fin 64) (3 : Fin 16384) = some 3 ∧ (pair 1 1 {} id).dev.flag (R.QUE_SQ_CFG_ENABLE 3) = true ∧
    (15 : BitVec 16).toNat < Machine.sizeOf ((pair 1 1 {} id).dev.fld (R.QUE_SQ_CFG_SIZE_LOG2 3)) ∧ Machine.sizeOf ((pair 1 1 {} id).dev.fld (R.QUE_SQ_CFG_SIZE_LOG2 3)) ≤ (16 : BitVec 16).toNat ∧
    (pair 0 0 {} id).dev.flag (R.QUE_SQ_CFG_ENABLE 3) = false ∧ (pair 0 0 {} id).dev.flag (R.QUE_CQ_CFG_ENABLE 3) = false ∧ (pair 1 1 {} id).dev.flag (R.QUE_CQ_CFG_ENABLE 3) = true ∧
    ringDist 16 0 (2 : BitVec 16).toNat ≤ ringDist 16 0 ((pair 1 1 {} (put (R.QUE_CQ_STATUS_CQ_TAIL 3) 2)).dev.fld (R.QUE_CQ_STATUS_CQ_TAIL 3)) ∧
    (pair 1 1 { tail := 1 } id).start.mayFetch 3 = true ∧ (pair 1 1 { tail := 1 } id).start.fetchTurn 3 = true ∧ (pair 1 1 {} id).start.mayFetch 3 = false ∧
    ((pair 1 1 { waiting := [entry0] } id).start.queue 3).waiting = [entry0] ∧ (pair 1 1 { waiting := [entry0] } id).start.cqRoom 3 = true ∧
    ((pair 1 1 { unsignalled := 1 } id).start.queue 3).unsignalled ≠ 0 ∧ (pair 1 1 {} id).dev.fld (R.QUE_CQ_COAL_COAL_US 3) ≠ 0 ∧ (pair 1 1 {} id).dev.flag (R.QUE_CQ_CFG_IRQ_EN 3) = true ∧
    sizeOk (bits 0x101 4 5) = true ∧ bitOf 0x101 0 = true := by decide +kernel

def vectors (un pend masked : List Nat) : State := st .standby fun d => { d with host := { d.host with pcie := { d.host.pcie with unmasked := un, pendingVec := pend, masked := masked } } }

theorem witness_PcieFunctions : (2047 : Fin 2048).val < vectorsOf (0 : Fin 64) ∧ (63 : Fin 2048).val < vectorsOf (63 : Fin 64) ∧ 2047 ∉ (vectors [] [] []).dev.host.pcie.pendingVec ∧ 2047 ∈ (vectors [] [2047] []).dev.host.pcie.pendingVec ∧
    (0 : Nat) ∉ (vectors [] [2047] []).dev.host.pcie.masked ∧ (63 : Fin 64).val ≠ 0 ∧ 2 ≤ (st .recovery id).dev.mode.code ∧ (st .standby id).dev.mode ≠ .recovery := by decide

/-- A command at the front of its queue, with its context, its operands and some changes. -/
def cmdState (m : Mode) (c : HostCmd) (ctxs : Tbl (Option Ctx)) (f : Dev → Dev) : State := st m fun d => f { d with host := { d.host with fetched := [c], ctxs := ctxs } }
def started (op : Nat) (arg spec : List Byte) : HostCmd := hostCmd op arg spec (some 0)

theorem mayStart_of {s : State} {op : Nat} {c : HostCmd} (h : (decide (s.start.nextCmd 0 [op] = some c) && (decide (c.fn = 0) || opVf op) && !c.bad) = true) : Machine.mayStart s.start 0 op c := by
  simpa [Machine.mayStart, and_assoc] using h

theorem witness_HostCommandChecks : (Instr.opStatus 0, 0x1B) ∈ Machine.hostOps 0 0 [] ∧ (st .standby id).start.nextCmd 0 [0x1B] = none ∧
    (cmdState .standby { started 0x16 [] [] with fn := 5 } [] id).start.nextCmd 0 [0x16] = some { started 0x16 [] [] with fn := 5 } ∧ opVf 0x16 = false ∧ opVf 0x1B = true ∧
    (cmdState .standby { started 0x1B [] [] with bad := true } [] id).start.nextCmd 0 [0x1B] = some { started 0x1B [] [] with bad := true } ∧
    (pair 1 1 {} (put (R.QUE_CQ_CFG_IRQ_EN 3) 0)).dev.cqOf 3 = some 0 ∧ (pair 1 1 {} id).dev.cqRoom 3 = true := by decide +kernel

/-- The Attic runs with layer 0 of 4,096 columns. -/
def attic (d : Dev) : Dev := both R.BLV_CTRL_ENABLE 1 (both (R.BLV_LAYER_CFG_ENABLE 0) 1 (both R.BLV_STITCH_COLS 4096 { d with blv := { d.blv with ready := true, head := 7 } }))
def cropSpec (h : Nat) : List Byte := zeros 12 ++ leBytes 2 1 ++ leBytes 2 h
def sub22 : List Byte := [0, 0, 0, 0] ++ leBytes 4 4095 ++ leBytes 4 4095
def ctxs0 (c : HostCmd) : Tbl (Option Ctx) := [(0, some { cmd := c })]

theorem witness_ShortCommands : Machine.mayStart (cmdState .standby (started 0x01 [] []) [] id).start 0 0x01 (started 0x01 [] []) ∧ 4096 ≤ (started 0x01 [] []).len ∧
    Machine.mayStart (cmdState .standby (started 0x02 [1] []) [] id).start 0 0x02 (started 0x02 [1] []) ∧ (started 0x02 [1] []).argAt 0 1 ≤ 1 ∧
    Machine.mayStart (cmdState .standby (started 0x03 [4] []) [] id).start 0 0x03 (started 0x03 [4] []) ∧
    Machine.mayStart (cmdState .standby (started 0x04 [3, 1] []) [] id).start 0 0x04 (started 0x04 [3, 1] []) ∧ (started 0x04 [3, 1] []).argAt 0 1 ≤ 3 ∧ (started 0x04 [3, 1] []).argAt 1 1 ≤ 1 ∧
    Machine.mayStart (cmdState .standby (started 0x05 [] []) [] id).start 0 0x05 (started 0x05 [] []) ∧ (st .standby id).dev.mode.filters = false :=
  ⟨mayStart_of (by decide +kernel), by decide, mayStart_of (by decide +kernel), by decide, mayStart_of (by decide +kernel), mayStart_of (by decide +kernel), by decide, by decide, mayStart_of (by decide +kernel), by decide⟩

theorem witness_ShortCommands_crop : Machine.mayStart (cmdState .inspect (started 0x06 [0] (cropSpec 1)) [] attic).start 0 0x06 (started 0x06 [0] (cropSpec 1)) ∧ (cmdState .inspect (started 0x06 [0] (cropSpec 1)) [] attic).start.layerOn 0 = true ∧
    (started 0x06 [0] (cropSpec 1)).specAt 12 2 = 1 ∧ (started 0x06 [0] (cropSpec 1)).specAt 14 2 = 1 ∧ 0 + 1 ≤ (cmdState .inspect (started 0x06 [0] (cropSpec 1)) [] attic).start.stitchCols ∧
    (started 0x06 [0] (cropSpec 1)).specAt 14 2 ≤ (Dev.cropRows (cmdState .inspect (started 0x06 [0] (cropSpec 1)) [] attic).start 0 0 1 1 0).length ∧
    (Dev.cropRows (cmdState .inspect (started 0x06 [0] (cropSpec 1)) [] attic).start 0 0 1 1 0).flatten ≠ [] ∧
    (Dev.cropRows (cmdState .inspect (started 0x06 [0] (cropSpec 9)) [] attic).start 0 0 1 9 0).length < (started 0x06 [0] (cropSpec 9)).specAt 14 2 := ⟨mayStart_of (by decide +kernel), by decide +kernel⟩

def runCmd : HostCmd := started 0x07 [63] (zeros 32)
theorem witness_ShortCommands_dma : Machine.mayStart (cmdState .inspect runCmd [] (dmaMode 63 2 0 {})).start 0 0x07 runCmd ∧ runCmd.argAt 0 1 < 64 ∧ runCmd.argAt 1 1 ≤ 1 ∧ runCmd.argAt 2 6 = 0 ∧ leAt runCmd.spec 8 24 = 0 ∧
    (cmdState .inspect runCmd [] (dmaMode 63 2 0 {})).dev.fld (R.DMA_CH_CFG_MODE 63) = 2 ∧ (cmdState .inspect runCmd [] (dmaMode 63 2 0 {})).dev.fld (R.DMA_CH_CFG_BIND_SQ 63) = 0 ∧
    (cmdState .inspect runCmd [] (dmaMode 63 2 0 {})).start.dmaState 63 = 0 ∧ runCmd.specAt 0 8 % 64 = 0 ∧ (cmdState .inspect runCmd [] (dmaMode 63 2 1 {})).start.dmaState 63 = 1 ∧
    (cmdState .inspect runCmd [] (put (R.DMA_CH_CFG_BIND_SQ 63) 9)).dev.fld (R.DMA_CH_CFG_BIND_SQ 63) ≠ 0 ∧ runCmd.waits = false ∧ runCmd.fn = 0 ∧
    (cmdState .inspect { runCmd with waits := true } [] (dmaMode 63 2 1 {})).start.nextCmd 0 [0x07] = some { runCmd with waits := true } ∧ (cmdState .inspect { runCmd with waits := true } [] (dmaMode 63 2 1 {})).start.dmaState 63 ≠ 0 := ⟨mayStart_of (by decide +kernel), by decide +kernel⟩

def recSub : HostCmd := started 0x20 [] (leBytes 4 1000000 ++ [1])
def imgSub : HostCmd := started 0x22 [] sub22
def subbed (op : Nat) (c : HostCmd) : State := cmdState .inspect c [(1, some { cmd := started op [] (zeros 32), st := 3 })] attic
theorem witness_ShortCommands_subs : Machine.mayStart (cmdState .inspect recSub (ctxs0 recSub) id).start 0 0x20 recSub ∧ recSub.specAt 0 4 = 1000000 ∧ recSub.specAt 4 1 ≤ 1 ∧ (cmdState .inspect recSub (ctxs0 recSub) id).start.subsOf 0x20 = [] ∧
    Machine.mayStart (cmdState .inspect imgSub (ctxs0 imgSub) attic).start 0 0x22 imgSub ∧ imgSub.specAt 4 4 ≤ imgSub.specAt 8 4 ∧ imgSub.specAt 8 4 < (cmdState .inspect imgSub (ctxs0 imgSub) attic).start.stitchCols ∧
    Machine.mayStart (cmdState .inspect (started 0x21 [] []) [] id).start 0 0x21 (started 0x21 [] []) ∧ Machine.mayStart (cmdState .inspect (started 0x23 [] [15]) [] id).start 0 0x23 (started 0x23 [] [15]) ∧ (started 0x23 [] [15]).specAt 0 1 < 16 ∧
    Machine.mayStart (subbed 0x20 (started 0x24 [1] [])).start 0 0x24 (started 0x24 [1] []) ∧ (subbed 0x20 (started 0x24 [1] [])).start.bufFits { cmd := started 0x20 [] (zeros 32), st := 3 } 4096 = true ∧
    Machine.mayStart (subbed 0x20 (started 0x25 [1] [])).start 0 0x25 (started 0x25 [1] []) ∧ ((subbed 0x20 (started 0x25 [1] [])).start.ctx 1).map (·.st) = some 3 ∧ (subbed 0x20 (started 0x25 [9] [])).start.ctx 9 = none :=
  ⟨mayStart_of (by decide +kernel), by decide, by decide, by decide +kernel, mayStart_of (by decide +kernel), by decide, by decide +kernel, mayStart_of (by decide +kernel), mayStart_of (by decide +kernel), by decide, mayStart_of (by decide +kernel),
    by decide +kernel, mayStart_of (by decide +kernel), by decide +kernel, by decide +kernel⟩

/-- A long operation stands next in its queue, with its context. -/
def long (m : Mode) (op : Nat) (spec : List Byte) (f : Dev → Dev) : State := cmdState m (started op [] spec) (ctxs0 (started op [] spec)) f
def exportSpec : List Byte := [0] ++ zeros 15 ++ leBytes 4 1 ++ leBytes 4 0 ++ leBytes 4 63
def testSpec : List Byte := [1, 0, 0, 0] ++ leBytes 4 0x10000

theorem witness_LongOperations_start : Machine.mayStart (long .calibrate 0x10 [] (both R.CAL_EXT_CFG_WHITE_TARGET 1)).start 0 0x10 (started 0x10 [] []) ∧ (Machine.takeCmd (long .calibrate 0x10 [] id).start (started 0x10 [] [])).opBusy (started 0x10 [] []) = false ∧
    (long .calibrate 0x10 [] id).start.extAllowed = true ∧ (long .inspect 0x10 [] id).start.extAllowed = false ∧
    Machine.mayStart (long .standby 0x11 testSpec (put R.TST_DRT_SIZE 0x10000)).start 0 0x11 (started 0x11 [] testSpec) ∧ (started 0x11 [] testSpec).specAt 4 4 % 65536 + (started 0x11 [] testSpec).specAt 4 4 / 65536 ≤ (long .standby 0x11 testSpec (put R.TST_DRT_SIZE 0x10000)).start.drtBlocks ∧
    Machine.mayStart (long .inspect 0x12 exportSpec attic).start 0 0x12 (started 0x12 [] exportSpec) ∧ (started 0x12 [] exportSpec).specAt 24 4 < (long .inspect 0x12 exportSpec attic).start.stitchCols ∧ (started 0x12 [] exportSpec).specAt 16 4 ≠ 0 ∧
    (started 0x12 [] exportSpec).specAt 16 4 * rowSize (63 + 1 - 0) ((long .inspect 0x12 exportSpec attic).start.bpp 0) ≤ (started 0x12 [] exportSpec).len ∧
    Machine.mayStart (long .armed 0x13 [1] id).start 0 0x13 (started 0x13 [] [1]) ∧ (started 0x13 [] [1]).specAt 0 1 ≤ 1 ∧ Machine.mayStart (long .inspect 0x13 [1] id).start 0 0x13 (started 0x13 [] [1]) ∧
    Machine.mayStart (long .armed 0x14 [1, 2] id).start 0 0x14 (started 0x14 [] [1, 2]) ∧ (long .armed 0x14 [1, 2] id).dev.fld (bankState 1) ≠ bankActive ∧
    Machine.mayStart (long .armed 0x15 [] id).start 0 0x15 (started 0x15 [] []) ∧ Machine.mayStart (long .inspect 0x16 [15] (put (R.TST_STRIPE_STATE_STATE 16) 1)).start 0 0x16 (started 0x16 [] [15]) ∧
    (long .inspect 0x16 [15] (put (R.TST_STRIPE_STATE_STATE 16) 1)).start.spareReady.isSome = true :=
  ⟨mayStart_of (by decide +kernel), by decide +kernel, by decide +kernel, by decide +kernel, mayStart_of (by decide +kernel), by decide +kernel, mayStart_of (by decide +kernel), by decide +kernel, by decide, by decide +kernel, mayStart_of (by decide +kernel), by decide,
    mayStart_of (by decide +kernel), mayStart_of (by decide +kernel), by decide +kernel, mayStart_of (by decide +kernel), mayStart_of (by decide +kernel), by decide +kernel⟩

/-- A command about the operation of context 4. -/
def about (op : Nat) : HostCmd := hostCmd op (leBytes 2 4 ++ leBytes 2 7 ++ leBytes 2 0) [] none
def onOp (op : Nat) (y : Ctx) : State := cmdState .inspect (about op) [(4, some y)] id
theorem witness_LongOperations_other : (Machine.takeCmd (onOp 0x18 (ctx0 0x12 1 0)).start (about 0x18)).target (about 0x18) = some (4, ctx0 0x12 1 0) ∧ Machine.mayStart (onOp 0x18 (ctx0 0x12 1 0)).start 0 0x18 (about 0x18) ∧
    (onOp 0x18 (ctx0 0x12 1 0)).start.begun 4 = true ∧ suspendable (ctx0 0x12 1 0) = true ∧ suspendable (ctx0 0x14 1 0) = true ∧ suspendable (ctx0 0x15 1 0) = false ∧ Machine.mayStart (onOp 0x19 (ctx0 0x12 2 0)).start 0 0x19 (about 0x19) ∧
    Machine.mayStart (onOp 0x1B (ctx0 0x12 1 0)).start 0 0x1B (about 0x1B) ∧ Machine.mayStart (onOp 0x1A (ctx0 0x12 1 8)).start 0 0x1A (about 0x1A) ∧ (ctx0 0x12 1 8).phase < 9 ∧ (about 0x1A).ctx = none ∧
    (Machine.takeCmd (cmdState .inspect (about 0x1B) [] id).start (about 0x1B)).target (about 0x1B) = none :=
  ⟨by decide +kernel, mayStart_of (by decide +kernel), by decide +kernel, by decide, by decide, by decide, mayStart_of (by decide +kernel), mayStart_of (by decide +kernel), mayStart_of (by decide +kernel), by decide, by decide, by decide +kernel⟩

def replayCtx (phase src done : Nat) : Ctx := { ctx0 0x13 1 phase with keep := [src, 1], done := done }
def replaying (m : Mode) (y : Ctx) : State := st m fun d => attic { d with host := { d.host with ctxs := [(0, some y)] } }
theorem witness_LongOperations_steps : (replaying .armed (replayCtx 0 1 0)).start.replayIn 0 = some (0, replayCtx 0 1 0) ∧ (replayCtx 0 1 0).keep.getD 0 0 = 1 ∧ (replaying .inspect (replayCtx 0 1 0)).start.replayIn 0 = some (0, replayCtx 0 1 0) ∧
    (replaying .replay (replayCtx 1 1 0)).start.replayIn 1 = some (0, replayCtx 1 1 0) ∧ (replaying .replay (replayCtx 1 0 0)).start.atticReplay = true ∧ (replayCtx 1 0 1).keep.getD 1 0 ≤ (replayCtx 1 0 1).done ∧
    (replaying .replay (replayCtx 1 0 0)).start.atticRow 8 = none ∧ ((replaying .replay (replayCtx 1 0 0)).start.atticRow 0).isSome = true ∧ (replaying .replay (replayCtx 2 0 0)).start.replayIn 2 = some (0, replayCtx 2 0 0) ∧
    (replaying .inspect { ctx0 0x12 1 0 with keep := [0, 2, 0, 0] }).start.attHolds 0 = true ∧ ((replaying .inspect (ctx0 0x12 1 0)).start.imageRow 0 0 0 0 0).isSome = true := by decide +kernel

/-- DMA channel 63 in REGISTER mode, in a state, with the host's link up. -/
def chanState (state : Nat) (c : DmaChan) : State := st .inspect fun d => put R.GLB_HOST_STATUS_LINK_UP 1 (dmaMode 63 1 state c { d with host := { d.host with pcie := { d.host.pcie with bme := [0] } } })
/-- A descriptor that fills 64 bytes of DRAM, and the same with a reserved bit set. -/
def desc0 : List Byte := fit 64 (zeros 16 ++ leBytes 4 64 ++ leBytes 4 0 ++ leBytes 4 1 ++ leBytes 4 64 ++ leBytes 4 0 ++ leBytes 4 1)
def descHost : List Byte := fit 64 (zeros 52 ++ leBytes 4 2)

theorem witness_DmaChains : (chanState 0 {}).start.dmaState 63 = 0 ∧ 3 ≤ (chanState 0 {}).dev.mode.code ∧ (chanState 1 {}).start.dmaState 63 = 1 ∧ ((chanState 1 {}).start.chan 63).startPending = false ∧
    ((chanState 1 { startPending := true }).start.chan 63).startPending = true ∧ (chanState 2 {}).start.dmaState 63 = 2 ∧ ((chanState 1 { host := true, limit := 1 }).start.chan 63).desc = none ∧
    (chanState 1 { host := true, limit := 1 }).start.hostUp = true ∧ (chanState 1 { host := true, limit := 0 }).start.descCheck 63 0 desc0 = some (0x2003, 0) ∧ (st .inspect (dmaMode 63 1 1 {})).start.hostUp = false ∧
    (descOf descHost).srcHost = true ∧ (descOf desc0).srcHost = false ∧ (descOf desc0).dstHost = false ∧ (descOf desc0).event = false ∧ (descOf desc0).last = false ∧ ((chanState 1 {}).start.chan 63).ctx = none := by decide +kernel

/-- A Doorway with one request, DRAM channels trained. -/
def doorState (x : Nat) (y : Door) (m : MemState → MemState) : State := st .inspect fun d => put R.MEM_STATUS_TRAINED 0xFFFF { d with mem := m { doors := [(x, y)] } }
def doorReq (n : Nat) : DoorReq := { who := 22, addr := 0, bytes := n }

theorem witness_MemoryControllers : let s := doorState 15 { waiting := [doorReq 64] } id; let t := doorState 18 { grant := some (doorReq 64, 32), lock := some { made := 1, since := 0, first := 0, last := 63 } } id
    (doorState 0 {} id).start.door 0 = {} ∧ (s.start.door 15).waiting = [doorReq 64] ∧ (s.start.door 15).grant = none ∧ (s.start.door 15).lock = none ∧ (doorReq 64).bytes ≤ 64 ∧
    (t.start.door 18).grant = some (doorReq 64, 32) ∧ (t.start.door 18).lock.isSome = true ∧ ((s.start.door 15).waiting.find? fun q => decide (q.who = 22)) = some (doorReq 64) ∧ s.dev.mem.starved.contains 22 = false ∧ (∀ p ∈ s.start.raisedBy 15 22, (doorReq 64).since ≤ p.since) ∧
    s.dev.flag (Fld.bit R.MEM_STATUS_TRAINED 15) = true ∧ max (-8) (tget 0 s.dev.mem.lag 511 + 1 - (9 : Int)) < 8 ∧ (8 : Int) ≤ max (-8) (tget 0 (doorState 15 {} fun m => { m with lag := [(511, 8)] }).dev.mem.lag 511 + 1 - (1 : Int)) ∧
    (doorState 15 {} fun m => { m with stepsWait := [15] }).dev.mem.stepsWait.contains 15 = true ∧ (doorState 15 {} id).start.doorQuiet 15 = true ∧ s.dev.fld R.MEM_STATUS_TRAINED ≠ 0 ∧ s.dev.mem.stepsWait.contains 15 = false ∧
    (1024 : Nat) ≤ tget 0 (doorState 15 {} fun m => { m with c0Slots := [(15, 1024)] }).dev.mem.c0Slots 15 ∧ requesterAt 0 95 = true ∧ requesterAt 0 25 = true ∧ 3 ≤ s.dev.mode.code := by decide +kernel

/-- All tags that requester 32 may hold are out. -/
theorem witness_MemoryControllers_tags : let s := doorState 16 { waiting := [{ doorReq 64 with who := 32, untagged := true }] } fun m => { m with tags := List.replicate 256 ⟨32, true⟩ }
    (s.start.door 16).waiting = [{ doorReq 64 with who := 32, untagged := true }] ∧ (s.start.door 16).grant = none ∧ s.start.tagFor 32 = none := by decide +kernel

/-- The part in the Foyer with a boot record. -/
def foyer (bad : Bool) (rec_ : List Byte) : State := st .foyer fun d => { d with cfg := { d.cfg with foyerBad := bad }, svc := { d.svc with record := rec_ } }

theorem witness_PlatformEvents : (st .inspect id).dev.mode.framed = true ∧ 2 ∉ (st .standby id).dev.plat.lost ∧ State.reset.dev.mode = .reset ∧ (st .standby id).dev.mode ≠ .reset ∧
    (foyer true []).dev.mode = .foyer ∧ (foyer true []).dev.cfg.foyerBad = true ∧ (foyer false []).dev.rec_ 89 1 % 2 = 0 ∧ (foyer false (zeros 89 ++ [1])).dev.rec_ 89 1 % 2 = 1 ∧
    (foyer false []).start.bootRecipe.2 = false ∧ (foyer false (zeros 89 ++ [1])).start.bootRecipe.2 = false := by decide +kernel

/-- The part unlocked for debugging, with some rights. -/
def unlocked (rights : Nat) (f : Dev → Dev) : State := st .inspect fun d => put R.TST_DBG_STATUS_UNLOCKED 1 (put R.TST_DBG_STATUS_RIGHTS rights (f d))
def testing : State := st .inspect fun d => put R.TST_DRT_CFG 1 (put R.TST_DRT_SIZE 65536 { d with tst := { d.tst with drt := 1023 } })

theorem witness_DebugAndTests : (unlocked 2 id).dev.dbgRight 1 = true ∧ (unlocked 1 id).dev.dbgRight 1 = false ∧ (unlocked 1 id).dev.dbgRight 0 = true ∧ (st .inspect id).dev.dbgRight 0 = false ∧ State.reset.dev.mode = .reset ∧
    (unlocked 1 (put R.TST_TMUX_CTRL_ENABLE 1)).dev.flag R.TST_TMUX_CTRL_ENABLE = true ∧ 3 ≤ (unlocked 1 id).dev.mode.code ∧ leAt (wordBytes ((List.range 40).map fun i => (((unlocked 1 id).start.setReg 0xD0069C 0).reg (0x00D00600 + 4 * i)).toNat)) 0 4 ≠ 0x54474244 ∧
    testing.dev.fld R.TST_DRT_CFG ≠ 0 ∧ testing.start.drtBlocks * 1024 ≠ 0 ∧ testing.start.doorQuiet (testing.start.channelOf (1023 * 64)) = true ∧ firstDiff (drtPattern 65472 0 false) (zeros 64) = some 0 ∧
    (st .inspect (put (R.KSL_LANE_STATUS_SIGNAL 111) 1)).start.laneReceives 111 = true ∧ (0 : Nat) < (st .inspect (put R.TST_EYE_LIMIT_EYE_W_MIN 1)).dev.fld R.TST_EYE_LIMIT_EYE_W_MIN := by decide +kernel

/-- The rotation in a phase, with a stripe in a state. -/
def rotState (phase n state : Nat) (r : RotState) : State := st .inspect fun d => put R.TST_ROT_STATUS_PHASE phase (put (R.TST_STRIPE_STATE_STATE n) state { d with rot := r })
def dueRot : State := st .inspect fun d => put R.TST_ROT_CTRL_ROTATE_EN 1 (put R.TST_ROT_CTRL_ROTATE_PERIOD 60 { d with rot := { from_ := 1, last := some 15 } })
def stalled : State := st .inspect fun _ => { rowState.dev with rot := { rowState.dev.rot with stallAt := [(15, 5)] } }

theorem witness_RotationRows : (rotState 0 16 3 {}).start.stripeState 16 = 3 ∧ (rotState 0 16 3 {}).start.stripeTest = none ∧ (rotState 0 16 3 {}).dev.rot.again = none ∧ ¬((rotState 0 16 3 {}).start.rotPhase = 5) ∧
    (rotState 0 0 0 {}).start.stripeState 0 ≠ 4 ∧ (rotState 0 0 0 {}).start.rotPhase ≠ 2 ∧ (rotState 0 0 0 {}).start.rotPhase ≠ 3 ∧ (rotState 0 15 0 {}).start.roleOf 15 = some 15 ∧
    stalled.start.roleOf 15 = some 15 ∧ tget 0 stalled.dev.rot.stallAt 15 ≠ 0 ∧ stalled.start.waitedAt stalled.dev.blv.nextRow 15 = true ∧
    dueRot.dev.flag R.TST_ROT_CTRL_ROTATE_EN = true ∧ dueRot.dev.fld R.TST_ROT_CTRL_ROTATE_PERIOD ≠ 0 ∧ dueRot.start.scheduled = false ∧ dueRot.start.nextRole = 0 ∧
    (rotState 4 16 0 { source := 16 }).start.rotPhase = 4 ∧ (rotState 4 16 0 { source := 16 }).start.switchDone = true ∧ (rotState 4 16 4 { source := 16 }).start.stripeState 16 = 4 ∧ (rotState 4 16 4 { source := 16 }).start.switchDone = true ∧
    (rotState 4 16 0 { source := 16 }).start.stripeState 16 ≠ 4 := by decide +kernel

/-- A seam port in a stage. -/
def portState0 (k stage : Nat) (x : SeamPort) (f : Dev → Dev) : State := st .discover fun d => put (R.KSL_PORT_STATUS_STAGE k) stage (f { d with seam := [(k, x)] })
/-- Lane 2 of port 1 is trained, with the sets of the second form. -/
def trained : SeamPort := { present := [2], order := [2], lanes := [(2, { count := 8, second := 8 })], sent := 16 }

theorem witness_SeamPorts_lanes : receiveLane 111 = true ∧ receiveLane 63 = true ∧ seamRxOf 111 = some (1, 7) ∧ seamRxOf 88 = some (0, 0) ∧ (st .discover id).start.laneAsleep 111 = false ∧ 3 ≤ (st .discover id).dev.mode.code ∧
    ((st .discover id).start.baseWrite 0 (0xA04000 + 0x20 * 111) (0 ||| 0x100)).flag (R.KSL_LANE_CFG_ALIGN 111) = false ∧ (∃ v : BitVec 32, ((st .discover id).start.baseWrite 0 (0xA04000 + 0x20 * 111) (v.toNat ||| 0x100)).flag (R.KSL_LANE_CFG_ALIGN 111) = true) ∧
    0 < (st .discover (put (R.KSL_LANE_SLIP_PENDING 111) 63)).dev.fld (R.KSL_LANE_SLIP_PENDING 111) ∧ 7 ∉ ((st .discover id).dev.seamPort 1).order ∧ 7 ∈ ((portState0 1 5 { order := [7] } id).dev.seamPort 1).order ∧
    (portState0 1 5 { order := [7] } id).dev.stage 1 = 5 ∧ (portState0 1 3 { order := [7] } id).dev.stage 1 = 3 :=
  ⟨by decide, by decide, by decide, by decide, by decide, by decide, by decide, ⟨0xFFFFFFFF, by decide⟩, by decide⟩

theorem witness_SeamPorts : (portState0 1 1 {} id).start.stage 1 = 1 ∧ ((List.range 8).filter fun i => ([(7 : Fin 8)].map Fin.val).contains i) ≠ [] ∧ (portState0 1 2 {} id).start.stage 1 = 2 ∧ ((portState0 1 2 {} id).start.seamPort 1).phase = 0 ∧
    ((((portState0 1 2 {} id).start.noteWidth 1).seamPort 1).order = []) ∧ ((((portState0 1 2 trained id).start.noteWidth 1).seamPort 1).order ≠ []) ∧
    (∀ i ∈ (((portState0 1 2 trained id).start.noteWidth 1).seamPort 1).order, 8 ≤ ((((portState0 1 2 trained id).start.noteWidth 1).seamPort 1).rx i).second) ∧ 16 ≤ (((portState0 1 2 trained id).start.noteWidth 1).seamPort 1).sent + 0 ∧
    (((portState0 1 2 trained id).start.noteWidth 1).seamPort 1).target < 2 ∧ 2 ≤ (((portState0 1 2 { trained with target := 3 } id).start.noteWidth 1).seamPort 1).target ∧
    ((portState0 1 2 { phase := 1 } id).start.seamPort 1).order = [] ∧ ((({ trained with phase := 2 } : SeamPort).order.all fun i => (({ trained with phase := 2 } : SeamPort).rx i).eqDone && (portState0 1 2 { trained with phase := 2 } id).start.eqOwn 1 i) = false) ∧
    (portState0 1 3 {} id).start.stage 1 = 3 ∧ (portState0 1 4 {} (put (R.KSL_PORT_STATUS_MISMATCH 1) 1)).start.stage 1 = 4 ∧ (portState0 1 4 {} (put (R.KSL_PORT_STATUS_MISMATCH 1) 1)).dev.flag (R.KSL_PORT_STATUS_MISMATCH 1) = true ∧
    (portState0 1 5 {} (put (R.KSL_PORT_CFG_DOZE_EN 1) 1)).dev.flag (R.KSL_PORT_CFG_DOZE_EN 1) = true ∧ (portState0 1 5 {} id).dev.fld (R.KSL_PORT_STATUS_TX_PWR 1) = 0 ∧ ((portState0 1 5 {} id).start.seamPort 1).unacked = [] ∧
    (portState0 1 5 {} id).dev.fld (R.KSL_PORT_STATUS_RX_PWR 1) = 0 ∧ (portState0 1 5 {} (put (R.KSL_PORT_STATUS_RX_PWR 1) 1)).dev.fld (R.KSL_PORT_STATUS_RX_PWR 1) = 1 ∧ ((portState0 1 5 { wakeAt := some 9 } id).start.seamPort 1).wakeAt = some 9 ∧
    (portState0 1 3 {} id).dev.fld (R.KSL_PORT_STATUS_RATE 1) ≤ 1 ∧ 2 ≤ (portState0 1 3 {} (put (R.KSL_PORT_STATUS_RATE 1) 3)).dev.fld (R.KSL_PORT_STATUS_RATE 1) ∧
    (portState0 1 4 {} id).dev.flag (R.KSL_PORT_STATUS_MISMATCH 1) = false := by decide +kernel

theorem witness_PacketReception : let d := (linked id).dev
    (st .discover id).dev.stage 1 < 4 ∧ 4 ≤ d.stage 1 ∧ (portState0 1 4 {} id).dev.stage 1 = 4 ∧ (portState0 1 4 {} id).dev.carries 1 PT.yield = false ∧ d.carries 1 PT.cap = true ∧ ({ pk [] with framed := false } : RxPacket).framed = false ∧ (pk []).framed = true ∧ ((linked fun d => { d with seam := [(1, { ignoring := true })] }).dev.seamPort 1).ignoring = true ∧
    (pk []).sds = false ∧ (d.seamPort 1).ignoring = false ∧ reliable PT.cap = true ∧ ({ pk [] with crcOk := false } : RxPacket).crcOk = false ∧ (pk []).crcOk = true ∧ (pk []).lseq = (d.seamPort 1).rxSeq + 1 ∧ partnerOnly PT.cap = true ∧
    reliable PT.commit = true ∧ partnerOnly PT.commit = false ∧ d.carries 1 PT.commit = true ∧ (pk []).dst = d.ownPos ∧ (pk []).bcast = false ∧ ({ pk [] with dst := 7 } : RxPacket).dst ≠ d.ownPos ∧
    (1 + 65535 - 0) % 65536 < 32768 ∧ 32768 ≤ (1 + 65535 - ({ pk [] with lseq := 2 } : RxPacket).lseq) % 65536 ∧ reliable PT.border = false ∧ partnerOnly PT.border = true ∧ reliable PT.yield = false ∧ partnerOnly PT.yield = false ∧ d.carries 1 PT.yield = true := by decide +kernel

theorem witness_SeamPackets : (∃ x, (linked id).start.rxPacket 1 PT.cap (pk (zeros 32)) = (x, true)) ∧ (∃ x, (linked id).start.rxPacket 1 PT.ack (pk (zeros 4)) = (x, true)) ∧ (∃ x, (linked id).start.rxPacket 1 PT.linkinfo (pk (zeros 32)) = (x, true)) ∧
    (∃ x, (linked id).start.rxPacket 1 PT.sync (pk (zeros 16)) = (x, true)) ∧ (∃ x, (linked id).start.rxPacket 1 PT.syncReq (pk (zeros 8)) = (x, true)) ∧ (∃ x, (linked id).start.rxPacket 1 PT.commit (pk (zeros 24)) = (x, true)) ∧
    (∃ x, (linked id).start.rxPacket 1 PT.commitResult (pk (zeros 8)) = (x, true)) ∧ (∃ x, (linked id).start.rxPacket 1 PT.border (pk (zeros 40)) = (x, true)) ∧ (∃ x, (linked id).start.rxPacket 1 PT.yield (pk (zeros 16)) = (x, true)) :=
  ⟨⟨_, rfl⟩, ⟨_, rfl⟩, ⟨_, rfl⟩, ⟨_, rfl⟩, ⟨_, rfl⟩, ⟨_, rfl⟩, ⟨_, rfl⟩, ⟨_, rfl⟩, _, rfl⟩

def packet0 : Packet := { ptype := PT.sync, src := 0, dst := 0, bcast := false, lseq := 1, hops := 0, epoch := 0, payload := [] }
/-- A LINKINFO of device 7 in INSPECT that says it is the master. -/
def info7 : List Byte := [7, 0, 0, 6, 3] ++ zeros 27

theorem witness_SeamPackets_ops : ((portState0 1 5 { unacked := [(packet0, 3)] } id).start.seamPort 1).unacked = [(packet0, 3)] ∧ ((portState0 1 5 { unacked := [(packet0, 3)] } id).start.seamPort 1).replays < 16 ∧
    16 ≤ ((portState0 1 5 { unacked := [(packet0, 3)], replays := 16 } id).start.seamPort 1).replays ∧ ((portState0 1 5 { unacked := [(packet0, 3)] } id).start.advance (3 + usCycles 20)).fld (R.KSL_PORT_POWER_TX_FORCE 1) ≠ 1 ∧
    ((portState0 1 5 { unacked := [(packet0, 3)] } (put (R.KSL_PORT_POWER_TX_FORCE 1) 1)).start.advance (3 + usCycles 20)).fld (R.KSL_PORT_POWER_TX_FORCE 1) = 1 ∧ (((portState0 1 5 { unacked := [(packet0, 3)] } id).start.advance (3 + usCycles 20)).seamPort 1).unacked ≠ [] ∧
    (portState0 1 5 { held := true } (put R.KSL_CASCADE_FIXED 1)).dev.flag R.KSL_CASCADE_FIXED = true ∧ ((portState0 1 5 { held := true } (put R.KSL_CASCADE_FIXED 1)).dev.seamPort 1).held = true ∧
    (linked fun d => { d with cfg := { d.cfg with waits := [{ token := 1, whos := [], refused := [], answered := [], doneAt := 0, fp := 0, epoch := 0 }] } }).dev.cfg.waits.length = 1 ∧
    (portState0 1 3 {} id).dev.stage 1 < 4 ∧ 4 ≤ (linked id).dev.stage 1 ∧ (portState0 1 4 {} id).dev.stage 1 = 4 ∧ 
    (portState0 1 4 {} id).dev.flag R.KSL_CASCADE_FIXED = false ∧ ((linked id).dev.seamPort 1).waiting = [] ∧ leAt (zeros 27 ++ [0xC0]) 24 4 / 2 ^ 30 = 3 ∧ leAt info7 24 4 / 2 ^ 30 ≠ 3 ∧ leAt info7 0 1 < 8 ∧
    bitOf (leAt info7 4 1) 1 = true ∧ ((linked id).dev.linkinfoReceive 1 1 info7).2 = true ∧ (linked id).dev.isSlave = true ∧ (linked (put R.POS_STATUS_MASTER 1)).dev.isSlave = false ∧ ((linked id).dev.setSync 3).opsOf 0x05 = [] ∧
    (linked id).dev.mode.filters = true ∧ (3 : Nat) < (linked fun d => { d with blv := { d.blv with nextRow := 4 } }).dev.blv.nextRow ∧ (portState0 1 4 {} id).dev.mode.framed = false ∧ (linked id).dev.mode.framed = true ∧
    (0 : Nat) ≤ (linked id).dev.pos.linesPassed ∧ (linked id).dev.pos.linesPassed < leAt (leBytes 16 1) 0 8 ∧ leAt (leBytes 16 1) 12 1 ≠ 1 ∧ (linked id).dev.cfg.waits = [] ∧ (borderOf (leBytes 40 3)).line < (linked fun d => { d with blob := { nextRow := 4 } }).dev.blob.nextRow ∧
    (linked id).dev.blob.nextRow ≤ (borderOf (leBytes 40 3)).line ∧ (linked id).dev.blob.work = none ∧ (yieldOf (leBytes 16 3)).1 < (linked fun d => { d with blob := { nextRow := 4 } }).dev.blob.nextRow ∧
    (linked id).dev.blob.nextRow ≤ (yieldOf (leBytes 16 3)).1 ∧ (linked id).dev.blob.yields = [] := by decide +kernel

/-- A CAP whose cascade size is another one is refused, whatever the site of the part is. -/
theorem witness_SeamPackets_cap : ∃ code, (portState0 1 4 {} id).dev.capCode 1 (zeros 7 ++ [0xFF]) = some code := by
  have h : leAt (zeros 7 ++ [0xFF]) 7 1 ≠ (portState0 1 4 {} id).dev.live R.KSL_CTRL_CASCADE_SIZE := by decide
  unfold Machine.Dev.capCode
  dsimp only
  split
  · exact ⟨_, rfl⟩
  · exact ⟨_, if_pos (.inl h)⟩

/-- Four bytes of a number below 2³² spell it. -/
theorem leNat_leBytes4 {n : Nat} (h : n < 2 ^ 32) : leNat (leBytes 4 n) = n := by
  simp only [leBytes, leNat, BitVec.toNat_ofNat]; omega

theorem devicePlace_small (d : Dev) : d.devicePlace < 2 ^ 32 := by
  have h1 := Config.line.isLt
  have h2 := Config.cascade.isLt
  simp only [Machine.Dev.devicePlace, Machine.Dev.place, Machine.Dev.siteBits]; omega

/-- A CAP of the partner East that agrees is accepted, whatever the site of the part is. -/
theorem witness_SeamPackets_agrees : let d := (portState0 1 4 {} id).dev
    d.capCode 1 (zeros 7 ++ [1] ++ leBytes 4 d.devicePlace ++ leBytes 4 262144 ++ zeros 4 ++ leBytes 4 400 ++ zeros 4) = none := by
  intro d
  have h : leAt (zeros 7 ++ [1] ++ leBytes 4 d.devicePlace ++ leBytes 4 262144 ++ zeros 4 ++ leBytes 4 400 ++ zeros 4) 8 4 = d.devicePlace := leNat_leBytes4 (devicePlace_small d)
  unfold Machine.Dev.capCode
  dsimp only
  rw [if_neg (by rw [h]; exact fun c => c rfl), if_neg (by decide), if_neg (by decide), if_neg (by decide), if_neg (by decide)]

/-- The Porch over the network with an open session, and a message that its host sends: TYPE, whether it is tagged, SEQ and payload. -/
def peer : Peer := { transport := 1 }
def session0 : Session := { transport := 1, id := 7, key := zeros 32, response := [1] }
def porch (x : SvcState → SvcState) : State := st .standby fun d => put R.SVC_STATUS_LINK_UP 1 { d with svc := x { d.svc with session := some session0 } }
def kspBody (type flags seq : Nat) (payload : List Byte) : List Byte :=
  leBytes 2 0x534B ++ [1] ++ leBytes 1 type ++ leBytes 1 flags ++ [0] ++ leBytes 2 payload.length ++ leBytes 4 7 ++ leBytes 4 seq ++ zeros 4 ++ payload
def kspTag (type flags seq : Nat) (payload : List Byte) : List Byte := if flags = 2 then (hmac (zeros 32) (kspBody type flags seq payload)).take 16 else []
def message (type flags seq : Nat) (payload : List Byte) : List Byte :=
  let all := kspBody type flags seq payload ++ kspTag type flags seq payload
  all ++ leBytes 4 (crc32 all)
def ksp (type flags seq : Nat) (payload : List Byte) : Ksp :=
  { type := type, response := decide (flags % 2 = 1), tagged := decide (flags = 2), session := 7, seq := seq, payload := payload, signed := kspBody type flags seq payload, tag := kspTag type flags seq payload }
/-- The message is read as this request (`requestOk`), and as the session's next one (`turnOk`). -/
def requestOk (s : State) (type : Nat) (payload : List Byte) : Bool :=
  decide (s.start.message peer (message type 0 0 payload) = some (ksp type 0 0 payload)) && decide (s.start.mode ≠ .foyer)
def turnOk (s : State) (type least : Nat) (payload : List Byte) : Bool :=
  decide (s.start.message peer (message type 2 1 payload) = some (ksp type 2 1 payload)) && decide (s.start.mode ≠ .foyer) && decide (s.start.svc.session = some session0) && decide (least ≤ payload.length)

theorem requests_of {s : State} {t : Nat} {bs : List Byte} (h : requestOk s t bs = true) : s.start.requests peer (message t 0 0 bs) t (ksp t 0 0 bs) := by
  simp only [requestOk, Bool.and_eq_true, decide_eq_true_eq] at h
  exact ⟨h.1, rfl, rfl, fun c => absurd c h.2⟩

theorem inTurn_of {s : State} {t n : Nat} {bs : List Byte} (h : turnOk s t n bs = true) : s.start.inTurn peer (message t 2 1 bs) t n (ksp t 2 1 bs) session0 := by
  simp only [turnOk, Bool.and_eq_true, decide_eq_true_eq] at h
  exact ⟨⟨h.1.1.1, rfl, rfl, fun c => absurd c h.1.1.2⟩, h.1.2, rfl, rfl, rfl, rfl, h.2⟩

theorem witness_PorchMessages : let d := (porch id).dev
    (st .standby id).dev.message peer (message 1 0 0 []) = none ∧ d.message peer (message 1 1 0 []) = some (ksp 1 1 0 []) ∧ d.message peer (message 0x30 0 0 []) = some (ksp 0x30 0 0 []) ∧ kspListed 0x30 = false ∧ kspListed 1 = true ∧
    d.message { transport := 2 } [0xC0] = none ∧ (st .foyer fun e => { d with mode := e.mode }).dev.message peer (message 4 0 0 []) = some (ksp 4 0 0 []) ∧ kspListed 4 = true ∧ d.svc.session = some session0 ∧ (st .standby id).dev.svc.session = none ∧
    (ksp 4 0 0 []).tagged = false ∧ (ksp 4 2 0 []).tagged = true ∧ (ksp 4 2 0 []).session = session0.id ∧ (ksp 4 2 0 []).tag = (hmac session0.key (ksp 4 2 0 []).signed).take 16 ∧ (ksp 4 2 0 []).seq = session0.seq ∧ session0.response ≠ [] ∧
    (ksp 4 2 9 []).seq ≠ (session0.seq + 1) % 2 ^ 32 ∧ (ksp 0x11 2 1 []).seq = (session0.seq + 1) % 2 ^ 32 ∧ (ksp 0x11 2 1 []).payload.length < 6 := by decide +kernel

theorem witness_PorchMessages_requests : requestOk (porch id) 4 [] = true := by decide +kernel

theorem witness_PorchSessions : requestOk (porch id) 1 [] = true ∧ requestOk (porch id) 2 [] = true ∧ requestOk (porch id) 2 (zeros 68) = true ∧ (porch id).dev.svc.session ≠ none ∧ (porch fun x => { x with session := none }).dev.svc.session = none ∧
    requestOk (porch fun x => { x with session := none }) 2 (zeros 68) = true ∧ (porch fun x => { x with session := none }).start.nonceNow = none := by decide +kernel

theorem witness_PorchSessions_turns : turnOk (porch id) 3 0 [] = true ∧ turnOk (porch id) 4 0 [] = true ∧ turnOk (porch id) 0x10 0 [] = true := by decide +kernel

def recovering : State := st .recovery fun d => { (porch id).dev with mode := d.mode }
theorem witness_PorchSessions_registers : turnOk (porch id) 0x11 6 (zeros 6) = true ∧ leAt (zeros 6) 4 2 = 0 ∧ turnOk (porch id) 0x11 6 (zeros 4 ++ [1, 0]) = true ∧ (porch id).start.porchReaches false 0 1 = true ∧
    turnOk recovering 0x11 6 (leBytes 4 0xD00000 ++ [1, 0]) = true ∧ recovering.start.porchReaches false 0xD00000 1 = false ∧
    turnOk (porch id) 0x12 8 (zeros 9) = true ∧ (zeros 9).length % 4 ≠ 0 ∧ turnOk (porch id) 0x12 8 (zeros 8) = true ∧ (porch id).start.porchReaches true 0 1 = true ∧ turnOk recovering 0x12 8 (zeros 8) = true ∧ recovering.start.porchReaches true 0 1 = false := by decide +kernel

theorem witness_PorchSessions_others : turnOk (porch id) 0x13 6 (zeros 6) = true ∧ turnOk (porch id) 0x13 6 (leBytes 4 0x3FFC00 ++ leBytes 2 1024) = true ∧ 0x3FFC00 + 1024 ≤ 0x400000 ∧
    turnOk (porch id) 0x14 4 (zeros 4) = true ∧ turnOk (porch id) 0x14 4 (leBytes 4 0x52535421) = true ∧ (porch id).dev.mode.framed = false ∧ (porch id).start.flashBusy = false ∧
    (porch id).dev.flag R.SVC_STATUS_LINK_UP = true ∧ (0x7F000001 : BitVec 32).toNat ≠ (porch id).dev.fld R.SVC_IP ∧ (0xC0A80001 : BitVec 32).toNat = (st .standby (put R.SVC_IP 0xC0A80001)).dev.fld R.SVC_IP := by decide +kernel

/-- A download for recipe slot 1: one chunk of 1 byte, its block complete. -/
def load0 : Download := { target := 1, slot := 1, len := 1, digest := zeros 32 }
def load1 : Download := { load0 with chunks := [(0, [5])] }
def fetching (x : Download) (f : Dev → Dev) : State := st .standby fun _ => f (porch fun z => { z with download := some x }).dev
def begin0 (target slot len : Nat) : List Byte := leBytes 1 target ++ leBytes 1 slot ++ [0, 0] ++ leBytes 4 len ++ zeros 32

theorem witness_PorchSessions_reset : turnOk (fetching load1 id) 0x14 4 (leBytes 4 0x52535421) = true ∧ (fetching load1 id).start.flashBusy = true ∧
    turnOk (st .inspect fun d => { (porch id).dev with mode := d.mode }) 0x14 4 (leBytes 4 0x52535421) = true := by decide +kernel

theorem witness_PorchUpdates_begin : turnOk (porch id) 0x20 40 (begin0 3 0 1) = true ∧ turnOk (porch id) 0x20 40 (begin0 1 1 1) = true ∧ (porch id).start.slotInactive 1 1 = true ∧ (porch id).dev.slotState 0 ≠ 2 ∧ (porch id).dev.slotState 1 ≠ 2 ∧ (porch id).dev.rec_ 89 1 % 2 ≠ 1 ∧
    turnOk (st .standby fun _ => put R.GLB_BOOT_RECIPE 1 (porch id).dev) 0x20 40 (begin0 1 1 1) = true ∧ (st .standby fun _ => put R.GLB_BOOT_RECIPE 1 (porch id).dev).start.slotInactive 1 1 = false ∧
    turnOk (porch fun x => { x with record := zeros 89 ++ [1] }) 0x20 40 (begin0 1 1 1) = true ∧ (porch fun x => { x with record := zeros 89 ++ [1] }).dev.rec_ 89 1 % 2 = 1 ∧
    turnOk (porch id) 0x20 40 (begin0 1 1 0xFFFFFFFF) = true ∧ (slotPlace 1 1).2 < 0xFFFFFFFF ∧ turnOk (fetching load0 id) 0x20 40 (begin0 1 2 1) = true ∧ turnOk (fetching load0 id) 0x20 40 (begin0 1 1 1) = true ∧ turnOk (fetching load0 id) 0x20 40 (begin0 1 1 2) = true := by decide +kernel

def load5 : Download := { target := 1, slot := 1, len := 400000, digest := zeros 32, chunks := [(0, [5]), (64, [5]), (128, [5]), (192, [5])] }
theorem witness_PorchUpdates_data : turnOk (porch id) 0x21 9 (zeros 9) = true ∧ (porch id).dev.svc.download = none ∧ turnOk (fetching load0 id) 0x21 9 (zeros 10) = true ∧ load0.len < 0 + 2 ∧ turnOk (fetching load0 id) 0x21 9 (zeros 9) = true ∧
    (load0.blocks.contains 0 || (load0.staged.contains 0 && load0.full 0)) = false ∧ (load1.blocks.contains 0 || (load1.staged.contains 0 && load1.full 0)) = true ∧ turnOk (fetching load1 id) 0x21 9 (zeros 9) = true ∧ 4 ≤ (load5.staged.filter fun c => !load5.full c).length ∧
    (load5.blocks.contains 4 || (load5.staged.contains 4 && load5.full 4)) = false ∧ (load5.staged.filter fun c => !load5.full c).contains 4 = false ∧ turnOk (fetching load5 id) 0x21 9 (leBytes 8 (4 * 65536) ++ [1]) = true ∧
    (load0.staged.filter fun c => !load0.full c).length < 4 ∧ (load1.staged.contains 0 && load1.full 0) = true ∧ ({ load1 with blocks := [0] } : Download).blocks.length = load1.blockCount := by decide +kernel

def checking (n : Nat) (x : Download) : State := fetching x fun d => put R.SVC_STATUS_UPD_STATE n { d with svc := { d.svc with verifying := some (peer, 9), trialEnd := some 5, healthyFrom := 0 } }
theorem witness_PorchUpdates_rest : turnOk (fetching load0 id) 0x22 0 [] = true ∧ turnOk (fetching { load0 with blocks := [0] } id) 0x23 0 [] = true ∧ ({ load0 with blocks := [0] } : Download).blocks.length = load0.blockCount ∧ (fetching load0 id).dev.svc.verifying = none ∧
    turnOk (porch id) 0x23 0 [] = true ∧ turnOk (fetching load0 id) 0x23 0 [] = true ∧ load0.blocks.length ≠ load0.blockCount ∧ (checking 3 load0).dev.svc.verifying = some (peer, 9) ∧
    turnOk (porch id) 0x24 1 [1] = true ∧ turnOk (fetching load0 id) 0x24 1 [1] = true ∧ (fetching load0 id).dev.fld R.SVC_STATUS_UPD_STATE ≠ 4 ∧ turnOk (checking 4 load0) 0x24 1 [7] = true ∧ turnOk (checking 4 load0) 0x24 1 [8] = true ∧ (checking 4 load0).dev.fld R.SVC_STATUS_UPD_STATE = 4 ∧
    turnOk (fetching load0 id) 0x25 0 [] = true ∧ (checking 4 load0).dev.svc.trialEnd = some 5 ∧ (checking 4 load0).dev.mode ≠ .foyer ∧ (checking 4 load0).dev.fld R.GLB_EPOCH = 0 ∧ (st .standby (put R.GLB_EPOCH 1)).dev.fld R.GLB_EPOCH ≠ 0 ∧
    (5 : Nat) < max (checking 4 load0).dev.time ((checking 4 load0).dev.svc.healthyFrom + usCycles (1000000 * (checking 4 load0).dev.holdSeconds)) := by decide +kernel

end Sys2Proof.Tests
end

section
/-!
SUPPORT. Accesses to the register file (R14 to R18, R20, R374): what a plain write makes of each bit of a word, what a read returns and changes, and the
statements of the scope chapter, O31 and O32.
-/
namespace Sys2Proof.Machine

/-! ### Bits of a word that a write changes -/

/-- Numbers that share no bit add without a carry. -/
theorem add_eq_or_of_and_eq_zero (x y : Nat) (h : x &&& y = 0) : x + y = x ||| y := by
  have hlt : x + y < 2 ^ (x + y) := Nat.lt_two_pow_self
  have hx : x % 2 ^ (x + y) = x := Nat.mod_eq_of_lt (by omega)
  have hy : y % 2 ^ (x + y) = y := Nat.mod_eq_of_lt (by omega)
  have hz : BitVec.ofNat (x + y) x &&& BitVec.ofNat (x + y) y = 0#(x + y) :=
    BitVec.eq_of_toNat_eq (by simp [hx, hy, h])
  have e := congrArg BitVec.toNat (BitVec.add_eq_or_of_and_eq_zero _ _ hz)
  rwa [BitVec.toNat_add, BitVec.toNat_or, BitVec.toNat_ofNat, BitVec.toNat_ofNat, hx, hy, Nat.mod_eq_of_lt hlt] at e

/-- Taking the bits under a mask away from a number. -/
theorem sub_and_eq_ldiff (x m : Nat) : x - (x &&& m) = Nat.ldiff x m := by
  have hz : (x &&& m) &&& Nat.ldiff x m = 0 :=
    Nat.eq_of_testBit_eq fun i => by cases h : m.testBit i <;> simp [Nat.testBit_ldiff, h]
  have hor : (x &&& m) ||| Nat.ldiff x m = x :=
    Nat.eq_of_testBit_eq fun i => by cases h : m.testBit i <;> simp [Nat.testBit_ldiff, h]
  have hadd := add_eq_or_of_and_eq_zero _ _ hz
  omega

@[simp] theorem testBit_sub_and (x m i : Nat) : (x - (x &&& m)).testBit i = (x.testBit i && !m.testBit i) := by
  rw [sub_and_eq_ldiff, Nat.testBit_ldiff]

/-- The bits under a mask taken from another number. -/
theorem testBit_replace (x v m i : Nat) : (x - (x &&& m) + (v &&& m)).testBit i = if m.testBit i then v.testBit i else x.testBit i := by
  have hz : (x - (x &&& m)) &&& (v &&& m) = 0 :=
    Nat.eq_of_testBit_eq fun j => by cases h : m.testBit j <;> simp [h]
  rw [add_eq_or_of_and_eq_zero _ _ hz]
  cases h : m.testBit i <;> simp [h]

/-- The bits of `v` under a mask are cleared, but for those of `k`. -/
theorem testBit_clear_but (x v m k i : Nat) :
    (x - ((x &&& v &&& m) - (x &&& v &&& m &&& k))).testBit i = (x.testBit i && !(v.testBit i && m.testBit i && !k.testBit i)) := by
  have e : (x &&& v &&& m) - (x &&& v &&& m &&& k) = x &&& Nat.ldiff (v &&& m) k :=
    Nat.eq_of_testBit_eq fun j => by simp [Nat.testBit_ldiff, Bool.and_assoc]
  rw [e]
  simp [Nat.testBit_ldiff]

/-! ### Plain writes -/

/-- R17, R20: what a plain write makes of each bit of its word. -/
theorem plainWrite_bits (d : Dev) (a v : Nat) (r : RegDesc) (hr : findDesc a = some r) :
    ∃ w : Word, d.plainWrite a v = d.setReg a w ∧
      ∀ i < 32, w.getLsbD i = (!r.clr.testBit i && !(v.testBit i && r.w1c.testBit i && !(d.setHere a).testBit i) &&
        (if r.rw.testBit i then v.testBit i else (d.reg a).getLsbD i)) := by
  refine ⟨_, by simp only [Dev.plainWrite, hr]; rfl, fun i hi => ?_⟩
  rw [BitVec.getLsbD_ofNat, testBit_sub_and, testBit_clear_but, testBit_replace, BitVec.testBit_toNat, decide_eq_true hi, Bool.true_and]
  ac_rfl

/-- A word without shadowed bits has nothing for a shadow group. -/
theorem baseWrite_of_rws_zero (d : Dev) (w a v : Nat) (r : RegDesc) (ht : inTap a = false) (hr : findDesc a = some r) (h : r.rws = 0) :
    d.baseWrite w a v = d.plainWrite a v := by
  have hm : rwsMask a = 0 := by simp [rwsMask, ht, hr, h]
  simp [Dev.baseWrite, Dev.shadowWrite, Dev.shadowWord, ht, hm]

/-- The blocks of which every word is written by its fields alone: the classifier, self-calibration, the service block and the stripes. -/
abbrev fieldBlock (b : Nat) : Prop := b = 6 ∨ b = 11 ∨ b = 12 ∨ (16 ≤ b ∧ b ≤ 32)

theorem inTap_of_fieldBlock {a : Nat} (h : fieldBlock (a / 0x100000)) : inTap a = false := by
  simp only [inTap, Bool.and_eq_false_iff, decide_eq_false_iff_not]
  omega

/-- A write of a word of these blocks without shadowed bits is a plain one. -/
theorem regWrite_of_fieldBlock (d : Dev) (w a v : Nat) (r : RegDesc) (h4 : a % 4 = 0) (hb : fieldBlock (a / 0x100000)) (hr : findDesc a = some r)
    (h : r.rws = 0) : d.regWrite w a v = d.plainWrite a v := by
  have ht := inTap_of_fieldBlock hb
  have hbase := baseWrite_of_rws_zero d w a v r ht hr h
  simp only [Dev.regWrite, h4, ht, hr, Option.isNone_some, ne_eq, not_true_eq_false, Bool.false_eq_true, if_false]
  split
  case h_13 => exact hbase
  all_goals omega

/-! ### Accesses -/

@[simp] theorem accessWords_four (a : Nat) (h : a % 4 = 0) : accessWords a 4 = [a] := by simp [accessWords, h]

/-- A write access of 4 bytes is a write of its word. -/
theorem barWrite_four (d : Dev) (w a v : Nat) (h4 : a % 4 = 0) (hv : v < 2 ^ 32) : d.barWrite w a 4 v = d.regWrite w a v := by
  rw [Dev.barWrite, if_neg (by omega), accessWords_four a h4, List.foldl_cons, List.foldl_nil, Nat.mod_eq_of_lt hv]

/-- Writing words that ignore every write changes nothing. -/
theorem foldl_regWrite_of_ignored (w : Nat) (l : List Nat) (h : ∀ b ∈ l, ∀ (x : Dev) (u : Nat), x.regWrite w b u = x) (p : Dev × Nat) :
    (l.foldl (fun (x : Dev × Nat) b => (x.1.regWrite w b (x.2 % 2 ^ 32), x.2 / 2 ^ 32)) p).1 = p.1 := by
  induction l generalizing p with
  | nil => rfl
  | cons b l ih =>
    rw [List.foldl_cons, ih (fun c hc => h c (List.mem_cons_of_mem b hc))]
    exact h b List.mem_cons_self _ _

/-- An access whose words ignore every write changes nothing; MD_OFFSET is the one value that a write of 8 bytes sets as a whole. -/
theorem barWrite_of_ignored (d : Dev) (w a size v : Nat) (hmd : ¬ (a = 0x100018 ∧ size = 8))
    (h : ∀ b ∈ accessWords a size, ∀ (x : Dev) (u : Nat), x.regWrite w b u = x) : d.barWrite w a size v = d := by
  rw [Dev.barWrite, if_neg hmd]
  exact foldl_regWrite_of_ignored w _ h (d, v)

/-- A 4-byte read of a word that no live 64-bit value holds. -/
theorem barRead_four (d : Dev) (porch : Bool) (a : Nat) (h4 : a % 4 = 0) (h : live64At a = false) :
    d.barRead porch a 4 = (d.readWord a, d.readEffect a) := by
  simp [Dev.barRead, Dev.read4, h4, h]

/-- R16: the low word of a live 64-bit value latches the high one. -/
theorem barRead_low (d : Dev) (porch : Bool) (a : Nat) (h8 : a % 8 = 0) (h : live64At a = true) :
    d.barRead porch a 4 = (d.readWord a, d.setLatch porch a (d.readWord (a + 4))) := by
  simp [Dev.barRead, Dev.read4, show a % 4 = 0 by omega, h8, h]

/-- R16: the high word reads as the latch. -/
theorem barRead_high (d : Dev) (porch : Bool) (a : Nat) (h8 : a % 8 = 0) (h : live64At (a + 4) = true) :
    d.barRead porch (a + 4) 4 = ((d.latch porch a).toNat, d) := by
  simp [Dev.barRead, Dev.read4, show (a + 4) % 4 = 0 by omega, show (a + 4) % 8 ≠ 0 by omega, h]

/-! ### What reads change -/

@[simp] theorem latch_setLatch_same (d : Dev) (porch : Bool) (a v : Nat) : (d.setLatch porch a v).latch porch a = BitVec.ofNat 32 v := by
  cases porch <;> simp [Dev.latch, Dev.setLatch]

theorem latch_setLatch_other (d : Dev) (porch : Bool) (a b v : Nat) (h : b ≠ a) : (d.setLatch porch a v).latch porch b = d.latch porch b := by
  cases porch <;> exact tget_tset_other _ _ _ _ _ h _

@[simp] theorem rstat_setRstat_same (d : Dev) (k : Nat) (x : RStat) : (d.setRstat k x).rstat k = x := tget_tset_same ..

theorem rstat_setRstat_other (d : Dev) (k j : Nat) (x : RStat) (h : j ≠ k) : (d.setRstat k x).rstat j = d.rstat j := tget_tset_other _ _ _ _ _ h _

/-- R374: what the read of a status word leaves of its operation. -/
@[simp] theorem rstat_rstatRead_same (d : Dev) (k : Nat) :
    (d.rstatRead k).rstat k = { d.rstat k with fresh := false, latched := if (d.rstat k).ready then (d.rstat k).value else 0 } := rstat_setRstat_same ..

theorem rstat_rstatRead_other (d : Dev) (k j : Nat) (h : j ≠ k) : (d.rstatRead k).rstat j = d.rstat j := rstat_setRstat_other _ _ _ _ h

/-- The status words of the operations are no live 64-bit values. -/
theorem live64At_rstat (k : Fin 7) : live64At (0x42000 + 16 * k) = false := by revert k; decide

theorem readEffect_rstat (d : Dev) (k : Fin 7) : d.readEffect (0x42000 + 16 * k) = d.rstatRead k := by
  have hk := k.isLt
  unfold Dev.readEffect
  rw [if_neg (by omega), if_neg (by omega), if_neg (by omega), if_pos (by omega), show (0x42000 + 16 * k.val - 0x42000) / 16 = k.val by omega]

theorem barRead_rstat (d : Dev) (porch : Bool) (k : Fin 7) : d.barRead porch (0x42000 + 16 * k) 4 = (d.readWord (0x42000 + 16 * k), d.rstatRead k) := by
  rw [barRead_four d porch _ (by omega) (live64At_rstat k), readEffect_rstat]

/-- Every word whose read changes something is a register. -/
theorem readEffect_of_undefined (d : Dev) (a : Nat) (h : findDesc a = none) : d.readEffect a = d := by
  have hglb : ∀ b ∈ [0x110, 0x130, 0x150], findDesc b ≠ none := by decide
  have hop : ∀ k : Fin 7, findDesc (0x42000 + 16 * k) ≠ none := by decide
  have hser : ∀ m : Fin 4, findDesc (0x300068 + 0x1000 * m) ≠ none := by decide
  unfold Dev.readEffect
  rw [if_neg fun e => hglb a (by simp [e]) h, if_neg fun e => hglb a (by simp [e]) h, if_neg fun e => hglb a (by simp [e]) h]
  rw [if_neg fun e => hop ⟨(a - 0x42000) / 16, by omega⟩ (by rw [← h]; congr 1; dsimp only; omega)]
  rw [if_neg fun e => hser ⟨(a - 0x300000) / 0x1000, by omega⟩ (by rw [← h]; congr 1; dsimp only; omega)]

/-! ### Words that no chapter defines (R15) -/

theorem undefinedWord.live64At {a : Nat} (h : undefinedWord a) : live64At a = false := by
  obtain ⟨-, hd, hl⟩ := h
  simp only [Machine.live64At, hd]
  rcases hl with hl | hl | ⟨r, hl, -, hc⟩
  · rw [if_neg (by omega)]
  · simp [hl]
  · by_cases h8 : 0x8000 ≤ a <;> simp [h8, hl, hc]

theorem undefinedWord.readWord {a : Nat} (h : undefinedWord a) (d : Dev) : d.readWord a = 0 := by
  obtain ⟨ht, hd, hl⟩ := h
  simp only [Dev.readWord, ht, hd, Bool.false_eq_true, if_false]
  rcases hl with hl | hl | ⟨r, hl, hs, hc⟩
  · rw [if_neg (by omega)]
  · simp [hl]
  · by_cases h8 : 0x8000 ≤ a <;> simp [h8, hl, hs, hc]

theorem undefinedWord.readEffect {a : Nat} (h : undefinedWord a) (d : Dev) : d.readEffect a = d := readEffect_of_undefined d a h.2.1

theorem undefinedWord.regWrite {a : Nat} (h : undefinedWord a) (d : Dev) (w v : Nat) : d.regWrite w a v = d := by
  obtain ⟨ht, hd, -⟩ := h
  simp [Dev.regWrite, ht, hd]

theorem barRead_of_undefined (d : Dev) (porch : Bool) (a size : Nat) (h : ∀ b ∈ accessWords a size, undefinedWord b) :
    d.barRead porch a size = (0, d) := by
  unfold Dev.barRead
  split
  case h_1 b e =>
    have hb := h b (by simp [e])
    simp [Dev.read4, hb.live64At, hb.readWord, hb.readEffect]
  case h_2 b c e =>
    have hb := h b (by simp [e])
    have hc := h c (by simp [e])
    simp [hb.readWord, hb.readEffect, hc.readWord, hc.readEffect]
  case h_3 => rfl

theorem barWrite_of_undefined (d : Dev) (w a size v : Nat) (h : ∀ b ∈ accessWords a size, undefinedWord b) : d.barWrite w a size v = d := by
  refine barWrite_of_ignored d w a size v ?_ fun b hb x u => (h b hb).regWrite x w u
  rintro ⟨rfl, rfl⟩
  have hmd := (h 0x100018 (by decide)).2.1
  exact absurd hmd (by decide)

/-! ### Accesses of the host -/

/-- A write access to BAR0 by the PF, where nothing refuses it. -/
theorem busWrite_pf (d : Dev) (a size v : Nat) (h : d.hostReaches true a = true) : d.busWrite false 0 a size v = d.barWrite 0 a size v := by
  simp [Dev.busWrite, h]

theorem hostReaches_of_standby (d : Dev) (write : Bool) (a : Nat) (h : 3 ≤ d.mode.code) : d.hostReaches write a = true := by
  simp [Dev.hostReaches, h]

/-- A read of the PF sends the value out of the part that the access leaves. -/
theorem run_hostRead (s : State) (a size : Nat) (h : 3 ≤ s.dev.mode.code) {v : Nat} {d : Dev} (e : s.start.barRead false a size = (v, d)) :
    s.run (fun x => x.hostRead a size) = .next (s.after (d.emit (.readData (leBytes size v) false))) := by
  rw [run_eq s _ (not_reset h)]
  simp [Dev.hostRead, hostReaches_of_standby s.start false a h, e]

/-! ### The statements -/

/-- Settles O31: each word of the access reads zero and ignores what is written, and every command goes through these accesses. -/
theorem undefinedAddresses : Obligations.UndefinedAddresses := by
  unfold Obligations.UndefinedAddresses
  intro a size h
  have hread : ∀ (d : Dev) (porch : Bool), d.barRead porch a size = (0, d) := fun d porch => barRead_of_undefined d porch a size h
  have hwrite : ∀ (d : Dev) (w v : Nat), d.barWrite w a size v = d := fun d w v => barWrite_of_undefined d w a size v h
  refine ⟨hread, hwrite, ?_, ?_⟩
  · rintro s b v rfl hm
    rw [exec_registerWrite, run_eq s _ hm]
    congr 2
    cases hr : s.start.hostReaches true b.toNat
    · simp [Dev.busWrite, hr]
    · exact (busWrite_pf _ _ _ _ hr).trans (hwrite _ _ _)
  · rintro s b rfl rfl h3
    exact ⟨(exec_live64LowRead s b).trans (run_hostRead s _ 4 h3 (hread _ _)), (exec_rstatRead s b).trans (run_hostRead s _ 4 h3 (hread _ _))⟩

/-- Settles O32: a live value by its two halves, a status word by its latch, and a word without shadowed bits by its access codes. -/
theorem latchingReads : Obligations.LatchingReads := by
  unfold Obligations.LatchingReads
  refine ⟨fun s a h3 => ⟨?_, ?_⟩, ?_⟩
  · rintro x hlow hhigh h8 rfl
    have hread := barRead_low s.start false a.toNat h8 hlow
    refine ⟨(exec_live64LowRead s a).trans (run_hostRead s _ 4 h3 hread), fun y hy => ?_, rfl, fun b hb => latch_setLatch_other _ _ _ _ _ hb⟩
    have hlatch : y.latch false a.toNat = BitVec.ofNat 32 (s.start.readWord (a.toNat + 4)) := by
      rw [← latch_setLatch_same s.start false a.toNat]
      simp [Dev.latch, hy]
    rw [barRead_high y false _ h8 hhigh, hlatch, BitVec.toNat_ofNat]
  · rintro k x ha rfl
    have hread : s.start.barRead false a.toNat 4 = (s.start.readWord a.toNat, s.start.rstatRead k) := by
      rw [ha]; exact barRead_rstat s.start false k
    refine ⟨(exec_rstatRead s a).trans (run_hostRead s _ 4 h3 hread), ?_⟩
    simp only [rstat_rstatRead_same]
    exact ⟨trivial, rfl, rfl, fun hr => if_pos hr, fun j hj => rstat_rstatRead_other _ _ _ hj⟩
  · intro s a v r h3 h4 hb hr hrws
    obtain ⟨w, hw, hbits⟩ := plainWrite_bits s.start a.toNat v.toNat r hr
    have hreg := (regWrite_of_fieldBlock s.start 0 a.toNat v.toNat r h4 hb hr hrws).trans hw
    refine ⟨w, ?_, ?_, hbits⟩
    · rw [exec_counterClearWrite, run_eq s _ (not_reset h3), hostWrite_eq s.start _ _ h3, hreg]
    · have hv : (v.setWidth 64).toNat = v.toNat := by simp; omega
      rw [exec_registerWrite, run_eq s _ (not_reset h3), hv, Fin.val_zero, busWrite_pf _ _ _ _ (hostReaches_of_standby s.start _ _ h3),
        barWrite_four _ _ _ _ h4 v.isLt, hreg]

end Sys2Proof.Machine
end

section
/-!
SUPPORT. The position unit's stores: encoders, generators and compare slots as their accessors see them, counters, and what a rule reads in a cycle.
-/
namespace Sys2Proof.Machine

/-! ### Encoders, generators and slots -/

@[simp] theorem enc_setEnc_same (d : Dev) (e : Nat) (x : Enc) : (d.setEnc e x).enc e = x := tget_tset_same ..
theorem enc_setEnc_other (d : Dev) (e i : Nat) (x : Enc) (h : i ≠ e) : (d.setEnc e x).enc i = d.enc i := tget_tset_other _ _ _ _ _ h _
@[simp] theorem gen_setGen_same (d : Dev) (g : Nat) (x : Gen) : (d.setGen g x).gen g = x := tget_tset_same ..
@[simp] theorem slot_setSlot_same (d : Dev) (k : Nat) (x : Slot) : (d.setSlot k x).slot k = x := tget_tset_same ..

@[simp] theorem setSlot_time (d : Dev) (k : Nat) (x : Slot) : (d.setSlot k x).time = d.time := rfl

/-- A change of the position unit alone. -/
theorem keeps_pos (d : Dev) (p : PosState) (P : Nat → Prop) : d.keeps { d with pos := p } P := keeps_of_eq P rfl rfl rfl

theorem keeps_setEnc (d : Dev) (e : Nat) (x : Enc) (P : Nat → Prop) : d.keeps (d.setEnc e x) P := keeps_pos ..
theorem keeps_setGen (d : Dev) (g : Nat) (x : Gen) (P : Nat → Prop) : d.keeps (d.setGen g x) P := keeps_pos ..
theorem keeps_setSlot (d : Dev) (k : Nat) (x : Slot) (P : Nat → Prop) : d.keeps (d.setSlot k x) P := keeps_pos ..

/-- Parts with the same position unit have the same encoders, generators and slots. -/
theorem enc_congr {d d' : Dev} (h : d'.pos = d.pos) (e : Nat) : d'.enc e = d.enc e := by rw [Dev.enc, h, Dev.enc]
theorem gen_congr {d d' : Dev} (h : d'.pos.gens = d.pos.gens) (g : Nat) : d'.gen g = d.gen g := by rw [Dev.gen, h, Dev.gen]
theorem slot_congr {d d' : Dev} (h : d'.pos.slots = d.pos.slots) (k : Nat) : d'.slot k = d.slot k := by rw [Dev.slot, h, Dev.slot]

/-! ### Counters -/

theorem fld_incr_same (d : Dev) (f : Fld) (h : f.lo + f.w ≤ 64) : (d.incr f).fld f = (d.fld f + 1) % 2 ^ f.w := fld_setFld_same d f _ h

theorem fld_bump_same (d : Dev) (f : Fld) (h : f.lo + f.w ≤ 64) : (d.bump f).fld f = min (d.fld f + 1) (2 ^ f.w - 1) := by
  have hp : 0 < 2 ^ f.w := Nat.two_pow_pos _
  refine (fld_setFld_same d f _ h).trans (Nat.mod_eq_of_lt ?_)
  omega

theorem keeps_incr (d : Dev) (f : Fld) (h : f.lo + f.w ≤ 32) : d.keeps (d.incr f) (· = f.addr) := keeps_setFld d f _ h
theorem keeps_bump (d : Dev) (f : Fld) (h : f.lo + f.w ≤ 32) : d.keeps (d.bump f) (· = f.addr) := keeps_setFld d f _ h

/-! ### What a frame says of fields -/

/-- A field whose words an effect leaves alone reads as before. -/
theorem Dev.keeps.fld {d d' : Dev} {P : Nat → Prop} (h : d.keeps d' P) (f : Fld) (h1 : ¬ P f.addr) (h2 : 32 < f.lo + f.w → ¬ P (f.addr + 4)) :
    d'.fld f = d.fld f := fld_congr (h.1 _ h1) fun hf => h.1 _ (h2 hf)

end Sys2Proof.Machine
end

section
/-!
SUPPORT. Encoder edges (R23 to R25) and the statement O10.
-/
namespace Sys2Proof.Machine

/-! ### Motion -/

/-- A part that is not STOPPED does not begin to move (R37). -/
theorem motionStart_of_not_stopped (d : Dev) (h : d.flag R.POS_STATUS_STOPPED = false) : d.motionStart = (d, false) := by simp [Dev.motionStart, h]

@[simp] theorem motionEvent_false (d : Dev) : d.motionEvent false = d := by simp [Dev.motionEvent]

/-! ### An edge of one phase -/

/-- The encoder with new levels of its phases, of which one is an edge at `t` (R25). -/
def Enc.levels (x : Enc) (a b : Bool) (t : Nat) : Enc :=
  { x with a := a, b := b, lastA := if decide (a ≠ x.a) then some t else x.lastA, lastB := if decide (a ≠ x.a) then x.lastB else some t }

/-- The part in cycle `now` once an encoder has taken new levels, with OVERRATE where the phase changed too soon (R25). -/
def Dev.levelsTaken (d : Dev) (e : Nat) (a b : Bool) (t now : Nat) : Dev :=
  let x := d.enc e
  (({ d with time := now } : Dev).setEnc e (x.levels a b t)).raiseIf (tooFast (if decide (a ≠ x.a) then x.lastA else x.lastB) t) (Fld.bit R.POS_FAULT_OVERRATE e)

theorem levelsTaken_pos (d : Dev) (e : Nat) (a b : Bool) (t now : Nat) :
    (d.levelsTaken e a b t now).pos = (d.setEnc e ((d.enc e).levels a b t)).pos := Dev.raiseIf_pos ..

theorem timeStep_faultIf (d : Dev) (b : Bool) (f : Fld) (h : f.addr = R.POS_FAULT.addr) (h32 : f.lo + f.w ≤ 32) : TimeStep d (d.raiseIf b f) := by
  cases b
  · exact .refl d
  · exact timeStep_fault d f h h32

theorem timeStep_levelsTaken (d : Dev) (e : Nat) (a b : Bool) (t now : Nat) (he : e < 4) :
    TimeStep (({ d with time := now } : Dev).setEnc e ((d.enc e).levels a b t)) (d.levelsTaken e a b t now) :=
  timeStep_faultIf _ _ _ rfl (by simp [Fld.bit, R.POS_FAULT_OVERRATE]; omega)

/-- The configuration of an encoder is not what an edge changes. -/
theorem levelsTaken_live (d : Dev) (e : Nat) (a b : Bool) (t now : Nat) (he : e < 4) (f : Fld) (hf : f.addr = (R.POS_ENC_CFG e).addr) (h32 : f.lo + f.w ≤ 32) :
    (d.levelsTaken e a b t now).live f = d.live f :=
  (timeStep_levelsTaken d e a b t now he).fld (liveOf f) (not_timeWord (by simp [liveOf, hf, R.POS_ENC_CFG]; omega) (by simp [liveOf, hf, R.POS_ENC_CFG]; omega))
    fun h => absurd h (Nat.not_lt.mpr h32)

/-- What a counted edge makes of its encoder (R24, R32, R33). -/
theorem countEdge_enc (d : Dev) (e : Nat) (up : Bool) (t : Nat) :
    ((d.countEdge e up t).enc e).count = (if up then (d.enc e).count + 1 else (d.enc e).count - 1) ∧
      ((d.countEdge e up t).enc e).a = (d.enc e).a ∧ ((d.countEdge e up t).enc e).b = (d.enc e).b := by
  simp [Dev.countEdge]

/-- One phase of an enabled encoder takes a new level under x4 decoding (R23 to R25): the edge is counted, then time passes to the end of the filter. -/
theorem encoderEdge_of_one_phase (d : Dev) (e : Nat) (pa pb : Bool) (t stable : Nat) (he : e < 4)
    (hf : min (d.live (R.POS_ENC_CFG_FILTER e)) 100 ≤ stable) (ht : d.time ≤ t + min (d.live (R.POS_ENC_CFG_FILTER e)) 100)
    (hen : d.lflag (R.POS_ENC_CFG_ENABLE e) = true) (hdec : d.live (R.POS_ENC_CFG_DECODE e) = 0) :
    let x := d.enc e
    let a := if d.lflag (R.POS_ENC_CFG_SWAP_AB e) then pb else pa
    let b := if d.lflag (R.POS_ENC_CFG_SWAP_AB e) then pa else pb
    let now := t + min (d.live (R.POS_ENC_CFG_FILTER e)) 100
    (a ≠ x.a ∧ b = x.b ∨ a = x.a ∧ b ≠ x.b) →
    d.encoderEdge e pa pb t stable = (((d.levelsTaken e a b t now).countEdge e (quadUp (decide (a ≠ x.a)) a b) t).advance now).motionStart := by
  intro x a b now hab
  have hnow : max now d.time = now := by omega
  have hback : now - min (d.live (R.POS_ENC_CFG_FILTER e)) 100 = t := by omega
  have hstable := Nat.not_lt.mpr hf
  have hsome : ¬ (a = x.a ∧ b = x.b) := by rintro ⟨ha, hb⟩; simp [ha, hb] at hab
  have hone : ¬ (a ≠ x.a ∧ b ≠ x.b) := by rintro ⟨ha, hb⟩; simp [ha, hb] at hab
  have hcounts : (d.levelsTaken e a b t now).lflag (R.POS_ENC_CFG_ENABLE e) = true ∧
      quadCounts ((d.levelsTaken e a b t now).live (R.POS_ENC_CFG_DECODE e)) (decide (a ≠ x.a)) a = true := by
    constructor
    · show decide ((d.levelsTaken e a b t now).live (R.POS_ENC_CFG_ENABLE e) ≠ 0) = true
      rw [levelsTaken_live d e a b t now he (R.POS_ENC_CFG_ENABLE e) rfl (by simp [R.POS_ENC_CFG_ENABLE])]
      exact hen
    · rw [levelsTaken_live d e a b t now he (R.POS_ENC_CFG_DECODE e) rfl (by simp [R.POS_ENC_CFG_DECODE]), hdec]
      rfl
  unfold Dev.encoderEdge
  simp only [hstable, if_false]
  rw [hnow, hback, if_neg hsome, if_neg hone]
  exact congrArg (fun y : Dev => (y.advance now).motionStart) (if_pos hcounts)

/-- Outside RESET an edge that does not start motion leaves the part that `encoderEdge` gives. -/
theorem encoderRow_of_not_moved (d : Dev) (e : Nat) (a b : Bool) (t stable : Nat) (y : Dev) (hm : d.mode ≠ .reset) (h : d.encoderEdge e a b t stable = (y, false)) :
    d.encoderRow e a b t stable = y := by
  simp [Dev.encoderRow, hm, h]

/-- Settles O10: the edge is counted before time passes, and the passing of time counts no edge; a part that is not STOPPED starts nothing. -/
theorem encoderEdge : Obligations.EncoderEdge := by
  unfold Obligations.EncoderEdge
  intro s e a b at_ stable x swap a' b' filter up hm hf ht hen hdec hab hst
  let z := s.start.levelsTaken e a' b' at_ (at_ + filter)
  let y := z.countEdge e (quadUp (decide (a' ≠ x.a)) a' b') at_
  have hedge : s.start.encoderEdge e a b at_ stable = (y.advance (at_ + filter)).motionStart :=
    encoderEdge_of_one_phase s.start e a b at_ stable e.isLt hf ht hen hdec hab
  have hlevels : TimeStep _ z := timeStep_levelsTaken s.start e a' b' at_ (at_ + filter) e.isLt
  have hzpos : z.pos = (s.start.setEnc e (x.levels a' b' at_)).pos := levelsTaken_pos ..
  have hzenc : z.enc e = x.levels a' b' at_ := (enc_congr hzpos e).trans (enc_setEnc_same ..)
  obtain ⟨hcount, ha, hb⟩ := countEdge_enc z e (quadUp (decide (a' ≠ x.a)) a' b') at_
  rw [hzenc] at hcount ha hb
  have hT := timeStep_advance y (at_ + filter)
  have hstopped : (y.advance (at_ + filter)).flag R.POS_STATUS_STOPPED = false := by
    show decide (_ ≠ 0) = false
    rw [hT.stopped, show y.fld R.POS_STATUS_STOPPED = _ from hlevels.stopped]
    exact hst
  have hup : quadUp (decide (a' ≠ x.a)) a' b' = up := by simp [quadUp, up]
  have hrow := encoderRow_of_not_moved s.start e a b at_ stable _ hm (hedge.trans (motionStart_of_not_stopped _ hstopped))
  refine completes_always _ (exec_encoderEdge s e a b at_ stable) ?_
  rw [hrow]
  refine ⟨?_, ?_, (hT.phaseA e).trans ha, (hT.phaseB e).trans hb, fun i hi => ?_, ?_, ?_, keeps_trans hlevels.keeps hT.keeps⟩
  · have hy : y.time = at_ + filter := Dev.raiseIf_time ..
    rw [advance_time, hy, Nat.max_self]
  · rw [hT.count, hcount, hup]; rfl
  · rw [hT.count]
    exact congrArg Enc.count ((enc_setEnc_other z e i _ hi).trans ((enc_congr hzpos i).trans (enc_setEnc_other s.start e i _ hi)))
  · exact hT.gens.trans (show z.pos.gens = s.dev.pos.gens by rw [hzpos]; rfl)
  · exact hT.slots.trans (show z.pos.slots = s.dev.pos.slots by rw [hzpos]; rfl)

end Sys2Proof.Machine
end

section
/-!
SUPPORT. Writes that the rules of their own cycle do not see (R21), and the statement O12 on MD_OFFSET (R35).
-/
namespace Sys2Proof.Machine

/-! ### Words written in this cycle (R21) -/

/-- The words noted in this cycle, as they were before its writes. -/
def Dev.noted (d : Dev) : List (Nat × Word) := if d.pos.wroteAt = d.time then d.pos.wrote else []

/-- A word noted in this cycle is seen as it was, any other as it is. -/
theorem regNow_eq (d : Dev) (b : Nat) : d.regNow b = match d.noted.find? fun x => decide (x.1 = b) with | some x => x.2 | none => d.reg b := by
  unfold Dev.regNow Dev.noted
  split <;> rfl

/-- Noting a word adds it to those of this cycle, where it is not among them. -/
theorem noteWord_eq (d : Dev) (a : Nat) :
    d.noteWord a = (if d.noted.any fun x => decide (x.1 = a) then d else { d with pos := { d.pos with wroteAt := d.time, wrote := (a, d.reg a) :: d.noted } }) := rfl

/-- Noting a word changes the notes alone. -/
theorem noteWord_frame (d : Dev) (a : Nat) :
    (d.noteWord a).time = d.time ∧ (d.noteWord a).regs = d.regs ∧ (d.noteWord a).pos.wpos = d.pos.wpos ∧ (d.noteWord a).pos.md = d.pos.md ∧
      (d.noteWord a).dramLog = d.dramLog ∧ (d.noteWord a).flashLog = d.flashLog := by
  rw [noteWord_eq]
  split <;> exact ⟨rfl, rfl, rfl, rfl, rfl, rfl⟩

theorem noteWord_noted (d : Dev) (a : Nat) : (d.noteWord a).noted = if d.noted.any fun x => decide (x.1 = a) then d.noted else (a, d.reg a) :: d.noted := by
  rw [noteWord_eq]
  split
  · rfl
  · exact if_pos rfl

/-- Once a word is noted, the notes are of this cycle. -/
theorem noteWord_wroteAt (d : Dev) (a : Nat) : (d.noteWord a).pos.wroteAt = d.time := by
  rw [noteWord_eq]
  split
  · next h =>
    by_contra hne
    simp [Dev.noted, hne] at h
  · rfl

/-- A word is among the notes once it is noted, and stays there. -/
theorem noted_noteWord_any (d : Dev) (a b : Nat) (h : b = a ∨ (d.noted.any fun x => decide (x.1 = b)) = true) :
    ((d.noteWord a).noted.any fun x => decide (x.1 = b)) = true := by
  rw [noteWord_noted]
  split
  · next hany => rcases h with rfl | h <;> assumption
  · rcases h with rfl | h <;> simp_all

/-- Noting a word does not change what the rules of this cycle see. -/
theorem noteWord_regNow (d : Dev) (a b : Nat) : (d.noteWord a).regNow b = d.regNow b := by
  have hreg : (d.noteWord a).reg b = d.reg b := by rw [reg_of, (noteWord_frame d a).2.1, reg_of]
  rw [regNow_eq, regNow_eq, noteWord_noted, hreg]
  by_cases hany : (d.noted.any fun x => decide (x.1 = a)) = true
  · rw [if_pos hany]
  · rw [if_neg hany]
    by_cases hb : a = b
    · subst hb
      have hnone : d.noted.find? (fun x => decide (x.1 = a)) = none := by
        rw [List.find?_eq_none]
        exact fun x hx he => hany (List.any_eq_true.mpr ⟨x, hx, he⟩)
      simp [hnone]
    · simp [hb]

/-- A noted word is seen as it was, whatever the register file now holds. -/
theorem regNow_of_noted (d d' : Dev) (b : Nat) (h : d'.noted = d.noted) (hb : (d.noted.any fun x => decide (x.1 = b)) = true) : d'.regNow b = d.regNow b := by
  obtain ⟨y, hy⟩ := Option.isSome_iff_exists.mp ((List.find?_isSome (p := fun x : Nat × Word => decide (x.1 = b))).mpr (List.any_eq_true.mp hb))
  rw [regNow_eq, regNow_eq, h, hy]

/-- In another cycle than that of the notes every word is seen as it is. -/
theorem fldNow_of_past (d : Dev) (f : Fld) (h : d.pos.wroteAt ≠ d.time) : d.fldNow f = d.fld f := by
  simp [Dev.fldNow, Dev.regNow, h, Dev.fld, Dev.cell]

/-- What a rule of this cycle reads follows from the words of the field as the cycle sees them. -/
theorem fldNow_congr {d d' : Dev} {f : Fld} (h1 : d'.regNow f.addr = d.regNow f.addr) (h2 : d'.regNow (f.addr + 4) = d.regNow (f.addr + 4)) : d'.fldNow f = d.fldNow f := by
  rw [Dev.fldNow, h1, h2, Dev.fldNow]

/-! ### MD_OFFSET (R35) -/

/-- Noting MD_OFFSET leaves the registers, the position and the bytes of memory alone. -/
theorem noteOffset_frame (d : Dev) :
    d.noteOffset.time = d.time ∧ d.noteOffset.regs = d.regs ∧ d.noteOffset.pos.wpos = d.pos.wpos ∧ d.noteOffset.pos.md = d.pos.md ∧
      d.noteOffset.dramLog = d.dramLog ∧ d.noteOffset.flashLog = d.flashLog := by
  obtain ⟨t1, r1, w1, m1, l1, f1⟩ := noteWord_frame d R.POS_MD_OFFSET.addr
  obtain ⟨t2, r2, w2, m2, l2, f2⟩ := noteWord_frame (d.noteWord R.POS_MD_OFFSET.addr) (R.POS_MD_OFFSET.addr + 4)
  exact ⟨t2.trans t1, r2.trans r1, w2.trans w1, m2.trans m1, l2.trans l1, f2.trans f1⟩

theorem noteOffset_wroteAt (d : Dev) : d.noteOffset.pos.wroteAt = d.time :=
  (noteWord_wroteAt ..).trans (noteWord_frame d R.POS_MD_OFFSET.addr).1

/-- The rules of the cycle in which MD_OFFSET is noted go on to see it as it was, whatever is then stored (R21). -/
theorem offsetNow_noteOffset_setFld (d : Dev) (v : Nat) : (d.noteOffset.setFld R.POS_MD_OFFSET v).offsetNow = d.offsetNow := by
  have hnoted : (d.noteOffset.setFld R.POS_MD_OFFSET v).noted = d.noteOffset.noted := by unfold Dev.noted; simp
  have hseen : ∀ b, d.noteOffset.regNow b = d.regNow b := fun b => (noteWord_regNow ..).trans (noteWord_regNow ..)
  have hlow : (d.noteOffset.noted.any fun x => decide (x.1 = R.POS_MD_OFFSET.addr)) = true := noted_noteWord_any _ _ _ (.inr (noted_noteWord_any _ _ _ (.inl rfl)))
  have hhigh : (d.noteOffset.noted.any fun x => decide (x.1 = R.POS_MD_OFFSET.addr + 4)) = true := noted_noteWord_any _ _ _ (.inl rfl)
  exact congrArg (sx 64) (fldNow_congr ((regNow_of_noted _ _ _ hnoted hlow).trans (hseen _)) ((regNow_of_noted _ _ _ hnoted hhigh).trans (hseen _)))

/-- SCALE and DIR_INVERT in force do not depend on MD_OFFSET: a part with its own other words has them as they are. -/
theorem ownForm_eq {d d' : Dev} (h : ∀ a, a ≠ R.POS_MD_OFFSET.addr → a ≠ R.POS_MD_OFFSET.addr + 4 → d'.reg a = d.reg a) :
    d'.ownForm = { d.ownForm with offset := d'.offsetNow } := by
  have hinv : d'.dirInvert = d.dirInvert := by
    show decide (d'.fld _ ≠ 0) = decide (d.fld _ ≠ 0)
    rw [fld_congr (h _ (by decide) (by decide)) fun hw => absurd hw (by decide)]
  have hscale : d'.live R.POS_SCALE = d.live R.POS_SCALE := fld_congr (h _ (by decide) (by decide)) fun _ => h _ (by decide) (by decide)
  rw [Dev.ownForm, Dev.ownForm, hinv, hscale]

theorem takesOffset_iff (m : Mode) : m.takesOffset = true ↔ m = .reset ∨ m = .foyer ∨ m = .recovery ∨ m = .standby ∨ m = .service := by
  cases m <;> simp [Mode.takesOffset]

/-- Settles O12: the old words are noted before the new ones are stored, and the notes end with their cycle. -/
theorem mdOffsetWrite : Obligations.MdOffsetWrite := by
  unfold Obligations.MdOffsetWrite
  intro s v
  refine ⟨fun hm => ?_, fun hm => ?_⟩
  · refine completes_always _ (exec_mdOffsetWrite s v) ?_
    have hw : s.start.mdOffsetWrite v.toNat = s.start.noteOffset.setFld R.POS_MD_OFFSET v.toNat := if_pos ((takesOffset_iff _).mpr hm)
    obtain ⟨htime, hregs, hwpos, hmd, hdram, hflash⟩ := noteOffset_frame s.start
    have hfld : (s.start.noteOffset.setFld R.POS_MD_OFFSET v.toNat).fld R.POS_MD_OFFSET = v.toNat :=
      (fld_setFld_same _ R.POS_MD_OFFSET _ (by decide)).trans (Nat.mod_eq_of_lt v.isLt)
    have hothers : ∀ a, a ≠ R.POS_MD_OFFSET.addr → a ≠ R.POS_MD_OFFSET.addr + 4 → (s.start.noteOffset.setFld R.POS_MD_OFFSET v.toNat).reg a = s.dev.reg a :=
      fun a h1 h2 => (reg_setFld_other _ R.POS_MD_OFFSET _ a h1 fun _ => h2).trans (by rw [reg_of, hregs]; rfl)
    rw [hw]
    refine ⟨hfld, ?_, ?_, ?_, fun t ht => ?_, fun a ha => ?_, ?_, ?_⟩
    · rw [Dev.setFld_pos]; exact hwpos
    · rw [Dev.setFld_pos]; exact hmd
    · refine (ownForm_eq hothers).trans ?_
      rw [offsetNow_noteOffset_setFld]
      rfl
    · refine (ownForm_eq (d' := { s.start.noteOffset.setFld R.POS_MD_OFFSET v.toNat with time := t }) hothers).trans ?_
      have hpast : ({ s.start.noteOffset.setFld R.POS_MD_OFFSET v.toNat with time := t } : Dev).fldNow R.POS_MD_OFFSET = v.toNat := by
        refine (fldNow_of_past _ _ ?_).trans hfld
        show (s.start.noteOffset.setFld R.POS_MD_OFFSET v.toNat).pos.wroteAt ≠ t
        rw [Dev.setFld_pos, noteOffset_wroteAt]
        exact Ne.symm ht
      rw [Dev.offsetNow, hpast]
    · exact hothers a (fun e => ha (.inl e)) fun e => ha (.inr e)
    · rw [Dev.setFld_dramLog]; exact hdram
    · rw [Dev.setFld_flashLog]; exact hflash
  · refine completes_always _ (exec_mdOffsetWrite s v) ?_
    have hw : s.start.mdOffsetWrite v.toNat = s.start.raise R.POS_FAULT_WR_IGNORED := if_neg fun h => hm ((takesOffset_iff _).mp h)
    rw [hw]
    exact ⟨raise_fld _ _ (by decide) rfl (not_chanCount (by decide)), raise_fld_apart _ _ _ (by decide) (by decide), Dev.raise_pos .., keeps_raise s.start R.POS_FAULT_WR_IGNORED (by decide)⟩

end Sys2Proof.Machine
end

section
/-!
SUPPORT. Host writes to the words of POS (R15, R16, R35, R50): which words are registers, and where a write of each goes.
-/
namespace Sys2Proof.Machine

/-- The `i`th word of a table row is a register. -/
theorem findDesc_isSome_of_row (r : RegDesc) (i : Nat) (hr : r ∈ descBlock (r.base + i * r.s1)) (hi : i < r.n1) (hs : 0 < r.s1) (hn : 0 < r.n2) :
    (findDesc (r.base + i * r.s1)).isSome = true := by
  have hidx : (r.index (r.base + i * r.s1)).isSome = true := by
    have hmin : min i (r.n1 - 1) = i := by omega
    simp [RegDesc.index, Nat.ne_of_gt hs, Nat.mul_div_cancel _ hs, hmin, hn]
  rw [findDesc, Option.isSome_map]
  exact List.find?_isSome.mpr ⟨r, hr, hidx⟩

theorem descBlock_pos {a : Nat} (h : a / 0x100000 = 1) : descBlock a = descPOS := by
  unfold descBlock
  rw [h]
  rfl

/-- A word of a repeated row of POS. -/
theorem findDesc_pos_row (r : RegDesc) (i : Nat) (hr : r ∈ descPOS) (hb : (r.base + i * r.s1) / 0x100000 = 1) (hi : i < r.n1) (hs : 0 < r.s1) (hn : 0 < r.n2) :
    (findDesc (r.base + i * r.s1)).isSome = true :=
  findDesc_isSome_of_row r i (by rw [descBlock_pos hb]; exact hr) hi hs hn

/-- A write of a register word of POS. -/
theorem regWrite_pos (d : Dev) (w a v : Nat) (h4 : a % 4 = 0) (hb : a / 0x100000 = 1) (hd : (findDesc a).isSome = true) : d.regWrite w a v = d.posWrite w a v := by
  have ht : inTap a = false := by simp only [inTap, Bool.and_eq_false_iff, decide_eq_false_iff_not]; omega
  obtain ⟨r, hr⟩ := Option.isSome_iff_exists.mp hd
  simp [Dev.regWrite, h4, ht, hr, hb]

/-- A write of a word that is neither MD_OFFSET nor a slot's: its old value is noted (R21), its fields are written, and its other bits act. -/
theorem posWrite_mixed (d : Dev) (w a v : Nat) (h1 : a % 0x100000 ≠ 0x18 ∧ a % 0x100000 ≠ 0x1C) (h2 : a % 0x100000 < 0x4000 ∨ 0x6000 ≤ a % 0x100000) :
    d.posWrite w a v = ((d.noteWord a).baseWrite w a v).mixedActs a v := by
  unfold Dev.posWrite
  dsimp only
  rw [if_neg (by omega), if_neg (by omega)]

theorem posWrite_cmp (d : Dev) (w a v : Nat) (h : 0x4000 ≤ a % 0x100000 ∧ a % 0x100000 < 0x6000) :
    d.posWrite w a v = d.cmpWrite ((a % 0x100000 - 0x4000) / 0x20) (a % 0x100000 % 0x20) v := by
  unfold Dev.posWrite
  dsimp only
  rw [if_neg (by omega), if_pos h]

/-! ### The words of encoders, generators and slots -/

/-- A host write of such a word (R355). -/
theorem hostWrite_mixed (d : Dev) (a v : Nat) (h3 : 3 ≤ d.mode.code) (hd : (findDesc a).isSome = true) (h4 : a % 4 = 0) (ha : 0x101000 ≤ a ∧ a < 0x104000) :
    d.hostWrite a v = ((d.noteWord a).baseWrite 0 a v).mixedActs a v := by
  rw [hostWrite_eq d _ _ h3, regWrite_pos d 0 _ v h4 (by omega) hd, posWrite_mixed _ _ _ _ (by omega) (by omega)]

/-- A host write of ENC_CFG of an encoder with READMIT = 1 (R29). -/
theorem hostWrite_readmit (d : Dev) (e : Fin 4) (v : Nat) (h3 : 3 ≤ d.mode.code) (hv : bitOf v 16 = true) :
    d.hostWrite (0x101000 + 0x40 * e) v = ((d.noteWord (R.POS_ENC_CFG_ENABLE e).addr).baseWrite 0 (R.POS_ENC_CFG_ENABLE e).addr v).readmit e := by
  have hd : (findDesc (0x101000 + e.val * 0x40)).isSome = true :=
    findDesc_pos_row ⟨0x0101000, 4, 0x40, 1, 0, 0, 0, 0x7F1F, 0, 0x10000, 0, 0, false⟩ e (by decide) (by dsimp only; omega) e.isLt (by decide) (by decide)
  have hacts : ∀ y : Dev, y.mixedActs (0x101000 + e.val * 0x40) v = y.readmit e := fun y => by
    simp only [Dev.mixedActs, show (0x101000 + e.val * 0x40) / 0x100000 = 1 by omega]
    rw [if_pos ⟨by omega, by omega, by omega, hv⟩, show ((0x101000 + e.val * 0x40) % 0x100000 - 0x1000) / 0x40 = e by omega]
  rw [Nat.mul_comm, hostWrite_mixed d _ v h3 hd (by omega) (by omega), hacts]
  rfl

/-- A host write of TRG_CTRL of a generator with CLEAR = 1 (R43). -/
theorem hostWrite_clear (d : Dev) (g : Fin 48) (v : Nat) (h3 : 3 ≤ d.mode.code) (hv : bitOf v 31 = true) :
    d.hostWrite (0x102000 + 0x20 * g) v = ((d.noteWord (R.POS_TRG_CTRL g).addr).baseWrite 0 (R.POS_TRG_CTRL g).addr v).trgClear g := by
  have hd : (findDesc (0x102000 + g.val * 0x20)).isSome = true :=
    findDesc_pos_row ⟨0x0102000, 48, 0x20, 1, 0, 0, 0, 1, 0, 0x80000000, 0, 0, false⟩ g (by decide) (by dsimp only; omega) g.isLt (by decide) (by decide)
  have hacts : ∀ y : Dev, y.mixedActs (0x102000 + g.val * 0x20) v = y.trgClear g := fun y => by
    simp only [Dev.mixedActs, show (0x102000 + g.val * 0x20) / 0x100000 = 1 by omega]
    rw [if_neg (by omega), if_pos ⟨by omega, by omega, by omega, hv⟩, show ((0x102000 + g.val * 0x20) % 0x100000 - 0x2000) / 0x20 = g by omega]
  rw [Nat.mul_comm, hostWrite_mixed d _ v h3 hd (by omega) (by omega), hacts]
  rfl

/-- A host write of CMP_CTRL of a slot (R50). -/
theorem hostWrite_cmpCtrl (d : Dev) (k : Fin 256) (v : Nat) (h3 : 3 ≤ d.mode.code) : d.hostWrite (0x104010 + 0x20 * k) v = d.cmpWrite k 0x10 v := by
  have ha : 0x104010 + 0x20 * k.val = 0x104010 + k * 0x20 := by omega
  have hd : (findDesc (0x104010 + k.val * 0x20)).isSome = true :=
    findDesc_pos_row ⟨0x0104010, 256, 0x20, 1, 0, 0, 3, 0, 0, 0, 0, 0, false⟩ k (by decide) (by dsimp only; omega) k.isLt (by decide) (by decide)
  rw [ha, hostWrite_eq d _ _ h3, regWrite_pos d 0 _ v (by omega) (by omega) hd, posWrite_cmp _ _ _ _ (by omega),
    show ((0x104010 + k.val * 0x20) % 0x100000 - 0x4000) / 0x20 = k by omega, show (0x104010 + k.val * 0x20) % 0x100000 % 0x20 = 0x10 by omega]

/-- A bit set in a number stays set with further bits. -/
theorem bitOf_or_two_pow (v i : Nat) : bitOf (v ||| 2 ^ i) i = true := by
  have h : (v ||| 2 ^ i).testBit i = true := by simp
  simpa [bitOf, Nat.testBit_eq_decide_div_mod_eq] using h

end Sys2Proof.Machine
end

section
/-!
SUPPORT. Line-trigger generators and the output grid (R41 to R48), and the statement O13.
-/
namespace Sys2Proof.Machine

/-! ### Generators -/

/-- The ceiling, and the floor that waits on it, follow from the last trigger: a change of the targets alone does not move them (R43, R44). -/
theorem ceilFree_setGen (d : Dev) (g : Nat) (x : Gen) (h : x.lastTrig = (d.gen g).lastTrig) : (d.setGen g x).ceilFree g = d.ceilFree g := by
  unfold Dev.ceilFree
  rw [gen_setGen_same, h]
  rfl

theorem floorWaits_setGen (d : Dev) (g : Nat) (x : Gen) (h : x.lastTrig = (d.gen g).lastTrig) (hf : x.floorFrom = (d.gen g).floorFrom) :
    (d.setGen g x).floorWaits g = d.floorWaits g := by
  unfold Dev.floorWaits
  rw [gen_setGen_same, hf, ceilFree_setGen d g x h]
  rfl

/-- A floor trigger waits only while the ceiling does not let it go. -/
theorem floorWaits_of_free (d : Dev) (g : Nat) (h : d.ceilFree g ≤ d.time) : d.floorWaits g = false := by
  simp [Dev.floorWaits, Nat.not_lt.mpr h]

/-- What issuing a trigger changes (R43, R44): its count, the times of its generator, and the events of the Plaza. -/
theorem issue_gen (d : Dev) (g : Nat) (floor : Bool) : (d.issue g floor).gen g = { d.gen g with lastTrig := some d.time, floorFrom := d.time, waiting := false } := by
  have hp : (d.issue g floor).pos = (d.setGen g { d.gen g with lastTrig := some d.time, floorFrom := d.time, waiting := false }).pos := by
    unfold Dev.issue Dev.incr
    simp only [Dev.fire_pos, Dev.setFld_pos]
  rw [gen_congr (congrArg PosState.gens hp), gen_setGen_same]

theorem issue_issued (d : Dev) (g : Nat) (floor : Bool) (hg : g < 48) : (d.issue g floor).fld (R.POS_TRG_ISSUED g) = (d.fld (R.POS_TRG_ISSUED g) + 1) % 2 ^ 32 := by
  refine (fire_fld _ _ _ _ _ _ (by decide) (by simp only [Fld.offChan, R.POS_TRG_ISSUED]; omega)).trans ?_
  exact fld_incr_same _ (R.POS_TRG_ISSUED g) (by simp [R.POS_TRG_ISSUED])

theorem keeps_issue (d : Dev) (g : Nat) (floor : Bool) : d.keeps (d.issue g floor) fun a => a = (R.POS_TRG_ISSUED g).addr ∨ chanCount a :=
  keeps_trans (keeps_setGen d g _ _) (keeps_trans (keeps_mono (keeps_incr _ (R.POS_TRG_ISSUED g) (by simp [R.POS_TRG_ISSUED])) fun _ => .inl)
    (keeps_mono (keeps_fire _ _ _ _ _ (by decide)) fun _ => .inr))

/-- What a target that HWM reaches makes of its generator before anything else (R41). -/
def Dev.targetTaken (d : Dev) (g : Nat) : Dev := d.setGen g { d.gen g with last := some (d.gen g).next, next := (d.gen g).next + d.genPitch g }

/-- HWM reaches the next target: it is skipped, waits or is issued (R43). -/
theorem ltrigTarget_eq (d : Dev) (g t : Nat) (hr : (d.advance t).genRuns g = true) (hn : ((d.advance t).gen g).next ≤ (d.advance t).pos.hwm) :
    let y := d.advance t
    d.ltrigTarget g t =
      if (y.gen g).waiting || y.floorWaits g then ((y.targetTaken g).bump (R.POS_TRG_STATUS_SKIPPED g)).setFld (R.POS_TRG_STATUS_OVERSPEED g) 1
      else if y.time < y.ceilFree g then (y.targetTaken g).setGen g { (y.targetTaken g).gen g with waiting := true }
      else (y.targetTaken g).issue g false := by
  intro y
  have hif : ¬ (!y.genRuns g ∨ y.pos.hwm < (y.gen g).next) := by
    rintro (h | h)
    · rw [hr] at h; simp at h
    · exact Int.not_lt.mpr hn h
  unfold Dev.ltrigTarget
  refine (if_neg hif).trans ?_
  show (if (y.gen g).waiting || (y.targetTaken g).floorWaits g then _ else if y.time < (y.targetTaken g).ceilFree g then _ else _) = _
  rw [show (y.targetTaken g).floorWaits g = y.floorWaits g from floorWaits_setGen _ _ _ rfl rfl, show (y.targetTaken g).ceilFree g = y.ceilFree g from ceilFree_setGen _ _ _ rfl]
  rfl

/-- A skipped target is counted, and OVERSPEED set (R43). -/
theorem skip_fields (d : Dev) (g : Nat) :
    let y := (d.bump (R.POS_TRG_STATUS_SKIPPED g)).setFld (R.POS_TRG_STATUS_OVERSPEED g) 1
    y.fld (R.POS_TRG_STATUS_OVERSPEED g) = 1 ∧ y.fld (R.POS_TRG_STATUS_SKIPPED g) = min (d.fld (R.POS_TRG_STATUS_SKIPPED g) + 1) 65535 ∧
      d.keeps y (· = (R.POS_TRG_STATUS g).addr) :=
  ⟨fld_setFld_same _ (R.POS_TRG_STATUS_OVERSPEED g) 1 (by simp [R.POS_TRG_STATUS_OVERSPEED]),
    (fld_setFld_apart _ (R.POS_TRG_STATUS_OVERSPEED g) (R.POS_TRG_STATUS_SKIPPED g) 1 (by simp [Fld.apart, R.POS_TRG_STATUS_OVERSPEED, R.POS_TRG_STATUS_SKIPPED])).trans
      (fld_bump_same d (R.POS_TRG_STATUS_SKIPPED g) (by simp [R.POS_TRG_STATUS_SKIPPED])),
    keeps_trans (keeps_bump d (R.POS_TRG_STATUS_SKIPPED g) (by simp [R.POS_TRG_STATUS_SKIPPED]))
      (keeps_setFld _ (R.POS_TRG_STATUS_OVERSPEED g) 1 (by simp [R.POS_TRG_STATUS_OVERSPEED]))⟩

/-- What a target that HWM reaches leaves, by its three outcomes (R41, R43, R44). -/
theorem ltrigTarget_outcome (d : Dev) (g t : Nat) (hg : g < 48) (hr : (d.advance t).genRuns g = true) (hn : ((d.advance t).gen g).next ≤ (d.advance t).pos.hwm) :
    let y := d.advance t
    let x := y.gen g
    let z := d.ltrigTarget g t
    (z.gen g).next = x.next + y.genPitch g ∧ (z.gen g).last = some x.next ∧
      ((x.waiting || y.floorWaits g) = true → z.fld (R.POS_TRG_STATUS_OVERSPEED g) = 1 ∧
        z.fld (R.POS_TRG_STATUS_SKIPPED g) = min (y.fld (R.POS_TRG_STATUS_SKIPPED g) + 1) 65535 ∧ y.keeps z (· = (R.POS_TRG_STATUS g).addr)) ∧
      (x.waiting = false → y.floorWaits g = false → y.time < y.ceilFree g → (z.gen g).waiting = true ∧ y.keeps z fun _ => False) ∧
      (x.waiting = false → y.ceilFree g ≤ y.time → z.fld (R.POS_TRG_ISSUED g) = (y.fld (R.POS_TRG_ISSUED g) + 1) % 2 ^ 32 ∧
        (z.gen g).lastTrig = some y.time ∧ y.keeps z fun a => a = (R.POS_TRG_ISSUED g).addr ∨ chanCount a) := by
  intro y x z
  have htaken : (y.targetTaken g).gen g = { x with last := some x.next, next := x.next + y.genPitch g } := gen_setGen_same ..
  have hkeeps : y.keeps (y.targetTaken g) fun _ => False := keeps_setGen ..
  have hz : z = _ := ltrigTarget_eq d g t hr hn
  by_cases hskip : (x.waiting || y.floorWaits g) = true
  · rw [if_pos hskip] at hz
    obtain ⟨hover, hcount, hframe⟩ := skip_fields (y.targetTaken g) g
    have hgen : z.gen g = (y.targetTaken g).gen g := by rw [hz]; exact gen_congr (by simp [Dev.bump, y]) g
    rw [hgen, htaken, hz]
    refine ⟨rfl, rfl, fun _ => ⟨hover, hcount, keeps_trans (keeps_mono hkeeps fun _ => False.elim) hframe⟩, fun h1 h2 => ?_, fun h1 h2 => ?_⟩
    · simp [h1, h2] at hskip
    · simp [h1, floorWaits_of_free y g h2] at hskip
  · rw [if_neg hskip] at hz
    by_cases hceil : y.time < y.ceilFree g
    · rw [if_pos hceil] at hz
      rw [hz, gen_setGen_same, htaken]
      exact ⟨rfl, rfl, fun h => absurd h hskip, fun _ _ _ => ⟨rfl, keeps_trans hkeeps (keeps_setGen ..)⟩, fun _ h => absurd hceil (Nat.not_lt.mpr h)⟩
    · rw [if_neg hceil] at hz
      rw [hz, issue_gen, htaken]
      exact ⟨rfl, rfl, fun h => absurd h hskip, fun _ _ h => absurd h hceil, fun _ _ => ⟨issue_issued _ g false hg, rfl,
        keeps_trans (keeps_mono hkeeps fun _ => False.elim) (keeps_issue ..)⟩⟩

/-- A timer that issues a trigger once time has passed consumes no target (R43, R44). -/
theorem issue_after_advance (d : Dev) (g t : Nat) (floor : Bool) (hg : g < 48) :
    let y := d.advance t
    let z := y.issue g floor
    z.fld (R.POS_TRG_ISSUED g) = (y.fld (R.POS_TRG_ISSUED g) + 1) % 2 ^ 32 ∧ (z.gen g).waiting = false ∧ (z.gen g).lastTrig = some y.time ∧
      (z.gen g).floorFrom = y.time ∧ (z.gen g).next = (d.gen g).next ∧ y.keeps z fun a => a = (R.POS_TRG_ISSUED g).addr ∨ chanCount a := by
  intro y z
  have hgen : y.gen g = d.gen g := gen_congr (timeStep_advance ..).gens g
  have hz : z.gen g = { d.gen g with lastTrig := some y.time, floorFrom := y.time, waiting := false } := by rw [← hgen]; exact issue_gen ..
  rw [hz]
  exact ⟨issue_issued y g floor hg, rfl, rfl, rfl, rfl, keeps_issue ..⟩

/-- CLEAR clears the counts of its generator (R43). -/
theorem trgClear_fields (d : Dev) (g : Nat) :
    (d.trgClear g).fld (R.POS_TRG_ISSUED g) = 0 ∧ (d.trgClear g).fld (R.POS_TRG_STATUS_SKIPPED g) = 0 ∧ (d.trgClear g).fld (R.POS_TRG_STATUS_OVERSPEED g) = 0 ∧
      d.keeps (d.trgClear g) fun a => a = (R.POS_TRG_ISSUED g).addr ∨ a = (R.POS_TRG_STATUS g).addr := by
  have hi : (d.setFld (R.POS_TRG_ISSUED g) 0).fld (R.POS_TRG_ISSUED g) = 0 := fld_setFld_same _ (R.POS_TRG_ISSUED g) 0 (by simp [R.POS_TRG_ISSUED])
  have hs : ((d.setFld (R.POS_TRG_ISSUED g) 0).setFld (R.POS_TRG_STATUS_SKIPPED g) 0).fld (R.POS_TRG_STATUS_SKIPPED g) = 0 :=
    fld_setFld_same _ (R.POS_TRG_STATUS_SKIPPED g) 0 (by simp [R.POS_TRG_STATUS_SKIPPED])
  refine ⟨?_, ?_, fld_setFld_same _ (R.POS_TRG_STATUS_OVERSPEED g) 0 (by simp [R.POS_TRG_STATUS_OVERSPEED]), ?_⟩
  · exact (fld_setFld_apart _ _ _ 0 (by simp [Fld.apart, R.POS_TRG_ISSUED, R.POS_TRG_STATUS_OVERSPEED])).trans
      ((fld_setFld_apart _ _ _ 0 (by simp [Fld.apart, R.POS_TRG_ISSUED, R.POS_TRG_STATUS_SKIPPED])).trans hi)
  · exact (fld_setFld_apart _ _ _ 0 (by simp [Fld.apart, R.POS_TRG_STATUS_SKIPPED, R.POS_TRG_STATUS_OVERSPEED])).trans hs
  · exact keeps_trans (keeps_mono (keeps_setFld d (R.POS_TRG_ISSUED g) 0 (by simp [R.POS_TRG_ISSUED])) fun _ => .inl)
      (keeps_trans (keeps_mono (keeps_setFld _ (R.POS_TRG_STATUS_SKIPPED g) 0 (by simp [R.POS_TRG_STATUS_SKIPPED])) fun _ => .inr)
        (keeps_mono (keeps_setFld _ (R.POS_TRG_STATUS_OVERSPEED g) 0 (by simp [R.POS_TRG_STATUS_OVERSPEED])) fun _ => .inr))

/-! ### The output grid -/

/-- The progress of a rotation is a matter of its context alone (R529). -/
theorem rotProgress_eq (d : Dev) : d.rotProgress = { d with host := d.rotProgress.host } := by
  unfold Dev.rotProgress
  split
  · split <;> rfl
  · rfl

/-- HWM reaches the grid position of the next output line in a framed mode (R46, R48). -/
theorem linePassed_eq (d : Dev) (t : Nat) (differs : Bool) (hm : (d.advance t).mode.framed = true) (ha : (d.advance t).atticReplay = false)
    (hg : (d.advance t).pos.grid ≠ []) (hp : (d.advance t).linePos (d.advance t).pos.linesPassed ≤ (d.advance t).pos.hwm) :
    let y := d.advance t
    let z : Dev := { y with pos := { y.pos with linesPassed := y.pos.linesPassed + 1 } }
    let u := (if differs then z.rotDiverge else z).rotProgress
    d.linePassed t differs = if u.isBoundary y.pos.linesPassed then u.boundary y.pos.linesPassed else u := by
  intro y z u
  have hif : ¬ ((!y.mode.framed || y.atticReplay || y.pos.grid.isEmpty || decide (y.pos.hwm < y.linePos y.pos.linesPassed)) = true) := by
    simp [show y.mode.framed = true from hm, show y.atticReplay = false from ha, show y.pos.grid ≠ [] from hg]
    exact hp
  exact if_neg hif

/-- Settles O13: a target by its three outcomes, the two timers by the trigger that they issue, and an output line by `linePassed_eq`. -/
theorem triggerGenerators : Obligations.TriggerGenerators := by
  unfold Obligations.TriggerGenerators
  constructor
  · intro s g hm counts
    refine ⟨?target, ?ceil, ?floor, ?clear⟩
    case target =>
      intro at_ d1 x hr hn
      exact completes_run _ (exec_ltrigTarget s g at_) hm (ltrigTarget_outcome s.start g at_ g.isLt hr hn)
    case ceil =>
      intro hw hr d1
      refine completes_run _ (exec_trgCeilExpiry s g) hm ?_
      rw [show s.start.ceilExpiry g = d1.issue g false from if_pos ⟨hw, hr⟩]
      obtain ⟨hissued, hwait, hlast, -, hnext, hkeeps⟩ := issue_after_advance s.start g (s.dev.ceilFree g) false g.isLt
      exact ⟨hissued, hwait, hlast, hnext, hkeeps⟩
    case floor =>
      intro hw hr hfl d1
      refine completes_run _ (exec_trgFloorExpiry s g) hm ?_
      have hdue : s.start.lflag (R.POS_TRG_FLOOR g) = true ∧ s.start.genRuns g = true ∧ (!(s.start.gen g).waiting) = true :=
        ⟨hfl, hr, by rw [show (s.start.gen g).waiting = false from hw]; rfl⟩
      rw [show s.start.floorExpiry g = d1.issue g true from if_pos hdue]
      obtain ⟨hissued, -, hlast, hfloor, hnext, hkeeps⟩ := issue_after_advance s.start g (max ((s.dev.gen g).floorFrom + s.dev.floorCycles g) (s.dev.ceilFree g)) true g.isLt
      exact ⟨hissued, hlast, hfloor, hnext, hkeeps⟩
    case clear =>
      intro v h3 d1
      refine completes_run _ (exec_trgClear s g v) hm ?_
      have hbit : bitOf (v.toNat ||| 0x80000000) 31 = true := bitOf_or_two_pow v.toNat 31
      rw [hostWrite_clear s.start g _ h3 hbit]
      exact trgClear_fields d1 g
  · intro s at_ differs hm d1 l hfr hrep hgrid hpos
    let z : Dev := { d1 with pos := { d1.pos with linesPassed := l + 1 } }
    let u := (if differs then z.rotDiverge else z).rotProgress
    have hrow : s.start.linePassed at_ differs = if l % u.pos.frameLines = 0 then u.boundary l else u := by
      refine (linePassed_eq s.start at_ differs hfr hrep hgrid hpos).trans ?_
      simp only [Dev.isBoundary, decide_eq_true_eq]
      rfl
    have hu : differs = false → u = { z with host := u.host } := fun h => by
      subst h
      exact rotProgress_eq z
    refine ⟨_, u, (exec_linePassed s at_ differs).trans ((run_eq s _ hm).trans (by rw [hrow])), rfl, rfl, fun h => by rw [hu h], fun h hl => ?_⟩
    have hupos : u.pos = z.pos := by rw [hu h]
    rw [if_neg (by rw [hupos]; exact hl), hupos]
    exact ⟨rfl, rfl, keeps_of_eq _ (by rw [hu h]) (by rw [hu h]) (by rw [hu h])⟩

end Sys2Proof.Machine
end

section
/-!
SUPPORT. Compare slots (R50 to R54), and the statement O14.
-/
namespace Sys2Proof.Machine

/-- The words that a slot's comparison and a write of its CMP_CTRL may change. -/
def cmpWord (k a : Nat) : Prop := a = (R.POS_CMP_STATUS k).addr ∨ a = (R.POS_CMP_CTRL k).addr ∨ chanCount a

/-! ### The note of a firing -/

theorem fld_setBit_same (d : Dev) (f : Fld) (h : f.lo + f.w ≤ 32 ∧ f.w = 1) : (d.setBit f).fld f = 1 := fldOf_setBit_same d f h
theorem fld_setBit_apart (d : Dev) (f g : Fld) (h : f.apart g) : (d.setBit f).fld g = d.fld g := fldOf_setBit_apart d f g h

/-- FIRED and FIRE_COUNT of a slot that fires (R51). -/
def Dev.firedNote (d : Dev) (k : Nat) : Dev := (d.setBit (R.POS_CMP_STATUS_FIRED k)).incr (R.POS_CMP_STATUS_FIRE_COUNT k)

/-- A late slot is noted as such too (R52). -/
theorem slotNote_eq (d : Dev) (k : Nat) (late : Bool) : d.slotNote k late = if late then (d.firedNote k).setBit (R.POS_CMP_STATUS_LATE k) else d.firedNote k := rfl

theorem firedNote_fields (d : Dev) (k : Nat) :
    (d.firedNote k).fld (R.POS_CMP_STATUS_FIRED k) = 1 ∧ (d.firedNote k).fld (R.POS_CMP_STATUS_FIRE_COUNT k) = (d.fld (R.POS_CMP_STATUS_FIRE_COUNT k) + 1) % 2 ^ 16 := by
  have hapart : (R.POS_CMP_STATUS_FIRE_COUNT k).apart (R.POS_CMP_STATUS_FIRED k) := by simp [Fld.apart, R.POS_CMP_STATUS_FIRE_COUNT, R.POS_CMP_STATUS_FIRED]
  have hapart' : (R.POS_CMP_STATUS_FIRED k).apart (R.POS_CMP_STATUS_FIRE_COUNT k) := by simp [Fld.apart, R.POS_CMP_STATUS_FIRE_COUNT, R.POS_CMP_STATUS_FIRED]
  have hset : (d.setBit (R.POS_CMP_STATUS_FIRED k)).fld (R.POS_CMP_STATUS_FIRED k) = 1 := fld_setBit_same d _ (by simp [R.POS_CMP_STATUS_FIRED])
  have hkept : (d.setBit (R.POS_CMP_STATUS_FIRED k)).fld (R.POS_CMP_STATUS_FIRE_COUNT k) = d.fld (R.POS_CMP_STATUS_FIRE_COUNT k) := fld_setBit_apart d _ _ hapart'
  constructor
  · exact (fld_setFld_apart _ _ _ _ hapart).trans hset
  · have h := fld_incr_same (d.setBit (R.POS_CMP_STATUS_FIRED k)) (R.POS_CMP_STATUS_FIRE_COUNT k) (by simp [R.POS_CMP_STATUS_FIRE_COUNT])
    rwa [hkept] at h

/-- A firing is noted in the slot's status (R51, R52). -/
theorem slotNote_fields (d : Dev) (k : Nat) (late : Bool) :
    (d.slotNote k late).fld (R.POS_CMP_STATUS_FIRED k) = 1 ∧
      (d.slotNote k late).fld (R.POS_CMP_STATUS_FIRE_COUNT k) = (d.fld (R.POS_CMP_STATUS_FIRE_COUNT k) + 1) % 2 ^ 16 ∧
      (late = true → (d.slotNote k late).fld (R.POS_CMP_STATUS_LATE k) = 1) := by
  obtain ⟨hfired, hcount⟩ := firedNote_fields d k
  rw [slotNote_eq]
  split
  · rw [fld_setBit_apart _ _ _ (show (R.POS_CMP_STATUS_LATE k).apart (R.POS_CMP_STATUS_FIRED k) by simp [Fld.apart, R.POS_CMP_STATUS_LATE, R.POS_CMP_STATUS_FIRED]),
      fld_setBit_apart _ _ _ (show (R.POS_CMP_STATUS_LATE k).apart (R.POS_CMP_STATUS_FIRE_COUNT k) by simp [Fld.apart, R.POS_CMP_STATUS_LATE, R.POS_CMP_STATUS_FIRE_COUNT])]
    exact ⟨hfired, hcount, fun _ => fld_setBit_same _ _ (by simp [R.POS_CMP_STATUS_LATE])⟩
  · next hl => exact ⟨hfired, hcount, fun h => absurd h hl⟩

theorem keeps_slotNote (d : Dev) (k : Nat) (late : Bool) : d.keeps (d.slotNote k late) (· = (R.POS_CMP_STATUS k).addr) := by
  have hset : d.keeps (d.setBit (R.POS_CMP_STATUS_FIRED k)) (· = (R.POS_CMP_STATUS k).addr) := keeps_setBit d _ (by simp [R.POS_CMP_STATUS_FIRED])
  have hnote : d.keeps (d.firedNote k) (· = (R.POS_CMP_STATUS k).addr) := keeps_trans hset (keeps_incr _ _ (by simp [R.POS_CMP_STATUS_FIRE_COUNT]))
  rw [slotNote_eq]
  split
  · exact keeps_trans hnote (keeps_setBit _ _ (by simp [R.POS_CMP_STATUS_LATE]))
  · exact hnote

/-! ### What follows a firing -/

/-- A slot without a PERIOD disarms and keeps its target; one with a PERIOD stays as it is armed, and its target moves on (R51). -/
theorem slotNext_fields (d : Dev) (k : Nat) (x : Slot) (r : Bool) :
    (x.period = 0 → (d.slotNext k x r).fld (R.POS_CMP_CTRL_ARM k) = 0 ∧ ((d.slotNext k x r).slot k).target = x.target) ∧
      (x.period ≠ 0 → (d.slotNext k x r).fld (R.POS_CMP_CTRL_ARM k) = d.fld (R.POS_CMP_CTRL_ARM k) ∧ ((d.slotNext k x r).slot k).target = x.target + x.period) := by
  constructor
  · intro h
    rw [Dev.slotNext, if_pos h, slot_setSlot_same]
    exact ⟨fld_setFld_same _ (R.POS_CMP_CTRL_ARM k) 0 (by simp [R.POS_CMP_CTRL_ARM]), rfl⟩
  · intro h
    rw [Dev.slotNext, if_neg h]
    dsimp only
    rw [slot_setSlot_same]
    exact ⟨rfl, rfl⟩

theorem keeps_slotNext (d : Dev) (k : Nat) (x : Slot) (r : Bool) : d.keeps (d.slotNext k x r) (· = (R.POS_CMP_CTRL k).addr) := by
  unfold Dev.slotNext
  split
  · exact keeps_trans (keeps_setFld d (R.POS_CMP_CTRL_ARM k) 0 (by simp [R.POS_CMP_CTRL_ARM])) (keeps_setSlot ..)
  · exact keeps_setSlot ..

@[simp] theorem slotNext_time (d : Dev) (k : Nat) (x : Slot) (r : Bool) : (d.slotNext k x r).time = d.time := by
  unfold Dev.slotNext Dev.disarmSlot
  split <;> simp

@[simp] theorem slotNote_time (d : Dev) (k : Nat) (late : Bool) : (d.slotNote k late).time = d.time := by rw [slotNote_eq]; split <;> simp [Dev.firedNote, Dev.incr]

/-! ### The comparison -/

/-- The part once slot `k` has fired: noted, moved on or disarmed, and its event made (R51). -/
def Dev.cmpFired (d : Dev) (k : Nat) : Dev :=
  ((d.slotNote k (d.slot k).late).slotNext k (d.slot k) (decide ((d.slot k).target ≤ d.slotReach (d.slot k)))).fire (P.cmp k)

/-- A slot that compares, has reached its target or is late, and has a source of position, fires (R51, R52, R54). -/
theorem cmpNow_of_hit (d : Dev) (k : Nat) (hl : d.slotLooks k = true) (hp : d.flag R.POS_STATUS_POS_LOST = false)
    (h : ((d.slot k).late || (d.slot k).hit (decide ((d.slot k).target ≤ d.slotReach (d.slot k)))) = true) : d.cmpNow k = (d.cmpFired k, true) := by
  unfold Dev.cmpNow
  dsimp only
  rw [if_neg (by rw [hl]; simp), if_pos (by rw [h, hp]; rfl)]
  rfl

theorem keeps_cmpFired (d : Dev) (k : Nat) : d.keeps (d.cmpFired k) (cmpWord k) :=
  keeps_trans (keeps_mono (keeps_slotNote d k _) fun _ => .inl) (keeps_trans (keeps_mono (keeps_slotNext _ k _ _) fun _ h => .inr (.inl h))
    (keeps_mono (keeps_fire _ _ _ _ _ (by decide)) fun _ h => .inr (.inr h)))

/-- What a firing leaves in the slot's registers (R51, R52). -/
theorem cmpFired_fields (d : Dev) (k : Nat) (hk : k < 256) :
    (d.cmpFired k).fld (R.POS_CMP_STATUS_FIRED k) = 1 ∧
      (d.cmpFired k).fld (R.POS_CMP_STATUS_FIRE_COUNT k) = (d.fld (R.POS_CMP_STATUS_FIRE_COUNT k) + 1) % 2 ^ 16 ∧
      ((d.slot k).late = true → (d.cmpFired k).fld (R.POS_CMP_STATUS_LATE k) = 1) ∧
      ((d.slot k).period = 0 → (d.cmpFired k).fld (R.POS_CMP_CTRL_ARM k) = 0 ∧ ((d.cmpFired k).slot k).target = (d.slot k).target) ∧
      ((d.slot k).period ≠ 0 → (d.cmpFired k).fld (R.POS_CMP_CTRL_ARM k) = d.fld (R.POS_CMP_CTRL_ARM k) ∧
        ((d.cmpFired k).slot k).target = (d.slot k).target + (d.slot k).period) := by
  let y := d.slotNote k (d.slot k).late
  let z := y.slotNext k (d.slot k) (decide ((d.slot k).target ≤ d.slotReach (d.slot k)))
  have hfire : ∀ f : Fld, f.addr = (R.POS_CMP_STATUS k).addr ∨ f.addr = (R.POS_CMP_CTRL k).addr → (d.cmpFired k).fld f = z.fld f := fun f hf =>
    fire_fld z _ _ _ _ f (by decide) (by simp only [R.POS_CMP_STATUS, R.POS_CMP_CTRL] at hf; simp only [Fld.offChan]; omega)
  have hstatus : ∀ f : Fld, f.addr = (R.POS_CMP_STATUS k).addr → f.lo + f.w ≤ 32 → (d.cmpFired k).fld f = y.fld f := fun f hf hw =>
    (hfire f (.inl hf)).trans ((keeps_slotNext y k _ _).fld f (by rw [hf]; simp [R.POS_CMP_STATUS, R.POS_CMP_CTRL]) (by omega))
  have hslot : (d.cmpFired k).slot k = z.slot k := slot_congr (congrArg PosState.slots (Dev.fire_pos ..)) k
  obtain ⟨hfired, hcount, hlate⟩ := slotNote_fields d k (d.slot k).late
  obtain ⟨hdone, hmove⟩ := slotNext_fields y k (d.slot k) (decide ((d.slot k).target ≤ d.slotReach (d.slot k)))
  rw [hstatus (R.POS_CMP_STATUS_FIRED k) rfl (by simp [R.POS_CMP_STATUS_FIRED]), hstatus (R.POS_CMP_STATUS_FIRE_COUNT k) rfl (by simp [R.POS_CMP_STATUS_FIRE_COUNT]),
    hstatus (R.POS_CMP_STATUS_LATE k) rfl (by simp [R.POS_CMP_STATUS_LATE]), hfire (R.POS_CMP_CTRL_ARM k) (.inr rfl), hslot]
  refine ⟨hfired, hcount, hlate, hdone, fun h => ⟨(hmove h).1.trans ?_, (hmove h).2⟩⟩
  exact (keeps_slotNote d k _).fld (R.POS_CMP_CTRL_ARM k) (by simp [R.POS_CMP_STATUS, R.POS_CMP_CTRL_ARM]) fun h => absurd h (by simp [R.POS_CMP_CTRL_ARM])

/-- A comparison, whatever its outcome, is of its slot alone. -/
theorem cmpNow_frame (d : Dev) (k : Nat) : (d.cmpNow k).1.time = d.time ∧ d.keeps (d.cmpNow k).1 (cmpWord k) := by
  unfold Dev.cmpNow
  dsimp only
  split
  · exact ⟨rfl, keeps_refl ..⟩
  · split
    · exact ⟨by simp, keeps_cmpFired d k⟩
    · exact ⟨rfl, keeps_setSlot ..⟩

/-! ### Arming -/

/-- A plain write changes its word alone. -/
theorem plainWrite_frame (d : Dev) (a v : Nat) : (d.plainWrite a v).time = d.time ∧ d.keeps (d.plainWrite a v) (· = a) := by
  unfold Dev.plainWrite
  split
  · exact ⟨rfl, keeps_refl ..⟩
  · exact ⟨rfl, keeps_setReg ..⟩

/-- A slot is armed with the values given (R50, R52). -/
theorem armSlot_fields (d : Dev) (k : Nat) (target : Int) (period lead : Nat) (both : Bool) :
    let y := d.armSlot k target period lead both
    y.fld (R.POS_CMP_CTRL_ARM k) = 1 ∧ (y.slot k).target = target ∧ (y.slot k).lead = lead ∧ (y.slot k).period = (if period = 0 then 0 else max period 16) ∧
      (y.slot k).since = d.time + 1 ∧ y.fld (R.POS_CMP_STATUS_FIRE_COUNT k) = 0 ∧ d.keeps y (cmpWord k) := by
  let x : Slot := { target := target, period := if period = 0 then 0 else max period 16, lead := lead, both := both, since := d.time + 1 }
  let r := decide (x.target ≤ d.slotReach x)
  let z := d.setSlot k { x with beyond := r, late := !both && r }
  have hslot : (d.armSlot k target period lead both).slot k = z.slot k :=
    slot_congr (congrArg PosState.slots ((Dev.setFld_pos _ (R.POS_CMP_STATUS_FIRE_COUNT k) 0).trans (Dev.setFld_pos _ (R.POS_CMP_CTRL_ARM k) 1))) k
  dsimp only
  rw [hslot, slot_setSlot_same]
  refine ⟨?_, rfl, rfl, rfl, rfl, fld_setFld_same _ (R.POS_CMP_STATUS_FIRE_COUNT k) 0 (by simp [R.POS_CMP_STATUS_FIRE_COUNT]), ?_⟩
  · exact (fld_setFld_apart _ (R.POS_CMP_STATUS_FIRE_COUNT k) _ 0 (by simp [Fld.apart, R.POS_CMP_STATUS_FIRE_COUNT, R.POS_CMP_CTRL_ARM])).trans
      (fld_setFld_same _ (R.POS_CMP_CTRL_ARM k) 1 (by simp [R.POS_CMP_CTRL_ARM]))
  · exact keeps_trans (keeps_setSlot d k _ _) (keeps_trans (keeps_mono (keeps_setFld z (R.POS_CMP_CTRL_ARM k) 1 (by simp [R.POS_CMP_CTRL_ARM])) fun _ h => .inr (.inl h))
      (keeps_mono (keeps_setFld _ (R.POS_CMP_STATUS_FIRE_COUNT k) 0 (by simp [R.POS_CMP_STATUS_FIRE_COUNT])) fun _ => .inl))

/-- The part in which a write of CMP_CTRL finds its slot: the comparison of the cycle is made, and the word's fields are written (R50, R53). -/
def Dev.cmpWritten (d : Dev) (k v : Nat) : Dev := (d.cmpNow k).1.plainWrite (0x104000 + k * 0x20 + 0x10) v

/-- A write of CMP_CTRL of a slot outside every pool arms or disarms it (R50). -/
theorem cmpWrite_ctrl (d : Dev) (k v : Nat) (h : d.slotOwned k = false) :
    let y := d.cmpWritten k v
    d.cmpWrite k 0x10 v =
      if bitOf v 0 then y.armSlot k (y.sfld (R.POS_CMP_TARGET k)) (y.fld (R.POS_CMP_PERIOD k)) (y.fld (R.POS_CMP_LEAD k)) (y.flag (R.POS_CMP_CTRL_BOTH k))
      else y.disarmSlot k := by
  simp [Dev.cmpWrite, h, Dev.cmpWritten]

theorem cmpWritten_frame (d : Dev) (k v : Nat) : (d.cmpWritten k v).time = d.time ∧ d.keeps (d.cmpWritten k v) (cmpWord k) := by
  obtain ⟨htime, hkeeps⟩ := cmpNow_frame d k
  obtain ⟨htime', hkeeps'⟩ := plainWrite_frame (d.cmpNow k).1 (0x104000 + k * 0x20 + 0x10) v
  refine ⟨htime'.trans htime, keeps_trans hkeeps (keeps_mono hkeeps' fun a ha => .inr (.inl (ha.trans ?_)))⟩
  simp only [R.POS_CMP_CTRL]
  omega

/-- The words that a slot reads when it is armed are not those that its comparison changes. -/
theorem cmpWritten_fld (d : Dev) (k v : Nat) (hk : k < 256) (f : Fld) (hlo : 0x104000 + k * 0x20 ≤ f.addr)
    (hhi : f.addr + 4 < 0x104010 + k * 0x20 ∨ f.addr < 0x104010 + k * 0x20 ∧ f.lo + f.w ≤ 32) : (d.cmpWritten k v).fld f = d.fld f := by
  have hoff : ∀ a, 0x104000 + k * 0x20 ≤ a → a < 0x104010 + k * 0x20 → ¬ cmpWord k a := by
    rintro a h1 h2 (h | h | h)
    · simp only [R.POS_CMP_STATUS] at h; omega
    · simp only [R.POS_CMP_CTRL] at h; omega
    · exact not_chanCount (by omega) h
  exact (cmpWritten_frame d k v).2.fld f (hoff _ hlo (by omega)) fun hw => hoff _ (by omega) (by omega)

/-- Bit 0 of a number. -/
theorem bitOf_zero (v : Nat) : bitOf v 0 = decide (v % 2 = 1) := by simp [bitOf]

/-- R50, R52, R53: what a write of CMP_CTRL leaves of a slot outside every pool. -/
theorem cmpWrite_ctrl_fields (d : Dev) (k v : Nat) (hk : k < 256) (h : d.slotOwned k = false) :
    let y := d.cmpWrite k 0x10 v
    y.fld (R.POS_CMP_CTRL_ARM k) = v % 2 ∧
      (v % 2 = 1 → (y.slot k).target = d.sfld (R.POS_CMP_TARGET k) ∧ (y.slot k).lead = d.fld (R.POS_CMP_LEAD k) ∧
        (y.slot k).period = (if d.fld (R.POS_CMP_PERIOD k) = 0 then 0 else max (d.fld (R.POS_CMP_PERIOD k)) 16) ∧ (y.slot k).since = d.time + 1 ∧
        y.fld (R.POS_CMP_STATUS_FIRE_COUNT k) = 0) ∧
      d.keeps y (cmpWord k) := by
  let z := d.cmpWritten k v
  obtain ⟨htime, hkeeps⟩ := cmpWritten_frame d k v
  have hread := cmpWritten_fld d k v hk
  have htarget : z.sfld (R.POS_CMP_TARGET k) = d.sfld (R.POS_CMP_TARGET k) :=
    congrArg (sx 64) (hread (R.POS_CMP_TARGET k) (by simp [R.POS_CMP_TARGET]) (.inl (by simp only [R.POS_CMP_TARGET]; omega)))
  have hlead : z.fld (R.POS_CMP_LEAD k) = d.fld (R.POS_CMP_LEAD k) := hread (R.POS_CMP_LEAD k) (by simp [R.POS_CMP_LEAD]) (by simp [R.POS_CMP_LEAD])
  have hperiod : z.fld (R.POS_CMP_PERIOD k) = d.fld (R.POS_CMP_PERIOD k) := hread (R.POS_CMP_PERIOD k) (by simp [R.POS_CMP_PERIOD]) (by simp [R.POS_CMP_PERIOD])
  intro y
  have hy : y = _ := cmpWrite_ctrl d k v h
  rw [bitOf_zero] at hy
  by_cases hv : v % 2 = 1
  · rw [if_pos (decide_eq_true hv)] at hy
    obtain ⟨harm, htg, hld, hpd, hsince, hcount, hframe⟩ :=
      armSlot_fields z k (z.sfld (R.POS_CMP_TARGET k)) (z.fld (R.POS_CMP_PERIOD k)) (z.fld (R.POS_CMP_LEAD k)) (z.flag (R.POS_CMP_CTRL_BOTH k))
    have hpd' := hpd.trans (by rw [hperiod])
    rw [hy]
    exact ⟨harm.trans hv.symm, fun _ => ⟨htg.trans htarget, hld.trans hlead, hpd', hsince.trans (congrArg (· + 1) htime), hcount⟩, keeps_trans hkeeps hframe⟩
  · rw [if_neg (by simpa using hv)] at hy
    have hzero : v % 2 = 0 := by omega
    rw [hy, hzero]
    exact ⟨fld_setFld_same _ (R.POS_CMP_CTRL_ARM k) 0 (by simp [R.POS_CMP_CTRL_ARM]), fun h => absurd h (by decide),
      keeps_trans hkeeps (keeps_mono (keeps_setFld _ (R.POS_CMP_CTRL_ARM k) 0 (by simp [R.POS_CMP_CTRL_ARM])) fun _ h => .inr (.inl h))⟩

/-- An armed slot that is due by its target, or late, fires when its row comes (R51, R52, R54). -/
theorem cmpFire_of_armed (d : Dev) (k t : Nat) (hk : k < 256) (harm : d.flag (R.POS_CMP_CTRL_ARM k) = true) :
    let x := d.slot k
    let y := d.advance (max t x.since)
    (x.late || x.hit (decide (x.target ≤ y.slotReach x))) = true → y.flag R.POS_STATUS_POS_LOST = false → y.slot k = x ∧ d.cmpFire k t = (y.cmpFired k, true) := by
  intro x y hhit hlost
  have hT : TimeStep d y := timeStep_advance ..
  have hslot : y.slot k = x := slot_congr hT.slots k
  have hfld : y.fld (R.POS_CMP_CTRL_ARM k) = d.fld (R.POS_CMP_CTRL_ARM k) :=
    hT.fld _ (not_timeWord (by simp only [R.POS_CMP_CTRL_ARM]; omega) (by simp only [R.POS_CMP_CTRL_ARM]; omega)) fun h => absurd h (by simp [R.POS_CMP_CTRL_ARM])
  have harm' : y.flag (R.POS_CMP_CTRL_ARM k) = true := by rw [Dev.flag, hfld]; exact harm
  have hsince : (y.slot k).since ≤ y.time := by
    have htime : y.time = max d.time (max t x.since) := advance_time ..
    rw [hslot, htime]
    omega
  have hlooks : y.slotLooks k = true := by simp [Dev.slotLooks, harm', hsince]
  have hnow : d.cmpFire k t = y.cmpNow k := by simp [Dev.cmpFire, harm, y, x]
  exact ⟨hslot, hnow.trans (cmpNow_of_hit y k hlooks hlost (by rw [hslot]; exact hhit))⟩

/-- Settles O14: a firing leaves what `cmpFired_fields` says, and a write of CMP_CTRL what `cmpWrite_ctrl_fields` says. -/
theorem compareSlots : Obligations.CompareSlots := by
  unfold Obligations.CompareSlots
  intro s k hm
  constructor
  · intro at_ harm x d1 r hhit hlost
    obtain ⟨hslot, hfire⟩ := cmpFire_of_armed s.start k at_ k.isLt harm hhit hlost
    have hrow : s.start.cmpRow k at_ = if (d1.cmpFired k).slotOwned k then (d1.cmpFired k).slotFired k else d1.cmpFired k := by
      rw [Dev.cmpRow, hfire]
      rfl
    obtain ⟨hfired, hcount, hlate, hdone, hmove⟩ := cmpFired_fields d1 k k.isLt
    rw [show d1.slot k = x from hslot] at hlate hdone hmove
    exact ⟨d1.cmpFired k, (exec_cmpFire s k at_).trans ((run_eq s _ hm).trans (by rw [hrow])), hfired, hcount, hlate, hdone, hmove, keeps_cmpFired d1 k⟩
  · intro v h3
    have hwrite : s.start.hostWrite (0x104010 + 0x20 * k) v.toNat = s.start.cmpWrite k 0x10 v.toNat := hostWrite_cmpCtrl s.start k _ h3
    constructor
    · intro hown
      refine completes_run _ (exec_cmpArm s k v) hm ?_
      rw [hwrite, show s.start.cmpWrite k 0x10 v.toNat = s.start.raise R.PLZ_EVENTS_SLOT_WRITE from if_pos hown]
      exact ⟨raise_fld _ _ (by decide) rfl (not_chanCount (by decide)), Dev.raise_pos .., keeps_raise s.start R.PLZ_EVENTS_SLOT_WRITE (by decide)⟩
    · intro hown
      refine completes_run _ (exec_cmpArm s k v) hm ?_
      rw [hwrite]
      exact cmpWrite_ctrl_fields s.start k v.toNat k.isLt hown

end Sys2Proof.Machine
end

section
/-!
SUPPORT. What the exclusion of an encoder, a judgement of motion and the forming of MD leave alone (R28, R30, R34, R37, R57), and the statement O11.
-/
namespace Sys2Proof.Machine

/-! ### Fault bits while encoders are excluded -/

/-- A bit of POS.FAULT below those that the loss of the master, the cross-check and the loss of position set. -/
abbrev encFault (g : Fld) : Prop := g.addr = R.POS_FAULT.addr ∧ g.lo + g.w ≤ 20

theorem fld_of_encFault_raise (d : Dev) (f g : Fld) (hg : encFault g) (hf : f.addr = R.POS_FAULT.addr) (hlo : 20 ≤ f.lo) (h32 : f.lo + f.w ≤ 32) :
    (d.raise f).fld g = d.fld g := by
  obtain ⟨ha, hw⟩ := hg
  refine raise_fld_apart d f g (.inr ⟨by omega, h32, by omega, by omega⟩) (.inl ?_)
  simp only [ha, R.POS_FAULT]
  omega

theorem fld_of_encFault_setFld (d : Dev) (f g : Fld) (v : Nat) (hg : encFault g) (hf : f.addr ≠ R.POS_FAULT.addr) (h32 : f.lo + f.w ≤ 32) :
    (d.setFld f v).fld g = d.fld g := by
  obtain ⟨ha, hw⟩ := hg
  exact fld_setFld_apart d f g v (.inl ⟨by omega, by omega, by omega⟩)

theorem posLost_encFault (d : Dev) (g : Fld) (hg : encFault g) : d.posLost.fld g = d.fld g :=
  (fld_of_encFault_raise _ R.POS_FAULT_POS_LOST g hg rfl (by decide) (by decide)).trans (fld_of_encFault_setFld d R.POS_STATUS_POS_LOST g 1 hg (by decide) (by decide))

/-- Forming WPOS leaves the encoders' fault bits alone, though it may find that no source of position is left. -/
theorem formWpos_encFault (d : Dev) (g : Fld) (hg : encFault g) : d.formWpos.fld g = d.fld g := by
  unfold Dev.formWpos
  dsimp only
  split
  · split
    · rfl
    · split
      · rfl
      · exact posLost_encFault _ g hg
  · split
    · rfl
    · exact fld_of_encFault_setFld _ R.POS_STATUS_POS_LOST g 0 hg (by decide) (by decide)

theorem formWpos_encs (d : Dev) : d.formWpos.pos.encs = d.pos.encs := by
  unfold Dev.formWpos
  dsimp only
  repeat' split
  all_goals simp [Dev.newSet, Dev.posLost]

/-- Excluding an encoder leaves the fault bits alone (R28). -/
theorem exclude_encFault (d : Dev) (e : Nat) (g : Fld) (hg : encFault g) : (d.exclude e).fld g = d.fld g := by
  unfold Dev.exclude
  split
  · rfl
  · have h := formWpos_encFault (d.setEnc e { d.enc e with excluded := true }) g hg
    dsimp only
    split
    · exact h
    · exact (fld_of_encFault_setFld _ (Fld.bit R.GLB_MISSING_CAUSE 0) g 1 hg (by decide) (by decide)).trans h

/-- Excluding an encoder marks it alone, where encoders are combined and it is enabled (R28). -/
theorem exclude_excluded (d : Dev) (e i : Nat) :
    ((d.exclude e).enc i).excluded = ((d.enc i).excluded || (decide (i = e) && decide (d.combine ≠ 0) && d.lflag (R.POS_ENC_CFG_ENABLE e))) := by
  let y := d.setEnc e { d.enc e with excluded := true }
  have hy : (y.enc i).excluded = ((d.enc i).excluded || decide (i = e)) := by
    by_cases hi : i = e
    · subst hi
      simp [y]
    · rw [enc_setEnc_other d e i _ hi]
      simp [hi]
  have hform : y.formWpos.enc i = y.enc i := by rw [Dev.enc, formWpos_encs, Dev.enc]
  unfold Dev.exclude
  split
  · next h =>
    rcases h with h | h | h
    · simp [h]
    · by_cases hi : i = e
      · subst hi; simp [h]
      · simp [hi]
    · simp only [Bool.not_eq_eq_eq_not, Bool.not_true] at h
      simp [h]
  · next h =>
    have hon : d.combine ≠ 0 ∧ d.lflag (R.POS_ENC_CFG_ENABLE e) = true := ⟨fun hc => h (.inl hc), by by_contra hc; exact h (.inr (.inr (by simpa using hc)))⟩
    simp only [hon.1, hon.2, ne_eq, not_false_eq_true, decide_true, Bool.and_true]
    rw [← hy, ← hform]
    split
    · rfl
    · exact congrArg Enc.excluded (enc_congr (Dev.setFld_pos ..) i)

/-! ### What a judgement of motion reads (R36, R37) -/

/-- The words of POS.STATUS and of the channel counters, which a judgement of motion may change and does not read. -/
def motionWord (a : Nat) : Prop := a = R.POS_STATUS.addr ∨ chanCount a

theorem not_motionWord {a : Nat} (h : a ≠ 0x100004) (h2 : a < 0x402000 ∨ 0x403000 ≤ a) : ¬ motionWord a := by
  rintro (e | e)
  · exact h e
  · exact not_chanCount h2 e

theorem motionWord_timeWord {a : Nat} (h : motionWord a) : timeWord a := h.elim .inl fun h => .inr (.inr (.inr (.inr h)))

/-- What a rule of this cycle reads in a word that an effect leaves alone. -/
theorem Dev.keeps.fldNow {d d' : Dev} {P : Nat → Prop} (h : d.keeps d' P) (hn : d'.noted = d.noted) (f : Fld) (h1 : ¬ P f.addr) (h2 : ¬ P (f.addr + 4)) :
    d'.fldNow f = d.fldNow f := by
  have hseen : ∀ a, ¬ P a → d'.regNow a = d.regNow a := fun a ha => by rw [regNow_eq, regNow_eq, hn, h.1 a ha]
  exact fldNow_congr (hseen _ h1) (hseen _ h2)

/-- What tells the motion of two parts apart is none of SPEED, the slots, the times of stops, POS.STATUS and the channel counters. -/
theorem movesNow_congr {d d' : Dev} (hk : d.keeps d' motionWord) (ht : d'.time = d.time)
    (hp : d'.pos = { d.pos with speed := d'.pos.speed, slots := d'.pos.slots, stopFrom := d'.pos.stopFrom }) : d'.movesNow = d.movesNow := by
  have hnoted : d'.noted = d.noted := by unfold Dev.noted; rw [ht, hp]
  have hnow : ∀ f : Fld, 0x100008 ≤ f.addr → f.addr + 4 < 0x402000 → d'.fldNow f = d.fldNow f := fun f h1 h2 =>
    hk.fldNow hnoted f (not_motionWord (by omega) (by omega)) (not_motionWord (by omega) (by omega))
  have hlive : ∀ f : Fld, 0x100000 ≤ f.addr → f.addr + 0x8004 < 0x402000 → d'.live f = d.live f := fun f h1 h2 =>
    hk.fld (liveOf f) (not_motionWord (by simp only [liveOf]; omega) (by simp only [liveOf]; omega)) fun _ => not_motionWord (by simp only [liveOf]; omega) (by simp only [liveOf]; omega)
  have henc : ∀ e, d'.enc e = d.enc e := fun e => by unfold Dev.enc; rw [hp]
  have hinv : d'.dirInvert = d.dirInvert := by
    show decide (d'.live R.POS_CTRL_DIR_INVERT ≠ 0) = decide (d.live R.POS_CTRL_DIR_INVERT ≠ 0)
    rw [hlive _ (by decide) (by decide)]
  have hsource : d'.speedSource = d.speedSource := by
    unfold Dev.speedSource Dev.sourceOf
    rw [hlive R.POS_CTRL_REF_ENC (by decide) (by decide), hp]
  have hwin : d'.speedWin = d.speedWin := by unfold Dev.speedWin; rw [hnow R.POS_MOTION_CFG_SPEED_WIN (by decide) (by decide)]
  have hstop : d'.stopCycles = d.stopCycles := by unfold Dev.stopCycles; rw [hnow R.POS_MOTION_CFG_STOP_US (by decide) (by decide)]
  have hest : d'.speedEst d.time = d.speedEst d.time := by
    unfold Dev.speedEst
    rw [hsource, hwin, hinv, hlive R.POS_SCALE (by decide) (by decide)]
    simp only [henc]
  unfold Dev.movesNow
  rw [hnow R.POS_MOVE_SPEED (by decide) (by decide), hsource, hstop, ht, hest, hp]
  simp only [henc]

/-! ### The end and the start of motion (R37) -/

/-- The part once motion has ended: STOPPED, with SPEED at zero, its slots settled, and MOTION_STOP made. -/
def Dev.halted (d : Dev) : Dev :=
  ({ (d.setFld R.POS_STATUS_STOPPED 1).setFld R.POS_STATUS_MOVING 0 with pos := { d.pos with speed := 0, stopFrom := d.time } } : Dev).settleSlots.fire P.motionStop

theorem motionStop_eq (d : Dev) : d.motionStop = if d.flag R.POS_STATUS_MOVING ∧ !d.movesNow then d.halted else d := by
  unfold Dev.motionStop Dev.halted
  simp

/-- The end of motion moves SPEED, the slots and the time of the stop, and nothing else of the position unit. -/
theorem halted_pos (d : Dev) : d.halted.pos = { d.pos with speed := 0, slots := d.halted.pos.slots, stopFrom := d.time } := by
  unfold Dev.halted
  rw [Dev.fire_pos]
  rfl

@[simp] theorem halted_time (d : Dev) : d.halted.time = d.time := by simp [Dev.halted, Dev.settleSlots]
@[simp] theorem halted_mode (d : Dev) : d.halted.mode = d.mode := by simp [Dev.halted, Dev.settleSlots]

/-- A field of POS.STATUS, once motion has ended, is what the two flags of motion leave. -/
theorem halted_fld (d : Dev) (g : Fld) (h : g.offChan) : d.halted.fld g = ((d.setFld R.POS_STATUS_STOPPED 1).setFld R.POS_STATUS_MOVING 0).fld g :=
  fire_fld _ _ _ _ _ g (by decide) h

theorem halted_stopped (d : Dev) : d.halted.fld R.POS_STATUS_STOPPED = 1 ∧ d.halted.fld R.POS_STATUS_MOVING = 0 := by
  rw [halted_fld d _ (by decide), halted_fld d _ (by decide), fld_setFld_apart _ _ _ _ (by decide)]
  exact ⟨fld_setFld_same _ R.POS_STATUS_STOPPED 1 (by decide), fld_setFld_same _ R.POS_STATUS_MOVING 0 (by decide)⟩

theorem keeps_halted (d : Dev) : d.keeps d.halted motionWord := by
  have h1 : d.keeps (d.setFld R.POS_STATUS_STOPPED 1) motionWord := keeps_mono (keeps_setFld d _ _ (by decide)) fun _ => .inl
  have h2 := keeps_trans h1 (keeps_mono (keeps_setFld _ R.POS_STATUS_MOVING 0 (by decide)) fun _ => .inl)
  have h3 := keeps_trans h2 (keeps_pos _ { d.pos with speed := 0, stopFrom := d.time } motionWord)
  exact keeps_trans h3 (keeps_trans (keeps_pos ..) (keeps_mono (keeps_fire _ _ _ _ _ (by decide)) fun _ => .inr))

/-- A part that does not move does not begin to. -/
theorem motionStart_of_still (d : Dev) (h : d.movesNow = false) : d.motionStart = (d, false) := by simp [Dev.motionStart, h]

/-- A part that is moving by its flag and not by its speed source stops (R37). -/
theorem motionRow_of_still (d : Dev) (t : Nat) (hf : (d.advance t).flag R.POS_STATUS_MOVING = true) (hm : (d.advance t).movesNow = false) :
    d.motionRow t = (d.advance t).halted := by
  have hstop : (d.advance t).motionStop = (d.advance t).halted := by rw [motionStop_eq, if_pos ⟨hf, by rw [hm]; rfl⟩]
  have hstill : (d.advance t).halted.movesNow = false := (movesNow_congr (keeps_halted _) (halted_time _) (by rw [halted_pos])).trans hm
  unfold Dev.motionRow
  rw [hstop, motionStart_of_still _ hstill]
  exact motionEvent_false _

/-! ### The statement -/

/-- R26: a forward Z edge with one noted before; the distance from Z_COUNT decides. -/
theorem zEdge_of_forward (d : Dev) (e t : Nat) {k : EncEdge} {rest : List EncEdge} {z : Int} (hedges : ((d.advance t).enc e).edges = k :: rest)
    (hfwd : k.fwd ≠ (d.advance t).dirInvert) (hen : (d.advance t).lflag (R.POS_ENC_CFG_Z_ENABLE e) = true) (hz : ((d.advance t).enc e).zRef = some z) :
    let y := d.advance t
    let x := y.enc e
    let u := y.setEnc e { x with zRef := some x.count }
    d.zEdge e t =
      if y.fldNow (R.POS_Z_TOL e) < ((if y.dirInvert then z - x.count else x.count - z) - y.fldNow (R.POS_Z_COUNT e)).natAbs then
        ((u.bump (R.POS_ERR_COUNT_ZSLIP_CNT e)).raise (Fld.bit R.POS_FAULT_ZSLIP e)).exclude e
      else u := by
  intro y x u
  unfold Dev.zEdge
  dsimp only
  rw [if_neg (by simp [hen, hedges, hfwd]), hz]
  rfl

/-- R26: what a Z slip leaves. -/
theorem zSlip_fields (d : Dev) (e : Nat) (he : e < 4) :
    let y := ((d.bump (R.POS_ERR_COUNT_ZSLIP_CNT e)).raise (Fld.bit R.POS_FAULT_ZSLIP e)).exclude e
    y.fld (Fld.bit R.POS_FAULT_ZSLIP e) = 1 ∧ y.fld (R.POS_ERR_COUNT_ZSLIP_CNT e) = min (d.fld (R.POS_ERR_COUNT_ZSLIP_CNT e) + 1) 65535 ∧
      (y.enc e).zRef = (d.enc e).zRef ∧ (y.enc e).count = (d.enc e).count ∧ d.keeps y fun a => timeWord a ∨ a = (R.POS_ERR_COUNT e).addr := by
  let u := d.bump (R.POS_ERR_COUNT_ZSLIP_CNT e)
  let v := u.raise (Fld.bit R.POS_FAULT_ZSLIP e)
  have h20 : (Fld.bit R.POS_FAULT_ZSLIP e).lo + (Fld.bit R.POS_FAULT_ZSLIP e).w ≤ 20 := by simp only [Fld.bit, R.POS_FAULT_ZSLIP]; omega
  have hT : TimeStep u (v.exclude e) := (timeStep_fault u (Fld.bit R.POS_FAULT_ZSLIP e) rfl (by omega)).trans (timeStep_exclude ..)
  have henc : ∀ i, u.enc i = d.enc i := fun i => enc_congr (Dev.setFld_pos ..) i
  refine ⟨?_, ?_, (hT.zRef e).trans (by rw [henc]), (hT.count e).trans (by rw [henc]), ?_⟩
  · exact (exclude_encFault v e (Fld.bit R.POS_FAULT_ZSLIP e) ⟨rfl, h20⟩).trans (raise_fld u _ (by omega) rfl (not_chanCount (by simp [Fld.bit, R.POS_FAULT_ZSLIP])))
  · refine (hT.fld (R.POS_ERR_COUNT_ZSLIP_CNT e) ?_ fun h => absurd h (by simp [R.POS_ERR_COUNT_ZSLIP_CNT])).trans
      (fld_bump_same d (R.POS_ERR_COUNT_ZSLIP_CNT e) (by simp [R.POS_ERR_COUNT_ZSLIP_CNT]))
    exact not_timeWord (by simp only [R.POS_ERR_COUNT_ZSLIP_CNT]; omega) (by simp only [R.POS_ERR_COUNT_ZSLIP_CNT]; omega)
  · exact keeps_trans (keeps_mono (keeps_bump d (R.POS_ERR_COUNT_ZSLIP_CNT e) (by simp [R.POS_ERR_COUNT_ZSLIP_CNT])) fun _ => .inr) (keeps_mono hT.keeps fun _ => .inl)

/-- R28: what a LOST encoder leaves. -/
theorem lost_fields (d : Dev) (e : Nat) (he : e < 4) (hen : d.lflag (R.POS_ENC_CFG_ENABLE e) = true) :
    let y := (d.raise (Fld.bit R.POS_FAULT_LOST e)).exclude e
    y.fld (Fld.bit R.POS_FAULT_LOST e) = 1 ∧ (y.enc e).count = (d.enc e).count ∧ (d.combine ≠ 0 → (y.enc e).excluded = true) ∧ d.keeps y timeWord := by
  let v := d.raise (Fld.bit R.POS_FAULT_LOST e)
  have h20 : (Fld.bit R.POS_FAULT_LOST e).lo + (Fld.bit R.POS_FAULT_LOST e).w ≤ 20 := by simp only [Fld.bit, R.POS_FAULT_LOST]; omega
  have hraise : TimeStep d v := timeStep_fault d (Fld.bit R.POS_FAULT_LOST e) rfl (by omega)
  have hT := hraise.trans (timeStep_exclude v e)
  have hlive : ∀ f : Fld, 0x100000 ≤ f.addr → f.addr < 0x200000 → f.lo + f.w ≤ 32 → v.live f = d.live f := fun f h1 h2 h3 =>
    hraise.fld (liveOf f) (not_timeWord (by simp only [liveOf]; omega) (by simp only [liveOf]; omega)) fun h => absurd h (Nat.not_lt.mpr h3)
  refine ⟨?_, hT.count e, fun hc => ?_, hT.keeps⟩
  · exact (exclude_encFault v e (Fld.bit R.POS_FAULT_LOST e) ⟨rfl, h20⟩).trans (raise_fld d _ (by omega) rfl (not_chanCount (by simp [Fld.bit, R.POS_FAULT_LOST])))
  · have hcomb : v.combine = d.combine := by unfold Dev.combine; rw [hlive _ (by decide) (by decide) (by decide)]
    have hen' : v.lflag (R.POS_ENC_CFG_ENABLE e) = true := by
      show decide (v.live (R.POS_ENC_CFG_ENABLE e) ≠ 0) = true
      rw [hlive _ (by simp only [R.POS_ENC_CFG_ENABLE]; omega) (by simp only [R.POS_ENC_CFG_ENABLE]; omega) (by simp [R.POS_ENC_CFG_ENABLE])]
      exact hen
    show ((v.exclude e).enc e).excluded = true
    simp [exclude_excluded, hcomb, hc, hen']

/-- Settles O11: a Z edge by its distance from Z_COUNT, a quiet encoder by its flag and its mark, and a stop by `motionRow_of_still`. -/
theorem encoderFaults : Obligations.EncoderFaults := by
  unfold Obligations.EncoderFaults
  constructor
  · intro s e at_ hm d1 x
    constructor
    · intro k rest z hedges hfwd hen hz far
      have hrow := zEdge_of_forward s.start e at_ hedges hfwd hen hz
      refine completes_run _ (exec_zEdge s e at_) hm ?_
      rw [hrow]
      by_cases hfar : d1.fldNow (R.POS_Z_TOL e) < far
      · rw [if_pos hfar]
        obtain ⟨hslip, hcnt, hzref, hcount, hkeeps⟩ := zSlip_fields (d1.setEnc e { x with zRef := some x.count }) e e.isLt
        rw [enc_setEnc_same] at hzref hcount
        exact ⟨hzref, hcount, fun h => absurd hfar (Nat.not_lt.mpr h), fun _ => ⟨hslip, hcnt, keeps_trans (keeps_setEnc ..) hkeeps⟩⟩
      · rw [if_neg hfar, enc_setEnc_same]
        exact ⟨rfl, rfl, fun _ => keeps_setEnc .., fun h => absurd h hfar⟩
    · intro k rest hedges hquiet hen hfast
      have hrow : s.start.encoderLost e at_ = (d1.raise (Fld.bit R.POS_FAULT_LOST e)).exclude e := by
        have hedges' : ((s.start.advance at_).enc e).edges = k :: rest := hedges
        have hquiet' : k.t + (s.start.advance at_).stopCycles ≤ (s.start.advance at_).time := hquiet
        unfold Dev.encoderLost
        simp only [hedges']
        exact if_pos ⟨hen, decide_eq_true hquiet', hfast⟩
      refine completes_run _ (exec_encoderLost s e at_) hm ?_
      rw [hrow]
      exact lost_fields d1 e e.isLt hen
  · intro s at_ hm d1 hmoving hstill
    refine completes_run _ (exec_motionStop s at_) hm ?_
    rw [motionRow_of_still s.start at_ hmoving hstill]
    obtain ⟨hstopped, hcleared⟩ := halted_stopped d1
    have hpos := halted_pos d1
    exact ⟨hstopped, hcleared, by rw [hpos], by rw [hpos], by rw [hpos], keeps_halted d1⟩

end Sys2Proof.Machine
end

section
/-!
SUPPORT. The position of a slave (R57 to R59): the MD that it takes from its master, messages and latches, the end of HOLDOVER, and the statement O15.
-/
namespace Sys2Proof.Machine

/-! ### MD while time passes -/

theorem refreshFracs_md (d : Dev) : d.refreshFracs.pos.md = d.pos.md := by
  unfold Dev.refreshFracs
  split <;> rfl

theorem formWpos_md (d : Dev) : d.formWpos.pos.md = d.pos.md := by
  unfold Dev.formWpos
  dsimp only
  repeat' split
  all_goals simp [Dev.newSet, Dev.posLost]

theorem exclude_md (d : Dev) (e : Nat) : (d.exclude e).pos.md = d.pos.md := by
  have h := formWpos_md (d.setEnc e { d.enc e with excluded := true })
  unfold Dev.exclude
  split
  · rfl
  · dsimp only
    split
    · exact h
    · rw [Dev.setFld_pos]; exact h

theorem checkDisagree_md (d : Dev) : d.checkDisagree.pos.md = d.pos.md := by
  unfold Dev.checkDisagree
  generalize d.disagreeing = es
  induction es generalizing d with
  | nil => rfl
  | cons e es ih => rw [List.foldl_cons, ih, exclude_md, Dev.raise_pos]

theorem setMd_md (d : Dev) (md : Int) : (d.setMd md).pos.md = md := by
  unfold Dev.setMd
  dsimp only
  repeat' split
  all_goals simp

theorem crossCheck_pos (d : Dev) : d.crossCheck.pos = d.pos := by
  unfold Dev.crossCheck Dev.xchk Dev.setFldI
  split
  · rfl
  · rw [Dev.raiseIf_pos, Dev.setFld_pos]

/-- Outside REPLAY MD is what the source of position gives (R34, R49, R57). -/
theorem formMd_md (d : Dev) (h : d.mode ≠ .replay) : d.formMd.pos.md = d.mdNow := by
  unfold Dev.formMd
  rw [if_neg h]
  dsimp only
  split
  · rw [crossCheck_pos, setMd_md]
  · rw [setMd_md]

/-- MD of a slave from a message and its latch, which in forward motion does not go back (R57). -/
def followedMd (md : Int) (m : PosMsg) (latch t : Nat) : Int := if 0 ≤ m.speed then max md (slaveMd m latch t) else slaveMd m latch t

/-- A slave that follows takes its MD from the message, whatever its own encoders do (R57). -/
theorem advance_md_of_follows (d : Dev) (t : Nat) {m : PosMsg} {latch : Nat} (hf : d.pos.follows = true) (hmsg : d.pos.msg = some (m, latch)) (hm : d.mode ≠ .replay) :
    (d.advance t).pos.md = followedMd d.pos.md m latch (max d.time t) := by
  let u : Dev := { d with time := max d.time t }
  let y := u.refreshFracs.formWpos.checkDisagree
  have hT : TimeStep u y := ((timeStep_refreshFracs u).trans (timeStep_formWpos _)).trans (timeStep_checkDisagree _ (formWpos_used _))
  have hmd : y.pos.md = d.pos.md := (checkDisagree_md _).trans ((formWpos_md _).trans (refreshFracs_md u))
  have htime : y.time = max d.time t := by simp [y, u]
  show y.formMd.pos.md = _
  rw [formMd_md y (by rw [hT.mode]; exact hm), Dev.mdNow, hT.follows, hT.msg, show u.pos.follows = true from hf, show u.pos.msg = some (m, latch) from hmsg, hmd, htime]
  rfl

/-- Taking the same message again in the same cycle moves MD no further. -/
theorem followedMd_idem (md : Int) (m : PosMsg) (latch t : Nat) : followedMd (followedMd md m latch t) m latch t = followedMd md m latch t := by
  unfold followedMd
  split
  · rw [max_assoc, max_self]
  · rfl

/-! ### What a slave keeps of its link while time passes and its motion is judged -/

/-- The state of the link to the master, and the words that time does not change. -/
structure LinkKept (d d' : Dev) : Prop where
  mode : d'.mode = d.mode
  keeps : d.keeps d' timeWord
  holdover : d'.fld R.POS_STATUS_HOLDOVER = d.fld R.POS_STATUS_HOLDOVER
  msg : d'.pos.msg = d.pos.msg
  synced : d'.pos.synced = d.pos.synced
  unmatched : d'.pos.unmatched = d.pos.unmatched
  follows : d'.pos.follows = d.pos.follows

theorem TimeStep.linkKept {d d' : Dev} (h : TimeStep d d') : LinkKept d d' := ⟨h.mode, h.keeps, h.holdover, h.msg, h.synced, h.unmatched, h.follows⟩

theorem LinkKept.refl (d : Dev) : LinkKept d d := (TimeStep.refl d).linkKept

theorem LinkKept.trans {a b c : Dev} (h : LinkKept a b) (k : LinkKept b c) : LinkKept a c :=
  ⟨k.mode.trans h.mode, keeps_trans h.keeps k.keeps, k.holdover.trans h.holdover, k.msg.trans h.msg, k.synced.trans h.synced, k.unmatched.trans h.unmatched,
    k.follows.trans h.follows⟩

theorem linkKept_halted (d : Dev) : LinkKept d d.halted := by
  have hpos := halted_pos d
  refine ⟨halted_mode d, keeps_mono (keeps_halted d) fun _ => motionWord_timeWord, ?_, by rw [hpos], by rw [hpos], by rw [hpos], by rw [hpos]⟩
  rw [halted_fld d _ (by decide), fld_setFld_apart _ _ _ _ (by decide), fld_setFld_apart _ _ _ _ (by decide)]

/-- The part in the cycle in which motion has begun: MOVING, the stop behind it noted, and MOTION_START made (R37). -/
def Dev.setOff (d : Dev) : Dev :=
  ({ (d.setFld R.POS_STATUS_STOPPED 0).setFld R.POS_STATUS_MOVING 1 with
    pos := { d.pos with stops := (d.pos.stopFrom, d.time) :: d.pos.stops.takeWhile fun s => d.time ≤ s.2 + pastCycles } } : Dev).fire P.motionStart

theorem motionStart_eq (d : Dev) : d.motionStart.1 = if d.flag R.POS_STATUS_STOPPED ∧ d.movesNow then d.setOff.advance d.time else d := by
  unfold Dev.motionStart Dev.setOff
  split <;> simp

theorem setOff_pos (d : Dev) : d.setOff.pos = { d.pos with stops := d.setOff.pos.stops } := by
  unfold Dev.setOff
  rw [Dev.fire_pos]

@[simp] theorem setOff_time (d : Dev) : d.setOff.time = d.time := by simp [Dev.setOff]

theorem linkKept_setOff (d : Dev) : LinkKept d d.setOff := by
  have hpos := setOff_pos d
  have h1 : d.keeps (d.setFld R.POS_STATUS_STOPPED 0) motionWord := keeps_mono (keeps_setFld d _ _ (by decide)) fun _ => .inl
  have h2 := keeps_trans h1 (keeps_mono (keeps_setFld _ R.POS_STATUS_MOVING 1 (by decide)) fun _ => .inl)
  have h3 : d.keeps d.setOff motionWord := keeps_trans h2 (keeps_trans (keeps_pos ..) (keeps_mono (keeps_fire _ _ _ _ _ (by decide)) fun _ => .inr))
  refine ⟨by simp [Dev.setOff], keeps_mono h3 fun _ => motionWord_timeWord, ?_, by rw [hpos], by rw [hpos], by rw [hpos], by rw [hpos]⟩
  refine (fire_fld _ _ _ _ _ R.POS_STATUS_HOLDOVER (by decide) (by decide)).trans ?_
  exact (fld_setFld_apart _ R.POS_STATUS_MOVING R.POS_STATUS_HOLDOVER 1 (by decide)).trans (fld_setFld_apart d R.POS_STATUS_STOPPED R.POS_STATUS_HOLDOVER 0 (by decide))

/-- What a slave with a new message does in the same cycle: it forms its position and judges its motion. -/
def Dev.judged (d : Dev) : Dev := (d.advance d.time).motionStop.motionStart.1

theorem linkKept_judged (d : Dev) : LinkKept d d.judged := by
  have h1 : LinkKept d (d.advance d.time) := (timeStep_advance ..).linkKept
  have h2 : LinkKept (d.advance d.time) (d.advance d.time).motionStop := by
    rw [motionStop_eq]
    split
    · exact linkKept_halted _
    · exact .refl _
  refine (h1.trans h2).trans ?_
  rw [Dev.judged, motionStart_eq]
  split
  · exact (linkKept_setOff _).trans (timeStep_advance ..).linkKept
  · exact .refl _

/-- MD of a slave that follows, once it has formed its position and judged its motion. -/
theorem judged_md (d : Dev) {m : PosMsg} {latch : Nat} (hf : d.pos.follows = true) (hmsg : d.pos.msg = some (m, latch)) (hm : d.mode ≠ .replay) :
    d.judged.pos.md = followedMd d.pos.md m latch d.time := by
  let y := (d.advance d.time).motionStop
  have hadv : (d.advance d.time).pos.md = followedMd d.pos.md m latch d.time := by rw [advance_md_of_follows d d.time hf hmsg hm, Nat.max_self]
  have hT : LinkKept d (d.advance d.time) := (timeStep_advance ..).linkKept
  have hy : LinkKept d y ∧ y.time = d.time ∧ y.pos.md = followedMd d.pos.md m latch d.time := by
    show LinkKept d (d.advance d.time).motionStop ∧ (d.advance d.time).motionStop.time = d.time ∧ (d.advance d.time).motionStop.pos.md = _
    rw [motionStop_eq]
    split
    · exact ⟨hT.trans (linkKept_halted _), by simp, by rw [halted_pos]; exact hadv⟩
    · exact ⟨hT, by simp, hadv⟩
  obtain ⟨hlink, htime, hmd⟩ := hy
  show y.motionStart.1.pos.md = _
  rw [motionStart_eq]
  split
  · have hs := hlink.trans (linkKept_setOff y)
    rw [advance_md_of_follows _ _ (hs.follows.trans hf) (hs.msg.trans hmsg) (by rw [hs.mode]; exact hm), setOff_time, Nat.max_self, setOff_pos, hmd, htime, followedMd_idem]
  · exact hmd

end Sys2Proof.Machine
end

section
/-!
SUPPORT. Pairing a message with its latch, HOLDOVER and its end (R57, R59, R458), and the statement O15.
-/
namespace Sys2Proof.Machine

/-! ### A message paired with its latch -/

/-- The slave has noted a message, its latch and its number (R57, R458). -/
def Dev.numbered (d : Dev) (m : PosMsg) (ls : List (Nat × Nat)) (latch : Nat) : Dev :=
  (({ d with pos := { d.pos with latches := ls, synced := true, msg := some (m, latch), unmatched := 0 } } : Dev).setFld R.POS_SYNC_STATUS_SYNC_SEQ m.seq).setFld R.POS_SYNC_STATUS_SYNC_OK 1

/-- The slave follows from a message on, and its HOLDOVER ends (R57, R59). -/
def Dev.following (d : Dev) (m : PosMsg) (latch : Nat) : Dev :=
  ((d.followMsg m latch).setFld R.POS_STATUS_HOLDOVER 0).setFld (Fld.bit R.GLB_MISSING_CAUSE 1) 0

/-- One that has left its master does not follow it (R59). -/
theorem pairWith_eq (d : Dev) (m : PosMsg) (ls : List (Nat × Nat)) (latch : Nat) :
    d.pairWith m ls latch = if (d.numbered m ls latch).pos.left then d.numbered m ls latch else (d.numbered m ls latch).following m latch := rfl

theorem numbered_pos (d : Dev) (m : PosMsg) (ls : List (Nat × Nat)) (latch : Nat) :
    (d.numbered m ls latch).pos = { d.pos with latches := ls, synced := true, msg := some (m, latch), unmatched := 0 } := by
  rw [Dev.numbered, Dev.setFld_pos, Dev.setFld_pos]

@[simp] theorem numbered_time (d : Dev) (m : PosMsg) (ls : List (Nat × Nat)) (latch : Nat) : (d.numbered m ls latch).time = d.time := by simp [Dev.numbered]
@[simp] theorem numbered_mode (d : Dev) (m : PosMsg) (ls : List (Nat × Nat)) (latch : Nat) : (d.numbered m ls latch).mode = d.mode := by simp [Dev.numbered]

theorem numbered_fields (d : Dev) (m : PosMsg) (ls : List (Nat × Nat)) (latch : Nat) :
    (d.numbered m ls latch).fld R.POS_SYNC_STATUS_SYNC_SEQ = m.seq % 65536 ∧ (d.numbered m ls latch).fld R.POS_SYNC_STATUS_SYNC_OK = 1 :=
  ⟨(fld_setFld_apart _ R.POS_SYNC_STATUS_SYNC_OK R.POS_SYNC_STATUS_SYNC_SEQ 1 (by decide)).trans (fld_setFld_same _ R.POS_SYNC_STATUS_SYNC_SEQ m.seq (by decide)),
    fld_setFld_same _ R.POS_SYNC_STATUS_SYNC_OK 1 (by decide)⟩

theorem keeps_numbered (d : Dev) (m : PosMsg) (ls : List (Nat × Nat)) (latch : Nat) : d.keeps (d.numbered m ls latch) (· = R.POS_SYNC_STATUS.addr) :=
  keeps_trans (keeps_pos ..) (keeps_trans (keeps_setFld _ R.POS_SYNC_STATUS_SYNC_SEQ m.seq (by decide)) (keeps_setFld _ R.POS_SYNC_STATUS_SYNC_OK 1 (by decide)))

theorem following_pos (d : Dev) (m : PosMsg) (latch : Nat) : (d.following m latch).pos = (d.followMsg m latch).pos := by
  rw [Dev.following, Dev.setFld_pos, Dev.setFld_pos]

@[simp] theorem following_time (d : Dev) (m : PosMsg) (latch : Nat) : (d.following m latch).time = d.time := by simp [Dev.following, Dev.followMsg]
@[simp] theorem following_mode (d : Dev) (m : PosMsg) (latch : Nat) : (d.following m latch).mode = d.mode := by simp [Dev.following, Dev.followMsg]

theorem following_holdover (d : Dev) (m : PosMsg) (latch : Nat) : (d.following m latch).fld R.POS_STATUS_HOLDOVER = 0 :=
  (fld_setFld_apart _ (Fld.bit R.GLB_MISSING_CAUSE 1) R.POS_STATUS_HOLDOVER 0 (by decide)).trans (fld_setFld_same _ R.POS_STATUS_HOLDOVER 0 (by decide))

theorem keeps_following (d : Dev) (m : PosMsg) (latch : Nat) : d.keeps (d.following m latch) timeWord :=
  keeps_trans (keeps_pos ..) (keeps_trans (keeps_mono (keeps_setFld _ R.POS_STATUS_HOLDOVER 0 (by decide)) fun _ => .inl)
    (keeps_mono (keeps_setFld _ (Fld.bit R.GLB_MISSING_CAUSE 1) 0 (by decide)) fun _ h => .inr (.inr (.inr (.inl h)))))

/-- What pairing leaves of the message and its number, whether the slave follows or has left its master. -/
theorem pairWith_fields (d : Dev) (m : PosMsg) (ls : List (Nat × Nat)) (latch : Nat) :
    let y := d.pairWith m ls latch
    y.pos.msg = some (m, latch) ∧ y.pos.synced = true ∧ y.pos.unmatched = 0 ∧ y.fld R.POS_SYNC_STATUS_SYNC_SEQ = m.seq % 65536 ∧
      y.fld R.POS_SYNC_STATUS_SYNC_OK = 1 ∧ d.keeps y fun a => a = R.POS_SYNC_STATUS.addr ∨ timeWord a := by
  have hpos := numbered_pos d m ls latch
  obtain ⟨hseq, hok⟩ := numbered_fields d m ls latch
  have hnum : d.keeps (d.numbered m ls latch) fun a => a = R.POS_SYNC_STATUS.addr ∨ timeWord a := keeps_mono (keeps_numbered ..) fun _ => .inl
  have hfol := keeps_following (d.numbered m ls latch) m latch
  have hsync : ¬ timeWord R.POS_SYNC_STATUS.addr := not_timeWord' (by decide) (by decide)
  have hkept : ∀ f : Fld, f.addr = R.POS_SYNC_STATUS.addr → f.lo + f.w ≤ 32 → ((d.numbered m ls latch).following m latch).fld f = (d.numbered m ls latch).fld f :=
    fun f hf hw => hfol.fld f (by rw [hf]; exact hsync) fun h => absurd h (Nat.not_lt.mpr hw)
  dsimp only
  rw [pairWith_eq]
  split
  · exact ⟨by rw [hpos], by rw [hpos], by rw [hpos], hseq, hok, hnum⟩
  · rw [following_pos, hkept R.POS_SYNC_STATUS_SYNC_SEQ rfl (by decide), hkept R.POS_SYNC_STATUS_SYNC_OK rfl (by decide)]
    simp only [Dev.followMsg, hpos]
    exact ⟨trivial, trivial, trivial, hseq, hok, keeps_trans hnum (keeps_mono hfol fun _ => .inr)⟩

/-- A slave that has not left its master follows it from the message on: a first message gives MD as it is (R57). -/
theorem pairWith_follows (d : Dev) (m : PosMsg) (ls : List (Nat × Nat)) (latch : Nat) (hleft : d.pos.left = false) :
    let y := d.pairWith m ls latch
    y.pos.follows = true ∧ y.fld R.POS_STATUS_HOLDOVER = 0 ∧ y.time = d.time ∧ y.mode = d.mode ∧
      y.pos.md = if d.pos.follows then d.pos.md else slaveMd m latch d.time := by
  have hpos := numbered_pos d m ls latch
  have hstays : ¬ (d.numbered m ls latch).pos.left = true := by rw [hpos]; simp [hleft]
  dsimp only
  rw [pairWith_eq, if_neg hstays, following_pos]
  refine ⟨rfl, following_holdover .., by simp, by simp, ?_⟩
  simp only [Dev.followMsg, hpos, numbered_time]

@[simp] theorem pairWith_time (d : Dev) (m : PosMsg) (ls : List (Nat × Nat)) (latch : Nat) : (d.pairWith m ls latch).time = d.time := by
  rw [pairWith_eq]
  split
  · exact numbered_time ..
  · rw [following_time, numbered_time]

/-- A message whose number a latch has is paired with it, and the slave forms its position anew (R57, R458). -/
theorem pairMsg_of_latch (d : Dev) (m : PosMsg) (l : Nat × Nat) (h : (d.latchesFor m).find? (fun l => decide (l.1 = m.seq)) = some l) :
    (d.pairMsg m).1 = (d.pairWith m (d.latchesFor m) l.2).judged := by
  unfold Dev.pairMsg Dev.judged
  rw [h, pairWith_time]

/-- MD of a slave after a message: in forward motion the greater of its own and the message's, where it has followed before (R57). -/
theorem followedMd_of_first (follows : Bool) (md : Int) (m : PosMsg) (latch t : Nat) :
    followedMd (if follows then md else slaveMd m latch t) m latch t = if follows = true ∧ 0 ≤ m.speed then max md (slaveMd m latch t) else slaveMd m latch t := by
  unfold followedMd
  cases follows <;> by_cases hs : 0 ≤ m.speed <;> simp [hs]

/-- R57, R458: what a message with a latch of its number leaves. -/
theorem pairMsg_fields (x : Dev) (m : PosMsg) (l : Nat × Nat) (h : (x.latchesFor m).find? (fun l => decide (l.1 = m.seq)) = some l) :
    let d := (x.pairMsg m).1
    d.pos.msg = some (m, l.2) ∧ d.pos.synced = true ∧ d.pos.unmatched = 0 ∧
      d.fld R.POS_SYNC_STATUS_SYNC_SEQ = m.seq % 65536 ∧ d.fld R.POS_SYNC_STATUS_SYNC_OK = 1 ∧
      (x.pos.left = false → d.pos.follows = true ∧ d.fld R.POS_STATUS_HOLDOVER = 0 ∧
        (x.mode ≠ .replay → d.pos.md = if x.pos.follows = true ∧ 0 ≤ m.speed then max x.pos.md (slaveMd m l.2 x.time) else slaveMd m l.2 x.time)) ∧
      x.keeps d fun a => a = R.POS_SYNC_STATUS.addr ∨ timeWord a := by
  let y := x.pairWith m (x.latchesFor m) l.2
  obtain ⟨hmsg, hsynced, hunmatched, hseq, hok, hkeeps⟩ := pairWith_fields x m (x.latchesFor m) l.2
  have hk : LinkKept y y.judged := linkKept_judged y
  have hsync : ∀ f : Fld, f.addr = R.POS_SYNC_STATUS.addr → f.lo + f.w ≤ 32 → y.judged.fld f = y.fld f := fun f hf hw =>
    hk.keeps.fld f (by rw [hf]; exact not_timeWord' (by decide) (by decide)) fun h => absurd h (Nat.not_lt.mpr hw)
  dsimp only
  rw [pairMsg_of_latch x m l h]
  refine ⟨hk.msg.trans hmsg, hk.synced.trans hsynced, hk.unmatched.trans hunmatched, (hsync R.POS_SYNC_STATUS_SYNC_SEQ rfl (by decide)).trans hseq,
    (hsync R.POS_SYNC_STATUS_SYNC_OK rfl (by decide)).trans hok, fun hleft => ?_, keeps_trans hkeeps (keeps_mono hk.keeps fun _ => .inr)⟩
  obtain ⟨hfollows, hhold, htime, hmode, hmd⟩ := pairWith_follows x m (x.latchesFor m) l.2 hleft
  refine ⟨hk.follows.trans hfollows, hk.holdover.trans hhold, fun hm => ?_⟩
  calc y.judged.pos.md = followedMd y.pos.md m l.2 y.time := judged_md y hfollows hmsg (by rw [hmode]; exact hm)
    _ = followedMd (if x.pos.follows then x.pos.md else slaveMd m l.2 x.time) m l.2 x.time := by rw [htime, hmd]
    _ = _ := followedMd_of_first ..

/-! ### The beginning and the end of HOLDOVER (R59) -/

/-- The slave has lost its master's messages (R59). -/
def Dev.heldOver (d : Dev) : Dev :=
  let y := (d.setFld R.POS_STATUS_HOLDOVER 1).setFld R.POS_SYNC_STATUS_SYNC_OK 0
  { y with pos := { y.pos with holdFrom := y.time } }

theorem heldOver_fields (d : Dev) :
    d.heldOver.fld R.POS_STATUS_HOLDOVER = 1 ∧ d.heldOver.fld R.POS_SYNC_STATUS_SYNC_OK = 0 ∧ d.heldOver.pos.holdFrom = d.time ∧ d.heldOver.pos.follows = d.pos.follows ∧
      d.keeps d.heldOver fun a => a = R.POS_STATUS.addr ∨ a = R.POS_SYNC_STATUS.addr := by
  refine ⟨?_, fld_setFld_same (d.setFld R.POS_STATUS_HOLDOVER 1) R.POS_SYNC_STATUS_SYNC_OK 0 (by decide), by simp [Dev.heldOver], by simp [Dev.heldOver], ?_⟩
  · exact (fld_setFld_apart _ R.POS_SYNC_STATUS_SYNC_OK R.POS_STATUS_HOLDOVER 0 (by decide)).trans (fld_setFld_same d R.POS_STATUS_HOLDOVER 1 (by decide))
  · exact keeps_trans (keeps_mono (keeps_setFld d R.POS_STATUS_HOLDOVER 1 (by decide)) fun _ => .inl)
      (keeps_trans (keeps_mono (keeps_setFld _ R.POS_SYNC_STATUS_SYNC_OK 0 (by decide)) fun _ => .inr) (keeps_pos ..))

theorem wrapN_lt (w : Nat) (i : Int) : wrapN w i < 2 ^ w := by
  have hp : (0 : Int) < 2 ^ w := by positivity
  have hlt := Int.emod_lt_of_pos i hp
  have hn := Int.emod_nonneg i (ne_of_gt hp)
  have hcast : (((2 ^ w : Nat)) : Int) = 2 ^ w := by push_cast; rfl
  unfold wrapN
  omega

/-- Moving MD_OFFSET stores it, and beside it changes only what the rules of this cycle see of it (R21, R35). -/
theorem shiftOffset_frame (d : Dev) (k : Int) :
    (d.shiftOffset k).fld R.POS_MD_OFFSET = wrapN 64 (d.sfld R.POS_MD_OFFSET + k) ∧ (d.shiftOffset k).time = d.time ∧
      (d.shiftOffset k).pos = { d.pos with wrote := (d.shiftOffset k).pos.wrote } ∧
      d.keeps (d.shiftOffset k) fun a => a = R.POS_MD_OFFSET.addr ∨ a = R.POS_MD_OFFSET.addr + 4 := by
  unfold Dev.shiftOffset Dev.setFldI
  refine ⟨(fld_setFld_same _ R.POS_MD_OFFSET _ (by decide)).trans (Nat.mod_eq_of_lt (wrapN_lt 64 _)), Dev.setFld_time .., ?_, keeps_trans (keeps_pos ..) (keeps_setFld64 _ R.POS_MD_OFFSET _)⟩
  rw [Dev.setFld_pos]

/-- The slave has left its master (R59). -/
def Dev.onItsOwn (d : Dev) (switched : Bool) : Dev := { d with pos := { d.pos with follows := false, left := true, switched := switched } }

/-- The slave takes its position from its own encoders, without a jump of MD (R59). -/
def Dev.tookOver (d : Dev) : Dev := (d.onItsOwn true).shiftOffset (d.pos.md - d.ownForm.md d.pos.wpos)

/-- Away from its master a part forms MD of WPOS with its own values. -/
theorem tookOver_eq (d : Dev) : d.tookOver = (d.onItsOwn true).shiftOffset (d.pos.md - (d.onItsOwn true).mdOf d.pos.wpos) := rfl

/-- The loss of the master is flagged, and HOLDOVER ends (R59). -/
def Dev.masterLost (d : Dev) : Dev := ((d.raise R.POS_FAULT_MASTER_LOST).setFld R.POS_STATUS_HOLDOVER 0).setFld (Fld.bit R.GLB_MISSING_CAUSE 1) 1

@[simp] theorem masterLost_pos (d : Dev) : d.masterLost.pos = d.pos := by simp [Dev.masterLost]

theorem masterLost_holdover (d : Dev) : d.masterLost.fld R.POS_STATUS_HOLDOVER = 0 :=
  (fld_setFld_apart _ (Fld.bit R.GLB_MISSING_CAUSE 1) R.POS_STATUS_HOLDOVER 1 (by decide)).trans (fld_setFld_same _ R.POS_STATUS_HOLDOVER 0 (by decide))

theorem keeps_masterLost (d : Dev) : d.keeps d.masterLost timeWord :=
  keeps_trans (timeStep_fault d R.POS_FAULT_MASTER_LOST rfl (by decide)).keeps
    (keeps_trans (keeps_mono (keeps_setFld _ R.POS_STATUS_HOLDOVER 0 (by decide)) fun _ => .inl)
      (keeps_mono (keeps_setFld _ (Fld.bit R.GLB_MISSING_CAUSE 1) 1 (by decide)) fun _ h => .inr (.inr (.inr (.inl h)))))

/-- What a slave in HOLDOVER does as it ends: it goes on by its own encoders where they are good, or loses its position (R59). -/
def Dev.leaveMaster (d : Dev) : Dev :=
  if d.pos.used ≠ [] ∧ d.flag R.POS_FAULT_XCHK = false then d.tookOver.masterLost.advance d.time else (d.onItsOwn d.pos.switched).posLost

theorem holdoverExpiry_eq (d : Dev) (hh : d.flag R.POS_STATUS_HOLDOVER = true) (hl : d.pos.left = false) :
    d.holdoverExpiry = (d.advance (d.pos.holdFrom + usCycles (max (d.fldNow R.POS_SYNC_CFG) 1))).leaveMaster := by
  unfold Dev.holdoverExpiry Dev.leaveMaster
  rw [if_neg (by simp [hh, hl])]
  simp only [Bool.not_eq_eq_eq_not, Bool.not_true]
  split
  · rw [tookOver_eq, Dev.masterLost, Dev.setFld_time, Dev.raise_time, (shiftOffset_frame _ _).2.1]
    rfl
  · rfl

/-- R59: what a slave that takes over leaves. -/
theorem tookOver_fields (d : Dev) :
    let y := d.tookOver.masterLost.advance d.time
    y.pos.follows = false ∧ y.pos.left = true ∧ y.fld R.POS_STATUS_HOLDOVER = 0 ∧
      y.fld R.POS_MD_OFFSET = wrapN 64 (d.sfld R.POS_MD_OFFSET + (d.pos.md - d.ownForm.md d.pos.wpos)) ∧
      d.keeps y fun a => a = R.POS_MD_OFFSET.addr ∨ a = R.POS_MD_OFFSET.addr + 4 ∨ timeWord a := by
  obtain ⟨hoff, -, hpos, hkeeps⟩ := shiftOffset_frame (d.onItsOwn true) (d.pos.md - d.ownForm.md d.pos.wpos)
  have hT := timeStep_advance d.tookOver.masterLost d.time
  have hlow : ¬ timeWord R.POS_MD_OFFSET.addr := not_timeWord' (by decide) (by decide)
  have hhigh : ¬ timeWord (R.POS_MD_OFFSET.addr + 4) := not_timeWord' (by decide) (by decide)
  refine ⟨?_, ?_, hT.holdover.trans (masterLost_holdover _), ?_, ?_⟩
  · rw [hT.follows, masterLost_pos, Dev.tookOver, hpos]; rfl
  · rw [hT.left, masterLost_pos, Dev.tookOver, hpos]; rfl
  · exact (hT.fld R.POS_MD_OFFSET hlow fun _ => hhigh).trans (((keeps_masterLost _).fld R.POS_MD_OFFSET hlow fun _ => hhigh).trans hoff)
  · refine keeps_trans (keeps_pos ..) (keeps_trans (keeps_mono hkeeps fun _ h => ?_) (keeps_mono (keeps_trans (keeps_masterLost _) hT.keeps) fun _ h => .inr (.inr h)))
    exact h.imp_right .inl

/-- R59: what a slave without a good encoder of its own leaves. -/
theorem onItsOwn_posLost_fields (d : Dev) (b : Bool) :
    let y := (d.onItsOwn b).posLost
    y.pos.follows = false ∧ y.pos.left = true ∧ y.fld R.POS_STATUS_POS_LOST = 1 ∧ y.faultReq = d.faultReq ++ [0] ∧ d.keeps y timeWord := by
  have hT := timeStep_posLost (d.onItsOwn b)
  refine ⟨hT.follows, hT.left, ?_, by simp [Dev.posLost, Dev.onItsOwn], keeps_trans (keeps_pos ..) hT.keeps⟩
  exact (raise_fld_apart _ R.POS_FAULT_POS_LOST R.POS_STATUS_POS_LOST (by decide) (by decide)).trans (fld_setFld_same _ R.POS_STATUS_POS_LOST 1 (by decide))

/-- Settles O15: a latch is stored, a message goes through pairing and the judgement of motion, and HOLDOVER begins and ends by its conditions. -/
theorem slavePosition : Obligations.SlavePosition := by
  unfold Obligations.SlavePosition
  constructor
  · intro s hm
    refine ⟨?_, ?_, ?_⟩
    · intro at_ hslave d1
      refine completes_run _ (exec_posSyncEdge s at_) hm ?_
      rw [show s.start.posSyncEdge at_ = s.start.latchSync at_ from if_pos hslave]
      exact ⟨rfl, rfl, rfl, keeps_pos ..⟩
    · intro side p x l hrx m hfind
      refine completes_run _ (exec_posReceive s side p) hm ?_
      have hpacket : (s.start.packet side.val PT.pos p fun d => (d.pairMsg (posMsgOf p.payload)).1) = (x.pairMsg m).1 := by
        unfold Dev.packet
        rw [hrx]
        rfl
      rw [hpacket]
      exact pairMsg_fields x m l hfind
    · intro at_ d1 lastPulse hawaits hhold hlate
      refine completes_run _ (exec_holdover s at_) hm ?_
      have hrow : s.start.holdover at_ = d1.heldOver := if_pos ⟨hawaits, by rw [hhold]; rfl, hlate⟩
      rw [hrow]
      exact heldOver_fields d1
  · intro s hm hhold hleft d1
    constructor
    · intro hused hxchk
      refine completes_run _ (exec_holdoverExpiry s) hm ?_
      have hrow : s.start.holdoverExpiry = d1.tookOver.masterLost.advance d1.time := (holdoverExpiry_eq s.start hhold hleft).trans (if_pos ⟨hused, hxchk⟩)
      rw [hrow]
      exact tookOver_fields d1
    · intro hbad
      refine completes_run _ (exec_holdoverExpiry s) hm ?_
      have hlost : ¬ (d1.pos.used ≠ [] ∧ d1.flag R.POS_FAULT_XCHK = false) := fun h => hbad.elim h.1 fun hx => Bool.noConfusion (hx.symm.trans h.2)
      have hrow : s.start.holdoverExpiry = (d1.onItsOwn d1.pos.switched).posLost := (holdoverExpiry_eq s.start hhold hleft).trans (if_neg hlost)
      rw [hrow]
      exact onItsOwn_posLost_fields d1 _

end Sys2Proof.Machine
end

section
/-!
SUPPORT. Pulses of POS_SYNC (R56), heartbeats (R252), encoders that come back (R29), and the statement O16.
-/
namespace Sys2Proof.Machine

/-! ### The time of a heartbeat (R252) -/

@[simp] theorem takeRseq_time (d : Dev) (n : Nat) : (d.takeRseq n).time = d.time := Dev.setFld_time ..

theorem fifoLevel_time (d : Dev) : d.fifoLevel.time = d.time := by
  unfold Dev.fifoLevel
  dsimp only
  split <;> simp

@[simp] theorem fifoPut_time (d : Dev) (r : Rec) : (d.fifoPut r).time = d.time := by
  unfold Dev.fifoPut
  dsimp only
  split <;> simp [fifoLevel_time]

@[simp] theorem recDrop_time (d : Dev) (reason : Nat) (r : Rec) : (d.recDrop reason r).time = d.time := by
  unfold Dev.recDrop
  simp [Dev.bump]

@[simp] theorem lostFlush_time (d : Dev) : d.lostFlush.time = d.time := by
  unfold Dev.lostFlush
  split
  · rfl
  · split
    · rfl
    · rw [fifoPut_time, takeRseq_time]

/-- A record is created within its cycle. -/
@[simp] theorem create_time (d : Dev) (b : RecBody) (role line : Option Nat) : (d.create b role line).time = d.time := by
  unfold Dev.create
  dsimp only
  repeat' split
  all_goals simp

/-- A heartbeat notes its time, from which the next idle one is counted. -/
theorem heartbeat_hbAt (d : Dev) : d.heartbeat.recs.hbAt = d.time := create_time ..

/-! ### Encoders that an advance excludes (R28, R29) -/

theorem offChan_of_encFault {g : Fld} (h : encFault g) : g.offChan := by
  obtain ⟨ha, hw⟩ := h
  simp only [Fld.offChan, ha, R.POS_FAULT]
  omega

theorem encFault_disagree {i : Nat} (hi : i < 4) : encFault (Fld.bit R.POS_FAULT_DISAGREE i) := ⟨rfl, by simp only [Fld.bit, R.POS_FAULT_DISAGREE]; omega⟩

/-- Fractions are formed anew for every encoder, whether it is excluded or not. -/
theorem refreshFracs_excluded (d : Dev) (i : Nat) : (d.refreshFracs.enc i).excluded = (d.enc i).excluded := by
  unfold Dev.refreshFracs
  split
  · rfl
  · next hrun =>
    clear hrun
    generalize [0, 1, 2, 3] = es
    induction es generalizing d with
    | nil => rfl
    | cons e es ih =>
      rw [List.foldl_cons, ih]
      by_cases hi : i = e
      · subst hi; rw [enc_setEnc_same]
      · rw [enc_setEnc_other _ _ _ _ hi]

/-- The exclusion of one encoder for disagreement (R28). -/
def Dev.excludeFor (d : Dev) (e : Nat) : Dev := (d.raise (Fld.bit R.POS_FAULT_DISAGREE e)).exclude e

theorem checkDisagree_eq (d : Dev) : d.checkDisagree = d.disagreeing.foldl Dev.excludeFor d := rfl

theorem excludeFor_flag_same (d : Dev) {e : Nat} (he : e < 4) : (d.excludeFor e).fld (Fld.bit R.POS_FAULT_DISAGREE e) = 1 :=
  (exclude_encFault _ e _ (encFault_disagree he)).trans
    (raise_fld d (Fld.bit R.POS_FAULT_DISAGREE e) (by simp only [Fld.bit, R.POS_FAULT_DISAGREE]; omega) rfl (not_chanCount (by simp [Fld.bit, R.POS_FAULT_DISAGREE])))

/-- A DISAGREE flag stays set while others are set. -/
theorem excludeFor_flag (d : Dev) {e i : Nat} (he : e < 4) (hi : i < 4) (h : d.fld (Fld.bit R.POS_FAULT_DISAGREE i) = 1) :
    (d.excludeFor e).fld (Fld.bit R.POS_FAULT_DISAGREE i) = 1 := by
  by_cases hie : i = e
  · subst hie
    exact excludeFor_flag_same d he
  · refine (exclude_encFault _ e _ (encFault_disagree hi)).trans ((raise_fld_apart d (Fld.bit R.POS_FAULT_DISAGREE e) (Fld.bit R.POS_FAULT_DISAGREE i) ?_ ?_).trans h)
    · exact .inr ⟨rfl, by simp only [Fld.bit, R.POS_FAULT_DISAGREE]; omega⟩
    · exact offChan_of_encFault (encFault_disagree hi)

/-- Excluding one encoder for disagreement marks no other. -/
theorem excludeFor_excluded_other (d : Dev) {e i : Nat} (h : i ≠ e) : ((d.excludeFor e).enc i).excluded = (d.enc i).excluded := by
  rw [Dev.excludeFor, exclude_excluded, enc_congr (Dev.raise_pos ..)]
  simp [h]

theorem excludeAll_flag (es : List Nat) {i : Nat} (hi : i < 4) : ∀ d : Dev, (∀ e ∈ es, e < 4) → d.fld (Fld.bit R.POS_FAULT_DISAGREE i) = 1 →
    (es.foldl Dev.excludeFor d).fld (Fld.bit R.POS_FAULT_DISAGREE i) = 1 := by
  induction es with
  | nil => exact fun _ _ h => h
  | cons e es ih => exact fun d hes h => ih _ (fun x hx => hes x (List.mem_cons_of_mem _ hx)) (excludeFor_flag d (hes e List.mem_cons_self) hi h)

/-- Whoever is marked after exclusions for disagreement was marked before or has its flag. -/
theorem excludeAll_excluded (es : List Nat) {i : Nat} (hi : i < 4) : ∀ d : Dev, (∀ e ∈ es, e < 4) → ((es.foldl Dev.excludeFor d).enc i).excluded = true →
    (d.enc i).excluded = true ∨ (es.foldl Dev.excludeFor d).fld (Fld.bit R.POS_FAULT_DISAGREE i) = 1 := by
  induction es with
  | nil => exact fun _ _ h => .inl h
  | cons e es ih =>
    intro d hes h
    have hrest : ∀ x ∈ es, x < 4 := fun x hx => hes x (List.mem_cons_of_mem _ hx)
    rcases ih _ hrest h with hstep | hflag
    · by_cases hie : i = e
      · subst hie
        exact .inr (excludeAll_flag es hi _ hrest (excludeFor_flag_same d hi))
      · exact .inl ((excludeFor_excluded_other d hie).symm.trans hstep)
    · exact .inr hflag

/-- Forming MD marks no encoder and sets no encoder's fault flag. -/
theorem setMd_encFault (d : Dev) (md : Int) (g : Fld) (hg : encFault g) : (d.setMd md).fld g = d.fld g := by
  have hset : ∀ (x : Dev) v, (x.setFld R.POS_STATUS_REVERSE v).fld g = x.fld g := fun x v => fld_of_encFault_setFld x _ g v hg (by decide) (by decide)
  unfold Dev.setMd
  dsimp only
  split
  · split
    · exact hset _ _
    · rfl
  · split
    · exact (fire_fld _ _ _ _ _ g (by decide) (offChan_of_encFault hg)).trans (hset _ _)
    · rfl

theorem setMd_encs (d : Dev) (md : Int) : (d.setMd md).pos.encs = d.pos.encs := by
  unfold Dev.setMd
  dsimp only
  repeat' split
  all_goals simp

theorem xchk_encFault (d : Dev) (diff : Int) (g : Fld) (hg : encFault g) : (d.xchk diff).fld g = d.fld g := by
  have hset := fld_of_encFault_setFld d R.POS_XCHK_DIFF g (wrapN R.POS_XCHK_DIFF.w (clampI (-(2 ^ 31)) (2 ^ 31 - 1) diff)) hg (by decide) (by decide)
  unfold Dev.xchk Dev.raiseIf
  split
  · exact (fld_of_encFault_raise _ R.POS_FAULT_XCHK g hg rfl (by decide) (by decide)).trans hset
  · exact hset

theorem formMd_encs (d : Dev) : d.formMd.pos.encs = d.pos.encs := by
  unfold Dev.formMd
  dsimp only
  split
  · rfl
  · split
    · rw [crossCheck_pos, setMd_encs]
    · rw [setMd_encs]

theorem formMd_encFault (d : Dev) (g : Fld) (hg : encFault g) : d.formMd.fld g = d.fld g := by
  have hmd : ∀ x : Dev, (x.setMd d.mdNow).fld g = x.fld g := fun x => setMd_encFault x _ g hg
  unfold Dev.formMd
  dsimp only
  split
  · rfl
  · split
    · unfold Dev.crossCheck
      split
      · exact hmd _
      · exact (xchk_encFault _ _ g hg).trans (hmd _)
    · exact hmd _

/-- R28: in a cycle an encoder is newly excluded only with its DISAGREE flag. -/
theorem advance_excluded (d : Dev) (t : Nat) {i : Nat} (hi : i < 4) (h : ((d.advance t).enc i).excluded = true) :
    (d.enc i).excluded = true ∨ (d.advance t).fld (Fld.bit R.POS_FAULT_DISAGREE i) = 1 := by
  let u : Dev := { d with time := max d.time t }
  let y := u.refreshFracs.formWpos
  have hform : ∀ x : Dev, x.formMd.enc i = x.enc i := fun x => by rw [Dev.enc, formMd_encs, Dev.enc]
  have hbefore : (y.enc i).excluded = (d.enc i).excluded := by
    have hy : y.enc i = u.refreshFracs.enc i := by rw [Dev.enc, formWpos_encs, Dev.enc]
    rw [hy, refreshFracs_excluded]
    rfl
  have hin : (y.checkDisagree.enc i).excluded = true := (congrArg Enc.excluded (hform _)).symm.trans h
  rw [checkDisagree_eq] at hin
  have hcases := excludeAll_excluded y.disagreeing hi y (fun e he => formWpos_used _ e (disagreeing_used y e he)) hin
  rw [hbefore] at hcases
  exact hcases.imp_right ((formMd_encFault _ _ (encFault_disagree hi)).trans ·)

/-! ### Readmission (R29) -/

/-- The part with the mark of an encoder cleared, in the next cycle. -/
def Dev.cleared (d : Dev) (e : Nat) : Dev := (d.setEnc e { d.enc e with excluded := false }).advance (d.time + 1)

theorem readmit_eq (d : Dev) (e : Nat) (h : (d.enc e).excluded = true) :
    d.readmit e = if [0, 1, 2, 3].any fun i => ((d.cleared e).enc i).excluded then d.cleared e else (d.cleared e).setFld (Fld.bit R.GLB_MISSING_CAUSE 0) 0 := if_pos h

/-- R29: what readmission leaves of the encoder. -/
theorem cleared_fields (d : Dev) {e : Nat} (he : e < 4) :
    (d.cleared e).time = d.time + 1 ∧ (((d.cleared e).enc e).excluded = true → (d.cleared e).fld (Fld.bit R.POS_FAULT_DISAGREE e) = 1) ∧
      ((d.cleared e).enc e).count = (d.enc e).count ∧ d.keeps (d.cleared e) timeWord := by
  have hT := timeStep_advance (d.setEnc e { d.enc e with excluded := false }) (d.time + 1)
  refine ⟨?_, fun h => ?_, ?_, keeps_trans (keeps_setEnc ..) hT.keeps⟩
  · rw [Dev.cleared, advance_time, show (d.setEnc e { d.enc e with excluded := false }).time = d.time from rfl]
    omega
  · refine (advance_excluded _ _ he h).resolve_left fun hc => ?_
    rw [enc_setEnc_same] at hc
    exact Bool.noConfusion hc
  · exact (hT.count e).trans (by rw [enc_setEnc_same])

theorem readmit_fields (d : Dev) {e : Nat} (he : e < 4) (h : (d.enc e).excluded = true) :
    (d.readmit e).time = d.time + 1 ∧ (((d.readmit e).enc e).excluded = true → (d.readmit e).fld (Fld.bit R.POS_FAULT_DISAGREE e) = 1) ∧
      ((d.readmit e).enc e).count = (d.enc e).count ∧ d.keeps (d.readmit e) timeWord := by
  obtain ⟨htime, hflag, hcount, hkeeps⟩ := cleared_fields d he
  rw [readmit_eq d e h]
  split
  · exact ⟨htime, hflag, hcount, hkeeps⟩
  · have henc := enc_congr (Dev.setFld_pos (d.cleared e) (Fld.bit R.GLB_MISSING_CAUSE 0) 0) e
    rw [Dev.setFld_time, henc, fld_of_encFault_setFld (d.cleared e) (Fld.bit R.GLB_MISSING_CAUSE 0) _ 0 (encFault_disagree he) (by decide) (by decide)]
    exact ⟨htime, hflag, hcount, keeps_trans hkeeps (keeps_mono (keeps_setFld _ (Fld.bit R.GLB_MISSING_CAUSE 0) 0 (by decide)) fun _ h => .inr (.inr (.inr (.inl h))))⟩

/-! ### The statement -/

/-- The master pulses POS_SYNC with a message of number `seq` (R56). -/
def Dev.pulsed (d : Dev) (seq : Nat) : Dev := ((d.broadcast PT.pos (d.posPayload seq)).setFld R.POS_SYNC_STATUS_SYNC_SEQ seq).emit .posSync

theorem pulsed_fields (d : Dev) (seq : Nat) : (d.pulsed seq).fld R.POS_SYNC_STATUS_SYNC_SEQ = seq % 65536 ∧ Output.posSync ∈ (d.pulsed seq).out :=
  ⟨fld_setFld_same _ R.POS_SYNC_STATUS_SYNC_SEQ seq (by decide), List.mem_append_right _ (List.mem_singleton.mpr rfl)⟩

/-- Settles O16: the pulse and the heartbeat by their conditions; a readmitted encoder by `advance_excluded`. -/
theorem pulseHeartbeatReadmit : Obligations.PulseHeartbeatReadmit := by
  unfold Obligations.PulseHeartbeatReadmit
  intro s hm
  refine ⟨?_, ?_, ?_⟩
  · intro hmaster hsize d1
    let seq := (d1.fld R.POS_SYNC_STATUS_SYNC_SEQ + 1) % 65536
    have hruns : ¬ ((!s.start.flag R.POS_STATUS_MASTER) = true ∨ s.start.cascadeSize < 2) := by
      rintro (h | h)
      · rw [show s.start.flag R.POS_STATUS_MASTER = true from hmaster] at h
        exact Bool.noConfusion h
      · exact absurd hsize (Nat.not_le.mpr h)
    have hrow : s.start.posSyncPulse = d1.pulsed seq := if_neg hruns
    obtain ⟨hseq, hout⟩ := pulsed_fields d1 seq
    refine completes_run _ (exec_posSyncPulse s) hm ?_
    rw [hrow]
    refine ⟨hseq.trans (Nat.mod_mod ..), hout, ?_⟩
    rw [advance_time, show s.start.time = s.dev.time from rfl]
    omega
  · intro hruns d1
    have hruns' : ¬ (!(s.start.mode.framed || decide (s.start.mode = .armed))) = true := by
      rcases hruns with h | h
      · rw [show s.start.mode.framed = true from h]; simp
      · rw [show s.start.mode = .armed from h]; simp
    have hrow : s.start.hbIdle = d1.heartbeat := if_neg hruns'
    refine completes_run _ (exec_heartbeatIdle s) hm ?_
    rw [hrow]
    exact ⟨rfl, heartbeat_hbAt d1⟩
  · intro e v h3 d1 hexcluded
    have hbit : bitOf (v.toNat ||| 0x10000) 16 = true := bitOf_or_two_pow v.toNat 16
    have hrow : s.start.hostWrite (0x101000 + 0x40 * e.val) (v.toNat ||| 0x10000) = d1.readmit e := hostWrite_readmit s.start e _ h3 hbit
    refine completes_run _ (exec_readmit s e v) hm ?_
    rw [hrow]
    exact readmit_fields d1 e.isLt hexcluded

end Sys2Proof.Machine
end

section
/-!
SUPPORT. Camera ports (chapter 02): their stores as the accessors see them, where the registers lie that CAM and CLG ports share, and errors that are counted.
-/
namespace Sys2Proof.Machine

/-- Outside RESET a gated command leaves what its effect makes of the part that it finds. -/
theorem exec_run_eq {s : State} {c : Instr} {f : Dev → Dev} {y : Dev} (hc : exec c s = s.run f) (hm : s.dev.mode ≠ .reset) (h : f s.start = y) :
    exec c s = .next (s.after y) := hc.trans ((run_eq s f hm).trans (by rw [h]))

/-! ### The store of a port -/

@[simp] theorem port_setPort_same (d : Dev) (p : Nat) (x : Port) : (d.setPort p x).port p = x := tget_tset_same ..
@[simp] theorem port_updPort_same (d : Dev) (p : Nat) (f : Port → Port) : (d.updPort p f).port p = f (d.port p) := tget_tset_same ..

@[simp] theorem emit_port (d : Dev) (o : Output) (p : Nat) : (d.emit o).port p = d.port p := rfl

@[simp] theorem setPort_fld (d : Dev) (p : Nat) (x : Port) (g : Fld) : (d.setPort p x).fld g = d.fld g := rfl
@[simp] theorem updPort_fld (d : Dev) (p : Nat) (f : Port → Port) (g : Fld) : (d.updPort p f).fld g = d.fld g := rfl
@[simp] theorem updPort_time (d : Dev) (p : Nat) (f : Port → Port) : (d.updPort p f).time = d.time := rfl
@[simp] theorem updPort_mode (d : Dev) (p : Nat) (f : Port → Port) : (d.updPort p f).mode = d.mode := rfl
@[simp] theorem updPort_out (d : Dev) (p : Nat) (f : Port → Port) : (d.updPort p f).out = d.out := rfl
@[simp] theorem setPort_out (d : Dev) (p : Nat) (x : Port) : (d.setPort p x).out = d.out := rfl

theorem keeps_setPort (d : Dev) (p : Nat) (x : Port) (P : Nat → Prop) : d.keeps (d.setPort p x) P := keeps_of_eq P rfl rfl rfl
theorem keeps_updPort (d : Dev) (p : Nat) (f : Port → Port) (P : Nat → Prop) : d.keeps (d.updPort p f) P := keeps_of_eq P rfl rfl rfl

/-- Parts with the same table of ports have the same ports. -/
theorem port_congr {d d' : Dev} (h : d'.ports = d.ports) (p : Nat) : d'.port p = d.port p := by rw [Dev.port, h, Dev.port]

/-- The passing of time leaves the ports alone, and nothing goes out with it. -/
@[simp] theorem advance_ports (d : Dev) (t : Nat) : (d.advance t).ports = d.ports := by rw [(timeStep_advance d t).rest]
@[simp] theorem advance_out (d : Dev) (t : Nat) : (d.advance t).out = d.out := by rw [(timeStep_advance d t).rest]
@[simp] theorem advance_port (d : Dev) (t p : Nat) : (d.advance t).port p = d.port p := port_congr (advance_ports d t) p

/-- What is read of a port's registers is the same for parts with the same register file. -/
theorem fld_congr_regs {d d' : Dev} (h : d'.regs = d.regs) (f : Fld) : d'.fld f = d.fld f := by rw [fld_of, h, fld_of]

/-! ### The registers of a port -/

/-- The address of the word at an offset in a port's block. -/
def portAddr (p o : Nat) : Nat := if p < 16 then 0x200000 + o + p * 0x10000 else 0x300000 + o + (p - 16) * 0x1000

/-- A register that CAM and CLG ports have at the same offset. -/
theorem portFld_eq {cam clg : Nat → Fld} (o lo w : Nat) (hcam : ∀ i, cam i = ⟨0x200000 + o + i * 0x10000, lo, w⟩)
    (hclg : ∀ i, clg i = ⟨0x300000 + o + i * 0x1000, lo, w⟩) (p : Nat) : portFld cam clg p = ⟨portAddr p o, lo, w⟩ := by
  unfold portFld portAddr
  split
  · exact hcam p
  · exact hclg (p - 16)

/-- Words at different offsets are different words. -/
theorem portAddr_ne {p o o' : Nat} (h : o ≠ o') : portAddr p o ≠ portAddr p o' := by
  unfold portAddr
  split <;> omega

/-- The blocks of the ports lie above POS and below the channel counters. -/
theorem portAddr_bounds {p o : Nat} (hp : p < 20) (ho : o < 0x1000) : 0x200000 ≤ portAddr p o ∧ portAddr p o + 4 < 0x305000 := by
  unfold portAddr
  split <;> omega

theorem portAddr_offChan {p o lo w : Nat} (hp : p < 20) (ho : o < 0x1000) : Fld.offChan ⟨portAddr p o, lo, w⟩ := by
  have h := (portAddr_bounds hp ho).2
  simp only [Fld.offChan]
  omega

theorem portAddr_not_chanCount {p o : Nat} (hp : p < 20) (ho : o < 0x1000) : ¬ chanCount (portAddr p o) := by
  have h := (portAddr_bounds hp ho).2
  exact not_chanCount (.inl (by omega))

/-- Passing time does not change the registers of ports, nor their live copies. -/
theorem portAddr_not_timeWord {p o : Nat} (hp : p < 20) (ho : o < 0x1000) : ¬ timeWord (portAddr p o) := by
  have h := portAddr_bounds hp ho
  exact not_timeWord (by omega) (.inl (by omega))

/-- Fields of words at different offsets share no bit. -/
theorem portAddr_apart {p o o' lo w lo' w' : Nat} (h : o' ≠ o) (hw : lo + w ≤ 32) (hw' : lo' + w' ≤ 32) :
    Fld.apart ⟨portAddr p o, lo, w⟩ ⟨portAddr p o', lo', w'⟩ := .inl ⟨portAddr_ne h, .inl hw, .inl hw'⟩

/-- STATE, of three bits for a CAM port and of two for a CLG port. -/
theorem portState_eq (p : Nat) : portState p = ⟨portAddr p 4, 0, if p < 16 then 3 else 2⟩ := by
  unfold portState portFld portAddr
  split <;> rfl

theorem portLastErr_eq (p : Nat) : portLastErr p = ⟨portAddr p 0x3C, 0, 16⟩ := portFld_eq 0x3C 0 16 (fun _ => rfl) (fun _ => rfl) p

/-- The counts of missed and extra lines, of lines dropped for want of room and of frames of a wrong length (R67, R81, R87). -/
theorem missedCount_eq (p : Nat) : portFld R.CAM_ERR_CNT0_MISSED R.CLG_ERR_CNT0_MISSED p = ⟨portAddr p 0x84, 0, 16⟩ := portFld_eq 0x84 0 16 (fun _ => rfl) (fun _ => rfl) p
theorem extraCount_eq (p : Nat) : portFld R.CAM_ERR_CNT0_EXTRA R.CLG_ERR_CNT0_EXTRA p = ⟨portAddr p 0x84, 16, 16⟩ := portFld_eq 0x84 16 16 (fun _ => rfl) (fun _ => rfl) p
theorem landCount_eq (p : Nat) : portFld R.CAM_ERR_CNT2_LAND_DROP R.CLG_ERR_CNT2_LAND_DROP p = ⟨portAddr p 0x8C, 0, 16⟩ := portFld_eq 0x8C 0 16 (fun _ => rfl) (fun _ => rfl) p
theorem frameCount_eq (p : Nat) : portFld R.CAM_ERR_CNT2_FRAME_ERR R.CLG_ERR_CNT2_FRAME_ERR p = ⟨portAddr p 0x8C, 16, 16⟩ := portFld_eq 0x8C 16 16 (fun _ => rfl) (fun _ => rfl) p

/-- Their events. -/
theorem missedEvent_eq (p : Nat) : portFld R.CAM_EVENTS_MISSED_LINE R.CLG_EVENTS_MISSED_LINE p = ⟨portAddr p 8, 2, 1⟩ := portFld_eq 8 2 1 (fun _ => rfl) (fun _ => rfl) p
theorem extraEvent_eq (p : Nat) : portFld R.CAM_EVENTS_EXTRA_LINE R.CLG_EVENTS_EXTRA_LINE p = ⟨portAddr p 8, 3, 1⟩ := portFld_eq 8 3 1 (fun _ => rfl) (fun _ => rfl) p
theorem shortFrameEvent_eq (p : Nat) : portFld R.CAM_EVENTS_SHORT_FRAME R.CLG_EVENTS_SHORT_FRAME p = ⟨portAddr p 8, 4, 1⟩ := portFld_eq 8 4 1 (fun _ => rfl) (fun _ => rfl) p
theorem landEvent_eq (p : Nat) : portFld R.CAM_EVENTS_LAND_OVF R.CLG_EVENTS_LAND_OVF p = ⟨portAddr p 8, 6, 1⟩ := portFld_eq 8 6 1 (fun _ => rfl) (fun _ => rfl) p

/-- STATE is not what the passing of time changes. -/
theorem advance_state (d : Dev) (t : Nat) {p : Nat} (hp : p < 20) : (d.advance t).fld (portState p) = d.fld (portState p) := by
  rw [portState_eq]
  exact (timeStep_advance d t).fld _ (portAddr_not_timeWord hp (by decide)) fun h => absurd h (by dsimp only; split <;> decide)

/-- The words of CAM ports, and those of CLG ports. -/
theorem portAddr_cam {p : Nat} (hp : p < 16) (o : Nat) : portAddr p o = 0x200000 + o + p * 0x10000 := if_pos hp
theorem portAddr_clg (m o : Nat) : portAddr (16 + m) o = 0x300000 + o + m * 0x1000 := by
  rw [portAddr, if_neg (by omega), Nat.add_sub_cancel_left]

/-! ### Events and codes of a port -/

/-- An event of a port is set once it is raised, and the other words of the port stay. -/
theorem portEvent_fld (d : Dev) {p n : Nat} (hp : p < 20) (hn : n < 32) : (d.raise ⟨portAddr p 8, n, 1⟩).fld ⟨portAddr p 8, n, 1⟩ = 1 :=
  raise_fld _ _ (by dsimp only; omega) rfl (portAddr_not_chanCount hp (by decide))

theorem portEvent_fld_other (d : Dev) {p n o lo w : Nat} (hp : p < 20) (hn : n < 32) (ho : o < 0x1000) (h8 : o ≠ 8) (hw : lo + w ≤ 32) :
    (d.raise ⟨portAddr p 8, n, 1⟩).fld ⟨portAddr p o, lo, w⟩ = d.fld ⟨portAddr p o, lo, w⟩ :=
  raise_fld_apart _ _ _ (portAddr_apart h8 (by omega) hw) (portAddr_offChan hp ho)

/-- LAST_ERR shows the last code. -/
theorem portErr_code (d : Dev) (p code : Nat) : (d.portErr p code).fld (portLastErr p) = code % 65536 := by
  rw [Dev.portErr, portLastErr_eq]
  exact fld_setFld_same d _ code (by dsimp only; omega)

theorem keeps_portErr (d : Dev) (p code : Nat) : d.keeps (d.portErr p code) (· = (portLastErr p).addr) := by
  rw [Dev.portErr, portLastErr_eq]
  exact keeps_setFld d _ code (by dsimp only; omega)

@[simp] theorem portErr_ports (d : Dev) (p code : Nat) : (d.portErr p code).ports = d.ports := Dev.setFld_ports ..
@[simp] theorem portErr_out (d : Dev) (p code : Nat) : (d.portErr p code).out = d.out := Dev.setFld_out ..
@[simp] theorem portErr_mode (d : Dev) (p code : Nat) : (d.portErr p code).mode = d.mode := Dev.setFld_mode ..

/-- A code and its event at a port. -/
theorem portErr_raise_fields (d : Dev) {p n : Nat} (code : Nat) (hp : p < 20) (hn : n < 32) :
    let y := (d.portErr p code).raise ⟨portAddr p 8, n, 1⟩
    y.fld ⟨portAddr p 8, n, 1⟩ = 1 ∧ y.fld (portLastErr p) = code % 65536 := by
  refine ⟨portEvent_fld _ hp hn, Eq.trans ?_ (portErr_code d p code)⟩
  rw [portLastErr_eq]
  exact portEvent_fld_other _ hp hn (by decide) (by decide) (by decide)

/-! ### Errors that are counted -/

/-- A count and its event at a port: what a counted error leaves. -/
theorem bump_raise_fields (d : Dev) (p o lo n : Nat) (hp : p < 20) (ho : o < 0x1000) (h8 : o ≠ 8) (hlo : lo + 16 ≤ 32) (hn : n < 32) :
    let y := (d.bump ⟨portAddr p o, lo, 16⟩).raise ⟨portAddr p 8, n, 1⟩
    y.fld ⟨portAddr p 8, n, 1⟩ = 1 ∧ y.fld ⟨portAddr p o, lo, 16⟩ = min (d.fld ⟨portAddr p o, lo, 16⟩ + 1) 65535 := by
  exact ⟨portEvent_fld _ hp hn, (portEvent_fld_other _ hp hn ho h8 hlo).trans (fld_bump_same d _ (by dsimp only; omega))⟩

/-- Counting an error and raising its event changes the register file and the Plaza. -/
theorem bump_raise_eq (d : Dev) (c e : Fld) : (d.bump c).raise e = { d with regs := ((d.bump c).raise e).regs, plz := ((d.bump c).raise e).plz } := by
  conv_lhs => rw [raise_eq]
  unfold Dev.bump
  rw [Dev.setFld_eq]

end Sys2Proof.Machine
end

section
/-!
SUPPORT. CC lines and the ends of pulses (R65, R67, R72), and the statement O17.
-/
namespace Sys2Proof.Machine

/-! ### CC lines -/

theorem bitOf_putBits_same (v i : Nat) (b : Bool) : bitOf (putBits v i 1 (b2n b)) i = b := by
  have h : putBits v i 1 (b2n b) / 2 ^ i % 2 = b2n b % 2 := bits_putBits_same v i 1 (b2n b)
  rw [bitOf, h]
  cases b <;> rfl

/-- A driven CC line has its level (R72); the pulses under way stay. -/
theorem setCc_fields (d : Dev) (p c : Nat) (high : Bool) :
    bitOf ((d.setCc p c high).port p).cc c = high ∧ ((d.setCc p c high).port p).falls = (d.port p).falls ∧ d.keeps (d.setCc p c high) fun _ => False := by
  unfold Dev.setCc
  split
  · next h => exact ⟨h, rfl, keeps_refl ..⟩
  · rw [emit_port, port_updPort_same]
    exact ⟨bitOf_putBits_same .., rfl, keeps_trans (keeps_updPort ..) (keeps_emit ..)⟩

/-- A CC line in pulse mode (R72): it rises, falls after the exposure time, and is a trigger where it is CC1. -/
theorem clgCc_pulse (d : Dev) (m c : Nat) {x : Taken} {y : Dev} (h : d.take (0x10 + 4 * m + c) = (some x, y)) (hp : x.pulse = true) (hmode : y.ccMode (16 + m) c = 0) :
    let z := (y.setCc (16 + m) c true).updPort (16 + m) fun q => { q with falls := q.falls ++ [(c, y.time + y.exposureCycles (16 + m))] }
    d.clgCc m c = if c = 0 then z.ccTrig (16 + m) x.floor (some (0x10 + 4 * m + c)) else z := by
  simp only [Dev.clgCc, h, hmode, hp, Bool.not_true, Bool.false_eq_true, if_false]

/-- A CC line in level mode (R72): SET and CLEAR drive it, and SET is a trigger where it is CC1. -/
theorem clgCc_level (d : Dev) (m c : Nat) {x : Taken} {y : Dev} (h : d.take (0x10 + 4 * m + c) = (some x, y)) (hl : x.level ≠ .pulse) (hmode : y.ccMode (16 + m) c = 1) :
    let z := y.setCc (16 + m) c (x.level = .set)
    d.clgCc m c = if c = 0 ∧ x.level = .set then z.ccTrig (16 + m) x.floor none else z := by
  simp only [Dev.clgCc, h, hmode]
  cases hlevel : x.level with
  | pulse => exact absurd hlevel hl
  | set => rfl
  | clear => rfl

/-- A CC line whose level CC_CFG fixes (R72): an event is a trigger where the line is CC1. -/
theorem clgCc_fixed (d : Dev) (m c : Nat) {x : Taken} {y : Dev} (h : d.take (0x10 + 4 * m + c) = (some x, y)) (hp : x.pulse = true) (hmode : 2 ≤ y.ccMode (16 + m) c) :
    d.clgCc m c = if c = 0 then y.ccTrig (16 + m) x.floor none else y := by
  simp only [Dev.clgCc, h]
  split
  · omega
  · omega
  · simp only [hp, and_true]

/-! ### Ends of pulses -/

/-- The pulse of the earliest trigger ends (R65, R72). -/
theorem pulseEnd_eq (d : Dev) (p : Nat) {f : Nat × Nat} {t : Nat} (ht : earliest ((d.port p).falls.map Prod.snd) = some t)
    (hf : ((d.port p).falls.find? fun f => f.2 = t) = some f) :
    let y := (d.advance t).updPort p fun q => { q with falls := q.falls.erase f }
    d.pulseEnd p = if p < 16 then y.emit (.pulse p false)
      else if y.ccMode p f.1 = 3 ∨ ((y.port p).falls.any fun g => decide (g.1 = f.1)) = true then y else y.setCc p f.1 false := by
  simp only [Dev.pulseEnd, ht, hf]

/-- Settles O17: an event at a CC input by the line's mode, and the end of a pulse by the kind of its port. -/
theorem ccLinesAndPulses : Obligations.CcLinesAndPulses := by
  unfold Obligations.CcLinesAndPulses
  intro s hm
  refine ⟨?pulse, ?level, ?fixed, ?fall⟩
  case pulse =>
    intro m c x d1 p htake hp hmode d2
    have hrow := clgCc_pulse s.start m c htake hp hmode
    exact ⟨fun hc => exec_run_eq (exec_clgCc s m c) hm (hrow.trans (if_neg hc)), fun hc => exec_run_eq (exec_clgCc s m c) hm (hrow.trans (if_pos hc))⟩
  case level =>
    intro m c x d1 p htake hmode hl d2
    have hrow := clgCc_level s.start m c htake hl hmode
    refine ⟨fun hc => exec_run_eq (exec_clgCc s m c) hm (hrow.trans (if_neg ?_)), fun hc hset => exec_run_eq (exec_clgCc s m c) hm (hrow.trans (if_pos ⟨hc, hset⟩))⟩
    rintro ⟨h0, hset⟩
    rcases hc with hc | hc
    · exact hc h0
    · rw [hset] at hc
      exact EvKind.noConfusion hc
  case fixed =>
    intro m c x d1 p htake hp hmode
    have hrow := clgCc_fixed s.start m c htake hp hmode
    exact ⟨fun hc => exec_run_eq (exec_clgCc s m c) hm (hrow.trans (if_neg hc)), fun hc => exec_run_eq (exec_clgCc s m c) hm (hrow.trans (if_pos hc))⟩
  case fall =>
    intro p f t ht hf d1
    have hrow := pulseEnd_eq s.start p ht hf
    constructor
    · intro hcam
      refine completes_run _ (exec_triggerPulseEnd s p) hm ?_
      rw [hrow, if_pos hcam]
      rw [emit_port, port_updPort_same]
      exact ⟨rfl, rfl, keeps_trans (keeps_updPort ..) (keeps_emit ..)⟩
    · intro hclg hmode hlast
      let y := d1.updPort p fun q => { q with falls := q.falls.erase f }
      have hfalls : (y.port p).falls = (d1.port p).falls.erase f := congrArg Port.falls (port_updPort_same d1 p _)
      have hdrops : ¬ (y.ccMode p f.1 = 3 ∨ ((y.port p).falls.any fun g => decide (g.1 = f.1)) = true) := by
        rw [hfalls, hlast]
        exact fun h => h.elim hmode Bool.noConfusion
      obtain ⟨hlow, hkept, hkeeps⟩ := setCc_fields y p f.1 false
      refine completes_run _ (exec_triggerPulseEnd s p) hm ?_
      rw [hrow, if_neg (Nat.not_lt.mpr hclg), if_neg hdrops]
      exact ⟨hkept.trans hfalls, fun _ => hlow, keeps_trans (keeps_updPort ..) hkeeps⟩

end Sys2Proof.Machine
end

section
/-!
SUPPORT. Triggers of camera ports (R64 to R68, R93, R296), exposure stamps (R39, R66), and the statement O18.
-/
namespace Sys2Proof.Machine

/-! ### Missed lines -/

theorem missed_eq (d : Dev) (p : Nat) : d.missed p = { d with regs := (d.missed p).regs, plz := (d.missed p).plz } := bump_raise_eq ..

/-- A missed line is counted (R67). -/
theorem missed_count (d : Dev) {p : Nat} (hp : p < 20) :
    (d.missed p).fld (portFld R.CAM_ERR_CNT0_MISSED R.CLG_ERR_CNT0_MISSED p) = min (d.fld (portFld R.CAM_ERR_CNT0_MISSED R.CLG_ERR_CNT0_MISSED p) + 1) 65535 := by
  rw [Dev.missed, missedCount_eq, missedEvent_eq]
  exact (bump_raise_fields d p 0x84 0 2 hp (by decide) (by decide) (by decide) (by decide)).2

/-- Missed lines change the register file and the Plaza. -/
theorem missedAll_eq (p : Nat) (ts : List Trig) : ∀ d : Dev,
    ts.foldl (fun d _ => d.missed p) d = { d with regs := (ts.foldl (fun d _ => d.missed p) d).regs, plz := (ts.foldl (fun d _ => d.missed p) d).plz } := by
  induction ts with
  | nil => exact fun _ => rfl
  | cons t ts ih =>
    intro d
    rw [List.foldl_cons, ih, missed_eq]

@[simp] theorem missed_ports (d : Dev) (p : Nat) : (d.missed p).ports = d.ports := by rw [missed_eq]
@[simp] theorem missedAll_ports (p : Nat) (ts : List Trig) (d : Dev) : (ts.foldl (fun d _ => d.missed p) d).ports = d.ports := by rw [missedAll_eq]

/-- The count of missed lines stops at its end (R67). -/
theorem missedAll_count {p : Nat} (hp : p < 20) (ts : List Trig) : ∀ d : Dev,
    (ts.foldl (fun d _ => d.missed p) d).fld (portFld R.CAM_ERR_CNT0_MISSED R.CLG_ERR_CNT0_MISSED p) =
      min (d.fld (portFld R.CAM_ERR_CNT0_MISSED R.CLG_ERR_CNT0_MISSED p) + ts.length) 65535 := by
  induction ts with
  | nil =>
    intro d
    have hlt := fld_lt d (portFld R.CAM_ERR_CNT0_MISSED R.CLG_ERR_CNT0_MISSED p)
    rw [missedCount_eq] at hlt ⊢
    exact (Nat.min_eq_left (Nat.le_of_lt_succ hlt)).symm
  | cons t ts ih =>
    intro d
    rw [List.foldl_cons, ih, missed_count d hp, List.length_cons]
    omega

/-! ### The triggers that wait -/

/-- The triggers of a port whose age does not exceed LAT_MAX (R67). -/
def Dev.liveTrigs (d : Dev) (p : Nat) : List Trig := (d.port p).trigs.filter fun t => ageClass t d.time ≠ .gt

/-- Those whose age does. -/
def Dev.oldTrigs (d : Dev) (p : Nat) : List Trig := (d.port p).trigs.filter fun t => ageClass t d.time = .gt

theorem oldTrigs_length (d : Dev) (p : Nat) : (d.oldTrigs p).length = (d.port p).trigs.length - (d.liveTrigs p).length := by
  have h := List.length_eq_length_filter_add (l := (d.port p).trigs) fun t => decide (ageClass t d.time = .gt)
  simp only [← decide_not] at h
  exact (Nat.sub_eq_of_eq_add h).symm

theorem dropExpired_eq (d : Dev) (p : Nat) :
    d.dropExpired p = (d.oldTrigs p).foldl (fun d _ => d.missed p) (d.updPort p fun x => { x with trigs := d.liveTrigs p }) := by
  have hlive : (d.port p).trigs.filter (not ∘ fun t => decide (ageClass t d.time = .gt)) = d.liveTrigs p := by
    unfold Dev.liveTrigs
    congr 1
    funext t
    simp
  simp only [Dev.dropExpired, List.partition_eq_filter_filter, hlive]
  rfl

/-- Noting since when a port has been out changes no register, and none of the waiting triggers (R93). -/
theorem trigSeen_frame (d : Dev) (p : Nat) : d.trigSeen p = { d with ports := (d.trigSeen p).ports } ∧ ((d.trigSeen p).port p).trigs = (d.port p).trigs := by
  unfold Dev.trigSeen
  split
  · exact ⟨rfl, rfl⟩
  · exact ⟨rfl, by rw [port_updPort_same]⟩

@[simp] theorem trigSeen_out (d : Dev) (p : Nat) : (d.trigSeen p).out = d.out := by rw [(trigSeen_frame d p).1]
@[simp] theorem trigSeen_regs (d : Dev) (p : Nat) : (d.trigSeen p).regs = d.regs := by rw [(trigSeen_frame d p).1]

theorem keeps_trigSeen (d : Dev) (p : Nat) (P : Nat → Prop) : d.keeps (d.trigSeen p) P := by
  rw [(trigSeen_frame d p).1]
  exact keeps_of_eq P rfl rfl rfl

/-- The part at which a trigger arrives, before it is queued: expired triggers are dropped, and a port that is out is noted (R67, R93). -/
def Dev.trigHere (d : Dev) (p : Nat) : Dev := (d.dropExpired p).trigSeen p

theorem trigHere_eq (d : Dev) (p : Nat) : d.trigHere p = { d with regs := (d.trigHere p).regs, plz := (d.trigHere p).plz, ports := (d.trigHere p).ports } := by
  unfold Dev.trigHere
  rw [(trigSeen_frame _ p).1, dropExpired_eq, missedAll_eq]
  rfl

@[simp] theorem trigHere_time (d : Dev) (p : Nat) : (d.trigHere p).time = d.time := by rw [trigHere_eq]
@[simp] theorem trigHere_mode (d : Dev) (p : Nat) : (d.trigHere p).mode = d.mode := by rw [trigHere_eq]
@[simp] theorem trigHere_out (d : Dev) (p : Nat) : (d.trigHere p).out = d.out := by rw [trigHere_eq]

theorem trigHere_trigs (d : Dev) (p : Nat) : ((d.trigHere p).port p).trigs = d.liveTrigs p := by
  rw [Dev.trigHere, (trigSeen_frame _ p).2, dropExpired_eq, port_congr (missedAll_ports ..) p, port_updPort_same]

theorem trigHere_count (d : Dev) {p : Nat} (hp : p < 20) :
    (d.trigHere p).fld (portFld R.CAM_ERR_CNT0_MISSED R.CLG_ERR_CNT0_MISSED p) =
      min (d.fld (portFld R.CAM_ERR_CNT0_MISSED R.CLG_ERR_CNT0_MISSED p) + (d.oldTrigs p).length) 65535 := by
  rw [Dev.trigHere, fld_congr_regs (trigSeen_regs ..), dropExpired_eq]
  exact missedAll_count hp _ _

theorem keeps_trigHere (d : Dev) (p : Nat) (h : (d.oldTrigs p).length = 0) (P : Nat → Prop) : d.keeps (d.trigHere p) P := by
  have hdrop : d.keeps (d.dropExpired p) P := by
    rw [dropExpired_eq, List.length_eq_zero_iff.mp h]
    exact keeps_updPort ..
  exact keeps_trans hdrop (keeps_trigSeen ..)

/-! ### Overruns of the Plaza's inputs (R296) -/

/-- The part once an event has reached a busy consumer, before the Plaza's own event. -/
def Dev.overrunNote (d : Dev) (i : Nat) : Dev := ((d.setBit (R.PLZ_IN_STATUS_OVERRUN i)).bump (R.PLZ_IN_STATUS_OVERRUN_CNT i)).setFld R.PLZ_LAST_ERR 0xA006

theorem overrun_raise (d : Dev) (i : Nat) : d.overrun i = (d.overrunNote i).raise R.PLZ_EVENTS_OVERRUN := rfl

theorem overrun_eq (d : Dev) (i : Nat) : d.overrun i = { d with regs := (d.overrun i).regs, plz := (d.overrun i).plz } := by
  conv_lhs => rw [overrun_raise, raise_eq]
  unfold Dev.overrunNote Dev.bump
  rw [Dev.setFld_eq, Dev.setFld_eq, setBit_eq]
  rfl

/-- An overrun is noted in the Plaza's registers alone. -/
theorem keeps_overrun (d : Dev) (i : Nat) : d.keeps (d.overrun i) (0x400000 ≤ ·) := by
  have hchan : ∀ a, chanCount a → 0x400000 ≤ a := fun a ha => Nat.not_lt.mp fun h => not_chanCount (.inl (by omega)) ha
  have h1 : d.keeps (d.setBit (R.PLZ_IN_STATUS_OVERRUN i)) (0x400000 ≤ ·) :=
    keeps_mono (keeps_setBit d (R.PLZ_IN_STATUS_OVERRUN i) (by simp [R.PLZ_IN_STATUS_OVERRUN])) fun a h => by simp only [h, R.PLZ_IN_STATUS_OVERRUN]; omega
  have h2 := keeps_trans h1 (keeps_mono (keeps_bump _ (R.PLZ_IN_STATUS_OVERRUN_CNT i) (by simp [R.PLZ_IN_STATUS_OVERRUN_CNT])) fun a h => by
    simp only [h, R.PLZ_IN_STATUS_OVERRUN_CNT]; omega)
  have h3 : d.keeps (d.overrunNote i) (0x400000 ≤ ·) := keeps_trans h2 (keeps_mono (keeps_setFld _ R.PLZ_LAST_ERR _ (by decide)) fun a h => by rw [h]; decide)
  refine keeps_trans h3 (keeps_mono (keeps_raise _ R.PLZ_EVENTS_OVERRUN (by decide)) fun a h => h.elim (fun h => by rw [h]; decide) (hchan a))

/-- The input shows OVERRUN, and the Plaza its code (R296). -/
theorem overrun_fields (d : Dev) {i : Nat} (hi : i < 256) : (d.overrun i).fld (R.PLZ_IN_STATUS_OVERRUN i) = 1 ∧ (d.overrun i).fld R.PLZ_LAST_ERR = 0xA006 := by
  rw [overrun_raise]
  constructor
  · refine (raise_fld_apart _ R.PLZ_EVENTS_OVERRUN _ (.inl ⟨?_, .inl (by decide), .inl (by simp [R.PLZ_IN_STATUS_OVERRUN])⟩) ?_).trans ?_
    · simp only [R.PLZ_IN_STATUS_OVERRUN, R.PLZ_EVENTS_OVERRUN]; omega
    · simp only [Fld.offChan, R.PLZ_IN_STATUS_OVERRUN]; omega
    · refine (fld_setFld_apart _ R.PLZ_LAST_ERR _ _ (.inl ⟨?_, .inl (by decide), .inl (by simp [R.PLZ_IN_STATUS_OVERRUN])⟩)).trans ?_
      · simp only [R.PLZ_IN_STATUS_OVERRUN, R.PLZ_LAST_ERR]; omega
      · exact (fld_setFld_apart _ (R.PLZ_IN_STATUS_OVERRUN_CNT i) _ _ (.inr (by simp [R.PLZ_IN_STATUS_OVERRUN, R.PLZ_IN_STATUS_OVERRUN_CNT]))).trans
          (fld_setBit_same d _ (by simp [R.PLZ_IN_STATUS_OVERRUN]))
  · exact (raise_fld_apart _ R.PLZ_EVENTS_OVERRUN R.PLZ_LAST_ERR (by decide) (by decide)).trans (fld_setFld_same _ R.PLZ_LAST_ERR _ (by decide))

/-- The overrun of the input that an event came by, if it came by one. -/
def Dev.overrunAt (d : Dev) : Option Nat → Dev
  | some i => d.overrun i
  | none => d

theorem overrunAt_eq (d : Dev) (input : Option Nat) : d.overrunAt input = { d with regs := (d.overrunAt input).regs, plz := (d.overrunAt input).plz } := by
  cases input with
  | none => rfl
  | some i => exact overrun_eq d i

theorem keeps_overrunAt (d : Dev) (input : Option Nat) : d.keeps (d.overrunAt input) (0x400000 ≤ ·) := by
  cases input with
  | none => exact keeps_refl ..
  | some i => exact keeps_overrun d i

/-! ### A trigger is queued -/

/-- A trigger that arrives takes its field, and the next one is that of the next trigger (R68). -/
def Dev.fieldTaken (d : Dev) (p : Nat) : Dev := d.updPort p fun x => { x with fieldNext := (d.nextField p + 1) % d.fieldsOf p }

/-- What is queued of a trigger that arrives now (R64, R68, R95). -/
def Dev.trigNow (d : Dev) (p : Nat) (floor : Bool) : Trig :=
  { t := d.time, floor := floor, epoch := d.fld R.GLB_EPOCH, field := d.nextField p, framed := d.mode.framed, cfg := d.portCfg p, form := d.mdForm }

/-- A trigger is queued, or missed where 64 wait (R67, R296). -/
theorem queueTrig_eq (d : Dev) (p : Nat) (floor : Bool) (input : Option Nat) :
    d.queueTrig p floor input =
      if 64 ≤ (d.liveTrigs p).length then (((d.trigHere p).fieldTaken p).missed p).overrunAt input
      else ((d.trigHere p).fieldTaken p).updPort p fun x => { x with trigs := x.trigs ++ [(d.trigHere p).trigNow p floor] } := by
  rw [← trigHere_trigs d p]
  unfold Dev.queueTrig
  by_cases hfull : 64 ≤ ((d.trigHere p).port p).trigs.length
  · rw [if_pos hfull]
    refine (if_pos (decide_eq_true hfull)).trans ?_
    cases input <;> rfl
  · rw [if_neg hfull]
    exact if_neg fun h => hfull (of_decide_eq_true h)

/-- What a port with room for the trigger leaves (R64, R68). -/
theorem queueTrig_room (d : Dev) (p : Nat) (floor : Bool) (input : Option Nat) (h : (d.liveTrigs p).length < 64) :
    let y := d.queueTrig p floor input
    (y.port p).fieldNext = ((d.trigHere p).nextField p + 1) % (d.trigHere p).fieldsOf p ∧ y.out = d.out ∧
      (y.port p).trigs = d.liveTrigs p ++ [(d.trigHere p).trigNow p floor] ∧ (d.trigHere p).keeps y fun _ => False := by
  dsimp only
  rw [queueTrig_eq, if_neg (Nat.not_le.mpr h), port_updPort_same, Dev.fieldTaken, port_updPort_same]
  exact ⟨rfl, trigHere_out d p, congrArg (· ++ _) (trigHere_trigs d p), keeps_trans (keeps_updPort ..) (keeps_updPort ..)⟩

/-- What a port at which 64 triggers wait leaves (R67, R296). -/
theorem queueTrig_full (d : Dev) {p : Nat} (hp : p < 20) (floor : Bool) (input : Option Nat) (hi : ∀ i, input = some i → i < 256) (h : 64 ≤ (d.liveTrigs p).length) :
    let y := d.queueTrig p floor input
    (y.port p).fieldNext = ((d.trigHere p).nextField p + 1) % (d.trigHere p).fieldsOf p ∧ y.out = d.out ∧ (y.port p).trigs = d.liveTrigs p ∧
      y.fld (portFld R.CAM_ERR_CNT0_MISSED R.CLG_ERR_CNT0_MISSED p) =
        min (d.fld (portFld R.CAM_ERR_CNT0_MISSED R.CLG_ERR_CNT0_MISSED p) + (d.oldTrigs p).length + 1) 65535 ∧
      ∀ i, input = some i → y.fld (R.PLZ_IN_STATUS_OVERRUN i) = 1 ∧ y.fld R.PLZ_LAST_ERR = 0xA006 := by
  let u := (d.trigHere p).fieldTaken p
  have hq : d.queueTrig p floor input = (u.missed p).overrunAt input := (queueTrig_eq ..).trans (if_pos h)
  have hport : ((u.missed p).overrunAt input).port p = u.port p := port_congr (by rw [overrunAt_eq, missed_ports]) p
  have hu : u.port p = { (d.trigHere p).port p with fieldNext := ((d.trigHere p).nextField p + 1) % (d.trigHere p).fieldsOf p } := port_updPort_same ..
  dsimp only
  rw [hq, hport, hu]
  refine ⟨rfl, ?_, trigHere_trigs d p, ?_, ?_⟩
  · rw [overrunAt_eq, missed_eq]
    exact trigHere_out d p
  · have hcount := trigHere_count d hp
    have hmissed : (u.missed p).fld _ = min ((d.trigHere p).fld _ + 1) 65535 := missed_count u hp
    have hlow := portAddr_bounds hp (show 0x84 < 0x1000 by decide)
    refine ((keeps_overrunAt (u.missed p) input).fld _ ?_ fun h => ?_).trans (hmissed.trans ?_)
    · rw [missedCount_eq]; exact Nat.not_le.mpr (by dsimp only; omega)
    · rw [missedCount_eq] at h; exact absurd h (by dsimp only; decide)
    · rw [hcount]; omega
  · rintro i rfl
    exact overrun_fields _ (hi i rfl)

/-! ### Triggers of CAM ports -/

/-- A trigger that reaches a CAM port that runs starts a pulse and is queued (R64, R65). -/
theorem camTrig_up (d : Dev) (p : Nat) {x : Taken} {y : Dev} (h : d.take p = (some x, y)) (hp : x.pulse = true) (hup : y.portUp p = true) :
    d.camTrig p = ((y.emit (.pulse p true)).updPort p fun q => { q with falls := q.falls ++ [(0, y.time + y.exposureCycles p)] }).queueTrig p x.floor (some p) := by
  simp only [Dev.camTrig, Dev.onPulse, h, hp, hup, Bool.not_true, Bool.false_eq_true, if_false, if_true]

/-- At a port that does not run it is seen, and no more (R93). -/
theorem camTrig_down (d : Dev) (p : Nat) {x : Taken} {y : Dev} (h : d.take p = (some x, y)) (hp : x.pulse = true) (hup : y.portUp p = false) :
    d.camTrig p = y.trigSeen p := by
  simp only [Dev.camTrig, Dev.onPulse, h, hp, hup, Bool.not_false, if_true]

/-- A port that runs in no state is not STREAMING. -/
theorem state_ne_of_not_up (d : Dev) (p : Nat) (h : d.portUp p = false) : d.fld (portState p) ≠ streamState p := by
  intro e
  simp [Dev.portUp, e] at h

/-- An enabled port that is out notes since when (R93). -/
theorem trigSeen_outSince (d : Dev) (p : Nat) (hup : d.portUp p = false) (hen : d.lflag (portEnable p) = true) :
    ((d.trigSeen p).port p).outSince = some ((d.port p).outSince.getD d.time) := by
  have h : d.trigSeen p = d.updPort p fun x => { x with outSince := if d.fld (portState p) = streamState p then none else some (x.outSince.getD d.time) } :=
    if_neg (by rw [hen]; exact Bool.noConfusion)
  rw [h, port_updPort_same]
  exact if_neg (state_ne_of_not_up d p hup)

/-! ### Exposure stamps -/

/-- The stamp of the oldest unstamped trigger is fixed: of the trigger itself where no line waits, or of the line that waits first (R39, R66). -/
theorem exposureStamp_eq (d : Dev) (p : Nat) {t : Trig} (h : (d.port p).unstamped = some t) :
    let y := d.advance (d.stampDue (t.t + t.cfg.mid))
    d.exposureStamp p = match (y.port p).held with
      | l :: rest => if l.trig = t then (y.setPort p { y.port p with held := rest }).deliver p l (y.stampAt t.form (t.t + t.cfg.mid)) else y
      | [] => y.setPort p { y.port p with trigs := (y.port p).trigs.map fun z => if z = t then { z with stamp := some (y.stampAt t.form (t.t + t.cfg.mid)) } else z } := by
  simp only [Dev.exposureStamp, h] <;> rfl

/-- Settles O18: a trigger by the state of its port, the queue by its room, and a stamp by the line that waits for it. -/
theorem cameraTrigger : Obligations.CameraTrigger := by
  unfold Obligations.CameraTrigger
  refine ⟨⟨?arrives, ?queued⟩, ?stamped⟩
  case arrives =>
    intro s p x d1 hm htake hp
    refine ⟨fun hup => exec_run_eq (exec_camTrig s p) hm (camTrig_up s.start p htake hp hup), fun hup hen => ?_⟩
    refine completes_run _ (exec_camTrig s p) hm ?_
    rw [camTrig_down s.start p htake hp hup]
    exact ⟨trigSeen_outSince d1 p hup hen, (trigSeen_frame d1 p).2, trigSeen_out d1 p, keeps_trigSeen ..⟩
  case queued =>
    intro d p floor input hi live old count e0 e
    have hold : old = (d.oldTrigs p).length := (oldTrigs_length d p).symm
    have htime : e0.time = d.time := trigHere_time d p
    have hmode : e0.mode = d.mode := trigHere_mode d p
    rw [hold, ← htime, ← hmode]
    refine ⟨trigHere_trigs d p, trigHere_count d p.isLt, fun h => keeps_trigHere d p h _, ?_⟩
    rcases Nat.lt_or_ge live.length 64 with hroom | hfull
    · obtain ⟨hfield, hout, htrigs, hkeeps⟩ := queueTrig_room d p floor input hroom
      exact ⟨hfield, hout, fun _ => ⟨htrigs, hkeeps⟩, fun h => absurd hroom (Nat.not_lt.mpr h)⟩
    · obtain ⟨hfield, hout, htrigs, hcount, hover⟩ := queueTrig_full d p.isLt floor input hi hfull
      exact ⟨hfield, hout, fun h => absurd h (Nat.not_lt.mpr hfull), fun _ => ⟨htrigs, hcount, hover⟩⟩
  case stamped =>
    intro s p t hm ht d1
    have hrow := exposureStamp_eq s.start p ht
    constructor
    · intro hheld
      refine completes_run _ (exec_exposureStamp s p) hm ?_
      have hheld' : ((s.start.advance (s.start.stampDue (t.t + t.cfg.mid))).port p).held = [] := hheld
      simp only [hheld'] at hrow
      rw [hrow, port_setPort_same]
      exact ⟨rfl, keeps_setPort ..⟩
    · intro l rest hheld hl
      have hheld' : ((s.start.advance (s.start.stampDue (t.t + t.cfg.mid))).port p).held = l :: rest := hheld
      simp only [hheld', if_pos hl] at hrow
      exact exec_run_eq (exec_exposureStamp s p) hm hrow

end Sys2Proof.Machine
end

section
/-!
SUPPORT. Camera lines (R67, R79, R87, R99), acquisition frames (R80, R81), and the statement O19.
-/
namespace Sys2Proof.Machine

/-! ### Lines that are dropped, or come without a trigger -/

/-- A line dropped for want of room (R87, R99). -/
theorem landDrop_fields (d : Dev) {p : Nat} (hp : p < 20) :
    (d.landDrop p).fld (portFld R.CAM_EVENTS_LAND_OVF R.CLG_EVENTS_LAND_OVF p) = 1 ∧ (d.landDrop p).fld (portLastErr p) = 0x400E ∧ (d.landDrop p).ports = d.ports := by
  rw [Dev.landDrop, landEvent_eq]
  obtain ⟨hevent, hcode⟩ := portErr_raise_fields (d.bump (portFld R.CAM_ERR_CNT2_LAND_DROP R.CLG_ERR_CNT2_LAND_DROP p)) 0x400E hp (show 6 < 32 by decide)
  exact ⟨hevent, hcode, by simp [Dev.bump]⟩

/-- An extra line is counted, with its event (R67). -/
theorem extra_fields (d : Dev) {p : Nat} (hp : p < 20) :
    (d.extra p).fld (portFld R.CAM_EVENTS_EXTRA_LINE R.CLG_EVENTS_EXTRA_LINE p) = 1 ∧
      (d.extra p).fld (portFld R.CAM_ERR_CNT0_EXTRA R.CLG_ERR_CNT0_EXTRA p) = min (d.fld (portFld R.CAM_ERR_CNT0_EXTRA R.CLG_ERR_CNT0_EXTRA p) + 1) 65535 ∧
      (d.extra p).ports = d.ports := by
  rw [Dev.extra, extraCount_eq, extraEvent_eq]
  obtain ⟨hevent, hcount⟩ := bump_raise_fields d p 0x84 16 3 hp (by decide) (by decide) (by decide) (by decide)
  exact ⟨hevent, hcount, by rw [bump_raise_eq]⟩

/-- A line that a full elastic store drops (R99). -/
theorem camLine_elasticFull (d : Dev) (p t : Nat) (planes : List (List Nat)) (hup : (d.advance t).portUp p = true) :
    d.camLine p t planes true = (d.advance t).landDrop p := by
  simp only [Dev.camLine, hup, Bool.not_true, Bool.false_eq_true, if_false, if_true]

/-- A line for which no trigger of the right age waits (R67). -/
theorem camLine_unmatched (d : Dev) (p t : Nat) (planes : List (List Nat)) {rest : List Trig} (hup : (d.advance t).portUp p = true)
    (hmatch : matchTrig (d.advance t).time ((d.advance t).port p).trigs = (none, rest, 0)) :
    d.camLine p t planes false = ((d.advance t).updPort p fun x => { x with trigs := rest }).extra p := by
  simp only [Dev.camLine, hup, hmatch, Bool.not_true, Bool.false_eq_true, if_false, List.range_zero, List.foldl_nil]

/-- The values of a CAM line, aligned to bit 15 (R75, R78). -/
def Dev.alignedPlanes (d : Dev) (p : Nat) (planes : List (List Nat)) : List (List Nat) :=
  (planes.take (if fmtRgb (d.pixFmt p) then 3 else 1)).map fun x => x.map fun v => v * 2 ^ fmtShift (d.pixFmt p) % 65536

/-- A line at a CAM port outside CAMERA mode goes on with its trigger (R67, R92). -/
theorem camLine_matched (d : Dev) (p t : Nat) (planes : List (List Nat)) {m : Trig} {rest : List Trig} (hcam : p < 16) (hup : (d.advance t).portUp p = true)
    (hmatch : matchTrig (d.advance t).time ((d.advance t).port p).trigs = (some m, rest, 0)) (hfval : (d.advance t).fvalMode p ≠ 0)
    (hwait : ((d.advance t).port p).waitBoundary = false) (hfrom : ((d.advance t).port p).acceptFrom ≤ m.t) :
    d.camLine p t planes false = ((d.advance t).updPort p fun x => { x with trigs := rest }).acceptLine p m ((d.advance t).alignedPlanes p planes) := by
  let y := (d.advance t).updPort p fun x => { x with trigs := rest }
  have hport : y.port p = { (d.advance t).port p with trigs := rest } := port_updPort_same ..
  have hopen : ¬ (y.fvalMode p = 0 ∧ (!(y.port p).acqOpen) = true) := fun h => hfval h.1
  have hnow : ¬ ((y.port p).waitBoundary = true ∨ m.t < (y.port p).acceptFrom) := by
    rw [hport]
    rintro (h | h)
    · exact Bool.noConfusion (hwait.symm.trans h)
    · exact absurd hfrom (Nat.not_le.mpr h)
  simp only [Dev.camLine, hup, hmatch, Bool.not_true, Bool.false_eq_true, if_false, List.range_zero, List.foldl_nil]
  rw [if_neg hopen, if_neg hnow]
  simp only [Nat.not_le.mpr hcam, false_and, if_false]
  rfl

/-- A line cut or filled to WIDTH has WIDTH pixels: the camera's own, then those of PAD_VALUE (R79). -/
theorem fitLine_length (width pad : Nat) (pix : List Nat) : (fitLine width pad pix).length = width := by
  simp only [fitLine, List.length_append, List.length_take, List.length_replicate]
  omega

theorem fitLine_get (width pad : Nat) (pix : List Nat) {i : Nat} (hi : i < width) : (fitLine width pad pix)[i]? = some (pix.getD i pad) := by
  rcases Nat.lt_or_ge i pix.length with hin | hout
  · have htake : i < (pix.take width).length := by rw [List.length_take]; omega
    rw [fitLine, List.getElem?_append_left htake, List.getElem?_take_of_lt hi, List.getD_eq_getElem?_getD, List.getElem?_eq_getElem hin]
    rfl
  · have htake : pix.take width = pix := List.take_of_length_le (by omega)
    rw [fitLine, htake, List.getElem?_append_right hout, List.getElem?_replicate, if_pos (by omega), List.getD_eq_getElem?_getD, List.getElem?_eq_none hout]
    rfl

/-! ### Acquisition frames -/

/-- FVAL opens a frame where none is open (R80). -/
theorem acqEdge_opens (d : Dev) (p t : Nat) (hfval : (d.advance t).fvalMode p ≠ 1) (hup : (d.advance t).portUp p = true) (hopen : ((d.advance t).port p).acqOpen = false) :
    d.acqEdge p true t = (d.advance t).acqStart p := by
  simp only [Dev.acqEdge, hfval, hup, hopen, Bool.not_true, Bool.false_eq_true, or_self, if_false, if_true]

/-- The part with the frame of a port closed. -/
def Dev.acqClosed (d : Dev) (p : Nat) : Dev := d.setPort p { d.port p with acqOpen := false }

/-- FVAL closes an open frame, which is short where it has fewer lines than ACQ_LINES (R80, R81). -/
theorem acqEdge_closes (d : Dev) (p t : Nat) (hfval : (d.advance t).fvalMode p ≠ 1) (hup : (d.advance t).portUp p = true) (hopen : ((d.advance t).port p).acqOpen = true) :
    let y := d.advance t
    d.acqEdge p false t = if y.acqLines p ≠ 0 ∧ (y.port p).acqCount < y.acqLines p then (y.acqClosed p).frameErr p false else y.acqClosed p := by
  simp only [Dev.acqEdge, hfval, hup, hopen, Bool.not_true, Bool.false_eq_true, or_self, if_false]
  rfl

/-- A short frame is counted, with its event (R81). -/
theorem shortFrame_fields (d : Dev) {p : Nat} (hp : p < 20) :
    (d.frameErr p false).fld (portFld R.CAM_EVENTS_SHORT_FRAME R.CLG_EVENTS_SHORT_FRAME p) = 1 ∧
      (d.frameErr p false).fld (portFld R.CAM_ERR_CNT2_FRAME_ERR R.CLG_ERR_CNT2_FRAME_ERR p) =
        min (d.fld (portFld R.CAM_ERR_CNT2_FRAME_ERR R.CLG_ERR_CNT2_FRAME_ERR p) + 1) 65535 ∧
      (d.frameErr p false).ports = d.ports := by
  have hrow : d.frameErr p false =
      (d.bump (portFld R.CAM_ERR_CNT2_FRAME_ERR R.CLG_ERR_CNT2_FRAME_ERR p)).raise (portFld R.CAM_EVENTS_SHORT_FRAME R.CLG_EVENTS_SHORT_FRAME p) := rfl
  rw [hrow, frameCount_eq, shortFrameEvent_eq]
  obtain ⟨hevent, hcount⟩ := bump_raise_fields d p 0x8C 16 4 hp (by decide) (by decide) (by decide) (by decide)
  exact ⟨hevent, hcount, by rw [bump_raise_eq]⟩

/-- Settles O19: a line by the room, its trigger and its length, and an edge of FVAL by the frame that is open. -/
theorem cameraLine : Obligations.CameraLine := by
  unfold Obligations.CameraLine
  refine ⟨⟨?lines, fun width pad pix => ⟨fitLine_length width pad pix, fun i hi => fitLine_get width pad pix hi⟩⟩, ?frames⟩
  case lines =>
    intro s p at_ planes hm d1 hup
    refine ⟨?_, fun rest hmatch => ?_, fun m rest hmatch hcam hfval hwait hfrom => ?_⟩
    · refine completes_run _ (exec_camLine s p at_ planes true) hm ?_
      rw [camLine_elasticFull s.start p at_ planes hup]
      exact landDrop_fields d1 p.isLt
    · refine completes_run _ (exec_camLine s p at_ planes false) hm ?_
      rw [camLine_unmatched s.start p at_ planes hup hmatch]
      obtain ⟨hevent, hcount, hports⟩ := extra_fields (d1.updPort p fun x => { x with trigs := rest }) p.isLt
      exact ⟨hevent, hcount, by rw [port_congr hports, port_updPort_same]⟩
    · exact exec_run_eq (exec_camLine s p at_ planes false) hm (camLine_matched s.start p at_ planes hcam hup hmatch hfval hwait hfrom)
  case frames =>
    intro s p at_ hm d1 hfval hup
    constructor
    · intro hopen
      refine completes_run _ (exec_acqFrameEdge s p true at_) hm ?_
      rw [acqEdge_opens s.start p at_ hfval hup hopen, Dev.acqStart, port_updPort_same]
      exact ⟨rfl, rfl, rfl, keeps_updPort ..⟩
    · intro hopen
      have hclosed : ((d1.acqClosed p).port p).acqOpen = false := by rw [Dev.acqClosed, port_setPort_same]
      have hrow := acqEdge_closes s.start p at_ hfval hup hopen
      refine completes_run _ (exec_acqFrameEdge s p false at_) hm ?_
      by_cases hshort : d1.acqLines p ≠ 0 ∧ (d1.port p).acqCount < d1.acqLines p
      · obtain ⟨hevent, hcount, hports⟩ := shortFrame_fields (d1.acqClosed p) p.isLt
        rw [hrow, if_pos hshort]
        refine ⟨by rw [port_congr hports]; exact hclosed, fun _ _ => ⟨hevent, hcount⟩, fun h => ?_⟩
        exact h.elim (absurd · hshort.1) fun h => absurd hshort.2 (Nat.not_lt.mpr h)
      · rw [hrow, if_neg hshort]
        exact ⟨hclosed, fun h1 h2 => absurd ⟨h1, h2⟩ hshort, fun _ => keeps_setPort ..⟩

end Sys2Proof.Machine
end

section
/-!
SUPPORT. Effects on the register file alone, the states of a port (R90), host writes to the words of CAM ports (R355), and the statement O20.
-/
namespace Sys2Proof.Machine

/-! ### Effects on the register file -/

/-- An effect that changes registers alone, and among them those that `P` names. -/
structure RegStep (P : Nat → Prop) (d d' : Dev) : Prop where
  rest : d' = { d with regs := d'.regs }
  regs : ∀ a, ¬ P a → d'.reg a = d.reg a

theorem RegStep.refl (P : Nat → Prop) (d : Dev) : RegStep P d d := ⟨rfl, fun _ _ => rfl⟩

theorem RegStep.trans {P : Nat → Prop} {a b c : Dev} (h : RegStep P a b) (k : RegStep P b c) : RegStep P a c := by
  refine ⟨?_, fun x hx => (k.regs x hx).trans (h.regs x hx)⟩
  have e := k.rest
  rw [h.rest] at e
  exact e

theorem RegStep.setFld {P : Nat → Prop} (d : Dev) (f : Fld) (v : Nat) (hw : f.lo + f.w ≤ 32) (hP : P f.addr) : RegStep P d (d.setFld f v) :=
  ⟨Dev.setFld_eq .., fun a ha => reg_setFld_other d f v a (fun e => ha (e ▸ hP)) fun h => absurd hw (Nat.not_le.mpr h)⟩

/-- A run of such effects. -/
theorem RegStep.foldl {α : Type} {P : Nat → Prop} {f : Dev → α → Dev} (xs : List α) (h : ∀ x ∈ xs, ∀ d, RegStep P d (f d x)) : ∀ d, RegStep P d (xs.foldl f d) := by
  induction xs with
  | nil => exact .refl P
  | cons x xs ih => exact fun d => (h x List.mem_cons_self d).trans (ih (fun y hy => h y (List.mem_cons_of_mem x hy)) (f d x))

theorem RegStep.keeps {P : Nat → Prop} {d d' : Dev} (h : RegStep P d d') : d.keeps d' P := by
  have e := h.rest
  exact ⟨h.regs, by rw [e], by rw [e]⟩

/-- A field of a word that such an effect leaves alone. -/
theorem RegStep.fld {P : Nat → Prop} {d d' : Dev} (h : RegStep P d d') (f : Fld) (hw : f.lo + f.w ≤ 32) (hP : ¬ P f.addr) : d'.fld f = d.fld f :=
  h.keeps.fld f hP fun h => absurd hw (Nat.not_le.mpr h)

theorem RegStep.ports {P : Nat → Prop} {d d' : Dev} (h : RegStep P d d') : d'.ports = d.ports := by rw [h.rest]
theorem RegStep.port {P : Nat → Prop} {d d' : Dev} (h : RegStep P d d') (p : Nat) : d'.port p = d.port p := port_congr h.ports p
theorem RegStep.out {P : Nat → Prop} {d d' : Dev} (h : RegStep P d d') : d'.out = d.out := by rw [h.rest]
theorem RegStep.time {P : Nat → Prop} {d d' : Dev} (h : RegStep P d d') : d'.time = d.time := by rw [h.rest]
theorem RegStep.mode {P : Nat → Prop} {d d' : Dev} (h : RegStep P d d') : d'.mode = d.mode := by rw [h.rest]

/-! ### The fields of a CAM port -/

section
variable {p : Nat} (hp : p < 16)
include hp

theorem portState_cam : portState p = R.CAM_STATUS_STATE p := if_pos hp
theorem camState_eq : R.CAM_STATUS_STATE p = ⟨portAddr p 4, 0, 3⟩ := by rw [portAddr_cam hp]; rfl
theorem laneUp_eq : R.CAM_STATUS_LANE_UP p = ⟨portAddr p 4, 4, 8⟩ := by rw [portAddr_cam hp]; rfl
theorem camStatus_addr : (R.CAM_STATUS p).addr = portAddr p 4 := by rw [portAddr_cam hp]; rfl
theorem gcCtrl_addr : (R.CAM_GC_CTRL p).addr = portAddr p 0xA8 := by rw [portAddr_cam hp]; rfl
theorem gcBusy_eq : R.CAM_GC_CTRL_BUSY p = ⟨portAddr p 0xA8, 11, 1⟩ := by rw [portAddr_cam hp]; rfl
theorem gcDone_eq : R.CAM_GC_CTRL_DONE p = ⟨portAddr p 0xA8, 12, 1⟩ := by rw [portAddr_cam hp]; rfl
theorem gcStatus_eq : R.CAM_GC_CTRL_GC_STATUS p = ⟨portAddr p 0xA8, 16, 16⟩ := by rw [portAddr_cam hp]; rfl
theorem deskewFail_eq : R.CAM_EVENTS_DESKEW_FAIL p = ⟨portAddr p 8, 8, 1⟩ := by rw [portAddr_cam hp]; rfl
theorem plugged_eq : R.CAM_EVENTS_PLUGGED p = ⟨portAddr p 8, 10, 1⟩ := by rw [portAddr_cam hp]; rfl
theorem mismatch_eq : R.CAM_EVENTS_MISMATCH p = ⟨portAddr p 8, 11, 1⟩ := by rw [portAddr_cam hp]; rfl
theorem gcCollide_eq : R.CAM_EVENTS_GC_COLLIDE p = ⟨portAddr p 8, 12, 1⟩ := by rw [portAddr_cam hp]; rfl

end

/-! ### Lanes of a port -/

/-- The status words of the camera lanes. -/
def laneWord (a : Nat) : Prop := ∃ l, l < 64 ∧ a = (R.KSL_LANE_STATUS l).addr

theorem not_laneWord {p o : Nat} (hp : p < 20) (ho : o < 0x1000) : ¬ laneWord (portAddr p o) := by
  have h := (portAddr_bounds hp ho).2
  rintro ⟨l, -, e⟩
  simp only [R.KSL_LANE_STATUS] at e
  omega

theorem mappedLanes_lt (d : Dev) (p : Nat) : ∀ l ∈ d.mappedLanes p, l < 64 := by
  intro l hl
  obtain ⟨k, -, hk⟩ := List.mem_filterMap.mp hl
  dsimp only at hk
  split at hk
  · rw [← Option.some.inj hk]
    exact bits_lt ..
  · exact absurd hk (by simp)

/-- Setting status bits of the lanes of a port. -/
theorem regStep_lanes (d : Dev) (p : Nat) {f : Dev → Nat → Dev} (hf : ∀ d l, l < 64 → RegStep laneWord d (f d l)) : RegStep laneWord d ((d.mappedLanes p).foldl f d) :=
  .foldl _ (fun l hl x => hf x l (mappedLanes_lt d p l hl)) d

theorem regStep_laneFld (d : Dev) {l : Nat} (hl : l < 64) (f : Fld) (v : Nat) (hf : f.addr = (R.KSL_LANE_STATUS l).addr) (hw : f.lo + f.w ≤ 32) :
    RegStep laneWord d (d.setFld f v) := .setFld d f v hw ⟨l, hl, hf⟩

/-! ### DETECT -/

/-- A port once it detects: its acquisition frame, its rate window and its identification end. -/
def Port.detecting (x : Port) : Port :=
  { x with winCount := 0, acqOpen := false, acqCount := 0, waitBoundary := false, acceptFrom := 0, deskewAt := none, idTries := 0, idRead := 0, idWait := none }

/-- The part with a port moved to DETECT, a CLG port to NO_CLOCK (R90). -/
def Dev.detecting (d : Dev) (p : Nat) : Dev := (d.setFld (portState p) 1).updPort p Port.detecting

/-- A CAM port shows no lane up, and the firmware's own command ends with IDENTIFY. -/
theorem portDetect_cam (d : Dev) {p : Nat} (hp : p < 16) :
    d.portDetect p = if d.fld (portState p) = 3 then ((d.detecting p).setFld (R.CAM_STATUS_LANE_UP p) 0).setFld (R.CAM_GC_CTRL_BUSY p) 0
      else (d.detecting p).setFld (R.CAM_STATUS_LANE_UP p) 0 := by
  simp only [Dev.portDetect, hp, if_true, decide_true, Bool.true_and, decide_eq_true_eq]
  rfl

theorem portDetect_clg (d : Dev) (m : Nat) : d.portDetect (16 + m) = d.detecting (16 + m) := by
  have hp : ¬ 16 + m < 16 := by omega
  simp only [Dev.portDetect, hp, if_false, decide_false, Bool.false_and, Bool.false_eq_true]
  rfl

/-- What a CAM port in DETECT shows, and what stays (R90). -/
theorem portDetect_cam_fields (d : Dev) {p : Nat} (hp : p < 16) :
    (d.portDetect p).fld (portState p) = 1 ∧ (d.portDetect p).port p = (d.port p).detecting ∧
      d.keeps (d.portDetect p) fun a => a = (R.CAM_STATUS p).addr ∨ a = (R.CAM_GC_CTRL p).addr := by
  let y := (d.detecting p).setFld (R.CAM_STATUS_LANE_UP p) 0
  rw [portDetect_cam d hp, portState_cam hp, camState_eq hp, camStatus_addr hp, gcCtrl_addr hp]
  have hy : y.fld ⟨portAddr p 4, 0, 3⟩ = 1 := by
    refine (fld_setFld_apart _ (R.CAM_STATUS_LANE_UP p) _ 0 (.inr (by simp [laneUp_eq hp]))).trans ?_
    rw [Dev.detecting, portState_cam hp, camState_eq hp]
    exact fld_setFld_same d _ 1 (by dsimp only; omega)
  have hport : y.port p = (d.port p).detecting := by
    rw [port_congr (Dev.setFld_ports ..) p, Dev.detecting, port_updPort_same, port_congr (Dev.setFld_ports ..) p]
  have hkeeps : d.keeps y fun a => a = portAddr p 4 ∨ a = portAddr p 0xA8 := by
    have h1 : d.keeps (d.detecting p) fun a => a = portAddr p 4 ∨ a = portAddr p 0xA8 := by
      rw [Dev.detecting, portState_cam hp, camState_eq hp]
      exact keeps_trans (keeps_mono (keeps_setFld d _ 1 (by dsimp only; omega)) fun _ => .inl) (keeps_updPort ..)
    refine keeps_trans h1 (keeps_mono (keeps_setFld _ _ 0 (by simp [laneUp_eq hp])) fun a h => .inl (h.trans ?_))
    rw [laneUp_eq hp]
  split
  · refine ⟨?_, (port_congr (Dev.setFld_ports ..) p).trans hport, keeps_trans hkeeps (keeps_mono (keeps_setFld y _ 0 (by simp [gcBusy_eq hp])) fun a h => .inr (h.trans ?_))⟩
    · rw [gcBusy_eq hp]
      exact (fld_setFld_apart y _ _ 0 (portAddr_apart (by decide) (by decide) (by decide))).trans hy
    · rw [gcBusy_eq hp]
  · exact ⟨hy, hport, hkeeps⟩

/-! ### LINK and IDENTIFY -/

/-- All lanes of a port show signal (R90). -/
theorem camLanesSignal_eq (d : Dev) (p : Nat) (hstate : d.fld (portState p) = 1) (hlanes : d.mappedLanes p ≠ []) :
    d.camLanesSignal p = ((d.mappedLanes p).foldl (fun d l => d.setFld (R.KSL_LANE_STATUS_SIGNAL l) 1) d).setFld (portState p) 2 :=
  if_neg fun h => h.elim (absurd hstate) hlanes

/-- The part with the lanes of a port block-locked and shown up (R62, R90). -/
def Dev.lanesLocked (d : Dev) (p : Nat) : Dev :=
  ((d.mappedLanes p).foldl (fun d l => (d.setFld (R.KSL_LANE_STATUS_BIT_LOCK l) 1).setFld (R.KSL_LANE_STATUS_BLOCK_LOCK l) 1) d).setFld (R.CAM_STATUS_LANE_UP p)
    (2 ^ (d.mappedLanes p).length - 1)

theorem lanesLocked_step (d : Dev) {p : Nat} (hp : p < 16) : RegStep (fun a => laneWord a ∨ a = portAddr p 4) d (d.lanesLocked p) := by
  have hlanes := regStep_lanes d p (f := fun d l => (d.setFld (R.KSL_LANE_STATUS_BIT_LOCK l) 1).setFld (R.KSL_LANE_STATUS_BLOCK_LOCK l) 1) fun d l hl =>
    (regStep_laneFld d hl (R.KSL_LANE_STATUS_BIT_LOCK l) 1 rfl (by simp [R.KSL_LANE_STATUS_BIT_LOCK])).trans
      (regStep_laneFld _ hl (R.KSL_LANE_STATUS_BLOCK_LOCK l) 1 rfl (by simp [R.KSL_LANE_STATUS_BLOCK_LOCK]))
  have hmono : RegStep (fun a => laneWord a ∨ a = portAddr p 4) d _ := ⟨hlanes.rest, fun a ha => hlanes.regs a fun h => ha (.inl h)⟩
  exact hmono.trans (.setFld _ _ _ (by simp [laneUp_eq hp]) (.inr (by rw [laneUp_eq hp])))

/-- Locking its lanes does not change the state of a port. -/
theorem lanesLocked_state (d : Dev) {p : Nat} (hp : p < 16) : (d.lanesLocked p).fld (portState p) = d.fld (portState p) := by
  rw [portState_cam hp, camState_eq hp]
  refine (fld_setFld_apart _ (R.CAM_STATUS_LANE_UP p) _ _ (.inr (by simp [laneUp_eq hp]))).trans ?_
  refine (regStep_lanes d p fun d l hl => ?_).fld _ (by dsimp only; omega) (not_laneWord (by omega) (by decide))
  exact (regStep_laneFld d hl (R.KSL_LANE_STATUS_BIT_LOCK l) 1 rfl (by simp [R.KSL_LANE_STATUS_BIT_LOCK])).trans
    (regStep_laneFld _ hl (R.KSL_LANE_STATUS_BLOCK_LOCK l) 1 rfl (by simp [R.KSL_LANE_STATUS_BLOCK_LOCK]))

/-- The port in IDENTIFY, before its first read: the firmware owns the command channel (R69, R90). -/
def Dev.identifying (d : Dev) (p : Nat) : Dev :=
  ((d.setFld (portState p) 3).updPort p fun x => { x with deskewAt := none, idTries := 0, idRead := 0, idWait := none }).setFld (R.CAM_GC_CTRL_BUSY p) 1

theorem camLinkUp_eq (d : Dev) (p skew : Nat) (h : d.fld (portState p) = 2) :
    d.camLinkUp p skew = if 50 < skew then ((d.lanesLocked p).updPort p fun x => { x with deskewAt := some (d.lanesLocked p).time }).raise (R.CAM_EVENTS_DESKEW_FAIL p)
      else ((d.lanesLocked p).identifying p).identRead p := if_neg fun hne => hne h

/-- A read of IDENTIFY goes out, and its time is noted (R91). -/
theorem identRead_fields (d : Dev) (p : Nat) :
    (d.identRead p).regs = d.regs ∧ (d.identRead p).port p = { d.port p with gcSince := d.time } ∧
      (d.identRead p).out = d.out ++ [.gcCommand p false (Config.idAddr (d.port p).idRead) 32 []] ∧ ∀ P, d.keeps (d.identRead p) P := by
  refine ⟨rfl, ?_, rfl, fun P => keeps_trans (keeps_updPort ..) (keeps_emit ..)⟩
  rw [Dev.identRead, emit_port, port_updPort_same]

theorem identifying_fields (d : Dev) {p : Nat} (hp : p < 16) :
    (d.identifying p).fld (portState p) = 3 ∧ (d.identifying p).fld (R.CAM_GC_CTRL_BUSY p) = 1 ∧
      (d.identifying p).port p = { d.port p with deskewAt := none, idTries := 0, idRead := 0, idWait := none } ∧ (d.identifying p).out = d.out := by
  rw [portState_cam hp, camState_eq hp, gcBusy_eq hp]
  unfold Dev.identifying
  rw [portState_cam hp, camState_eq hp, gcBusy_eq hp, port_congr (Dev.setFld_ports ..) p, port_updPort_same, port_congr (Dev.setFld_ports ..) p]
  refine ⟨?_, fld_setFld_same _ _ 1 (by dsimp only; omega), rfl, by simp⟩
  refine (fld_setFld_apart _ _ _ 1 (portAddr_apart (by decide) (by decide) (by decide))).trans ?_
  exact fld_setFld_same d _ 3 (by dsimp only; omega)

/-- What block lock leaves of a port in LINK, by its skew (R62, R90). -/
theorem camLinkUp_fields (d : Dev) {p : Nat} (hp : p < 16) (skew : Nat) (h : d.fld (portState p) = 2) :
    let y := d.camLinkUp p skew
    (skew ≤ 50 → y.fld (portState p) = 3 ∧ y.fld (R.CAM_GC_CTRL_BUSY p) = 1 ∧ (y.port p).deskewAt = none ∧ (y.port p).idTries = 0 ∧
      y.out = d.out ++ [.gcCommand p false (Config.idAddr 0) 32 []]) ∧
    (50 < skew → y.fld (portState p) = 2 ∧ y.fld (R.CAM_EVENTS_DESKEW_FAIL p) = 1 ∧ (y.port p).deskewAt = some d.time) := by
  let u := d.lanesLocked p
  have hlanes : RegStep _ d u := lanesLocked_step d hp
  intro y
  have hy : y = _ := camLinkUp_eq d p skew h
  constructor
  · intro hskew
    rw [if_neg (Nat.not_lt.mpr hskew)] at hy
    obtain ⟨hregs, hport, hout, -⟩ := identRead_fields (u.identifying p) p
    obtain ⟨hstate, hbusy, hident, hsent⟩ := identifying_fields u hp
    rw [hy, fld_congr_regs hregs, fld_congr_regs hregs, hport, hout, hident, hsent, hlanes.out]
    exact ⟨hstate, hbusy, rfl, rfl, rfl⟩
  · intro hskew
    rw [if_pos hskew, deskewFail_eq hp] at hy
    have hstate : u.fld (portState p) = 2 := (lanesLocked_state d hp).trans h
    rw [portState_cam hp, camState_eq hp] at hstate ⊢
    rw [hy, deskewFail_eq hp, port_congr (Dev.raise_ports ..) p, port_updPort_same]
    refine ⟨?_, portEvent_fld _ (by omega) (by decide), congrArg some hlanes.time⟩
    exact (portEvent_fld_other _ (by omega) (by decide) (by decide) (by decide) (by decide)).trans hstate

/-! ### Host writes to the words of CAM ports -/

/-- A write of a register word of a CAM port. -/
theorem hostWrite_cam (d : Dev) (p o v : Nat) (hp : p < 16) (h4 : o % 4 = 0) (ho : o < 0x8000) (h3 : 3 ≤ d.mode.code) (r : RegDesc)
    (hr : r ∈ descCAM) (hbase : r.base = 0x200000 + o) (hs : r.s1 = 0x10000) (hn1 : r.n1 = 16) (hn2 : 0 < r.n2) :
    d.hostWrite (0x200000 + o + 0x10000 * p) v = d.camWrite 0 (0x200000 + o + 0x10000 * p) v := by
  have ha : r.base + p * r.s1 = 0x200000 + o + 0x10000 * p := by rw [hbase, hs]; omega
  have hblock : descBlock (r.base + p * r.s1) = descCAM := by
    unfold descBlock
    rw [ha, show (0x200000 + o + 0x10000 * p) / 0x100000 = 2 by omega]
    rfl
  have hdesc : (findDesc (r.base + p * r.s1)).isSome = true := findDesc_isSome_of_row r p (by rw [hblock]; exact hr) (by omega) (by omega) hn2
  have htap : inTap (0x200000 + o + 0x10000 * p) = false := by simp only [inTap, Bool.and_eq_false_iff, decide_eq_false_iff_not]; omega
  rw [ha] at hdesc
  obtain ⟨q, hq⟩ := Option.isSome_iff_exists.mp hdesc
  rw [hostWrite_eq d _ _ h3]
  simp only [Dev.regWrite, htap, hq, Option.isNone_some, Bool.false_eq_true, if_false, show (0x200000 + o + 0x10000 * p) / 0x100000 = 2 by omega,
    show (0x200000 + o + 0x10000 * p) % 4 = 0 by omega, ne_eq, not_true_eq_false]

/-- A host write of CAM_CTRL with RETRY = 1 (R90). -/
theorem hostWrite_camRetry (d : Dev) (p : Fin 16) (v : Nat) (h3 : 3 ≤ d.mode.code) (hv : bitOf v 12 = true) :
    d.hostWrite (0x200000 + 0x10000 * p) v = (d.baseWrite 0 (R.CAM_CTRL_ENABLE p).addr v).camRetry p := by
  have hp := p.isLt
  have hacts : ∀ y : Dev, y.mixedActs (0x200000 + 0x10000 * p.val) v = y.camRetry p := fun y => by
    simp only [Dev.mixedActs, show (0x200000 + 0x10000 * p.val) / 0x100000 = 2 by omega]
    rw [if_pos ⟨by omega, hv⟩, show (0x200000 + 0x10000 * p.val) / 0x10000 % 16 = p by omega]
  refine (hostWrite_cam d p 0 v hp (by decide) (by decide) h3 ⟨0x0200000, 16, 0x10000, 1, 0, 0x200, 0, 0xF7F, 0, 0x1000, 0, 0, false⟩
    (by decide) rfl rfl rfl (by decide)).trans ?_
  simp only [Dev.camWrite]
  rw [if_neg (by omega)]
  refine (hacts _).trans ?_
  rw [show (R.CAM_CTRL_ENABLE p).addr = 0x200000 + 0x10000 * p.val by simp only [R.CAM_CTRL_ENABLE]; omega]

/-! ### The statement -/

/-- Settles O20: each step of bring-up by the state that it finds, and RETRY by ENABLE and MISMATCH. -/
theorem portBringUp : Obligations.PortBringUp := by
  unfold Obligations.PortBringUp
  intro s p hm up
  have hp20 : p.val < 20 := by omega
  refine ⟨?signal, ?lock, ?waited, ?retry⟩
  case signal =>
    intro hstate hlanes
    let y := (s.start.mappedLanes p).foldl (fun d l => d.setFld (R.KSL_LANE_STATUS_SIGNAL l) 1) s.start
    have hstep : RegStep laneWord s.start y := regStep_lanes s.start p fun d l hl => regStep_laneFld d hl (R.KSL_LANE_STATUS_SIGNAL l) 1 rfl (by simp [R.KSL_LANE_STATUS_SIGNAL])
    refine completes_run _ (exec_camLanesSignal s p) hm ?_
    rw [camLanesSignal_eq s.start p hstate hlanes, portState_cam p.isLt]
    refine ⟨fld_setFld_same y _ 2 (by simp [R.CAM_STATUS_STATE]), (Dev.setFld_ports ..).trans hstep.ports, keeps_trans (keeps_mono hstep.keeps fun _ => .inr) ?_⟩
    exact keeps_mono (keeps_setFld y _ 2 (by simp [R.CAM_STATUS_STATE])) fun _ => .inl
  case lock =>
    intro skew hstate
    refine ⟨completes_run _ (exec_camLinkUp s p skew) hm (camLinkUp_fields s.start p.isLt skew hstate), ?_⟩
    intro t ht d1
    have hrow : s.start.deskewRetry p skew = d1.camLinkUp p skew := by
      simp only [Dev.deskewRetry, show (s.start.port p).deskewAt = some t from ht]
      rfl
    refine completes_run _ (exec_deskewRetry s p skew) hm ?_
    rw [hrow]
    exact camLinkUp_fields d1 p.isLt skew ((advance_state s.start _ hp20).trans hstate)
  case waited =>
    intro t ht d1
    have hrow : s.start.identifyWaitEnd p = d1.portDetect p := by
      simp only [Dev.identifyWaitEnd, show (s.start.port p).idWait = some t from ht]
      rfl
    obtain ⟨hstate, hport, hkeeps⟩ := portDetect_cam_fields d1 p.isLt
    refine completes_run _ (exec_camIdentifyWaitEnd s p) hm ?_
    rw [hrow, hport]
    exact ⟨hstate, rfl, rfl, hkeeps⟩
  case retry =>
    intro v h3 d1
    have hbit : bitOf (v.toNat ||| 0x1000) 12 = true := bitOf_or_two_pow v.toNat 12
    have hrow : s.start.hostWrite (0x200000 + 0x10000 * p.val) (v.toNat ||| 0x1000) = d1.camRetry p := hostWrite_camRetry s.start p _ h3 hbit
    constructor
    · intro hoff
      refine completes_run _ (exec_camRetry s p v) hm ?_
      rw [hrow, show d1.camRetry p = d1.portErr p 0x4001 from if_pos hoff]
      exact ⟨portErr_code .., keeps_portErr ..⟩
    · intro hon hstate
      obtain ⟨hdetect, -, hkeeps⟩ := portDetect_cam_fields d1 p.isLt
      refine completes_run _ (exec_camRetry s p v) hm ?_
      rw [hrow, show d1.camRetry p = d1.portDetect p from (if_neg (by rw [hon]; exact Bool.noConfusion)).trans (if_pos hstate)]
      exact ⟨hdetect, hkeeps⟩

end Sys2Proof.Machine
end

section
/-!
SUPPORT. READY and MISMATCH, clocks of CLG ports, missing roles (R74, R91 to R93), and the statement O21.
-/
namespace Sys2Proof.Machine

/-! ### READY -/

/-- READY of a CAM port and LOCKED of a CLG port are values of STATE. -/
theorem portReady_state (d : Dev) (p : Nat) : (d.portReady p).fld (portState p) = readyState p := by
  rw [Dev.portReady, updPort_fld, portState_eq]
  refine (fld_setFld_same d _ _ (by dsimp only; split <;> omega)).trans ?_
  unfold readyState
  split <;> rfl

/-- In INSPECT and DEGRADED a port that becomes READY waits for the next boundary (R92). -/
theorem portReady_waits (d : Dev) (p : Nat) : ((d.portReady p).port p).waitBoundary = (decide (d.mode = .inspect) || decide (d.mode = .degraded)) := by
  rw [Dev.portReady, port_updPort_same]

theorem keeps_portReady (d : Dev) (p : Nat) : d.keeps (d.portReady p) (· = portAddr p 4) := by
  rw [Dev.portReady, portState_eq]
  exact keeps_trans (keeps_setFld d _ _ (by dsimp only; split <;> omega)) (keeps_updPort ..)

/-! ### The identity of a CAM port -/

/-- The words of the command channel, its mailbox and the identity of a CAM port. -/
def commandWord (p a : Nat) : Prop := 0x2000A0 + p * 0x10000 ≤ a ∧ a < 0x200300 + p * 0x10000

theorem commandWord_gcCtrl {p : Nat} (hp : p < 16) : commandWord p (portAddr p 0xA8) := by
  rw [portAddr_cam hp]
  constructor <;> omega

/-- The words below the command channel are STATUS, the events, the routing and the counts. -/
theorem not_commandWord {p o : Nat} (hp : p < 16) (ho : o < 0xA0) : ¬ commandWord p (portAddr p o) := by
  rw [portAddr_cam hp]
  rintro ⟨h, -⟩
  omega

theorem bytesWords_length (n : Nat) : ∀ bs : List Byte, (bytesWords n bs).length = n := by
  induction n with
  | zero => exact fun _ => rfl
  | succ n ih => exact fun bs => congrArg (· + 1) (ih (bs.drop 4))

/-- Storing the words of some bytes in a run of registers. -/
theorem regStep_words {P : Nat → Prop} (n : Nat) (bs : List Byte) (f : Nat → Fld) (hf : ∀ i < n, P (f i).addr ∧ (f i).lo + (f i).w ≤ 32) (d : Dev) :
    RegStep P d ((bytesWords n bs).zipIdx.foldl (fun d (w, i) => d.setFld (f i) w) d) := by
  refine .foldl _ (fun x hx y => ?_) d
  have hi : x.2 < n := by
    have h := List.snd_lt_add_of_mem_zipIdx hx
    rwa [bytesWords_length, Nat.zero_add] at h
  obtain ⟨hP, hw⟩ := hf x.2 hi
  exact .setFld y (f x.2) x.1 hw hP

/-- The part with a camera's identity stored, and the firmware's last read ended (R91). -/
def Dev.identityStored (d : Dev) (p : Nat) (ident : List Byte) : Dev :=
  ((bytesWords 32 ident).zipIdx.foldl (fun d (w, i) => d.setFld (R.CAM_ID p i) w) d).setFld (R.CAM_GC_CTRL_BUSY p) 0

theorem identityStored_step (d : Dev) {p : Nat} (hp : p < 16) (ident : List Byte) : RegStep (commandWord p) d (d.identityStored p ident) := by
  refine (regStep_words 32 ident (R.CAM_ID p) (fun i hi => ⟨?_, by simp [R.CAM_ID]⟩) d).trans (.setFld _ (R.CAM_GC_CTRL_BUSY p) 0 (by simp [R.CAM_GC_CTRL_BUSY]) ?_)
  · simp only [commandWord, R.CAM_ID]
    omega
  · rw [gcBusy_eq hp]
    exact commandWord_gcCtrl hp

/-- Does the identity read match what ID_MATCH and EXPECT_CRC ask for (R91). -/
def Dev.identExpected (d : Dev) (p : Nat) (ident : List Byte) : Bool := idMatches (d.live (R.CAM_ID_MATCH p)) (d.live (R.CAM_EXPECT_CRC p)) (fit 128 ident)

/-- Storing the identity does not change what is expected. -/
theorem identExpected_stored (d : Dev) {p : Nat} (hp : p < 16) (ident : List Byte) : (d.identityStored p ident).identExpected p ident = d.identExpected p ident := by
  have hstep := identityStored_step d hp ident
  have hlive : ∀ f : Fld, f.addr = 0x2000B0 + p * 0x10000 ∨ f.addr = 0x2000B4 + p * 0x10000 → f.lo + f.w ≤ 32 →
      (d.identityStored p ident).live f = d.live f := fun f hf hw =>
    hstep.fld (liveOf f) hw (by simp only [liveOf, commandWord]; omega)
  unfold Dev.identExpected
  rw [hlive _ (.inl rfl) (by simp [R.CAM_ID_MATCH]), hlive _ (.inr rfl) (by simp [R.CAM_EXPECT_CRC])]

/-- The identity of a port in IDENTIFY decides whether the port becomes READY and takes its stored trims (R91, R332). -/
theorem identifyRow_eq (d : Dev) {p : Nat} (hp : p < 16) (ident : List Byte) (hstate : d.fld (portState p) = 3) (hwait : (d.port p).idWait = none) :
    let y := d.identityStored p ident
    d.identifyRow p ident = if d.identExpected p ident = true then ((y.portReady p).raise (R.CAM_EVENTS_PLUGGED p)).pantryPort p
      else ((y.setFld (portState p) 6).portErr p 0x400C).raise (R.CAM_EVENTS_MISMATCH p) := by
  intro y
  have hruns : ¬ (d.fld (portState p) ≠ 3 ∨ (d.port p).idWait.isSome = true) := by rw [hstate, hwait]; simp
  have hrow : d.camIdentified p ident = if y.identExpected p ident = true then ((y.portReady p).raise (R.CAM_EVENTS_PLUGGED p), true)
      else (((y.setFld (portState p) 6).portErr p 0x400C).raise (R.CAM_EVENTS_MISMATCH p), false) := if_neg hruns
  rw [Dev.identifyRow, hrow, identExpected_stored d hp]
  by_cases h : d.identExpected p ident = true
  · simp only [if_pos h, if_true]
  · simp only [if_neg h, Bool.false_eq_true, if_false]

/-- A CAM port that becomes READY (R91, R92). -/
theorem plugged_fields (d : Dev) {p : Nat} (hp : p < 16) :
    let y := (d.portReady p).raise (R.CAM_EVENTS_PLUGGED p)
    y.fld (portState p) = 4 ∧ y.fld (R.CAM_EVENTS_PLUGGED p) = 1 ∧ ((y.port p).waitBoundary = true ↔ d.mode = .inspect ∨ d.mode = .degraded) := by
  have hready : (d.portReady p).fld (portState p) = 4 := (portReady_state d p).trans (if_pos hp)
  rw [portState_cam hp, camState_eq hp] at hready ⊢
  rw [plugged_eq hp]
  refine ⟨(portEvent_fld_other _ (by omega) (by decide) (by decide) (by decide) (by decide)).trans hready, portEvent_fld _ (by omega) (by decide), ?_⟩
  rw [port_congr (Dev.raise_ports ..) p, portReady_waits, Bool.or_eq_true, decide_eq_true_eq, decide_eq_true_eq]

/-- A CAM port whose identity is another one (R91). -/
theorem mismatch_fields (d : Dev) {p : Nat} (hp : p < 16) :
    let y := ((d.setFld (portState p) 6).portErr p 0x400C).raise (R.CAM_EVENTS_MISMATCH p)
    y.fld (portState p) = 6 ∧ y.fld (portLastErr p) = 0x400C ∧ y.fld (R.CAM_EVENTS_MISMATCH p) = 1 := by
  rw [portState_cam hp, camState_eq hp, mismatch_eq hp]
  obtain ⟨hevent, hcode⟩ := portErr_raise_fields (d.setFld ⟨portAddr p 4, 0, 3⟩ 6) 0x400C (show p < 20 by omega) (show 11 < 32 by decide)
  refine ⟨?_, hcode, hevent⟩
  refine (portEvent_fld_other _ (by omega) (by decide) (by decide) (by decide) (by decide)).trans ?_
  refine ((keeps_portErr _ p 0x400C).fld _ (by rw [portLastErr_eq]; exact portAddr_ne (by decide)) fun h => absurd h (by dsimp only; decide)).trans ?_
  exact fld_setFld_same d _ 6 (by dsimp only; omega)

/-! ### Clocks of a CLG port -/

theorem portState_clg (m : Nat) : portState (16 + m) = R.CLG_STATUS_STATE m := by
  rw [portState, portFld, if_neg (by omega), Nat.add_sub_cancel_left]

theorem clgState_eq (m : Nat) : R.CLG_STATUS_STATE m = ⟨portAddr (16 + m) 4, 0, 2⟩ := by rw [portAddr_clg]; rfl
theorem clkOk_eq (m : Nat) : R.CLG_STATUS_CLK_OK m = ⟨portAddr (16 + m) 4, 2, 3⟩ := by rw [portAddr_clg]; rfl
theorem clkOkBit_eq (m ch : Nat) : Fld.bit (R.CLG_STATUS_CLK_OK m) ch = ⟨portAddr (16 + m) 4, 2 + ch, 1⟩ := by rw [clkOk_eq]; rfl
theorem pclk_eq (m : Nat) : R.CLG_STATUS_PCLK_MHZ m = ⟨portAddr (16 + m) 4, 8, 8⟩ := by rw [portAddr_clg]; rfl
theorem clgStatus_addr (m : Nat) : (R.CLG_STATUS m).addr = portAddr (16 + m) 4 := by rw [portAddr_clg]; rfl
theorem clockLost_eq (m : Nat) : R.CLG_EVENTS_CLOCK_LOST m = ⟨portAddr (16 + m) 8, 8, 1⟩ := by rw [portAddr_clg]; rfl

/-- The part with the clocks of a CLG port in range, and its rate shown (R74). -/
def Dev.clocksShown (d : Dev) (m mhz : Nat) : Dev :=
  (d.setFld (R.CLG_STATUS_CLK_OK m) (d.fld (R.CLG_STATUS_CLK_OK m) ||| (2 ^ d.clgChannels m - 1))).setFld (R.CLG_STATUS_PCLK_MHZ m) mhz

/-- A CLG port whose clocks are in range becomes LOCKED and takes its stored trims (R74, R332). -/
theorem clgRow_eq (d : Dev) (m mhz : Nat) (h : d.fld (R.CLG_STATUS_STATE m) = 1) :
    d.clgRow m mhz = ((d.clocksShown m mhz).portReady (16 + m)).pantryPort (16 + m) := by
  have hrow : d.clgLocked m mhz = ((d.clocksShown m mhz).portReady (16 + m), true) := if_neg fun hne => hne h
  rw [Dev.clgRow, hrow]
  rfl

theorem clocksShown_ready_fields (d : Dev) (m mhz : Nat) :
    let y := (d.clocksShown m mhz).portReady (16 + m)
    y.fld (R.CLG_STATUS_STATE m) = 2 ∧ y.fld (R.CLG_STATUS_PCLK_MHZ m) = mhz % 256 ∧ d.keeps y (· = (R.CLG_STATUS m).addr) := by
  have hready := portReady_state (d.clocksShown m mhz) (16 + m)
  have hkept := keeps_portReady (d.clocksShown m mhz) (16 + m)
  rw [portState_clg, readyState, if_neg (by omega)] at hready
  rw [clgStatus_addr]
  refine ⟨hready, ?_, keeps_trans (keeps_trans (b := d.setFld (R.CLG_STATUS_CLK_OK m) (d.fld (R.CLG_STATUS_CLK_OK m) ||| (2 ^ d.clgChannels m - 1))) ?_ ?_) hkept⟩
  · rw [Dev.portReady, updPort_fld, portState_clg, clgState_eq]
    refine (fld_setFld_apart _ _ _ _ (.inr (by simp [pclk_eq]))).trans ?_
    exact fld_setFld_same _ (R.CLG_STATUS_PCLK_MHZ m) mhz (by simp [pclk_eq])
  · rw [clkOk_eq]
    exact keeps_setFld d _ _ (by dsimp only; omega)
  · rw [Dev.clocksShown, pclk_eq]
    exact keeps_setFld _ _ _ (by dsimp only; omega)

/-- The part with a clock of a CLG port no longer in range. -/
def Dev.clockOut (d : Dev) (m ch : Nat) : Dev := d.setFld (Fld.bit (R.CLG_STATUS_CLK_OK m) ch) 0

theorem clockOut_fields (d : Dev) (m : Nat) {ch : Nat} (hch : ch < 3) :
    (d.clockOut m ch).fld (Fld.bit (R.CLG_STATUS_CLK_OK m) ch) = 0 ∧ (d.clockOut m ch).fld (R.CLG_STATUS_STATE m) = d.fld (R.CLG_STATUS_STATE m) ∧
      d.keeps (d.clockOut m ch) (· = (R.CLG_STATUS m).addr) := by
  rw [Dev.clockOut, clkOkBit_eq, clgState_eq, clgStatus_addr]
  exact ⟨fld_setFld_same d _ 0 (by dsimp only; omega), fld_setFld_apart d _ _ 0 (.inr (by dsimp only; omega)), keeps_setFld d _ 0 (by dsimp only; omega)⟩

/-- How many clocks a port needs, and whether it is up, do not depend on which are in range. -/
theorem clockOut_channels (d : Dev) (m : Nat) {ch : Nat} (hch : ch < 3) : (d.clockOut m ch).clgChannels m = d.clgChannels m := by
  have hlive : (d.clockOut m ch).live (R.CLG_CTRL_CONFIG m) = d.live (R.CLG_CTRL_CONFIG m) :=
    (clockOut_fields d m hch).2.2.fld (liveOf (R.CLG_CTRL_CONFIG m)) (by simp only [liveOf, R.CLG_CTRL_CONFIG, R.CLG_STATUS]; omega)
      fun h => absurd h (by simp [liveOf, R.CLG_CTRL_CONFIG])
  rw [Dev.clgChannels, hlive, Dev.clgChannels]

theorem clockOut_up (d : Dev) (m : Nat) {ch : Nat} (hch : ch < 3) : (d.clockOut m ch).portUp (16 + m) = d.portUp (16 + m) := by
  rw [Dev.portUp, portState_clg, (clockOut_fields d m hch).2.1, Dev.portUp, portState_clg]

/-- The part with a CLG port in NO_CLOCK, and CLOCK_LOST set (R74). -/
def Dev.clockless (d : Dev) (m : Nat) : Dev := ((d.portErr (16 + m) 0x4010).raise (R.CLG_EVENTS_CLOCK_LOST m)).portDetect (16 + m)

theorem clgNoClock_eq (d : Dev) (m : Nat) : d.clgNoClock m = if d.portUp (16 + m) = true then (d.clockless m).portLeft (16 + m) else d.clockless m := rfl

/-- A clock that CONFIG does not need goes missing or out of range (R74). -/
theorem clgLost_unneeded (d : Dev) (m : Nat) {ch : Nat} (hch : ch < 3) (h : d.fld (R.CLG_STATUS_STATE m) ≠ 0) (hn : d.clgChannels m ≤ ch) :
    d.clgLost m ch = d.clockOut m ch :=
  (if_neg h).trans (if_neg (by rw [show (d.setFld (Fld.bit (R.CLG_STATUS_CLK_OK m) ch) 0).clgChannels m = _ from clockOut_channels d m hch]; exact Nat.not_lt.mpr hn))

/-- One that it needs does (R74). -/
theorem clgLost_needed (d : Dev) (m : Nat) {ch : Nat} (hch : ch < 3) (h : d.fld (R.CLG_STATUS_STATE m) ≠ 0) (hn : ch < d.clgChannels m) :
    d.clgLost m ch = if d.portUp (16 + m) = true then ((d.clockOut m ch).clockless m).portLeft (16 + m) else (d.clockOut m ch).clockless m := by
  refine (if_neg h).trans ((if_pos ?_).trans ((clgNoClock_eq (d.clockOut m ch) m).trans (by rw [clockOut_up d m hch])))
  rw [show (d.setFld (Fld.bit (R.CLG_STATUS_CLK_OK m) ch) 0).clgChannels m = _ from clockOut_channels d m hch]
  exact hn

theorem clockless_fields (d : Dev) {m : Nat} (hm : m < 4) {ch : Nat} (hch : ch < 3) :
    (d.clockless m).fld (R.CLG_STATUS_STATE m) = 1 ∧ (d.clockless m).fld (R.CLG_EVENTS_CLOCK_LOST m) = 1 ∧ (d.clockless m).fld (portLastErr (16 + m)) = 0x4010 ∧
      (d.clockless m).fld (Fld.bit (R.CLG_STATUS_CLK_OK m) ch) = d.fld (Fld.bit (R.CLG_STATUS_CLK_OK m) ch) := by
  rw [Dev.clockless, portDetect_clg, Dev.detecting, portState_clg, clgState_eq, clockLost_eq, clkOkBit_eq]
  obtain ⟨hevent, hcode⟩ := portErr_raise_fields d 0x4010 (show 16 + m < 20 by omega) (show 8 < 32 by decide)
  simp only [updPort_fld]
  refine ⟨fld_setFld_same _ _ 1 (by dsimp only; omega), ?_, ?_, ?_⟩
  · exact (fld_setFld_apart _ _ _ 1 (portAddr_apart (by decide) (by decide) (by decide))).trans hevent
  · rw [portLastErr_eq] at hcode ⊢
    exact (fld_setFld_apart _ _ _ 1 (portAddr_apart (by decide) (by decide) (by decide))).trans hcode
  · refine (fld_setFld_apart _ _ _ 1 (.inr (by dsimp only; omega))).trans ?_
    refine (portEvent_fld_other _ (by omega) (by decide) (by decide) (by decide) (by omega)).trans ?_
    exact (keeps_portErr d (16 + m) 0x4010).fld _ (by rw [portLastErr_eq]; exact portAddr_ne (by decide)) fun h => absurd h (by dsimp only; omega)

/-! ### Missing roles -/

/-- The roles that a port's streams go to are among the 16. -/
theorem dests_role_lt (d : Dev) (p : Nat) : ∀ x ∈ d.dests p, x.mode = 1 → x.role < 16 := by
  have hlive : ∀ f : Fld, f.w = 4 → d.live f < 16 := fun f hf => by
    have h := fld_lt d (liveOf f)
    rwa [show (liveOf f).w = 4 from hf] at h
  intro x hx hmode
  unfold Dev.dests destsOf at hx
  split at hx
  · next hcam =>
    obtain ⟨k, -, rfl⟩ := List.mem_map.mp hx
    dsimp only at hmode ⊢
    rwa [if_pos hmode]
  · rw [List.mem_singleton.mp hx]
    exact hlive _ rfl

/-- The roles that a port feeds, with those of its odd half, are bits of MISSING_ROLES or the bit beside it. -/
theorem primaryRoles_lt (d : Dev) (p : Nat) : ∀ r ∈ d.primaryRoles p, r < 17 := by
  have hroles : ∀ r ∈ ((d.dests p).filter fun x => x.mode = 1).map (·.role), r < 16 := by
    intro r hr
    obtain ⟨x, hx, rfl⟩ := List.mem_map.mp hr
    obtain ⟨hmem, hmode⟩ := List.mem_filter.mp hx
    exact dests_role_lt d p x hmem (of_decide_eq_true hmode)
  intro r hr
  unfold Dev.primaryRoles at hr
  dsimp only at hr
  split at hr
  · obtain ⟨q, hq, hin⟩ := List.mem_flatMap.mp hr
    have hlt := hroles q hq
    simp only [List.mem_cons, List.not_mem_nil, or_false] at hin
    omega
  · exact Nat.lt_succ_of_lt (hroles r hr)

/-- A port that is missing marks itself and its roles, in the one word of GLB.MISSING (R93). -/
theorem portMissing_fields (d : Dev) (p : Nat) :
    ((d.portMissing p).port p).missing = true ∧ d.keeps (d.portMissing p) (· = R.GLB_MISSING_ROLES.addr) := by
  let y := d.updPort p fun x => { x with missing := true }
  have hstep : RegStep (· = R.GLB_MISSING_ROLES.addr) y (d.portMissing p) := by
    refine .foldl _ (fun r hr x => ?_) y
    have hr17 := primaryRoles_lt y p r hr
    split
    · exact .setFld x _ 1 (by simp only [Fld.bit, R.GLB_MISSING_ROLES]; omega) rfl
    · exact .refl _ x
  refine ⟨?_, keeps_trans (keeps_updPort ..) hstep.keeps⟩
  rw [hstep.port, port_updPort_same]

/-- An enabled port that does not stream is missing 100 ms after a trigger (R93). -/
theorem roleMissing_eq (d : Dev) (p : Nat) {t : Nat} (ht : (d.port p).outSince = some t) (hstate : d.fld (portState p) ≠ streamState p) (hen : d.lflag (portEnable p) = true) :
    d.roleMissing p = (d.advance (t + 40000000)).portMissing p := by
  simp only [Dev.roleMissing, ht, hstate, hen, Bool.not_true, Bool.false_eq_true, or_self, if_false]

/-! ### The statement -/

/-- Settles O21: the identity by what is expected, the clocks of a CLG port by what its CONFIG needs, and a port that is out by its time. -/
theorem portReadiness : Obligations.PortReadiness := by
  unfold Obligations.PortReadiness
  intro s hm
  refine ⟨?identity, ?locked, ?unneeded, ?needed, ?missing⟩
  case identity =>
    intro p ident hstate hwait ok
    have hstep := identityStored_step s.start p.isLt ident
    have hrow := identifyRow_eq s.start p.isLt ident hstate hwait
    have hexpected : s.start.identExpected p ident = ok := rfl
    dsimp only at hrow
    rw [hexpected] at hrow
    constructor
    · intro hok
      rw [if_pos hok] at hrow
      have hready := plugged_fields (s.start.identityStored p ident) p.isLt
      rw [hstep.mode] at hready
      exact completes_then _ (fun d => d.pantryPort p) _ (exec_camIdentifyDone s p ident) hm hrow hready
    · intro hok
      refine completes_run _ (exec_camIdentifyDone s p ident) hm ?_
      rw [hrow, if_neg (by rw [hok]; exact Bool.noConfusion)]
      exact mismatch_fields _ p.isLt
  case locked =>
    intro m mhz hstate
    exact completes_then _ (fun d => d.pantryPort (16 + m)) _ (exec_clgClockLocked s m mhz) hm (clgRow_eq s.start m mhz hstate) (clocksShown_ready_fields s.start m mhz)
  case unneeded =>
    intro m ch hstate hch
    refine completes_run _ (exec_clgClockLost s m ch) hm ?_
    rw [clgLost_unneeded s.start m ch.isLt hstate hch]
    exact clockOut_fields s.start m ch.isLt
  case needed =>
    intro m ch hstate hch
    obtain ⟨hnone, hevent, hcode, hclk⟩ := clockless_fields (s.start.clockOut m ch) m.isLt ch.isLt
    exact ⟨(s.start.clockOut m ch).clockless m, exec_run_eq (exec_clgClockLost s m ch) hm (clgLost_needed s.start m ch.isLt hstate hch), hnone, hevent, hcode,
      hclk.trans (clockOut_fields s.start m ch.isLt).1⟩
  case missing =>
    intro p t ht hstate hen d1
    refine completes_run _ (exec_roleMissingTimeout s p) hm ?_
    rw [roleMissing_eq s.start p ht hstate hen]
    exact portMissing_fields d1 p

end Sys2Proof.Machine
end

section
/-!
SUPPORT. The command channel of a CAM port (R69, R90, R100), the serial pair of a CLG port (R73), and the statement O22.
-/
namespace Sys2Proof.Machine

/-! ### GO -/

theorem gcLen_eq {p : Nat} (hp : p < 16) : R.CAM_GC_CTRL_GC_LEN p = ⟨portAddr p 0xA8, 0, 9⟩ := by rw [portAddr_cam hp]; rfl
theorem gcWrite_eq {p : Nat} (hp : p < 16) : R.CAM_GC_CTRL_WRITE p = ⟨portAddr p 0xA8, 9, 1⟩ := by rw [portAddr_cam hp]; rfl

/-- What a write of GO does to DONE before the command: a bit written one is cleared, unless the part sets it in the same cycle (R17, R20). -/
def Dev.doneCleared (d : Dev) (p : Nat) (clear : Bool) : Dev := if clear then d.setFld (R.CAM_GC_CTRL_DONE p) 0 else d

/-- A host write of GC_CTRL with GO = 1 (R69). -/
theorem hostWrite_gcGo (d : Dev) (p : Fin 16) (v : Nat) (h3 : 3 ≤ d.mode.code) (hv : bitOf v 10 = true) :
    ∃ clear, d.hostWrite (0x2000A8 + 0x10000 * p) v = (d.doneCleared p clear).gcGo p (bitOf v 9) (bits v 0 9) := by
  have hp := p.isLt
  refine ⟨bitOf v 12 && !bitOf (d.setHere (0x2000A8 + 0x10000 * p)) 12, (hostWrite_cam d p 0xA8 v hp (by decide) (by decide) h3
    ⟨0x02000A8, 16, 0x10000, 1, 0, 0, 0x3FF, 0, 0x1000, 0x400, 0, 0, false⟩ (by decide) rfl rfl rfl (by decide)).trans ?_⟩
  simp only [Dev.camWrite]
  rw [if_pos ⟨by omega, hv⟩, show (0x200000 + 0xA8 + 0x10000 * p.val) / 0x10000 % 16 = p by omega]
  rfl

/-- The length in the word that is written stays beside GO. -/
theorem bits_or_go (v : Nat) : bits (v ||| 0x400) 0 9 = v % 512 := by
  rw [bits, Nat.pow_zero, Nat.div_one]
  refine Nat.eq_of_testBit_eq fun i => ?_
  rw [show (512 : Nat) = 2 ^ 9 from rfl, Nat.testBit_mod_two_pow, Nat.testBit_mod_two_pow, Nat.testBit_or, show (0x400 : Nat) = 2 ^ 10 from rfl, Nat.testBit_two_pow]
  by_cases h : i < 9
  · simp [h, show (10 : Nat) ≠ i by omega]
  · simp [h]

theorem doneCleared_step (d : Dev) {p : Nat} (hp : p < 16) (clear : Bool) : RegStep (· = portAddr p 0xA8) d (d.doneCleared p clear) := by
  cases clear
  · exact .refl _ d
  · exact .setFld d (R.CAM_GC_CTRL_DONE p) 0 (by simp [gcDone_eq hp]) (by rw [gcDone_eq hp])

/-- Clearing DONE leaves BUSY alone. -/
theorem doneCleared_busy (d : Dev) {p : Nat} (hp : p < 16) (clear : Bool) : (d.doneCleared p clear).flag (R.CAM_GC_CTRL_BUSY p) = d.flag (R.CAM_GC_CTRL_BUSY p) := by
  cases clear
  · rfl
  · have hbusy : (d.doneCleared p true).fld (R.CAM_GC_CTRL_BUSY p) = d.fld (R.CAM_GC_CTRL_BUSY p) :=
      fld_setFld_apart d (R.CAM_GC_CTRL_DONE p) _ 0 (.inr (by simp [gcDone_eq hp, gcBusy_eq hp]))
    rw [Dev.flag, hbusy, Dev.flag]

/-- The state of the port and its ENABLE are not in GC_CTRL. -/
theorem doneCleared_state (d : Dev) {p : Nat} (hp : p < 16) (clear : Bool) :
    (d.doneCleared p clear).fld (portState p) = d.fld (portState p) ∧ (d.doneCleared p clear).portDisabled p = d.portDisabled p := by
  have hstep := doneCleared_step d hp clear
  have henable : (d.doneCleared p clear).lflag (portEnable p) = d.lflag (portEnable p) := by
    show decide ((d.doneCleared p clear).fld (liveOf (portEnable p)) ≠ 0) = decide (d.fld (liveOf (portEnable p)) ≠ 0)
    rw [hstep.fld (liveOf (portEnable p)) (by rw [show portEnable p = R.CAM_CTRL_ENABLE p from if_pos hp]; simp [liveOf, R.CAM_CTRL_ENABLE])
      (by rw [show portEnable p = R.CAM_CTRL_ENABLE p from if_pos hp, portAddr_cam hp]; simp only [liveOf, R.CAM_CTRL_ENABLE]; omega)]
  refine ⟨hstep.fld _ ?_ ?_, by rw [Dev.portDisabled, henable, Dev.portDisabled]⟩
  · rw [portState_cam hp, camState_eq hp]; dsimp only; omega
  · rw [portState_cam hp, camState_eq hp]; exact portAddr_ne (by decide)

/-- The part with a command of software under way (R69). -/
def Dev.gcBegun (d : Dev) (p : Nat) (write : Bool) (len : Nat) : Dev :=
  (((d.setFld (R.CAM_GC_CTRL_GC_LEN p) len).setFlag (R.CAM_GC_CTRL_WRITE p) write).setFld (R.CAM_GC_CTRL_BUSY p) 1).updPort p fun x => { x with gcSince := d.time }

/-- GO at a disabled port sends nothing (R69). -/
theorem gcGo_disabled (d : Dev) (p : Nat) (write : Bool) (len : Nat) (hoff : d.portDisabled p = true) : d.gcGo p write len = d.portErr p 0x4001 := if_pos hoff

/-- GO where no command runs sends one (R69). -/
theorem gcGo_begins (d : Dev) (p : Nat) (write : Bool) (len : Nat) (hon : d.portDisabled p = false) (hbusy : d.flag (R.CAM_GC_CTRL_BUSY p) = false)
    (hstate : d.fld (portState p) ≠ 3) : ∃ a data, d.gcGo p write len = (d.gcBegun p write len).emit (.gcCommand p write a len data) := by
  unfold Dev.gcGo
  rw [if_neg (by rw [hon]; exact Bool.noConfusion), if_neg (by rw [hbusy]; exact fun h => h.elim Bool.noConfusion hstate)]
  simp only [Dev.gcBegun, Dev.setFlag, Dev.setFld_time]
  exact ⟨_, _, rfl⟩

/-- GO while one runs is a collision (R69). -/
theorem gcGo_collides (d : Dev) (p : Nat) (write : Bool) (len : Nat) (hon : d.portDisabled p = false) (hbusy : d.flag (R.CAM_GC_CTRL_BUSY p) = true) :
    d.gcGo p write len = (d.portErr p 0x400B).raise (R.CAM_EVENTS_GC_COLLIDE p) :=
  (if_neg (by rw [hon]; exact Bool.noConfusion)).trans (if_pos (.inl hbusy))

theorem gcBegun_fields (d : Dev) {p : Nat} (hp : p < 16) (write : Bool) (len : Nat) :
    (d.gcBegun p write len).fld (R.CAM_GC_CTRL_BUSY p) = 1 ∧ (d.gcBegun p write len).fld (R.CAM_GC_CTRL_GC_LEN p) = len % 512 ∧
      (d.gcBegun p write len).out = d.out ∧ d.keeps (d.gcBegun p write len) (· = portAddr p 0xA8) := by
  unfold Dev.gcBegun Dev.setFlag
  rw [gcBusy_eq hp, gcLen_eq hp, gcWrite_eq hp]
  simp only [updPort_fld, updPort_out, Dev.setFld_out]
  refine ⟨fld_setFld_same _ _ 1 (by dsimp only; omega), ?_, trivial, ?_⟩
  · refine (fld_setFld_apart _ _ _ 1 (.inr (by dsimp only; omega))).trans ((fld_setFld_apart _ _ _ _ (.inr (by dsimp only; omega))).trans ?_)
    exact fld_setFld_same d _ len (by dsimp only; omega)
  · have h1 : RegStep (· = portAddr p 0xA8) d _ := .setFld d ⟨portAddr p 0xA8, 0, 9⟩ len (by dsimp only; omega) rfl
    have h2 := h1.trans (.setFld _ ⟨portAddr p 0xA8, 9, 1⟩ (b2n write) (by dsimp only; omega) rfl)
    exact keeps_trans (h2.trans (.setFld _ ⟨portAddr p 0xA8, 11, 1⟩ 1 (by dsimp only; omega) rfl)).keeps (keeps_updPort ..)

/-! ### The end of a command -/

/-- A command of software ends with DONE and its status (R69). -/
def Dev.gcDone (d : Dev) (p status : Nat) : Dev := ((d.setFld (R.CAM_GC_CTRL_BUSY p) 0).setBit (R.CAM_GC_CTRL_DONE p)).setFld (R.CAM_GC_CTRL_GC_STATUS p) status

theorem gcEnd_eq (d : Dev) (p status : Nat) : d.gcEnd p status = if status = 0 then d.gcDone p status else (d.gcDone p status).portErr p status := rfl

theorem gcDone_fields (d : Dev) {p : Nat} (hp : p < 16) (status : Nat) :
    (d.gcDone p status).fld (R.CAM_GC_CTRL_BUSY p) = 0 ∧ (d.gcDone p status).fld (R.CAM_GC_CTRL_DONE p) = 1 ∧
      (d.gcDone p status).fld (R.CAM_GC_CTRL_GC_STATUS p) = status % 65536 ∧ d.keeps (d.gcDone p status) (· = portAddr p 0xA8) := by
  unfold Dev.gcDone
  rw [gcBusy_eq hp, gcDone_eq hp, gcStatus_eq hp]
  refine ⟨?_, ?_, fld_setFld_same _ _ status (by dsimp only; omega), ?_⟩
  · refine (fld_setFld_apart _ _ _ _ (.inr (by dsimp only; omega))).trans ((fld_setBit_apart _ _ _ (.inr (by dsimp only; omega))).trans ?_)
    exact fld_setFld_same d _ 0 (by dsimp only; omega)
  · exact (fld_setFld_apart _ _ _ _ (.inr (by dsimp only; omega))).trans (fld_setBit_same _ _ (by dsimp only; omega))
  · have h1 : d.keeps _ (· = portAddr p 0xA8) := keeps_setFld d ⟨portAddr p 0xA8, 11, 1⟩ 0 (by dsimp only; omega)
    have h2 := keeps_trans h1 (keeps_setBit _ ⟨portAddr p 0xA8, 12, 1⟩ (by dsimp only; omega))
    exact keeps_trans h2 (keeps_setFld _ ⟨portAddr p 0xA8, 16, 16⟩ status (by dsimp only; omega))

/-- What the end of a command leaves: DONE, the status, and the code of a failure (R69). -/
theorem gcEnd_fields (d : Dev) {p : Nat} (hp : p < 16) (status : Nat) :
    let y := d.gcEnd p status
    y.fld (R.CAM_GC_CTRL_BUSY p) = 0 ∧ y.fld (R.CAM_GC_CTRL_DONE p) = 1 ∧ y.fld (R.CAM_GC_CTRL_GC_STATUS p) = status % 65536 ∧
      (status ≠ 0 → y.fld (portLastErr p) = status % 65536) ∧ d.keeps y fun a => a = (R.CAM_GC_CTRL p).addr ∨ a = (portLastErr p).addr := by
  obtain ⟨hbusy, hdone, hstatus, hkeeps⟩ := gcDone_fields d hp status
  have hctrl : d.keeps (d.gcDone p status) fun a => a = (R.CAM_GC_CTRL p).addr ∨ a = (portLastErr p).addr :=
    keeps_mono hkeeps fun a h => .inl (h.trans (gcCtrl_addr hp).symm)
  intro y
  have hy : y = _ := gcEnd_eq d p status
  by_cases h : status = 0
  · rw [hy, if_pos h]
    exact ⟨hbusy, hdone, hstatus, fun hne => absurd h hne, hctrl⟩
  · have herr := keeps_portErr (d.gcDone p status) p status
    have hkept : ∀ f : Fld, f.addr = portAddr p 0xA8 → f.lo + f.w ≤ 32 → ((d.gcDone p status).portErr p status).fld f = (d.gcDone p status).fld f := fun f hf hw =>
      herr.fld f (by rw [hf, portLastErr_eq]; exact portAddr_ne (by decide)) fun h => absurd h (Nat.not_lt.mpr hw)
    rw [hy, if_neg h, hkept _ (by rw [gcBusy_eq hp]) (by simp [gcBusy_eq hp]), hkept _ (by rw [gcDone_eq hp]) (by simp [gcDone_eq hp]),
      hkept _ (by rw [gcStatus_eq hp]) (by simp [gcStatus_eq hp])]
    exact ⟨hbusy, hdone, hstatus, fun _ => portErr_code .., keeps_trans hctrl (keeps_mono herr fun _ => .inr)⟩

/-! ### Answers -/

/-- An answer to a command of software ends it; one with data may store them first (R69). -/
theorem gcAnswer_ends (d : Dev) (p : Nat) (ok : Bool) (data : List Byte) (hbusy : d.flag (R.CAM_GC_CTRL_BUSY p) = true) (hstate : d.fld (portState p) ≠ 3) :
    ∃ y : Dev, d.gcAnswer p ok data = y.gcEnd p (if ok then 0 else 0x400A) := by
  unfold Dev.gcAnswer
  rw [if_neg (by rw [hbusy]; exact Bool.noConfusion), if_neg hstate]
  cases ok
  · exact ⟨d, rfl⟩
  · exact ⟨_, rfl⟩

/-- An answer in IDENTIFY is one of its reads (R90). -/
theorem gcAnswer_identify (d : Dev) (p : Nat) (ok : Bool) (data : List Byte) (hbusy : d.flag (R.CAM_GC_CTRL_BUSY p) = true) (hstate : d.fld (portState p) = 3) :
    d.gcAnswer p ok data = d.identAnswer p ok := by
  unfold Dev.gcAnswer
  rw [if_neg (by rw [hbusy]; exact Bool.noConfusion), if_pos hstate]

/-- A read of IDENTIFY that is answered is counted, and the next of the four fields is read (R90, R91). -/
theorem identAnswer_fields (d : Dev) (p : Nat) (hwait : (d.port p).idWait = none) (hread : (d.port p).idRead < 4) :
    let y := d.identAnswer p true
    (y.port p).idRead = (d.port p).idRead + 1 ∧
      y.out = d.out ++ (if (d.port p).idRead = 3 then [] else [.gcCommand p false (Config.idAddr ((d.port p).idRead + 1)) 32 []]) ∧ d.keeps y fun _ => False := by
  let u := d.setPort p { d.port p with idRead := (d.port p).idRead + 1 }
  have hu : u.port p = { d.port p with idRead := (d.port p).idRead + 1 } := port_setPort_same ..
  have hruns : ¬ ((d.port p).idWait.isSome = true ∨ 4 ≤ (d.port p).idRead) := by
    rw [hwait]
    exact fun h => h.elim Bool.noConfusion (Nat.not_le.mpr hread)
  have hrow : d.identAnswer p true = if (d.port p).idRead = 3 then u else u.identRead p := if_neg hruns
  dsimp only
  rw [hrow]
  split
  · rw [hu, List.append_nil]
    exact ⟨rfl, rfl, keeps_setPort ..⟩
  · obtain ⟨-, hport, hout, hkeeps⟩ := identRead_fields u p
    rw [hport, hout, hu]
    exact ⟨rfl, rfl, keeps_trans (keeps_setPort ..) (hkeeps _)⟩

/-! ### Tries without an answer -/

/-- A try of IDENTIFY without an answer: the next one follows, or after the third the wait (R90). -/
theorem tryEnds_fields (d : Dev) (p : Nat) :
    let y := d.tryEnds p
    (y.port p).idTries = (d.port p).idTries + 1 ∧ (y.port p).idRead = 0 ∧ (y.port p).idWait = (if 2 ≤ (d.port p).idTries then some d.time else none) ∧
      y.out = (if 2 ≤ (d.port p).idTries then d.out else d.out ++ [.gcCommand p false (Config.idAddr 0) 32 []]) ∧ d.keeps y fun _ => False := by
  let u := d.updPort p fun x => { x with idTries := (d.port p).idTries + 1, idRead := 0, idWait := if 3 ≤ (d.port p).idTries + 1 then some d.time else none }
  have hu : u.port p = { d.port p with idTries := (d.port p).idTries + 1, idRead := 0, idWait := if 3 ≤ (d.port p).idTries + 1 then some d.time else none } :=
    port_updPort_same ..
  have hrow : d.tryEnds p = if 3 ≤ (d.port p).idTries + 1 then u else u.identRead p := rfl
  dsimp only
  rw [hrow]
  by_cases hlast : 2 ≤ (d.port p).idTries
  · rw [if_pos (Nat.succ_le_succ hlast), hu, if_pos hlast, if_pos hlast, if_pos (Nat.succ_le_succ hlast)]
    exact ⟨rfl, rfl, rfl, rfl, keeps_updPort ..⟩
  · have hnot : ¬ 3 ≤ (d.port p).idTries + 1 := by omega
    obtain ⟨-, hport, hout, hkeeps⟩ := identRead_fields u p
    rw [if_neg hnot, hport, hout, hu, if_neg hlast, if_neg hlast, if_neg hnot]
    exact ⟨rfl, rfl, rfl, rfl, keeps_trans (keeps_updPort ..) (hkeeps _)⟩

/-- The cycle in which a command without an answer times out (R69). -/
def Dev.gcDue (d : Dev) (p : Nat) : Nat := (d.port p).gcSince + usCycles (1000 * max (d.fld (R.CAM_GC_TIMEOUT p)) 1)

/-- GC_TIMEOUT ends a command of software (R69). -/
theorem gcTimeout_ends (d : Dev) {p : Nat} (hp : p < 16) (hbusy : d.flag (R.CAM_GC_CTRL_BUSY p) = true) (hstate : d.fld (portState p) ≠ 3) :
    d.gcTimeout p = (d.advance (d.gcDue p)).gcEnd p 0x4009 := by
  have hlater : ¬ (d.advance (d.gcDue p)).fld (portState p) = 3 := by rw [advance_state d _ (by omega)]; exact hstate
  unfold Dev.gcTimeout
  rw [if_neg (by rw [hbusy]; exact Bool.noConfusion), if_neg fun h => hstate h.1]
  exact if_neg hlater

/-- In IDENTIFY it ends a try (R90). -/
theorem gcTimeout_identify (d : Dev) {p : Nat} (hp : p < 16) (hbusy : d.flag (R.CAM_GC_CTRL_BUSY p) = true) (hstate : d.fld (portState p) = 3)
    (hwait : (d.port p).idWait = none) (hread : (d.port p).idRead < 4) : d.gcTimeout p = (d.advance (d.gcDue p)).tryEnds p := by
  have hlater : (d.advance (d.gcDue p)).fld (portState p) = 3 := by rw [advance_state d _ (by omega)]; exact hstate
  have hruns : ¬ (d.fld (portState p) = 3 ∧ ((d.port p).idWait.isSome = true ∨ 4 ≤ (d.port p).idRead)) := by
    rw [hwait]
    exact fun h => h.2.elim Bool.noConfusion (Nat.not_le.mpr hread)
  unfold Dev.gcTimeout
  rw [if_neg (by rw [hbusy]; exact Bool.noConfusion), if_neg hruns]
  exact if_pos hlater

/-! ### The serial pair -/

/-- A byte from the serial pair waits in the receive FIFO (R73). -/
theorem serReceive_room (d : Dev) (m : Nat) (b : Byte) (h : (d.port (16 + m)).rx.length < 256) :
    d.serReceive m b = d.setPort (16 + m) { d.port (16 + m) with rx := (d.port (16 + m)).rx ++ [b.toNat] } := if_neg (Nat.not_le.mpr h)

/-- A byte is lost where the FIFO is full (R73). -/
theorem serReceive_full (d : Dev) (m : Nat) (b : Byte) (h : 256 ≤ (d.port (16 + m)).rx.length) : d.serReceive m b = d.raise (R.CLG_EVENTS_SER_OVF m) := if_pos h

/-- A byte that is written goes to the line and waits in the transmit FIFO (R73). -/
theorem serTx_fields (d : Dev) (m : Nat) (b : Byte) (h : (d.txLeft m).length < 256) :
    (d.serTx m b).out = d.out ++ [.serial (16 + m) b.toNat] ∧ ((d.serTx m b).port (16 + m)).tx.length = (d.txLeft m).length + 1 ∧ d.keeps (d.serTx m b) fun _ => False := by
  unfold Dev.serTx
  rw [if_neg (Nat.not_le.mpr h), emit_port, port_updPort_same]
  exact ⟨rfl, List.length_append, keeps_trans (keeps_updPort ..) (keeps_emit ..)⟩

/-- The register words of the CLG ports. -/
theorem findDesc_clg (o : Nat) (m : Fin 4) (r : RegDesc) (ho : o < 0x1000) (hr : r ∈ descCLG) (hbase : r.base = 0x300000 + o) (hs : r.s1 = 0x1000) (hn1 : r.n1 = 4)
    (hn2 : 0 < r.n2) : (findDesc (0x300000 + o + 0x1000 * m)).isSome = true := by
  have hm := m.isLt
  have ha : r.base + m * r.s1 = 0x300000 + o + 0x1000 * m := by rw [hbase, hs]; omega
  have hblock : descBlock (r.base + m * r.s1) = descCLG := by
    unfold descBlock
    rw [ha, show (0x300000 + o + 0x1000 * m.val) / 0x100000 = 3 by omega]
    rfl
  rw [← ha]
  exact findDesc_isSome_of_row r m (by rw [hblock]; exact hr) (by omega) (by omega) hn2

/-- A host write of SER_TX (R73). -/
theorem hostWrite_serTx (d : Dev) (m : Fin 4) (v : Nat) (h3 : 3 ≤ d.mode.code) : d.hostWrite (0x300064 + 0x1000 * m) v = d.serTx m (BitVec.ofNat 8 v) := by
  have hm := m.isLt
  have hdesc : (findDesc (0x300064 + 0x1000 * m.val)).isSome = true :=
    findDesc_clg 0x64 m ⟨0x0300064, 4, 0x1000, 1, 0, 0, 0, 0, 0, 0xFF, 0, 0, false⟩ (by decide) (by decide) rfl rfl rfl (by decide)
  have htap : inTap (0x300064 + 0x1000 * m.val) = false := by simp only [inTap, Bool.and_eq_false_iff, decide_eq_false_iff_not]; omega
  obtain ⟨q, hq⟩ := Option.isSome_iff_exists.mp hdesc
  rw [hostWrite_eq d _ _ h3]
  simp only [Dev.regWrite, htap, hq, Option.isNone_some, Bool.false_eq_true, if_false, show (0x300064 + 0x1000 * m.val) / 0x100000 = 3 by omega,
    show (0x300064 + 0x1000 * m.val) % 4 = 0 by omega, ne_eq, not_true_eq_false, Dev.clgWrite]
  rw [if_pos (by omega), show (0x300064 + 0x1000 * m.val) / 0x1000 % 4 = m by omega]

/-- A read of SER_RX returns its word and takes a byte (R73). -/
theorem barRead_serRx (d : Dev) (m : Fin 4) : d.barRead false (0x300068 + 0x1000 * m) 4 = (d.readWord (R.CLG_SER_RX m).addr, d.serRx m) := by
  have hm := m.isLt
  have hlive : live64At (0x300068 + 0x1000 * m.val) = false := by
    revert m
    decide
  have heffect : d.readEffect (0x300068 + 0x1000 * m.val) = d.serRx m := by
    unfold Dev.readEffect
    rw [if_neg (by omega), if_neg (by omega), if_neg (by omega), if_neg (by omega), if_pos (by omega), show (0x300068 + 0x1000 * m.val) / 0x1000 % 4 = m by omega]
  rw [barRead_four d false _ (by omega) hlive, heffect, show (R.CLG_SER_RX m).addr = 0x300068 + 0x1000 * m.val by simp only [R.CLG_SER_RX]; omega]

/-- What a word reads as does not depend on what has gone out. -/
theorem start_readWord (s : State) (a : Nat) : s.start.readWord a = s.dev.readWord a := rfl

/-! ### The statement -/

/-- Settles O22: GO by ENABLE and BUSY, answers and GC_TIMEOUT by the state of the port, and the serial pair by the room in its FIFOs. -/
theorem cameraControl : Obligations.CameraControl := by
  unfold Obligations.CameraControl
  refine ⟨fun s p hm => ?camera, fun s m hm => ?serial⟩
  case camera =>
    have hp := p.isLt
    have hp20 : p.val < 20 := by omega
    intro ctrl
    refine ⟨?go, ?answer, ?identified, ?timeout⟩
    case go =>
      intro v h3
      obtain ⟨clear, hwrite⟩ := hostWrite_gcGo s.start p (v.toNat ||| 0x400) h3 (bitOf_or_two_pow v.toNat 10)
      let y := s.start.doneCleared p clear
      let write := bitOf (v.toNat ||| 0x400) 9
      have hstep : RegStep (· = portAddr p 0xA8) s.start y := doneCleared_step s.start hp clear
      have hctrl : s.dev.keeps y ctrl := keeps_mono hstep.keeps fun a h => h.trans (gcCtrl_addr hp).symm
      have hbusy : y.flag (R.CAM_GC_CTRL_BUSY p) = s.dev.flag (R.CAM_GC_CTRL_BUSY p) := doneCleared_busy s.start hp clear
      obtain ⟨hstate, hdisabled⟩ := doneCleared_state s.start hp clear
      rw [bits_or_go] at hwrite
      refine ⟨fun hoff => ?_, fun hon hidle hident => ?_, fun hon hruns => ?_⟩
      · refine completes_run _ (exec_gcGo s p v) hm ?_
        rw [hwrite, gcGo_disabled y p _ _ (hdisabled.trans hoff)]
        exact ⟨portErr_code .., (portErr_out ..).trans hstep.out, keeps_trans (keeps_mono hctrl fun _ => .inl) (keeps_mono (keeps_portErr ..) fun _ => .inr)⟩
      · obtain ⟨a, data, hgo⟩ := gcGo_begins y p write (v.toNat % 512) (hdisabled.trans hon) (hbusy.trans hidle) fun h => hident (hstate.symm.trans h)
        obtain ⟨hset, hlen, hout, hkeeps⟩ := gcBegun_fields y hp write (v.toNat % 512)
        refine completes_run _ (exec_gcGo s p v) hm ?_
        rw [hwrite, hgo]
        refine ⟨hset, hlen.trans (Nat.mod_mod ..), ?_, keeps_trans hctrl (keeps_trans (keeps_mono hkeeps fun a h => h.trans (gcCtrl_addr hp).symm) (keeps_emit ..))⟩
        exact List.length_append.trans (by rw [hout, hstep.out]; rfl)
      · obtain ⟨hevent, hcode⟩ := portErr_raise_fields y 0x400B hp20 (n := 12) (by decide)
        refine completes_run _ (exec_gcGo s p v) hm ?_
        rw [hwrite, gcGo_collides y p _ _ (hdisabled.trans hon) (hbusy.trans hruns), gcCollide_eq hp]
        exact ⟨hevent, hcode, (Dev.raise_out ..).trans ((portErr_out ..).trans hstep.out)⟩
    case answer =>
      intro hruns hident ok data
      obtain ⟨y, hends⟩ := gcAnswer_ends s.start p ok data hruns hident
      obtain ⟨hbusy, hdone, hstatus, hcode, -⟩ := gcEnd_fields y hp (if ok then 0 else 0x400A)
      refine completes_run _ (exec_gcAnswer s p ok data) hm ?_
      rw [hends]
      cases ok
      · exact ⟨hbusy, hdone, hstatus, fun _ => hcode (by decide)⟩
      · exact ⟨hbusy, hdone, hstatus, fun h => Bool.noConfusion h⟩
    case identified =>
      intro hruns hident hwait hread data
      refine completes_run _ (exec_gcAnswer s p true data) hm ?_
      rw [gcAnswer_identify s.start p true data hruns hident]
      exact identAnswer_fields s.start p hwait hread
    case timeout =>
      intro hruns d1
      constructor
      · intro hident
        obtain ⟨hbusy, hdone, hstatus, hcode, hkeeps⟩ := gcEnd_fields d1 hp 0x4009
        refine completes_run _ (exec_gcTimeout s p) hm ?_
        rw [gcTimeout_ends s.start hp hruns hident]
        exact ⟨hbusy, hdone, hstatus, hcode (by decide), hkeeps⟩
      · intro hident hwait hread
        have htry := tryEnds_fields d1 p
        rw [show d1.port p = s.dev.port p from advance_port s.start _ p] at htry
        refine completes_run _ (exec_gcTimeout s p) hm ?_
        rw [gcTimeout_identify s.start hp hruns hident hwait hread]
        exact htry
  case serial =>
    intro p
    refine ⟨fun b => ⟨fun hroom => ?_, fun hfull => ?_⟩, fun v h3 hroom => ?write, fun h3 => ?read⟩
    · refine completes_run _ (exec_serByteReceive s m b) hm ?_
      rw [serReceive_room s.start m b hroom, port_setPort_same]
      exact ⟨rfl, keeps_setPort ..⟩
    · have hovf : R.CLG_EVENTS_SER_OVF m = ⟨portAddr (16 + m) 8, 9, 1⟩ := by rw [portAddr_clg]; rfl
      refine completes_run _ (exec_serByteReceive s m b) hm ?_
      rw [serReceive_full s.start m b hfull, hovf, port_congr (Dev.raise_ports ..) p]
      exact ⟨rfl, portEvent_fld s.start (by omega) (by decide), keeps_raise s.start _ (by dsimp only; omega)⟩
    case write =>
      refine completes_run _ (exec_serTxWrite s m v) hm ?_
      rw [hostWrite_serTx s.start m v.toNat h3]
      exact serTx_fields s.start m (BitVec.ofNat 8 v.toNat) hroom
    case read =>
      refine ⟨_, (exec_serRxRead s m).trans (run_hostRead s _ 4 h3 (barRead_serRx s.start m)), ?_, rfl, ?_⟩
      · rw [emit_port, Dev.serRx, port_updPort_same]
        rfl
      · have hread : s.dev.keeps (s.start.serRx m) fun _ => False := keeps_updPort ..
        exact keeps_trans hread (keeps_emit ..)

end Sys2Proof.Machine
end

section
/-!
SUPPORT. The stores of a role and the camera side's chunks (R127), and the statement O23.
-/
namespace Sys2Proof.Machine

/-! ### The stores of a role and of a stream -/

@[simp] theorem cor_setCor_same (d : Dev) (r : Nat) (x : Corr) : (d.setCor r x).cor r = x := tget_tset_same ..
@[simp] theorem ring_setRing_same (d : Dev) (n : Nat) (x : Ring) : (d.setRing n x).ring n = x := tget_tset_same ..

theorem keeps_setCor (d : Dev) (r : Nat) (x : Corr) (P : Nat → Prop) : d.keeps (d.setCor r x) P := keeps_of_eq P rfl rfl rfl
theorem keeps_setRing (d : Dev) (n : Nat) (x : Ring) (P : Nat → Prop) : d.keeps (d.setRing n x) P := keeps_of_eq P rfl rfl rfl

/-- Parts with the same table of roles have the same stores for each. -/
theorem cor_congr {d d' : Dev} (h : d'.corr = d.corr) (r : Nat) : d'.cor r = d.cor r := by rw [Dev.cor, h, Dev.cor]

/-! ### The chunk taken (R127) -/

/-- Taking a chunk counts it, whether or not the line's stream feeds a channel. -/
theorem chunkOf_chunks (d : Dev) (r : Nat) (l : BusLine) : (d.chunkOf r l).chunks = l.chunks + 1 := by
  unfold Dev.chunkOf
  dsimp only
  split <;> rfl

/-- The line, with chunks left, waits in its buffer: a primary line in front, a secondary one in place of its stream's earlier entry. -/
def Dev.lineWaits (d : Dev) (r : Nat) (primary : Bool) (l : BusLine) : Dev :=
  d.setCor r (if primary then { d.cor r with prim := l :: (d.cor r).prim.drop 1 }
    else { d.cor r with sec := ((d.cor r).sec.filter fun x => x.stream ≠ l.stream) ++ [l] })

/-- The completed line leaves its buffer: the primary buffer, or the landing ring and the secondary lines begun. -/
def Dev.lineLeaves (d : Dev) (r : Nat) (primary : Bool) (l : BusLine) : Dev :=
  if primary then d.setCor r { d.cor r with prim := (d.cor r).prim.drop 1 }
  else (d.setCor r { d.cor r with sec := (d.cor r).sec.filter fun x => x.stream ≠ l.stream }).setRing l.stream
    { d.ring l.stream with slots := (d.ring l.stream).slots.drop 1 }

theorem lineWaits_fields (d : Dev) (r : Nat) (primary : Bool) (l : BusLine) :
    (primary = true → ((d.lineWaits r primary l).cor r).prim = l :: (d.cor r).prim.drop 1) ∧
      (primary = false → ((d.lineWaits r primary l).cor r).sec = ((d.cor r).sec.filter fun x => x.stream ≠ l.stream) ++ [l]) ∧
      d.keeps (d.lineWaits r primary l) fun _ => False := by
  refine ⟨?_, ?_, keeps_setCor ..⟩
  · rintro rfl
    exact congrArg Corr.prim (cor_setCor_same ..)
  · rintro rfl
    exact congrArg Corr.sec (cor_setCor_same ..)

theorem lineLeaves_fields (d : Dev) (r : Nat) (primary : Bool) (l : BusLine) :
    (primary = true → ((d.lineLeaves r primary l).cor r).prim = (d.cor r).prim.drop 1) ∧
      (primary = false → ((d.lineLeaves r primary l).ring l.stream).slots = (d.ring l.stream).slots.drop 1 ∧
        ((d.lineLeaves r primary l).cor r).sec = (d.cor r).sec.filter fun x => x.stream ≠ l.stream) ∧
      d.keeps (d.lineLeaves r primary l) fun _ => False := by
  cases primary
  case true => exact ⟨fun _ => congrArg Corr.prim (cor_setCor_same ..), fun h => Bool.noConfusion h, keeps_setCor ..⟩
  case false =>
    refine ⟨fun h => Bool.noConfusion h, fun _ => ⟨congrArg Ring.slots (ring_setRing_same ..), congrArg Corr.sec (cor_setCor_same ..)⟩, ?_⟩
    exact keeps_trans (keeps_setCor ..) (keeps_setRing ..)

section
variable {d : Dev} {r : Nat} {primary : Bool} {l : BusLine}
  (hon : d.lflag (R.STR_COR_CTRL_ENABLE r) = true) (hruns : d.roleRuns r = true) (hnext : d.nextChunk r = some (primary, l))
include hon hruns hnext

/-- With chunks left, nothing goes on. -/
theorem chunkRow_incomplete (h : (d.chunkOf r l).complete = false) : d.chunkRow r = d.lineWaits r primary (d.chunkOf r l) := by
  have hside : d.camsideChunk r = (d.lineWaits r primary (d.chunkOf r l), none) := by
    unfold Dev.camsideChunk
    simp only [hon, hruns, hnext, h]
    rfl
  rw [Dev.chunkRow, hside]

/-- After its last chunk a line goes on to the resampler, and from there to what else takes lines. -/
theorem chunkRow_complete (h : (d.chunkOf r l).complete = true) :
    d.chunkRow r = ((d.lineLeaves r primary (d.chunkOf r l)).acceptForResample r (d.chunkOf r l)).lineOn r (d.chunkOf r l) := by
  have hside : d.camsideChunk r = ((d.lineLeaves r primary (d.chunkOf r l)).acceptForResample r (d.chunkOf r l), some (d.chunkOf r l)) := by
    unfold Dev.camsideChunk
    simp only [hon, hruns, hnext, h]
    cases primary <;> rfl
  rw [Dev.chunkRow, hside]

end

/-- Settles O23: the chunk is counted, and its line waits or leaves its buffer as it has chunks left or not. -/
theorem cameraSideChunk : Obligations.CameraSideChunk := by
  unfold Obligations.CameraSideChunk
  intro s r primary l0 hm d1 hon hruns hnext l
  refine ⟨chunkOf_chunks .., fun hleft => ?_, fun hlast => ?_⟩
  · refine completes_run _ (exec_camsideChunk s r) hm ?_
    rw [chunkRow_incomplete hon hruns hnext hleft]
    exact lineWaits_fields d1 r primary l
  · exact completes_then _ (fun d => (d.acceptForResample r l).lineOn r l) (d1.lineLeaves r primary l) (exec_camsideChunk s r) hm
      (chunkRow_complete hon hruns hnext hlast) (lineLeaves_fields d1 r primary l)

end Sys2Proof.Machine
end

section
/-!
SUPPORT. Output lines of the grid: when a channel's next line is computed, and what joins the output buffer (R102, R117, R118, R129), and the statement O24.
-/
namespace Sys2Proof.Machine

/-! ### When a line is computed (R117, R129) -/

theorem outputCompute_paused {d : Dev} {r c : Nat} (h : d.outPaused r c = true) : d.outputCompute r c = d := if_pos (.inr h)
theorem outputDeadline_paused {d : Dev} {r c : Nat} (h : d.outPaused r c = true) : d.outputDeadline r c = d := if_pos (.inr h)

/-- Is a stored line far enough for an output line that needs position `need`: beyond it, or in AREA at it (R117). -/
def StoredLine.reaches (l : StoredLine) (need : Int) (area : Bool) : Bool := if area then decide (need ≤ l.m) else decide (need < l.m)

theorem reaches_of_beyond {l : StoredLine} {need : Int} (area : Bool) (h : need < l.m) : l.reaches need area = true := by
  cases area
  · exact decide_eq_true h
  · exact decide_eq_true h.le

theorem not_reaches_of_short {l : StoredLine} {need : Int} (area : Bool) (h : l.m < need) : l.reaches need area = false := by
  cases area
  · exact decide_eq_false h.le.not_gt
  · exact decide_eq_false h.not_ge

section
variable {d : Dev} {r c : Nat} {ch : OutChan} {need : Int} {area : Bool} {deadline : Nat}
  (hruns : d.outRuns r = true) (hdue : d.outDue r c = some (ch, need, area, deadline)) (hroom : d.outPaused r c = false)
include hruns hdue hroom

/-- With room in the output buffer, what is stored of the channel's last component decides. -/
theorem outputCompute_room : d.outputCompute r c =
    if ((d.compStore r c (d.compsOf ch.stream - 1)).lines.any fun l => l.reaches need area) = true then d.computeLine r c ch deadline else d := by
  unfold Dev.outputCompute
  simp only [hruns, hroom, hdue]
  rfl

theorem outputCompute_reached (h : ∃ l ∈ (d.compStore r c (d.compsOf ch.stream - 1)).lines, need < l.m) : d.outputCompute r c = d.computeLine r c ch deadline := by
  obtain ⟨l, hl, hm⟩ := h
  exact (outputCompute_room hruns hdue hroom).trans (if_pos (List.any_eq_true.mpr ⟨l, hl, reaches_of_beyond area hm⟩))

theorem outputDeadline_passed (h : deadline ≤ d.pos.linesPassed) : d.outputDeadline r c = d.computeLine r c ch deadline := by
  unfold Dev.outputDeadline
  simp only [hruns, hroom, hdue]
  exact if_pos h

end

/-- While every stored line is short of the position needed, nothing is computed before the deadline. -/
theorem outputCompute_short {d : Dev} {r c : Nat} {ch : OutChan} {need : Int} {area : Bool} {deadline : Nat} (hruns : d.outRuns r = true)
    (hdue : d.outDue r c = some (ch, need, area, deadline)) (h : ∀ l ∈ (d.compStore r c (d.compsOf ch.stream - 1)).lines, l.m < need) : d.outputCompute r c = d := by
  cases hroom : d.outPaused r c with
  | true => exact outputCompute_paused hroom
  | false =>
    have hnone : ((d.compStore r c (d.compsOf ch.stream - 1)).lines.any fun l => l.reaches need area) = false :=
      List.any_eq_false.mpr fun l hl => by simp [not_reaches_of_short area (h l hl)]
    exact (outputCompute_room hruns hdue hroom).trans (if_neg (by simp [hnone]))

/-! ### The output buffer (R102) -/

/-- Lines that take their places in the output buffer join those there, and none is lost. -/
theorem insertBands_perm (bs : List BandLine) : ∀ xs, (bs.foldl insertBand xs).Perm (xs ++ bs) := by
  induction bs with
  | nil => simp
  | cons b bs ih =>
    intro xs
    have hb : (insertBand xs b).Perm (b :: xs) := by
      have h := List.perm_middle (a := b) (l₁ := xs.takeWhile (·.before b)) (l₂ := xs.dropWhile (·.before b))
      rwa [List.takeWhile_append_dropWhile] at h
    exact (ih _).trans ((hb.append_right bs).trans List.perm_middle.symm)

/-- The line of every component of a channel's next output line. -/
def Dev.nextBands (d : Dev) (r c : Nat) (ch : OutChan) (deadline : Nat) : List BandLine :=
  (List.range (d.compsOf ch.stream)).map fun k => d.bandLine r c k (d.nextOut r c) (decide (deadline < d.pos.linesPassed))

/-- Whether it has a source or not, a band line carries its place and whether it is late. -/
theorem bandLine_fields (d : Dev) (r c comp l : Nat) (late : Bool) :
    (d.bandLine r c comp l late).role = r ∧ (d.bandLine r c comp l late).chan = c ∧ (d.bandLine r c comp l late).line = l ∧ (d.bandLine r c comp l late).outLate = late := by
  unfold Dev.bandLine
  dsimp only
  split <;> exact ⟨rfl, rfl, rfl, rfl⟩

/-- Effects that leave the stores of the roles alone one by one leave them alone together. -/
theorem foldl_corr {α : Type} {f : Dev → α → Dev} (h : ∀ d x, (f d x).corr = d.corr) (xs : List α) (d : Dev) : (xs.foldl f d).corr = d.corr :=
  List.foldlRecOn xs f (motive := fun e => e.corr = d.corr) rfl fun e he x _ => (h e x).trans he

/-- The flags of a band line are events and counts of registers alone (R121). -/
@[simp] theorem bandFlags_corr (d : Dev) (b : BandLine) (s : Nat) : (d.bandFlags b s).corr = d.corr := by
  have hcount : ∀ (d : Dev) (on : Bool) (f e : Fld), (if on then (d.bump f).raise e else d).corr = d.corr := by
    intro d on f e
    cases on
    · rfl
    · exact (Dev.raise_corr ..).trans (Dev.setFld_corr ..)
  simp only [Dev.bandFlags, Dev.raiseIf_corr, hcount]

/-- Of the role's stores, computing a line changes the output buffer and the channel's count. -/
theorem computeLine_cor (d : Dev) (r c : Nat) (ch : OutChan) (deadline : Nat) :
    (d.computeLine r c ch deadline).cor r = { d.cor r with bands := (d.nextBands r c ch deadline).foldl insertBand (d.cor r).bands,
                                                           computed := tset 0 (d.cor r).computed c (tget 0 (d.cor r).computed c + 1) } := by
  have hflags : ∀ (bs : List BandLine) (ss : List Nat) (e : Dev), (ss.foldl (fun e s => bs.foldl (fun e b => e.bandFlags b s) e) e).corr = e.corr :=
    fun bs => foldl_corr fun e s => foldl_corr (fun e b => bandFlags_corr e b s) bs e
  exact (cor_congr ((hflags ..).trans (Dev.setFld_corr ..)) r).trans (cor_setCor_same ..)

/-- The channel's count goes up by one, and the lines of its components join those in the output buffer. -/
theorem computeLine_joins (d : Dev) (r c : Nat) (ch : OutChan) (deadline : Nat) :
    tget 0 ((d.computeLine r c ch deadline).cor r).computed c = tget 0 (d.cor r).computed c + 1 ∧
      (((d.computeLine r c ch deadline).cor r).bands).Perm ((d.cor r).bands ++ d.nextBands r c ch deadline) := by
  rw [computeLine_cor]
  exact ⟨tget_tset_same .., insertBands_perm ..⟩

/-- Settles O24: the lines stored and the deadline decide when a line is computed, and the output buffer then holds a permutation of what it held and
the new lines. -/
theorem outputLines : Obligations.OutputLines := by
  unfold Obligations.OutputLines
  constructor
  · intro s r c ch need area deadline hm d1 hruns hdue
    refine ⟨fun hfull => ⟨?_, ?_⟩, fun hroom hbeyond => ?_, fun hroom hpassed => ?_, fun hshort => ?_⟩
    · exact exec_run_eq (exec_outputLineCompute s r c) hm (outputCompute_paused hfull)
    · exact exec_run_eq (exec_outputLineDeadline s r c) hm (outputDeadline_paused hfull)
    · exact exec_run_eq (exec_outputLineCompute s r c) hm (outputCompute_reached hruns hdue hroom hbeyond)
    · exact exec_run_eq (exec_outputLineDeadline s r c) hm (outputDeadline_passed hruns hdue hroom hpassed)
    · exact exec_run_eq (exec_outputLineCompute s r c) hm (outputCompute_short hruns hdue hshort)
  · intro d r c ch deadline x
    obtain ⟨hcount, hperm⟩ := computeLine_joins d r c ch deadline
    refine ⟨hcount, ?_, fun b hb => hperm.mem_iff.mpr (List.mem_append_left _ hb), fun k hk => ⟨?_, bandLine_fields ..⟩⟩
    · rw [hperm.length_eq, List.length_append, Dev.nextBands, List.length_map, List.length_range]
    · exact hperm.mem_iff.mpr (List.mem_append_right _ (List.mem_map.mpr ⟨k, List.mem_range.mpr hk, rfl⟩))

end Sys2Proof.Machine
end

section
/-!
SUPPORT. Losses that the Boulevard counts, the band lines that it takes (R138, R141), and the statement O25.
-/
namespace Sys2Proof.Machine

/-! ### Losses that are counted -/

/-- A loss goes to its counter and sets its event, when there is one. -/
def Dev.counted (d : Dev) (count event : Fld) (lost : Bool) : Dev := if lost then (d.bump count).raise event else d

theorem counted_eq (d : Dev) (count event : Fld) (lost : Bool) :
    d.counted count event lost = { d with regs := (d.counted count event lost).regs, plz := (d.counted count event lost).plz } := by
  cases lost
  · rfl
  · exact bump_raise_eq ..

@[simp] theorem counted_blv (d : Dev) (count event : Fld) (lost : Bool) : (d.counted count event lost).blv = d.blv := by rw [counted_eq]
@[simp] theorem counted_corr (d : Dev) (count event : Fld) (lost : Bool) : (d.counted count event lost).corr = d.corr := by rw [counted_eq]

theorem counted_event (d : Dev) (count event : Fld) (he : event.lo + event.w ≤ 32 ∧ event.w = 1) (hc : ¬ chanCount event.addr) :
    (d.counted count event true).fld event = 1 := raise_fld _ event he.1 he.2 hc

theorem counted_count (d : Dev) (count event : Fld) (hc : count.lo + count.w ≤ 64) (hapart : event.apart count) (hoff : count.offChan) :
    (d.counted count event true).fld count = min (d.fld count + 1) (2 ^ count.w - 1) :=
  (raise_fld_apart _ event count hapart hoff).trans (fld_bump_same d count hc)

/-- The counter and the event of a loss leave every field outside them alone. -/
theorem counted_fld_apart (d : Dev) (count event g : Fld) (lost : Bool) (hcount : count.apart g) (hevent : event.apart g) (hoff : g.offChan) :
    (d.counted count event lost).fld g = d.fld g := by
  cases lost
  · rfl
  · exact (raise_fld_apart _ event g hevent hoff).trans (fld_setFld_apart d count g _ hcount)

theorem keeps_counted (d : Dev) (count event : Fld) (lost : Bool) (hc : count.lo + count.w ≤ 32) (he : event.lo + event.w ≤ 32) :
    d.keeps (d.counted count event lost) fun a => a = count.addr ∨ a = event.addr ∨ chanCount a := by
  cases lost
  · exact keeps_refl ..
  · exact keeps_trans (keeps_mono (keeps_bump d count hc) fun _ => .inl) (keeps_mono (keeps_raise _ event he) fun _ => .inr)

/-! ### The next band line of a role (R138, R141) -/

theorem start_bandTakes (s : State) (r : Nat) : s.start.bandTakes r = s.dev.bandTakes r := rfl

/-- The part with `rest` left in a role's output buffer. -/
def Dev.bandsLeft (d : Dev) (r : Nat) (rest : List BandLine) : Dev := d.setCor r { d.cor r with bands := rest }

theorem bandsLeft_bands (d : Dev) (r : Nat) (rest : List BandLine) : ((d.bandsLeft r rest).cor r).bands = rest := congrArg Corr.bands (cor_setCor_same ..)

/-- A band line is kept for its row. -/
def Dev.bandKept (d : Dev) (b : BandLine) : Dev := { d with blv := { d.blv with taken := d.blv.taken ++ [b] } }

/-- A band line that came after its row is discarded and counted. -/
def Dev.bandDiscarded (d : Dev) : Dev := d.counted R.BLV_CNT0_BAND_DISCARD_CNT R.BLV_EVENTS_BAND_DISCARD true

theorem bandRow_stays {d : Dev} {r : Nat} (h : d.bandTakes r = false) : d.bandRow r = d := if_neg (by simp [h])
theorem bandRow_takes {d : Dev} {r : Nat} (h : d.bandTakes r = true) : d.bandRow r = (d.takeBand r).stallClear r := if_pos h

section
variable {d : Dev} {r : Nat} {b : BandLine} {rest : List BandLine} (htakes : d.bandTakes r = true) (hbands : (d.cor r).bands = b :: rest)
  (hon : ((d.bandsLeft r rest).blvVer b.line).enable = true) (hrole : (d.bandsLeft r rest).roleAt r b.line = true)
include htakes hbands hon hrole

/-- While the Boulevard runs, the row that is next decides about a band line of a stripe's role. -/
theorem takeBand_eq : d.takeBand r =
    if b.line < d.blv.nextRow then
      (if ((d.bandsLeft r rest).blvVer b.line).names b = true then (d.bandsLeft r rest).bandDiscarded else d.bandsLeft r rest)
    else (d.bandsLeft r rest).bandKept b := by
  unfold Dev.bandsLeft at hon hrole ⊢
  simp only [Dev.takeBand, htakes, hbands, hon, hrole, Bool.not_true, Bool.false_eq_true, or_self, if_false]
  rfl

theorem bandRow_kept (hnext : d.blv.nextRow ≤ b.line) : d.bandRow r = ((d.bandsLeft r rest).bandKept b).stallClear r := by
  rw [bandRow_takes htakes, takeBand_eq htakes hbands hon hrole, if_neg (Nat.not_lt.mpr hnext)]

theorem bandRow_discarded (hpast : b.line < d.blv.nextRow) (hnames : ((d.bandsLeft r rest).blvVer b.line).names b = true) :
    d.bandRow r = ((d.bandsLeft r rest).bandDiscarded).stallClear r := by
  rw [bandRow_takes htakes, takeBand_eq htakes hbands hon hrole, if_pos hpast, if_pos hnames]

end

theorem bandKept_fields (d : Dev) (r : Nat) (b : BandLine) (rest : List BandLine) :
    let y := (d.bandsLeft r rest).bandKept b
    (y.cor r).bands = rest ∧ y.blv.taken = d.blv.taken ++ [b] ∧ d.keeps y fun _ => False :=
  ⟨bandsLeft_bands .., rfl, keeps_of_eq _ rfl rfl rfl⟩

theorem bandDiscarded_fields (d : Dev) (r : Nat) (rest : List BandLine) :
    let y := (d.bandsLeft r rest).bandDiscarded
    (y.cor r).bands = rest ∧ y.blv = d.blv ∧ y.fld R.BLV_EVENTS_BAND_DISCARD = 1 ∧
      y.fld R.BLV_CNT0_BAND_DISCARD_CNT = min (d.fld R.BLV_CNT0_BAND_DISCARD_CNT + 1) 65535 ∧
      d.keeps y fun a => a = R.BLV_CNT0_BAND_DISCARD_CNT.addr ∨ a = R.BLV_EVENTS_BAND_DISCARD.addr ∨ chanCount a := by
  refine ⟨?_, counted_blv .., counted_event _ _ _ (by decide) (not_chanCount (by decide)), counted_count _ _ _ (by decide) (by decide) (by decide), ?_⟩
  · exact (congrArg Corr.bands (cor_congr (counted_corr ..) r)).trans (bandsLeft_bands ..)
  · exact keeps_trans (keeps_setCor ..) (keeps_counted _ _ _ _ (by decide) (by decide))

/-- Settles O25: the row that is next decides whether the band line taken is kept, or discarded and counted. -/
theorem bandLineTake : Obligations.BandLineTake := by
  unfold Obligations.BandLineTake
  intro s r hm
  refine ⟨fun hstays => exec_run_eq (exec_bandLineTake s r) hm (bandRow_stays ((start_bandTakes s r).trans hstays)), ?_⟩
  intro b rest htakes hbands d1 hon hrole
  have ht := (start_bandTakes s r).trans htakes
  constructor
  · intro hnext
    exact completes_then _ (fun d => d.stallClear r) _ (exec_bandLineTake s r) hm (bandRow_kept ht hbands hon hrole hnext) (bandKept_fields s.start r b rest)
  · intro hpast hnames
    exact completes_then _ (fun d => d.stallClear r) _ (exec_bandLineTake s r) hm (bandRow_discarded ht hbands hon hrole hpast hnames) (bandDiscarded_fields s.start r rest)

end Sys2Proof.Machine
end

section
/-!
SUPPORT. The merge of a row (R139, R141, R142): its place in the Attic, what its windows need, what it lacks, and the statement O26.
-/
namespace Sys2Proof.Machine

/-! ### Writing a row (R150, R153) -/

/-- Bytes beyond installed DRAM are reported with an event, and the Boulevard keeps its state. -/
@[simp] theorem dramWrite_blv (d : Dev) (a : Nat) (bs : List Byte) : (d.dramWrite a bs).blv = d.blv := by
  unfold Dev.dramWrite Dev.outOfRange
  dsimp only
  split
  · split <;> simp
  · rfl

/-- The part with a row's pixels written behind an invalid tag. -/
def Dev.rowPixels (d : Dev) (x : Stitched) : Dev :=
  x.stored.foldl (fun d l => d.dramWrite (d.attAddr l.1 x.line 0) (pad64 (l.2.flatMap (leBytes (d.bpp l.1))))) (d.dramWrite (d.tagAddr (d.attSlot x.line)) (leBytes 8 noRow))

theorem rowPixels_blv (d : Dev) (x : Stitched) : (d.rowPixels x).blv = d.blv :=
  List.foldlRecOn x.stored _ (motive := fun e => e.blv = d.blv) (dramWrite_blv ..) fun e he _ _ => (dramWrite_blv e _ _).trans he

/-- The row's own tag waits for the fence, behind those of the rows before it. -/
theorem attWrite_eq (d : Dev) (x : Stitched) : d.attWrite x =
    { d.rowPixels x with blv := { (d.rowPixels x).blv with tagsPending := (d.rowPixels x).blv.tagsPending ++ [(x.line, (d.rowPixels x).time)] } } := rfl

theorem attWrite_blv (d : Dev) (x : Stitched) : (d.attWrite x).blv = { d.blv with tagsPending := d.blv.tagsPending ++ [(x.line, (d.rowPixels x).time)] } := by
  rw [attWrite_eq, rowPixels_blv]

/-! ### Merging a row (R139, R141, R142) -/

/-- What the windows of a merged row need of it. -/
def Dev.rowInfo (d : Dev) (x : Stitched) (bg : List (Nat × List (Nat × Nat))) : RowInfo :=
  { line := x.line, epoch := x.epoch, flags := x.flags, mergedAt := d.time, bg := bg, cover := d.coverOf x }

/-- The part with a row written, its windows to come, and the next row to be merged. -/
def Dev.rowPlaced (d : Dev) (late : List Nat) (x : Stitched) (bg : List (Nat × List (Nat × Nat))) : Dev :=
  let y := d.attWrite x
  { y with blv := { y.blv with nextRow := x.line + 1, taken := y.blv.taken.filter fun b => x.line < b.line, rows := y.blv.rows ++ [y.rowInfo x bg], lateRoles := late } }

/-- What the row lacks is counted: roles left out, then columns that nobody covers. -/
theorem mergeRow_eq (d : Dev) (late : List Nat) (x : Stitched) (bg : List (Nat × List (Nat × Nat))) : d.mergeRow late x bg =
    ((d.rowPlaced late x bg).counted R.BLV_CNT0_ROLE_LATE_CNT R.BLV_EVENTS_ROLE_LATE (!late.isEmpty)).counted R.BLV_CNT1_COVER_GAP_CNT R.BLV_EVENTS_COVER_GAP x.flags.coverGap := by
  cases late <;> rfl

theorem mergeRow_blv (d : Dev) (late : List Nat) (x : Stitched) (bg : List (Nat × List (Nat × Nat))) : (d.mergeRow late x bg).blv = (d.rowPlaced late x bg).blv := by
  rw [mergeRow_eq, counted_blv, counted_blv]

theorem mergeRow_roleLate (d : Dev) {late : List Nat} (x : Stitched) (bg : List (Nat × List (Nat × Nat))) (h : late ≠ []) :
    (d.mergeRow late x bg).fld R.BLV_EVENTS_ROLE_LATE = 1 := by
  rw [mergeRow_eq, List.isEmpty_eq_false_iff.mpr h, counted_fld_apart _ _ _ _ _ (by decide) (by decide) (by decide)]
  exact counted_event _ _ _ (by decide) (not_chanCount (by decide))

theorem mergeRow_coverGap (d : Dev) (late : List Nat) {x : Stitched} (bg : List (Nat × List (Nat × Nat))) (h : x.flags.coverGap = true) :
    (d.mergeRow late x bg).fld R.BLV_EVENTS_COVER_GAP = 1 := by
  rw [mergeRow_eq, h]
  exact counted_event _ _ _ (by decide) (not_chanCount (by decide))

theorem mergeRow_fields (d : Dev) (late : List Nat) (x : Stitched) (bg : List (Nat × List (Nat × Nat))) :
    let y := d.mergeRow late x bg
    y.blv.nextRow = x.line + 1 ∧ y.blv.lateRoles = late ∧ (∀ b ∈ y.blv.taken, x.line < b.line) ∧
      (∃ i, y.blv.rows.getLast? = some i ∧ i.line = x.line ∧ i.epoch = x.epoch ∧ i.flags = x.flags) ∧ (∃ t, y.blv.tagsPending.getLast? = some (x.line, t)) ∧
      (late ≠ [] → y.fld R.BLV_EVENTS_ROLE_LATE = 1) ∧ (x.flags.coverGap = true → y.fld R.BLV_EVENTS_COVER_GAP = 1) := by
  intro y
  have hblv : y.blv = (d.rowPlaced late x bg).blv := mergeRow_blv ..
  rw [hblv]
  have htag : (d.rowPlaced late x bg).blv.tagsPending = d.blv.tagsPending ++ [(x.line, (d.rowPixels x).time)] := congrArg BlvState.tagsPending (attWrite_blv d x)
  refine ⟨rfl, rfl, fun b hb => ?taken, ⟨_, List.getLast?_concat, rfl, rfl, rfl⟩, ⟨(d.rowPixels x).time, ?tag⟩, mergeRow_roleLate d x bg, mergeRow_coverGap d late bg⟩
  case taken => exact of_decide_eq_true (List.mem_filter.mp hb).2
  case tag => rw [htag, List.getLast?_concat]

/-! ### The row that is due (R139, R142) -/

/-- The part just before its next row is merged. -/
def Dev.mergeReady (d : Dev) : Dev := d.rowBefore d.nextStitch.1 d.nextStitch.2

/-- The next row, with WARMUP as it is when it is merged. -/
def Dev.mergedRow (d : Dev) : Stitched := { d.nextStitch.2 with flags := { d.nextStitch.2.flags with warmup := d.mergeReady.warmup } }

theorem mergedRow_line (d : Dev) : d.mergedRow.line = d.blv.nextRow := rfl
theorem mergedRow_stored (d : Dev) : d.mergedRow.stored = d.nextStitch.2.stored := rfl

/-- The part with its next row merged, before the row is handed on. -/
def Dev.rowMerged (d : Dev) : Dev := d.mergeReady.mergeRow d.nextStitch.1 d.mergedRow (d.mergeReady.background (d.mergeReady.prfVer d.mergedRow.line))

theorem rowMerge_due {d : Dev} {expiry : Bool} (h : d.mergeDue expiry = true) : d.rowMerge expiry = d.rowMerged.rowOn d.prf.settled d.mergedRow := by
  unfold Dev.rowMerge
  simp only [h, Bool.not_true, Bool.false_eq_true, if_false]
  rfl

/-- The two commands that merge a row differ in what makes it due. -/
theorem exec_merge (s : State) (expiry : Bool) : exec (if expiry then .mergeHoldExpiry else .rowMerge) s = s.run fun d => d.rowMerge expiry := by
  cases expiry
  · exact exec_rowMerge s
  · exact exec_mergeHoldExpiry s

/-- Settles O26: a row that is due is merged with WARMUP as it then is, and handed on. -/
theorem rowMerges : Obligations.RowMerges := by
  unfold Obligations.RowMerges
  intro s expiry hm hdue
  exact ⟨s.start.rowMerged, s.start.nextStitch.1, s.start.mergedRow, exec_run_eq (exec_merge s expiry) hm (rowMerge_due hdue), mergedRow_line s.start, rfl,
    mergedRow_stored s.start, mergeRow_fields ..⟩

end Sys2Proof.Machine
end

section
/-!
SUPPORT. What the Plaza's events and pins ask of the part (R172, R295, R382, R388, R488): sync requests, the host's interrupts, DMA starts and commits, and the
statement O43.
-/
namespace Sys2Proof.Machine

/-- An event with a pulse that is due at an input does what the input is for. -/
theorem onPulse_taken {d y : Dev} {i : Nat} {e : Taken} (h : d.take i = (some e, y)) (hp : e.pulse = true) (act : Taken → Dev → Dev) :
    d.onPulse i act = act e y := by
  simp only [Dev.onPulse, h, hp, if_true]

/-! ### Sync requests (R172) -/

/-- A write of the word with SYNC_REQ set. -/
theorem hostWrite_syncReq (d : Dev) (v : Nat) (h3 : 3 ≤ d.mode.code) (hv : bitOf v 12 = true) :
    d.hostWrite 0x502000 v = ((d.baseWrite 0 0x502000 v).syncClash false).syncRequest 3 := by
  have hd : (findDesc 0x502000).isNone = false := by decide
  have hw : d.regWrite 0 0x502000 v = d.blvWrite 0 0x502000 v := by
    simp [Dev.regWrite, inTap, hd]
  rw [hostWrite_eq d _ _ h3, hw]
  simp [Dev.blvWrite, Dev.mixedActs, hv]

theorem syncPin_slave {d : Dev} (h : d.isSlave = true) : d.syncPin = d := if_pos h
theorem syncPin_master {d : Dev} (h : d.isSlave = false) : d.syncPin = (d.syncClash false).syncRequest 0 := if_neg (by simp [h])

/-- A master that filters and has no row pending takes its target, and tells the others. -/
theorem syncRequest_master {d : Dev} (src : Nat) (hf : d.mode.filters = true) (hm : d.isSlave = false) (hnone : d.prf.syncRow = none) :
    d.syncRequest src = (d.setSync d.syncTarget).broadcast PT.sync (leBytes 8 d.syncTarget ++ zeros 8) := by
  simp [Dev.syncRequest, hf, hm, hnone]

theorem syncTarget_ahead (d : Dev) : d.pos.linesPassed + 16 ≤ d.syncTarget := by
  unfold Dev.syncTarget; omega

theorem syncTarget_grid (d : Dev) : d.syncTarget % 16 = 0 := Nat.mul_mod_left ..

@[simp] theorem setSync_prf (d : Dev) (ls : Nat) :
    (d.setSync ls).prf = { d.prf with syncRow := some ls, lateSync := d.mode.filters && decide (ls < d.blv.nextRow) } := by
  simp [Dev.setSync]

/-! ### Interrupts (R382) -/

@[simp] theorem queue_setQueue_same (d : Dev) (q : Nat) (x : Queue) : (d.setQueue q x).queue q = x := tget_tset_same ..

/-- The completion queue that an IRQ input reports to. -/
def Dev.irqQueue (d : Dev) (n : Nat) : Nat := d.fld (R.GLB_IRQ_CFG_IRQ_CQ n)

/-- The time that an EVENT entry gives: that of its event. -/
def Dev.irqTime (d : Dev) (n : Nat) : Nat := ((d.nextDue (0xB0 + n)).getD d.time - 2) % 2 ^ 32

/-- The result of an EVENT entry: the address of the last event, the count of events, the input. -/
def eventResult (n addr count : Nat) : Nat := addr % 2 ^ 32 + count * 2 ^ 32 + n * 2 ^ 48

/-- The entry of a first event at an input. -/
def eventEntry (n addr now : Nat) : CqEntry :=
  { result := eventResult n addr 1, detail := now, head := 0, sqId := 0xFFFF, cid := 0, status := 0, ctx := 0, kind := 2, source := some n }

/-- The entry that waits, with one more event. -/
def CqEntry.again (w : CqEntry) (n addr now : Nat) : CqEntry :=
  { w with result := eventResult n addr ((bits w.result 32 16 + 1) % 65536), detail := now }

/-- The count of an EVENT entry stands in bits 32 to 47. -/
theorem bits_eventResult (n addr count : Nat) (h : count < 65536) : bits (eventResult n addr count) 32 16 = count := by
  unfold bits eventResult
  omega

/-- Input and completion queue are enabled: the test of R382 for a drop fails. -/
theorem not_irqDropped {y : Dev} {n : Nat} (hinput : y.flag (R.GLB_IRQ_CFG_ENABLE n) = true) (hqueue : y.flag (R.QUE_CQ_CFG_ENABLE (y.irqQueue n)) = true) :
    ¬ ((!y.flag (R.GLB_IRQ_CFG_ENABLE n)) = true ∨ (!y.flag (R.QUE_CQ_CFG_ENABLE (y.irqQueue n))) = true) := by
  simp [hinput, hqueue]

section
variable {d y : Dev} {n : Nat} {e : Taken} (h : d.take (0xB0 + n) = (some e, y)) (hp : e.pulse = true)
include h hp

theorem irq_dropped (hoff : y.flag (R.GLB_IRQ_CFG_ENABLE n) = false ∨ y.flag (R.QUE_CQ_CFG_ENABLE (y.irqQueue n)) = false) :
    d.irq n = y.hostRaise R.GLB_HOST_EVENTS_IRQ_DROP :=
  (onPulse_taken h hp _).trans (if_pos (by simpa [Dev.irqQueue] using hoff))

variable (hinput : y.flag (R.GLB_IRQ_CFG_ENABLE n) = true) (hqueue : y.flag (R.QUE_CQ_CFG_ENABLE (y.irqQueue n)) = true)
include hinput hqueue

theorem irq_entry (hnone : ((y.queue (y.irqQueue n)).waiting.find? fun e => e.source = some n) = none) :
    d.irq n = y.cqPut (some (y.irqQueue n)) (eventEntry n e.addr (d.irqTime n)) := by
  refine (onPulse_taken h hp _).trans ((if_neg (not_irqDropped hinput hqueue)).trans ?_)
  unfold Dev.irqQueue at hnone
  simp only [hnone]
  rfl

theorem irq_counted {w : CqEntry} (hw : ((y.queue (y.irqQueue n)).waiting.find? fun e => e.source = some n) = some w) :
    d.irq n = y.setQueue (y.irqQueue n)
      { y.queue (y.irqQueue n) with waiting := (y.queue (y.irqQueue n)).waiting.map fun x => if x.source = some n then w.again n e.addr (d.irqTime n) else x } := by
  refine (onPulse_taken h hp _).trans ((if_neg (not_irqDropped hinput hqueue)).trans ?_)
  unfold Dev.irqQueue at hw
  simp only [hw]
  rfl

end

/-- Once the event is counted, the entries of its input have the count that follows. -/
theorem again_count {w c : CqEntry} {xs : List CqEntry} {n addr now : Nat} (hc : c ∈ xs.map fun x => if x.source = some n then w.again n addr now else x)
    (hs : c.source = some n) : bits c.result 32 16 = (bits w.result 32 16 + 1) % 65536 := by
  obtain ⟨x, -, rfl⟩ := List.mem_map.mp hc
  by_cases hx : x.source = some n
  · rw [if_pos hx]
    exact bits_eventResult _ _ _ (Nat.mod_lt _ (by decide))
  · rw [if_neg hx] at hs
    exact absurd hs hx

/-! ### Starts of DMA chains (R388) -/

@[simp] theorem chan_setChan_same (d : Dev) (n : Nat) (x : DmaChan) : (d.setChan n x).chan n = x := tget_tset_same ..

/-- The part with a start that waits for the end of a channel's chain. -/
def Dev.dmaPend (d : Dev) (n lin : Nat) : Dev := (d.setFld (R.DMA_CH_STATUS_PENDING n) 1).setChan n { d.chan n with startPending := true, pendLineage := lin }

section
variable {d : Dev} {n lin : Nat}

theorem dmaStart_ring (input : Option Nat) (hm : d.fld (R.DMA_CH_CFG_MODE n) = 2) : d.dmaStart n input lin = d.raise R.DMA_EVENTS_START_IGNORED := by
  simp only [Dev.dmaStart, hm]

variable (hm : d.fld (R.DMA_CH_CFG_MODE n) = 1)
include hm

theorem dmaStart_idle (input : Option Nat) (hst : d.dmaState n = 0) : d.dmaStart n input lin = d.dmaRegister n lin := by
  simp only [Dev.dmaStart, hm, hst]

variable (hst : d.dmaState n = 1)
include hst

theorem dmaStart_running (input : Option Nat) (hpend : (d.chan n).startPending = false) : d.dmaStart n input lin = d.dmaPend n lin := by
  simp only [Dev.dmaStart, hm, hst, hpend, Bool.false_eq_true, if_false]
  rfl

theorem dmaStart_dropped (i : Nat) (hpend : (d.chan n).startPending = true) :
    d.dmaStart n (some i) lin = (d.overrun i).raise R.DMA_EVENTS_START_DROP := by
  simp only [Dev.dmaStart, hm, hst, hpend, if_true]

end

theorem dmaPend_fields (d : Dev) (n lin : Nat) :
    (d.dmaPend n lin).fld (R.DMA_CH_STATUS_PENDING n) = 1 ∧ ((d.dmaPend n lin).chan n).startPending = true ∧ ((d.dmaPend n lin).chan n).pendLineage = lin := by
  have hchan : (d.dmaPend n lin).chan n = { d.chan n with startPending := true, pendLineage := lin } := chan_setChan_same ..
  rw [hchan]
  exact ⟨fld_setFld_same d (R.DMA_CH_STATUS_PENDING n) 1 (by simp [R.DMA_CH_STATUS_PENDING]), rfl, rfl⟩

theorem dmaInput_taken {d y : Dev} {n : Nat} {e : Taken} (h : d.take (0x70 + n) = (some e, y)) (hp : e.pulse = true) :
    d.dmaInput n = y.dmaStart n (some (0x70 + n)) (e.lineage + 1) := onPulse_taken h hp _

/-! ### Commits (R488) -/

/-- The part with an event noted at the COMMIT input. -/
def Dev.commitSeen (d : Dev) : Dev := { d with plz := { d.plz with comAt := d.time + 1 } }

section
variable {d y : Dev} {e : Taken} (h : d.take 0xF1 = (some e, y)) (hp : e.pulse = true)
include h hp

theorem commitInput_clash (hsoft : y.plz.softAt = y.time + 1) : d.commitInput = y.commitSeen.clash 0xF1 :=
  (onPulse_taken h hp _).trans (if_pos hsoft)

variable (hsoft : y.plz.softAt ≠ y.time + 1)
include hsoft

theorem commitInput_requests (hnext : y.cfg.next = none) : d.commitInput = y.commitSeen.requestNext .reg (min (e.lineage + 1) 7) :=
  (onPulse_taken h hp _).trans ((if_neg hsoft).trans (if_neg (by simp [hnext])))

theorem commitInput_overrun (hnext : y.cfg.next.isSome = true) : d.commitInput = y.commitSeen.overrun 0xF1 :=
  (onPulse_taken h hp _).trans ((if_neg hsoft).trans (if_pos hnext))

end

/-- Settles O43: each request is what its command or its event makes of the part, and the target of a sync request lies on the grid of 16, at least 16 rows
ahead. -/
theorem plazaRequests : Obligations.PlazaRequests := by
  unfold Obligations.PlazaRequests
  refine ⟨?software, ?commands, ?request⟩
  case software =>
    intro s v h3
    exact exec_run_eq (exec_syncReqWrite s v) (not_reset h3) (hostWrite_syncReq s.start _ h3 (bitOf_or_two_pow v.toNat 12))
  case commands =>
    intro s hm
    refine ⟨fun hmaster => exec_run_eq (exec_profileSyncPin s) hm (syncPin_master hmaster), fun hslave => exec_run_eq (exec_profileSyncPin s) hm (syncPin_slave hslave),
      fun e d ht hp => exec_run_eq (exec_decSync s) hm (onPulse_taken ht hp _), ?irq, ?dma, ?commit⟩
    case irq =>
      intro n e d ht hp
      refine ⟨fun hoff => exec_run_eq (exec_irq s n) hm (irq_dropped ht hp hoff),
        fun hin hq hnone => ⟨_, exec_run_eq (exec_irq s n) hm (irq_entry ht hp hin hq hnone), rfl, rfl, rfl⟩, fun hin hq w hw => ?_⟩
      refine ⟨_, exec_run_eq (exec_irq s n) hm (irq_counted ht hp hin hq hw), ?_⟩
      unfold Dev.irqQueue
      rw [queue_setQueue_same]
      exact ⟨List.length_map .., fun c hc => again_count hc⟩
    case dma =>
      intro n e d ht hp
      have hexec : ∀ {y : Dev}, d.dmaStart n (some (0x70 + n)) (e.lineage + 1) = y → exec (.dmaStart n) s = .next (s.after y) := fun h =>
        exec_run_eq (exec_dmaStart s n) hm ((dmaInput_taken ht hp).trans h)
      exact ⟨fun hmode => hexec (dmaStart_ring _ hmode), fun hmode hst => hexec (dmaStart_idle hmode _ hst),
        fun hmode hst hpend => ⟨_, hexec (dmaStart_running hmode hst _ hpend), dmaPend_fields ..⟩, fun hmode hst hpend => hexec (dmaStart_dropped hmode hst _ hpend)⟩
    case commit =>
      intro e d ht hp
      exact ⟨fun hsoft hnext => exec_run_eq (exec_commitInput s) hm (commitInput_requests ht hp hsoft hnext),
        fun hsoft hnext => exec_run_eq (exec_commitInput s) hm (commitInput_overrun ht hp hsoft hnext), fun hsoft => exec_run_eq (exec_commitInput s) hm (commitInput_clash ht hp hsoft)⟩
  case request =>
    intro d src hf hmaster hnone
    exact ⟨syncRequest_master src hf hmaster hnone, by rw [setSync_prf], syncTarget_ahead d, syncTarget_grid d⟩

end Sys2Proof.Machine
end

section
/-!
SUPPORT. Seam ports: their stores as the accessors see them, flags that are stored, and the table of devices (R463).
-/
namespace Sys2Proof.Machine

/-! ### The store of a port -/

@[simp] theorem seamPort_setSeamPort_same (d : Dev) (k : Nat) (x : SeamPort) : (d.setSeamPort k x).seamPort k = x := tget_tset_same ..
@[simp] theorem seamPort_updSeam_same (d : Dev) (k : Nat) (f : SeamPort → SeamPort) : (d.updSeam k f).seamPort k = f (d.seamPort k) := tget_tset_same ..
@[simp] theorem setSeamPort_fld (d : Dev) (k : Nat) (x : SeamPort) (g : Fld) : (d.setSeamPort k x).fld g = d.fld g := rfl
@[simp] theorem updSeam_fld (d : Dev) (k : Nat) (f : SeamPort → SeamPort) (g : Fld) : (d.updSeam k f).fld g = d.fld g := rfl

/-- Parts with the same table of seam ports have the same ports. -/
theorem seamPort_congr {d d' : Dev} (h : d'.seam = d.seam) (k : Nat) : d'.seamPort k = d.seamPort k := by rw [Dev.seamPort, h, Dev.seamPort]

/-! ### Flags -/

theorem flag_of_fld_one {d : Dev} {f : Fld} (h : d.fld f = 1) : d.flag f = true := by simp [Dev.flag, h]
theorem flag_of_fld_zero {d : Dev} {f : Fld} (h : d.fld f = 0) : d.flag f = false := by simp [Dev.flag, h]
theorem flag_congr {d d' : Dev} {f : Fld} (h : d'.fld f = d.fld f) : d'.flag f = d.flag f := by rw [Dev.flag, h, Dev.flag]

/-- A flag reads as it was stored. -/
theorem flag_setFlag_same (d : Dev) (f : Fld) (b : Bool) (h : f.lo + f.w ≤ 64) (hw : f.w = 1) : (d.setFlag f b).flag f = b := by
  have hf : (d.setFlag f b).fld f = b2n b % 2 := (fld_setFld_same d f _ h).trans (by rw [hw, Nat.pow_one])
  cases b
  · exact flag_of_fld_zero hf
  · exact flag_of_fld_one hf

/-! ### The table of devices (R463) -/

/-- The words of the table of devices. -/
def devWord (a : Nat) : Prop := 0xA00100 ≤ a ∧ a < 0xA00180

/-- The words of a device in the table. -/
def Dev.deviceWords (d : Dev) (i epoch fp mode : Nat) : Dev :=
  (((d.setFld (R.KSL_DEV_EPOCH i) epoch).setFld (R.KSL_DEV_FP i) fp).setFld (R.KSL_DEV_STATE_MODE i) mode).setFld (R.KSL_DEV_STATE_VALID i) 1

theorem deviceWords_fields (d : Dev) (i epoch fp mode : Nat) :
    let e := d.deviceWords i epoch fp mode
    e.fld (R.KSL_DEV_EPOCH i) = epoch % 2 ^ 32 ∧ e.fld (R.KSL_DEV_FP i) = fp % 2 ^ 64 ∧ e.fld (R.KSL_DEV_STATE_MODE i) = mode % 2 ^ 8 ∧
      e.fld (R.KSL_DEV_STATE_VALID i) = 1 := by
  dsimp only [Dev.deviceWords]
  refine ⟨?_, ?_, ?_, fld_setFld_same _ (R.KSL_DEV_STATE_VALID i) 1 (by simp [R.KSL_DEV_STATE_VALID])⟩
  · rw [fld_setFld_apart _ (R.KSL_DEV_STATE_VALID i), fld_setFld_apart _ (R.KSL_DEV_STATE_MODE i), fld_setFld_apart _ (R.KSL_DEV_FP i)]
    · exact fld_setFld_same d (R.KSL_DEV_EPOCH i) epoch (by simp [R.KSL_DEV_EPOCH])
    all_goals simp only [Fld.apart, R.KSL_DEV_EPOCH, R.KSL_DEV_FP, R.KSL_DEV_STATE_MODE, R.KSL_DEV_STATE_VALID]; omega
  · rw [fld_setFld_apart _ (R.KSL_DEV_STATE_VALID i), fld_setFld_apart _ (R.KSL_DEV_STATE_MODE i)]
    · exact fld_setFld_same _ (R.KSL_DEV_FP i) fp (by simp [R.KSL_DEV_FP])
    all_goals simp only [Fld.apart, R.KSL_DEV_FP, R.KSL_DEV_STATE_MODE, R.KSL_DEV_STATE_VALID]; omega
  · rw [fld_setFld_apart _ (R.KSL_DEV_STATE_VALID i)]
    · exact fld_setFld_same _ (R.KSL_DEV_STATE_MODE i) mode (by simp [R.KSL_DEV_STATE_MODE])
    · simp [Fld.apart, R.KSL_DEV_STATE_MODE, R.KSL_DEV_STATE_VALID]

/-- What a device says of itself is noted for the eight devices of a cascade. -/
theorem noteDevice_eq (d : Dev) {i : Nat} (epoch fp mode : Nat) (master : Bool) (hi : i < 8) :
    d.noteDevice i epoch fp mode master =
      { d.deviceWords i epoch fp mode with masters := d.masters.filter (fun m => m ≠ i) ++ (if master then [i] else []) } := by
  rw [Dev.noteDevice, if_neg (Nat.not_le.mpr hi)]
  simp only [Dev.setFld_masters, Dev.deviceWords]

theorem noteDevice_beyond (d : Dev) {i : Nat} (epoch fp mode : Nat) (master : Bool) (hi : 8 ≤ i) : d.noteDevice i epoch fp mode master = d := if_pos hi

@[simp] theorem noteDevice_seam (d : Dev) (i epoch fp mode : Nat) (master : Bool) : (d.noteDevice i epoch fp mode master).seam = d.seam := by
  by_cases hi : i < 8
  · simp [noteDevice_eq, hi, Dev.deviceWords]
  · rw [noteDevice_beyond d _ _ _ _ (Nat.not_lt.mp hi)]

theorem keeps_deviceWords (d : Dev) {i : Nat} (epoch fp mode : Nat) (hi : i < 8) : d.keeps (d.deviceWords i epoch fp mode) devWord := by
  have h1 : d.keeps (d.setFld (R.KSL_DEV_EPOCH i) epoch) devWord :=
    keeps_mono (keeps_setFld d (R.KSL_DEV_EPOCH i) epoch (by simp [R.KSL_DEV_EPOCH])) fun a h => by simp only [h, devWord, R.KSL_DEV_EPOCH]; omega
  have h2 := keeps_trans h1 (keeps_mono (keeps_setFld64 _ (R.KSL_DEV_FP i) fp) fun a h => by simp only [R.KSL_DEV_FP] at h; simp only [devWord]; omega)
  have h3 := keeps_trans h2 (keeps_mono (keeps_setFld _ (R.KSL_DEV_STATE_MODE i) mode (by simp [R.KSL_DEV_STATE_MODE])) fun a h => by
    simp only [h, devWord, R.KSL_DEV_STATE_MODE]; omega)
  exact keeps_trans h3 (keeps_mono (keeps_setFld _ (R.KSL_DEV_STATE_VALID i) 1 (by simp [R.KSL_DEV_STATE_VALID])) fun a h => by
    simp only [h, devWord, R.KSL_DEV_STATE_VALID]; omega)

theorem keeps_noteDevice (d : Dev) (i epoch fp mode : Nat) (master : Bool) : d.keeps (d.noteDevice i epoch fp mode master) devWord := by
  by_cases hi : i < 8
  · rw [noteDevice_eq _ _ _ _ _ hi]
    exact keeps_trans (keeps_deviceWords d epoch fp mode hi) (keeps_of_eq _ rfl rfl rfl)
  · rw [noteDevice_beyond d _ _ _ _ (Nat.not_lt.mp hi)]
    exact keeps_refl ..

/-- The SAME bit of one device of the table. -/
def Dev.sameBit (d : Dev) (i : Nat) : Dev :=
  if d.flag (R.KSL_DEV_STATE_VALID i) then
    d.setFlag (R.KSL_DEV_STATE_SAME i) (decide (d.fld (R.KSL_DEV_EPOCH i) = d.fld R.GLB_EPOCH) && decide (d.fld (R.KSL_DEV_FP i) = d.fld R.GLB_FINGERPRINT) && decide (d.fld (R.KSL_DEV_STATE_MODE i) = d.mode.code))
  else d

theorem noteSame_eq (d : Dev) : d.noteSame = (List.range 8).foldl Dev.sameBit d := rfl

/-- The SAME bits lie in the table. -/
theorem regStep_noteSame (d : Dev) : RegStep devWord d d.noteSame := by
  rw [noteSame_eq]
  refine RegStep.foldl _ (fun i hi d => ?_) d
  have hi8 : i < 8 := List.mem_range.mp hi
  unfold Dev.sameBit
  split
  · exact .setFld d (R.KSL_DEV_STATE_SAME i) _ (by simp [R.KSL_DEV_STATE_SAME]) (by simp only [devWord, R.KSL_DEV_STATE_SAME]; omega)
  · exact .refl _ d

@[simp] theorem noteSame_seam (d : Dev) : d.noteSame.seam = d.seam := by rw [(regStep_noteSame d).rest]
@[simp] theorem noteSame_masters (d : Dev) : d.noteSame.masters = d.masters := by rw [(regStep_noteSame d).rest]

/-- A field that shares no bit with the SAME bits. -/
theorem noteSame_fld (d : Dev) (g : Fld) (h : ∀ i < 8, (R.KSL_DEV_STATE_SAME i).apart g) : d.noteSame.fld g = d.fld g := by
  rw [noteSame_eq]
  refine List.foldlRecOn (List.range 8) Dev.sameBit (motive := fun e => e.fld g = d.fld g) rfl fun e he i hi => ?_
  unfold Dev.sameBit
  split
  · exact (fld_setFld_apart e _ g _ (h i (List.mem_range.mp hi))).trans he
  · exact he

/-- The part with what a device says of itself in the table. -/
def Dev.deviceNoted (d : Dev) (i epoch fp mode : Nat) (master : Bool) : Dev := (d.noteDevice i epoch fp mode master).noteSame

@[simp] theorem deviceNoted_seam (d : Dev) (i epoch fp mode : Nat) (master : Bool) : (d.deviceNoted i epoch fp mode master).seam = d.seam := by
  simp [Dev.deviceNoted]

/-- The table alone is written. -/
theorem keeps_deviceNoted (d : Dev) (i epoch fp mode : Nat) (master : Bool) : d.keeps (d.deviceNoted i epoch fp mode master) devWord :=
  keeps_trans (keeps_noteDevice ..) (regStep_noteSame _).keeps

/-- A field of one word outside the table. -/
theorem deviceNoted_fld (d : Dev) (i epoch fp mode : Nat) (master : Bool) (g : Fld) (hw : g.lo + g.w ≤ 32) (hg : ¬ devWord g.addr) :
    (d.deviceNoted i epoch fp mode master).fld g = d.fld g := (keeps_deviceNoted ..).fld g hg fun h => absurd hw (Nat.not_le.mpr h)

/-- The entry of the device in the table. -/
theorem deviceNoted_entry (d : Dev) {i : Nat} (epoch fp mode : Nat) (master : Bool) (hi : i < 8) :
    let e := d.deviceNoted i epoch fp mode master
    e.fld (R.KSL_DEV_EPOCH i) = epoch % 2 ^ 32 ∧ e.fld (R.KSL_DEV_FP i) = fp % 2 ^ 64 ∧ e.fld (R.KSL_DEV_STATE_MODE i) = mode % 2 ^ 8 ∧
      e.flag (R.KSL_DEV_STATE_VALID i) = true ∧ (i ∈ e.masters ↔ master = true) := by
  intro e
  obtain ⟨hepoch, hfp, hmode, hvalid⟩ := deviceWords_fields d i epoch fp mode
  have hkept : ∀ g : Fld, (∀ j < 8, (R.KSL_DEV_STATE_SAME j).apart g) → e.fld g = (d.deviceWords i epoch fp mode).fld g := fun g hg => by
    refine (noteSame_fld _ g hg).trans ?_
    exact fld_congr_regs (by simp only [noteDevice_eq _ _ _ _ _ hi]) g
  refine ⟨(hkept _ fun j _ => ?_).trans hepoch, (hkept _ fun j _ => ?_).trans hfp, (hkept _ fun j _ => ?_).trans hmode, flag_of_fld_one ((hkept _ fun j _ => ?_).trans hvalid), ?_⟩
  · simp only [Fld.apart, R.KSL_DEV_STATE_SAME, R.KSL_DEV_EPOCH]; omega
  · simp only [Fld.apart, R.KSL_DEV_STATE_SAME, R.KSL_DEV_FP]; omega
  · simp only [Fld.apart, R.KSL_DEV_STATE_SAME, R.KSL_DEV_STATE_MODE]; omega
  · simp only [Fld.apart, R.KSL_DEV_STATE_SAME, R.KSL_DEV_STATE_VALID]; omega
  · have hmasters : e.masters = d.masters.filter (fun m => m ≠ i) ++ (if master then [i] else []) := by
      rw [show e.masters = _ from noteSame_masters _, noteDevice_eq _ _ _ _ _ hi]
    rw [hmasters]
    cases master <;> simp

end Sys2Proof.Machine
end

section
/-!
SUPPORT. CAP: what a partner says of itself, and what becomes of its port (R447, R448, R462).
-/
namespace Sys2Proof.Machine

/-! ### CAP (R447, R448, R462) -/

/-- The part with what a CAP says of its sender in its port. -/
def Dev.capPort (d : Dev) (k : Nat) (bs : List Byte) : Dev :=
  ((d.updSeam k fun x => { x with pw := leAt bs 2 1, pe := leAt bs 3 1, place := leAt bs 8 4 }).setFld (R.KSL_PORT_STATUS_PARTNER_DEV k) (leAt bs 2 1)).setFlag
    (R.KSL_PORT_STATUS_PARTNER_MASTER k) (bitOf (leAt bs 4 1) 7)

/-- The same with the sender, device `i`, in the table of devices. -/
def Dev.capNoted (d : Dev) (k : Nat) (bs : List Byte) (i : Nat) (master : Bool) : Dev :=
  (d.capPort k bs).deviceNoted i (leAt bs 28 4) (leAt bs 32 8) (leAt bs 5 1) master

/-- What becomes of a port once its partner's CAP is noted. -/
def Dev.capChecked (d : Dev) (k : Nat) (bs : List Byte) : Dev :=
  if d.stage k < 4 then d else
  match d.capCode k bs with
  | none => (d.capAccept k (leAt bs 2 1)).noteReady
  | some code =>
    if d.stage k = 5 then d.recount else
    (((d.updSeam k fun x => { x with held := false }).setFld (R.KSL_PORT_STATUS_MISMATCH k) 1).seamErr k R.KSL_EVENTS_MISMATCH code).noteReady

theorem capReceive_eq (d : Dev) (k : Nat) (bs : List Byte) : ∃ i master, d.capReceive k bs = (d.capNoted k bs i master).capChecked k bs := by
  unfold Dev.capReceive Dev.capChecked Dev.capNoted Dev.deviceNoted Dev.capPort
  exact ⟨_, _, rfl⟩

section
variable {d : Dev} {k : Nat} {bs : List Byte}

theorem capChecked_early (h : d.stage k < 4) : d.capChecked k bs = d := if_pos h

theorem capChecked_agrees (h : 4 ≤ d.stage k) (hc : d.capCode k bs = none) : d.capChecked k bs = (d.capAccept k (leAt bs 2 1)).noteReady := by
  rw [Dev.capChecked, if_neg (Nat.not_lt.mpr h), hc]

theorem capChecked_refused {code : Nat} (h : d.stage k = 4) (hc : d.capCode k bs = some code) :
    d.capChecked k bs = (((d.setSeamPort k { d.seamPort k with held := false }).setFld (R.KSL_PORT_STATUS_MISMATCH k) 1).seamErr k R.KSL_EVENTS_MISMATCH code).noteReady := by
  simp only [Dev.capChecked, h, hc, Nat.lt_irrefl, if_false, Nat.reduceEqDiff]
  rfl

/-- A port that is up ignores a CAP that does not agree. -/
theorem capChecked_up {code : Nat} (h : d.stage k = 5) (hc : d.capCode k bs = some code) : d.capChecked k bs = d.recount := by
  simp only [Dev.capChecked, h, hc, Nat.reduceLT, if_false, if_true]

/-- CASCADE_CHANGE: a port that waits for DISCOVER goes on waiting. -/
theorem capAccept_held {pw : Nat} (hfixed : d.flag R.KSL_CASCADE_FIXED = true) (hheld : (d.seamPort k).held = true) :
    d.capAccept k pw = (d.setSeamPort k { d.seamPort k with held := true }).seamErr k R.KSL_EVENTS_CASCADE_CHANGE 0x700D :=
  if_pos (by simp [hfixed, hheld])

end

section
variable (d : Dev) {k : Nat} (bs : List Byte) (i : Nat) (master : Bool)

theorem capNoted_seamPort : (d.capNoted k bs i master).seamPort k = { d.seamPort k with pw := leAt bs 2 1, pe := leAt bs 3 1, place := leAt bs 8 4 } := by
  have h : (d.capNoted k bs i master).seam = (d.updSeam k fun x => { x with pw := leAt bs 2 1, pe := leAt bs 3 1, place := leAt bs 8 4 }).seam := by
    simp [Dev.capNoted, Dev.capPort, Dev.setFlag]
  rw [seamPort_congr h, seamPort_updSeam_same]

variable (hk : k < 2)
include hk

theorem capNoted_stage : (d.capNoted k bs i master).stage k = d.stage k := by
  refine (deviceNoted_fld _ _ _ _ _ _ _ (by simp [R.KSL_PORT_STATUS_STAGE]) (by simp only [devWord, R.KSL_PORT_STATUS_STAGE]; omega)).trans ?_
  exact (fld_setFld_apart _ _ _ _ (by simp [Fld.apart, R.KSL_PORT_STATUS_PARTNER_MASTER, R.KSL_PORT_STATUS_STAGE])).trans
    (fld_setFld_apart _ _ _ _ (by simp [Fld.apart, R.KSL_PORT_STATUS_PARTNER_DEV, R.KSL_PORT_STATUS_STAGE]))

theorem capNoted_partner : (d.capNoted k bs i master).fld (R.KSL_PORT_STATUS_PARTNER_DEV k) = leAt bs 2 1 % 8 ∧
    (d.capNoted k bs i master).flag (R.KSL_PORT_STATUS_PARTNER_MASTER k) = bitOf (leAt bs 4 1) 7 := by
  constructor
  · refine (deviceNoted_fld _ _ _ _ _ _ _ (by simp [R.KSL_PORT_STATUS_PARTNER_DEV]) (by simp only [devWord, R.KSL_PORT_STATUS_PARTNER_DEV]; omega)).trans ?_
    exact (fld_setFld_apart _ _ _ _ (by simp [Fld.apart, R.KSL_PORT_STATUS_PARTNER_MASTER, R.KSL_PORT_STATUS_PARTNER_DEV])).trans
      (fld_setFld_same _ _ _ (by simp [R.KSL_PORT_STATUS_PARTNER_DEV]))
  · refine (flag_congr (deviceNoted_fld _ _ _ _ _ _ _ (by simp [R.KSL_PORT_STATUS_PARTNER_MASTER]) (by simp only [devWord, R.KSL_PORT_STATUS_PARTNER_MASTER]; omega))).trans ?_
    exact flag_setFlag_same _ _ _ (by simp [R.KSL_PORT_STATUS_PARTNER_MASTER]) rfl

end

/-- The part with a port that has come up, before the cascade is counted anew. -/
def Dev.seamUp (d : Dev) (k : Nat) : Dev :=
  let e := (((d.setFld (R.KSL_PORT_STATUS_STAGE k) 5).setFld (R.KSL_PORT_STATUS_MISMATCH k) 0).raise R.KSL_EVENTS_PORT_UP).updSeam k fun x => { x with lastSent := d.time, held := false }
  if e.mode.framed then e else e.setActive k true

theorem capAccept_up {d : Dev} {k pw : Nat} (hst : d.stage k = 4) (hfree : d.flag R.KSL_CASCADE_FIXED = false) :
    d.capAccept k pw = (d.seamUp k).recount.sendLinkinfo := by
  simp only [Dev.capAccept, hfree, hst, Bool.not_false, Bool.true_or, Bool.not_true, Bool.false_and, Bool.or_false, Bool.false_eq_true, if_false, Nat.reduceEqDiff, Dev.raise_time, Dev.setFld_time]
  rfl

theorem setActive_seam (d : Dev) (k : Nat) : (d.setActive k true).seam = d.seam := by simp [Dev.setActive, Dev.setFlag]

theorem setActive_fld (d : Dev) (k : Nat) (g : Fld) (h1 : (R.KSL_PORT_STATUS_DATA k).apart g) (h2 : (missingSide k).apart g) : (d.setActive k true).fld g = d.fld g :=
  (fld_setFld_apart _ (missingSide k) g 0 h2).trans (fld_setFld_apart d _ g _ h1)

/-- A field beside what being Active changes. -/
theorem seamUp_fld (d : Dev) (k : Nat) (g : Fld) (h1 : (R.KSL_PORT_STATUS_DATA k).apart g) (h2 : (missingSide k).apart g) :
    (d.seamUp k).fld g = (((d.setFld (R.KSL_PORT_STATUS_STAGE k) 5).setFld (R.KSL_PORT_STATUS_MISMATCH k) 0).raise R.KSL_EVENTS_PORT_UP).fld g := by
  unfold Dev.seamUp
  dsimp only
  split
  · exact updSeam_fld ..
  · exact (setActive_fld _ _ _ h1 h2).trans (updSeam_fld ..)

theorem seamUp_lastSent (d : Dev) (k : Nat) : ((d.seamUp k).seamPort k).lastSent = d.time := by
  unfold Dev.seamUp
  dsimp only
  split
  · rw [seamPort_updSeam_same]
  · rw [seamPort_congr (setActive_seam ..), seamPort_updSeam_same]

theorem seamUp_fields (d : Dev) {k : Nat} (hk : k < 2) :
    (d.seamUp k).stage k = 5 ∧ (d.seamUp k).flag (R.KSL_PORT_STATUS_MISMATCH k) = false ∧ (d.seamUp k).flag R.KSL_EVENTS_PORT_UP = true := by
  refine ⟨?_, flag_of_fld_zero ?_, flag_of_fld_one ?_⟩
  · refine (seamUp_fld d k _ ?_ ?_).trans ((raise_fld_apart _ _ _ ?_ ?_).trans ((fld_setFld_apart _ _ _ _ ?_).trans (fld_setFld_same _ _ _ ?_)))
    all_goals interval_cases k <;> decide
  · refine (seamUp_fld d k _ ?_ ?_).trans ((raise_fld_apart _ _ _ ?_ ?_).trans ((fld_setFld_same _ _ _ ?_).trans (Nat.zero_mod _)))
    all_goals interval_cases k <;> decide
  · refine (seamUp_fld d k _ ?_ ?_).trans (raise_fld _ _ (by decide) rfl (not_chanCount (by decide)))
    all_goals interval_cases k <;> decide

end Sys2Proof.Machine
end

section
/-!
SUPPORT. The other packets of the seam link (R172, R234, R456, R459, R460, R491), and the statement O57.
-/
namespace Sys2Proof.Machine

/-! ### Acknowledgement and replay (R456) -/

theorem flushWaiting_seamPort {d : Dev} {k : Nat} (h : (d.seamPort k).waiting = []) : (d.flushWaiting k).seamPort k = d.seamPort k := by
  simp only [Dev.flushWaiting, h, List.foldl_nil, seamPort_setSeamPort_same]
  rw [← h]

/-- What is left unacknowledged once the packets to `n` are acknowledged. -/
def SeamPort.acked (x : SeamPort) (n : Nat) : SeamPort :=
  let left := x.unacked.filter fun u => decide (32768 ≤ (n + 65536 - u.1.lseq) % 65536)
  { x with unacked := left, replays := if left.length < x.unacked.length then 0 else x.replays }

theorem ackReceive_ack {d : Dev} {k : Nat} (n : Nat) (h : (d.seamPort k).waiting = []) : (d.ackReceive k n false).seamPort k = (d.seamPort k).acked n :=
  (flushWaiting_seamPort (d := d.setSeamPort k ((d.seamPort k).acked n)) (by rw [seamPort_setSeamPort_same]; exact h)).trans (seamPort_setSeamPort_same ..)

theorem ackReceive_nak (d : Dev) (k n : Nat) : d.ackReceive k n true = ((d.setSeamPort k ((d.seamPort k).acked n)).replay k).flushWaiting k := rfl

section
variable {d : Dev} {k : Nat}

/-- Packets wait while the transmitter is held in DOZE. -/
theorem replay_dozing (hforce : d.fld (R.KSL_PORT_POWER_TX_FORCE k) = 1) : d.replay k = d := if_pos (.inr hforce)

variable (hsent : (d.seamPort k).unacked ≠ [])
include hsent

theorem replay_fails (hforce : d.fld (R.KSL_PORT_POWER_TX_FORCE k) ≠ 1) (h : 16 ≤ (d.seamPort k).replays) :
    d.replay k = (d.seamErr k R.KSL_EVENTS_REPLAY_FAIL 0x7009).portDown k :=
  (if_neg (by simp [hsent, hforce])).trans (if_pos h)

theorem replay_again (hforce : d.fld (R.KSL_PORT_POWER_TX_FORCE k) ≠ 1) (h : (d.seamPort k).replays < 16) : d.replay k = d.replayAll k :=
  (if_neg (by simp [hsent, hforce])).trans (if_neg (Nat.not_le.mpr h))

/-- The part with a replay counted, and its packets dated anew. -/
def Dev.replayNoted (d : Dev) (k : Nat) : Dev :=
  (d.bump (R.KSL_PORT_CNT1_REPLAY_CNT k)).updSeam k fun x => { x with replays := x.replays + 1, unacked := x.unacked.map fun u => (u.1, d.time) }

theorem replayAll_eq : d.replayAll k = (d.seamPort k).unacked.foldl (fun d u => d.putOut k u.1) (d.replayNoted k) := by
  simp only [Dev.replayAll, hsent, if_false, Dev.replayNoted, Dev.bump]

end

theorem replayNoted_fields (d : Dev) (k : Nat) :
    (d.replayNoted k).fld (R.KSL_PORT_CNT1_REPLAY_CNT k) = min (d.fld (R.KSL_PORT_CNT1_REPLAY_CNT k) + 1) 65535 ∧
      ((d.replayNoted k).seamPort k).replays = (d.seamPort k).replays + 1 ∧
      ((d.replayNoted k).seamPort k).unacked = (d.seamPort k).unacked.map fun u => (u.1, d.time) := by
  have hport : (d.bump (R.KSL_PORT_CNT1_REPLAY_CNT k)).seamPort k = d.seamPort k := seamPort_congr (Dev.setFld_seam ..) k
  refine ⟨fld_bump_same d (R.KSL_PORT_CNT1_REPLAY_CNT k) (by simp [R.KSL_PORT_CNT1_REPLAY_CNT]), ?_, ?_⟩
  · rw [Dev.replayNoted, seamPort_updSeam_same, hport]
  · rw [Dev.replayNoted, seamPort_updSeam_same, hport]

theorem replayTimeout_cons {d : Dev} {k : Nat} {u : Packet × Nat} {us : List (Packet × Nat)} (hk : k < 2) (h : (d.seamPort k).unacked = u :: us) :
    d.replayTimeout k = (d.advance (u.2 + usCycles 20)).replay k := by
  simp only [Dev.replayTimeout, h, Nat.not_le.mpr hk, if_false]

/-! ### LINKINFO (R460) -/

theorem linkinfoReceive_malformed {d : Dev} {k hops : Nat} {bs : List Byte} (h : leAt bs 24 4 / 2 ^ 30 = 3) :
    d.linkinfoReceive k hops bs = (d.seamErr k R.KSL_EVENTS_FRAME_ERR 0x700A, false) := if_pos h

/-- A LINKINFO that another device has forwarded fills the table alone. -/
theorem linkinfoReceive_forwarded {d : Dev} {k hops : Nat} {bs : List Byte} (h : leAt bs 24 4 / 2 ^ 30 ≠ 3) (hhops : 0 < hops) :
    d.linkinfoReceive k hops bs = ((d.deviceNoted (leAt bs 0 1) (leAt bs 8 4) (leAt bs 16 8) (leAt bs 3 1) (bitOf (leAt bs 4 1) 1)).noteReady,
      bitOf (leAt bs 4 1) 1 && decide (leAt bs 3 1 = 6 ∨ leAt bs 3 1 = 7)) := by
  simp only [Dev.linkinfoReceive, h, Nat.pos_iff_ne_zero.mp hhops, if_false, Dev.deviceNoted]

theorem linkinfoTake_starts {d : Dev} {k : Nat} {p : RxPacket} (hruns : (d.linkinfoReceive k p.hops p.payload).2 = true)
    (hslave : (d.linkinfoReceive k p.hops p.payload).1.isSlave = true) : d.linkinfoTake k p = (d.linkinfoReceive k p.hops p.payload).1.start :=
  if_pos (Bool.and_eq_true_iff.mpr ⟨hruns, hslave⟩)

/-! ### Sync (R172) -/

theorem syncReceive_master {d : Dev} (bs : List Byte) (h : d.isSlave = false) : d.syncReceive bs = d := if_pos (by simp [h])
theorem syncReqReceive_master {d : Dev} (bs : List Byte) (h : d.isSlave = false) : d.syncReqReceive bs = (d.syncClash false).syncRequest (leAt bs 0 1) :=
  if_neg (by simp [h])
theorem syncReqReceive_slave {d : Dev} (bs : List Byte) (h : d.isSlave = true) : d.syncReqReceive bs = d := if_pos h

theorem syncReceive_slave {d : Dev} (bs : List Byte) (h : d.isSlave = true) (hops : (d.setSync (leAt bs 0 8)).opsOf 0x05 = []) :
    d.syncReceive bs = d.setSync (leAt bs 0 8) := by
  simp only [Dev.syncReceive, h, hops, Bool.not_true, Bool.false_eq_true, if_false, List.foldl_nil]

theorem setSync_row (d : Dev) (ls : Nat) : (d.setSync ls).fld R.BLV_PRF_SYNC_ROW = ls % 2 ^ 64 := by
  have hset : (({ d with prf := { d.prf with syncRow := some ls } } : Dev).setFld R.BLV_PRF_SYNC_ROW ls).fld R.BLV_PRF_SYNC_ROW = ls % 2 ^ 64 :=
    fld_setFld_same _ _ _ (by decide)
  unfold Dev.setSync Dev.raiseIf
  dsimp only
  split
  · exact (raise_fld_apart _ _ _ (by decide) (by decide)).trans hset
  · exact hset

/-- A row that has passed where the filters run is reported. -/
theorem setSync_late {d : Dev} {ls : Nat} (hf : d.mode.filters = true) (hl : ls < d.blv.nextRow) : (d.setSync ls).flag R.BLV_PRF_EVENTS_SYNC_LATE = true := by
  have hlate : (d.mode.filters && decide (ls < d.blv.nextRow)) = true := by simp [hf, hl]
  simp only [Dev.setSync, Dev.setFld_mode, Dev.setFld_blv, hlate, Dev.raiseIf, if_true]
  exact flag_of_fld_one (raise_fld _ _ (by decide) rfl (not_chanCount (by decide)))

/-! ### Commits (R491) -/

/-- The device that asks for a commit at an index, with its token. -/
def askedBy (bs : List Byte) : Who := .remote (leAt bs 14 1) (leAt bs 8 4)

theorem commitReceive_idle {d : Dev} (bs : List Byte) (h : d.mode.framed = false) : d.commitReceive bs = d.commitEnd [askedBy bs] 0x800B 0 0 :=
  if_pos (by simp [h])

section
variable {d : Dev} {bs : List Byte} (h : d.mode.framed = true)
include h

theorem commitReceive_passed (hn : leAt bs 0 8 ≤ d.pos.linesPassed) : d.commitReceive bs = d.commitEnd [askedBy bs] 0x800A 0 0 :=
  (if_neg (by simp [h])).trans (if_pos hn)

theorem commitReceive_kept (hn : d.pos.linesPassed < leAt bs 0 8) (hr : leAt bs 12 1 ≠ 1) : d.commitReceive bs =
    (d.setCfg fun x => { x with atIndex := x.atIndex ++ [{ index := some (leAt bs 0 8), whos := [askedBy bs], recipe := none }] }).notePending := by
  simp only [Dev.commitReceive, h, hr, Nat.not_le.mpr hn, Bool.not_true, Bool.false_eq_true, if_false, Option.isSome_none, askedBy]

end

/-- A commit of this device with one more answer. -/
def CommitReq.heard (c : CommitReq) (bs : List Byte) : CommitReq :=
  if c.token = some (leAt bs 0 4) then
    { c with answered := leAt bs 6 1 :: c.answered.filter (· ≠ leAt bs 6 1), refused := if leAt bs 4 2 ≠ 0 then leAt bs 6 1 :: c.refused else c.refused }
  else c

theorem commitResult_noWaits {d : Dev} (bs : List Byte) (h : d.cfg.waits = []) :
    d.commitResult bs = d.setCfg fun x => { x with waits := [], atIndex := x.atIndex.map fun c => c.heard bs } := by
  simp [Dev.commitResult, Dev.waitEnd, Dev.setCfg, h, CommitReq.heard]

theorem cascadeTimeout_cons {d : Dev} {w : CommitWait} {ws : List CommitWait} (h : d.cfg.waits = w :: ws) :
    d.cascadeTimeout = (d.advance (w.doneAt + usCycles 10000)).waitEnd true := by
  simp only [Dev.cascadeTimeout, h]

/-! ### Borders and yields (R234, R459) -/

@[simp] theorem borders_setBorders_same (d : Dev) (k : Nat) (x : List BorderRow) : (d.setBorders k x).borders k = x := by
  unfold Dev.borders Dev.setBorders Dev.setBlob
  split <;> rfl

theorem borderReceive_late {d : Dev} (k : Nat) {b : BorderRow} (h : b.line < d.blob.nextRow) :
    d.borderReceive k b = (d.raise R.BLV_REC_EVENTS_SEAM_LATE).setFld R.BLV_REC_LAST_ERR 0x9004 :=
  if_pos (by simp [h])

theorem borderReceive_kept {d : Dev} (k : Nat) {b : BorderRow} (h : d.blob.nextRow ≤ b.line) (hwork : ∀ w, d.blob.work = some w → w.line = b.line → w.joinedAt = none) :
    d.borderReceive k b = d.setBorders k (((d.borders k).filter fun x => x.line ≠ b.line) ++ [b]) := by
  refine if_neg ?_
  cases hw : d.blob.work with
  | none => simpa using h
  | some w =>
    by_cases hl : w.line = b.line
    · simpa [hl, hwork w hw hl] using h
    · simpa [hl] using h

theorem yieldReceive_late {d : Dev} (dev : Nat) {bs : List Byte} (h : (yieldOf bs).1 < d.blob.nextRow) :
    d.yieldReceive dev bs = ((d.bump R.BLV_REC_CNT_YIELD_DISCARD_CNT).raise R.BLV_REC_EVENTS_YIELD_DISCARD).setFld R.BLV_REC_LAST_ERR 0x9005 := if_pos h

theorem yieldReceive_kept {d : Dev} {dev : Nat} {bs : List Byte} (h : d.blob.nextRow ≤ (yieldOf bs).1)
    (hnew : (d.blob.yields.find? fun z => decide (z.line = (yieldOf bs).1) && decide (z.device = dev)) = none) :
    (d.yieldReceive dev bs).blob.yields = d.blob.yields.filter (fun z => !(decide (z.line = (yieldOf bs).1) && decide (z.device = dev))) ++
      [{ line := (yieldOf bs).1, device := dev, last := (yieldOf bs).2.1, entries := (yieldOf bs).2.2 }] := by
  simp only [Dev.yieldReceive, Nat.not_lt.mpr h, if_false, hnew, Dev.setBlob, List.nil_append]

/-- An event of the records and its code. -/
theorem recErr_fields (d : Dev) (f : Fld) (code : Nat) (hf : f.addr = R.BLV_REC_EVENTS_SEAM_LATE.addr) (h32 : f.lo + f.w ≤ 32) (hw : f.w = 1) :
    let e := (d.raise f).setFld R.BLV_REC_LAST_ERR code
    e.flag f = true ∧ e.fld R.BLV_REC_LAST_ERR = code % 65536 ∧ e.blob = d.blob := by
  refine ⟨flag_of_fld_one ?_, fld_setFld_same _ _ _ (by decide), by simp⟩
  refine (fld_setFld_apart _ _ _ _ (.inl ⟨by rw [hf]; decide, .inl (by decide), .inl h32⟩)).trans (raise_fld d f h32 hw (by rw [hf]; exact not_chanCount (by decide)))

/-- A yield row that came after its row is counted, and its entries are thrown away. -/
theorem yieldLate_fields (d : Dev) :
    let e := ((d.bump R.BLV_REC_CNT_YIELD_DISCARD_CNT).raise R.BLV_REC_EVENTS_YIELD_DISCARD).setFld R.BLV_REC_LAST_ERR 0x9005
    e.flag R.BLV_REC_EVENTS_YIELD_DISCARD = true ∧ e.fld R.BLV_REC_LAST_ERR = 0x9005 ∧
      e.fld R.BLV_REC_CNT_YIELD_DISCARD_CNT = min (d.fld R.BLV_REC_CNT_YIELD_DISCARD_CNT + 1) 65535 ∧ e.blob = d.blob := by
  intro e
  obtain ⟨hevent, hcode, hblob⟩ := recErr_fields (d.bump R.BLV_REC_CNT_YIELD_DISCARD_CNT) R.BLV_REC_EVENTS_YIELD_DISCARD 0x9005 rfl (by decide) rfl
  refine ⟨hevent, hcode, ?_, hblob.trans (Dev.setFld_blob ..)⟩
  exact (fld_setFld_apart _ R.BLV_REC_LAST_ERR _ _ (by decide)).trans ((raise_fld_apart _ _ _ (by decide) (by decide)).trans (fld_bump_same d _ (by decide)))

/-! ### The packets' commands -/

/-- A packet that its port hands on does what its type says. -/
theorem exec_packet {s : State} {c : Instr} {k t : Nat} {p : RxPacket} {act : Dev → Dev} {x : Dev} (hc : exec c s = s.run fun d => d.packet k t p act)
    (hm : s.dev.mode ≠ .reset) (hx : s.start.rxPacket k t p = (x, true)) : exec c s = .next (s.after (act x)) :=
  exec_run_eq hc hm (by simp only [Dev.packet, hx, if_true])

/-- Settles O57: the commands hand their packets to the operations, and each operation has the cases of its rule. -/
theorem seamPackets : Obligations.SeamPackets := by
  unfold Obligations.SeamPackets
  constructor
  · intro s side p x hm k
    refine ⟨fun h => ?_, fun h => ?_, fun h => ?_, fun h => ?_, fun h => ?_, fun h => ?_, fun h => ?_, fun h => ?_, fun h => ?_, fun u us hu => ?replay, ?_, fun w ws hw => ?_⟩
    · exact (exec_packet (exec_capReceive s side p) hm h :)
    · exact (exec_packet (exec_ackReceive s side p) hm h :)
    · exact (exec_packet (exec_linkinfoReceive s side p) hm h :)
    · exact (exec_packet (exec_syncReceive s side p) hm h :)
    · exact (exec_packet (exec_syncReqReceive s side p) hm h :)
    · exact (exec_packet (exec_commitReceive s side p) hm h :)
    · exact (exec_packet (exec_commitResultReceive s side p) hm h :)
    · exact (exec_packet (exec_borderReceive s side p) hm h :)
    · exact (exec_packet (exec_yieldReceive s side p) hm h :)
    case replay =>
      have hexec : ∀ {y : Dev}, (s.start.advance (u.2 + usCycles 20)).replay k = y → exec (.replayTimeout side) s = .next (s.after y) := fun h =>
        exec_run_eq (exec_replayTimeout s side) hm ((replayTimeout_cons side.isLt hu).trans h)
      exact ⟨fun hforce => hexec (replay_dozing hforce), fun hforce hsent hr => hexec (replay_again hsent hforce hr), fun hforce hsent hr => hexec (replay_fails hsent hforce hr)⟩
    · exact exec_run_eq (exec_linkinfoTimer s) hm rfl
    · exact exec_run_eq (exec_cascadeCommitTimeout s) hm (cascadeTimeout_cons hw)
  · intro d side bs k
    have hk : k < 2 := side.isLt
    refine ⟨?cap, ?held, ?up, fun n h => ackReceive_ack n h, fun n => ackReceive_nak d k n, ?replay, ?again, fun hops h => linkinfoReceive_malformed h, ?linkinfo,
      fun p hruns hslave => linkinfoTake_starts hruns hslave, ?master, ?slave, ?sync, ?commit, ?result, ?border, ?yield⟩
    case cap =>
      obtain ⟨i, master, hcap⟩ := capReceive_eq d k bs
      have hst : (d.capNoted k bs i master).stage k = d.stage k := capNoted_stage d bs i master hk
      rw [hcap, ← hst]
      exact ⟨_, capChecked_early, capChecked_agrees, fun h _ hc => capChecked_refused h hc, fun h _ hc => capChecked_up h hc, capNoted_seamPort d bs i master,
        capNoted_partner d bs i master hk⟩
    case held => exact capAccept_held
    case up =>
      intro hst hfree
      obtain ⟨hstage, hclear, hevent⟩ := seamUp_fields d hk
      exact ⟨d.seamUp k, capAccept_up hst hfree, hstage, hclear, hevent, seamUp_lastSent d k⟩
    case replay => exact fun hsent hforce => ⟨replay_fails hsent hforce, replay_again hsent hforce⟩
    case again => exact fun hsent => ⟨d.replayNoted k, replayAll_eq hsent, replayNoted_fields d k⟩
    case linkinfo => exact fun hops h hhops ho => ⟨_, linkinfoReceive_forwarded h hhops, deviceNoted_entry d _ _ _ _ ho⟩
    case master => exact fun h => ⟨syncReceive_master bs h, syncReqReceive_master bs h⟩
    case slave => exact fun h => ⟨syncReqReceive_slave bs h, syncReceive_slave bs h⟩
    case sync => exact ⟨by rw [setSync_prf], setSync_row d _, by rw [setSync_prf], setSync_late⟩
    case commit => exact ⟨commitReceive_idle bs, commitReceive_passed, fun h hn hr => ⟨_, commitReceive_kept h hn hr, rfl⟩⟩
    case result => exact fun h => ⟨_, commitResult_noWaits bs h, rfl, rfl⟩
    case border =>
      intro b
      refine ⟨fun h => ⟨_, borderReceive_late k h, recErr_fields d R.BLV_REC_EVENTS_SEAM_LATE 0x9004 rfl (by decide) rfl⟩, fun h hwork => ?_⟩
      rw [borderReceive_kept k h hwork, borders_setBorders_same]
    case yield =>
      intro dev y
      exact ⟨fun h => ⟨_, yieldReceive_late dev h, yieldLate_fields d⟩, yieldReceive_kept⟩

end Sys2Proof.Machine
end

section
/-!
SUPPORT. The chain of a role (chapter 06): what reading windows and tracking leave alone, the row that is handed on (R218), the rows that are skipped (R222), and
the statement O29.
-/
namespace Sys2Proof.Machine

/-! ### Reading and tracking (R213, R217, R218) -/

@[simp] theorem chain_setChain_same (d : Dev) (r : Nat) (c : Chain) : (d.setChain r c).chain r = c := tget_tset_same ..

/-- Parts with the same table of chains have the same chain for each role. -/
theorem chain_congr {d d' : Dev} (h : d'.chains = d.chains) (r : Nat) : d'.chain r = d.chain r := by rw [Dev.chain, h, Dev.chain]

/-- What effects leave alone one by one they leave alone together. -/
theorem foldl_unchanged {α β : Type} (g : Dev → β) {f : Dev → α → Dev} (h : ∀ d x, g (f d x) = g d) (xs : List α) (d : Dev) : g (xs.foldl f d) = g d :=
  List.foldlRecOn xs f (motive := fun e => g e = g d) rfl fun e he x _ => (h e x).trans he

@[simp] theorem bump_windows (d : Dev) (f : Fld) (n : Nat) : (d.bump f n).windows = d.windows := Dev.setFld_windows ..
@[simp] theorem bump_chains (d : Dev) (f : Fld) (n : Nat) : (d.bump f n).chains = d.chains := Dev.setFld_chains ..
@[simp] theorem bump_handed (d : Dev) (f : Fld) (n : Nat) : (d.bump f n).handed = d.handed := Dev.setFld_handed ..

/-- A tracked edge shows in registers alone (R215). -/
@[simp] theorem edgeReport_handed (d : Dev) (r l : Nat) (pos case_ : Nat → Fld) (old new : Option SegEdge) (reacq rejected : Bool) :
    (d.edgeReport r l pos case_ old new reacq rejected).handed = d.handed := by
  refine foldl_unchanged Dev.handed (fun d n => ?_) _ d
  cases new with
  | none => simp
  | some e => cases rejected <;> simp [Dev.setFldI]

@[simp] theorem trackRow_handed (d : Dev) (r k : Nat) : (d.trackRow r k).handed = d.handed := by
  unfold Dev.trackRow
  rw [edgeReport_handed, edgeReport_handed, Dev.setChain]

@[simp] theorem trackRows_handed (r n : Nat) (d : Dev) : (d.trackRows r n).handed = d.handed := by
  induction n generalizing d with
  | zero => rfl
  | succ n ih =>
    unfold Dev.trackRows
    dsimp only
    split
    · split_ifs
      · exact (ih _).trans (trackRow_handed ..)
      · rfl
    · rfl

@[simp] theorem trackAll_handed (d : Dev) (r : Nat) : (d.trackAll r).handed = d.handed := trackRows_handed ..

theorem segRead_handed {d y : Dev} {r upTo : Nat} (h : d.segRead r upTo = some y) : y.handed = d.handed := by
  unfold Dev.segRead at h
  dsimp only at h
  split at h
  · cases h
  · split_ifs at h <;> cases h
    · rfl
    all_goals exact trackAll_handed ..

theorem segReadTo_handed (r upTo n : Nat) (d : Dev) : (d.segReadTo r upTo n).handed = d.handed := by
  induction n generalizing d with
  | zero => rfl
  | succ n ih =>
    have hnext : (match d.segRead r upTo with | some d => d.segReadTo r upTo n | none => d).handed = d.handed := by
      cases hd : d.segRead r upTo with
      | none => rfl
      | some y => exact (ih y).trans (segRead_handed hd)
    unfold Dev.segReadTo
    split
    · split
      · rfl
      · exact hnext
    · exact hnext

/-- A chain that reads on hands nothing on. -/
theorem segFeed_handed (d : Dev) (r : Nat) : (d.segFeed r).1.handed = d.handed := by
  unfold Dev.segFeed
  dsimp only
  rw [trackAll_handed, segReadTo_handed, segReadTo_handed, Dev.setChain]

/-! ### The row that is handed on (R218) -/

theorem handRow_line {d : Dev} {r l : Nat} {h : HandRow} (hrow : d.handRow r l = some h) : h.line = l := by
  unfold Dev.handRow at hrow
  dsimp only at hrow
  split at hrow
  · cases hrow
  · cases hrow; rfl

/-- The part with a chain at its next row, and the last row shown in the registers of the stripes. -/
def Dev.rowShown (d : Dev) (r : Nat) (c : Chain) (ns : List Nat) (l : Nat) (event : Bool) : Dev :=
  ns.foldl (fun d n => (d.setFld (R.STR_SEG_LAST_ROW n) l).raiseIf event (R.STR_SEG_EVENTS_RESTART n)) (d.setChain r c)

theorem rowShown_handed (d : Dev) (r : Nat) (c : Chain) (ns : List Nat) (l : Nat) (event : Bool) : (d.rowShown r c ns l event).handed = d.handed :=
  foldl_unchanged Dev.handed (fun d n => by simp) ns _

theorem rowShown_chain (d : Dev) (r : Nat) (c : Chain) (ns : List Nat) (l : Nat) (event : Bool) : (d.rowShown r c ns l event).chain r = c :=
  (chain_congr (foldl_unchanged Dev.chains (fun d n => by simp) ns _) r).trans (chain_setChain_same ..)

theorem segHand_handed (d : Dev) (r : Nat) (ns : List Nat) (h : HandRow) : (d.segHand r ns h).handed = tupd [] d.handed r fun hs => hs ++ [h] :=
  congrArg (fun t => tupd [] t r fun hs => hs ++ [h]) (rowShown_handed d r _ ns h.line (d.chain r).event)

theorem segHand_chain (d : Dev) (r : Nat) (ns : List Nat) (h : HandRow) :
    ∃ c : Chain, (d.segHand r ns h).chain r = c ∧ c.next = (d.chain r).next + 1 ∧ c.restart = false :=
  ⟨_, rowShown_chain d r _ ns h.line (d.chain r).event, rfl, rfl⟩

/-- A row is handed on by the chain that has read on, and it is the chain's next row. -/
theorem segRow_some {d x : Dev} {r : Nat} {h : HandRow} (hrow : d.segRow r = (x, some h)) :
    let y := (d.segFeed r).1
    x = y.segHand r (d.segStripes r (y.chain r).next) h ∧ h.line = (y.chain r).next := by
  unfold Dev.segRow at hrow
  dsimp only at hrow
  split at hrow
  · cases hrow
  · split at hrow
    next => cases hrow
    next hhand =>
      cases hrow
      exact ⟨rfl, handRow_line hhand⟩

theorem segRow_fields {d x : Dev} {r : Nat} {h : HandRow} (hrow : d.segRow r = (x, some h)) :
    tget [] x.handed r = tget [] d.handed r ++ [h] ∧ (x.chain r).next = h.line + 1 ∧ (x.chain r).restart = false := by
  obtain ⟨rfl, hline⟩ := segRow_some hrow
  obtain ⟨c, hchain, hnext, hrestart⟩ := segHand_chain (d.segFeed r).1 r (d.segStripes r ((d.segFeed r).1.chain r).next) h
  rw [hchain, hline, segHand_handed, segFeed_handed]
  exact ⟨tget_tset_same .., hnext, hrestart⟩

theorem segRowOut_some {d x : Dev} {r : Nat} {h : HandRow} (hrow : d.segRow r = (x, some h)) : d.segRowOut r = x.labelNext := by
  rw [Dev.segRowOut, hrow]

/-! ### The rows that are skipped (R222) -/

theorem switch_next (c : Chain) : c.switch.next = c.next := by
  unfold Chain.switch
  split
  · dsimp only
    split <;> rfl
  · rfl

/-- The chain that restarts after row `l`, with the settings of that row. -/
def Chain.skipped (c : Chain) (l : Nat) : Chain :=
  { ({ c with next := l + 1 } : Chain).switch with l0 := some (l + 1), rows := [], track := [], trackNext := l + 1, restart := true }

theorem skipped_next (c : Chain) (l : Nat) : (c.skipped l).next = l + 1 := switch_next { c with next := l + 1 }

/-- The part whose chain restarts after row `l`: the windows of a role up to the row are gone, and none of them is to be released. -/
def Dev.rowsDropped (d : Dev) (r l : Nat) : Dev :=
  let y := d.setChain r ((d.chain r).skipped l)
  { y with windows := tupd [] y.windows r fun ws => ws.filter fun w => l < w.line, blv := { y.blv with nextWin := tset 0 y.blv.nextWin r (max (tget 0 y.blv.nextWin r) (l + 1)) } }

theorem rowsDropped_chain (d : Dev) (r l : Nat) : (d.rowsDropped r l).chain r = (d.chain r).skipped l := chain_setChain_same ..

theorem rowsDropped_windows (d : Dev) (r l : Nat) : ∀ w ∈ tget [] (d.rowsDropped r l).windows r, l < w.line := by
  intro w hw
  have hkept : tget [] (d.rowsDropped r l).windows r = (tget [] d.windows r).filter fun w => l < w.line := tget_tset_same ..
  rw [hkept] at hw
  exact of_decide_eq_true (List.mem_filter.mp hw).2

/-- The stripes count the skipped rows and report the skip. -/
def Dev.skipShown (d : Dev) (ns : List Nat) (n : Nat) : Dev :=
  ns.foldl (fun d s => (d.bump (R.STR_SEG_CNT_SKIP_ROWS s) n).raise (R.STR_SEG_EVENTS_SKIP s)) d

theorem skipShown_chains (d : Dev) (ns : List Nat) (n : Nat) : (d.skipShown ns n).chains = d.chains := foldl_unchanged Dev.chains (fun d s => by simp) ns d
theorem skipShown_windows (d : Dev) (ns : List Nat) (n : Nat) : (d.skipShown ns n).windows = d.windows := foldl_unchanged Dev.windows (fun d s => by simp) ns d

/-- The part once rows `f` to `l` of a role are skipped. -/
def Dev.rowsSkipped (d : Dev) (r f l : Nat) : Dev :=
  let y := d.rowsDropped r l
  (y.skipShown (y.segStripes r f) (l + 1 - f)).setFld R.BLV_REC_LAST_ERR 0x9008

theorem rowsSkipped_fields (d : Dev) (r f l : Nat) :
    let x := d.rowsSkipped r f l
    (x.chain r).next = l + 1 ∧ (x.chain r).rows = [] ∧ (x.chain r).restart = true ∧ (∀ w ∈ tget [] x.windows r, l < w.line) ∧ x.fld R.BLV_REC_LAST_ERR = 0x9008 := by
  intro x
  have hchain : x.chain r = (d.chain r).skipped l :=
    (chain_congr ((Dev.setFld_chains ..).trans (skipShown_chains ..)) r).trans (rowsDropped_chain d r l)
  have hwindows : x.windows = (d.rowsDropped r l).windows := (Dev.setFld_windows ..).trans (skipShown_windows ..)
  rw [hchain, hwindows]
  exact ⟨skipped_next .., rfl, rfl, rowsDropped_windows d r l, fld_setFld_same _ R.BLV_REC_LAST_ERR 0x9008 (by decide)⟩

/-- The first row that a chain has not handed on: its next one, or the next of its windows while it has none. -/
def Dev.firstUnhanded (d : Dev) (r : Nat) : Nat := if (d.chain r).l0.isSome then (d.chain r).next else tget 0 d.blv.nextWin r

theorem segSkip_eq (d : Dev) (r : Nat) :
    let l := d.blv.head - (d.chain r).ver.resume
    d.segSkip r = if d.segBacklog r ≤ (d.chain r).ver.lagMax then (d, none) else
      if l < d.firstUnhanded r then (d, none) else (d.rowsSkipped r (d.firstUnhanded r) l, some (d.firstUnhanded r, l)) := rfl

/-- A chain skips only when its backlog is too large, and to a row that it has not handed on. -/
theorem segSkip_some {d x : Dev} {r f l : Nat} (hskip : d.segSkip r = (x, some (f, l))) :
    (d.chain r).ver.lagMax < d.segBacklog r ∧ l = d.blv.head - (d.chain r).ver.resume ∧ f ≤ l ∧ x = d.rowsSkipped r f l := by
  rw [segSkip_eq] at hskip
  split_ifs at hskip with hlag hfirst
  · cases hskip
  · cases hskip
  · cases hskip
    exact ⟨Nat.lt_of_not_le hlag, rfl, Nat.le_of_not_lt hfirst, rfl⟩

theorem segSkipOut_some {d x : Dev} {r f l : Nat} (hskip : d.segSkip r = (x, some (f, l))) : d.segSkipOut r = x.skipNotice r f l := by
  rw [Dev.segSkipOut, hskip]

/-! ### The statement -/

/-- Settles O29: a row that is handed on by `segRow_fields`, and a skip by its backlog and by `rowsSkipped_fields`. -/
theorem segmentationRows : Obligations.SegmentationRows := by
  unfold Obligations.SegmentationRows
  intro s r hm
  constructor
  · intro x h hrow
    exact ⟨exec_run_eq (exec_segRow s r) hm (segRowOut_some hrow), (segRow_fields hrow :)⟩
  · intro x f l hskip
    obtain ⟨hlag, hlast, hfirst, rfl⟩ := segSkip_some hskip
    exact ⟨exec_run_eq (exec_segSkip s r) hm (segSkipOut_some hskip), hlag, hlast, hfirst, rowsSkipped_fields ..⟩

end Sys2Proof.Machine
end

section
/-!
SUPPORT. Rows that make their records (chapter 07): what a record leaves alone of the blob units and of MERGE_USED, the end of a row (R232, R233), a labelled row
that goes on with or without what it waits for (R234, R237), and the statement O30.
-/
namespace Sys2Proof.Machine

/-! ### What a record leaves alone (R254 to R256) -/

/-- What the end of a row settles and the records after it keep: the blob units, and the count that MERGE_USED shows. -/
def Dev.mergeShown (d : Dev) : BlobState × Nat := (d.blob, d.fld R.BLV_REC_STATUS_MERGE_USED)

theorem setFld_mergeShown (d : Dev) (f : Fld) (v : Nat) (h : f.apart R.BLV_REC_STATUS_MERGE_USED) : (d.setFld f v).mergeShown = d.mergeShown :=
  Prod.ext (Dev.setFld_blob ..) (fld_setFld_apart d f _ v h)

theorem raise_mergeShown (d : Dev) (f : Fld) (h : f.apart R.BLV_REC_STATUS_MERGE_USED) : (d.raise f).mergeShown = d.mergeShown :=
  Prod.ext (Dev.raise_blob ..) (raise_fld_apart d f _ h (by decide))

theorem fire_mergeShown (d : Dev) (p : Nat) : (d.fire p).mergeShown = d.mergeShown :=
  Prod.ext (Dev.fire_blob ..) (fire_fld d p .pulse 0 false _ (by decide) (by decide))

theorem takeRseq_mergeShown (d : Dev) (n : Nat) : (d.takeRseq n).mergeShown = d.mergeShown :=
  setFld_mergeShown _ R.BLV_REC_RSEQ n (by decide)

theorem fifoLevel_mergeShown (d : Dev) : d.fifoLevel.mergeShown = d.mergeShown := by
  have hlevel := setFld_mergeShown d R.BLV_REC_FIFO_LEVEL d.recs.fifo.length (by decide)
  unfold Dev.fifoLevel
  dsimp only
  split
  · exact (setFld_mergeShown _ R.BLV_REC_FIFO_PEAK _ (by decide)).trans hlevel
  · exact hlevel

theorem fifoPut_mergeShown (d : Dev) (r : Rec) : (d.fifoPut r).mergeShown = d.mergeShown := by
  have hlevel := fifoLevel_mergeShown { d with recs := { d.recs with fifo := d.recs.fifo ++ [r] } }
  unfold Dev.fifoPut
  dsimp only
  split
  · exact (fire_mergeShown ..).trans hlevel
  · exact hlevel

theorem recDrop_mergeShown (d : Dev) (reason : Nat) (r : Rec) : (d.recDrop reason r).mergeShown = d.mergeShown :=
  (raise_mergeShown _ R.BLV_REC_EVENTS_RECORD_DROP (by decide)).trans
    ((setFld_mergeShown _ R.BLV_REC_LAST_ERR _ (by decide)).trans (setFld_mergeShown _ R.BLV_REC_LOST_TOTAL _ (by decide)))

theorem lostFlush_mergeShown (d : Dev) : d.lostFlush.mergeShown = d.mergeShown := by
  unfold Dev.lostFlush
  split
  · rfl
  · split
    · rfl
    · exact (fifoPut_mergeShown ..).trans (takeRseq_mergeShown ..)

theorem create_mergeShown (d : Dev) (b : RecBody) (role line : Option Nat) : (d.create b role line).mergeShown = d.mergeShown := by
  rw [← lostFlush_mergeShown d]
  unfold Dev.create
  dsimp only
  split
  · rfl
  · split
    · exact (recDrop_mergeShown ..).trans (takeRseq_mergeShown ..)
    · exact (fifoPut_mergeShown ..).trans (takeRseq_mergeShown ..)

theorem heartbeat_mergeShown (d : Dev) : d.heartbeat.mergeShown = d.mergeShown := create_mergeShown ..

/-- The HEARTBEAT records that waited for a row change nothing of what its end has settled (R254). -/
theorem hbFlush_mergeShown (d : Dev) : d.hbFlush.mergeShown = d.mergeShown :=
  foldl_unchanged Dev.mergeShown (fun d _ => heartbeat_mergeShown d) _ _

/-! ### The end of a row (R232, R233) -/

theorem rowEnd_fields (d : Dev) (w : RowWork) (ice : List Frag) (stays : Defect → Bool) :
    let x := d.rowEnd w ice stays
    x.blob.work = none ∧ x.blob.nextRow = w.line + 1 ∧ (∀ y ∈ x.blob.yields, w.line < y.line) ∧
      x.fld R.BLV_REC_STATUS_MERGE_USED = (x.blob.frags.filter (·.entry)).length % 2 ^ 15 := by
  simp only [Dev.rowEnd, Dev.setBlob, Dev.setFld_blob]
  exact ⟨trivial, trivial, fun y hy => of_decide_eq_true (List.mem_filter.mp hy).2, fld_setFld_same _ R.BLV_REC_STATUS_MERGE_USED _ (by decide)⟩

/-- Whatever records a row makes, its end comes after them, and the HEARTBEAT records that wait for the row come last (R254). -/
theorem recordRow_ends (d : Dev) (w : RowWork) : ∃ (e : Dev) (ice : List Frag) (stays : Defect → Bool) (firsts : List Defect) (closed : List (Nat × Nat)),
    d.recordRow w = ((e.rowEnd w ice stays).hbFlush, { line := w.line, firsts := firsts, closed := closed }) := by
  unfold Dev.recordRow
  extract_lets
  -- the yields, the absorbed defects
  split
  split
  extract_lets
  -- the first records, the records of absorbed defects
  split
  split
  extract_lets
  -- the defects that close
  split
  exact ⟨_, _, _, _, _, rfl⟩

theorem recordRow_fields (d : Dev) (w : RowWork) :
    let x := d.recordRow w
    x.1.blob.work = none ∧ x.1.blob.nextRow = w.line + 1 ∧ x.2.line = w.line ∧ (∀ y ∈ x.1.blob.yields, w.line < y.line) ∧
      x.1.fld R.BLV_REC_STATUS_MERGE_USED = (x.1.blob.frags.filter (·.entry)).length % 2 ^ 15 := by
  obtain ⟨e, ice, stays, firsts, closed, hrow⟩ := recordRow_ends d w
  obtain ⟨hblob, hused⟩ := Prod.mk.inj (hbFlush_mergeShown (e.rowEnd w ice stays))
  obtain ⟨hwork, hnext, hyields, hcount⟩ := rowEnd_fields e w ice stays
  simp only [hrow, hblob, hused]
  exact ⟨hwork, hnext, trivial, hyields, hcount⟩

/-! ### A labelled row goes on (R234, R237) -/

/-- A defect of this device that waits for the yield of a partner holding a part of it. -/
def Dev.yieldMissing (d : Dev) (w : RowWork) (x : Defect) : Bool :=
  x.own && decide (x.ident ≠ 0) && x.holders.any fun h => !(d.blob.yields.any fun y => decide (y.line = w.line) && decide (y.device = h) && y.last)

/-- The part once the yields of a row have been waited for in vain: the defects that lack one are marked, and the event is raised. -/
def Dev.yieldsLate (d : Dev) (w : RowWork) : Dev :=
  (d.setBlob fun b => { b with defects := b.defects.map fun x => if d.yieldMissing w x then { x with flags := x.flags ||| fSeamPartial } else x }).raise
    R.BLV_REC_EVENTS_SEAM_PARTIAL

theorem yieldsLate_event (d : Dev) (w : RowWork) : (d.yieldsLate w).fld R.BLV_REC_EVENTS_SEAM_PARTIAL = 1 :=
  raise_fld _ _ (by decide) rfl (not_chanCount (by decide))

/-- A joined row makes its records when its yields are there, or without them once they have been waited for. -/
theorem progressRow_joined {d : Dev} {w : RowWork} {t : Nat} (hw : d.blob.work = some w) (ht : w.joinedAt = some t) (borderUp yieldUp : Bool) :
    d.progressRow borderUp yieldUp = if d.yieldsIn w then d.recordRow w else if yieldUp then (d.yieldsLate w).recordRow w else (d, {}) := by
  simp only [Dev.progressRow, hw, ht, Option.isSome_some, Option.isNone_some, true_or, if_true, Bool.false_eq_true, if_false]
  rfl

theorem labelNext_waits {d : Dev} (h : d.labelReady = false) : d.labelNext = d := if_pos (by rw [h]; rfl)

/-- A joined row whose yields are there makes its records (R233). -/
theorem rowResolve_joined {d : Dev} {w : RowWork} {t : Nat} (hw : d.blob.work = some w) (ht : w.joinedAt = some t) (hlabel : d.labelReady = false)
    (hyields : d.yieldsIn w = true) : d.rowResolve = ((d.recordRow w).1.labelNext, (d.recordRow w).2) := by
  have hrow : d.labelNext.progressRow false false = d.recordRow w := by
    rw [labelNext_waits hlabel, progressRow_joined hw ht, if_pos hyields]
  rw [Dev.rowResolve, hrow]

/-- SEAM_WAIT after a row was ready it goes on without the borders that have not come (R234). -/
theorem seamWaitExpiry_alone {d : Dev} {w : RowWork} (hw : d.blob.work = some w) (ht : w.joinedAt = none) (hborders : d.bordersIn w.line = false) :
    let x := (d.advance (w.readyAt + d.seamWait w.line)).progressRow true false
    d.seamWaitExpiry = (x.1.labelNext, x.2) := by
  simp only [Dev.seamWaitExpiry, hw, ht, hborders, Option.isSome_none, Bool.false_eq_true, or_self, if_false]

/-- SEAM_WAIT after the joining of a row it goes on without the yields that have not come (R237). -/
theorem yieldWaitExpiry_alone {d : Dev} {w : RowWork} {t : Nat} (hw : d.blob.work = some w) (ht : w.joinedAt = some t) (hyields : d.yieldsIn w = false) :
    let x := (d.advance (t + d.seamWait w.line)).progressRow false true
    d.yieldWaitExpiry = (x.1.labelNext, x.2) := by
  simp only [Dev.yieldWaitExpiry, hw, ht, hyields, Bool.false_eq_true, if_false]

/-! ### The statement -/

/-- Settles O30: the three commands by what lets a labelled row go on, the records by `recordRow_fields`, and the yields not waited for by
`progressRow_joined`. -/
theorem rowRecords : Obligations.RowRecords := by
  unfold Obligations.RowRecords
  refine ⟨fun s w hm hw => ⟨fun t ht hlabel hyields => ?resolve, fun ht hborders => ?seam, fun t ht hyields => ?yield⟩, recordRow_fields,
    fun d w t hw ht hyields => ?late⟩
  case resolve => exact exec_run_eq (exec_rowResolve s) hm (congrArg Dev.rowDone (rowResolve_joined hw ht hlabel hyields))
  case seam => exact exec_run_eq (exec_seamWaitExpiry s) hm (congrArg Dev.rowDone (seamWaitExpiry_alone hw ht hborders))
  case yield => exact exec_run_eq (exec_yieldWaitExpiry s) hm (congrArg Dev.rowDone (yieldWaitExpiry_alone hw ht hyields))
  case late =>
    refine ⟨d.yieldsLate w, ?_, yieldsLate_event d w⟩
    rw [progressRow_joined hw ht, if_neg (by rw [hyields]; decide), if_pos rfl]

end Sys2Proof.Machine
end

section
/-!
SUPPORT. The classifier's registers and banks (chapter 08): a code in LAST_ERR with its event, a bank that fails, the loading of models, and the statement O36.
-/
namespace Sys2Proof.Machine

/-! ### Codes and bank states (R275) -/

/-- An event of the classifier. -/
abbrev Fld.dcaEvent (f : Fld) : Prop := f.addr = R.DCA_EVENTS.addr ∧ f.lo < 32 ∧ f.w = 1

theorem dcaEvent_set (d : Dev) {f : Fld} (hf : f.dcaEvent) : (d.raise f).fld f = 1 := by
  obtain ⟨haddr, hlo, hw⟩ := hf
  exact raise_fld d f (by omega) hw (haddr ▸ not_chanCount (by decide))

/-- Raising an event of the classifier leaves the fields of its other words alone. -/
theorem dcaEvent_other (d : Dev) {f g : Fld} (hf : f.dcaEvent) (hg : g.addr ≠ R.DCA_EVENTS.addr ∧ g.lo + g.w ≤ 32) (hoff : g.offChan) :
    (d.raise f).fld g = d.fld g := by
  obtain ⟨haddr, hlo, hw⟩ := hf
  exact raise_fld_apart d f g (.inl ⟨haddr ▸ hg.1, .inl (by omega), .inl hg.2⟩) hoff

/-- A code is shown and its event is raised. -/
def Dev.dcaErr (d : Dev) (code : Nat) (f : Fld) : Dev := (d.setFld R.DCA_LAST_ERR code).raise f

theorem dcaErr_code (d : Dev) (code : Nat) {f : Fld} (hf : f.dcaEvent) : (d.dcaErr code f).fld R.DCA_LAST_ERR = code % 65536 :=
  (dcaEvent_other _ hf (by decide) (by decide)).trans (fld_setFld_same d _ code (by decide))

theorem dcaErr_event (d : Dev) (code : Nat) {f : Fld} (hf : f.dcaEvent) : (d.dcaErr code f).fld f = 1 := dcaEvent_set _ hf

@[simp] theorem dcaErr_dca (d : Dev) (code : Nat) (f : Fld) : (d.dcaErr code f).dca = d.dca := by simp [Dev.dcaErr]

/-- Both bank states are fields of STATUS. -/
theorem bankState_addr (k : Nat) : (bankState k).addr = 0x0600800 := by
  unfold bankState
  split <;> rfl

theorem bankState_width (k : Nat) : (bankState k).w = 3 := by
  unfold bankState
  split <;> rfl

theorem bankState_fits (k : Nat) : (bankState k).lo + (bankState k).w ≤ 32 := by
  unfold bankState
  split <;> decide

/-- A bank shows the state that is stored. -/
theorem bankState_set (d : Dev) (k : Nat) {v : Nat} (hv : v < 8) : (d.setFld (bankState k) v).fld (bankState k) = v := by
  rw [fld_setFld_same _ _ _ (by have := bankState_fits k; omega), bankState_width]
  exact Nat.mod_eq_of_lt hv

theorem bankState_raise (d : Dev) (k : Nat) {f : Fld} (hf : f.dcaEvent) : (d.raise f).fld (bankState k) = d.fld (bankState k) :=
  dcaEvent_other d hf ⟨by rw [bankState_addr]; decide, bankState_fits k⟩ (.inr (by rw [bankState_addr]; decide))

theorem bankState_dcaErr (d : Dev) (k code : Nat) {f : Fld} (hf : f.dcaEvent) : (d.dcaErr code f).fld (bankState k) = d.fld (bankState k) :=
  (bankState_raise _ k hf).trans
    (fld_setFld_apart d _ _ code (.inl ⟨by rw [bankState_addr]; decide, .inl (by decide), .inl (bankState_fits k)⟩))

/-- Parts with the same classifier hold the same models. -/
theorem bankModel_congr {d d' : Dev} (h : d'.dca = d.dca) (k : Nat) : d'.bankModel k = d.bankModel k := by rw [Dev.bankModel, h, Dev.bankModel]

theorem bankClear_model (d : Dev) (k st : Nat) : (d.bankClear k st).bankModel k = none :=
  (bankModel_congr (Dev.setFld_dca ..) k).trans (tget_tset_same ..)

/-- A bank fails with a code and an event (R275, R280). -/
def Dev.bankFails (d : Dev) (k code : Nat) (f : Fld) : Dev := (d.bankClear k bankFailed).dcaErr code f

theorem bankFails_fields (d : Dev) (k code : Nat) {f : Fld} (hf : f.dcaEvent) :
    let x := d.bankFails k code f
    x.fld (bankState k) = bankFailed ∧ x.bankModel k = none ∧ x.fld f = 1 ∧ x.fld R.DCA_LAST_ERR = code % 65536 :=
  ⟨(bankState_dcaErr _ k code hf).trans (bankState_set _ k (by decide)), (bankModel_congr (dcaErr_dca ..) k).trans (bankClear_model ..),
    dcaErr_event _ code hf, dcaErr_code _ code hf⟩

/-! ### A model in a bank (R275) -/

/-- What the filling of a bank leaves in the classifier, and the ID that it shows. -/
theorem bankFill_dca (d : Dev) (k : Nat) (m : DcaModel) : (d.bankFill k m).dca = { d.dca with models := tset none d.dca.models k (some m) } := by
  simp [Dev.bankFill]

theorem bankFill_id (d : Dev) (k : Nat) (m : DcaModel) : (d.bankFill k m).fld (R.DCA_BANK_ID k) = m.id % 2 ^ 32 := by
  have hshape : ∀ (x : Dev) (lo w v : Nat), lo + w ≤ 32 →
      (x.setFld ⟨0x0600904 + k * 0x10, lo, w⟩ v).fld (R.DCA_BANK_ID k) = x.fld (R.DCA_BANK_ID k) := fun x lo w v h =>
    fld_setFld_apart x _ _ v (.inl ⟨by dsimp only [R.DCA_BANK_ID]; omega, .inl h, .inl (Nat.le_refl 32)⟩)
  have hops : ∀ (x : Dev) (v : Nat), (x.setFld (R.DCA_BANK_OPS k) v).fld (R.DCA_BANK_ID k) = x.fld (R.DCA_BANK_ID k) := fun x v =>
    fld_setFld_apart x _ _ v (.inl ⟨by dsimp only [R.DCA_BANK_ID, R.DCA_BANK_OPS]; omega, .inl (Nat.le_refl 32), .inl (Nat.le_refl 32)⟩)
  unfold Dev.bankFill
  dsimp only [R.DCA_BANK_SHAPE_IN_W, R.DCA_BANK_SHAPE_IN_H, R.DCA_BANK_SHAPE_CLASSES]
  rw [hshape _ 20 11 _ (by decide), hshape _ 10 10 _ (by decide), hshape _ 0 10 _ (by decide), hops]
  exact fld_setFld_same _ (R.DCA_BANK_ID k) m.id (by dsimp only [R.DCA_BANK_ID]; decide)

/-- The part once a bank is READY with a model. -/
def Dev.bankLoaded (d : Dev) (k : Nat) (m : DcaModel) : Dev := ((d.bankFill k m).setFld (bankState k) bankReady).raise R.DCA_EVENTS_LOAD_DONE

theorem bankLoaded_dca (d : Dev) (k : Nat) (m : DcaModel) : (d.bankLoaded k m).dca = { d.dca with models := tset none d.dca.models k (some m) } := by
  rw [Dev.bankLoaded, Dev.raise_dca, Dev.setFld_dca, bankFill_dca]

theorem bankLoaded_fields (d : Dev) {k : Nat} (m : DcaModel) (hk : k < 2) :
    let x := d.bankLoaded k m
    x.fld (bankState k) = bankReady ∧ x.bankModel k = some m ∧ x.fld R.DCA_EVENTS_LOAD_DONE = 1 ∧ x.fld (R.DCA_BANK_ID k) = m.id % 2 ^ 32 := by
  have hid : (R.DCA_BANK_ID k).addr ≠ (bankState k).addr := by rw [bankState_addr]; dsimp only [R.DCA_BANK_ID]; omega
  have hev : (R.DCA_BANK_ID k).addr ≠ R.DCA_EVENTS.addr := by dsimp only [R.DCA_BANK_ID, R.DCA_EVENTS]; omega
  refine ⟨?state, ?model, dcaEvent_set _ (by decide), ?ident⟩
  case state => exact (bankState_raise _ k (by decide)).trans (bankState_set _ k (by decide))
  case model =>
    rw [Dev.bankModel, bankLoaded_dca]
    exact tget_tset_same ..
  case ident =>
    calc (d.bankLoaded k m).fld (R.DCA_BANK_ID k)
        = ((d.bankFill k m).setFld (bankState k) bankReady).fld (R.DCA_BANK_ID k) :=
          dcaEvent_other _ (by decide) ⟨hev, Nat.le_refl 32⟩ (.inr (by dsimp only [R.DCA_BANK_ID]; omega))
      _ = (d.bankFill k m).fld (R.DCA_BANK_ID k) := fld_setFld_apart _ _ _ _ (.inl ⟨hid, .inl (bankState_fits k), .inl (Nat.le_refl 32)⟩)
      _ = m.id % 2 ^ 32 := bankFill_id d k m

/-! ### Loads (R275, R276) -/

@[simp] theorem ctx_updCtx_same (d : Dev) (c : Nat) (f : Ctx → Ctx) : (d.updCtx c f).ctx c = (d.ctx c).map f := tget_tset_same ..

/-- The bytes that a load of a bank holds. -/
def Dev.image (d : Dev) (k : Nat) : List Byte := tget [] d.dca.images k
def Dev.setImage (d : Dev) (k : Nat) (bs : List Byte) : Dev := d.setDca fun x => { x with images := tset [] x.images k bs }

@[simp] theorem image_setImage_same (d : Dev) (k : Nat) (bs : List Byte) : (d.setImage k bs).image k = bs := tget_tset_same ..

/-- The part with a whole image, which it verifies. -/
def Dev.imageReceived (d : Dev) (k c : Nat) (bs : List Byte) : Dev := ((d.setImage k bs).setFld (bankState k) bankVerifying).opPhase c 1

theorem imageReceived_fields (d : Dev) (k c : Nat) (bs : List Byte) :
    let x := d.imageReceived k c bs
    x.fld (bankState k) = bankVerifying ∧ x.ctx c = (d.ctx c).map (fun z => { z with phase := 1 }) ∧ x.image k = bs := by
  have hhost : ((d.setImage k bs).setFld (bankState k) bankVerifying).host = d.host := Dev.setFld_host ..
  have hdca : (d.imageReceived k c bs).dca = (d.setImage k bs).dca := Dev.setFld_dca ..
  refine ⟨bankState_set _ k (by decide), ?ctx, ?image⟩
  case ctx => rw [Dev.imageReceived, Dev.opPhase, ctx_updCtx_same, Dev.ctx, hhost, Dev.ctx]
  case image => rw [Dev.image, hdca]; exact image_setImage_same d k bs

section
variable {d : Dev} {k c : Nat} {y : Ctx}

/-- A load takes its bytes from the host's buffer, or goes on behind those of the slot that it holds. -/
theorem modelReceived_eq (host : List Byte) (h : d.loadOf k 0 = some (c, y)) :
    d.modelReceived k host = d.imageReceived k c (if y.keep.getD 1 0 = 0 then host.take y.cmd.len else d.image k ++ d.slotBytes y y.next) := by
  simp only [Dev.modelReceived, h]
  rfl

variable (h : d.loadOf k 1 = some (c, y))
include h

theorem modelVerified_ok {m : DcaModel} (hok : verifyModel (d.image k) = .ok m) :
    d.modelVerified k = ((d.setImage k []).bankLoaded k m).opEnd c 0 0 0 := by
  rw [Dev.image] at hok
  simp only [Dev.modelVerified, h, hok]
  rfl

theorem modelVerified_error {code : Nat} (herr : verifyModel (d.image k) = .error code) :
    d.modelVerified k = ((d.setImage k []).bankFails k code R.DCA_EVENTS_LOAD_DONE).opEnd c code 0 0 := by
  rw [Dev.image] at herr
  simp only [Dev.modelVerified, h, herr]
  rfl

end

/-- Settles O36: the bytes received by `modelReceived_eq`, and the end of the verification by its two outcomes. -/
theorem modelLoads : Obligations.ModelLoads := by
  unfold Obligations.ModelLoads
  intro s k c y hm
  refine ⟨fun host h => ?received, fun h => ⟨fun m hok => ?ok, fun code _ herr => ?error⟩⟩
  case received =>
    refine completes_run _ (exec_modelLoadReceived s k host) hm ?_
    rw [modelReceived_eq host h]
    obtain ⟨hstate, hctx, himage⟩ := imageReceived_fields s.start k c (if y.keep.getD 1 0 = 0 then host.take y.cmd.len else s.start.image k ++ s.start.slotBytes y y.next)
    exact ⟨hstate, hctx, fun hhost => himage.trans (if_pos hhost), fun hslot => himage.trans (if_neg hslot)⟩
  case ok =>
    obtain ⟨hstate, hmodel, hevent, hid⟩ := bankLoaded_fields (s.start.setImage k []) m k.isLt
    have himage : ((s.start.setImage k []).bankLoaded k m).image k = [] := by
      rw [Dev.image, bankLoaded_dca]
      exact image_setImage_same s.start k []
    exact completes_then _ (fun x => x.opEnd c 0 0 0) _ (exec_modelVerifyDone s k) hm (modelVerified_ok h hok) ⟨hstate, hmodel, hevent, hid, himage⟩
  case error =>
    exact completes_then _ (fun x => x.opEnd c code 0 0) _ (exec_modelVerifyDone s k) hm (modelVerified_error h herr)
      (bankFails_fields _ k code (by decide))

end Sys2Proof.Machine
end

section
/-!
SUPPORT. Classification requests (chapter 08): the order of R279 as an order of keys, the fetch of a crop (R266, R267), the array (R279), results and deadlines
(R280, R283), and the statement O35.
-/
namespace Sys2Proof.Machine

/-! ### The order of requests (R279) -/

/-- The deadline that a request still has to meet; one without it, or whose deadline HWM has reached, comes after all that have one. -/
def DcaReq.toMeet (hwm : Int) (r : DcaReq) : WithTop Int :=
  match r.deadline with
  | some t => if hwm < t then t else ⊤
  | none => ⊤

/-- What requests are ordered by: the deadline to be met, then the order in which they were made. -/
def DcaReq.startKey (hwm : Int) (r : DcaReq) : WithTop Int ×ₗ Nat := toLex (r.toMeet hwm, r.seq)

/-- R279 orders requests by their keys. -/
theorem startsBefore_eq (hwm : Int) (a b : DcaReq) : startsBefore hwm a b = decide (a.startKey hwm < b.startKey hwm) := by
  have hkey : a.startKey hwm < b.startKey hwm ↔ a.toMeet hwm < b.toMeet hwm ∨ a.toMeet hwm = b.toMeet hwm ∧ a.seq < b.seq := Prod.Lex.toLex_lt_toLex
  have hstarts : startsBefore hwm a b = match a.toMeet hwm, b.toMeet hwm with
      | some x, some y => decide (x < y) || (decide (x = y) && decide (a.seq < b.seq))
      | some _, none => true
      | none, some _ => false
      | none, none => decide (a.seq < b.seq) := rfl
  rw [Bool.eq_iff_iff, decide_eq_true_iff, hkey, hstarts]
  cases a.toMeet hwm <;> cases b.toMeet hwm
  case top.top => simp
  case top.coe t => simp
  case coe.top t => simp
  case coe.coe t u => simp

/-- The first request is the one of the least key. -/
theorem firstOf_eq (d : Dev) (l : List DcaReq) : d.firstOf l = l.argmin (DcaReq.startKey d.pos.hwm) := by
  have hfold : ∀ (xs : List DcaReq) (x : DcaReq), some (xs.foldl (fun a b => if startsBefore d.pos.hwm b a then b else a) x) =
      xs.foldl (List.argAux fun b c => b.startKey d.pos.hwm < c.startKey d.pos.hwm) (some x) := by
    intro xs
    induction xs with
    | nil => exact fun x => rfl
    | cons b xs ih =>
      intro a
      rw [List.foldl_cons, List.foldl_cons, ih, startsBefore_eq]
      congr 1
      simp only [List.argAux, decide_eq_true_eq]
      split <;> rfl
  cases l with
  | nil => rfl
  | cons x xs => exact hfold xs x

/-- Of requests there is a first one, which no other comes before. -/
theorem firstOf_least (d : Dev) {l : List DcaReq} (h : l ≠ []) :
    ∃ r ∈ l, (∀ q ∈ l, startsBefore d.pos.hwm q r = false) ∧ d.firstOf l = some r := by
  rw [firstOf_eq]
  cases harg : l.argmin (DcaReq.startKey d.pos.hwm) with
  | none => exact absurd (List.argmin_eq_none.mp harg) h
  | some r =>
    refine ⟨r, List.argmin_mem harg, fun q hq => ?_, rfl⟩
    rw [startsBefore_eq]
    exact decide_eq_false (List.not_lt_of_mem_argmin hq harg)

/-! ### Crops (R266, R267) -/

theorem cropFetch_eq {d : Dev} {r : DcaReq} (h : d.firstOf (d.dca.reqs.filter fun q => q.crop.isNone && d.reqReady q) = some r) :
    d.cropFetch = d.fetchReq r := by simp only [Dev.cropFetch, h]

theorem fetchReq_noModel {d : Dev} {r : DcaReq} (h : d.bankModel r.bank = none) : d.fetchReq r = d.endNoResult r 4 := by simp only [Dev.fetchReq, h]

/-- The part with a request expired: it is counted, and shown by its code and its event. -/
def Dev.cropExpired (d : Dev) : Dev := (d.bump R.DCA_CNT1_EXPIRED_CNT).dcaErr 0xB007 R.DCA_EVENTS_CROP_EXPIRED

@[simp] theorem bump_dca (d : Dev) (f : Fld) (n : Nat) : (d.bump f n).dca = d.dca := Dev.setFld_dca ..

theorem cropExpired_fields (d : Dev) :
    d.cropExpired.dca = d.dca ∧ d.cropExpired.fld R.DCA_LAST_ERR = 0xB007 ∧ d.cropExpired.fld R.DCA_EVENTS_CROP_EXPIRED = 1 :=
  ⟨by simp [Dev.cropExpired], dcaErr_code _ _ (by decide), dcaErr_event _ _ (by decide)⟩

section
variable {d : Dev} {r : DcaReq} {m : DcaModel} (hm : d.bankModel r.bank = some m)
include hm

theorem fetchReq_crop {c : List (List Int)} (htop : d.attOldest ≤ r.top) (hc : d.readCrop r m = some c) :
    d.fetchReq r = (d.updReq r.seq fun q => { q with crop := some c }, []) := by
  simp only [Dev.fetchReq, hm, if_neg (Nat.not_lt.mpr htop), hc]

theorem fetchReq_expired (h : r.top < d.attOldest ∨ d.readCrop r m = none) : d.fetchReq r = d.cropExpired.endNoResult r 1 := by
  have hnone : (if r.top < d.attOldest then none else d.readCrop r m) = none := ite_eq_left_iff.mpr fun hge => h.resolve_left hge
  simp only [Dev.fetchReq, hm, hnone]
  rfl

end

/-! ### The array (R279) and its results (R280, R283) -/

section
variable {d : Dev} {r : DcaReq} (hidle : d.dca.reqs.any (·.running) = false) (hfirst : d.firstOf (d.dca.reqs.filter d.reqReady) = some r)
include hidle hfirst

theorem runStart_noModel (h : d.noModel r.bank = true) : d.runStart = d.endNoResult r 4 := by
  simp only [Dev.runStart, hidle, hfirst, h, Bool.false_eq_true, if_false, if_true]

/-- A request that the array takes runs once it has its crop, which is fetched where that has not been done. -/
theorem runStart_takes (h : d.noModel r.bank = false) :
    let x := if r.crop.isNone then d.fetchReq r else (d, [])
    d.runStart = (x.1.updReq r.seq fun q => { q with running := q.crop.isSome }, x.2) := by
  simp only [Dev.runStart, hidle, hfirst, h, Bool.false_eq_true, if_false]

end

section
variable {d : Dev} {r : DcaReq} (hr : d.dca.reqs.find? (·.running) = some r)
include hr

theorem dcaResult_memError : d.dcaResult true = (d.bankFails r.bank 0xB009 R.DCA_EVENTS_MODEL_FAULT).endNoResult r 5 := by
  simp only [Dev.dcaResult, hr, if_true]
  rfl

theorem dcaResult_class {m : DcaModel} {c : List (List Int)} (hm : d.bankModel r.bank = some m) (hc : r.crop = some c) :
    let k := m.classify c
    d.dcaResult false = d.endRequest r k.1 k.2.1 k.2.2.1 k.2.2.2 m.id (.byClass k.1) := by
  simp only [Dev.dcaResult, hr, hm, hc, Bool.false_eq_true, if_false]

end

/-! ### Deadlines (R283) -/

/-- The undecided requests whose deadline HWM has reached. -/
def Dev.dueReqs (d : Dev) : List DcaReq :=
  d.dca.reqs.filter fun r => !r.decided && match r.deadline with | some t => decide (t ≤ d.pos.hwm) | none => false

/-- The decisions of some requests are given. -/
def Dev.markDecided (d : Dev) (due : List DcaReq) : Dev :=
  d.setDca fun x => { x with reqs := x.reqs.map fun r => if due.any fun q => q.seq = r.seq then { r with decided := true } else r }

/-- A decision by the policy is counted, shown and made known (R283). -/
def Dev.lateNoted (d : Dev) : Dev := ((d.bump R.DCA_CNT1_LATE_CNT).raise R.DCA_EVENTS_LATE).fire P.dcaDeadline

@[simp] theorem lateNoted_dca (d : Dev) : d.lateNoted.dca = d.dca := by simp [Dev.lateNoted]
@[simp] theorem lateNoted_time (d : Dev) : d.lateNoted.time = d.time := by simp [Dev.lateNoted, Dev.bump]

/-- The cycle in which decisions by the policy are given: the next one, where there are any. -/
def Dev.decisionCycle (d : Dev) : Dev := if d.dueReqs.isEmpty then d else d.advance (d.time + 1)

/-- The part with the decisions by the policy given. -/
def Dev.deadlinesMet (d : Dev) : Dev := d.dueReqs.foldl (fun d _ => d.lateNoted) (d.decisionCycle.markDecided d.dueReqs)

theorem dcaDeadline_eq (d : Dev) : d.dcaDeadline = (d.deadlinesMet, d.dueReqs.map fun r => (r.who, .policy)) := rfl

@[simp] theorem advance_dca (d : Dev) (t : Nat) : (d.advance t).dca = d.dca := by rw [(timeStep_advance d t).rest]

@[simp] theorem decisionCycle_dca (d : Dev) : d.decisionCycle.dca = d.dca := by
  unfold Dev.decisionCycle
  split
  · rfl
  · exact advance_dca ..

theorem decisionCycle_time {d : Dev} (h : d.dueReqs ≠ []) : d.decisionCycle.time = d.time + 1 := by
  rw [Dev.decisionCycle, if_neg (by simpa using h), advance_time]
  omega

theorem deadlinesMet_reqs (d : Dev) :
    d.deadlinesMet.dca.reqs = d.dca.reqs.map fun r => if d.dueReqs.any fun q => q.seq = r.seq then { r with decided := true } else r := by
  rw [Dev.deadlinesMet, foldl_unchanged Dev.dca (fun d _ => lateNoted_dca d), Dev.markDecided, Dev.setDca, decisionCycle_dca]

theorem deadlinesMet_time {d : Dev} (h : d.dueReqs ≠ []) : d.deadlinesMet.time = d.time + 1 :=
  (foldl_unchanged Dev.time (fun d _ => lateNoted_time d) _ _).trans (decisionCycle_time h)

/-- An undecided request whose deadline HWM has reached is due. -/
theorem mem_dueReqs {d : Dev} {r : DcaReq} {l : Int} (hr : r ∈ d.dca.reqs) (hd : r.decided = false) (hl : r.deadline = some l) (hle : l ≤ d.pos.hwm) :
    r ∈ d.dueReqs := by
  refine List.mem_filter.mpr ⟨hr, ?_⟩
  simp only [hd, hl, decide_eq_true hle, Bool.not_false, Bool.and_self]

theorem deadlinesMet_decided {d : Dev} {r : DcaReq} {l : Int} (hr : r ∈ d.deadlinesMet.dca.reqs) (hl : r.deadline = some l) (hle : l ≤ d.pos.hwm) :
    r.decided = true := by
  rw [deadlinesMet_reqs] at hr
  obtain ⟨q, hq, rfl⟩ := List.mem_map.mp hr
  by_cases hdue : (d.dueReqs.any fun x => x.seq = q.seq) = true
  · rw [if_pos hdue]
  · rw [if_neg hdue] at hl ⊢
    by_contra hnot
    have hmem := mem_dueReqs hq (Bool.eq_false_iff.mpr hnot) hl hle
    exact hdue (List.any_eq_true.mpr ⟨q, hmem, decide_eq_true rfl⟩)

/-! ### The statement -/

/-- Settles O35: the first request by its key, the fetch and the array by what the bank holds, and a deadline by the requests that are due. -/
theorem classifierRequests : Obligations.ClassifierRequests := by
  unfold Obligations.ClassifierRequests
  refine ⟨fun s hm => ⟨fun hwait => ?fetch, fun hidle hready => ?array, fun r hr => ⟨?memError, fun m c hbank hcrop => ?result⟩, fun t => ?deadline⟩,
    fun d r => ⟨fetchReq_noModel, fun m hbank => ⟨fun c => fetchReq_crop hbank, fun h => ⟨d.cropExpired, fetchReq_expired hbank h, cropExpired_fields d⟩⟩⟩⟩
  case fetch =>
    obtain ⟨r, hr, hleast, hfirst⟩ := firstOf_least s.start hwait
    exact ⟨r, hr, hleast, exec_run_eq (exec_dcaCropFetch s) hm (congrArg Dev.decided (cropFetch_eq hfirst))⟩
  case array =>
    obtain ⟨r, hr, hleast, hfirst⟩ := firstOf_least s.start hready
    refine ⟨r, hr, hleast, fun hnone => ?_, fun hmodel => ?_⟩
    · exact exec_run_eq (exec_dcaRunStart s) hm (congrArg Dev.decided (runStart_noModel hidle hfirst hnone))
    · rintro x rfl
      exact exec_run_eq (exec_dcaRunStart s) hm (congrArg Dev.decided (runStart_takes hidle hfirst hmodel))
  case memError =>
    obtain ⟨-, hgone, hevent, hcode⟩ := bankFails_fields s.start r.bank 0xB009 (f := R.DCA_EVENTS_MODEL_FAULT) (by decide)
    exact completes_then _ (fun x => Dev.decided (x.endNoResult r 5)) _ (exec_dcaResult s true) hm (congrArg Dev.decided (dcaResult_memError hr))
      ⟨hcode, hevent, hgone⟩
  case result => exact exec_run_eq (exec_dcaResult s false) hm (congrArg Dev.decided (dcaResult_class (d := s.start) hr hbank hcrop))
  case deadline =>
    have hcount : (s.start.advance t).deadlinesMet.dca.reqs.length = (s.start.advance t).dca.reqs.length := by
      rw [deadlinesMet_reqs, List.length_map]
    exact ⟨(s.start.advance t).deadlinesMet, exec_run_eq (exec_dcaDeadline s t) hm (congrArg Dev.decided (dcaDeadline_eq _)), hcount, deadlinesMet_time,
      fun r hr l => deadlinesMet_decided hr⟩

end Sys2Proof.Machine
end

section
/-!
SUPPORT. The position capture (R303) and the statement O38.
-/
namespace Sys2Proof.Machine

/-! ### Writes of PLZ words -/

/-- A write of a register word of PLZ. -/
theorem regWrite_plz (d : Dev) (w a v : Nat) (h4 : a % 4 = 0) (hb : a / 0x100000 = 4) (hd : (findDesc a).isSome = true) : d.regWrite w a v = d.plzWrite w a v := by
  have ht : inTap a = false := by simp only [inTap, Bool.and_eq_false_iff, decide_eq_false_iff_not]; omega
  obtain ⟨r, hr⟩ := Option.isSome_iff_exists.mp hd
  simp [Dev.regWrite, h4, ht, hr, hb]

/-- A field of one bit, as a bit of its word. -/
theorem fld_oneBit (d : Dev) (a i : Nat) (hi : i < 32) : d.fld ⟨a, i, 1⟩ = b2n ((d.reg a).getLsbD i) := by
  have hcell : d.cell ⟨a, i, 1⟩ = (d.reg a).toNat := by simp only [Dev.cell, if_pos (show i + 1 ≤ 32 by omega), Nat.add_zero]
  rw [Dev.fld, hcell, BitVec.getLsbD, Nat.testBit_eq_decide_div_mod_eq]
  rcases Nat.mod_two_eq_zero_or_one ((d.reg a).toNat / 2 ^ i) with h | h <;> simp [bits, b2n, h]

/-! ### The capture -/

/-- A signed value reads as its low bits. -/
theorem fld_setFldI_same (d : Dev) (f : Fld) (v : Int) (h : f.lo + f.w ≤ 64) : (d.setFldI f v).fld f = wrapN f.w v :=
  (fld_setFld_same d f _ h).trans (Nat.mod_eq_of_lt (wrapN_lt f.w v))

theorem fld_setFldI_apart (d : Dev) (f g : Fld) (v : Int) (h : f.apart g) : (d.setFldI f v).fld g = d.fld g := fld_setFld_apart d f g _ h

/-- The part with its position and its time captured, and the address of an event. -/
def Dev.captured (d : Dev) (addr : Nat) : Dev :=
  (((((d.setFldI R.PLZ_CAP_MD d.pos.md).setFldI R.PLZ_CAP_HWM d.pos.hwm).setFld R.PLZ_CAP_LINES d.pos.linesPassed).setFld R.PLZ_CAP_TIME d.time).setFld
    R.PLZ_CAP_ADDR addr).setBit R.PLZ_CAP_STATUS

/-- The part as a capture finds it: one that is still held is an overrun (R296). -/
def Dev.captureFound (d : Dev) : Dev := if d.flag R.PLZ_CAP_STATUS then d.overrun 0xF2 else d

theorem posCapture_taken {d y : Dev} {x : Taken} (h : d.take 0xF2 = (some x, y)) (hp : x.pulse = true) : d.posCapture = y.captureFound.captured x.addr := by
  refine (onPulse_taken h hp _).trans ?_
  simp only [Dev.captured, Dev.captureFound, Dev.setFldI, Dev.setFld_time]

@[simp] theorem overrun_pos (d : Dev) (i : Nat) : (d.overrun i).pos = d.pos := by rw [overrun_eq]
@[simp] theorem overrun_time (d : Dev) (i : Nat) : (d.overrun i).time = d.time := by rw [overrun_eq]

theorem captureFound_frame (d : Dev) : d.captureFound.pos = d.pos ∧ d.captureFound.time = d.time := by
  unfold Dev.captureFound
  split
  · exact ⟨overrun_pos .., overrun_time ..⟩
  · exact ⟨rfl, rfl⟩

theorem captured_fields (d : Dev) (addr : Nat) :
    let e := d.captured addr
    e.fld R.PLZ_CAP_MD = wrapN 64 d.pos.md ∧ e.fld R.PLZ_CAP_HWM = wrapN 64 d.pos.hwm ∧ e.fld R.PLZ_CAP_LINES = d.pos.linesPassed % 2 ^ 64 ∧
      e.fld R.PLZ_CAP_TIME = d.time % 2 ^ 64 ∧ e.fld R.PLZ_CAP_ADDR = addr % 2 ^ 32 ∧ e.fld R.PLZ_CAP_STATUS = 1 ∧ e.pos = d.pos ∧ e.time = d.time := by
  dsimp only [Dev.captured]
  refine ⟨?md, ?hwm, ?lines, ?time, ?addr, fld_setBit_same _ R.PLZ_CAP_STATUS (by decide), by simp [Dev.setFldI], by simp [Dev.setFldI]⟩
  case md =>
    simp (disch := decide) only [fld_setBit_apart, fld_setFld_apart, fld_setFldI_apart]
    exact fld_setFldI_same _ R.PLZ_CAP_MD _ (by decide)
  case hwm =>
    simp (disch := decide) only [fld_setBit_apart, fld_setFld_apart]
    exact fld_setFldI_same _ R.PLZ_CAP_HWM _ (by decide)
  case lines =>
    simp (disch := decide) only [fld_setBit_apart, fld_setFld_apart]
    exact fld_setFld_same _ R.PLZ_CAP_LINES _ (by decide)
  case time =>
    simp (disch := decide) only [fld_setBit_apart, fld_setFld_apart]
    exact fld_setFld_same _ R.PLZ_CAP_TIME _ (by decide)
  case addr =>
    simp (disch := decide) only [fld_setBit_apart]
    exact fld_setFld_same _ R.PLZ_CAP_ADDR _ (by decide)

/-! ### CAP_STATUS -/

/-- CAP_STATUS has no bits but VALID, which is cleared by writing one. -/
theorem findDesc_capStatus : findDesc 0x400044 = some ⟨0x0400044, 1, 0, 1, 0, 0, 0, 0, 1, 0, 0, 0, false⟩ := by decide

theorem regWrite_capStatus (d : Dev) (w v : Nat) : d.regWrite w 0x400044 v = d.plainWrite 0x400044 v := by
  rw [regWrite_plz d w _ v (by decide) (by decide) (by decide)]
  exact baseWrite_of_rws_zero d w _ v _ (by decide) findDesc_capStatus rfl

/-- Writing one to VALID clears it, but for the cycle in which it was set (R17, R20). -/
theorem plainWrite_capStatus (d : Dev) :
    (d.plainWrite 0x400044 1).fld R.PLZ_CAP_STATUS = if (d.setHere 0x400044).testBit 0 then d.fld R.PLZ_CAP_STATUS else 0 := by
  obtain ⟨w, hw, hbits⟩ := plainWrite_bits d 0x400044 1 _ findDesc_capStatus
  have hbit : w.getLsbD 0 = ((d.setHere 0x400044).testBit 0 && (d.reg 0x400044).getLsbD 0) := by simpa using hbits 0 (by decide)
  have hnew : (d.plainWrite 0x400044 1).fld R.PLZ_CAP_STATUS = b2n (w.getLsbD 0) := by
    rw [hw]
    exact (fld_oneBit _ 0x400044 0 (by decide)).trans (by rw [reg_setReg_same])
  have hold : d.fld R.PLZ_CAP_STATUS = b2n ((d.reg 0x400044).getLsbD 0) := fld_oneBit d 0x400044 0 (by decide)
  rw [hnew, hbit, hold]
  cases (d.setHere 0x400044).testBit 0 <;> rfl

/-- Settles O38: a capture by `captured_fields`, whether or not one was held, and the write of VALID as the write of a bit of its word. -/
theorem positionCapture : Obligations.PositionCapture := by
  unfold Obligations.PositionCapture
  refine ⟨fun s x d hm ht hp => ?capture, fun s h3 => ?clear⟩
  case capture =>
    obtain ⟨hpos, htime⟩ := captureFound_frame d
    refine ⟨_, exec_run_eq (exec_posCapture s) hm (posCapture_taken ht hp), ?_⟩
    rw [← hpos, ← htime]
    exact captured_fields d.captureFound x.addr
  case clear =>
    have hwrite : s.start.busWrite false 0 0x400044 4 1 = s.start.plainWrite 0x400044 1 := by
      rw [busWrite_pf _ _ _ _ (hostReaches_of_standby s.start _ _ h3), barWrite_four _ _ _ _ (by decide) (by decide), regWrite_capStatus]
    have hkeeps := (plainWrite_frame s.start 0x400044 1).2
    exact ⟨_, exec_run_eq (exec_registerWrite s false 0 0x400044 4 1) (not_reset h3) hwrite, plainWrite_capStatus s.start, hkeeps.fld R.PLZ_CAP_MD (by decide) (by decide),
      hkeeps.fld R.PLZ_CAP_HWM (by decide) (by decide), hkeeps.fld R.PLZ_CAP_LINES (by decide) (by decide), hkeeps.fld R.PLZ_CAP_TIME (by decide) (by decide),
      hkeeps.fld R.PLZ_CAP_ADDR (by decide) (by decide)⟩

end Sys2Proof.Machine
end

section
/-!
SUPPORT. Software producers (R287), pins (R299, R301) and timers (R302), and the statement O41.
-/
namespace Sys2Proof.Machine

/-! ### The stores of the Plaza -/

@[simp] theorem pin_setPin_same (d : Dev) (p : Nat) (x : Pin) : (d.setPin p x).pin p = x := tget_tset_same ..
@[simp] theorem timer_setTimer_same (d : Dev) (n : Nat) (x : Timer) : (d.setTimer n x).timer n = x := tget_tset_same ..
@[simp] theorem setFld_timer (d : Dev) (f : Fld) (v n : Nat) : (d.setFld f v).timer n = d.timer n := by rw [Dev.timer, Dev.setFld_plz, Dev.timer]

theorem setPin_other (d : Dev) (p q : Nat) (x : Pin) (h : q ≠ p) : (d.setPin p x).pin q = d.pin q := (setPin_pin d p x q).trans (if_neg h)

/-- Events are not what changes a pin. -/
theorem carry_pins (d : Dev) (e : Fired) : (d.carry e).plz.pins = d.plz.pins := by
  unfold Dev.carry
  dsimp only
  rw [countOn_eq]

theorem route_pin (d : Dev) (p : Nat) (k : EvKind) (l a : Nat) (fl : Bool) (q : Nat) : (d.route p k l a fl).pin q = d.pin q := by
  unfold Dev.route
  split
  · rfl
  · exact congrArg (tget pin0 · q) (carry_pins d _)

theorem fire_pin (d : Dev) (p : Nat) (k : EvKind) (q : Nat) : (d.fire p k).pin q = d.pin q := by
  rw [fire_low _ _ _ _ _ (by decide), route_pin]

/-! ### Software producers -/

/-- The three words whose writes make events of the SW producers (R287). -/
theorem hostWrite_sw (d : Dev) (m : BitVec 16) (h3 : 3 ≤ d.mode.code) :
    d.hostWrite 0x400010 m.toNat = d.swEvents m .pulse ∧ d.hostWrite 0x400014 m.toNat = d.swEvents m .set ∧ d.hostWrite 0x400018 m.toNat = d.swEvents m .clear := by
  have hmask : BitVec.ofNat 16 m.toNat = m := BitVec.ofNat_toNat 16 m |>.trans (BitVec.setWidth_eq m)
  have hword : ∀ a, a % 4 = 0 → a / 0x100000 = 4 → (findDesc a).isSome = true → d.hostWrite a m.toNat = d.plzWrite 0 a m.toNat := fun a h4 hb hd => by
    rw [hostWrite_eq d _ _ h3, regWrite_plz d 0 a _ h4 hb hd]
  rw [hword 0x400010 (by decide) (by decide) (by decide), hword 0x400014 (by decide) (by decide) (by decide), hword 0x400018 (by decide) (by decide) (by decide)]
  simp [Dev.plzWrite, hmask]

/-- The SW producers of a list, each of which makes an event if its bit is set. -/
def Dev.swList (d : Dev) (mask : BitVec 16) (k : EvKind) (ns : List Nat) : Dev := ns.foldl (fun d n => if mask.getLsbD n then d.fire (P.sw n) k else d) d

theorem swList_none (d : Dev) (mask : BitVec 16) (k : EvKind) (ns : List Nat) (h : ∀ n ∈ ns, mask.getLsbD n = false) : d.swList mask k ns = d := by
  induction ns generalizing d with
  | nil => rfl
  | cons n ns ih =>
    rw [Dev.swList, List.foldl_cons, if_neg (by simp [h n])]
    exact ih d fun m hm => h m (List.mem_cons_of_mem n hm)

/-- One set bit is one event. -/
theorem swList_one (d : Dev) (k : EvKind) {n : Nat} (hn : n < 16) {ns : List Nat} (hmem : n ∈ ns) (hnodup : ns.Nodup) :
    d.swList (BitVec.twoPow 16 n) k ns = d.fire (P.sw n) k := by
  have hbit : ∀ m, (BitVec.twoPow 16 n).getLsbD m = decide (n = m) := fun m => by simp [BitVec.getLsbD_twoPow, hn]
  induction ns with
  | nil => exact absurd hmem List.not_mem_nil
  | cons m ns ih =>
    obtain ⟨hm, hns⟩ := List.nodup_cons.mp hnodup
    rw [Dev.swList, List.foldl_cons, hbit]
    by_cases hnm : n = m
    · subst hnm
      rw [if_pos (by simp)]
      exact swList_none _ _ k ns fun i hi => by rw [hbit]; exact decide_eq_false fun e => hm (e ▸ hi)
    · rw [if_neg (by simpa using hnm)]
      exact ih ((List.mem_cons.mp hmem).resolve_left hnm) hns

/-! ### A level from outside (R299) -/

/-- The events of an input pin that has taken a new level (R299). -/
def Dev.edgeEvent (d : Dev) (p : Nat) (level : Bool) : Dev :=
  if (d.pinDrive p).isSome then d else
  let rise := level != d.lflag (R.PLZ_GPIO_CFG_INVERT p)
  match d.live (R.PLZ_GPIO_CFG_IN_EDGE p) with
  | 1 => if rise then d.fire (P.gpi p) else d
  | 2 => if rise then d else d.fire (P.gpi p)
  | 3 => d.fire (P.gpi p)
  | 4 => d.fire (P.gpi p) (if rise then .set else .clear)
  | _ => d

/-- Such an event changes no pin, and takes no time. -/
theorem edgeEvent_frame (d : Dev) (p : Nat) (level : Bool) : (d.edgeEvent p level).time = d.time ∧ ∀ q, (d.edgeEvent p level).pin q = d.pin q := by
  have hfire : ∀ k, (d.fire (P.gpi p) k).time = d.time ∧ ∀ q, (d.fire (P.gpi p) k).pin q = d.pin q := fun k => ⟨Dev.fire_time .., fun q => fire_pin d _ k q⟩
  unfold Dev.edgeEvent
  dsimp only
  split
  · exact ⟨rfl, fun _ => rfl⟩
  · split
    · split
      · exact hfire .pulse
      · exact ⟨rfl, fun _ => rfl⟩
    · split
      · exact ⟨rfl, fun _ => rfl⟩
      · exact hfire .pulse
    · exact hfire .pulse
    · exact hfire _
    · exact ⟨rfl, fun _ => rfl⟩

/-- A pin with a level from outside. -/
def Dev.levelFrom (d : Dev) (p : Nat) (level : Bool) : Dev := d.setPin p { d.pin p with ext := level }

/-- A level that holds for FILTER cycles is taken after them, and is an event where it is a new one. -/
theorem gpioEdge_held {d : Dev} {p u : Nat} (b : Bool) (t : Nat) (h : d.pinFilter p ≤ u) :
    let y := d.advance (t + d.pinFilter p)
    d.gpioEdge p b t u = if (y.pin p).ext = b then y else (y.levelFrom p b).edgeEvent p b := by
  unfold Dev.gpioEdge
  dsimp only
  rw [if_neg (Nat.not_lt.mpr h)]
  rfl

theorem gpioEdge_fields {d : Dev} {p u : Nat} (b : Bool) (t : Nat) (h : d.pinFilter p ≤ u) :
    let x := d.gpioEdge p b t u
    let y := d.advance (t + d.pinFilter p)
    (x.pin p).ext = b ∧ x.time = y.time ∧ ∀ q, q ≠ p → x.pin q = y.pin q := by
  intro x y
  have hx : x = if (y.pin p).ext = b then y else (y.levelFrom p b).edgeEvent p b := gpioEdge_held b t h
  rw [hx]
  split
  · next hold => exact ⟨hold, rfl, fun _ _ => rfl⟩
  · obtain ⟨htime, hpin⟩ := edgeEvent_frame (y.levelFrom p b) p b
    refine ⟨?_, htime, fun q hq => (hpin q).trans (setPin_other _ _ _ _ hq)⟩
    rw [hpin, Dev.levelFrom, pin_setPin_same]

/-! ### Events at an output pin (R301) -/

section
variable {d y : Dev} {p : Nat} {e : Taken} (h : d.take (0x20 + p) = (some e, y))
include h

theorem gpoEvent_level (hmode : y.live (R.PLZ_GPIO_CFG_MODE p) = 0) :
    d.gpoEvent p = y.setPin p { y.pin p with level := match e.level with | .set => true | .clear => false | .pulse => !(y.pin p).level } := by
  simp only [Dev.gpoEvent, h]
  exact if_pos hmode

variable (hmode : y.live (R.PLZ_GPIO_CFG_MODE p) ≠ 0) (hp : e.pulse = true)
include hmode hp

theorem gpoEvent_pulse (hroom : (y.pin p).pend.length < 4) :
    d.gpoEvent p = y.setPin p { y.pin p with pend := (y.pin p).pend ++ [y.time + nsFloor (y.live (R.PLZ_GPIO_DELAY p))] } := by
  simp only [Dev.gpoEvent, h, hp]
  rw [if_neg hmode, if_neg (by simp), if_neg (Nat.not_le.mpr hroom)]

theorem gpoEvent_overrun (hfull : 4 ≤ (y.pin p).pend.length) : d.gpoEvent p = y.overrun (0x20 + p) := by
  simp only [Dev.gpoEvent, h, hp]
  rw [if_neg hmode, if_neg (by simp), if_pos hfull]

end

/-- The pulse that is due first rises (R301). -/
theorem gpoRise_first {d : Dev} {p t : Nat} (h : earliest (d.pin p).pend = some t) :
    let y := d.advance t
    d.gpoRise p = y.setPin p { y.pin p with pend := (y.pin p).pend.erase t, run := (y.pin p).run ++ [t + pulseCycles (y.live (R.PLZ_GPIO_PULSE p))] } := by
  simp only [Dev.gpoRise, h]

/-- The pulse that ends first ends (R301). -/
theorem gpoEnd_first {d : Dev} {p t : Nat} (h : earliest (d.pin p).run = some t) :
    let y := d.advance t
    d.gpoEnd p = y.setPin p { y.pin p with run := (y.pin p).run.erase t } := by
  simp only [Dev.gpoEnd, h]

/-! ### Timers (R302) -/

/-- The part with a timer's count begun for PERIOD, by an event with a LINEAGE. -/
def Dev.timerBegun (d : Dev) (n lin : Nat) : Dev :=
  ((d.setTimer n { d.timer n with endAt := d.time + d.tmrCycles n }).setFld (R.PLZ_TMR_STATUS_RUNNING n) 1).setFld (R.PLZ_TMR_STATUS_LINEAGE n) (min (lin + 1) 7)

theorem timerBegun_fields (d : Dev) (n lin : Nat) :
    let x := d.timerBegun n lin
    (x.timer n).endAt = d.time + d.tmrCycles n ∧ x.fld (R.PLZ_TMR_STATUS_RUNNING n) = 1 ∧ x.fld (R.PLZ_TMR_STATUS_LINEAGE n) = min (lin + 1) 7 := by
  dsimp only [Dev.timerBegun]
  refine ⟨by simp, ?_, ?_⟩
  · rw [fld_setFld_apart _ (R.PLZ_TMR_STATUS_LINEAGE n) _ _ (.inr (by simp [R.PLZ_TMR_STATUS_LINEAGE, R.PLZ_TMR_STATUS_RUNNING]))]
    exact fld_setFld_same _ (R.PLZ_TMR_STATUS_RUNNING n) 1 (by simp [R.PLZ_TMR_STATUS_RUNNING])
  · refine (fld_setFld_same _ (R.PLZ_TMR_STATUS_LINEAGE n) _ (by simp [R.PLZ_TMR_STATUS_LINEAGE])).trans (Nat.mod_eq_of_lt ?_)
    simp only [R.PLZ_TMR_STATUS_LINEAGE]
    omega

section
variable {d y : Dev} {n : Nat} {e : Taken} (h : d.take (0x50 + n) = (some e, y)) (hp : e.pulse = true) (hdue : y.pulseDueAt (0x60 + n) y.time = false)
  (hstop : (y.timer n).stopAt ≠ y.time + 1)
include h hp hdue hstop

/-- START that no STOP meets begins the count, or is an overrun (R296, R302). -/
theorem tmrStart_alone :
    d.tmrStart n = if y.flag (R.PLZ_TMR_STATUS_RUNNING n) ∧ !(y.lflag (R.PLZ_TMR_CFG_RETRIGGER n)) then y.overrun (0x50 + n) else y.timerBegun n e.lineage :=
  (onPulse_taken h hp _).trans (if_neg (by simp [hdue, hstop]))

theorem tmrStart_begins (hfree : y.flag (R.PLZ_TMR_STATUS_RUNNING n) = false ∨ y.lflag (R.PLZ_TMR_CFG_RETRIGGER n) = true) : d.tmrStart n = y.timerBegun n e.lineage := by
  refine (tmrStart_alone h hp hdue hstop).trans (if_neg ?_)
  rcases hfree with hfree | hfree <;> simp [hfree]

theorem tmrStart_overrun (hruns : y.flag (R.PLZ_TMR_STATUS_RUNNING n) = true) (honce : y.lflag (R.PLZ_TMR_CFG_RETRIGGER n) = false) :
    d.tmrStart n = y.overrun (0x50 + n) :=
  (tmrStart_alone h hp hdue hstop).trans (if_pos (by simp [hruns, honce]))

end

/-- The part with a timer's count ended. -/
def Dev.timerStopped (d : Dev) (n : Nat) : Dev := (d.setTimer n { d.timer n with stopAt := d.time + 1 }).setFld (R.PLZ_TMR_STATUS_RUNNING n) 0

theorem timerStopped_fields (d : Dev) (n : Nat) :
    (d.timerStopped n).fld (R.PLZ_TMR_STATUS_RUNNING n) = 0 ∧ ((d.timerStopped n).timer n).stopAt = d.time + 1 ∧ (d.timerStopped n).out = d.out := by
  dsimp only [Dev.timerStopped]
  exact ⟨fld_setFld_same _ (R.PLZ_TMR_STATUS_RUNNING n) 0 (by simp [R.PLZ_TMR_STATUS_RUNNING]), by simp, Dev.setFld_out ..⟩

theorem tmrStop_taken {d y : Dev} {n : Nat} {e : Taken} (h : d.take (0x60 + n) = (some e, y)) (hp : e.pulse = true) : d.tmrStop n = y.timerStopped n :=
  onPulse_taken h hp _

/-- The part as a timer's count expires: time has come to it, and TMRn has fired. -/
def Dev.timerFired (d : Dev) (n t : Nat) : Dev := (d.advance t).fire (P.tmr n) .pulse ((d.advance t).fld (R.PLZ_TMR_STATUS_LINEAGE n))

/-- What becomes of a timer that has fired at a cycle: it restarts under REPEAT, and stops without it. -/
def Dev.timerExpired (d : Dev) (n t : Nat) : Dev :=
  if d.lflag (R.PLZ_TMR_CFG_REPEAT n) then d.setTimer n { d.timer n with endAt := t + d.tmrCycles n } else d.setFld (R.PLZ_TMR_STATUS_RUNNING n) 0

theorem timerExpired_fields (d : Dev) (n t : Nat) :
    (d.lflag (R.PLZ_TMR_CFG_REPEAT n) = true → ((d.timerExpired n t).timer n).endAt = t + d.tmrCycles n ∧ (d.timerExpired n t).regs = d.regs) ∧
      (d.lflag (R.PLZ_TMR_CFG_REPEAT n) = false → d.timerExpired n t = d.setFld (R.PLZ_TMR_STATUS_RUNNING n) 0) := by
  refine ⟨fun hrep => ?_, fun hrep => if_neg (by simp [hrep])⟩
  rw [Dev.timerExpired, if_pos hrep, timer_setTimer_same]
  exact ⟨rfl, rfl⟩

/-- A count that no STOP ends expires (R302). -/
theorem tmrExpiry_fires {d : Dev} {n t : Nat} (ht : (d.timer n).endAt = t) (hruns : d.flag (R.PLZ_TMR_STATUS_RUNNING n) = true)
    (hstop : (d.plz.inflight.any fun x => decide (x.input = 0x60 + n) && decide (x.due ≤ t) && decide (x.kind ≠ .clear)) = false) :
    d.tmrExpiry n = (d.timerFired n t).timerExpired n t := by
  subst ht
  exact if_neg (by rw [hruns, hstop]; simp)

/-- Settles O41: the SW producers by their bits, the pins by the level, the event or the pulse that is due, and the timers by whether they run. -/
theorem pinsAndTimers : Obligations.PinsAndTimers := by
  unfold Obligations.PinsAndTimers
  refine ⟨fun s m h3 => ?software, fun d k n => ?producers, fun s p b t u hm hu => ?edge, fun s p hm => ⟨fun e d ht => ?event, fun t ht => ?rise, fun t ht => ?fall⟩,
    fun s n hm => ⟨fun e d ht hp hdue hstop => ?start, fun e d ht hp => ?stop, ?expiry⟩⟩
  case software =>
    obtain ⟨hpulse, hset, hclear⟩ := hostWrite_sw s.start m h3
    have hm := not_reset h3
    exact ⟨exec_run_eq (exec_swPulse s m) hm hpulse, exec_run_eq (exec_swSet s m) hm hset, exec_run_eq (exec_swClear s m) hm hclear⟩
  case producers =>
    exact ⟨swList_one d k n.isLt (List.mem_range.mpr n.isLt) List.nodup_range, swList_none d 0 k _ fun m _ => BitVec.getLsbD_zero⟩
  case edge =>
    have hrow : s.start.gpioRow p b t u = s.start.gpioEdge p b t u := if_neg hm
    exact completes_always _ (exec_gpioEdge s p b t u) (by rw [hrow]; exact gpioEdge_fields b t hu)
  case event =>
    refine ⟨fun hmode => ⟨_, exec_run_eq (exec_gpo s p) hm (gpoEvent_level ht hmode), ?_⟩, fun hmode hp hroom => ⟨_, exec_run_eq (exec_gpo s p) hm (gpoEvent_pulse ht hmode hp hroom), ?_⟩,
      fun hmode hp hfull => exec_run_eq (exec_gpo s p) hm (gpoEvent_overrun ht hmode hp hfull)⟩
    · rw [pin_setPin_same]
      exact ⟨rfl, rfl, rfl⟩
    · rw [pin_setPin_same]
      exact ⟨rfl, rfl⟩
  case rise =>
    refine ⟨_, exec_run_eq (exec_gpoPulseRise s p) hm (gpoRise_first ht), ?_⟩
    rw [pin_setPin_same]
    exact ⟨rfl, List.mem_append_right _ List.mem_cons_self⟩
  case fall =>
    refine ⟨_, exec_run_eq (exec_gpoPulseEnd s p) hm (gpoEnd_first ht), ?_⟩
    rw [pin_setPin_same]
  case start =>
    exact ⟨fun hfree => ⟨_, exec_run_eq (exec_tmrStart s n) hm (tmrStart_begins ht hp hdue hstop hfree), timerBegun_fields ..⟩,
      fun hruns honce => exec_run_eq (exec_tmrStart s n) hm (tmrStart_overrun ht hp hdue hstop hruns honce)⟩
  case stop => exact ⟨_, exec_run_eq (exec_tmrStop s n) hm (tmrStop_taken ht hp), timerStopped_fields ..⟩
  case expiry =>
    intro t f hruns hstop
    exact ⟨f.timerExpired n t, exec_run_eq (exec_tmrExpiry s n) hm (tmrExpiry_fires rfl hruns hstop), timerExpired_fields f n t⟩

end Sys2Proof.Machine
end

section
/-!
SUPPORT. Marker outputs (R288, R293, R295, R296, R307, R308) and the statement O42.
-/
namespace Sys2Proof.Machine

@[simp] theorem mark_setMark_same (d : Dev) (k : Nat) (x : Mark) : (d.setMark k x).mark k = x := tget_tset_same ..

/-- The registers of a marker follow it, and do not change it. -/
@[simp] theorem markStatus_mark (d : Dev) (k j : Nat) : (d.markStatus k).mark j = d.mark j := by simp [Dev.mark, Dev.markStatus, Dev.setFlag]

@[simp] theorem fire_mark (d : Dev) (p : Nat) (k : EvKind) (l : Nat) (fl : Bool) (j : Nat) : (d.fire p k l fl).mark j = d.mark j := by rw [Dev.mark, Dev.fire_marks, Dev.mark]

/-! ### The output (R307) -/

/-- An output that nothing holds up falls, and its holdoff begins. -/
theorem markUpdate_falls {d : Dev} {k : Nat} (hhigh : (d.mark k).high = true) (hend : (d.mark k).endAt ≤ d.time) (hspans : (d.mark k).spans = []) :
    ((d.markUpdate k).mark k).high = false ∧ ((d.markUpdate k).mark k).holdUntil = d.time + nsFloor (d.live (R.PLZ_MARK_HOLDOFF k)) := by
  simp [Dev.markUpdate, hhigh, hspans, Nat.not_lt.mpr hend]

/-- An output within an interval rises, where no INHIBIT and no holdoff keeps it down. -/
theorem markUpdate_rises {d : Dev} {k : Nat} (hlow : (d.mark k).high = false) (hend : d.time < (d.mark k).endAt) (hfree : (d.mark k).inhibit = false)
    (hhold : (d.mark k).holdUntil ≤ d.time) : ((d.markUpdate k).mark k).high = true := by
  simp [Dev.markUpdate, hlow, hfree, hend, hhold]

/-- A marker is low, and its holdoff has not ended. -/
def Dev.inHoldoff (d : Dev) (k : Nat) : Bool := !(d.mark k).high && decide (d.time < (d.mark k).holdUntil)

theorem inHoldoff_of_low {d : Dev} {k : Nat} (hlow : (d.mark k).high = false) (hhold : d.time < (d.mark k).holdUntil) : d.inHoldoff k = true := by
  simp [Dev.inHoldoff, hlow, hhold]

theorem not_inHoldoff {d : Dev} {k : Nat} (h : (d.mark k).high = true ∨ (d.mark k).holdUntil ≤ d.time) : d.inHoldoff k = false := by
  rcases h with h | h <;> simp [Dev.inHoldoff, h]

/-- A pulse that reaches a marker out of holdoff is its interval from now on. -/
theorem markRise_pulse {d : Dev} {k : Nat} (h : d.inHoldoff k = false) (lin : Nat) :
    d.markRise k none lin = (d.setMark k { d.mark k with endAt := d.time + d.markPulse k }).markUpdate k lin := if_neg (by rw [← Dev.inHoldoff, h]; simp)

/-! ### INHIBIT (R293, R295) -/

section
variable {d y : Dev} {k : Nat} {e : Taken} (h : d.take (0x48 + k) = (some e, y))
include h

theorem markInhibit_pulse (hl : e.level = .pulse) : d.markInhibit k = y := by simp only [Dev.markInhibit, h, hl]

theorem markInhibit_level (hl : e.level ≠ .pulse) :
    d.markInhibit k = (y.setMark k { y.mark k with inhibit := decide (e.level = .set), inhAt := y.time + 1 }).markUpdate k := by
  cases hlevel : e.level with
  | pulse => exact absurd hlevel hl
  | set => simp only [Dev.markInhibit, h, hlevel]
  | clear => simp only [Dev.markInhibit, h, hlevel]

end

/-! ### FIRE (R293, R295, R296) -/

/-- FIRE acts on a marker: an overrun in holdoff, and a rise unless the marker is inhibited. -/
def Dev.fireActs (d : Dev) (k lin : Nat) : Dev :=
  let x := if d.inHoldoff k then d.overrun (0x40 + k) else d
  if (d.mark k).inhibit then x else x.markRise k none lin

theorem fireActs_free {d : Dev} {k : Nat} (lin : Nat) (h : d.inHoldoff k = false) :
    ((d.mark k).inhibit = true → d.fireActs k lin = d) ∧ ((d.mark k).inhibit = false → d.fireActs k lin = d.markRise k none lin) := by
  constructor <;> intro hi <;> simp [Dev.fireActs, h, hi]

theorem fireActs_holdoff {d : Dev} {k : Nat} (lin : Nat) (h : d.inHoldoff k = true) :
    ((d.mark k).inhibit = true → d.fireActs k lin = d.overrun (0x40 + k)) ∧
      ((d.mark k).inhibit = false → d.fireActs k lin = (d.overrun (0x40 + k)).markRise k none lin) := by
  constructor <;> intro hi <;> simp [Dev.fireActs, h, hi]

section
variable {d y : Dev} {k : Nat} {e : Taken} (h : d.take (0x40 + k) = (some e, y)) (hp : e.pulse = true)
include h hp

/-- FIRE that no INHIBIT meets. -/
theorem markFire_alone (hdue : y.dueAt (0x48 + k) y.time = false) (hinh : (y.mark k).inhAt ≠ y.time + 1) : d.markFire k = y.fireActs k (e.lineage + 1) := by
  refine (onPulse_taken h hp _).trans ?_
  simp only [Dev.inhibitFirst, hdue, decide_eq_false hinh, Bool.or_false, Bool.false_eq_true, if_false]
  rfl

/-- FIRE that meets an INHIBIT event acts after it, and is a clash. -/
theorem markFire_clash (hdue : y.dueAt (0x48 + k) y.time = true) : d.markFire k = ((y.markInhibit k).clash (0x40 + k)).fireActs k (e.lineage + 1) := by
  refine (onPulse_taken h hp _).trans ?_
  simp only [Dev.inhibitFirst, hdue, Bool.true_or, if_true]
  rfl

end

/-! ### Ends of intervals and of holdoff -/

/-- The cycles in which a marker's interval, and its spans whose OFF slots have fired, end. -/
def Dev.markEnds (d : Dev) (k : Nat) : List Nat :=
  (if d.time < (d.mark k).endAt then [(d.mark k).endAt] else []) ++ ((d.mark k).spans.filter fun s => s.offFired && decide (d.time < s.closeAt)).map (·.closeAt)

theorem markPulseEnd_first {d : Dev} {k t : Nat} (h : earliest (d.markEnds k) = some t) : d.markPulseEnd k = (d.advance t).markUpdate k := by
  simp only [Dev.markPulseEnd]
  rw [← Dev.markEnds, h]

/-- A marker whose holdoff has ended: what waited on it begins, for PULSE. -/
def Mark.waitOver (m : Mark) (endAt : Nat) : Mark :=
  { m with endAt := if m.waitPulse then endAt else m.endAt, spans := m.spans ++ m.waitSpans.map fun s => { s with closeAt := endAt }, waitPulse := false,
           waitSpans := [], waitLin := 0 }

theorem markHoldoffEnd_low {d : Dev} {k : Nat} (h : (d.mark k).high = false) :
    let y := d.advance (d.mark k).holdUntil
    d.markHoldoffEnd k = (y.setMark k ((d.mark k).waitOver (y.time + y.markPulse k))).markUpdate k (d.mark k).waitLin := if_neg (by rw [h]; simp)

theorem waitOver_spans (m : Mark) (endAt : Nat) : (m.waitOver endAt).spans.length = m.spans.length + m.waitSpans.length := by simp [Mark.waitOver]

/-! ### Firings of pool slots (R307, R308) -/

/-- The part as a firing reaches its marker: time has come to it, and INHIBIT events of its cycle have acted. -/
def Dev.arrived (d : Dev) (slot t : Nat) (md : Int) (e : MarkSlot) : Dev :=
  (({ d with marks := { d.marks with arrivals := d.marks.arrivals.erase (slot, t, md, e) } } : Dev).advance t).inhibitFirst e.marker

/-- The part with a firing counted and its MARKED record made. -/
def Dev.slotMarked (d : Dev) (slot : Nat) (md : Int) (e : MarkSlot) : Dev :=
  (d.bump (R.PLZ_MARK_CNT0_FIRED e.marker)).marked e.marker slot e.who e.target md e.action e.decision

section
variable {d : Dev} {t slot : Nat} {md : Int} {e : MarkSlot} (ht : earliest (d.marks.arrivals.map fun x => x.2.1) = some t)
  (hfirst : d.marks.arrivals.find? (fun x => x.2.1 = t) = some (slot, t, md, e))
include ht hfirst

theorem slotArrive_off (hoff : e.off = true) : d.slotArrive = (d.arrived slot t md e).offArrive slot e.marker := by
  simp only [Dev.slotArrive, ht, hfirst]
  exact if_pos hoff

variable (hon : e.off = false)
include hon

/-- An ON slot whose marker INHIBIT keeps down is counted, and fires nothing. -/
theorem slotArrive_inhibited (hinh : ((d.arrived slot t md e).mark e.marker).inhibit = true) (hpair : e.pair = none) :
    d.slotArrive = (((d.arrived slot t md e).bump (R.PLZ_MARK_CNT1_INHIBIT_CNT e.marker)).marked e.marker slot e.who e.target noMd e.action e.decision).markStatus e.marker := by
  simp only [Dev.slotArrive, ht, hfirst, hpair]
  exact (if_neg (by simp [hon])).trans (if_pos hinh)

variable (hfree : ((d.arrived slot t md e).mark e.marker).inhibit = false)
include hfree

theorem slotArrive_on :
    d.slotArrive = if e.action % 4 = 2 then
        ((d.arrived slot t md e).slotMarked slot md e).markRise e.marker (some { on := slot, off := e.pair.getD slot, offFired := e.pair.isNone, closeAt := 0 }) 0
      else ((d.arrived slot t md e).slotMarked slot md e).markRise e.marker none 0 := by
  have hnot : ¬ ((d.arrived slot t md e).mark e.marker).inhibit = true := by rw [hfree]; simp
  simp only [Dev.slotArrive, ht, hfirst]
  exact (if_neg (by simp [hon])).trans (if_neg hnot)

end

/-- Settles O42: FIRE by what it meets, INHIBIT by its level, the ends by their cycles, a slot by what it was armed for, and the output by what holds it. -/
theorem markerOutputs : Obligations.MarkerOutputs := by
  unfold Obligations.MarkerOutputs
  refine fun s hm => ⟨fun k e d ht hp hdue hinh => ?alone, fun k e d ht hp hdue hfree => ?clash, fun k e d ht => ?inhibit, fun k t ht => ?pulseEnd, fun k hlow => ?holdoffEnd,
    fun t slot md e ht hfirst => ?slot, fun d k => ⟨markUpdate_falls, markUpdate_rises⟩⟩
  case alone =>
    have hrow := exec_run_eq (exec_markFire s k) hm (markFire_alone ht hp hdue hinh)
    rw [hrow]
    refine ⟨fun hfree => ?_, fun hlow hhold => ?_⟩
    · obtain ⟨hkept, hrise⟩ := fireActs_free (e.lineage + 1) (not_inHoldoff hfree)
      exact ⟨fun hi => by rw [hkept hi], fun hi => by rw [hrise hi, markRise_pulse (not_inHoldoff hfree)]⟩
    · obtain ⟨hkept, hrise⟩ := fireActs_holdoff (e.lineage + 1) (inHoldoff_of_low hlow hhold)
      exact ⟨fun hi => by rw [hkept hi], fun hi => by rw [hrise hi]⟩
  case clash =>
    have hrow := exec_run_eq (exec_markFire s k) hm (markFire_clash ht hp hdue)
    rw [hrow]
    obtain ⟨hkept, hrise⟩ := fireActs_free (e.lineage + 1) (not_inHoldoff hfree)
    exact ⟨fun hi => by rw [hkept hi], fun hi => by rw [hrise hi]⟩
  case inhibit =>
    exact ⟨fun hl => exec_run_eq (exec_markInhibit s k) hm (markInhibit_pulse ht hl), fun hl => exec_run_eq (exec_markInhibit s k) hm (markInhibit_level ht hl)⟩
  case pulseEnd => exact exec_run_eq (exec_markPulseEnd s k) hm (markPulseEnd_first (d := s.start) ht)
  case holdoffEnd =>
    refine ⟨_, exec_run_eq (exec_markHoldoffEnd s k) hm (markHoldoffEnd_low hlow), ?_⟩
    rw [mark_setMark_same]
    exact ⟨rfl, rfl, rfl, waitOver_spans ..⟩
  case slot =>
    have hrow : ∀ {y : Dev}, s.start.slotArrive = y → exec .markSlotArrive s = .next (s.after y) := exec_run_eq (exec_markSlotArrive s) hm
    have ht' : earliest (s.start.marks.arrivals.map fun x => x.2.1) = some t := ht
    exact ⟨fun hoff => hrow (slotArrive_off ht' hfirst hoff), fun hon hfree hpulse => hrow ((slotArrive_on ht' hfirst hon hfree).trans (if_neg hpulse)),
      fun hon hfree hspan => hrow ((slotArrive_on ht' hfirst hon hfree).trans (if_pos hspan)), fun hon hinh hpair => hrow (slotArrive_inhibited ht' hfirst hon hinh hpair)⟩

end Sys2Proof.Machine
end

section
/-!
SUPPORT. Writes of the Pantry (R330, R331): what a write begins with, what the flash holds at its end, and the statement O33.
-/
namespace Sys2Proof.Machine

/-! ### Codes of self-calibration (R322) -/

@[simp] theorem calCode_time (d : Dev) (code kind : Nat) : (d.calCode code kind).time = d.time := by simp [Dev.calCode]
@[simp] theorem calCode_cal (d : Dev) (code kind : Nat) : (d.calCode code kind).cal = d.cal := by simp [Dev.calCode]
@[simp] theorem calCode_pantry (d : Dev) (code kind : Nat) : (d.calCode code kind).pantry = d.pantry := by simp [Dev.calCode]
@[simp] theorem calCode_flashLog (d : Dev) (code kind : Nat) : (d.calCode code kind).flashLog = d.flashLog := by simp [Dev.calCode]

theorem calCode_reason (d : Dev) (code kind : Nat) : (d.calCode code kind).fld R.CAL_REJECT_REASON = code % 2 ^ 16 := by
  unfold Dev.calCode
  rw [fld_setFld_apart _ R.CAL_REJECT_CHAN _ _ (by decide), fld_setFld_apart _ R.CAL_REJECT_ROLE _ _ (by decide), fld_setFld_apart _ R.CAL_REJECT_KIND _ _ (by decide)]
  exact fld_setFld_same d R.CAL_REJECT_REASON code (by decide)

/-! ### The start of a write (R330) -/

theorem pantryTaken_framed {d : Dev} (h : d.mode.framed = true) : d.pantryTaken = d.pantry.taken := if_pos h

theorem pantryTaken_unframed {d : Dev} (h : d.mode.framed = false) :
    d.pantryTaken = some (d.pantryTake (d.pos.linesPassed / d.pos.frameLines * d.pos.frameLines)) := if_neg (by simp [h])

/-- The copy that a write goes to: the one that is not current, and copy A where none is valid. -/
def Dev.pantryTarget (d : Dev) : Nat := if d.fld R.CAL_STATUS_PANTRY_VALID = 0 then 0 else 1 - d.fld R.CAL_STATUS_PANTRY_COPY

/-- The SEQ of a write. -/
def Dev.pantryNextSeq (d : Dev) : Nat := if d.fld R.CAL_STATUS_PANTRY_VALID = 0 then 1 else (d.fld R.CAL_PANTRY_SEQ + 1) % 2 ^ 32

/-- VALID without the bit of a copy. -/
def Dev.pantryValidBut (d : Dev) (t : Nat) : Nat :=
  if t = 0 then d.fld R.CAL_STATUS_PANTRY_VALID / 2 * 2 else d.fld R.CAL_STATUS_PANTRY_VALID % 2

/-- A write of contents has begun. -/
def Dev.pantryBegun (d : Dev) (c : PantryTaken) : Dev :=
  (((d.raiseIf c.omitted R.CAL_EVENTS_SEED_OMITTED).flashErase (flashPantry d.pantryTarget) pantrySize).setFld R.CAL_STATUS_PANTRY_VALID
      (d.pantryValidBut d.pantryTarget)).setPantry fun p =>
    { p with writing := some (d.pantryTarget, d.pantryNextSeq, pantryBytes d.pantryNextSeq d.devicePlace c.trimSeq c.line c.secs), trigger := false, taken := none }

section
variable {d : Dev}

theorem pantryWriteStart_waits (h : d.pantryTaken = none) : d.pantryWriteStart = d := by simp [Dev.pantryWriteStart, h]

theorem pantryWriteStart_begins {c : PantryTaken} (hdue : d.pantryDue = true) (h : d.pantryTaken = some c) : d.pantryWriteStart = d.pantryBegun c := by
  simp only [Dev.pantryWriteStart, hdue, h]
  rfl

variable (c : PantryTaken)

theorem pantryBegun_erases : (flashPantry d.pantryTarget, pantrySize, ([] : List Byte)) ∈ (d.pantryBegun c).flashLog := by
  simp [Dev.pantryBegun, Dev.setPantry, Dev.flashErase, Dev.flashFill]

theorem pantryBegun_valid : (d.pantryBegun c).fld R.CAL_STATUS_PANTRY_VALID = d.pantryValidBut d.pantryTarget % 2 ^ 2 :=
  fld_setFld_same _ R.CAL_STATUS_PANTRY_VALID _ (by decide)

end

/-- Where no copy is valid, a write makes copy A with SEQ 1. -/
theorem pantryTarget_first {d : Dev} (h : d.fld R.CAL_STATUS_PANTRY_VALID = 0) : d.pantryTarget = 0 ∧ d.pantryNextSeq = 1 := ⟨if_pos h, if_pos h⟩

/-- Where a copy is valid, a write makes the other one with the next SEQ. -/
theorem pantryTarget_next {d : Dev} (h : d.fld R.CAL_STATUS_PANTRY_VALID ≠ 0) :
    d.pantryTarget = 1 - d.fld R.CAL_STATUS_PANTRY_COPY ∧ d.pantryNextSeq = (d.fld R.CAL_PANTRY_SEQ + 1) % 2 ^ 32 := ⟨if_neg h, if_neg h⟩

/-! ### The end of a write (R331) -/

/-- The flash holds what it took of a copy, and no write is under way. -/
def Dev.pantryHeld (d : Dev) (t : Nat) (got : List Byte) : Dev := (d.flashFill (flashPantry t) pantrySize got).setPantry fun p => { p with writing := none }

/-- A write has succeeded: the copies are looked at again, and the interval runs from now. -/
def Dev.pantryWritten (d : Dev) : Dev := (d.pantryLook.raise R.CAL_EVENTS_PANTRY_WRITTEN).setPantry fun p => { p with lastWrite := some d.time, failedAt := none }

/-- A write has failed: its trigger stands again, from now on. -/
def Dev.pantryFailed (d : Dev) : Dev :=
  ((d.calCode 0x500D 6).raise R.CAL_EVENTS_PANTRY_FAIL).setPantry fun p => { p with failedAt := some d.time, trigger := true }

section
variable {d : Dev} {t q : Nat} {bs got : List Byte} {held : Option (List Byte)} (hw : d.pantry.writing = some (t, q, bs))
  (hgot : (held.getD bs).take pantrySize = got)
include hw hgot

theorem pantryWriteDone_valid (hv : pantryValid got = true ∧ leAt got 8 4 = leAt bs 8 4) : d.pantryWriteDone held = (d.pantryHeld t got).pantryWritten := by
  simp only [Dev.pantryWriteDone, hw, hgot]
  exact if_pos hv

theorem pantryWriteDone_invalid (hv : ¬ (pantryValid got = true ∧ leAt got 8 4 = leAt bs 8 4)) : d.pantryWriteDone held = (d.pantryHeld t got).pantryFailed := by
  simp only [Dev.pantryWriteDone, hw, hgot]
  exact if_neg hv

end

section
variable (d : Dev)

theorem pantryHeld_writing (t : Nat) (got : List Byte) : (d.pantryHeld t got).pantry.writing = none := rfl
theorem pantryHeld_flashLog (t : Nat) (got : List Byte) : (flashPantry t, pantrySize, got) ∈ (d.pantryHeld t got).flashLog := List.mem_cons_self

/-- Looking at the copies gives the sections of the current one. -/
theorem pantryLook_pantry : d.pantryLook.pantry = { d.pantry with secs := d.pantryLook.pantry.secs } := by simp [Dev.pantryLook, Dev.setPantry]

@[simp] theorem pantryLook_flashLog : d.pantryLook.flashLog = d.flashLog := by simp [Dev.pantryLook, Dev.setPantry]

@[simp] theorem pantryWritten_writing : d.pantryWritten.pantry.writing = d.pantry.writing := by
  simp only [Dev.pantryWritten, Dev.setPantry, Dev.raise_pantry]
  rw [pantryLook_pantry]

@[simp] theorem pantryWritten_flashLog : d.pantryWritten.flashLog = d.flashLog := by simp [Dev.pantryWritten, Dev.setPantry]

theorem pantryWritten_event : d.pantryWritten.fld R.CAL_EVENTS_PANTRY_WRITTEN = 1 :=
  raise_fld _ R.CAL_EVENTS_PANTRY_WRITTEN (by decide) rfl (not_chanCount (by decide))

@[simp] theorem pantryFailed_writing : d.pantryFailed.pantry.writing = d.pantry.writing := by simp [Dev.pantryFailed, Dev.setPantry]
@[simp] theorem pantryFailed_flashLog : d.pantryFailed.flashLog = d.flashLog := by simp [Dev.pantryFailed, Dev.setPantry]
theorem pantryFailed_lastWrite : d.pantryFailed.pantry.lastWrite = d.pantry.lastWrite := by simp [Dev.pantryFailed, Dev.setPantry]

theorem pantryFailed_event : d.pantryFailed.fld R.CAL_EVENTS_PANTRY_FAIL = 1 :=
  raise_fld _ R.CAL_EVENTS_PANTRY_FAIL (by decide) rfl (not_chanCount (by decide))

theorem pantryFailed_reason : d.pantryFailed.fld R.CAL_REJECT_REASON = 0x500D :=
  (raise_fld_apart _ R.CAL_EVENTS_PANTRY_FAIL R.CAL_REJECT_REASON (by decide) (by decide)).trans (calCode_reason d 0x500D 6)

end

/-- Settles O33: a write that is due begins with the contents that are taken, and ends by whether what the flash holds is valid with its SEQ. That the
contents are those of the last boundary, or of now in a mode without frames, is log 270. -/
theorem pantryWrites : Obligations.PantryWrites := by
  unfold Obligations.PantryWrites
  refine fun s hm => ⟨fun _ hframed hnone => ?waits, fun c hdue hframed hnow => ?begins, fun held t q bs hw => ?ends⟩
  case waits => exact exec_run_eq (exec_pantryWriteStart s) hm (pantryWriteStart_waits ((pantryTaken_framed (d := s.start) hframed).trans hnone))
  case begins =>
    have htaken : s.start.pantryTaken = some c := by
      cases hmode : s.dev.mode.framed
      · rw [hnow hmode]; exact pantryTaken_unframed hmode
      · exact (pantryTaken_framed hmode).trans (hframed hmode)
    exact ⟨s.start.pantryBegun c, s.start.pantryTarget, s.start.pantryNextSeq, exec_run_eq (exec_pantryWriteStart s) hm (pantryWriteStart_begins hdue htaken),
      rfl, rfl, pantryBegun_erases c, pantryBegun_valid c, pantryTarget_first (d := s.start), pantryTarget_next (d := s.start)⟩
  case ends =>
    intro got
    have hheld := pantryHeld_flashLog s.start t got
    by_cases hv : pantryValid got = true ∧ leAt got 8 4 = leAt bs 8 4
    · obtain ⟨hvalid, hseq⟩ := hv
      exact ⟨_, exec_run_eq (exec_pantryWriteDone s held) hm (pantryWriteDone_valid hw rfl ⟨hvalid, hseq⟩), pantryWritten_writing _, by rwa [pantryWritten_flashLog],
        fun _ _ => ⟨pantryWritten_event _, rfl, rfl⟩, fun hbad => absurd hbad (not_or.mpr ⟨by simp [hvalid], not_not.mpr hseq⟩)⟩
    · exact ⟨_, exec_run_eq (exec_pantryWriteDone s held) hm (pantryWriteDone_invalid hw rfl hv), pantryFailed_writing _, by rwa [pantryFailed_flashLog],
        fun hvalid hseq => absurd ⟨hvalid, hseq⟩ hv, fun _ => ⟨pantryFailed_event _, pantryFailed_reason _, rfl, rfl, pantryFailed_lastWrite _⟩⟩

end Sys2Proof.Machine
end

section
/-!
SUPPORT. The cycle of self-calibration and the external method (R316, R321, R325 to R327): how a decision, a deadline and a result end a state of each,
and the statement O34.
-/
namespace Sys2Proof.Machine

/-! ### The end of a cycle (R316, R321, R325) -/

theorem setCal_fld (d : Dev) (f : CalState → CalState) (g : Fld) : (d.setCal f).fld g = d.fld g := rfl
theorem setCal_calPhase (d : Dev) (f : CalState → CalState) : (d.setCal f).calPhase = d.calPhase := rfl

@[simp] theorem calEnd_phase (d : Dev) : d.calEnd.calPhase = 0 := by
  rw [Dev.calEnd, setCal_calPhase, Dev.calPhase, fld_setFld_apart _ R.CAL_STATUS_STEPPING R.CAL_STATUS_PHASE 0 (by decide)]
  exact fld_setFld_same d R.CAL_STATUS_PHASE calIdle (by decide)

@[simp] theorem calEnd_cal (d : Dev) : d.calEnd.cal = { ext := d.cal.ext } := by simp [Dev.calEnd, Dev.setCal]

/-- The end of a cycle changes STATUS alone. -/
theorem calEnd_fld (d : Dev) (g : Fld) (hphase : R.CAL_STATUS_PHASE.apart g) (hstep : R.CAL_STATUS_STEPPING.apart g) : d.calEnd.fld g = d.fld g := by
  rw [Dev.calEnd, setCal_fld, fld_setFld_apart _ _ _ _ hstep, fld_setFld_apart _ _ _ _ hphase]

/-- A cycle is abandoned with a code. -/
def Dev.calAbandoned (d : Dev) (code : Nat) : Dev :=
  ((d.calCode code 6).raise R.CAL_EVENTS_ABANDONED).calEnd.setCal fun c => { c with endedAt := d.time + 1 }

theorem calAbandon_active {d : Dev} (code : Nat) (h : d.calActive = true) : d.calAbandon code = d.calAbandoned code := if_neg (by simp [h])

section
variable (d : Dev) (code : Nat)

theorem calAbandoned_phase : (d.calAbandoned code).calPhase = 0 := by rw [Dev.calAbandoned, setCal_calPhase, calEnd_phase]

theorem calAbandoned_fld (g : Fld) (hphase : R.CAL_STATUS_PHASE.apart g) (hstep : R.CAL_STATUS_STEPPING.apart g) :
    (d.calAbandoned code).fld g = ((d.calCode code 6).raise R.CAL_EVENTS_ABANDONED).fld g := by
  rw [Dev.calAbandoned, setCal_fld, calEnd_fld _ _ hphase hstep]

theorem calAbandoned_reason : (d.calAbandoned code).fld R.CAL_REJECT_REASON = code % 2 ^ 16 := by
  rw [calAbandoned_fld _ _ _ (by decide) (by decide), raise_fld_apart _ _ _ (by decide) (by decide), calCode_reason]

theorem calAbandoned_event : (d.calAbandoned code).fld R.CAL_EVENTS_ABANDONED = 1 := by
  rw [calAbandoned_fld _ _ _ (by decide) (by decide)]
  exact raise_fld _ _ (by decide) rfl (not_chanCount (by decide))

theorem calAbandoned_cal : (d.calAbandoned code).cal = { ext := d.cal.ext, endedAt := d.time + 1 } := by simp [Dev.calAbandoned, Dev.setCal]

end

/-! ### Decisions (R316, R321) -/

/-- A cycle's units are accepted: its targets are set. -/
def Dev.calAccepted (d : Dev) (u : CalUnits) : Dev := ((d.calTargets u).raise R.CAL_EVENTS_ACCEPT).fire P.calAccept

section
variable {d e : Dev} {u : CalUnits}

/-- Past the deadline, a cycle without a decision is abandoned. -/
theorem calLate_undecided (hphase : d.calPhase = calCompute) (hundecided : d.cal.decided = false) (hpast : d.calDeadline ≤ d.pos.linesPassed) :
    d.calLate = d.calAbandoned 0x5009 := by
  have hlate : d.calLate = d.calAbandon 0x5009 := if_pos ⟨hphase, by simp [hundecided], hpast⟩
  exact hlate.trans (calAbandon_active _ (by simp [Dev.calActive, hphase]))

theorem calDecision_late (hready : d.calReady = true) (hpast : d.calDeadline ≤ d.pos.linesPassed) : d.calDecision = d.calLate := by
  simp [Dev.calDecision, hready, hpast]

variable (hready : d.calReady = true) (hpast : d.pos.linesPassed < d.calDeadline) (hunits : d.calUnits = (e, u))
include hready hpast hunits

theorem calDecision_in_time : d.calDecision = if u.count = 0 then e.calEnd else (e.advance (e.time + 1)).calAccepted u := by
  simp only [Dev.calDecision, hready, hunits, Nat.not_le.mpr hpast]
  rfl

end

@[simp] theorem calAccepted_cal (d : Dev) (u : CalUnits) : (d.calAccepted u).cal = (d.calTargets u).cal := by simp [Dev.calAccepted]

theorem calTargets_decided (d : Dev) (u : CalUnits) : (d.calTargets u).cal.decided = true := rfl

theorem calAccepted_event (d : Dev) (u : CalUnits) : (d.calAccepted u).fld R.CAL_EVENTS_ACCEPT = 1 :=
  (fire_fld _ P.calAccept .pulse 0 false R.CAL_EVENTS_ACCEPT (by decide) (by decide)).trans
    (raise_fld _ R.CAL_EVENTS_ACCEPT (by decide) rfl (not_chanCount (by decide)))

/-! ### The external method (R326, R327) -/

@[simp] theorem opPhase_ctx (d : Dev) (c n : Nat) : (d.opPhase c n).ctx c = (d.ctx c).map (fun z => { z with phase := n }) := ctx_updCtx_same ..
@[simp] theorem opPhase_cal (d : Dev) (c n : Nat) : (d.opPhase c n).cal = d.cal := rfl

/-- The run goes on with other data. -/
def Dev.setExt (d : Dev) (e : ExtCal) : Dev := d.setCal fun c => { c with ext := some e }

@[simp] theorem setExt_ext (d : Dev) (e : ExtCal) : (d.setExt e).cal.ext = some e := rfl
@[simp] theorem setExt_ctx (d : Dev) (e : ExtCal) (c : Nat) : (d.setExt e).ctx c = d.ctx c := rfl

section
variable {d : Dev} {c : Nat} {y : Ctx} {t : List (Nat × Ctx)} {e : ExtCal} (hops : d.opsOf 0x10 = (c, y) :: t) (hext : d.cal.ext = some e)
include hops hext

section
variable (hsums : d.extSums = true) (hfull : e.full = true)
include hsums hfull

/-- BLACK of a run that takes black alone ends in COMPUTE. -/
theorem extSumsDone_black_alone (hphase : y.phase = 0) (hmode : e.mode = 2) : d.extSumsDone = (d.setExt { e with black := e.sums, sums := e.sums }).opPhase c 3 := by
  simp [Dev.extSumsDone, Dev.setExt, hops, hext, hsums, hfull, hphase, hmode]

/-- BLACK of a run that takes white too ends in HOLD. -/
theorem extSumsDone_black (hphase : y.phase = 0) (hmode : e.mode ≠ 2) :
    d.extSumsDone = (d.setExt { e with black := e.sums, sums := [] }).updCtx c fun z => { z with phase := 1, st := 2 } := by
  simp [Dev.extSumsDone, Dev.setExt, hops, hext, hsums, hfull, hphase, hmode]

theorem extSumsDone_white (hphase : y.phase ≠ 0) : d.extSumsDone = d.opPhase c 3 := by
  simp [Dev.extSumsDone, hops, hext, hsums, hfull, hphase]

end

variable (hphase : y.phase = 3)
include hphase

theorem extComputeDone_ok {e' : ExtCal} (h : d.extCompute e = .ok e') : d.extComputeDone = (d.setExt e').opPhase c 4 := by
  simp [Dev.extComputeDone, Dev.setExt, hops, hext, hphase, h]

theorem extComputeDone_error {code : Nat} (h : d.extCompute e = .error code) : d.extComputeDone = (d.calCode code 5).extEnd.opEnd c code 0 0 := by
  simp [Dev.extComputeDone, hops, hext, hphase, h]

end

/-- COMPUTE rejects a run for sums that do not agree, or for too many dead columns. -/
theorem extCompute_error {d : Dev} {e : ExtCal} {code : Nat} (h : d.extCompute e = .error code) : code = 0x500A ∨ code = 0x500B := by
  unfold Dev.extCompute at h
  dsimp only at h
  generalize (if e.mode = 2 then e.black else e.sums).map (fun x => (x.role, d.extResult e x)) = results at h
  split at h
  · exact .inr (Except.error.inj h).symm
  · split at h
    · exact .inl (Except.error.inj h).symm
    · cases h

/-- Settles O34: a decision by its units and its deadline, the sums of an external run by its state and mode, its results by what COMPUTE answers. That each
reject and ACCEPT has a cycle of its own is log 116, that a cycle without an accepted unit ends IDLE log 117, and what an abandoned cycle leaves log 271. -/
theorem calibrationCycle : Obligations.CalibrationCycle := by
  unfold Obligations.CalibrationCycle
  refine fun s hm => ⟨fun d u hready hpast hunits => ?decision, fun hphase hundecided hpast => ?late, fun c y t e hops hext => ⟨fun hsums hfull => ?sums, fun hphase => ?compute⟩⟩
  case decision =>
    have hrow := exec_run_eq (exec_calDecision s) hm (calDecision_in_time hready hpast hunits)
    refine ⟨_, hrow, fun h => ?_, fun h => ?_⟩
    · rw [if_pos h]; exact ⟨rfl, calEnd_phase d, calEnd_cal d⟩
    · rw [if_neg h, calAccepted_cal]; exact ⟨rfl, calTargets_decided .., calAccepted_event ..⟩
  case late =>
    have hlate := calLate_undecided hphase hundecided hpast
    exact ⟨_, exec_run_eq (exec_calComputeLate s) hm hlate, fun hready => exec_run_eq (exec_calDecision s) hm ((calDecision_late hready hpast).trans hlate),
      calAbandoned_phase .., calAbandoned_reason .., calAbandoned_event .., calAbandoned_cal ..⟩
  case sums =>
    have hrow : ∀ {x : Dev}, s.start.extSumsDone = x → exec .extCalSumsDone s = .next (s.after x) := exec_run_eq (exec_extCalSumsDone s) hm
    by_cases hphase : y.phase = 0
    · by_cases hmode : e.mode = 2
      · exact ⟨_, hrow (extSumsDone_black_alone hops hext hsums hfull hphase hmode), fun _ _ => ⟨opPhase_ctx .., rfl⟩, fun _ h => absurd hmode h, fun h => absurd hphase h⟩
      · exact ⟨_, hrow (extSumsDone_black hops hext hsums hfull hphase hmode), fun _ h => absurd h hmode, fun _ _ => ⟨ctx_updCtx_same .., rfl⟩, fun h => absurd hphase h⟩
    · exact ⟨_, hrow (extSumsDone_white hops hext hsums hfull hphase), fun h => absurd h hphase, fun h => absurd h hphase, fun _ => ⟨opPhase_ctx .., rfl⟩⟩
  case compute =>
    have hrow : ∀ {x : Dev}, s.start.extComputeDone = x → exec .extCalComputeDone s = .next (s.after x) := exec_run_eq (exec_extCalComputeDone s) hm
    exact ⟨fun e' hok => ⟨_, hrow (extComputeDone_ok hops hext hphase hok), rfl, opPhase_ctx ..⟩,
      fun code herr => ⟨hrow (extComputeDone_error hops hext hphase herr), extCompute_error herr⟩⟩

end Sys2Proof.Machine
end

section
/-!
SUPPORT. Fields that hold a value that fits them, and fields of different words.
-/
namespace Sys2Proof.Machine

/-- A field reads as a value that fits it. -/
theorem fld_setFld_fits (d : Dev) (f : Fld) (v : Nat) (h : f.lo + f.w ≤ 64 ∧ v < 2 ^ f.w) : (d.setFld f v).fld f = v :=
  (fld_setFld_same d f v h.1).trans (Nat.mod_eq_of_lt h.2)

theorem fldOf_setFld_fits (d : Dev) (f : Fld) (v : Nat) (h : f.lo + f.w ≤ 64 ∧ v < 2 ^ f.w) : fldOf (d.setFld f v).regs f = v := fld_setFld_fits d f v h

/-- Fields of two words. -/
theorem apart_of_addr {f g : Fld} (h : g.addr ≠ f.addr) (hw : f.lo + f.w ≤ 32 ∧ g.lo + g.w ≤ 32) : f.apart g := .inl ⟨h, .inl hw.1, .inl hw.2⟩

/-- Fields of one word that share no bit. -/
theorem apart_of_bits {f g : Fld} (h : g.addr = f.addr) (hw : f.lo + f.w ≤ 32 ∧ g.lo + g.w ≤ 32) (hb : g.lo + g.w ≤ f.lo ∨ f.lo + f.w ≤ g.lo) : f.apart g :=
  .inr ⟨h, hw.1, hw.2, hb⟩

/-- A field that shares a word with nothing stored is what it was. -/
theorem flag_setFld_apart (d : Dev) (f g : Fld) (v : Nat) (h : f.apart g) : (d.setFld f v).flag g = d.flag g := by
  rw [Dev.flag, fld_setFld_apart d f g v h, Dev.flag]

/-- A field of a word reads its bits of what was stored in the whole word. -/
theorem fld_setWord_part (d : Dev) {f g : Fld} (v : Nat) (hf : f.lo = 0 ∧ f.w = 32) (ha : g.addr = f.addr) (hg : g.lo + g.w ≤ 32) :
    (d.setFld f v).fld g = bits v g.lo g.w := by
  obtain ⟨hlo, hw⟩ := hf
  have hcell : ((d.setFld f v).reg g.addr).toNat = v % 2 ^ 32 := by
    have hword : (d.setFld f v).fld f = v % 2 ^ f.w := fld_setFld_same d f v (by omega)
    have hreg := reg_lt (d.setFld f v) g.addr
    simp only [Dev.fld, Dev.cell, hlo, hw, bits, Nat.zero_add, Nat.le_refl, if_true, Nat.add_zero, Nat.pow_zero, Nat.div_one] at hword
    rw [ha] at hreg ⊢
    rwa [Nat.mod_eq_of_lt hreg] at hword
  simp only [Dev.fld, Dev.cell, hg, if_true, Nat.add_zero, hcell, bits]
  rw [show 2 ^ 32 = 2 ^ g.lo * 2 ^ (32 - g.lo) by rw [← Nat.pow_add]; congr 1; omega, Nat.mod_mul_right_div_self, Nat.mod_mod_of_dvd]
  exact Nat.pow_dvd_pow 2 (by omega)

/-- An event leaves the fields behind the Plaza's words alone. -/
theorem fire_fld_behind (d : Dev) (p : Nat) (k : EvKind) (l : Nat) (fl : Bool) (g : Fld) (hp : p < 0x1000) (hg : 0x500000 ≤ g.addr) : (d.fire p k l fl).fld g = d.fld g := by
  have hchan : g.offChan := .inr (by omega)
  unfold Dev.fire
  split
  · have hapart : ∀ f : Fld, f.addr + 4 < 0x500000 → f.apart g := fun f hf => .inl ⟨by omega, .inr (by omega), .inr (by omega)⟩
    dsimp only [Dev.bump]
    rw [raise_fld_apart _ _ _ (hapart _ (by decide)) hchan, fld_setFld_apart _ _ _ _ (hapart _ (by decide)), fld_setFld_apart _ _ _ _ (hapart _ (by decide)), setBit_fld,
      fld_setFld_apart _ _ _ _ (hapart _ (by simp only [Fld.bit, R.PLZ_LOOP_MAP]; omega))]
  · exact route_fld _ _ _ _ _ _ _ hchan

end Sys2Proof.Machine
end

section
/-!
SUPPORT. The host interface's stores (chapter 12): contexts and queues as their accessors see them, what signals and completion entries leave alone, and what
becomes of a command's context when its entry is made.
-/
namespace Sys2Proof.Machine

/-! ### Contexts and queues -/

@[simp] theorem ctx_setCtx_same (d : Dev) (c : Nat) (x : Option Ctx) : (d.setCtx c x).ctx c = x := tget_tset_same ..

theorem ctx_setCtx_other (d : Dev) {c k : Nat} (x : Option Ctx) (h : k ≠ c) : (d.setCtx c x).ctx k = d.ctx k := tget_tset_other _ _ _ _ _ h _

theorem ctx_updCtx_other (d : Dev) {c k : Nat} (f : Ctx → Ctx) (h : k ≠ c) : (d.updCtx c f).ctx k = d.ctx k := ctx_setCtx_other d _ h

theorem updCtx_of_ctx {d : Dev} {c : Nat} {y : Ctx} (h : d.ctx c = some y) (f : Ctx → Ctx) : d.updCtx c f = d.setCtx c (some (f y)) := by rw [Dev.updCtx, h]; rfl

theorem ctx_congr {d d' : Dev} (h : d'.host.ctxs = d.host.ctxs) (c : Nat) : d'.ctx c = d.ctx c := by rw [Dev.ctx, h, Dev.ctx]

theorem queue_setQueue_other (d : Dev) {q p : Nat} (x : Queue) (h : p ≠ q) : (d.setQueue q x).queue p = d.queue p := tget_tset_other _ _ _ _ _ h _

/-! ### What the host interface's own operations leave alone -/

/-- A change of registers, of queues, contexts and pending vectors, and of what goes out. -/
structure HostStep (d d' : Dev) : Prop where
  rest : d' = { d with regs := d'.regs, host := { d.host with queues := d'.host.queues, ctxs := d'.host.ctxs, pcie := { d.host.pcie with pendingVec := d'.host.pcie.pendingVec } }, out := d'.out }

theorem HostStep.refl (d : Dev) : HostStep d d := ⟨rfl⟩

theorem HostStep.trans {a b c : Dev} (h : HostStep a b) (k : HostStep b c) : HostStep a c := by
  refine ⟨?_⟩
  have hb := h.rest
  have hc := k.rest
  rw [hb] at hc
  exact hc

theorem HostStep.setFld (d : Dev) (f : Fld) (v : Nat) : HostStep d (d.setFld f v) := ⟨by rw [Dev.setFld_eq]⟩
theorem HostStep.setCtx (d : Dev) (c : Nat) (x : Option Ctx) : HostStep d (d.setCtx c x) := ⟨rfl⟩
theorem HostStep.updCtx (d : Dev) (c : Nat) (f : Ctx → Ctx) : HostStep d (d.updCtx c f) := ⟨rfl⟩
theorem HostStep.setQueue (d : Dev) (q : Nat) (x : Queue) : HostStep d (d.setQueue q x) := ⟨rfl⟩
theorem HostStep.emit (d : Dev) (o : Output) : HostStep d (d.emit o) := ⟨rfl⟩

theorem HostStep.time {d d' : Dev} (h : HostStep d d') : d'.time = d.time := by rw [h.rest]
theorem HostStep.mode {d d' : Dev} (h : HostStep d d') : d'.mode = d.mode := by rw [h.rest]
theorem HostStep.dramLog {d d' : Dev} (h : HostStep d d') : d'.dramLog = d.dramLog := by rw [h.rest]
theorem HostStep.flashLog {d d' : Dev} (h : HostStep d d') : d'.flashLog = d.flashLog := by rw [h.rest]
theorem HostStep.spool {d d' : Dev} (h : HostStep d d') : d'.host.spool = d.host.spool := by rw [h.rest]
theorem HostStep.spoolOut {d d' : Dev} (h : HostStep d d') : d'.host.spoolOut = d.host.spoolOut := by rw [h.rest]

/-! ### Signals (R381, R383) -/

theorem hostStep_msixSend (d : Dev) (fn v : Nat) : HostStep d (d.msixSend fn v) := by
  unfold Dev.msixSend
  dsimp only
  split
  · exact .emit ..
  · split
    · exact .refl d
    · exact ⟨rfl⟩

@[simp] theorem msixSend_regs (d : Dev) (fn v : Nat) : (d.msixSend fn v).regs = d.regs := by
  unfold Dev.msixSend
  dsimp only
  split
  · rfl
  · split <;> rfl

theorem msixSend_host (d : Dev) (fn v : Nat) :
    (d.msixSend fn v).host = { d.host with pcie := { d.host.pcie with pendingVec := (d.msixSend fn v).host.pcie.pendingVec } } := by
  unfold Dev.msixSend
  dsimp only
  split
  · rfl
  · split <;> rfl

theorem hostStep_hostRaise (d : Dev) (f : Fld) : HostStep d (d.hostRaise f) := by
  unfold Dev.hostRaise
  dsimp only
  split
  · exact .refl d
  · split
    · exact .setFld ..
    · exact (HostStep.setFld ..).trans (hostStep_msixSend ..)

theorem hostRaise_host (d : Dev) (f : Fld) :
    (d.hostRaise f).host = { d.host with pcie := { d.host.pcie with pendingVec := (d.hostRaise f).host.pcie.pendingVec } } := by
  unfold Dev.hostRaise
  dsimp only
  split
  · rfl
  · split
    · simp
    · rw [msixSend_host]; simp

@[simp] theorem hostRaise_ctxs (d : Dev) (f : Fld) : (d.hostRaise f).host.ctxs = d.host.ctxs := by rw [hostRaise_host]
@[simp] theorem hostRaise_queues (d : Dev) (f : Fld) : (d.hostRaise f).host.queues = d.host.queues := by rw [hostRaise_host]
@[simp] theorem hostRaise_fetched (d : Dev) (f : Fld) : (d.hostRaise f).host.fetched = d.host.fetched := by rw [hostRaise_host]

/-- A newly set event of the host's interface changes its word alone. -/
theorem hostRaise_reg (d : Dev) (f : Fld) (h : f.lo + f.w ≤ 32) {a : Nat} (ha : a ≠ f.addr) : (d.hostRaise f).reg a = d.reg a := by
  have hs : ∀ x : Dev, x.regs = (d.setFld f 1).regs → x.reg a = d.reg a := fun x hx => by
    rw [reg_of, hx, ← reg_of]
    exact reg_setFld_other _ _ _ _ ha (by omega)
  unfold Dev.hostRaise
  dsimp only
  split
  · rfl
  · split
    · exact hs _ rfl
    · exact hs _ (msixSend_regs ..)

theorem keeps_hostRaise (d : Dev) (f : Fld) (h : f.lo + f.w ≤ 32) : d.keeps (d.hostRaise f) (· = f.addr) :=
  ⟨fun _ ha => hostRaise_reg d f h ha, (hostStep_hostRaise d f).dramLog, (hostStep_hostRaise d f).flashLog⟩

theorem hostRaise_fld (d : Dev) (f : Fld) (h : f.lo + f.w ≤ 32 ∧ f.w = 1) : (d.hostRaise f).fld f = 1 := by
  obtain ⟨h32, hw⟩ := h
  have hlt := fld_lt d f
  have hs : ∀ x : Dev, x.regs = (d.setFld f 1).regs → x.fld f = 1 := fun x hx => by
    rw [fld_of, hx, ← fld_of]
    exact fld_setFld_fits d f 1 ⟨by omega, by rw [hw]; decide⟩
  unfold Dev.hostRaise
  dsimp only
  split
  · next hf =>
    simp only [Dev.flag, decide_eq_true_eq] at hf
    rw [hw] at hlt
    omega
  · split
    · exact hs _ rfl
    · exact hs _ (msixSend_regs ..)

theorem hostRaise_fld_apart (d : Dev) (f g : Fld) (h : f.apart g) : (d.hostRaise f).fld g = d.fld g := by
  have hs : ∀ x : Dev, x.regs = (d.setFld f 1).regs → x.fld g = d.fld g := fun x hx => by
    rw [fld_of, hx, ← fld_of]
    exact fld_setFld_apart d f g 1 h
  unfold Dev.hostRaise
  dsimp only
  split
  · rfl
  · split
    · exact hs _ rfl
    · exact hs _ (msixSend_regs ..)

theorem hostStep_hostErr (d : Dev) (code : Nat) : HostStep d (d.hostErr code) := by
  unfold Dev.hostErr
  split
  · exact .setFld ..
  · exact .refl d

@[simp] theorem hostErr_host (d : Dev) (code : Nat) : (d.hostErr code).host = d.host := by unfold Dev.hostErr; split <;> simp
@[simp] theorem hostErr_out (d : Dev) (code : Nat) : (d.hostErr code).out = d.out := by unfold Dev.hostErr; split <;> simp
@[simp] theorem hostErr_ctx (d : Dev) (code c : Nat) : (d.hostErr code).ctx c = d.ctx c := by rw [Dev.ctx, hostErr_host, Dev.ctx]
@[simp] theorem hostErr_zero (d : Dev) : d.hostErr 0 = d := rfl

theorem hostStep_vector (d : Dev) (fn v : Nat) : HostStep d (d.vector fn v) := by
  unfold Dev.vector
  split
  · exact hostStep_hostRaise ..
  · exact hostStep_msixSend ..

@[simp] theorem vector_ctxs (d : Dev) (fn v : Nat) : (d.vector fn v).host.ctxs = d.host.ctxs := by
  unfold Dev.vector
  split
  · exact hostRaise_ctxs ..
  · rw [msixSend_host]

/-! ### Completion entries (R361, R370) -/

theorem hostStep_entryGone (d : Dev) (e : CqEntry) : HostStep d (d.entryGone e) := by
  unfold Dev.entryGone
  split
  · exact .setCtx ..
  · exact .refl d

theorem entryGone_keeps {d : Dev} {e : CqEntry} (h : e.frees = none) : d.entryGone e = d := by rw [Dev.entryGone, h]

/-- The part of a write of an entry before it is signalled: the entry goes out, TAIL and PHASE move on, and its context goes free. -/
def Dev.cqWritten (d : Dev) (q : Nat) (e : CqEntry) : Dev :=
  let tail := d.fld (R.QUE_CQ_STATUS_CQ_TAIL q)
  let phase := d.fld (R.QUE_CQ_STATUS_PHASE q)
  let next := (tail + 1) % sizeOf (d.fld (R.QUE_CQ_CFG_SIZE_LOG2 q))
  ((((d.emit (.hostWrite (d.ownerFn q) (d.fld (R.QUE_CQ_BASE q) / 4096 * 4096 + tail * 32) (e.bytes phase))).setFld (R.QUE_CQ_STATUS_CQ_TAIL q) next).setFld
    (R.QUE_CQ_STATUS_PHASE q) (if next = 0 then 1 - phase else phase)).entryGone e)

/-- A written entry is signalled where the queue's interrupt is enabled (R381). -/
theorem cqWrite_eq (d : Dev) (q : Nat) (e : CqEntry) :
    d.cqWrite q e = (let x := d.cqWritten q e
      if !(x.flag (R.QUE_CQ_CFG_IRQ_EN q)) then x
      else if max (x.fld (R.QUE_CQ_COAL_COAL_COUNT q)) 1 ≤ (x.queue q).unsignalled + 1 then
        (x.setQueue q { x.queue q with unsignalled := 0 }).vector (d.ownerFn q) (x.fld (R.QUE_CQ_CFG_VECTOR q))
      else x.setQueue q { x.queue q with unsignalled := (x.queue q).unsignalled + 1, since := if (x.queue q).unsignalled = 0 then x.time else (x.queue q).since }) := rfl

theorem hostStep_cqWritten (d : Dev) (q : Nat) (e : CqEntry) : HostStep d (d.cqWritten q e) :=
  (HostStep.emit ..).trans ((HostStep.setFld ..).trans ((HostStep.setFld ..).trans (hostStep_entryGone ..)))

theorem hostStep_cqWrite (d : Dev) (q : Nat) (e : CqEntry) : HostStep d (d.cqWrite q e) := by
  rw [cqWrite_eq]
  dsimp only
  split
  · exact hostStep_cqWritten ..
  · split
    · exact (hostStep_cqWritten ..).trans ((HostStep.setQueue ..).trans (hostStep_vector ..))
    · exact (hostStep_cqWritten ..).trans (HostStep.setQueue ..)

/-- Writing an entry frees its context, and touches no other. -/
theorem cqWrite_ctxs (d : Dev) (q : Nat) (e : CqEntry) : (d.cqWrite q e).host.ctxs = (d.entryGone e).host.ctxs := by
  have hx : (d.cqWritten q e).host.ctxs = (d.entryGone e).host.ctxs := by
    unfold Dev.cqWritten Dev.entryGone
    dsimp only
    split
    · simp [Dev.setCtx, Dev.setHost]
    · simp
  rw [cqWrite_eq]
  dsimp only
  split
  · exact hx
  · split
    · rw [vector_ctxs]; exact hx
    · exact hx

theorem entryGone_ctx_other (d : Dev) {e : CqEntry} {c : Nat} (h : e.frees ≠ some c) : (d.entryGone e).ctx c = d.ctx c := by
  unfold Dev.entryGone
  split
  · next x hx => exact ctx_setCtx_other d none fun hc => h (by rw [hx, hc])
  · rfl

theorem entryGone_ctx_same (d : Dev) {e : CqEntry} {c : Nat} (h : e.frees = some c) : (d.entryGone e).ctx c = none := by
  simp [Dev.entryGone, h]

/-- An entry that has to wait. -/
def Dev.cqQueued (d : Dev) (q : Nat) (e : CqEntry) : Dev :=
  match e.frees with
  | some c => (d.setQueue q { d.queue q with waiting := (d.queue q).waiting ++ [e] }).updCtx c fun x => { x with st := 4 }
  | none => d.setQueue q { d.queue q with waiting := (d.queue q).waiting ++ [e] }

theorem cqPut_some (d : Dev) (q : Nat) (e : CqEntry) :
    d.cqPut (some q) e = if d.flag (R.QUE_CQ_CFG_ENABLE q) = false then d.entryGone e
      else if (d.queue q).waiting = [] ∧ d.cqRoom q = true then d.cqWrite q e
      else if (d.cqQueued q e).cqFull q then (d.cqQueued q e).setFld (R.QUE_CQ_STATUS_FULL q) 1 else d.cqQueued q e := by
  unfold Dev.cqQueued
  simp only [Dev.cqPut, Bool.not_eq_true'] <;> (cases e.frees <;> rfl)

theorem hostStep_cqPut (d : Dev) (q : Option Nat) (e : CqEntry) : HostStep d (d.cqPut q e) := by
  cases q with
  | none => exact hostStep_entryGone ..
  | some q =>
    have hqueued : HostStep d (d.cqQueued q e) := by
      unfold Dev.cqQueued
      split
      · exact (HostStep.setQueue ..).trans (HostStep.updCtx ..)
      · exact HostStep.setQueue ..
    rw [cqPut_some]
    split
    · exact hostStep_entryGone ..
    · split
      · exact hostStep_cqWrite ..
      · split
        · exact hqueued.trans (HostStep.setFld ..)
        · exact hqueued

/-- An entry touches no context but the one that it frees. -/
theorem cqPut_ctx_other (d : Dev) (q : Option Nat) {e : CqEntry} {c : Nat} (h : e.frees ≠ some c) : (d.cqPut q e).ctx c = d.ctx c := by
  cases q with
  | none => exact entryGone_ctx_other d h
  | some q =>
    have hqueued : (d.cqQueued q e).ctx c = d.ctx c := by
      unfold Dev.cqQueued
      split
      · next x hx => exact ctx_updCtx_other _ _ fun hc => h (by rw [hx, hc])
      · rfl
    rw [cqPut_some]
    split
    · exact entryGone_ctx_other d h
    · split
      · rw [ctx_congr (cqWrite_ctxs d q e)]
        exact entryGone_ctx_other d h
      · split
        · exact (ctx_congr (by simp) c).trans hqueued
        · exact hqueued

/-! ### The ends and starts of commands (R365) -/

theorem hostStep_finish (d : Dev) (c : HostCmd) (status result detail : Nat) : HostStep d (d.finish c status result detail) := by
  refine (hostStep_hostErr d status).trans ?_
  unfold Dev.finish
  dsimp only
  split
  · split
    · exact .setCtx ..
    · exact .refl _
  · exact hostStep_cqPut ..

theorem hostStep_started (d : Dev) (c : HostCmd) : HostStep d (d.started c) := by
  unfold Dev.started
  split
  · exact .refl d
  · exact hostStep_cqPut ..

/-- The end of a command touches no context but its own. -/
theorem finish_ctx_other (d : Dev) {c : HostCmd} (status result detail : Nat) {x : Nat} (h : c.ctx ≠ some x) : (d.finish c status result detail).ctx x = d.ctx x := by
  unfold Dev.finish
  dsimp only
  split
  · split
    · next k hk => exact (ctx_setCtx_other _ none fun hc => h (by rw [hk, hc])).trans (hostErr_ctx ..)
    · exact hostErr_ctx ..
  · exact (cqPut_ctx_other _ _ h).trans (hostErr_ctx ..)

/-- A STARTED entry touches no context. -/
@[simp] theorem started_ctx (d : Dev) (c : HostCmd) (x : Nat) : (d.started c).ctx x = d.ctx x := by
  unfold Dev.started
  split
  · rfl
  · exact cqPut_ctx_other _ _ (by simp [Dev.cmdEntry])

end Sys2Proof.Machine
end

section
/-!
SUPPORT. The start of host commands (R360, R366, R367): what `startCmd` makes of the command that stands next in a queue.
-/
namespace Sys2Proof.Machine

section startCmd
variable {d : Dev} {q op : Nat} {c : HostCmd} (bad : HostCmd → Bool) (minBuf : HostCmd → Nat) (body : HostCmd → Dev → Dev)

/-- Without a command that stands next nothing starts. -/
theorem startCmd_none (h : d.nextCmd q [op] = none) : d.startCmd q op bad minBuf body = d := by rw [Dev.startCmd, h]

/-- A VF's command that a VF may not issue. -/
theorem startCmd_notVf (h : d.nextCmd q [op] = some c) (hfn : c.fn ≠ 0) (hop : opVf op = false) :
    d.startCmd q op bad minBuf body = (takeCmd d c).finish c 0x1003 0 0 := by
  have hvf : c.fn ≠ 0 ∧ (!opVf op) = true := ⟨hfn, by simp [hop]⟩
  simp only [Dev.startCmd, h, if_pos hvf]
  rfl

/-- A command with a reserved field that is not zero. -/
theorem startCmd_reserved (h : d.nextCmd q [op] = some c) (hfn : c.fn = 0 ∨ opVf op = true) (hbad : c.bad = true) :
    d.startCmd q op bad minBuf body = (takeCmd d c).finish c 0x1002 0 0 := by
  have hvf : ¬ (c.fn ≠ 0 ∧ (!opVf op) = true) := by
    rcases hfn with hfn | hfn <;> simp [hfn]
  simp only [Dev.startCmd, h, if_neg hvf, hbad, true_or, if_true]
  rfl

/-- A command whose fields are in range and whose buffer is long enough does its work. -/
theorem startCmd_runs (h : mayStart d q op c) (hbad : bad c = false) (hbuf : minBuf c ≤ c.len) :
    d.startCmd q op bad minBuf body = body c (takeCmd d c) := by
  obtain ⟨hnext, hfn, hres⟩ := h
  have hvf : ¬ (c.fn ≠ 0 ∧ (!opVf op) = true) := by
    rcases hfn with hfn | hfn <;> simp [hfn]
  simp only [Dev.startCmd, hnext, if_neg hvf, hres, hbad, Bool.false_eq_true, or_self, if_false, if_neg (Nat.not_lt.mpr hbuf)]
  rfl

end startCmd

/-- The body of a command of R372: it acts on the operation that it names. -/
def targetBody (act : HostCmd → Nat → Ctx → Dev → Dev) (c : HostCmd) (d : Dev) : Dev :=
  match d.target c with
  | none => d.finish c 0x1006 0 0
  | some (x, y) => act c x y d

theorem onTarget_eq (d : Dev) (q op : Nat) (act : HostCmd → Nat → Ctx → Dev → Dev) : d.onTarget q op act = d.startCmd q op noBad noBuf (targetBody act) := rfl

/-! ### What taking a command from its queue leaves -/

@[simp] theorem takeCmd_regs (d : Dev) (c : HostCmd) : (takeCmd d c).regs = d.regs := rfl
@[simp] theorem takeCmd_fld (d : Dev) (c : HostCmd) (f : Fld) : (takeCmd d c).fld f = d.fld f := rfl
@[simp] theorem takeCmd_ctx (d : Dev) (c : HostCmd) (x : Nat) : (takeCmd d c).ctx x = d.ctx x := rfl
@[simp] theorem takeCmd_mode (d : Dev) (c : HostCmd) : (takeCmd d c).mode = d.mode := rfl

end Sys2Proof.Machine
end

section
/-!
SUPPORT. The block as a whole: its steps (O1 to O5), and what the end of a step makes of the stores and the pins (O6, O7).
-/
namespace Sys2Proof.Machine

/-! ### Which command runs -/

theorem step_cons (c : Instr) (s : State) : step { s with pending := c :: s.pending } = exec c s := rfl

theorem step_nil {s : State} (h : s.pending = []) : step s = s.tick := by simp [step, h]

theorem step_of_cons {s : State} {c : Instr} {rest : List Instr} (h : s.pending = c :: rest) : step s = exec c { s with pending := rest } := by simp [step, h]

/-- A step ends as every command does, on the state with the queue's rest. -/
theorem step_after (s : State) : ∃ d, step s = .next ({ s with pending := s.pending.tail }.after d) := by
  cases h : s.pending with
  | nil =>
    obtain ⟨d, hd⟩ := tick_eq s
    refine ⟨d, (step_nil h).trans (hd.trans ?_)⟩
    rw [List.tail_nil, ← h]
  | cons c rest =>
    obtain ⟨d, hd⟩ := exec_next c { s with pending := rest }
    exact ⟨d, (step_of_cons h).trans hd⟩

/-- Settles O1: the front command is the one that `step` runs. -/
theorem stepTakesTheFront : Obligations.StepTakesTheFront := by
  unfold Obligations.StepTakesTheFront
  exact step_cons

/-- Settles O2: the tick of the position clock is `advance` by one cycle (log 1). -/
theorem emptyQueueTicks : Obligations.EmptyQueueTicks := by
  unfold Obligations.EmptyQueueTicks
  intro s hempty
  have htick : step s = s.run fun d => d.advance (d.time + 1) := step_nil hempty
  have hstep : TimeStep s.start (s.start.advance (s.dev.time + 1)) := timeStep_advance ..
  refine ⟨fun hm => ⟨_, htick.trans (run_eq s _ hm), rfl, ?_, hstep.keeps⟩, fun hm => htick.trans (run_reset s _ hm)⟩
  rw [advance_time]
  exact Nat.max_eq_right (Nat.le_succ _)

/-- Settles O3: every command, and the tick, ends with `after`, which leaves the queue. -/
theorem everyStepGoesOn : Obligations.EveryStepGoesOn := by
  unfold Obligations.EveryStepGoesOn
  intro s
  obtain ⟨d, hd⟩ := step_after s
  refine ⟨⟨_, hd⟩, fun t ht => ?_⟩
  obtain rfl := Host.Outcome.next.inj (hd.symm.trans ht)
  exact after_pending ..

/-- Settles O4: each command that is not one of those of `actsInReset` goes through `State.run`. -/
theorem nothingRunsInReset : Obligations.NothingRunsInReset := by
  unfold Obligations.NothingRunsInReset
  intro c s hm hacts
  rcases exec_gate c s with ⟨_, f, hf⟩ | ⟨hgate, _⟩
  · exact hf.trans (run_reset s f hm)
  · rw [hacts] at hgate
    cases hgate

/-- Settles O5: the stores of the state after reset are empty. -/
theorem resetIsSound : Obligations.ResetIsSound := by
  unfold Obligations.ResetIsSound
  exact ⟨rfl, rfl, rfl⟩

/-! ### The stores at the end of a step -/

/-- Writes taken one after the other keep a table canonical. -/
theorem tcanon_foldr_tfill {α β : Type} [DecidableEq β] (dflt : β) (at_ len : α → Nat) (bs : α → List β) (xs : List α) {t : Tbl β}
    (h : tcanon (fun _ => dflt) t = true) : tcanon (fun _ => dflt) (xs.foldr (fun x t => tfill dflt t (at_ x) (len x) (bs x)) t) = true := by
  induction xs with
  | nil => exact h
  | cons x xs ih => exact tcanon_tfill dflt _ _ _ _ ih

/-- What a step's end leaves in DRAM, flash and their logs, whatever the effect. -/
theorem after_stores (s : State) (d : Dev) : ∃ e : Dev,
    (s.after d).dev.dram = e.dramLog.foldr (fun x t => tfill 0 t x.1 x.2.length x.2) (if e.dram.isEmpty then [] else s.dev.dram) ∧
    (s.after d).dev.flash = e.flashLog.foldr (fun x t => tfill 0xFF t x.1 x.2.1 x.2.2) s.dev.flash ∧
    (s.after d).dev.dramLog = [] ∧ (s.after d).dev.flashLog = [] := by
  unfold State.after
  generalize d.settleFault.retrainFollow.settlePins = e
  exact ⟨e, rfl, rfl, rfl, rfl⟩

theorem sound_iff (s : State) : s.sound = true ↔ tcanon (fun _ => (0 : Byte)) s.dev.dram = true ∧ tcanon (fun _ => (0xFF : Byte)) s.dev.flash = true ∧
    s.dev.dramLog = [] ∧ s.dev.flashLog = [] := by
  simp only [State.sound, Memory.wf, Bool.and_eq_true, List.isEmpty_iff, and_assoc]

/-- A state whose stores are canonical has a sound state behind it, whatever the effect. -/
theorem after_sound {s : State} (h : s.sound = true) (d : Dev) : (s.after d).sound = true := by
  obtain ⟨hdram, hflash, -, -⟩ := (sound_iff s).mp h
  obtain ⟨e, edram, eflash, elog, eflog⟩ := after_stores s d
  refine (sound_iff _).mpr ⟨?_, ?_, elog, eflog⟩
  · rw [edram]
    refine tcanon_foldr_tfill 0 _ _ _ _ ?_
    split
    · rfl
    · exact hdram
  · rw [eflash]
    exact tcanon_foldr_tfill 0xFF _ _ _ _ hflash

/-- Settles O6: a step ends with `after`, whose writes keep the stores canonical (`tcanon_tfill`). -/
theorem everyStepKeepsSound : Obligations.EveryStepKeepsSound := by
  unfold Obligations.EveryStepKeepsSound
  intro s t hs ht
  obtain ⟨d, hd⟩ := step_after s
  obtain rfl := Host.Outcome.next.inj (hd.symm.trans ht)
  exact after_sound (s := { s with pending := s.pending.tail }) hs d

/-! ### The end of a command that asks for no FAULT (R298, R371, R472) -/

theorem settleFault_none {d : Dev} (h : d.faultReq = []) : d.settleFault = d := by simp [Dev.settleFault, h]

theorem retrainFollow_none {d : Dev} (h : d.opsOf 0x15 = []) : d.retrainFollow = d := by simp [Dev.retrainFollow, h]

/-- With no FAULT asked for and no LANE_RETRAIN, the pins and the stores are all that a step's end changes. -/
theorem after_quiet (s : State) {d : Dev} (hfault : d.faultReq = []) (hops : d.opsOf 0x15 = []) :
    s.after d = { s with dev := d.settlePins.flush s.dev.dram s.dev.flash } := by
  rw [State.after, settleFault_none hfault, retrainFollow_none hops]

/-- A store with one run of bytes replaced. -/
theorem tget_tfill {α : Type} [DecidableEq α] (dflt : α) (t : Tbl α) (x n : Nat) (bs : List α) (a : Nat) :
    tget dflt (tfill dflt t x n bs) a = if x ≤ a ∧ a < x + n then (bs.take n).getD (a - x) dflt else tget dflt t a := by
  split
  · next h => exact tget_tfill_in dflt t x n bs a h.1 h.2
  · next h => exact tget_tfill_other dflt t x n bs a (by omega)

/-- The store that a step begins with, when the effect has left DRAM as it was. -/
theorem kept_dram {d : Dev} {t : Tbl Byte} (h : d.dram = t) : (if d.dram.isEmpty then [] else t) = t := by
  subst h
  split
  · next hempty => exact (List.isEmpty_iff.mp hempty).symm
  · rfl

/-- Settles O7: `after` is the pins' settling and the flush of the writes. -/
theorem storesAfterACommand : Obligations.StoresAfterACommand := by
  unfold Obligations.StoresAfterACommand
  intro s d hfault hops t
  have ht : t = { s with dev := d.settlePins.flush s.dev.dram s.dev.flash } := after_quiet s hfault hops
  have hpins := settlePins_pin d
  have heq := settlePins_eq d
  clear_value t
  generalize d.settlePins = e at ht hpins heq
  generalize e.plz.pins = ps at heq
  subst heq
  have hdram : t.dev.dram = d.dramLog.foldr (fun x t => tfill 0 t x.1 x.2.length x.2) (if d.dram.isEmpty then [] else s.dev.dram) := by rw [ht]; rfl
  have hflash : t.dev.flash = d.flashLog.foldr (fun x t => tfill 0xFF t x.1 x.2.1 x.2.2) s.dev.flash := by rw [ht]; rfl
  refine ⟨by rw [ht], fun p => ?pins, ?rest, fun hkept hlog => ?_, fun hkept x bs hlog a => ?_, fun hlog => ?_, fun x n bs hlog a => ?_⟩
  case pins =>
    rw [ht]
    exact hpins p
  case rest =>
    rw [ht]
    rfl
  · rw [hdram, hlog]
    exact kept_dram hkept
  · rw [hdram, hlog, kept_dram hkept]
    simpa using tget_tfill 0 s.dev.dram x bs.length bs a
  · rw [hflash, hlog]
    rfl
  · rw [hflash, hlog]
    exact tget_tfill 0xFF s.dev.flash x n bs a

end Sys2Proof.Machine
end

section
/-!
SUPPORT. Resets: what a power-on reset and a warm reset leave of the part (R547, R548), and the statement O8.
-/
namespace Sys2Proof.Machine

theorem inReset_reg (d : Dev) (a : Nat) : d.inReset.reg a = resetWord a := rfl

/-- The latches that a warm reset keeps (R548). -/
def Dev.warmKept (d : Dev) : Dev :=
  (((d.inReset.setFld R.GLB_FAULT_CAUSE (d.fld R.GLB_FAULT_CAUSE)).setFld R.GLB_FAULT_TIME (d.fld R.GLB_FAULT_TIME)).setFld R.GLB_RESET_CAUSE
    (d.fld R.GLB_RESET_CAUSE)).setFld R.GLB_PLAT_STATUS_TRIP (d.fld R.GLB_PLAT_STATUS_TRIP)

/-- A warm reset with a cause of its own: the latches, the cause, the TAP and the comparator. -/
theorem warmReset_eq (d : Dev) (c : Nat) : ∃ plat, d.warmReset (some c) =
    { d.warmKept.setFld (Fld.bit R.GLB_RESET_CAUSE c) 1 with tst := { (d.warmKept.setFld (Fld.bit R.GLB_RESET_CAUSE c) 1).tst with jtag := d.tst.jtag }, plat := plat } := ⟨_, rfl⟩

theorem warmReset_fld (d : Dev) (c : Nat) (g : Fld) : (d.warmReset (some c)).fld g = (d.warmKept.setFld (Fld.bit R.GLB_RESET_CAUSE c) 1).fld g := rfl

theorem warmReset_reg (d : Dev) (c a : Nat) : (d.warmReset (some c)).reg a = (d.warmKept.setFld (Fld.bit R.GLB_RESET_CAUSE c) 1).reg a := rfl

theorem warmKept_faultCause (d : Dev) : d.warmKept.fld R.GLB_FAULT_CAUSE = d.fld R.GLB_FAULT_CAUSE := by
  unfold Dev.warmKept
  rw [fld_setFld_apart _ R.GLB_PLAT_STATUS_TRIP _ _ (by decide), fld_setFld_apart _ R.GLB_RESET_CAUSE _ _ (by decide), fld_setFld_apart _ R.GLB_FAULT_TIME _ _ (by decide),
    fld_setFld_same _ R.GLB_FAULT_CAUSE _ (by decide)]
  exact Nat.mod_eq_of_lt (fld_lt ..)

theorem warmKept_faultTime (d : Dev) : d.warmKept.fld R.GLB_FAULT_TIME = d.fld R.GLB_FAULT_TIME := by
  unfold Dev.warmKept
  rw [fld_setFld_apart _ R.GLB_PLAT_STATUS_TRIP _ _ (by decide), fld_setFld_apart _ R.GLB_RESET_CAUSE _ _ (by decide), fld_setFld_same _ R.GLB_FAULT_TIME _ (by decide)]
  exact Nat.mod_eq_of_lt (fld_lt ..)

theorem warmKept_resetCause (d : Dev) : d.warmKept.fld R.GLB_RESET_CAUSE = d.fld R.GLB_RESET_CAUSE := by
  unfold Dev.warmKept
  rw [fld_setFld_apart _ R.GLB_PLAT_STATUS_TRIP _ _ (by decide), fld_setFld_same _ R.GLB_RESET_CAUSE _ (by decide)]
  exact Nat.mod_eq_of_lt (fld_lt ..)

theorem warmKept_trip (d : Dev) : d.warmKept.fld R.GLB_PLAT_STATUS_TRIP = d.fld R.GLB_PLAT_STATUS_TRIP := by
  unfold Dev.warmKept
  rw [fld_setFld_same _ R.GLB_PLAT_STATUS_TRIP _ (by decide)]
  exact Nat.mod_eq_of_lt (fld_lt ..)

/-- A word that holds none of the latches is at its reset value. -/
theorem warmKept_reg (d : Dev) {a : Nat}
    (h : a ∉ [R.GLB_RESET_CAUSE.addr, R.GLB_FAULT_CAUSE.addr, R.GLB_FAULT_TIME.addr, R.GLB_FAULT_TIME.addr + 4, R.GLB_PLAT_STATUS_TRIP.addr]) : d.warmKept.reg a = resetWord a := by
  simp only [List.mem_cons, List.not_mem_nil, or_false, not_or] at h
  obtain ⟨hcause, hfault, htime, htime', htrip⟩ := h
  unfold Dev.warmKept
  rw [reg_setFld_other _ _ _ _ htrip fun _ => by simp_all [R.GLB_PLAT_STATUS_TRIP], reg_setFld_other _ _ _ _ hcause fun _ => by simp_all [R.GLB_RESET_CAUSE],
    reg_setFld_other _ _ _ _ htime fun _ => htime', reg_setFld_other _ _ _ _ hfault fun _ => by simp_all [R.GLB_FAULT_CAUSE]]
  exact inReset_reg d a

/-- The causes of earlier resets stay beside a new one. -/
theorem resetCause_other (d : Dev) {c i : Nat} (hi : i < 32) (hne : i ≠ c) (hc : c < 32) :
    (d.warmReset (some c)).fld (Fld.bit R.GLB_RESET_CAUSE i) = d.fld (Fld.bit R.GLB_RESET_CAUSE i) := by
  have hapart : (Fld.bit R.GLB_RESET_CAUSE c).apart (Fld.bit R.GLB_RESET_CAUSE i) := by
    refine .inr ⟨rfl, ?_, ?_, ?_⟩ <;> simp only [Fld.bit, R.GLB_RESET_CAUSE] <;> omega
  rw [warmReset_fld, fld_setFld_apart _ _ _ _ hapart, fld_bit _ R.GLB_RESET_CAUSE i (by decide) hi, warmKept_resetCause,
    fld_bit d R.GLB_RESET_CAUSE i (by decide) hi]

/-- A warm reset by one of the causes of R548. -/
theorem warmReset_warm (d : Dev) {c : Nat} (hc : c < 32) : warmOf d (d.warmReset (some c)) c := by
  have hfield : (Fld.bit R.GLB_RESET_CAUSE c).lo + (Fld.bit R.GLB_RESET_CAUSE c).w ≤ 32 := by simp only [Fld.bit, R.GLB_RESET_CAUSE]; omega
  have hword : ∀ a, a ≠ R.GLB_RESET_CAUSE.addr → (d.warmReset (some c)).reg a = d.warmKept.reg a := fun a ha => by
    rw [warmReset_reg]
    exact reg_setFld_other _ _ _ _ ha (by omega)
  have hfld : ∀ g : Fld, g.addr ≠ R.GLB_RESET_CAUSE.addr → (32 < g.lo + g.w → g.addr + 4 ≠ R.GLB_RESET_CAUSE.addr) → (d.warmReset (some c)).fld g = d.warmKept.fld g := fun g h1 h2 =>
    fld_congr (hword _ h1) fun hg => hword _ (h2 hg)
  refine ⟨?mode, ?cause, fun i hi hne => resetCause_other d hi hne hc, (hfld _ (by decide) (by decide)).trans (warmKept_faultCause d),
    (hfld _ (by decide) (by decide)).trans (warmKept_faultTime d), (hfld _ (by decide) (by decide)).trans (warmKept_trip d), rfl,
    fun a ha => (hword a fun e => ha (by simp [e])).trans (warmKept_reg d ha), ?_, ?_, ?_, ?_, ?_, ?_, ?_⟩
  case cause =>
    rw [warmReset_fld]
    exact fld_setFld_same _ (Fld.bit R.GLB_RESET_CAUSE c) 1 (by omega)
  all_goals
    obtain ⟨plat, heq⟩ := warmReset_eq d c
    rw [heq]
    simp [Dev.warmKept, Dev.inReset]

/-- R547, R548: what a power-on reset leaves. -/
theorem powerOn_fields (d : Dev) :
    d.powerOn.mode = .reset ∧ d.powerOn.fld R.GLB_RESET_CAUSE = 1 ∧ (∀ a, a ≠ R.GLB_RESET_CAUSE.addr → d.powerOn.reg a = resetWord a) ∧ d.powerOn.dram = [] ∧
      d.powerOn.dramLog = [] ∧ d.powerOn.flash = d.flash ∧ d.powerOn.flashLog = d.flashLog ∧ d.powerOn.faultReq = [] ∧ d.powerOn.host = {} ∧ d.powerOn.cfg = {} := by
  unfold Dev.powerOn
  refine ⟨?_, fld_setFld_same _ R.GLB_RESET_CAUSE 1 (by decide), fun a ha => (reg_setFld_other _ R.GLB_RESET_CAUSE _ _ ha fun h => absurd h (by decide)).trans (inReset_reg d a),
    ?_, ?_, ?_, ?_, ?_, ?_, ?_⟩
  all_goals simp [Dev.inReset]

/-! ### Words of GLB -/

theorem regWrite_glb (d : Dev) (w a v : Nat) (h4 : a % 4 = 0) (hb : a / 0x100000 = 0) (hd : (findDesc a).isSome = true) : d.regWrite w a v = d.glbWrite w a v := by
  have ht : inTap a = false := by simp only [inTap, Bool.and_eq_false_iff, decide_eq_false_iff_not]; omega
  obtain ⟨r, hr⟩ := Option.isSome_iff_exists.mp hd
  simp [Dev.regWrite, h4, ht, hr, hb]

/-- The key of RESET_REQ resets the part (R466). -/
theorem hostWrite_resetReq (d : Dev) (h3 : 3 ≤ d.mode.code) : d.hostWrite 0xA10 0x52535421 = d.warmReset (some 2) := by
  rw [hostWrite_eq d _ _ h3, regWrite_glb d 0 0xA10 _ (by decide) (by decide) (by decide)]
  rfl

/-- Settles O8: each cause by `warmReset_warm`, and POR by `powerOn_fields`. -/
theorem warmReset : Obligations.WarmReset := by
  unfold Obligations.WarmReset
  refine ⟨fun s c hc => ?por, fun s => ⟨?pin, ?clock, fun h3 => ?request, fun hm hf => ?watchdog⟩⟩
  case por =>
    rcases hc with rfl | rfl
    · exact completes_always _ (exec_porAssert s) (powerOn_fields s.start)
    · exact completes_always _ (exec_supplyDroop s) (powerOn_fields s.start)
  case pin => exact completes_always _ (exec_rstNAssert s) (warmReset_warm s.start (by decide))
  case clock => exact completes_always _ (exec_sysRefclkLoss s) (warmReset_warm s.start (by decide))
  case request =>
    refine completes_run _ (exec_resetReqWrite s _) (not_reset h3) ?_
    rw [show s.start.hostWrite 0xA10 (0x52535421 : BitVec 32).toNat = s.start.warmReset (some 2) from hostWrite_resetReq s.start h3]
    exact warmReset_warm s.start (by decide)
  case watchdog =>
    refine completes_run _ (exec_watchdogExpiry s) hm ?_
    rw [show s.start.watchdogExpiry = s.start.warmReset (some 4) from if_neg (by simp [hf])]
    exact warmReset_warm s.start (by decide)

end Sys2Proof.Machine
end

section
/-!
SUPPORT. Temperature (R559 to R561): the hottest sensor, the trip and the steps of throttling, and the statement O9.
-/
namespace Sys2Proof.Machine

/-! ### Readings (R559, R561) -/

/-- `hottest` answers a reading of the list with its place, or the best so far, and none is greater. -/
theorem hottest_spec (pre : List Int) : ∀ (ts : List Int) (best : Int × Nat), (pre ++ ts)[best.2]? = some best.1 → (∀ x ∈ pre, x ≤ best.1) →
    (pre ++ ts)[(hottest ts pre.length best).2]? = some (hottest ts pre.length best).1 ∧ ∀ x ∈ pre ++ ts, x ≤ (hottest ts pre.length best).1
  | [], best, hget, hmax => ⟨hget, by rw [List.append_nil]; exact hmax⟩
  | t :: ts, best, hget, hmax => by
    let best' : Int × Nat := if best.1 < t then (t, pre.length) else best
    have hget' : (pre ++ [t] ++ ts)[best'.2]? = some best'.1 := by
      simp only [best']
      split
      · simp
      · simpa using hget
    have hmax' : ∀ x ∈ pre ++ [t], x ≤ best'.1 := by
      intro x hx
      simp only [best']
      rcases List.mem_append.mp hx with h | h
      · have := hmax x h
        split <;> omega
      · obtain rfl := List.mem_singleton.mp h
        split <;> omega
    have ih := hottest_spec (pre ++ [t]) ts best' hget' hmax'
    simpa [hottest, best'] using ih

/-- The part that shows a reading and its sensor. -/
def Dev.readingShown (d : Dev) (top : Int) (n : Nat) : Dev :=
  let e := (d.setFldI R.GLB_PLAT_STATUS_TEMP top).setFld R.GLB_PLAT_STATUS_HOTTEST n
  { e with plat := { d.plat with hot := min (if 540 ≤ top then d.plat.hot + 1 else 0) 2 } }

/-- The part that trips (R561). -/
def Dev.tripped (d : Dev) : Dev := { d.setFld R.GLB_PLAT_STATUS_TRIP 1 with faultReq := d.faultReq ++ [2], plat := { d.plat with tripAt := some d.time } }

/-- A sample with a reading. -/
theorem tempSample_eq (d : Dev) {ts rest : List Int} {t : Int} (h : ts.take 20 = t :: rest) :
    d.tempSample ts = (let x := d.readingShown (hottest rest 1 (t, 0)).1 (hottest rest 1 (t, 0)).2
      if (if 540 ≤ (hottest rest 1 (t, 0)).1 then d.plat.hot + 1 else 0) < 2 then x else x.tripped) := by
  simp only [Dev.tempSample, h, Dev.readingShown, Dev.tripped, Dev.setFldI]
  simp

theorem readingShown_temp (d : Dev) (top : Int) (n : Nat) : (d.readingShown top n).fld R.GLB_PLAT_STATUS_TEMP = wrapN 12 top :=
  (fld_setFld_apart _ R.GLB_PLAT_STATUS_HOTTEST _ _ (by decide)).trans (fld_setFldI_same d R.GLB_PLAT_STATUS_TEMP top (by decide))

theorem readingShown_hottest (d : Dev) (top : Int) {n : Nat} (hn : n < 32) : (d.readingShown top n).fld R.GLB_PLAT_STATUS_HOTTEST = n :=
  (fld_setFld_same _ R.GLB_PLAT_STATUS_HOTTEST n (by decide)).trans (Nat.mod_eq_of_lt hn)

theorem readingShown_trip (d : Dev) (top : Int) (n : Nat) : (d.readingShown top n).fld R.GLB_PLAT_STATUS_TRIP = d.fld R.GLB_PLAT_STATUS_TRIP :=
  (fld_setFld_apart _ R.GLB_PLAT_STATUS_HOTTEST _ _ (by decide)).trans (fld_setFldI_apart d R.GLB_PLAT_STATUS_TEMP _ top (by decide))

theorem readingShown_faultReq (d : Dev) (top : Int) (n : Nat) : (d.readingShown top n).faultReq = d.faultReq := by simp [Dev.readingShown, Dev.setFldI]

theorem keeps_readingShown (d : Dev) (top : Int) (n : Nat) : d.keeps (d.readingShown top n) (· = R.GLB_PLAT_STATUS.addr) :=
  keeps_trans (keeps_setFld d R.GLB_PLAT_STATUS_TEMP _ (by decide)) (keeps_trans (keeps_setFld _ R.GLB_PLAT_STATUS_HOTTEST n (by decide)) (keeps_of_eq _ rfl rfl rfl))

theorem tripped_fld (d : Dev) (g : Fld) (h : R.GLB_PLAT_STATUS_TRIP.apart g) : d.tripped.fld g = d.fld g := fld_setFld_apart _ R.GLB_PLAT_STATUS_TRIP _ _ h

theorem keeps_tripped (d : Dev) : d.keeps d.tripped (· = R.GLB_PLAT_STATUS.addr) :=
  keeps_trans (keeps_setFld d R.GLB_PLAT_STATUS_TRIP 1 (by decide)) (keeps_of_eq _ rfl rfl rfl)

/-- R559, R561: what a sample shows, and when it trips. -/
theorem tempSample_fields (d : Dev) {ts : List Int} (hts : ts ≠ []) : ∃ top n, (ts.take 20)[n]? = some top ∧ (∀ x ∈ ts.take 20, x ≤ top) ∧
    (d.tempSample ts).fld R.GLB_PLAT_STATUS_TEMP = wrapN 12 top ∧ (d.tempSample ts).fld R.GLB_PLAT_STATUS_HOTTEST = n ∧
    (1 ≤ d.plat.hot → 540 ≤ top → (d.tempSample ts).fld R.GLB_PLAT_STATUS_TRIP = 1 ∧ (d.tempSample ts).faultReq = d.faultReq ++ [2]) ∧
    (d.plat.hot = 0 ∨ top < 540 → (d.tempSample ts).fld R.GLB_PLAT_STATUS_TRIP = d.fld R.GLB_PLAT_STATUS_TRIP ∧ (d.tempSample ts).faultReq = d.faultReq) ∧
    d.keeps (d.tempSample ts) (· = R.GLB_PLAT_STATUS.addr) := by
  cases hlist : ts.take 20 with
  | nil => simp [hts] at hlist
  | cons t rest =>
    obtain ⟨hget, hmax⟩ := hottest_spec [t] rest (t, 0) rfl (by simp)
    simp only [List.length_singleton, List.singleton_append] at hget hmax
    have heq := tempSample_eq d hlist
    generalize hottest rest 1 (t, 0) = b at hget hmax heq
    obtain ⟨top, n⟩ := b
    have hn : n < 32 := by
      have hlen : (t :: rest).length ≤ 20 := hlist ▸ List.length_take_le ..
      have := (List.getElem?_eq_some_iff.mp hget).1
      omega
    have hframe := keeps_readingShown d top n
    refine ⟨top, n, hget, hmax, ?_⟩
    dsimp only at heq
    by_cases hcool : (if 540 ≤ top then d.plat.hot + 1 else 0) < 2
    · rw [heq, if_pos hcool]
      refine ⟨readingShown_temp .., readingShown_hottest d top hn, fun h1 h2 => ?_, fun _ => ⟨readingShown_trip .., readingShown_faultReq ..⟩, hframe⟩
      rw [if_pos h2] at hcool
      omega
    · rw [heq, if_neg hcool]
      refine ⟨(tripped_fld _ _ (by decide)).trans (readingShown_temp ..), (tripped_fld _ _ (by decide)).trans (readingShown_hottest d top hn),
        fun _ _ => ⟨fld_setFld_same _ R.GLB_PLAT_STATUS_TRIP 1 (by decide), congrArg (· ++ [2]) (readingShown_faultReq d top n)⟩, fun h => absurd ?_ hcool, keeps_trans hframe (keeps_tripped _)⟩
      rcases h with h | h
      · split <;> omega
      · rw [if_neg (by omega)]; omega

/-! ### Throttling (R560) -/

/-- What a change of the steps stores. -/
theorem setSteps_fields (d : Dev) (dca host : Nat) :
    (d.setSteps dca host).fld R.GLB_PLAT_STATUS_DCA_STEP = dca % 8 ∧ (d.setSteps dca host).fld R.GLB_PLAT_STATUS_HOST_STEP = host % 8 ∧
      (0 < dca + host → (d.setSteps dca host).fld R.GLB_PLAT_STATUS_THROTTLING = 1) ∧ d.keeps (d.setSteps dca host) (· = R.GLB_PLAT_STATUS.addr) := by
  unfold Dev.setSteps Dev.setFlag
  refine ⟨?_, ?_, fun h => ?_, ?_⟩
  · rw [fld_setFld_apart _ R.GLB_PLAT_STATUS_THROTTLING _ _ (by decide), fld_setFld_apart _ R.GLB_PLAT_STATUS_HOST_STEP _ _ (by decide)]
    exact fld_setFld_same _ R.GLB_PLAT_STATUS_DCA_STEP dca (by decide)
  · rw [fld_setFld_apart _ R.GLB_PLAT_STATUS_THROTTLING _ _ (by decide)]
    exact fld_setFld_same _ R.GLB_PLAT_STATUS_HOST_STEP host (by decide)
  · rw [fld_setFld_same _ R.GLB_PLAT_STATUS_THROTTLING _ (by decide), decide_eq_true h]
    rfl
  · exact keeps_trans (keeps_setFld d R.GLB_PLAT_STATUS_DCA_STEP _ (by decide)) (keeps_trans (keeps_setFld _ R.GLB_PLAT_STATUS_HOST_STEP _ (by decide))
      (keeps_setFld _ R.GLB_PLAT_STATUS_THROTTLING _ (by decide)))

theorem throttleHyst_pos (d : Dev) : 0 < d.throttleHyst := by unfold Dev.throttleHyst; omega

section

variable {d : Dev} (hen : d.flag R.GLB_PLAT_CFG_THROTTLE_EN = true) (htrip : d.plat.tripAt ≠ some d.time)
include hen htrip

theorem throttleTick_hot (h : d.throttleAt ≤ d.sfld R.GLB_PLAT_STATUS_TEMP) : d.throttleTick =
    if d.fld R.GLB_PLAT_STATUS_DCA_STEP < 6 then d.setSteps (d.fld R.GLB_PLAT_STATUS_DCA_STEP + 1) (d.fld R.GLB_PLAT_STATUS_HOST_STEP)
    else d.setSteps (d.fld R.GLB_PLAT_STATUS_DCA_STEP) (min (d.fld R.GLB_PLAT_STATUS_HOST_STEP + 1) 7) := by
  simp [Dev.throttleTick, htrip, hen, h]

theorem throttleTick_cool (h : d.sfld R.GLB_PLAT_STATUS_TEMP ≤ d.throttleAt - d.throttleHyst) : d.throttleTick =
    if 0 < d.fld R.GLB_PLAT_STATUS_HOST_STEP then d.setSteps (d.fld R.GLB_PLAT_STATUS_DCA_STEP) (d.fld R.GLB_PLAT_STATUS_HOST_STEP - 1)
    else d.setSteps (d.fld R.GLB_PLAT_STATUS_DCA_STEP - 1) (d.fld R.GLB_PLAT_STATUS_HOST_STEP) := by
  have hpos := throttleHyst_pos d
  have hnot : ¬ d.throttleAt ≤ d.sfld R.GLB_PLAT_STATUS_TEMP := by omega
  simp [Dev.throttleTick, htrip, hen, h, hnot]

theorem throttleTick_between (h1 : d.throttleAt - d.throttleHyst < d.sfld R.GLB_PLAT_STATUS_TEMP) (h2 : d.sfld R.GLB_PLAT_STATUS_TEMP < d.throttleAt) : d.throttleTick = d := by
  simp [Dev.throttleTick, htrip, hen, show ¬ d.throttleAt ≤ d.sfld R.GLB_PLAT_STATUS_TEMP by omega,
    show ¬ d.sfld R.GLB_PLAT_STATUS_TEMP ≤ d.throttleAt - d.throttleHyst by omega]

/-- A tick changes PLAT_STATUS alone, whatever the temperature. -/
theorem keeps_throttleTick : d.keeps d.throttleTick (· = R.GLB_PLAT_STATUS.addr) := by
  have hsteps := fun dca host => (setSteps_fields d dca host).2.2.2
  by_cases hhot : d.throttleAt ≤ d.sfld R.GLB_PLAT_STATUS_TEMP
  · rw [throttleTick_hot hen htrip hhot]; split <;> exact hsteps _ _
  · by_cases hcool : d.sfld R.GLB_PLAT_STATUS_TEMP ≤ d.throttleAt - d.throttleHyst
    · rw [throttleTick_cool hen htrip hcool]; split <;> exact hsteps _ _
    · rw [throttleTick_between hen htrip (by omega) (by omega)]; exact keeps_refl ..

end

/-- Settles O9: the readings by `tempSample_fields`, the steps by the three ranges of the temperature. -/
theorem temperature : Obligations.Temperature := by
  unfold Obligations.Temperature
  refine ⟨fun s ts hm => ⟨fun hts => ?sample, ?comparator⟩, fun s hm hen htrip => ?tick⟩
  case sample =>
    obtain ⟨top, n, h⟩ := tempSample_fields s.start hts
    exact ⟨_, top, n, (exec_tempSample s ts).trans (run_eq s _ hm), h⟩
  case comparator =>
    refine completes_always _ (exec_thermComparatorTrip s) ⟨?_, keeps_of_eq _ rfl rfl rfl⟩
    simp [Dev.thermTripN, Dev.comparatorTrip]
  case tick =>
    have hdca : s.dev.fld R.GLB_PLAT_STATUS_DCA_STEP < 8 := fld_lt ..
    have hhost : s.dev.fld R.GLB_PLAT_STATUS_HOST_STEP < 8 := fld_lt ..
    refine completes_run _ (exec_throttleTick s) hm ⟨keeps_throttleTick (d := s.start) hen htrip, fun hhot hlow => ?_, fun hhot hhigh => ?_, fun hcool hpos => ?_,
      fun hcool hzero => ?_, fun h1 h2 => throttleTick_between (d := s.start) hen htrip h1 h2⟩
    · rw [throttleTick_hot (d := s.start) hen htrip hhot, State.start_fld, State.start_fld, if_pos hlow]
      obtain ⟨e1, e2, e3, -⟩ := setSteps_fields s.start (s.dev.fld R.GLB_PLAT_STATUS_DCA_STEP + 1) (s.dev.fld R.GLB_PLAT_STATUS_HOST_STEP)
      exact ⟨e1.trans (Nat.mod_eq_of_lt (by omega)), e2.trans (Nat.mod_eq_of_lt hhost), e3 (by omega)⟩
    · rw [throttleTick_hot (d := s.start) hen htrip hhot, State.start_fld, State.start_fld, if_neg (by omega)]
      obtain ⟨e1, e2, e3, -⟩ := setSteps_fields s.start (s.dev.fld R.GLB_PLAT_STATUS_DCA_STEP) (min (s.dev.fld R.GLB_PLAT_STATUS_HOST_STEP + 1) 7)
      exact ⟨e1.trans (Nat.mod_eq_of_lt hdca), e2.trans (Nat.mod_eq_of_lt (by omega)), e3 (by omega)⟩
    · rw [throttleTick_cool (d := s.start) hen htrip hcool, State.start_fld, State.start_fld, if_pos hpos]
      obtain ⟨e1, e2, -⟩ := setSteps_fields s.start (s.dev.fld R.GLB_PLAT_STATUS_DCA_STEP) (s.dev.fld R.GLB_PLAT_STATUS_HOST_STEP - 1)
      exact ⟨e2.trans (Nat.mod_eq_of_lt (by omega)), e1.trans (Nat.mod_eq_of_lt hdca)⟩
    · rw [throttleTick_cool (d := s.start) hen htrip hcool, State.start_fld, State.start_fld, if_neg (by omega), hzero]
      obtain ⟨e1, e2, -⟩ := setSteps_fields s.start (s.dev.fld R.GLB_PLAT_STATUS_DCA_STEP - 1) 0
      exact ⟨e2, e1.trans (Nat.mod_eq_of_lt (by omega))⟩

end Sys2Proof.Machine
end

section
/-!
SUPPORT. The Gallery's rows (chapter 11): staged registers, the display's plug and training, vertical blank and underruns (R344 to R350), and the statement O44.
-/
namespace Sys2Proof.Machine

/-! ### UPDATE (R345) -/

theorem regWrite_gal (d : Dev) (w a v : Nat) (h4 : a % 4 = 0) (hb : a / 0x100000 = 7) (hd : (findDesc a).isSome = true) : d.regWrite w a v = d.galWrite a v := by
  have ht : inTap a = false := by simp only [inTap, Bool.and_eq_false_iff, decide_eq_false_iff_not]; omega
  obtain ⟨r, hr⟩ := Option.isSome_iff_exists.mp hd
  simp [Dev.regWrite, h4, ht, hr, hb]

/-- A write of GAL.CTRL with UPDATE set: what the word changes comes first. -/
theorem hostWrite_galUpdate (d : Dev) (v : Nat) (h3 : 3 ≤ d.mode.code) :
    d.hostWrite 0x700000 (v ||| 4) = (d.plainWrite 0x700000 (v ||| 4)).galCheck.galUpdate (d.plainWrite 0x700000 (v ||| 4)).galCheck.composing := by
  have hbit : bitOf (v ||| 4) 2 = true := bitOf_or_two_pow v 2
  rw [hostWrite_eq d _ _ h3, regWrite_gal d 0 _ _ (by decide) (by decide) (by decide)]
  simp [Dev.galWrite, hbit]

theorem galUpdate_waits {d : Dev} {composing : Bool} (h : d.galTiming = true ∨ composing = true) :
    (d.galUpdate composing).fld R.GAL_STATUS_UPDATE_PENDING = 1 ∧ (d.galUpdate composing).gal.updateAt = some d.time := by
  rw [Dev.galUpdate, if_pos h]
  exact ⟨fld_setFld_same d R.GAL_STATUS_UPDATE_PENDING 1 (by decide), rfl⟩

theorem galUpdate_now {d : Dev} {composing : Bool} (h : d.galTiming = false) (hc : composing = false) : d.galUpdate composing = d.galTake := by
  simp [Dev.galUpdate, h, hc]

/-! ### The display's plug (R348) -/

/-- A sink is seen. -/
def Dev.sinkSeen (d : Dev) : Dev := (d.setFld R.GAL_STATUS_HPD 1).raise R.GAL_EVENTS_PLUGGED

theorem dpPlug_eq {d : Dev} (l r : Nat) (edid : List Byte) (hruns : d.galRuns = true) (hout : d.flag R.GAL_STATUS_HPD = false) :
    d.dpPlug l r edid = d.sinkSeen.plugSequence l r edid := by simp [Dev.dpPlug, Dev.sinkSeen, hruns, hout]

theorem sinkSeen_fields (d : Dev) : d.sinkSeen.fld R.GAL_STATUS_HPD = 1 ∧ d.sinkSeen.fld R.GAL_EVENTS_PLUGGED = 1 ∧ d.sinkSeen.gal = d.gal :=
  ⟨(raise_fld_apart _ R.GAL_EVENTS_PLUGGED _ (by decide) (by decide)).trans (fld_setFld_same d R.GAL_STATUS_HPD 1 (by decide)),
    raise_fld _ _ (by decide) rfl (not_chanCount (by decide)), by simp [Dev.sinkSeen]⟩

/-- The link is off (R348). -/
def Dev.sinkOff (d : Dev) : Dev :=
  ((((d.setFld R.GAL_STATUS_HPD 0).setFld R.GAL_STATUS_LINK 0).setFld R.GAL_STATUS_FALLBACK 0).setFld R.GAL_STATUS_LANES 0).setFld R.GAL_STATUS_RATE 0

theorem dpUnplug_eq {d : Dev} (h : d.flag R.GAL_STATUS_HPD = true) : d.dpUnplug = d.sinkOff.raise R.GAL_EVENTS_UNPLUGGED := by simp [Dev.dpUnplug, Dev.sinkOff, h]

theorem sinkOff_fields (d : Dev) : d.sinkOff.fld R.GAL_STATUS_HPD = 0 ∧ d.sinkOff.fld R.GAL_STATUS_LINK = 0 ∧ d.sinkOff.fld R.GAL_STATUS_LANES = 0 ∧
    d.sinkOff.fld R.GAL_STATUS_RATE = 0 := by
  simp (disch := decide) [Dev.sinkOff, fld_of, fldOf_setFld_fits, fldOf_setFld_apart]

theorem keeps_sinkOff (d : Dev) : d.keeps d.sinkOff (· = R.GAL_STATUS.addr) :=
  keeps_trans (keeps_setFld d R.GAL_STATUS_HPD 0 (by decide)) (keeps_trans (keeps_setFld _ R.GAL_STATUS_LINK 0 (by decide)) (keeps_trans
    (keeps_setFld _ R.GAL_STATUS_FALLBACK 0 (by decide)) (keeps_trans (keeps_setFld _ R.GAL_STATUS_LANES 0 (by decide)) (keeps_setFld _ R.GAL_STATUS_RATE 0 (by decide)))))

/-- An event of the Gallery leaves its STATUS fields. -/
theorem galEvent_fld (d : Dev) {f g : Fld} (hf : f.addr = R.GAL_EVENTS_UNPLUGGED.addr ∧ f.lo + f.w ≤ 32) (hg : g.addr = R.GAL_STATUS.addr ∧ g.lo + g.w ≤ 32) :
    (d.raise f).fld g = d.fld g :=
  raise_fld_apart d f g (.inl ⟨by rw [hf.1, hg.1]; decide, .inl hf.2, .inl hg.2⟩) (.inr (by rw [hg.1]; decide))

theorem dpUnplug_fields {d : Dev} (h : d.flag R.GAL_STATUS_HPD = true) : d.dpUnplug.fld R.GAL_STATUS_HPD = 0 ∧ d.dpUnplug.fld R.GAL_STATUS_LINK = 0 ∧
    d.dpUnplug.fld R.GAL_STATUS_LANES = 0 ∧ d.dpUnplug.fld R.GAL_STATUS_RATE = 0 ∧ d.dpUnplug.fld R.GAL_EVENTS_UNPLUGGED = 1 ∧
    d.keeps d.dpUnplug fun a => a = R.GAL_STATUS.addr ∨ a = R.GAL_EVENTS_UNPLUGGED.addr ∨ chanCount a := by
  obtain ⟨hhpd, hlink, hlanes, hrate⟩ := sinkOff_fields d
  have hkept : ∀ g : Fld, g.addr = R.GAL_STATUS.addr ∧ g.lo + g.w ≤ 32 → d.dpUnplug.fld g = d.sinkOff.fld g := fun g hg => by
    rw [dpUnplug_eq h]
    exact galEvent_fld _ (by decide) hg
  refine ⟨(hkept _ (by decide)).trans hhpd, (hkept _ (by decide)).trans hlink, (hkept _ (by decide)).trans hlanes, (hkept _ (by decide)).trans hrate, ?_, ?_⟩
  · rw [dpUnplug_eq h]
    exact raise_fld _ _ (by decide) rfl (not_chanCount (by decide))
  · rw [dpUnplug_eq h]
    exact keeps_trans (keeps_mono (keeps_sinkOff d) fun _ => .inl) (keeps_mono (keeps_raise _ _ (by decide)) fun _ => .inr)

/-! ### IRQ_HPD (R348) -/

theorem irqHpd_kept {d : Dev} (hruns : d.galRuns = true) : d.irqHpd false = d.raise R.GAL_EVENTS_IRQ_HPD := by simp [Dev.irqHpd, hruns]

/-- The link trains again, and its video goes on (R348). -/
def Dev.trainsAgain (d : Dev) : Dev :=
  (((d.setFld R.GAL_STATUS_LINK 2).setFld R.GAL_STATUS_LANES 0).setFld R.GAL_STATUS_RATE 0).setGal fun g => { g with retrain := true }

theorem irqHpd_lost {d : Dev} (hruns : d.galRuns = true) :
    d.irqHpd true = if (d.raise R.GAL_EVENTS_IRQ_HPD).galVideo then (d.raise R.GAL_EVENTS_IRQ_HPD).trainsAgain else d.raise R.GAL_EVENTS_IRQ_HPD := by
  simp [Dev.irqHpd, hruns, Dev.trainsAgain]

theorem trainsAgain_fields (d : Dev) : d.trainsAgain.fld R.GAL_STATUS_LINK = 2 ∧ d.trainsAgain.fld R.GAL_EVENTS_IRQ_HPD = d.fld R.GAL_EVENTS_IRQ_HPD := by
  simp (disch := decide) [Dev.trainsAgain, Dev.setGal, fld_of, fldOf_setFld_fits, fldOf_setFld_apart]

theorem galVideo_raise (d : Dev) {f : Fld} (hf : f.addr = R.GAL_EVENTS_UNPLUGGED.addr ∧ f.lo + f.w ≤ 32) : (d.raise f).galVideo = d.galVideo := by
  rw [Dev.galVideo, galEvent_fld d hf (by decide), Dev.galVideo]

theorem irqHpd_lost_fields {d : Dev} (hruns : d.galRuns = true) :
    (d.irqHpd true).fld R.GAL_EVENTS_IRQ_HPD = 1 ∧ (d.galVideo = true → (d.irqHpd true).fld R.GAL_STATUS_LINK = 2) := by
  have hevent : (d.raise R.GAL_EVENTS_IRQ_HPD).fld R.GAL_EVENTS_IRQ_HPD = 1 := raise_fld _ _ (by decide) rfl (not_chanCount (by decide))
  obtain ⟨hlink, hkept⟩ := trainsAgain_fields (d.raise R.GAL_EVENTS_IRQ_HPD)
  rw [irqHpd_lost hruns, galVideo_raise d (by decide)]
  split
  · exact ⟨hkept.trans hevent, fun _ => hlink⟩
  · next hv => exact ⟨hevent, fun h => absurd h hv⟩

/-! ### Training (R350) -/

theorem trainDone_some {d : Dev} {good : List (Nat × Nat)} {l r : Nat} (hlink : d.fld R.GAL_STATUS_LINK = 2)
    (h : (d.linkCandidates.find? fun x => good.contains x) = some (l, r)) :
    (d.trainDone good).fld R.GAL_STATUS_LINK = 3 ∧ (d.trainDone good).gal.frames = if d.gal.retrain then d.gal.frames else 0 := by
  have heq : d.trainDone good = (((d.setFld R.GAL_STATUS_LINK 3).setFld R.GAL_STATUS_LANES l).setFld R.GAL_STATUS_RATE r).setGal fun g =>
      { g with frames := if g.retrain then g.frames else 0, blankAt := if g.retrain then g.blankAt else d.time, retrain := false } := by
    simp only [Dev.trainDone, hlink, h]
    rfl
  rw [heq]
  constructor
  · simp (disch := decide) [Dev.setGal, fld_of, fldOf_setFld_fits, fldOf_setFld_apart]
  · simp [Dev.setGal]

theorem trainDone_none {d : Dev} {good : List (Nat × Nat)} (hlink : d.fld R.GAL_STATUS_LINK = 2)
    (h : (d.linkCandidates.find? fun x => good.contains x) = none) :
    (d.trainDone good).fld R.GAL_STATUS_LINK = 4 ∧ (d.trainDone good).gal.failAt = d.time ∧ (d.trainDone good).fld R.GAL_EVENTS_TRAIN_FAIL = 1 := by
  have heq : d.trainDone good = ((d.setFld R.GAL_STATUS_LINK 4).setGal fun g => { g with failAt := d.time, retrain := false }).raise R.GAL_EVENTS_TRAIN_FAIL := by
    simp only [Dev.trainDone, hlink, h]
    rfl
  rw [heq]
  refine ⟨(galEvent_fld _ (by decide) (by decide)).trans (fld_setFld_same d R.GAL_STATUS_LINK 4 (by decide)), ?_, raise_fld _ _ (by decide) rfl (not_chanCount (by decide))⟩
  simp [Dev.setGal]

theorem trainRetry_eq {d : Dev} (l r : Nat) (edid : List Byte) (hlink : d.fld R.GAL_STATUS_LINK = 4) :
    d.trainRetry l r edid = (d.advance (d.gal.failAt + 400000000)).plugSequence l r edid := by simp [Dev.trainRetry, hlink]

/-! ### Vertical blank and underruns (R344, R346) -/

theorem vblankRow_eq {d x : Dev} {f : Option (List Byte)} (h : d.vblank d.composing = (x, f)) :
    d.vblankRow = match f with | some b => x.previewOut b | none => x := by
  cases f <;> simp only [Dev.vblankRow, h]

/-- The colour of an underrun goes out, and its frame is noted once (R346). -/
def Dev.underrunShown (d : Dev) : Dev :=
  (if d.gal.underrun then d.emit (.underrun (d.galF R.GAL_UNDERRUN_COLOR)) else (d.emit (.underrun (d.galF R.GAL_UNDERRUN_COLOR))).bump R.GAL_UNDERRUN_CNT).setGal fun g => { g with underrun := true }

theorem underrun_eq {d : Dev} (h : d.galVideo = true) : d.underrun = d.underrunShown.raise R.GAL_EVENTS_UNDERRUN := by
  simp only [Dev.underrun, h, Dev.underrunShown]
  rfl

theorem underrun_fields {d : Dev} (h : d.galVideo = true) :
    d.underrun.gal.underrun = true ∧ d.underrun.fld R.GAL_EVENTS_UNDERRUN = 1 ∧ Output.underrun (d.galF R.GAL_UNDERRUN_COLOR) ∈ d.underrun.out ∧
      (d.gal.underrun = true → d.underrun.fld R.GAL_UNDERRUN_CNT = d.fld R.GAL_UNDERRUN_CNT) ∧
      (d.gal.underrun = false → d.underrun.fld R.GAL_UNDERRUN_CNT = min (d.fld R.GAL_UNDERRUN_CNT + 1) (2 ^ 32 - 1)) := by
  have hcount : (d.underrunShown.raise R.GAL_EVENTS_UNDERRUN).fld R.GAL_UNDERRUN_CNT = d.underrunShown.fld R.GAL_UNDERRUN_CNT :=
    raise_fld_apart _ _ _ (by decide) (by decide)
  have hout : d.underrunShown.out = d.out ++ [.underrun (d.galF R.GAL_UNDERRUN_COLOR)] := by
    unfold Dev.underrunShown Dev.setGal
    split <;> simp [Dev.emit, Dev.bump]
  rw [underrun_eq h, hcount]
  refine ⟨?_, raise_fld _ _ (by decide) rfl (not_chanCount (by decide)), ?_, fun hu => ?_, fun hu => ?_⟩
  · simp [Dev.underrunShown, Dev.setGal]
  · simp [hout]
  · simp only [Dev.underrunShown, hu, if_true]
    rfl
  · simp only [Dev.underrunShown, hu, Bool.false_eq_true, if_false]
    exact fld_bump_same _ R.GAL_UNDERRUN_CNT (by decide)

/-- Settles O44: each row by the fields it leaves; a preview frame (R352) goes out of the vertical blank. -/
theorem galleryAndDisplay : Obligations.GalleryAndDisplay := by
  unfold Obligations.GalleryAndDisplay
  refine ⟨fun s v h3 => ?update, fun s hm => ⟨fun l r edid hruns hout => ?plug, fun hin => ?unplug, fun hruns => ⟨?lost, ?kept⟩, fun good hlink => ⟨fun l r h => ?trained, fun h => ?failed⟩,
    fun l r edid hlink => ?retry, fun x f h => ?blank, fun hv => ?underrun⟩⟩
  case update =>
    intro x
    have hrow : exec (.galUpdate v) s = .next (s.after (x.galUpdate x.composing)) := exec_run_eq (exec_galUpdate s v) (not_reset h3) (hostWrite_galUpdate s.start v.toNat h3)
    exact ⟨fun h => ⟨_, hrow, galUpdate_waits h⟩, fun h hc => hrow.trans (by rw [galUpdate_now h hc])⟩
  case plug => exact ⟨s.start.sinkSeen, exec_run_eq (exec_dpPlug s l r edid) hm (dpPlug_eq l r edid hruns hout), sinkSeen_fields s.start⟩
  case unplug => exact completes_run _ (exec_dpUnplug s) hm (dpUnplug_fields (d := s.start) hin)
  case lost => exact completes_run _ (exec_irqHpd s true) hm (irqHpd_lost_fields hruns)
  case kept =>
    exact ⟨_, exec_run_eq (exec_irqHpd s false) hm (irqHpd_kept hruns), raise_fld _ _ (by decide) rfl (not_chanCount (by decide)), galEvent_fld _ (by decide) (by decide)⟩
  case trained =>
    exact ⟨_, exec_run_eq (exec_dpTrainDone s good) hm rfl, by simpa using List.find?_some h, List.mem_of_find?_eq_some h, trainDone_some (d := s.start) hlink h⟩
  case failed => exact completes_run _ (exec_dpTrainDone s good) hm (trainDone_none (d := s.start) hlink h)
  case retry => exact exec_run_eq (exec_dpTrainRetry s l r edid) hm (trainRetry_eq (d := s.start) l r edid hlink)
  case blank =>
    refine (exec_run_eq (exec_vblankStart s) hm (vblankRow_eq h)).trans ?_
    cases f <;> rfl
  case underrun => exact completes_run _ (exec_underrun s) hm (underrun_fields hv)

end Sys2Proof.Machine
end

section
/-!
SUPPORT. Records on their way out (R256, R376, R377, R379): what the FIFO, the spool and a write to DRAM change, and the statement O37.
-/
namespace Sys2Proof.Machine

/-! ### The FIFO -/

/-- The words of the record registers, and the channels' counters. -/
def recWord (a : Nat) : Prop := 0x505000 ≤ a ∧ a < 0x506000 ∨ chanCount a

/-- A change of the record registers, the record store and the Plaza's events alone. -/
structure RecStep (d d' : Dev) : Prop where
  rest : d' = { d with regs := d'.regs, plz := d'.plz, recs := d'.recs }
  regs : ∀ a, ¬ recWord a → d'.reg a = d.reg a

theorem RecStep.refl (d : Dev) : RecStep d d := ⟨rfl, fun _ _ => rfl⟩

theorem RecStep.trans {a b c : Dev} (h : RecStep a b) (k : RecStep b c) : RecStep a c := by
  refine ⟨?_, fun x hx => (k.regs x hx).trans (h.regs x hx)⟩
  have e := k.rest
  rw [h.rest] at e
  exact e

theorem RecStep.setFld (d : Dev) (f : Fld) (v : Nat) (hw : f.lo + f.w ≤ 32) (ha : 0x505000 ≤ f.addr ∧ f.addr < 0x506000) : RecStep d (d.setFld f v) :=
  ⟨by rw [Dev.setFld_eq], fun a h => reg_setFld_other d f v a (fun e => h (.inl (e ▸ ha))) (by omega)⟩

theorem RecStep.raise (d : Dev) (f : Fld) (hw : f.lo + f.w ≤ 32) (ha : 0x505000 ≤ f.addr ∧ f.addr < 0x506000) : RecStep d (d.raise f) :=
  ⟨by rw [raise_eq], fun a h => raise_reg d f a hw (fun e => h (.inl (e ▸ ha))) (fun hc => h (.inr hc))⟩

theorem RecStep.fire (d : Dev) (p : Nat) : RecStep d (d.fire p) :=
  ⟨by rw [fire_eq], fun a h => fire_reg d p _ _ _ a (by decide) (fun hc => h (.inr hc))⟩

theorem RecStep.store (d : Dev) (x : RecState) : RecStep d { d with recs := x } := ⟨rfl, fun _ _ => rfl⟩

/-- A field outside those words. -/
theorem RecStep.fld {d d' : Dev} (h : RecStep d d') (f : Fld) (hf : f.addr + 4 < 0x402000) : d'.fld f = d.fld f := by
  have hout : ∀ a, a < 0x402000 → ¬ recWord a := fun a ha => by
    rintro (hr | hc)
    · omega
    · exact not_chanCount (.inl ha) hc
  exact fld_congr (h.regs _ (hout _ (by omega))) fun _ => h.regs _ (hout _ (by omega))

/-- A field of a block behind those words. -/
theorem RecStep.fld_behind {d d' : Dev} (h : RecStep d d') (f : Fld) (hf : 0x506000 ≤ f.addr) : d'.fld f = d.fld f := by
  have hout : ∀ a, 0x506000 ≤ a → ¬ recWord a := fun a ha => by
    rintro (hr | hc)
    · omega
    · exact not_chanCount (.inr (by omega)) hc
  exact fld_congr (h.regs _ (hout _ hf)) fun _ => h.regs _ (hout _ (by omega))

theorem RecStep.host {d d' : Dev} (h : RecStep d d') : d'.host = d.host := by rw [h.rest]
theorem RecStep.dramLog {d d' : Dev} (h : RecStep d d') : d'.dramLog = d.dramLog := by rw [h.rest]

theorem recStep_fifoLevel (d : Dev) : RecStep d d.fifoLevel := by
  unfold Dev.fifoLevel
  dsimp only
  have hlevel := RecStep.setFld d R.BLV_REC_FIFO_LEVEL d.recs.fifo.length (by decide) (by decide)
  split
  · exact hlevel.trans (.setFld _ R.BLV_REC_FIFO_PEAK _ (by decide) (by decide))
  · exact hlevel

theorem recStep_fifoPut (d : Dev) (r : Rec) : RecStep d (d.fifoPut r) := by
  unfold Dev.fifoPut
  dsimp only
  have hput := (RecStep.store d { d.recs with fifo := d.recs.fifo ++ [r] }).trans (recStep_fifoLevel _)
  split
  · exact hput.trans (.fire ..)
  · exact hput

theorem recStep_lostFlush (d : Dev) : RecStep d d.lostFlush := by
  unfold Dev.lostFlush
  split
  · exact .refl d
  · split
    · exact .refl d
    · exact (RecStep.store ..).trans (((RecStep.store ..).trans (.setFld _ R.BLV_REC_RSEQ _ (by decide) (by decide))).trans (recStep_fifoPut ..))

theorem recStep_recDrop (d : Dev) (reason : Nat) (r : Rec) : RecStep d (d.recDrop reason r) :=
  (RecStep.store ..).trans ((RecStep.setFld _ R.BLV_REC_LOST_TOTAL _ (by decide) (by decide)).trans
    ((RecStep.setFld _ R.BLV_REC_LAST_ERR _ (by decide) (by decide)).trans (.raise _ R.BLV_REC_EVENTS_RECORD_DROP (by decide) (by decide))))

/-- The part once the oldest record is out of the FIFO. -/
def Dev.fifoRest (d : Dev) (rest : List Rec) : Dev := (({ d with recs := { d.recs with fifo := rest } }).fifoLevel).lostFlush

theorem fifoTake_eq {d : Dev} {r : Rec} {rest : List Rec} (h : d.recs.fifo = r :: rest) : d.fifoTake = some (r, d.fifoRest rest) := by
  simp only [Dev.fifoTake, h]
  rfl

theorem recStep_fifoRest (d : Dev) (rest : List Rec) : RecStep d (d.fifoRest rest) :=
  (RecStep.store ..).trans ((recStep_fifoLevel _).trans (recStep_lostFlush _))

/-! ### A write to DRAM (R427) -/

@[simp] theorem outOfRange_host (d : Dev) (a : Nat) : (d.outOfRange a).host = d.host := by unfold Dev.outOfRange; dsimp only; split <;> simp
@[simp] theorem outOfRange_recs (d : Dev) (a : Nat) : (d.outOfRange a).recs = d.recs := by unfold Dev.outOfRange; dsimp only; split <;> simp
@[simp] theorem outOfRange_dramLog (d : Dev) (a : Nat) : (d.outOfRange a).dramLog = d.dramLog := by unfold Dev.outOfRange; dsimp only; split <;> simp

@[simp] theorem dramWrite_host (d : Dev) (a : Nat) (bs : List Byte) : (d.dramWrite a bs).host = d.host := by unfold Dev.dramWrite; dsimp only; split <;> simp
@[simp] theorem dramWrite_recs (d : Dev) (a : Nat) (bs : List Byte) : (d.dramWrite a bs).recs = d.recs := by unfold Dev.dramWrite; dsimp only; split <;> simp

theorem dramWrite_dramLog (d : Dev) (a : Nat) (bs : List Byte) : (d.dramWrite a bs).dramLog = (a, bs.take (d.installed - a)) :: d.dramLog := by
  unfold Dev.dramWrite
  dsimp only
  split <;> simp

/-- LOST records before the one that is pushed out move up in the spool. -/
def Dev.spoolUp (d : Dev) (before after : List Rec) : Dev :=
  before.zipIdx.foldl (fun d r => d.dramWrite (d.spoolAddr (d.host.spoolOut + r.2)) r.1.bytes)
    (d.setHost fun h => { h with spool := before ++ after, spoolOut := h.spoolOut + 1 }).spoolLevel

theorem foldl_spoolWrite (xs : List (Rec × Nat)) : ∀ d : Dev,
    (xs.foldl (fun d r => d.dramWrite (d.spoolAddr (d.host.spoolOut + r.2)) r.1.bytes) d).host = d.host ∧
    (xs.foldl (fun d r => d.dramWrite (d.spoolAddr (d.host.spoolOut + r.2)) r.1.bytes) d).recs = d.recs := by
  induction xs with
  | nil => exact fun _ => ⟨rfl, rfl⟩
  | cons x xs ih =>
    intro d
    obtain ⟨hh, hr⟩ := ih (d.dramWrite (d.spoolAddr (d.host.spoolOut + x.2)) x.1.bytes)
    exact ⟨hh.trans (dramWrite_host ..), hr.trans (dramWrite_recs ..)⟩

theorem spoolUp_fields (d : Dev) (before after : List Rec) : (d.spoolUp before after).host.spool = before ++ after ∧
    (d.spoolUp before after).host.spoolOut = d.host.spoolOut + 1 ∧ (d.spoolUp before after).recs = d.recs := by
  obtain ⟨hh, hr⟩ := foldl_spoolWrite before.zipIdx (d.setHost fun h => { h with spool := before ++ after, spoolOut := h.spoolOut + 1 }).spoolLevel
  refine ⟨?_, ?_, hr.trans ?_⟩
  · rw [Dev.spoolUp, hh]; simp [Dev.spoolLevel, Dev.setHost]
  · rw [Dev.spoolUp, hh]; simp [Dev.spoolLevel, Dev.setHost]
  · simp [Dev.spoolLevel, Dev.setHost]

/-! ### The spool (R377) -/

/-- A record is stored at the end of the spool. -/
def Dev.spoolPut (d : Dev) (r : Rec) : Dev :=
  ((d.dramWrite (d.spoolAddr (d.host.spoolOut + d.host.spool.length)) r.bytes).setHost fun h => { h with spool := h.spool ++ [r] }).spoolLevel

theorem spoolPut_fields (d : Dev) (r : Rec) : (d.spoolPut r).host.spool = d.host.spool ++ [r] ∧ (d.spoolPut r).host.spoolOut = d.host.spoolOut ∧
    (d.spoolPut r).dramLog = (d.spoolAddr (d.host.spoolOut + d.host.spool.length), r.bytes.take (d.installed - d.spoolAddr (d.host.spoolOut + d.host.spool.length))) :: d.dramLog := by
  refine ⟨?_, ?_, ?_⟩
  · simp [Dev.spoolPut, Dev.spoolLevel, Dev.setHost]
  · simp [Dev.spoolPut, Dev.spoolLevel, Dev.setHost]
  · simp [Dev.spoolPut, Dev.spoolLevel, Dev.setHost, dramWrite_dramLog]

/-- SPOOL_FULL is noted where the spool has no more room. -/
def Dev.spoolNoted (d : Dev) (cap : Nat) : Dev := if cap ≤ d.host.spool.length then d.hostRaise R.GLB_HOST_EVENTS_SPOOL_FULL else d

theorem spoolNoted_fields (d : Dev) (cap : Nat) : (d.spoolNoted cap).host.spool = d.host.spool ∧ (d.spoolNoted cap).host.spoolOut = d.host.spoolOut ∧
    (d.spoolNoted cap).dramLog = d.dramLog := by
  unfold Dev.spoolNoted
  split
  · have hs := hostStep_hostRaise d R.GLB_HOST_EVENTS_SPOOL_FULL
    exact ⟨hs.spool, hs.spoolOut, hs.dramLog⟩
  · exact ⟨rfl, rfl, rfl⟩

section recordSpool
variable {d : Dev} {r : Rec} {rest : List Rec} (hcap : d.spoolCap ≠ 0) (hfifo : d.recs.fifo = r :: rest)
include hcap hfifo

/-- With room the record moves. -/
theorem recordSpool_room (h : d.host.spool.length < d.spoolCap) : d.recordSpool = ((d.fifoRest rest).spoolPut r).spoolNoted d.spoolCap := by
  simp only [Dev.recordSpool, if_neg hcap, hfifo, Nat.not_le.mpr h, decide_false, Bool.not_false, if_true, Option.bind_some, fifoTake_eq hfifo]
  rfl

/-- A full spool keeps the record waiting where none is pushed out. -/
theorem recordSpool_waits (hfull : d.spoolCap ≤ d.host.spool.length) (h : d.flag R.GLB_HOST_CTRL_SPOOL_POLICY = false ∨ d.spoolDiscard = none) : d.recordSpool = d := by
  have hroom : (if d.flag R.GLB_HOST_CTRL_SPOOL_POLICY then d.spoolDiscard else none) = none := by
    rcases h with h | h <;> simp [h]
  simp only [Dev.recordSpool, if_neg hcap, hfifo, hfull, decide_true, Bool.not_true, Bool.false_eq_true, if_false, hroom, Option.bind_none]

/-- A full spool under KEEP_NEWEST takes the record for the one that it pushes out. -/
theorem recordSpool_pushes {y : Dev} (hfull : d.spoolCap ≤ d.host.spool.length) (hpol : d.flag R.GLB_HOST_CTRL_SPOOL_POLICY = true)
    (h : d.spoolDiscard = some y) (hy : y.recs.fifo = r :: rest) : d.recordSpool = ((y.fifoRest rest).spoolPut r).spoolNoted d.spoolCap := by
  simp only [Dev.recordSpool, if_neg hcap, hfifo, hfull, decide_true, Bool.not_true, Bool.false_eq_true, if_false, hpol, if_true, h, Option.bind_some,
    fifoTake_eq hy]
  rfl

end recordSpool

/-- A spool of LOST records alone makes no room. -/
theorem spoolDiscard_none {d : Dev} (h : ∀ q ∈ d.host.spool, q.ty = tyLost) : d.spoolDiscard = none := by
  have hall : d.host.spool.takeWhile (fun r => decide (r.ty = tyLost)) = d.host.spool := List.takeWhile_eq_self_iff.mpr fun q hq => decide_eq_true (h q hq)
  simp only [Dev.spoolDiscard, hall, List.drop_length]

/-- The oldest record that is no LOST record leaves the spool; the FIFO stays. -/
theorem spoolDiscard_some {d : Dev} {before after : List Rec} {old : Rec} (hs : d.host.spool = before ++ old :: after) (hb : ∀ q ∈ before, q.ty = tyLost)
    (ho : old.ty ≠ tyLost) : ∃ y : Dev, d.spoolDiscard = some y ∧ y.host.spool = before ++ after ∧ y.host.spoolOut = d.host.spoolOut + 1 ∧ y.recs.fifo = d.recs.fifo := by
  have htake : d.host.spool.takeWhile (fun r => decide (r.ty = tyLost)) = before := by
    rw [hs, List.takeWhile_append_of_pos fun q hq => decide_eq_true (hb q hq)]
    simp [ho]
  have hdrop : d.host.spool.drop before.length = old :: after := by rw [hs, List.drop_left]
  obtain ⟨hspool, hout, hrecs⟩ := spoolUp_fields d before after
  refine ⟨(d.spoolUp before after).recDrop 1 old, ?_, ?_, ?_, ?_⟩
  · simp only [Dev.spoolDiscard, htake, hdrop]
    rfl
  · rw [(recStep_recDrop _ 1 old).host, hspool]
  · rw [(recStep_recDrop _ 1 old).host, hout]
  · simp only [Dev.recDrop, Dev.raise_recs, Dev.setFld_recs, Dev.bump, hrecs]

/-! ### Buffers and rows (R376, R379) -/

section recordDeliver
variable {d : Dev} {c : Nat} {y : Ctx} {t : List (Nat × Ctx)} (hsub : d.subsOf 0x20 = (c, y) :: t)
include hsub

theorem recordDeliver_fifo {r : Rec} {rest : List Rec} (hcap : d.spoolCap = 0) (hfifo : d.recs.fifo = r :: rest) :
    d.recordDeliver = (let z := d.deliverItem c r.bytes 128
      if z.2 then (match z.1.fifoTake with | some q => q.2 | none => z.1) else z.1) := by
  simp only [Dev.recordDeliver, hsub, if_pos hcap, hfifo] <;> rfl

theorem recordDeliver_spool (hcap : d.spoolCap ≠ 0) (hs : d.host.spool ≠ []) :
    d.recordDeliver = (let l := d.dramLoad (d.spoolAddr d.host.spoolOut) 128
      if (l.2.deliverItem c l.1 128).2 then (l.2.deliverItem c l.1 128).1.spoolDrop else (l.2.deliverItem c l.1 128).1) := by
  obtain ⟨r, rest, hr⟩ := List.exists_cons_of_ne_nil hs
  simp only [Dev.recordDeliver, hsub, if_neg hcap, hr]

theorem recordFlush_due {b : PostBuf} {bs : List PostBuf} (hb : y.bufs = b :: bs) (hi : b.items ≠ 0) :
    d.recordFlush = (d.advance (b.firstAt + usCycles (y.cmd.specAt 0 4))).bufDone c := by
  simp only [Dev.recordFlush, hsub, hb, if_neg hi]

end recordDeliver

section imageDeliver
variable {d : Dev} {c : Nat} {y : Ctx} (hc : d.ctx c = some y) (hst : y.st = 3) (hop : y.cmd.op = 0x22) (hrdy : d.attReady = true) (hdue : y.next ≤ d.blv.head)
include hc hst hop hrdy hdue

theorem imageDeliver_gone (h : d.attHolds y.next = false) :
    d.imageDeliver c = (d.setCtx c (some { y with next := y.next + y.keep.getD 1 1, lost := y.lost + 1 })).hostRaise R.GLB_HOST_EVENTS_IMG_SKIP := by
  simp [Dev.imageDeliver, hc, hst, hop, hrdy, h, Nat.not_lt.mpr hdue]

theorem imageDeliver_row {row : List Byte} (h : d.attHolds y.next = true) (hr : d.imageRow (y.keep.getD 0 0) y.next (y.keep.getD 2 0) (y.keep.getD 3 0) y.lost = some row) :
    d.imageDeliver c = (let x := d.deliverItem c row row.length
      if x.2 then x.1.updCtx c fun z => { z with next := z.next + y.keep.getD 1 1, lost := 0 } else x.1) := by
  simp only [Dev.imageDeliver, hc, hst, hop, hrdy, h, Nat.not_lt.mpr hdue, hr, ne_eq, not_true_eq_false, Bool.not_true, Bool.false_eq_true, or_self, if_false]

end imageDeliver

/-- An item that fits goes behind what the first buffer holds. -/
def Dev.itemPut (d : Dev) (c : Nat) (y : Ctx) (b : PostBuf) (bs : List PostBuf) (item : List Byte) : Dev :=
  (d.emit (.hostWrite y.cmd.fn (b.addr + b.used) item)).setCtx c (some { y with
    bufs := { b with used := b.used + item.length, items := b.items + 1, firstAt := if b.items = 0 then d.time else b.firstAt } :: bs, done := y.done + 1 })

theorem deliverItem_fits {d : Dev} {c : Nat} {item : List Byte} {y : Ctx} {b : PostBuf} {bs : List PostBuf} (n : Nat) (hc : d.ctx c = some y)
    (hb : y.bufs = b :: bs) (hfit : b.used + item.length ≤ b.len) (hbm : d.busMaster y.cmd.fn = true) :
    d.deliverItem c item n = (if b.len < b.used + item.length + n then (d.itemPut c y b bs item).bufDone c else d.itemPut c y b bs item, true) := by
  simp only [Dev.deliverItem, hc, hb, Nat.not_lt.mpr hfit, false_and, if_false, hbm, Bool.not_true, Bool.false_eq_true, or_self]
  rfl

/-- Settles O37: while the spool has room or makes it, its end takes the record; a delivery follows what `deliverItem` answers. -/
theorem recordsOut : Obligations.RecordsOut := by
  unfold Obligations.RecordsOut
  intro s hm
  refine ⟨fun r rest hcap hfifo => ⟨fun hfull hwhy => ?waits, fun hroom => ?moves, fun before after old hfull hpol hs hb ho => ?pushes⟩,
    fun c y t hsub => ⟨fun r rest hcap hfifo => ?fifo, fun z bs hcap hs hload => ?spool, fun b bs hb hi => ?flush⟩,
    fun c y hc hst hop hrdy hdue => ⟨fun hgone => ?gone, fun row hthere hrow => ?row⟩, fun d c n item y b bs hc hb hfit hbm => ?item⟩
  case waits => exact exec_run_eq (exec_recordSpool s) hm (recordSpool_waits hcap hfifo hfull (hwhy.imp id spoolDiscard_none))
  case moves =>
    refine completes_run _ (exec_recordSpool s) hm ?_
    have hrest := recStep_fifoRest s.start rest
    obtain ⟨hspool, hout, hlog⟩ := spoolPut_fields (s.start.fifoRest rest) r
    obtain ⟨hnspool, hnout, hnlog⟩ := spoolNoted_fields ((s.start.fifoRest rest).spoolPut r) s.start.spoolCap
    have haddr : ∀ i, (s.start.fifoRest rest).spoolAddr i = s.start.spoolAddr i := fun i => by
      simp only [Dev.spoolAddr, Dev.spoolCap, hrest.fld R.GLB_SPOOL_BASE (by decide), hrest.fld R.GLB_SPOOL_SIZE (by decide)]
    have hinst : (s.start.fifoRest rest).installed = s.start.installed := hrest.fld_behind R.MEM_INSTALLED (by decide)
    rw [hrest.host] at hspool hout hlog
    rw [recordSpool_room hcap hfifo hroom]
    refine ⟨hnspool.trans hspool, hnout.trans hout, ?_⟩
    rw [hnlog, hlog, haddr, hinst]
    exact List.mem_cons_self
  case pushes =>
    refine completes_run _ (exec_recordSpool s) hm ?_
    obtain ⟨y, hy, hspool, hout, hfifo'⟩ := spoolDiscard_some (d := s.start) hs hb ho
    obtain ⟨hpspool, hpout, -⟩ := spoolPut_fields (y.fifoRest rest) r
    obtain ⟨hnspool, hnout, -⟩ := spoolNoted_fields ((y.fifoRest rest).spoolPut r) s.start.spoolCap
    rw [(recStep_fifoRest y rest).host] at hpspool hpout
    rw [recordSpool_pushes hcap hfifo hfull hpol hy (hfifo'.trans hfifo)]
    exact ⟨hnspool.trans (hpspool.trans (by rw [hspool])), hnout.trans (hpout.trans hout)⟩
  case fifo =>
    intro z
    exact exec_run_eq (exec_recordDeliver s) hm (recordDeliver_fifo hsub hcap hfifo)
  case spool =>
    refine exec_run_eq (exec_recordDeliver s) hm ((recordDeliver_spool hsub hcap hs).trans ?_)
    rw [show s.start.host = s.dev.host from rfl, hload]
  case flush => exact exec_run_eq (exec_recordFlush s) hm (recordFlush_due hsub hb hi)
  case gone =>
    refine completes_run _ (exec_imageRowDeliver s c) hm ?_
    rw [imageDeliver_gone hc hst hop hrdy hdue hgone]
    exact ⟨hostRaise_fld _ _ (by decide), by rw [ctx_congr (hostRaise_ctxs ..), ctx_setCtx_same]⟩
  case row =>
    intro x
    exact exec_run_eq (exec_imageRowDeliver s c) hm (imageDeliver_row hc hst hop hrdy hdue hthere hrow)
  case item =>
    refine ⟨d.itemPut c y b bs item, rfl, rfl, ?_, ctx_setCtx_same .., ?_⟩
    · rw [deliverItem_fits n hc hb hfit hbm]
    · rw [deliverItem_fits n hc hb hfit hbm]

end Sys2Proof.Machine
end

section
/-!
SUPPORT. Queue pairs (R357 to R363, R381): doorbells, the words of a pair, turns, waiting entries and coalescing, and the statement O45.
-/
namespace Sys2Proof.Machine

/-! ### Doorbells (R359) -/

section doorbells
variable {d : Dev} {fn n q v : Nat} (hq : d.pairOf fn n = some q) (hv : v < 65536)
include hq hv

theorem sqDoorbell_taken (hen : d.flag (R.QUE_SQ_CFG_ENABLE q) = true) (hlt : v < sizeOf (d.fld (R.QUE_SQ_CFG_SIZE_LOG2 q))) :
    d.sqDoorbell fn n v = d.setQueue q { d.queue q with tail := v } := by
  simp [Dev.sqDoorbell, hq, Nat.mod_eq_of_lt hv, hen, Nat.not_le.mpr hlt]

theorem sqDoorbell_halts (h : d.flag (R.QUE_SQ_CFG_ENABLE q) = false ∨ sizeOf (d.fld (R.QUE_SQ_CFG_SIZE_LOG2 q)) ≤ v) :
    d.sqDoorbell fn n v = d.sqHalt q 0x100E := by
  simp [Dev.sqDoorbell, hq, Nat.mod_eq_of_lt hv, h]

theorem cqDoorbell_taken (hen : d.flag (R.QUE_CQ_CFG_ENABLE q) = true) (hlt : v < sizeOf (d.fld (R.QUE_CQ_CFG_SIZE_LOG2 q)))
    (hdist : ringDist (sizeOf (d.fld (R.QUE_CQ_CFG_SIZE_LOG2 q))) (d.fld (R.QUE_CQ_HEAD q)) v ≤
      ringDist (sizeOf (d.fld (R.QUE_CQ_CFG_SIZE_LOG2 q))) (d.fld (R.QUE_CQ_HEAD q)) (d.fld (R.QUE_CQ_STATUS_CQ_TAIL q))) :
    d.cqDoorbell fn n v = d.setFld (R.QUE_CQ_HEAD q) v := by
  simp [Dev.cqDoorbell, hq, Nat.mod_eq_of_lt hv, hen, Nat.not_le.mpr hlt, Nat.not_lt.mpr hdist]

theorem cqDoorbell_halts (h : d.flag (R.QUE_CQ_CFG_ENABLE q) = false ∨ sizeOf (d.fld (R.QUE_CQ_CFG_SIZE_LOG2 q)) ≤ v) : d.cqDoorbell fn n v = d.cqHalt q := by
  have hbad : (!(d.flag (R.QUE_CQ_CFG_ENABLE q))) = true ∨ sizeOf (d.fld (R.QUE_CQ_CFG_SIZE_LOG2 q)) ≤ v ∨
      ringDist (sizeOf (d.fld (R.QUE_CQ_CFG_SIZE_LOG2 q))) (d.fld (R.QUE_CQ_HEAD q)) (d.fld (R.QUE_CQ_STATUS_CQ_TAIL q)) <
        ringDist (sizeOf (d.fld (R.QUE_CQ_CFG_SIZE_LOG2 q))) (d.fld (R.QUE_CQ_HEAD q)) v := by
    rcases h with h | h
    · exact .inl (by simp [h])
    · exact .inr (.inl h)
  simp only [Dev.cqDoorbell, hq, Nat.mod_eq_of_lt hv, if_pos hbad]

end doorbells

/-! ### The words of a pair (R357, R358) -/

/-- The PF's write of a word of a pair's QUE entry reaches the pair. -/
theorem regWrite_que (d : Dev) (w n o v : Nat) (r : RegDesc) (hr : r ∈ descQUE) (ho : o < 0x40 ∧ o % 4 = 0) (hbase : r.base = 0x2800000 + o)
    (hs : r.s1 = 0x40 ∧ r.n1 = 16384 ∧ r.n2 = 1) (hn : n < 16384) : d.regWrite w (0x2800000 + 0x40 * n + o) v = d.queWrite false n o v := by
  have ha : 0x2800000 + 0x40 * n + o = r.base + n * r.s1 := by rw [hbase, hs.1]; omega
  have hblock : (0x2800000 + 0x40 * n + o) / 0x100000 = 40 := by omega
  have hd : (findDesc (0x2800000 + 0x40 * n + o)).isSome = true := by
    rw [ha]
    refine findDesc_isSome_of_row r n ?_ (by omega) (by omega) (by omega)
    rw [← ha, descBlock, hblock]
    exact hr
  obtain ⟨desc, hdesc⟩ := Option.isSome_iff_exists.mp hd
  have ht : inTap (0x2800000 + 0x40 * n + o) = false := by simp only [inTap, Bool.and_eq_false_iff, decide_eq_false_iff_not]; omega
  have h4 : (0x2800000 + 0x40 * n + o) % 4 = 0 := by omega
  simp only [Dev.regWrite, h4, ht, hdesc, hblock, Option.isNone_some, ne_eq, not_true_eq_false, Bool.false_eq_true, if_false]
  rw [show (0x2800000 + 0x40 * n + o) % 0x100000 / 0x40 = n by omega, show (0x2800000 + 0x40 * n + o) % 0x40 = o by omega]

/-- A VF's write of a word of its queue view reaches the pair that it names. -/
theorem vfWrite_que {d : Dev} {fn n q : Nat} (o v : Nat) (hq : d.pairOf fn n = some q) (hn : n < 256) (ho : o < 0x40 ∧ o % 4 = 0) (hv : v < 2 ^ 32) :
    d.vfWrite fn (0x40 * n + o) 4 v = d.queWrite true q o v := by
  rw [Dev.vfWrite, accessWords_four _ (by omega), List.foldl_cons, List.foldl_nil, Nat.mod_eq_of_lt hv]
  simp only [show 0x40 * n + o < 0x4000 by omega, if_true, show (0x40 * n + o) / 0x40 = n by omega, show (0x40 * n + o) % 0x40 = o by omega, hq]

section busWrite
variable {d : Dev} {v : Nat} (h3 : 3 ≤ d.mode.code) (hv : v < 2 ^ 32)
include h3 hv

theorem busWrite_quePf {n : Nat} (o : Nat) (r : RegDesc) (hr : r ∈ descQUE) (ho : o < 0x40 ∧ o % 4 = 0) (hbase : r.base = 0x2800000 + o)
    (hs : r.s1 = 0x40 ∧ r.n1 = 16384 ∧ r.n2 = 1) (hn : n < 16384) : d.busWrite false 0 (0x2800000 + 0x40 * n + o) 4 v = d.queWrite false n o v := by
  rw [busWrite_pf d _ _ _ (hostReaches_of_standby d true _ h3), barWrite_four _ _ _ _ (by omega) hv, regWrite_que d 0 n o v r hr ho hbase hs hn]

theorem busWrite_queVf {fn n q : Nat} (o : Nat) (hfn : fn ≠ 0) (hq : d.pairOf fn n = some q) (hn : n < 256) (ho : o < 0x40 ∧ o % 4 = 0) :
    d.busWrite false fn (0x40 * n + o) 4 v = d.queWrite true q o v := by
  rw [Dev.busWrite, hostReaches_of_standby d true _ h3]
  simp only [Bool.not_true, Bool.false_eq_true, if_false, hfn]
  exact vfWrite_que o v hq hn ho hv

end busWrite

/-- A submission queue is enabled with its size and its completion queue, and empty. -/
def Dev.sqEnabled (d : Dev) (q size cq : Nat) : Dev :=
  ((((d.setFld (R.QUE_SQ_CFG_SIZE_LOG2 q) size).setFld (R.QUE_SQ_CFG_CQ_ID q) cq).setFld (R.QUE_SQ_CFG_ENABLE q) 1).setFld (R.QUE_SQ_STATUS q) 0).setQueue q { d.queue q with tail := 0 }

theorem sqCfgWrite_enables {d : Dev} {q v : Nat} (hb : bitOf v 0 = true) (hoff : d.flag (R.QUE_SQ_CFG_ENABLE q) = false) (hsize : sizeOk (bits v 4 5) = true) :
    d.sqCfgWrite q v = d.sqEnabled q (bits v 4 5) (bits v 16 14) := by
  simp only [Dev.sqCfgWrite, hb, hoff, hsize, if_true, Bool.not_true, Bool.false_eq_true, if_false, Dev.sqEnabled]
  simp only [Dev.queue, Dev.setFld_host]

theorem sqEnabled_fields (d : Dev) (q : Nat) {size cq : Nat} (hsize : size < 32) (hcq : cq < 16384) :
    (d.sqEnabled q size cq).fld (R.QUE_SQ_CFG_ENABLE q) = 1 ∧ (d.sqEnabled q size cq).fld (R.QUE_SQ_CFG_SIZE_LOG2 q) = size ∧
    (d.sqEnabled q size cq).fld (R.QUE_SQ_CFG_CQ_ID q) = cq ∧ ((d.sqEnabled q size cq).queue q).tail = 0 := by
  have hfld : ∀ (y : Dev) (x : Queue) (f : Fld), (y.setQueue q x).fld f = y.fld f := fun _ _ _ => rfl
  refine ⟨?_, ?_, ?_, by rw [Dev.sqEnabled, queue_setQueue_same]⟩
  all_goals
    simp (disch := simp [Fld.apart, R.QUE_SQ_CFG_ENABLE, R.QUE_SQ_CFG_SIZE_LOG2, R.QUE_SQ_CFG_CQ_ID, R.QUE_SQ_STATUS, hsize, hcq]) only [Dev.sqEnabled, hfld,
      fld_setFld_apart, fld_setFld_fits]

/-! ### Turns, waiting entries and coalescing (R360, R361, R381) -/

theorem commandFetch_turn {d : Dev} {q : Nat} (es : List (List Byte)) (hmay : d.mayFetch q = true) (hturn : d.fetchTurn q = true) :
    d.commandFetch q es = (d.setHost fun h => { h with fetchNext := (q + 1) % 16384 }).fetchMany q (es.take 8) := by
  simp [Dev.commandFetch, hmay, hturn]

theorem commandFetch_idle {d : Dev} {q : Nat} (es : List (List Byte)) (h : d.mayFetch q = false ∨ d.fetchTurn q = false) : d.commandFetch q es = d := by
  rcases h with h | h <;> simp [Dev.commandFetch, h]

theorem cqNext_writes {d : Dev} {q : Nat} {e : CqEntry} {rest : List CqEntry} (hw : (d.queue q).waiting = e :: rest) (hroom : d.cqRoom q = true) :
    d.cqNext q = if rest = [] then ((d.setQueue q { d.queue q with waiting := rest }).cqWrite q e).setFld (R.QUE_CQ_STATUS_FULL q) 0
      else (d.setQueue q { d.queue q with waiting := rest }).cqWrite q e := by
  simp only [Dev.cqNext, hw, hroom, Bool.not_true, Bool.false_eq_true, if_false]

/-- The entries so far are signalled, and none waits for its signal. -/
def Dev.coalesced (d : Dev) (q : Nat) : Dev :=
  (d.advance ((d.queue q).since + usCycles (d.fld (R.QUE_CQ_COAL_COAL_US q)))).setQueue q { d.queue q with unsignalled := 0 }

theorem cqCoal_due {d : Dev} {q : Nat} (hn : (d.queue q).unsignalled ≠ 0) (hus : d.fld (R.QUE_CQ_COAL_COAL_US q) ≠ 0) (hirq : d.flag (R.QUE_CQ_CFG_IRQ_EN q) = true) :
    d.cqCoal q = (d.coalesced q).vector ((d.coalesced q).ownerFn q) ((d.coalesced q).fld (R.QUE_CQ_CFG_VECTOR q)) := by
  simp only [Dev.cqCoal, hn, hus, hirq, Bool.not_true, Bool.false_eq_true, or_self, if_false]
  rfl

/-- Settles O45: doorbells and the words of a pair by the pair that they name; turns, entries and coalescing by their conditions. -/
theorem queuePairs : Obligations.QueuePairs := by
  unfold Obligations.QueuePairs
  intro s h3
  have hm := not_reset h3
  have hreach : s.start.hostReaches true 0 = true := hostReaches_of_standby _ _ _ h3
  refine ⟨fun fn n v q hq => ⟨fun hen hlt => ?sqTaken, fun h => ?sqHalts, fun hen hlt hdist => ?cqTaken, fun h => ?cqHalts⟩, fun n v => ⟨?sqPf, ?cqPf⟩,
    fun fn n v q hfn hn hq => ?vf, fun q es => ⟨fun hmay hturn => ?turn, fun h => ?noTurn⟩, fun q hmay => ?error, fun q e rest hw hroom => ?entry,
    fun q hn hus hirq => ?coal, fun d q v hb hoff hsize => ?enable⟩
  case sqTaken =>
    refine completes_run _ (exec_sqDoorbell s fn n v) hm ?_
    rw [if_pos hreach, sqDoorbell_taken hq v.isLt hen hlt]
    exact ⟨by rw [queue_setQueue_same], rfl, fun p hp => queue_setQueue_other _ _ hp⟩
  case sqHalts => exact exec_run_eq (exec_sqDoorbell s fn n v) hm ((if_pos hreach).trans (sqDoorbell_halts hq v.isLt h))
  case cqTaken =>
    refine completes_run _ (exec_cqDoorbell s fn n v) hm ?_
    rw [if_pos hreach, cqDoorbell_taken hq v.isLt hen hlt hdist]
    exact ⟨fld_setFld_fits _ _ _ ⟨by simp [R.QUE_CQ_HEAD], v.isLt⟩, keeps_setFld _ _ _ (by simp [R.QUE_CQ_HEAD])⟩
  case cqHalts => exact exec_run_eq (exec_cqDoorbell s fn n v) hm ((if_pos hreach).trans (cqDoorbell_halts hq v.isLt h))
  case sqPf =>
    exact exec_run_eq (exec_sqEnableWrite s 0 n v) hm
      (busWrite_quePf (d := s.start) h3 v.isLt 0x10 ⟨0x2800010, 16384, 0x40, 1, 0, 0, 0x3FFF01F1, 0, 0, 0, 0, 0, false⟩ (by decide) (by decide) rfl ⟨rfl, rfl, rfl⟩ n.isLt)
  case cqPf =>
    exact exec_run_eq (exec_cqEnableWrite s 0 n v) hm
      (busWrite_quePf (d := s.start) h3 v.isLt 0x14 ⟨0x2800014, 16384, 0x40, 1, 0, 0, 0x7FF03F1, 0, 0, 0, 0, 0, false⟩ (by decide) (by decide) rfl ⟨rfl, rfl, rfl⟩ n.isLt)
  case vf =>
    have hfn' : fn.val ≠ 0 := fun h => hfn (Fin.ext h)
    have haddr : ∀ o, (if fn.val = 0 then 0x2800000 else 0) + 0x40 * n.val + o = 0x40 * n.val + o := fun o => by rw [if_neg hfn', Nat.zero_add]
    constructor
    · refine exec_run_eq (exec_sqEnableWrite s fn n v) hm ?_
      rw [haddr]
      exact busWrite_queVf (d := s.start) h3 v.isLt 0x10 hfn' hq hn (by decide)
    · refine exec_run_eq (exec_cqEnableWrite s fn n v) hm ?_
      rw [haddr]
      exact busWrite_queVf (d := s.start) h3 v.isLt 0x14 hfn' hq hn (by decide)
  case turn => exact exec_run_eq (exec_commandFetch s q es) hm (commandFetch_turn es hmay hturn)
  case noTurn => exact exec_run_eq (exec_commandFetch s q es) hm (commandFetch_idle es h)
  case error => exact exec_run_eq (exec_queueFetchError s q) hm (if_pos hmay)
  case entry =>
    refine ⟨s.start.setQueue q { s.start.queue q with waiting := rest }, by rw [queue_setQueue_same], rfl, ?_⟩
    exact exec_run_eq (exec_cqEntryWrite s q) hm (cqNext_writes hw hroom)
  case coal =>
    refine ⟨s.start.coalesced q, exec_run_eq (exec_cqCoalExpiry s q) hm (cqCoal_due hn hus hirq), ?_⟩
    rw [Dev.coalesced, queue_setQueue_same]
  case enable =>
    intro x
    rw [show x = d.sqEnabled q (bits v 4 5) (bits v 16 14) from sqCfgWrite_enables hb hoff hsize]
    exact sqEnabled_fields d q (bits_lt v 4 5) (bits_lt v 16 14)

end Sys2Proof.Machine
end

section
/-!
SUPPORT. The PCIe functions (R354 to R356, R381, R384, R386): vectors, resets of functions and of the host's side, and configuration writes, and the statement O46.
-/
namespace Sys2Proof.Machine

/-! ### Unmasking a vector (R381) -/

/-- The vector of a function's table is unmasked. -/
def Dev.unmaskedVec (d : Dev) (k : Nat) : Dev := d.setPcie fun p => { p with unmasked := if p.unmasked.contains k then p.unmasked else p.unmasked ++ [k] }

theorem mem_unmaskedVec (d : Dev) (k : Nat) : k ∈ (d.unmaskedVec k).host.pcie.unmasked := by
  simp only [Dev.unmaskedVec, Dev.setPcie, Dev.setHost]
  split
  · next h => exact List.contains_iff_mem.mp h
  · exact List.mem_append_right _ List.mem_cons_self

section msixUnmask
variable {d : Dev} {fn v : Nat} (hfn : fn < 64) (hv : v < vectorsOf fn)
include hfn hv

theorem msixUnmask_quiet (h : fn * 2048 + v ∉ d.host.pcie.pendingVec) : d.msixUnmask fn v = d.unmaskedVec (fn * 2048 + v) := by
  simp [Dev.msixUnmask, Nat.not_le.mpr hfn, Nat.not_le.mpr hv, h, Dev.unmaskedVec]

/-- A pending message goes out once. -/
theorem msixUnmask_pending (h : fn * 2048 + v ∈ d.host.pcie.pendingVec) (hm : fn ∉ d.host.pcie.masked) :
    d.msixUnmask fn v = ((d.unmaskedVec (fn * 2048 + v)).setPcie fun p => { p with pendingVec := p.pendingVec.erase (fn * 2048 + v) }).emit
      ((d.unmaskedVec (fn * 2048 + v)).msixMessage fn v) := by
  have hguard : ¬ (64 ≤ fn ∨ vectorsOf fn ≤ v) := by omega
  have hsend : (d.host.pcie.pendingVec.contains (fn * 2048 + v) && !((d.unmaskedVec (fn * 2048 + v)).host.pcie.masked.contains fn)) = true := by
    rw [show (d.unmaskedVec (fn * 2048 + v)).host.pcie.masked = d.host.pcie.masked from rfl, Bool.and_eq_true, Bool.not_eq_true', List.contains_iff_mem]
    exact ⟨h, by simpa using hm⟩
  simp only [Dev.msixUnmask, if_neg hguard]
  exact if_pos hsend

end msixUnmask

/-! ### Resets (R384 to R386) -/

/-- What a function-level reset leaves of the configuration space: no Bus Master Enable, no mask, no vector and no table of the function. -/
theorem vfFlr_pcie (d : Dev) {fn : Nat} (h : fn ≠ 0) : let p := (d.vfFlr fn).host.pcie
    fn ∉ p.bme ∧ fn ∉ p.masked ∧ (∀ k ∈ p.unmasked, k / 2048 ≠ fn) ∧ (∀ k ∈ p.pendingVec, k / 2048 ≠ fn) ∧ ∀ e ∈ p.table, e.1 / 4 / 2048 ≠ fn := by
  simp only [Dev.vfFlr, if_neg h]
  generalize d.resetFns _ _ = y
  simp [Dev.setPcie, Dev.setHost]

/-- The host's side as its reset leaves it, before LINK_LOST is noted. -/
def Dev.hostCleared (d : Dev) : Dev :=
  (d.resetFns (fun _ => true) true).setPcie fun p => { p with bme := [], memEnable := false, numVfs := 0, unmasked := [], pendingVec := [], masked := [], table := [] }

theorem hostReset_eq (d : Dev) : d.hostReset = d.hostCleared.hostRaise R.GLB_HOST_EVENTS_LINK_LOST := rfl

theorem hostReset_pcie (d : Dev) : d.hostReset.host.pcie.bme = [] ∧ d.hostReset.host.pcie.memEnable = false ∧ d.hostReset.host.pcie.numVfs = 0 ∧
    d.hostReset.host.pcie.unmasked = [] ∧ d.hostReset.host.pcie.table = [] := by
  rw [hostReset_eq, hostRaise_host]
  unfold Dev.hostCleared
  generalize d.resetFns _ _ = y
  exact ⟨rfl, rfl, rfl, rfl, rfl⟩

theorem vfBmeClear_eq (d : Dev) {fn : Nat} (h : fn ≠ 0) : d.vfBmeClear fn = d.setPcie fun p => { p with bme := p.bme.filter fun f => f ≠ fn } := if_neg h

/-! ### Configuration writes (R355, R356) -/

section configWrite
variable {d : Dev} (h2 : 2 ≤ d.mode.code)
include h2

theorem configWrite_memEnable (on : Bool) :
    d.configWrite (.memEnable on) = d.setPcie fun p => { p with memEnable := on, bar4 := if on && !p.memEnable then p.bar4Next else p.bar4 } := if_neg (Nat.not_lt.mpr h2)

theorem configWrite_bar4Size (n : Nat) : d.configWrite (.bar4Size n) = if 28 ≤ n ∧ n ≤ 36 then d.setPcie fun p => { p with bar4Next := n } else d := if_neg (Nat.not_lt.mpr h2)

theorem configWrite_busMaster (fn : Fin 64) :
    d.configWrite (.busMaster fn) = d.setPcie fun p => { p with bme := if p.bme.contains fn.val then p.bme else p.bme ++ [fn.val] } := if_neg (Nat.not_lt.mpr h2)

theorem configWrite_numVfs (n : Fin 64) (hm : d.mode ≠ .recovery) : d.configWrite (.numVfs n) = d.setPcie fun p => { p with numVfs := n.val } :=
  (if_neg (Nat.not_lt.mpr h2)).trans (if_neg hm)

theorem configWrite_mask (fn : Fin 64) : d.configWrite (.functionMask fn true) = d.setPcie fun p => { p with masked := fn.val :: p.masked.filter (· ≠ fn.val) } :=
  (if_neg (Nat.not_lt.mpr h2)).trans (if_pos rfl)

/-- Bus Master Enable of one function, beside those that have it. -/
theorem busMaster_configWrite (fn : Fin 64) (g : Nat) : (d.configWrite (.busMaster fn)).busMaster g = true ↔ g = fn.val ∨ d.busMaster g = true := by
  rw [configWrite_busMaster h2]
  by_cases h : fn.val ∈ d.host.pcie.bme
  · simp only [Dev.busMaster, Dev.setPcie, Dev.setHost, List.contains_iff_mem, h, if_true]
    exact ⟨.inr, fun hg => hg.elim (fun e => e ▸ h) id⟩
  · simp only [Dev.busMaster, Dev.setPcie, Dev.setHost, List.contains_iff_mem, h, if_false, List.mem_append, List.mem_singleton]
    exact or_comm

end configWrite

/-- Settles O46: every command of the PCIe functions changes the configuration space by its own rule. -/
theorem pcieFunctions : Obligations.PcieFunctions := by
  unfold Obligations.PcieFunctions
  intro s hm
  refine ⟨fun fn v hv => ?vector, fun fn hfn => ?flr, ?hostReset, ?linkDown, fun fn hfn => ?bmeClear, fun h2 => ⟨fun on => ?memEnable, fun n hlo hhi => ?bar4,
    fun n hn => ?bar4Out, fun fn => ?busMaster, fun n hr => ?numVfs, fun fn => ?mask⟩⟩
  case vector =>
    intro k
    refine ⟨fun hk => ?_, fun hk hmask => ?_⟩
    · refine completes_run _ (exec_msixUnmask s fn v) hm ?_
      rw [msixUnmask_quiet (d := s.start) fn.isLt hv hk]
      exact ⟨mem_unmaskedVec .., rfl, rfl⟩
    · refine completes_run _ (exec_msixUnmask s fn v) hm ?_
      rw [msixUnmask_pending (d := s.start) fn.isLt hv hk hmask]
      exact ⟨mem_unmaskedVec s.start k, rfl, rfl⟩
  case flr => exact completes_run _ (exec_vfFlr s fn) hm (vfFlr_pcie s.start hfn)
  case hostReset =>
    refine completes_run _ (exec_hostReset s false) hm ?_
    obtain ⟨hbme, hmem, hvfs, hvec, htable⟩ := hostReset_pcie s.start
    exact ⟨hbme, hmem, hvfs, hvec, htable, hostRaise_fld _ R.GLB_HOST_EVENTS_LINK_LOST (by decide)⟩
  case linkDown =>
    refine completes_run _ (exec_hostReset s true) hm ?_
    obtain ⟨hbme, hmem, hvfs, -, -⟩ := hostReset_pcie s.start
    rw [if_pos rfl, Dev.linkDown, Dev.setFld_host]
    exact ⟨hbme, hmem, hvfs, fld_setFld_fits _ R.GLB_HOST_STATUS_LINK_UP 0 (by decide)⟩
  case bmeClear =>
    refine completes_run _ (exec_vfBmeClear s fn) hm ?_
    rw [vfBmeClear_eq _ hfn]
    refine ⟨?_, fun g hg => ?_, rfl, rfl⟩
    · simp [Dev.setPcie, Dev.setHost]
    · simp [Dev.setPcie, Dev.setHost, hg]
  case memEnable =>
    refine completes_run _ (exec_pcieConfigWrite s _) hm ?_
    rw [configWrite_memEnable (d := s.start) h2]
    exact ⟨rfl, rfl⟩
  case bar4 =>
    refine completes_run _ (exec_pcieConfigWrite s _) hm ?_
    rw [configWrite_bar4Size (d := s.start) h2, if_pos ⟨hlo, hhi⟩]
    exact ⟨rfl, rfl⟩
  case bar4Out => exact exec_run_eq (exec_pcieConfigWrite s _) hm ((configWrite_bar4Size (d := s.start) h2 n).trans (if_neg (by omega)))
  case busMaster =>
    exact completes_run _ (exec_pcieConfigWrite s _) hm ⟨(busMaster_configWrite (d := s.start) h2 fn fn).mpr (.inl rfl),
      fun g hg => (busMaster_configWrite (d := s.start) h2 fn g).mpr (.inr hg)⟩
  case numVfs =>
    refine completes_run _ (exec_pcieConfigWrite s _) hm ?_
    rw [configWrite_numVfs (d := s.start) h2 n hr]
    rfl
  case mask =>
    refine completes_run _ (exec_pcieConfigWrite s _) hm ?_
    rw [configWrite_mask (d := s.start) h2 fn]
    exact ⟨List.mem_cons_self, rfl⟩

end Sys2Proof.Machine
end

section
/-!
SUPPORT. The checks of host commands and their final entries (R361, R364 to R367, R370), and the statement O47.
-/
namespace Sys2Proof.Machine

/-- A command is the start of an opcode at a queue. -/
def StartsAt (s : State) (i : Instr) (q op : Nat) : Prop :=
  ∃ f : Dev → Dev, exec i s = s.run f ∧ ∃ (bad : HostCmd → Bool) (minBuf : HostCmd → Nat) (body : HostCmd → Dev → Dev), f s.start = s.start.startCmd q op bad minBuf body

/-- The commands of `hostOps` are the starts of their opcodes. -/
theorem startsAt_hostOps (s : State) (q : Fin 16384) (blocks : Nat) (data : List Byte) : ∀ p ∈ hostOps q blocks data, StartsAt s p.1 q p.2 := by
  simp only [hostOps, List.forall_mem_cons]
  exact ⟨⟨_, exec_identify s q, _, _, _, rfl⟩, ⟨_, exec_commit s q, _, _, _, rfl⟩, ⟨_, exec_modeRequest s q, _, _, _, rfl⟩, ⟨_, exec_recipeSwitch s q, _, _, _, rfl⟩,
    ⟨_, exec_profileReset s q, _, _, _, rfl⟩, ⟨_, exec_cropRead s q, by unfold Dev.cropRead; exact ⟨_, _, _, rfl⟩⟩, ⟨_, exec_calibrate s q, by unfold Dev.calibrateOp; exact ⟨_, _, _, rfl⟩⟩, ⟨_, exec_test s q, by unfold Dev.testOp; exact ⟨_, _, _, rfl⟩⟩,
    ⟨_, exec_atticExport s q, by unfold Dev.atticExport; exact ⟨_, _, _, rfl⟩⟩, ⟨_, exec_replay s q, by unfold Dev.replayOp; exact ⟨_, _, _, rfl⟩⟩, ⟨_, exec_modelLoad s q, by unfold Dev.modelLoad; exact ⟨_, _, _, rfl⟩⟩, ⟨_, exec_laneRetrain s q, by unfold Dev.laneRetrain; exact ⟨_, _, _, rfl⟩⟩,
    ⟨_, exec_spareRotate s q, by unfold Dev.spareRotate; exact ⟨_, _, _, rfl⟩⟩, ⟨_, exec_suspend s q, _, _, _, onTarget_eq ..⟩, ⟨_, exec_resume s q, _, _, _, onTarget_eq ..⟩, ⟨_, exec_cancel s q blocks data, _, _, _, onTarget_eq ..⟩,
    ⟨_, exec_opStatus s q, _, _, _, onTarget_eq ..⟩, ⟨_, exec_subscribeRecords s q, _, _, _, rfl⟩, ⟨_, exec_subscribePreview s q, _, _, _, rfl⟩,
    ⟨_, exec_subscribeImage s q, _, _, _, rfl⟩, ⟨_, exec_subscribeProfile s q, _, _, _, rfl⟩, ⟨_, exec_postBuffer s q, _, _, _, rfl⟩,
    ⟨_, exec_unsubscribe s q, _, _, _, rfl⟩, fun _ h => absurd h List.not_mem_nil⟩

/-! ### The final entry -/

/-- A silent command, and a QUIET one that succeeds, end without an entry. -/
theorem finish_quiet (d : Dev) {c : HostCmd} {status : Nat} (result detail : Nat) (h : c.silent = true ∨ c.quiet = true ∧ status = 0) :
    d.finish c status result detail = match c.ctx with | some x => (d.hostErr status).setCtx x none | none => d.hostErr status := if_pos h

/-- A command that neither is silent nor QUIET ends with an entry of its completion queue. -/
theorem finish_entry (d : Dev) {c : HostCmd} (result detail : Nat) (hs : c.silent = false) (hq : c.quiet = false) :
    d.finish c 0 result detail = d.cqPut (d.cqOf c.sq) (d.cmdEntry c 0 0 result detail true) := by
  simp [Dev.finish, hs, hq]

section written
variable {d : Dev} {q : Nat} {e : CqEntry} (hen : d.flag (R.QUE_CQ_CFG_ENABLE q) = true) (hw : (d.queue q).waiting = []) (hroom : d.cqRoom q = true)
include hen hw hroom

theorem cqPut_writes : d.cqPut (some q) e = d.cqWrite q e := by
  rw [cqPut_some, if_neg (by simp [hen]), if_pos ⟨hw, hroom⟩]

end written

@[simp] theorem entryGone_out (d : Dev) (e : CqEntry) : (d.entryGone e).out = d.out := by unfold Dev.entryGone; split <;> rfl
@[simp] theorem entryGone_regs (d : Dev) (e : CqEntry) : (d.entryGone e).regs = d.regs := by unfold Dev.entryGone; split <;> rfl

/-- With its interrupt off a queue takes an entry and signals nothing. -/
theorem cqWrite_unsignalled {d : Dev} {q : Nat} (e : CqEntry) (h : d.flag (R.QUE_CQ_CFG_IRQ_EN q) = false) : d.cqWrite q e = d.cqWritten q e := by
  have hkept : (d.cqWritten q e).fld (R.QUE_CQ_CFG_IRQ_EN q) = d.fld (R.QUE_CQ_CFG_IRQ_EN q) := by
    simp only [Dev.cqWritten, fld_of, entryGone_regs]
    rw [fldOf_setFld_apart _ _ _ _ (by simp [Fld.apart, R.QUE_CQ_STATUS_PHASE, R.QUE_CQ_CFG_IRQ_EN]),
      fldOf_setFld_apart _ _ _ _ (by simp [Fld.apart, R.QUE_CQ_STATUS_CQ_TAIL, R.QUE_CQ_CFG_IRQ_EN]), Dev.emit_regs]
  have hirq : (d.cqWritten q e).flag (R.QUE_CQ_CFG_IRQ_EN q) = false := by rw [← h, Dev.flag, hkept, Dev.flag]
  rw [cqWrite_eq]
  simp only [hirq, Bool.not_false, if_true]

theorem cqWritten_out (d : Dev) (q : Nat) (e : CqEntry) : (d.cqWritten q e).out = d.out ++ [.hostWrite (d.ownerFn q)
    (d.fld (R.QUE_CQ_BASE q) / 4096 * 4096 + d.fld (R.QUE_CQ_STATUS_CQ_TAIL q) * 32) (e.bytes (d.fld (R.QUE_CQ_STATUS_PHASE q)))] := by
  simp only [Dev.cqWritten, entryGone_out, Dev.setFld_out]
  rfl

/-- Settles O47: the checks as every command shares them in `startCmd`, and the final entry by the queue that takes it. -/
theorem hostCommandChecks : Obligations.HostCommandChecks := by
  unfold Obligations.HostCommandChecks
  refine ⟨fun s q blocks data hm p hp => ?checks, fun d c status result detail h => ?quiet, fun d c result detail q hs hq hcq hen hw hroom hirq => ?entry⟩
  case checks =>
    obtain ⟨f, hexec, bad, minBuf, body, hstart⟩ := startsAt_hostOps s q blocks data p hp
    exact ⟨fun hnone => exec_run_eq hexec hm (hstart.trans (startCmd_none bad minBuf body hnone)),
      fun c hc hfn hop => exec_run_eq hexec hm (hstart.trans (startCmd_notVf bad minBuf body hc hfn hop)),
      fun c hc hfn hbad => exec_run_eq hexec hm (hstart.trans (startCmd_reserved bad minBuf body hc hfn hbad))⟩
  case quiet =>
    intro t
    have ht : t = _ := finish_quiet d result detail h
    rw [ht]
    cases hc : c.ctx with
    | none => exact ⟨hostErr_out .., fun x hx => absurd hx (by simp)⟩
    | some x => exact ⟨hostErr_out d status, fun y hy => by rw [← Option.some.inj hy]; exact ctx_setCtx_same ..⟩
  case entry =>
    intro t
    have ht : t = d.cqWrite q (d.cmdEntry c 0 0 result detail true) := by
      refine (finish_entry d result detail hs hq).trans ?_
      rw [hcq, cqPut_writes hen hw hroom]
    have hctxs : ∀ x, t.ctx x = (d.entryGone (d.cmdEntry c 0 0 result detail true)).ctx x := fun x => by rw [ht, ctx_congr (cqWrite_ctxs ..)]
    refine ⟨?_, fun x hx => ?_, fun x hx => ?_⟩
    · rw [ht, cqWrite_unsignalled _ hirq, cqWritten_out]
      rfl
    · rw [hctxs]
      exact entryGone_ctx_same d hx
    · rw [hctxs]
      exact entryGone_ctx_other d hx

end Sys2Proof.Machine
end

section
/-!
SUPPORT. Short commands, subscriptions and posted buffers (R367 to R369, R375 to R379, R392, R402), and the statement O48.
-/
namespace Sys2Proof.Machine

/-! ### IDENTIFY, COMMIT, MODE_REQUEST, RECIPE_SWITCH, PROFILE_RESET -/

section
variable {d : Dev} {q : Nat} {c : HostCmd}

theorem identify_runs (version : List Byte) (h : mayStart d q 0x01 c) (hlen : 4096 ≤ c.len) :
    d.identify q version = (((takeCmd d c).bufWrite c 0 ((takeCmd d c).identityPage c.fn version)).finish c 0 0 0) := startCmd_runs _ _ _ h rfl hlen

theorem commitCmd_runs (h : mayStart d q 0x02 c) (hform : c.argAt 0 1 ≤ 1) :
    d.commitCmd q = (takeCmd d c).commitClash.requestCommit (decide (c.argAt 0 1 = 1)) (c.specAt 0 8) c.who :=
  startCmd_runs _ _ _ h (by simpa using hform) (Nat.zero_le _)

theorem modeCmd_runs (h : mayStart d q 0x03 c) : d.modeCmd q = (takeCmd d c).modeRequest (c.argAt 0 1) c.who := startCmd_runs _ _ _ h rfl (Nat.zero_le _)

theorem recipeCmd_runs (h : mayStart d q 0x04 c) (h3 : c.argAt 0 1 ≤ 3) (h1 : c.argAt 1 1 ≤ 1) :
    d.recipeCmd q = (takeCmd d c).recipeSwitch (c.argAt 0 1) (decide (c.argAt 1 1 = 1)) (c.specAt 0 8) c.who :=
  startCmd_runs _ _ _ h (by simp [h3, h1]) (Nat.zero_le _)

end

theorem clash_fld_sync (d : Dev) : (d.clash 0xF0).fld R.BLV_PRF_SYNC_ROW = d.fld R.BLV_PRF_SYNC_ROW := by
  simp (disch := decide) [Dev.clash, fld_of, fldOf_setFld_apart, fldOf_raise_apart]

/-- A request notes when it came, and whether it met one that came by the input. -/
theorem syncClash_cases (d : Dev) (input : Bool) : ∃ p : PlzState, d.syncClash input = ({ d with plz := p }).clash 0xF0 ∨ d.syncClash input = { d with plz := p } :=
  ⟨_, ite_eq_or_eq ..⟩

/-- It leaves the mode, the background and the row that was set last. -/
theorem syncClash_kept (d : Dev) (input : Bool) : (d.syncClash input).mode = d.mode ∧ (d.syncClash input).prf = d.prf ∧ (d.syncClash input).syncRow = d.syncRow := by
  obtain ⟨p, h | h⟩ := syncClash_cases d input
  · rw [h]
    exact ⟨by simp [Dev.clash], by simp [Dev.clash], clash_fld_sync { d with plz := p }⟩
  · rw [h]
    exact ⟨rfl, rfl, rfl⟩

theorem syncRequest_idle {d : Dev} (source : Nat) (h : d.mode.filters = false) : d.syncRequest source = d := by simp [Dev.syncRequest, h]

/-- Outside the modes that filter PROFILE_RESET answers the row that was set last. -/
theorem profileReset_idle {d : Dev} {q : Nat} {c : HostCmd} (h : mayStart d q 0x05 c) (hm : d.mode.filters = false) :
    d.profileReset q = ((takeCmd d c).syncClash false).finish c 0 ((takeCmd d c).syncClash false).syncRow 0 := by
  obtain ⟨hmode, -, -⟩ := syncClash_kept (takeCmd d c) false
  have hf : ((takeCmd d c).syncClash false).mode.filters = false := by rw [hmode]; exact hm
  refine (startCmd_runs _ _ _ h rfl (Nat.zero_le _)).trans ?_
  simp only [syncRequest_idle 2 hf, hf, Bool.false_and, Bool.false_eq_true, if_false]

/-! ### CROP_READ (R368) -/

/-- The crop's rows go to the command's buffer, if there are any. -/
def Dev.cropOut (d : Dev) (c : HostCmd) (bs : List Byte) : Dev := if bs = [] then d else d.bufWrite c 0 bs

theorem cropOut_regs (d : Dev) (c : HostCmd) (bs : List Byte) : (d.cropOut c bs).regs = d.regs := by
  unfold Dev.cropOut Dev.bufWrite
  split
  · rfl
  · split <;> rfl

section cropRead
variable {d : Dev} {q : Nat} {c : HostCmd}

theorem cropRead_runs (h : mayStart d q 0x06 c) (hk : c.argAt 0 1 ≤ 3) (hon : d.layerOn (c.argAt 0 1) = true) (hw : 1 ≤ c.specAt 12 2 ∧ c.specAt 12 2 ≤ 32768)
    (hh : 1 ≤ c.specAt 14 2 ∧ c.specAt 14 2 ≤ 4096) (hcols : c.specAt 8 4 + c.specAt 12 2 ≤ d.stitchCols)
    (hlen : c.specAt 12 2 * c.specAt 14 2 * d.bpp (c.argAt 0 1) ≤ c.len) :
    d.cropRead q = (let rows := (takeCmd d c).cropRows (c.argAt 0 1) (c.specAt 8 4) (c.specAt 12 2) (c.specAt 14 2) (c.specAt 0 8)
      if rows.length < c.specAt 14 2 then ((takeCmd d c).cropOut c rows.flatten).finish c 0x1010 rows.flatten.length rows.length
      else ((takeCmd d c).cropOut c rows.flatten).finish c 0 rows.flatten.length 0) := by
  unfold Dev.cropRead
  dsimp only
  rw [startCmd_runs _ _ _ h ?_ hlen]
  · rfl
  · simp [hk, hon, hw, hh, hcols, Nat.not_lt.mpr]

end cropRead

/-! ### DMA_RUN (R392, R402) -/

section dmaRun
variable {d : Dev} {q : Nat} {c : HostCmd} (h : mayStart d q 0x07 c) (hn : c.argAt 0 1 < 64) (hs : c.argAt 1 1 ≤ 1) (h2 : c.argAt 2 6 = 0) (hrest : leAt c.spec 8 24 = 0)
  (hmode : d.fld (R.DMA_CH_CFG_MODE (c.argAt 0 1)) = 2)

/-- A DMA_RUN that waits stays while its channel is busy. -/
theorem dmaRun_stays (h : d.nextCmd q [0x07] = some c) (hw : c.waits = true) (hst : d.dmaState (c.argAt 0 1) ≠ 0) : d.dmaRun q = d := by
  simp only [Dev.dmaRun, h, hw, if_true, hst, ne_eq, not_false_eq_true]

include h hn hs h2 hrest

/-- A DMA_RUN that is bound to the channel of another queue is refused. -/
theorem dmaRun_unbound (hw : c.waits = false) (hbind : d.fld (R.DMA_CH_CFG_BIND_SQ (c.argAt 0 1)) ≠ q) :
    d.dmaRun q = ((takeCmd d c).dmaCode (c.argAt 0 1) 0x200A).finish c 0x200A 0 0 := by
  have hbound : (decide (c.argAt 0 1 < 64) && decide (d.fld (R.DMA_CH_CFG_MODE (c.argAt 0 1)) = 2) && decide (d.fld (R.DMA_CH_CFG_BIND_SQ (c.argAt 0 1)) = q)) = false := by
    simp [hbind]
  simp only [Dev.dmaRun, h.1, hw, hbound, Bool.false_eq_true, if_false, false_and, and_false]
  refine (startCmd_runs _ _ _ h ?_ (Nat.zero_le _)).trans (if_pos rfl)
  simp [hs, h2, hrest, hn]

variable (hbind : d.fld (R.DMA_CH_CFG_BIND_SQ (c.argAt 0 1)) = q) (halign : c.specAt 0 8 % 64 = 0)
include hmode hbind halign

/-- On an idle channel the chain begins. -/
theorem dmaRun_begins (hst : d.dmaState (c.argAt 0 1) = 0) :
    d.dmaRun q = (takeCmd d c).dmaBegin (c.argAt 0 1) (c.specAt 0 8) (c.argAt 1 1 = 1) c.ctx 0 := by
  have hstate : (takeCmd d c).dmaState (c.argAt 0 1) = 0 := hst
  cases hw : c.waits with
  | true =>
    simp only [Dev.dmaRun, h.1, hw, if_true, hst, ne_eq, not_true_eq_false, if_false]
    rfl
  | false =>
    simp only [Dev.dmaRun, h.1, hw, hst, Bool.false_eq_true, if_false, Nat.zero_ne_one, false_and, and_false]
    refine (startCmd_runs _ _ _ h (by simp [hs, h2, hrest, hn]) (Nat.zero_le _)).trans ?_
    simp [hn, hmode, hbind, hstate, halign]

/-- On a channel that runs another chain the command waits at the head of its queue. -/
theorem dmaRun_waits (hw : c.waits = false) (hfn : c.fn = 0) (hst : d.dmaState (c.argAt 0 1) = 1) : d.dmaRun q = d.dmaWaits c := by
  obtain ⟨hnext, -, hres⟩ := h
  simp [Dev.dmaRun, hnext, hw, hfn, hres, hn, hs, h2, hrest, hmode, hbind, hst, halign]

end dmaRun

/-! ### Subscriptions (R375) -/

/-- A command with a context becomes a subscription while the device holds fewer than it may. -/
theorem subStart_takes {d : Dev} {c : HostCmd} {limit x : Nat} (f : Ctx → Ctx) (hlim : (d.subsOf c.op).length < limit) (hx : c.ctx = some x) :
    d.subStart c limit f = (d.updCtx x fun y => f { y with st := 3 }).started c := by
  simp only [Dev.subStart, if_neg (Nat.not_le.mpr hlim), hx]

theorem subStart_ctx {d : Dev} {c : HostCmd} {limit x : Nat} {y : Ctx} (f : Ctx → Ctx) (hlim : (d.subsOf c.op).length < limit) (hx : c.ctx = some x) (hy : d.ctx x = some y) :
    (d.subStart c limit f).ctx x = some (f { y with st := 3 }) := by
  rw [subStart_takes f hlim hx, started_ctx, ctx_updCtx_same, hy, Option.map_some]

theorem subStart_spool {d : Dev} {c : HostCmd} {limit x : Nat} (f : Ctx → Ctx) (hlim : (d.subsOf c.op).length < limit) (hx : c.ctx = some x) :
    (d.subStart c limit f).host.spool = d.host.spool := by
  rw [subStart_takes f hlim hx]
  exact (hostStep_started ..).spool

/-- A subscription of records may begin by emptying the spool. -/
def Dev.spoolEmptied (d : Dev) (n : Nat) : Dev := ((d.setHost fun h => { h with spool := [], spoolOut := h.spoolOut + n }).spoolLevel).bump R.GLB_SPOOL_DISCARD_CNT n

theorem spoolEmptied_host (d : Dev) (n : Nat) : (d.spoolEmptied n).host = { d.host with spool := [], spoolOut := d.host.spoolOut + n } := by
  simp [Dev.spoolEmptied, Dev.bump, Dev.spoolLevel, Dev.setHost]

theorem subsOf_congr {d d' : Dev} (h : d'.host.ctxs = d.host.ctxs) (op : Nat) : d'.subsOf op = d.subsOf op := by
  simp only [Dev.subsOf, Dev.ctxList, h]

section subscribe
variable {d : Dev} {q x : Nat} {c : HostCmd} {y : Ctx} (hx : c.ctx = some x) (hy : d.ctx x = some y)
include hx hy

theorem subscribeRecords_takes (h : mayStart d q 0x20 c) (hlo : 1 ≤ c.specAt 0 4) (hhi : c.specAt 0 4 ≤ 1000000) (hd : c.specAt 4 1 ≤ 1) (hop : c.op = 0x20)
    (hnone : (takeCmd d c).subsOf 0x20 = []) :
    (d.subscribeRecords q).ctx x = some { y with st := 3 } ∧ (d.subscribeRecords q).host.spool = if c.specAt 4 1 = 1 then [] else d.host.spool := by
  have heq : d.subscribeRecords q = (if c.specAt 4 1 = 1 then (takeCmd d c).spoolEmptied (takeCmd d c).host.spool.length else takeCmd d c).subStart c 1 id := by
    refine (startCmd_runs _ _ _ h (by simp [Nat.ne_of_gt hlo, hhi, hd]) (Nat.zero_le _)).trans ?_
    simp only [hnone, List.isEmpty_nil, Bool.not_true, Bool.false_eq_true, if_false]
    rfl
  rw [heq]
  split
  · have hctxs : ((takeCmd d c).spoolEmptied (takeCmd d c).host.spool.length).host.ctxs = (takeCmd d c).host.ctxs := by rw [spoolEmptied_host]
    have hlim : (((takeCmd d c).spoolEmptied (takeCmd d c).host.spool.length).subsOf c.op).length < 1 := by
      rw [subsOf_congr hctxs, hop, hnone]
      decide
    exact ⟨subStart_ctx id hlim hx ((ctx_congr hctxs x).trans hy), (subStart_spool id hlim hx).trans (by rw [spoolEmptied_host])⟩
  · have hlim : ((takeCmd d c).subsOf c.op).length < 1 := by
      rw [hop, hnone]
      decide
    exact ⟨subStart_ctx id hlim hx hy, subStart_spool id hlim hx⟩

theorem subscribePreview_takes (h : mayStart d q 0x21 c) (hop : c.op = 0x21) (hnone : (takeCmd d c).subsOf 0x21 = []) :
    (d.subscribePreview q).ctx x = some { y with st := 3 } := by
  have hlim : ((takeCmd d c).subsOf c.op).length < 1 := by
    rw [hop, hnone]
    decide
  rw [show d.subscribePreview q = _ from startCmd_runs _ _ _ h rfl (Nat.zero_le _)]
  dsimp only
  split
  · exact subStart_ctx id hlim hx hy
  · exact subStart_ctx id hlim hx hy

theorem subscribeImage_takes (h : mayStart d q 0x22 c) (hop : c.op = 0x22) (hk : c.specAt 0 1 ≤ 3) (hon : d.layerOn (c.specAt 0 1) = true) (hfrom : c.specAt 1 1 = 0)
    (hcols : c.specAt 4 4 ≤ c.specAt 8 4) (hlast : c.specAt 8 4 < d.stitchCols) (hroom : ((takeCmd d c).subsOf 0x22).length < 8) :
    (d.subscribeImage q).ctx x = some { y with st := 3, keep := [c.specAt 0 1, max (c.specAt 2 2) 1, c.specAt 4 4, c.specAt 8 4], next := d.blv.nextRow } := by
  have heq : d.subscribeImage q = (takeCmd d c).subStart c 8 fun y => { y with keep := [c.specAt 0 1, max (c.specAt 2 2) 1, c.specAt 4 4, c.specAt 8 4], next := d.blv.nextRow } := by
    refine (startCmd_runs _ _ _ h (by simp [hk, hon, hfrom, hcols, hlast]) (Nat.zero_le _)).trans ?_
    simp only [if_neg (Nat.not_le.mpr hroom), hfrom, Nat.zero_ne_one, false_and, if_false]
    rfl
  rw [heq]
  exact subStart_ctx _ (by rw [hop]; exact hroom) hx hy

theorem subscribeProfile_takes (h : mayStart d q 0x23 c) (hop : c.op = 0x23) (hk : c.specAt 0 1 < 16) (hnone : (takeCmd d c).subsOf 0x23 = []) :
    (d.subscribeProfile q).ctx x = some { y with st := 3, keep := [c.specAt 0 1] } := by
  have hlim : ((takeCmd d c).subsOf c.op).length < 1 := by
    rw [hop, hnone]
    decide
  rw [show d.subscribeProfile q = _ from startCmd_runs _ _ _ h (by simpa using hk) (Nat.zero_le _)]
  exact subStart_ctx _ hlim hx hy

end subscribe

/-! ### POST_BUFFER, UNSUBSCRIBE (R376, R380) -/

section buffers
variable {d : Dev} {q : Nat} {c : HostCmd}

theorem postBuffer_none (h : mayStart d q 0x24 c) (hn : d.ctx (c.argAt 0 2) = none) : d.postBuffer q = (takeCmd d c).finish c 0x100B 0 0 := by
  refine (startCmd_runs _ _ _ h rfl (Nat.zero_le _)).trans ?_
  simp only [takeCmd_ctx, hn]

theorem unsubscribe_none (h : mayStart d q 0x25 c) (hn : d.ctx (c.argAt 0 2) = none) : d.unsubscribe q = (takeCmd d c).finish c 0x1006 0 0 := by
  refine (startCmd_runs _ _ _ h rfl (Nat.zero_le _)).trans ?_
  simp only [takeCmd_ctx, hn]

variable {y : Ctx} (hy : d.ctx (c.argAt 0 2) = some y) (hst : y.st = 3) (hfn : y.cmd.fn = c.fn)
include hy hst hfn

theorem postBuffer_takes (h : mayStart d q 0x24 c) (hfit : (takeCmd d c).bufFits y c.len = true) (hroom : (takeCmd d c).bufsInUse (c.argAt 0 2) y < 1024) :
    d.postBuffer q = (takeCmd d c).setCtx (c.argAt 0 2) (some { y with bufs := y.bufs ++ [{ cid := c.cid, sq := q, addr := c.addr, len := c.len }] }) := by
  refine (startCmd_runs _ _ _ h rfl (Nat.zero_le _)).trans ?_
  simp only [takeCmd_ctx, hy, hst, hfn, ne_eq, not_true_eq_false, or_self, if_false, hfit, Bool.not_true, Bool.false_eq_true, if_neg (Nat.not_le.mpr hroom)]

theorem unsubscribe_ends (h : mayStart d q 0x25 c) : d.unsubscribe q = ((takeCmd d c).subEnd (c.argAt 0 2)).finish c 0 y.done 0 := by
  refine (startCmd_runs _ _ _ h rfl (Nat.zero_le _)).trans ?_
  simp only [takeCmd_ctx, hy, hst, hfn, ne_eq, not_true_eq_false, or_self, if_false]

end buffers

/-- Settles O48: each command starts by `startCmd_runs` and does its own work. -/
theorem shortCommands : Obligations.ShortCommands := by
  unfold Obligations.ShortCommands
  intro s q c hm
  refine ⟨fun h hlen => exec_run_eq (exec_identify s q) hm (identify_runs _ h hlen), fun h hform => exec_run_eq (exec_commit s q) hm (commitCmd_runs h hform),
    fun h => exec_run_eq (exec_modeRequest s q) hm (modeCmd_runs h), fun h h3 h1 => exec_run_eq (exec_recipeSwitch s q) hm (recipeCmd_runs h h3 h1),
    fun h hidle => ?profile, fun h hk hon hw hw' hh hh' hcols hlen => ?crop, fun h hn hs h2 hrest hmode => ⟨fun hbind hst halign => ?begins, fun hw hbind => ?unbound,
      fun hw hfn hbind hst halign => ?waits, fun hw hst => ?stays⟩, fun x y hx hy => ⟨fun h hlo hhi hd hop hnone => ?records, fun h hop hnone => ?preview,
      fun h hop hk hon hfrom hcols hlast hroom => ?image, fun h hop hk hnone => ?profiles⟩, fun y hy hst hfn => ⟨fun h hfit hroom => ?post, fun h => ?unsubscribe⟩,
    fun h hn => exec_run_eq (exec_postBuffer s q) hm (postBuffer_none h hn), fun h hn => exec_run_eq (exec_unsubscribe s q) hm (unsubscribe_none h hn)⟩
  case profile =>
    obtain ⟨-, hprf, hrow⟩ := syncClash_kept (takeCmd s.start c) false
    exact ⟨(takeCmd s.start c).syncClash false, exec_run_eq (exec_profileReset s q) hm (profileReset_idle h hidle), hrow, hprf⟩
  case crop =>
    have heq := cropRead_runs h hk hon ⟨hw, hw'⟩ ⟨hh, hh'⟩ hcols hlen
    intro bs
    refine ⟨fun hshort => ⟨(takeCmd s.start c).cropOut c bs.flatten, ?_, cropOut_regs ..⟩, fun hall hne => ?_⟩
    · exact exec_run_eq (exec_cropRead s q) hm (heq.trans (if_pos hshort))
    · refine exec_run_eq (exec_cropRead s q) hm (heq.trans ((if_neg (Nat.not_lt.mpr hall)).trans ?_))
      rw [Dev.cropOut, if_neg hne]
  case begins => exact exec_run_eq (exec_dmaRun s q) hm (dmaRun_begins h hn hs h2 hrest hmode hbind halign hst)
  case unbound => exact exec_run_eq (exec_dmaRun s q) hm (dmaRun_unbound h hn hs h2 hrest hw hbind)
  case waits => exact exec_run_eq (exec_dmaRun s q) hm (dmaRun_waits h hn hs h2 hrest hmode hbind halign hw hfn hst)
  case stays => exact exec_run_eq (exec_dmaRun s q) hm (dmaRun_stays h.1 hw hst)
  case records => exact completes_run _ (exec_subscribeRecords s q) hm (subscribeRecords_takes (d := s.start) hx hy h hlo hhi hd hop hnone)
  case preview => exact completes_run _ (exec_subscribePreview s q) hm (subscribePreview_takes (d := s.start) hx hy h hop hnone)
  case image => exact completes_run _ (exec_subscribeImage s q) hm (subscribeImage_takes (d := s.start) hx hy h hop hk hon hfrom hcols hlast hroom)
  case profiles => exact completes_run _ (exec_subscribeProfile s q) hm (subscribeProfile_takes (d := s.start) hx hy h hop hk hnone)
  case post =>
    refine completes_run _ (exec_postBuffer s q) hm ?_
    rw [postBuffer_takes (d := s.start) hy hst hfn h hfit hroom]
    exact ⟨ctx_setCtx_same .., rfl, rfl⟩
  case unsubscribe => exact exec_run_eq (exec_unsubscribe s q) hm (unsubscribe_ends hy hst hfn h)

end Sys2Proof.Machine
end

section
/-!
SUPPORT. The long operations (R370 to R373, R49, R275, R379): how each starts, is suspended, resumed, cancelled and asked for, the steps of EXPORT and REPLAY,
and the statement O49.
-/
namespace Sys2Proof.Machine

/-! ### What an operation's start leaves -/

/-- The context of an operation that starts (R374). -/
theorem opStart_ctx {d : Dev} {c : HostCmd} {x : Nat} {y : Ctx} (f : Ctx → Ctx) (hx : c.ctx = some x) (hy : d.ctx x = some y) : (d.opStart c f).ctx x = some (f y) := by
  have hkept : (d.setRstat (opKind c.op) { d.rstat (opKind c.op) with ready := false, fresh := false, status := 0x1004, value := 0 }).ctx x = some y := hy
  simp only [Dev.opStart, hx]
  rw [started_ctx, ctx_updCtx_same, hkept, Option.map_some]

section starts
variable {d : Dev} {q x : Nat} {c : HostCmd} {y : Ctx}

/-! ### CALIBRATE, TEST (R326, R530) -/

theorem extStart_ctx (d : Dev) (z : Nat) : d.extStart.ctx z = d.ctx z := ctx_congr (by simp [Dev.extStart, Dev.setCal]) z

theorem calibrate_starts {e : ExtCal} (h : mayStart d q 0x10 c) (hfree : (takeCmd d c).opBusy c = false) (hall : d.extAllowed = true)
    (he : (takeCmd d c).extStart.cal.ext = some e) :
    d.calibrateOp q = (takeCmd d c).extStart.opStart c fun y => { y with phase := if e.mode = 1 then 2 else 0 } := by
  have hall' : (takeCmd d c).extAllowed = true := hall
  refine (startCmd_runs _ _ _ h rfl (Nat.zero_le _)).trans ?_
  simp only [hfree, hall', he, Bool.not_true, Bool.false_eq_true, if_false, decide_eq_true_eq]

theorem calibrate_refused (h : mayStart d q 0x10 c) (hfree : (takeCmd d c).opBusy c = false) (hall : d.extAllowed = false) :
    d.calibrateOp q = ((takeCmd d c).calCode 0x500C 5).finish c 0x500C 0 0 := by
  have hall' : (takeCmd d c).extAllowed = false := hall
  refine (startCmd_runs _ _ _ h rfl (Nat.zero_le _)).trans ?_
  simp only [hfree, hall', Bool.false_eq_true, if_false, Bool.not_false, if_true]

theorem test_dram (h : mayStart d q 0x11 c) (hfree : (takeCmd d c).opBusy c = false) (ht : c.specAt 0 1 = 1)
    (hin : c.specAt 4 4 % 65536 + c.specAt 4 4 / 65536 ≤ d.drtBlocks) (hn : c.specAt 4 4 / 65536 ≠ 0) :
    d.testOp q = (takeCmd d c).opStart c fun y => { y with phase := 1, keep := [1, c.specAt 4 4 % 65536, c.specAt 4 4 / 65536, 0, 0] } := by
  have hin' : ¬ (takeCmd d c).drtBlocks < c.specAt 4 4 % 65536 + c.specAt 4 4 / 65536 := Nat.not_lt.mpr hin
  refine (startCmd_runs _ _ _ h rfl (Nat.zero_le _)).trans ?_
  simp only [hfree, Bool.false_eq_true, if_false, ht, if_neg hin', if_neg hn]

theorem test_unknown (h : mayStart d q 0x11 c) (hfree : (takeCmd d c).opBusy c = false) (ht : 3 ≤ c.specAt 0 1) :
    d.testOp q = ((takeCmd d c).tstCode 0xC00E).finish c 0xC00E 0 0 := by
  refine (startCmd_runs _ _ _ h rfl (Nat.zero_le _)).trans ?_
  obtain ⟨n, hn⟩ := Nat.exists_eq_add_of_le' ht
  simp only [hfree, Bool.false_eq_true, if_false, hn]

/-! ### EXPORT, REPLAY (R379, R49) -/

theorem export_starts (h : mayStart d q 0x12 c) (hk : c.specAt 0 1 ≤ 3) (hon : d.layerOn (c.specAt 0 1) = true) (hcols : c.specAt 20 4 ≤ c.specAt 24 4)
    (hlast : c.specAt 24 4 < d.stitchCols) (hlen : c.specAt 16 4 * rowSize (c.specAt 24 4 + 1 - c.specAt 20 4) (d.bpp (c.specAt 0 1)) ≤ c.len)
    (hall : ((takeCmd d c).opsOf 0x12).all (fun z => decide (some z.1 = c.ctx)) = true) (hrows : c.specAt 16 4 ≠ 0) :
    d.atticExport q = (takeCmd d c).opStart c fun y => { y with keep := [c.specAt 0 1, c.specAt 16 4, c.specAt 20 4, c.specAt 24 4], next := c.specAt 8 8 } := by
  unfold Dev.atticExport
  dsimp only
  rw [startCmd_runs _ _ _ h ?_ hlen]
  · simp only [hall, Bool.not_true, Bool.false_eq_true, if_false, if_neg hrows]
  · simp [hk, hon, hcols, hlast]

theorem replay_starts (h : mayStart d q 0x13 c) (hsrc : c.specAt 0 1 ≤ 1) (hfree : (takeCmd d c).opBusy c = false) (hm : d.mode = .armed) :
    d.replayOp q = (takeCmd d c).opStart c fun y => { y with keep := [c.specAt 0 1, c.specAt 16 4], next := if c.specAt 0 1 = 0 then c.specAt 8 8 else 0 } := by
  refine (startCmd_runs _ _ _ h (by simpa using hsrc) (Nat.zero_le _)).trans ?_
  simp only [hfree, Bool.false_eq_true, if_false, takeCmd_mode, hm, ne_eq, not_true_eq_false]

theorem replay_refused (h : mayStart d q 0x13 c) (hsrc : c.specAt 0 1 ≤ 1) (hfree : (takeCmd d c).opBusy c = false) (hm : d.mode ≠ .armed) :
    d.replayOp q = ((takeCmd d c).glbErr 0x800E).finish c 0x800E 0 0 := by
  refine (startCmd_runs _ _ _ h (by simpa using hsrc) (Nat.zero_le _)).trans ?_
  simp only [hfree, Bool.false_eq_true, if_false, takeCmd_mode]
  exact if_pos hm

/-! ### MODEL_LOAD, LANE_RETRAIN, SPARE_ROTATE (R275, R371, R529) -/

/-- A bank is cleared, and its image with it. -/
def Dev.bankOpened (d : Dev) (k : Nat) : Dev := (d.bankClear k bankLoading).setDca fun s => { s with images := tset [] s.images k [] }

theorem bankOpened_ctx (d : Dev) (k z : Nat) : (d.bankOpened k).ctx z = d.ctx z := ctx_congr (by simp [Dev.bankOpened, Dev.bankClear, Dev.setDca]) z

theorem modelLoad_starts (h : mayStart d q 0x14 c) (hk : c.specAt 0 1 ≤ 1) (hsrc : c.specAt 1 1 ≤ 2) (hnone : (takeCmd d c).opsOf 0x14 = [])
    (hact : d.fld (bankState (c.specAt 0 1)) ≠ bankActive) (hdrain : d.fld (bankState (c.specAt 0 1)) ≠ bankDraining) (hfree : tget 0 d.cfg.claims R.DCA_CTRL.addr = 0) :
    d.modelLoad q = ((takeCmd d c).bankOpened (c.specAt 0 1)).opStart c fun y => { y with keep := [c.specAt 0 1, c.specAt 1 1] } := by
  have hfree' : tget 0 (takeCmd d c).cfg.claims R.DCA_CTRL.addr = 0 := hfree
  unfold Dev.modelLoad
  dsimp only
  rw [startCmd_runs _ _ _ h ?_ (Nat.zero_le _)]
  · simp only [hnone, List.any_nil, Bool.false_eq_true, if_false, takeCmd_fld, hact, hdrain, hfree', ne_eq, not_true_eq_false, decide_false, Bool.false_and, or_self]
    rfl
  · simp [hk, hsrc]

/-- The ports and sides that a LANE_RETRAIN takes out of service. -/
def Dev.retrainPorts (d : Dev) (cam : Nat) : List Nat := (List.range 16).filter fun p => decide (2 ≤ d.fld (portState p)) && (d.mappedLanes p).any fun l => bitOf cam l
def Dev.retrainSides (d : Dev) (seam : Nat) : List Nat := [0, 1].filter fun k => decide (2 ≤ d.stage k) && (List.range 16).any fun i => bitOf seam (16 * k + i)

theorem laneRetrain_starts (h : mayStart d q 0x15 c) (hfree : (takeCmd d c).opBusy c = false) :
    d.laneRetrain q = (d.retrainSides (c.specAt 8 4)).foldl Dev.enterTrain ((d.retrainPorts (c.specAt 0 8)).foldl (fun e p => if e.portUp p then (e.portDetect p).portLeft p else e.portDetect p)
      ((takeCmd d c).opStart c fun y => { y with phase := 1, keep := d.retrainPorts (c.specAt 0 8) ++ (d.retrainSides (c.specAt 8 4)).map (100 + ·) })) := by
  refine (startCmd_runs _ _ _ h rfl (Nat.zero_le _)).trans ?_
  simp only [hfree, Bool.false_eq_true, if_false]
  rfl

theorem spareRotate_starts (h : mayStart d q 0x16 c) (hrole : c.specAt 0 1 ≤ 15) (hall : ((takeCmd d c).opsOf 0x16).all (fun z => decide (some z.1 = c.ctx)) = true)
    (hm : d.mode.framed = true) (hspare : d.spareReady.isSome = true) :
    d.spareRotate q = ((takeCmd d c).opStart c fun y => { y with keep := [c.specAt 0 1] }).rotAdd (c.specAt 0 1) c.ctx := by
  have hspare' : (takeCmd d c).spareReady.isNone = false := Option.isNone_eq_false_iff.mpr hspare
  have hnotAny : ¬ c.specAt 0 1 = 0xFF := by omega
  unfold Dev.spareRotate
  dsimp only
  rw [startCmd_runs _ _ _ h ?_ (Nat.zero_le _)]
  · simp only [hall, Bool.not_true, Bool.false_eq_true, if_false, takeCmd_mode, hm, hspare', if_neg hnotAny]
  · simp [hrole]

end starts

/-! ### SUSPEND, RESUME, CANCEL, OP_STATUS (R372, R373) -/

/-- The operation that a command names is the one of its context. -/
theorem target_ctx {d : Dev} {c : HostCmd} {x : Nat} {y : Ctx} (h : d.target c = some (x, y)) : d.ctx x = some y := by
  unfold Dev.target at h
  split at h
  · exact absurd h (by simp)
  · next z hz =>
    split at h
    · obtain ⟨rfl, rfl⟩ := Prod.mk.inj (Option.some.inj h)
      exact hz
    · exact absurd h (by simp)

theorem stateWord_eq {d : Dev} {x : Nat} {y : Ctx} (h : d.ctx x = some y) : d.stateWord x = y.st + y.phase * 2 ^ 8 + y.progress % 2 ^ 32 * 2 ^ 32 := by
  simp only [Dev.stateWord, h]

section
variable {d : Dev} {q op : Nat} {c : HostCmd} (act : HostCmd → Nat → Ctx → Dev → Dev)

theorem onTarget_acts {x : Nat} {y : Ctx} (h : mayStart d q op c) (ht : (takeCmd d c).target c = some (x, y)) : d.onTarget q op act = act c x y (takeCmd d c) := by
  rw [onTarget_eq, startCmd_runs _ _ _ h rfl (Nat.zero_le _)]
  simp only [targetBody, ht]

theorem onTarget_none (h : mayStart d q op c) (ht : (takeCmd d c).target c = none) : d.onTarget q op act = (takeCmd d c).finish c 0x1006 0 0 := by
  rw [onTarget_eq, startCmd_runs _ _ _ h rfl (Nat.zero_le _)]
  simp only [targetBody, ht]

end

section acts
variable {d : Dev} {q x : Nat} {c : HostCmd} {y : Ctx} (ht : (takeCmd d c).target c = some (x, y))
include ht

theorem suspend_stops (h : mayStart d q 0x18 c) (hst : y.st = 1) (hbegun : (takeCmd d c).begun x = true) (hs : suspendable y = true) (h11 : y.cmd.op ≠ 0x11) :
    d.suspendOp q = (let t := (takeCmd d c).updCtx x fun y => { y with st := 2 }
      let t := if y.cmd.op = 0x14 then t.loadHold x y else t
      t.finish c 0 (t.stateWord x) 0) := by
  refine (onTarget_acts _ h ht).trans ?_
  simp only [hst, OfNat.one_ne_ofNat, if_false, hbegun, hs, and_self, if_true, h11, false_and]

theorem suspend_refused (h : mayStart d q 0x18 c) (hwhy : y.st ≠ 1 ∨ (takeCmd d c).begun x = false ∨ suspendable y = false) (hst : y.st ≠ 2) :
    d.suspendOp q = (takeCmd d c).finish c 0x1007 ((takeCmd d c).stateWord x) 0 := by
  have hnot : ¬ (y.st = 1 ∧ (takeCmd d c).begun x = true ∧ suspendable y = true) := by
    rintro ⟨h1, h2, h3⟩
    rcases hwhy with hw | hw | hw
    · exact hw h1
    · exact absurd (h2.symm.trans hw) (by decide)
    · exact absurd (h3.symm.trans hw) (by decide)
  refine (onTarget_acts _ h ht).trans ?_
  simp only [if_neg hst, if_neg hnot]

theorem resume_goesOn (h : mayStart d q 0x19 c) (hst : y.st = 2) (h11 : y.cmd.op ≠ 0x11) (h10 : y.cmd.op ≠ 0x10) :
    d.resumeOp q = (let t := (takeCmd d c).updCtx x fun y => { y with st := 1 }
      t.finish c 0 (t.stateWord x) 0) := by
  refine (onTarget_acts _ h ht).trans ?_
  simp only [hst, ne_eq, not_true_eq_false, if_false, h10, h11, decide_false, Bool.false_and, Bool.false_eq_true, false_and]

theorem opStatus_answers (h : mayStart d q 0x1B c) : d.opStatus q = (takeCmd d c).finish c 0 (y.st + y.phase * 2 ^ 8 + y.progress % 2 ^ 32 * 2 ^ 32) 0 := by
  refine (onTarget_acts _ h ht).trans ?_
  rw [stateWord_eq (target_ctx ht)]

section cancel
variable (blocks : Nat) (data : List Byte) (h : mayStart d q 0x1A c)
include h

theorem cancel_subscription (hst : y.st = 3) :
    d.cancelOp q blocks data = (let t := (takeCmd d c).subEnd x
      t.finish c 0 (t.stateWord x) 0) := by
  refine (onTarget_acts _ h ht).trans ?_
  simp only [hst, if_true]

theorem cancel_late (hst : y.st = 4) : d.cancelOp q blocks data = (takeCmd d c).finish c 0x1008 ((takeCmd d c).stateWord x) 0 := by
  refine (onTarget_acts _ h ht).trans ?_
  simp only [hst, Nat.reduceEqDiff, if_false, if_true]

theorem cancel_unbegun (hst : y.st = 1) (hbegun : (takeCmd d c).begun x = false) (hlo : 0x10 ≤ y.cmd.op) (hhi : y.cmd.op ≤ 0x16) :
    d.cancelOp q blocks data = (let t := ((takeCmd d c).unfetch x).finish y.cmd 0x1009 0 0
      t.finish c 0 (t.stateWord x) 0) := by
  refine (onTarget_acts _ h ht).trans ?_
  simp only [hst, OfNat.one_ne_ofNat, if_false, hbegun, Bool.not_false, hlo, hhi, decide_true, Bool.and_self, true_or, and_self, if_true]

theorem cancel_export (hst : y.st = 1) (hbegun : (takeCmd d c).begun x = true) (hop : y.cmd.op = 0x12) (hphase : y.phase < 9) :
    d.cancelOp q blocks data = (let t := (takeCmd d c).opEnd x 0x1009 y.done y.at_
      t.finish c 0 (t.stateWord x) 0) := by
  refine (onTarget_acts _ h ht).trans ?_
  simp only [hst, OfNat.one_ne_ofNat, if_false, hbegun, hop]
  simp [lastState, hphase, Dev.opCancel, hop]

end cancel
end acts

/-- The state of a suspended load: it holds the bytes that it has received. -/
theorem loadHold_ctx {d : Dev} {x : Nat} {y z : Ctx} (h : d.ctx x = some z) : ∃ n, (d.loadHold x y).ctx x = some { z with next := z.next + n } := by
  refine ⟨Config.loadedSoFar d.draws % ((if y.keep.getD 1 0 = 0 then zeros (y.cmd.len - y.next) else d.slotBytes y y.next).length + 1), ?_⟩
  unfold Dev.loadHold
  dsimp only
  generalize tget [] d.dca.images (y.keep.getD 0 0) ++ _ = held
  generalize Config.loadedSoFar d.draws % _ = n
  have hkept : (if y.keep.getD 1 0 = 0 then d else d.setDca fun s => { s with images := tset [] s.images (y.keep.getD 0 0) held }).ctx x = some z := by
    split
    · exact h
    · exact h
  exact (ctx_updCtx_same _ x _).trans (by rw [hkept, Option.map_some])

/-! ### The steps of REPLAY and EXPORT (R49, R379) -/

section replay
variable {d : Dev} {x : Nat} {y : Ctx}

theorem replayLoadDone_refused (first : Int) (h : d.replayIn 0 = some (x, y)) (hm : d.mode ≠ .armed) : d.replayLoadDone first = (d.glbErr 0x800E).opEnd x 0x800E 0 0 := by
  simp only [Dev.replayLoadDone, h, if_pos hm]

theorem replayLoadDone_host (first : Int) (h : d.replayIn 0 = some (x, y)) (hm : d.mode = .armed) (hsrc : y.keep.getD 0 0 = 1) :
    d.replayLoadDone first = (let e := d.opPhase x 1
      (({ e with pos := { e.pos with md := e.mdOf first, hwm := e.mdOf first } } : Dev).latchGrid.beginRun 0 0 true).setMode .replay) := by
  simp only [Dev.replayLoadDone, h, hm, ne_eq, not_true_eq_false, if_false, hsrc, if_true]

theorem replayHostLine_ctx (p : Nat) (wpos : Int) (planes : List (List Nat)) (field : Nat) (h : d.replayIn 1 = some (x, y)) (hst : y.st = 1) (hsrc : y.keep.getD 0 0 = 1)
    (hm : d.mode = .replay) : (d.replayHostLine p wpos planes field).ctx x =
      some { y with next := y.next + 1, done := y.done + 1, progress := y.done + 1, phase := if y.keep.getD 1 0 ≤ y.done + 1 then 2 else 1 } := by
  simp only [Dev.replayHostLine, h, hst, hsrc, hm, ne_eq, not_true_eq_false, or_self, if_false]
  exact ctx_setCtx_same ..

variable (h : d.replayIn 1 = some (x, y)) (hst : y.st = 1) (hattic : d.atticReplay = true)
include h hst hattic

theorem replayAtticRow_over (hdone : y.keep.getD 1 0 ≤ y.done) : d.replayAtticRow = d.opPhase x 2 := by
  simp only [Dev.replayAtticRow, h, hattic, hst, ne_eq, not_true_eq_false, decide_false, Bool.not_true, Bool.or_self, Bool.false_eq_true, if_false, if_pos hdone]

theorem replayAtticRow_gone (hmore : y.done < y.keep.getD 1 0) (hrow : d.atticRow y.next = none) : d.replayAtticRow = d.replayEnd x 0x1010 := by
  simp only [Dev.replayAtticRow, h, hattic, hst, ne_eq, not_true_eq_false, decide_false, Bool.not_true, Bool.or_self, Bool.false_eq_true, if_false,
    if_neg (Nat.not_le.mpr hmore), hrow]

theorem replayAtticRow_row {row : Stitched} (hmore : y.done < y.keep.getD 1 0) (hrow : d.atticRow y.next = some row) :
    let e : Dev := { d with pos := { d.pos with linesPassed := y.next + 1, hwm := d.linePos y.next, md := d.linePos y.next } }
    let b := if e.isBoundary y.next then e.boundary y.next else e
    ∃ (v : Dev) (es : List (Nat × Nat)) (ri : RowInfo), v = (({ b with pos := { b.pos with epochs := es } } : Dev).prfBefore row []).1 ∧ ri.line = y.next ∧
      ri.epoch = row.epoch ∧ ri.flags = row.flags ∧
      d.replayAtticRow = ((((({ v with blv := { v.blv with nextRow := y.next + 1, rows := v.blv.rows ++ [ri] } } : Dev).rowFiltered row).galRow y.next row.wide).setCtx x
        (some { y with next := y.next + 1, done := y.done + 1, progress := y.done + 1, phase := if y.keep.getD 1 0 ≤ y.done + 1 then 2 else 1 })).settledSince d.prf.settled) := by
  intro e b
  let es := if (match b.pos.epochs with | z :: _ => z.2 | [] => 2 ^ 32) = row.epoch then b.pos.epochs else (y.next, row.epoch) :: b.pos.epochs
  let v := (({ b with pos := { b.pos with epochs := es } } : Dev).prfBefore row []).1
  refine ⟨v, es, { line := y.next, epoch := row.epoch, flags := row.flags, mergedAt := v.time, bg := v.background (v.prfVer y.next), cover := v.atticCover row }, rfl, rfl, rfl, rfl, ?_⟩
  unfold Dev.replayAtticRow
  simp only [h, hattic, hst, ne_eq, not_true_eq_false, decide_false, Bool.not_true, Bool.or_self, Bool.false_eq_true, if_false, if_neg (Nat.not_le.mpr hmore), hrow]
  rfl

end replay

theorem replayDone_ends {d : Dev} {x : Nat} {y : Ctx} (h : d.replayIn 2 = some (x, y)) : d.replayDone = d.replayEnd x 0 := by simp only [Dev.replayDone, h]

/-- A row of an EXPORT goes to the command's buffer, and the operation to the next. -/
theorem exportRow_goesOn {d : Dev} {x : Nat} {y : Ctx} {rest : List (Nat × Ctx)} {bs : List Byte} (h : d.opsOf 0x12 = (x, y) :: rest) (hst : y.st = 1) (hrdy : d.attReady = true)
    (hdue : y.next ≤ d.blv.head) (hthere : d.attHolds y.next = true)
    (hrow : d.imageRow (y.keep.getD 0 0) y.next (y.keep.getD 2 0) (y.keep.getD 3 0) (y.lost % 2 ^ 32) = some bs) (hmore : y.next + 1 < y.cmd.specAt 8 8 + y.keep.getD 1 0) :
    d.exportRow = (d.bufWrite y.cmd (y.done * rowSize (y.keep.getD 3 0 + 1 - y.keep.getD 2 0) (d.bpp (y.keep.getD 0 0))) bs).setCtx x
      (some { y with phase := 1, next := y.next + 1, done := y.done + 1, progress := y.progress + 1, lost := 0 }) := by
  have hgo : ¬ (y.st ≠ 1 ∨ (!d.attReady) = true ∨ d.blv.head < y.next) := by simp [hst, hrdy, hdue]
  simp only [Dev.exportRow, h, if_neg hgo, hthere, if_true, hrow, if_neg (Nat.not_le.mpr hmore)]

/-- Settles O49: each operation starts by `startCmd_runs`, the commands about one act on their target, and the steps of EXPORT and REPLAY follow their cases. -/
theorem longOperations : Obligations.LongOperations := by
  unfold Obligations.LongOperations
  intro s q c hm
  refine ⟨fun x y hx hy => ⟨fun h hfree hall => ?cal, fun h hfree hall => ?calNot, fun h hfree ht hin hn => ?test, fun h hfree ht => ?testNot,
      fun h hk hon hcols hlast hlen hall hrows => ?export_, fun h hsrc hfree hmode => ?replay, fun h hsrc hfree hmode => ?replayNot,
      fun h hk hsrc hnone hact hdrain hfree => ?load, fun h hfree => ?retrain, fun h hrole hall hframed hspare => ?rotate⟩,
    fun x y ht hcx => ⟨fun h hst hbegun hs h11 h14 => ?suspend, fun h hst hbegun hs h14 => ?suspendLoad, fun h hwhy hst => ?suspendNot, fun h hst h11 h10 => ?resume,
      fun h => ?status, fun blocks data h => ⟨fun hst => ?cancelSub, fun hst => ?cancelLate, fun hst hbegun hlo hhi => ?cancelWaiting, fun hst hbegun hop => ?cancelExport⟩⟩,
    fun ht h => ?statusNot, fun x y h => ⟨fun first hmode => ?loadNot, fun first hmode hsrc => ?loadDone⟩,
    fun x y h hst => ⟨fun p wpos planes field hsrc hmode => ?hostLine, fun ha hdone => ?rowsOver, fun ha hmore hrow => ?rowGone, fun row ha hmore hrow => ?row⟩,
    fun x y h => ?drained, fun x y rest bs h hst hrdy hdue hthere hrow hmore => ?exportRow⟩
  case cal =>
    have hext : ∃ e : ExtCal, (takeCmd s.start c).extStart.cal.ext = some e ∧
        e.mode = (if s.dev.live R.CAL_EXT_CFG_EXT_MODE = 3 then 0 else s.dev.live R.CAL_EXT_CFG_EXT_MODE) ∧ e.white = s.dev.live R.CAL_EXT_CFG_WHITE_TARGET :=
      ⟨_, rfl, rfl, rfl⟩
    obtain ⟨e, he, hmode, hwhite⟩ := hext
    exact ⟨_, e, exec_run_eq (exec_calibrate s q) hm (calibrate_starts h hfree hall he), opStart_ctx _ hx ((extStart_ctx ..).trans hy), he, hmode, hwhite⟩
  case calNot => exact exec_run_eq (exec_calibrate s q) hm (calibrate_refused h hfree hall)
  case test => exact ⟨_, exec_run_eq (exec_test s q) hm (test_dram h hfree ht hin hn), opStart_ctx _ hx hy⟩
  case testNot => exact exec_run_eq (exec_test s q) hm (test_unknown h hfree ht)
  case export_ => exact ⟨_, exec_run_eq (exec_atticExport s q) hm (export_starts h hk hon hcols hlast hlen hall hrows), opStart_ctx _ hx hy⟩
  case replay => exact ⟨_, exec_run_eq (exec_replay s q) hm (replay_starts h hsrc hfree hmode), opStart_ctx _ hx hy⟩
  case replayNot => exact exec_run_eq (exec_replay s q) hm (replay_refused h hsrc hfree hmode)
  case load =>
    exact ⟨_, exec_run_eq (exec_modelLoad s q) hm (modelLoad_starts h hk hsrc hnone hact hdrain hfree), opStart_ctx _ hx ((bankOpened_ctx ..).trans hy)⟩
  case retrain =>
    intro ports sides
    exact ⟨_, opStart_ctx (d := takeCmd s.start c) _ hx hy, exec_run_eq (exec_laneRetrain s q) hm (laneRetrain_starts h hfree)⟩
  case rotate => exact ⟨_, exec_run_eq (exec_spareRotate s q) hm (spareRotate_starts h hrole hall hframed hspare), opStart_ctx _ hx hy⟩
  case suspend =>
    refine completes_run _ (exec_suspend s q) hm ?_
    rw [suspend_stops (d := s.start) ht h hst hbegun hs h11]
    dsimp only
    rw [if_neg h14, finish_ctx_other _ _ _ _ (by rw [hcx]; simp), ctx_updCtx_same, target_ctx ht, Option.map_some]
  case suspendLoad =>
    obtain ⟨n, hn⟩ := loadHold_ctx (d := (takeCmd s.start c).updCtx x fun y => { y with st := 2 }) (x := x) (y := y) (z := { y with st := 2 })
      (by rw [ctx_updCtx_same, target_ctx ht, Option.map_some])
    refine ⟨_, n, exec_run_eq (exec_suspend s q) hm (suspend_stops ht h hst hbegun hs (by rw [h14]; decide)), ?_⟩
    dsimp only
    rw [if_pos h14, finish_ctx_other _ _ _ _ (by rw [hcx]; simp), hn]
  case suspendNot => exact exec_run_eq (exec_suspend s q) hm (suspend_refused ht h hwhy hst)
  case resume =>
    refine completes_run _ (exec_resume s q) hm ?_
    rw [resume_goesOn (d := s.start) ht h hst h11 h10]
    dsimp only
    rw [finish_ctx_other _ _ _ _ (by rw [hcx]; simp), ctx_updCtx_same, target_ctx ht, Option.map_some]
  case status => exact exec_run_eq (exec_opStatus s q) hm (opStatus_answers ht h)
  case cancelSub => exact exec_run_eq (exec_cancel s q blocks data) hm (cancel_subscription ht blocks data h hst)
  case cancelLate => exact exec_run_eq (exec_cancel s q blocks data) hm (cancel_late ht blocks data h hst)
  case cancelWaiting => exact exec_run_eq (exec_cancel s q blocks data) hm (cancel_unbegun ht blocks data h hst hbegun hlo hhi)
  case cancelExport =>
    intro t hphase
    exact exec_run_eq (exec_cancel s q blocks data) hm (cancel_export ht blocks data h hst hbegun hop hphase)
  case statusNot => exact exec_run_eq (exec_opStatus s q) hm (onTarget_none _ h ht)
  case loadNot => exact exec_run_eq (exec_replayLoadDone s first) hm (replayLoadDone_refused first h hmode)
  case loadDone => exact exec_run_eq (exec_replayLoadDone s first) hm (replayLoadDone_host first h hmode hsrc)
  case hostLine => exact completes_run _ (exec_replayHostLine s p wpos planes field) hm (replayHostLine_ctx (d := s.start) _ _ _ _ h hst hsrc hmode)
  case rowsOver => exact exec_run_eq (exec_replayAtticRow s) hm (replayAtticRow_over h hst ha hdone)
  case rowGone => exact exec_run_eq (exec_replayAtticRow s) hm (replayAtticRow_gone h hst ha hmore hrow)
  case row =>
    intro e b
    obtain ⟨v, es, ri, hv, hline, hepoch, hflags, heq⟩ := replayAtticRow_row (d := s.start) h hst ha hmore hrow
    exact ⟨v, es, ri, hv, hline, hepoch, hflags, exec_run_eq (exec_replayAtticRow s) hm heq⟩
  case drained => exact exec_run_eq (exec_replayDone s) hm (replayDone_ends h)
  case exportRow =>
    refine ⟨_, exec_run_eq (exec_atticExportRow s) hm (exportRow_goesOn h hst hrdy hdue hthere hrow hmore), ctx_setCtx_same .., fun hsilent => ?_⟩
    simp only [Dev.setCtx, Dev.setHost, Dev.bufWrite, hsilent, Bool.false_eq_true, if_false]
    rfl

end Sys2Proof.Machine
end

section
/-!
SUPPORT. DMA channels (R388, R389, R400 to R403): writes of CH_CTRL, chains that begin, go on and halt, and the statement O50.
-/
namespace Sys2Proof.Machine

/-! ### Writes of CH_CTRL (R389) -/

/-- A write of a channel's word by the host. -/
theorem hostWrite_dmaCtrl (d : Dev) (n : Fin 64) (v : Nat) (h3 : 3 ≤ d.mode.code) : d.hostWrite (0x801010 + 0x40 * n) v = d.dmaWrite (0x801010 + 0x40 * n) v := by
  have hblock : (0x801010 + 0x40 * n.val) / 0x100000 = 8 := by omega
  have hd : (findDesc (0x801010 + n.val * 0x40)).isSome = true :=
    findDesc_isSome_of_row ⟨0x0801010, 64, 0x40, 1, 0, 0, 0, 0, 0, 7, 0, 0, false⟩ n
      (by rw [descBlock, show (0x801010 + n.val * 0x40) / 0x100000 = 8 by omega]; decide) n.isLt (by decide) (by decide)
  rw [Nat.mul_comm] at hd
  obtain ⟨r, hr⟩ := Option.isSome_iff_exists.mp hd
  have ht : inTap (0x801010 + 0x40 * n.val) = false := by simp only [inTap, Bool.and_eq_false_iff, decide_eq_false_iff_not]; omega
  rw [hostWrite_eq d _ _ h3]
  simp only [Dev.regWrite, show (0x801010 + 0x40 * n.val) % 4 = 0 by omega, ht, hr, hblock, Option.isNone_some, ne_eq, not_true_eq_false, Bool.false_eq_true, if_false]

theorem dmaWrite_ctrl (d : Dev) (n : Fin 64) (v : Nat) :
    d.dmaWrite (0x801010 + 0x40 * n) v = (let d := if bitOf v 2 then d.dmaClear n else d
      let d := if bitOf v 1 then d.dmaStop n (Config.dmaBlocks n d.time) (Config.dmaData n d.time) else d
      if bitOf v 0 then d.dmaStart n none 0 else d) := by
  have hlow : ¬ ((0x801010 + 0x40 * n.val) % 0x100000 < 0x1000 ∨ 0x2000 ≤ (0x801010 + 0x40 * n.val) % 0x100000) := by omega
  simp only [Dev.dmaWrite, if_neg hlow, show (0x801010 + 0x40 * n.val) % 0x100000 % 0x40 = 0x10 by omega, show ((0x801010 + 0x40 * n.val) % 0x100000 - 0x1000) / 0x40 = n by omega]

theorem hostWrite_dmaGo (d : Dev) (n : Fin 64) (h3 : 3 ≤ d.mode.code) : d.hostWrite (0x801010 + 0x40 * n) 1 = d.dmaStart n none 0 := by
  rw [hostWrite_dmaCtrl d n 1 h3, dmaWrite_ctrl]
  rfl

theorem hostWrite_dmaClear (d : Dev) (n : Fin 64) (h3 : 3 ≤ d.mode.code) : d.hostWrite (0x801010 + 0x40 * n) 4 = d.dmaClear n := by
  rw [hostWrite_dmaCtrl d n 4 h3, dmaWrite_ctrl]
  rfl

/-- A dropped start of software. -/
theorem dmaStart_softDropped {d : Dev} {n lin : Nat} (hm : d.fld (R.DMA_CH_CFG_MODE n) = 1) (hst : d.dmaState n = 1) (hpend : (d.chan n).startPending = true) :
    d.dmaStart n none lin = d.raise R.DMA_EVENTS_START_DROP := by
  simp only [Dev.dmaStart, hm, hst, hpend, if_true]

/-! ### The words of a channel and of the block -/

/-- A field of a channel's words. -/
theorem setFld_block_fld (d : Dev) {f g : Fld} (v : Nat) (hf : f.addr + 4 < 0x801000) (hg : 0x801000 ≤ g.addr) : (d.setFld f v).fld g = d.fld g :=
  fld_setFld_apart d f g v (.inl ⟨by omega, .inr (by omega), .inr (by omega)⟩)

theorem setDmaState_fld (d : Dev) {n st : Nat} {g : Fld} (h : (R.DMA_CH_STATUS_STATE n).apart g) (hg : 0x801000 ≤ g.addr) : (d.setDmaState n st).fld g = d.fld g := by
  rw [Dev.setDmaState, Dev.setFlag, Dev.setFlag, setFld_block_fld _ _ (by simp [Fld.bit, R.DMA_HALTED]) hg,
    setFld_block_fld _ _ (by simp [Fld.bit, R.DMA_RUNNING]) hg, fld_setFld_apart _ _ _ _ h]

theorem setDmaState_state (d : Dev) (n : Nat) {st : Nat} (hst : st < 4) : (d.setDmaState n st).dmaState n = st := by
  have hg : 0x801000 ≤ (R.DMA_CH_STATUS_STATE n).addr := by simp only [R.DMA_CH_STATUS_STATE]; omega
  rw [Dev.dmaState, Dev.setDmaState, Dev.setFlag, Dev.setFlag, setFld_block_fld _ _ (by simp [Fld.bit, R.DMA_HALTED]) hg,
    setFld_block_fld _ _ (by simp [Fld.bit, R.DMA_RUNNING]) hg, fld_setFld_fits _ _ _ ⟨by simp [R.DMA_CH_STATUS_STATE], hst⟩]

theorem setChan_fld (d : Dev) (n : Nat) (x : DmaChan) (f : Fld) : (d.setChan n x).fld f = d.fld f := rfl

/-! ### Chains that begin -/

theorem dmaBegin_fields (d : Dev) (n addr : Nat) (host : Bool) (ctx : Option Nat) (lin : Nat) : let t := d.dmaBegin n addr host ctx lin
    t.dmaState n = 1 ∧ t.fld (R.DMA_CH_DESC_DONE n) = 0 ∧ t.fld (R.DMA_CH_BYTES n) = 0 ∧ t.fld (R.DMA_CH_ERR n) = 0 ∧ (t.chan n).next = addr ∧ (t.chan n).desc = none ∧ (t.chan n).count = 0 := by
  have hst : (d.dmaBegin n addr host ctx lin).fld (R.DMA_CH_STATUS_STATE n) = (d.setDmaState n 1).fld (R.DMA_CH_STATUS_STATE n) := by
    rw [Dev.dmaBegin, setChan_fld, fld_setFld_apart _ _ _ _ (by simp [Fld.apart, R.DMA_CH_ERR, R.DMA_CH_STATUS_STATE]),
      fld_setFld_apart _ _ _ _ (by simp only [Fld.apart, R.DMA_CH_BYTES, R.DMA_CH_STATUS_STATE]; omega),
      fld_setFld_apart _ _ _ _ (by simp [Fld.apart, R.DMA_CH_DESC_DONE, R.DMA_CH_STATUS_STATE])]
  refine ⟨hst.trans (setDmaState_state d n (by decide)), ?_, ?_, ?_, ?_, ?_, ?_⟩
  · rw [Dev.dmaBegin, setChan_fld, fld_setFld_apart _ _ _ _ (by simp [Fld.apart, R.DMA_CH_ERR, R.DMA_CH_DESC_DONE]),
      fld_setFld_apart _ _ _ _ (by simp only [Fld.apart, R.DMA_CH_BYTES, R.DMA_CH_DESC_DONE]; omega), fld_setFld_fits _ _ _ (by simp [R.DMA_CH_DESC_DONE])]
  · rw [Dev.dmaBegin, setChan_fld, fld_setFld_apart _ _ _ _ (by simp only [Fld.apart, R.DMA_CH_ERR, R.DMA_CH_BYTES]; omega), fld_setFld_fits _ _ _ (by simp [R.DMA_CH_BYTES])]
  · rw [Dev.dmaBegin, setChan_fld, fld_setFld_fits _ _ _ (by simp [R.DMA_CH_ERR])]
  all_goals rw [Dev.dmaBegin, chan_setChan_same]

/-! ### Descriptors (R400, R401) -/

section descriptors
variable {d : Dev} {n : Nat}

section dmaDescRead
variable (host : List Byte) (hst : d.dmaState n = 1) (hnone : (d.chan n).desc = none) (hhost : (d.chan n).host = true)
include hst hnone hhost

theorem dmaDescRead_held (hup : d.hostUp = true) (hok : d.descCheck n (d.chan n).next (fit 64 host) = none) :
    d.dmaDescRead n host = d.setChan n { d.chan n with
      desc := some ((d.chan n).next, fit 64 host)
      touched := (d.chan n).touched || (descOf (fit 64 host)).srcHost || (descOf (fit 64 host)).dstHost } := by
  simp only [Dev.dmaDescRead, hst, hnone, hhost, hup, hok, ne_eq, not_true_eq_false, Option.isSome_none, Bool.false_eq_true, or_self, if_false, Bool.not_true, and_false, if_true]

theorem dmaDescRead_bad (hup : d.hostUp = true) {code diag : Nat} (hbad : d.descCheck n (d.chan n).next (fit 64 host) = some (code, diag)) :
    d.dmaDescRead n host = d.dmaHalt n code diag (d.chan n).next 0 := by
  simp only [Dev.dmaDescRead, hst, hnone, hhost, hup, hbad, ne_eq, not_true_eq_false, Option.isSome_none, Bool.false_eq_true, or_self, if_false, Bool.not_true, and_false, if_true]

theorem dmaDescRead_down (hup : d.hostUp = false) : d.dmaDescRead n host = d.dmaHalt n 0x2006 0 (d.chan n).next 0 := by
  simp only [Dev.dmaDescRead, hst, hnone, hhost, hup, ne_eq, not_true_eq_false, Option.isSome_none, Bool.false_eq_true, or_self, if_false, Bool.not_false, and_self, if_true]

end dmaDescRead

section dmaDescDone
variable {at_ : Nat} {b : List Byte} (data : List Byte) (hdesc : (d.chan n).desc = some (at_, b))
include hdesc

theorem dmaDescDone_down (hmem : (descOf b).srcHost = true ∨ (descOf b).dstHost = true) (hup : d.hostUp = false) : d.dmaDescDone n data = d.dmaHalt n 0x2006 0 at_ 0 := by
  simp only [Dev.dmaDescDone, hdesc, hup, Bool.not_false, and_true, if_pos hmem]

/-- TAG, DESC_DONE and BYTES follow a descriptor, and the channel goes to the next. -/
def Dev.descPassed (d : Dev) (n : Nat) (y : Desc) (data : List Byte) (x : DmaChan) : Dev :=
  ((((d.descWrite y (y.output (d.descSource y data))).setFld (R.DMA_CH_TAG n) y.tag).incr (R.DMA_CH_DESC_DONE n)).incr (R.DMA_CH_BYTES n)
    (y.output (d.descSource y data)).length).setChan n { x with desc := none, count := x.count + 1, next := y.next }

theorem dmaDescDone_goesOn (hs : (descOf b).srcHost = false) (hd : (descOf b).dstHost = false) (hev : (descOf b).event = false) (hlast : (descOf b).last = false) :
    d.dmaDescDone n data = d.descPassed n (descOf b) data (d.chan n) := by
  simp only [Dev.dmaDescDone, hdesc, hs, hd, hev, hlast, Bool.false_eq_true, or_self, false_and, if_false]
  rfl

end dmaDescDone
end descriptors

theorem descPassed_fields (d : Dev) (n : Nat) (y : Desc) (data : List Byte) (x : DmaChan) :
    (d.descPassed n y data x).fld (R.DMA_CH_TAG n) = y.tag % 2 ^ 32 ∧ (d.descPassed n y data x).chan n = { x with desc := none, count := x.count + 1, next := y.next } := by
  refine ⟨?_, chan_setChan_same ..⟩
  rw [Dev.descPassed, setChan_fld, Dev.incr, Dev.incr, fld_setFld_apart _ _ _ _ (by simp only [Fld.apart, R.DMA_CH_BYTES, R.DMA_CH_TAG]; omega),
    fld_setFld_apart _ _ _ _ (by simp [Fld.apart, R.DMA_CH_DESC_DONE, R.DMA_CH_TAG]), fld_setFld_same _ _ _ (by simp [R.DMA_CH_TAG])]
  rfl

/-! ### Chains that fail, stop and halt (R402, R403) -/

/-- A read fails while no descriptor is held. -/
theorem dmaReadFail_unheld {d : Dev} {n : Nat} (kind wrote : Nat) (data : List Byte) (hst : d.dmaState n = 1) (hnone : (d.chan n).desc = none) :
    d.dmaReadFail n kind wrote data = d.dmaHalt n (readFailCode kind) 0 (d.chan n).next 0 := by
  simp only [Dev.dmaReadFail, Dev.dmaPartial, hst, hnone, ne_eq, not_true_eq_false, if_false]

/-- What a halt notes of its descriptor. -/
def Dev.haltNoted (d : Dev) (n code diag at_ wrote : Nat) : Dev :=
  (((d.setFld (R.DMA_CH_ERR n) (code + diag * 65536)).setFld (R.DMA_CH_ERR_ADDR n) at_).setFld (R.DMA_CH_BYTES n) wrote).setFld (R.DMA_CH_ERR_CODE n) code

/-- A channel closes on an error: the code, DMA_DONE, HALTED, and no start that waits. -/
def Dev.chanHalted (d : Dev) (n code : Nat) (x : DmaChan) : Dev :=
  (((((d.dmaCode n code).fire (P.dmaDone n) .pulse x.lineage).setDmaState n 2).setChan n { x with desc := none, ctx := none, startPending := false }).raise R.DMA_EVENTS_HALT).setFld
    (R.DMA_CH_STATUS_PENDING n) 0

theorem dmaHalt_eq {d : Dev} {n code : Nat} (diag at_ wrote : Nat) (hctx : (d.chan n).ctx = none) (hcode : 0 < code) :
    d.dmaHalt n code diag at_ wrote = (d.haltNoted n code diag at_ wrote).chanHalted n code (d.chan n) := by
  have hchan : ((((d.setFld (R.DMA_CH_ERR n) (code + diag * 65536)).setFld (R.DMA_CH_ERR_ADDR n) at_).setFld (R.DMA_CH_BYTES n) wrote)).chan n = d.chan n := by
    simp only [Dev.chan, Dev.setFld_dma]
  have hne : code ≠ 0 := Nat.ne_of_gt hcode
  simp only [Dev.dmaHalt, Dev.dmaEnd, hchan, hctx, if_true, hne, false_and, if_false, decide_false, Bool.and_false]
  rfl

section chanHalted
variable (d : Dev) {n code : Nat} (x : DmaChan)

theorem chanHalted_chan : (d.chanHalted n code x).chan n = { x with desc := none, ctx := none, startPending := false } := by
  rw [Dev.chan, show (d.chanHalted n code x).dma = _ from (Dev.setFld_dma ..).trans (Dev.raise_dma ..), ← Dev.chan, chan_setChan_same]

variable (hn : n < 64)
include hn

/-- Closing leaves a channel's words, but STATE and PENDING. -/
theorem chanHalted_fld {g : Fld} (hg : 0x801000 ≤ g.addr) (hs : (R.DMA_CH_STATUS_STATE n).apart g) (hp : (R.DMA_CH_STATUS_PENDING n).apart g) : (d.chanHalted n code x).fld g = d.fld g := by
  rw [Dev.chanHalted, fld_setFld_apart _ _ _ _ hp, raise_fld_apart _ _ _ (.inl ⟨by simp only [R.DMA_EVENTS_HALT]; omega, .inl (by decide), .inr (by simp only [R.DMA_EVENTS_HALT]; omega)⟩)
    (.inr (by omega)), setChan_fld, setDmaState_fld _ hs hg, fire_fld_behind _ _ _ _ _ _ (by simp only [P.dmaDone]; omega) (by omega), Dev.dmaCode,
    setFld_block_fld _ _ (by decide) hg, setFld_block_fld _ _ (by decide) hg]

theorem chanHalted_state : (d.chanHalted n code x).dmaState n = 2 ∧ (d.chanHalted n code x).fld (R.DMA_CH_STATUS_PENDING n) = 0 := by
  refine ⟨?_, fld_setFld_fits _ _ _ (by simp [R.DMA_CH_STATUS_PENDING])⟩
  have hst := setDmaState_state ((d.dmaCode n code).fire (P.dmaDone n) .pulse x.lineage) n (st := 2) (by decide)
  rw [Dev.dmaState] at hst ⊢
  rw [Dev.chanHalted, fld_setFld_apart _ _ _ _ (by simp [Fld.apart, R.DMA_CH_STATUS_PENDING, R.DMA_CH_STATUS_STATE]),
    raise_fld_apart _ _ _ (.inl ⟨by simp only [R.DMA_EVENTS_HALT, R.DMA_CH_STATUS_STATE]; omega, .inl (by decide), .inl (by simp [R.DMA_CH_STATUS_STATE])⟩)
      (.inr (by simp only [R.DMA_CH_STATUS_STATE]; omega)), setChan_fld, hst]

/-- The code and the channel stand in LAST_ERR. -/
theorem chanHalted_lastErr (hcode : code < 65536) : (d.chanHalted n code x).fld R.DMA_LAST_ERR_CODE = code ∧ (d.chanHalted n code x).fld R.DMA_LAST_ERR_CHANNEL = n := by
  have hkept : ∀ g : Fld, g.addr = R.DMA_LAST_ERR.addr ∧ g.lo + g.w ≤ 32 → (d.chanHalted n code x).fld g = (d.dmaCode n code).fld g := fun g ⟨ha, hw⟩ => by
    have ha' : g.addr = 0x800018 := ha
    rw [Dev.chanHalted, fld_setFld_apart _ _ _ _ (.inl ⟨by simp only [R.DMA_CH_STATUS_PENDING]; omega, .inl (by simp [R.DMA_CH_STATUS_PENDING]), .inl hw⟩),
      raise_fld_apart _ _ _ (.inl ⟨by simp only [R.DMA_EVENTS_HALT]; omega, .inl (by decide), .inl hw⟩) (.inr (by omega)), setChan_fld, Dev.setDmaState, Dev.setFlag, Dev.setFlag,
      fld_setFld_apart _ _ _ _ (.inl ⟨by simp only [Fld.bit, R.DMA_HALTED]; omega, .inr (by simp only [Fld.bit, R.DMA_HALTED]; omega), .inl hw⟩),
      fld_setFld_apart _ _ _ _ (.inl ⟨by simp only [Fld.bit, R.DMA_RUNNING]; omega, .inr (by simp only [Fld.bit, R.DMA_RUNNING]; omega), .inl hw⟩),
      fld_setFld_apart _ _ _ _ (.inl ⟨by simp only [R.DMA_CH_STATUS_STATE]; omega, .inl (by simp [R.DMA_CH_STATUS_STATE]), .inl hw⟩),
      fire_fld_behind _ _ _ _ _ _ (by simp only [P.dmaDone]; omega) (by omega)]
  refine ⟨(hkept _ (by decide)).trans ?_, (hkept _ (by decide)).trans ?_⟩
  · rw [Dev.dmaCode, fld_setFld_apart _ _ _ _ (by decide), fld_setFld_fits _ R.DMA_LAST_ERR_CODE _ ⟨by decide, hcode⟩]
  · rw [Dev.dmaCode, fld_setFld_fits _ R.DMA_LAST_ERR_CHANNEL _ ⟨by decide, hn⟩]

end chanHalted

theorem haltNoted_fields (d : Dev) (n : Nat) {code diag at_ wrote : Nat} (hcode : code < 65536) (hdiag : diag < 8) (hat : at_ < 2 ^ 64) : let t := d.haltNoted n code diag at_ wrote
    t.fld (R.DMA_CH_ERR_CODE n) = code ∧ t.fld (R.DMA_CH_ERR_DIAG n) = diag ∧ t.fld (R.DMA_CH_ERR_ADDR n) = at_ := by
  refine ⟨fld_setFld_fits _ _ _ ⟨by simp [R.DMA_CH_ERR_CODE], hcode⟩, ?_, ?_⟩
  · rw [Dev.haltNoted, fld_setFld_apart _ _ _ _ (by simp [Fld.apart, R.DMA_CH_ERR_CODE, R.DMA_CH_ERR_DIAG]),
      fld_setFld_apart _ _ _ _ (by simp only [Fld.apart, R.DMA_CH_BYTES, R.DMA_CH_ERR_DIAG]; omega), fld_setFld_apart _ _ _ _ (by simp only [Fld.apart, R.DMA_CH_ERR_ADDR, R.DMA_CH_ERR_DIAG]; omega),
      fld_setWord_part (f := R.DMA_CH_ERR n) (g := R.DMA_CH_ERR_DIAG n) _ _ ⟨rfl, rfl⟩ rfl (by simp [R.DMA_CH_ERR_DIAG])]
    simp only [R.DMA_CH_ERR_DIAG, bits]
    omega
  · rw [Dev.haltNoted, fld_setFld_apart _ _ _ _ (by simp only [Fld.apart, R.DMA_CH_ERR_CODE, R.DMA_CH_ERR_ADDR]; omega),
      fld_setFld_apart _ _ _ _ (by simp only [Fld.apart, R.DMA_CH_BYTES, R.DMA_CH_ERR_ADDR]; omega), fld_setFld_fits _ _ _ ⟨by simp [R.DMA_CH_ERR_ADDR], hat⟩]

theorem dmaHalt_fields (d : Dev) {n code diag at_ wrote : Nat} (hn : n < 64) (hctx : (d.chan n).ctx = none) (hpos : 0 < code) (hcode : code < 65536) (hdiag : diag < 8) (hat : at_ < 2 ^ 64) :
    let t := d.dmaHalt n code diag at_ wrote
    t.dmaState n = 2 ∧ t.fld (R.DMA_CH_ERR_CODE n) = code ∧ t.fld (R.DMA_CH_ERR_DIAG n) = diag ∧ t.fld (R.DMA_CH_ERR_ADDR n) = at_ ∧ t.fld R.DMA_LAST_ERR_CODE = code ∧
      t.fld R.DMA_LAST_ERR_CHANNEL = n ∧ t.fld (R.DMA_CH_STATUS_PENDING n) = 0 ∧ (t.chan n).desc = none ∧ (t.chan n).startPending = false := by
  rw [dmaHalt_eq diag at_ wrote hctx hpos]
  obtain ⟨hecode, hediag, headdr⟩ := haltNoted_fields d n (wrote := wrote) hcode hdiag hat
  generalize d.haltNoted n code diag at_ wrote = y at hecode hediag headdr
  obtain ⟨hstate, hpend⟩ := chanHalted_state y (code := code) (d.chan n) hn
  obtain ⟨hlast, hlastChan⟩ := chanHalted_lastErr y (d.chan n) hn hcode
  have hchan := chanHalted_chan y (n := n) (code := code) (d.chan n)
  refine ⟨hstate, ?_, ?_, ?_, hlast, hlastChan, hpend, by rw [hchan], by rw [hchan]⟩
  · rw [chanHalted_fld y _ hn (by simp only [R.DMA_CH_ERR_CODE]; omega) (by simp [Fld.apart, R.DMA_CH_STATUS_STATE, R.DMA_CH_ERR_CODE])
      (by simp [Fld.apart, R.DMA_CH_STATUS_PENDING, R.DMA_CH_ERR_CODE]), hecode]
  · rw [chanHalted_fld y _ hn (by simp only [R.DMA_CH_ERR_DIAG]; omega) (by simp [Fld.apart, R.DMA_CH_STATUS_STATE, R.DMA_CH_ERR_DIAG])
      (by simp [Fld.apart, R.DMA_CH_STATUS_PENDING, R.DMA_CH_ERR_DIAG]), hediag]
  · rw [chanHalted_fld y _ hn (by simp only [R.DMA_CH_ERR_ADDR]; omega) (by simp only [Fld.apart, R.DMA_CH_STATUS_STATE, R.DMA_CH_ERR_ADDR]; omega)
      (by simp only [Fld.apart, R.DMA_CH_STATUS_PENDING, R.DMA_CH_ERR_ADDR]; omega), headdr]

/-- Settles O50: writes of CH_CTRL by `dmaWrite_ctrl`, descriptors by their outcomes, and a halt by what it notes and what closes the channel. -/
theorem dmaChains : Obligations.DmaChains := by
  unfold Obligations.DmaChains
  intro s n hm x
  refine ⟨fun h3 hmode => ⟨fun hst => ?begins, fun hst hpend => ?pends, fun hst hpend => ?drops⟩,
    fun h3 => ⟨fun hst => ?clears, fun hst => ?noClear, fun blocks data => ⟨fun hmode hst => ?stops, fun hwhy => ?noStop⟩⟩,
    fun host hst hnone hhost => ⟨fun hup hok => ?held, fun code diag hup hbad => ?bad, fun hup => ?down⟩,
    fun at_ b data hdesc => ?done, fun wrote data hst hnone => ⟨?timeout, ?error, ?unavailable⟩, fun code diag at_ wrote hctx hpos hcode hdiag hat => ?halt⟩
  case begins =>
    refine completes_run _ (exec_dmaGo s n) hm ?_
    rw [hostWrite_dmaGo s.start n h3, dmaStart_idle (d := s.start) hmode none hst]
    exact dmaBegin_fields ..
  case pends =>
    refine completes_run _ (exec_dmaGo s n) hm ?_
    rw [hostWrite_dmaGo s.start n h3, dmaStart_running (d := s.start) hmode hst none hpend]
    exact ⟨(dmaPend_fields s.start n 0).1, chan_setChan_same ..⟩
  case drops => exact exec_run_eq (exec_dmaGo s n) hm ((hostWrite_dmaGo s.start n h3).trans (dmaStart_softDropped hmode hst hpend))
  case clears => exact exec_run_eq (exec_dmaClear s n) hm ((hostWrite_dmaClear s.start n h3).trans (if_pos hst))
  case noClear => exact exec_run_eq (exec_dmaClear s n) hm ((hostWrite_dmaClear s.start n h3).trans (if_neg hst))
  case stops =>
    exact exec_run_eq (exec_dmaStop s n blocks data) hm ((if_pos (hostReaches_of_standby s.start _ _ h3)).trans (if_neg (by simp [hmode, hst])))
  case noStop => exact exec_run_eq (exec_dmaStop s n blocks data) hm ((if_pos (hostReaches_of_standby s.start _ _ h3)).trans (if_pos hwhy))
  case held =>
    refine completes_run _ (exec_dmaDescRead s n host) hm ?_
    rw [dmaDescRead_held host hst hnone hhost hup hok, chan_setChan_same]
    exact ⟨rfl, rfl, rfl, rfl⟩
  case bad => exact exec_run_eq (exec_dmaDescRead s n host) hm (dmaDescRead_bad host hst hnone hhost hup hbad)
  case down => exact exec_run_eq (exec_dmaDescRead s n host) hm (dmaDescRead_down host hst hnone hhost hup)
  case done =>
    intro y
    refine ⟨fun hmem hup => exec_run_eq (exec_dmaDescDone s n data) hm (dmaDescDone_down data hdesc hmem hup), fun hs hd hev hlast => ?_⟩
    refine completes_run _ (exec_dmaDescDone s n data) hm ?_
    rw [dmaDescDone_goesOn data hdesc hs hd hev hlast]
    exact descPassed_fields ..
  case timeout => exact exec_run_eq (exec_dmaReadFail s n .timeout wrote data) hm (dmaReadFail_unheld 0 wrote data hst hnone)
  case error => exact exec_run_eq (exec_dmaReadFail s n .errorCompletion wrote data) hm (dmaReadFail_unheld 1 wrote data hst hnone)
  case unavailable => exact exec_run_eq (exec_dmaReadFail s n .unavailable wrote data) hm (dmaReadFail_unheld 2 wrote data hst hnone)
  case halt =>
    intro t
    exact dmaHalt_fields s.start n.isLt hctx hpos hcode hdiag hat

end Sys2Proof.Machine
end

section
/-!
SUPPORT. The memory controllers and the Doorways (R413 to R430): the decisions of a Doorway, its limits, refresh, tracking, polls and load, writes of REQ_CFG, and the statement O51.
-/
namespace Sys2Proof.Machine

@[simp] theorem door_setDoor_same (d : Dev) (x : Nat) (y : Door) : (d.setDoor x y).door x = y := tget_tset_same ..
theorem door_congr {d d' : Dev} (h : d'.mem.doors = d.mem.doors) (x : Nat) : d'.door x = d.door x := by rw [Dev.door, h, Dev.door]
@[simp] theorem setMem_fld (d : Dev) (f : MemState → MemState) (g : Fld) : (d.setMem f).fld g = d.fld g := rfl
@[simp] theorem setMem_flag (d : Dev) (f : MemState → MemState) (g : Fld) : (d.setMem f).flag g = d.flag g := rfl
@[simp] theorem setMem_mem (d : Dev) (f : MemState → MemState) : (d.setMem f).mem = f d.mem := rfl
@[simp] theorem setDoor_fld (d : Dev) (x : Nat) (y : Door) (g : Fld) : (d.setDoor x y).fld g = d.fld g := rfl

/-- Passing time leaves the memory side and its words alone. -/
@[simp] theorem advance_mem (d : Dev) (t : Nat) : (d.advance t).mem = d.mem := by rw [(timeStep_advance d t).rest]
theorem advance_fld_mem (d : Dev) (t : Nat) {g : Fld} (hg : 0x900000 ≤ g.addr) : (d.advance t).fld g = d.fld g :=
  (timeStep_advance d t).fld g (not_timeWord (by omega) (.inr (by omega))) fun _ => not_timeWord (by omega) (.inr (by omega))

/-! ### Errors of the memory side (R432) -/

@[simp] theorem memErr_mem (d : Dev) (f : Fld) (code : Nat) : (d.memErr f code).mem = d.mem := by simp [Dev.memErr]

theorem memErr_fields (d : Dev) {f : Fld} {code : Nat} (hf : f.addr = 0x900800 ∧ f.lo < 32 ∧ f.w = 1) (hc : code < 65536) :
    (d.memErr f code).fld R.MEM_LAST_ERR = code ∧ (d.memErr f code).flag f = true := by
  obtain ⟨ha, hlo, hw⟩ := hf
  refine ⟨?_, ?_⟩
  · rw [Dev.memErr, raise_fld_apart _ _ _ (apart_of_addr (by rw [ha]; decide) ⟨by omega, by decide⟩) (.inr (by decide)), fld_setFld_fits _ _ _ ⟨by decide, hc⟩]
  · rw [Dev.flag, Dev.memErr, raise_fld _ _ (by omega) hw (not_chanCount (by omega))]
    rfl

/-- A report leaves the other words of the memory side alone. -/
theorem memErr_fld (d : Dev) {f g : Fld} (code : Nat) (hf : f.addr = 0x900800 ∧ f.lo < 32 ∧ f.w = 1) (hg : 0x900000 ≤ g.addr ∧ g.addr ≠ 0x900800 ∧ g.addr ≠ 0x900808 ∧ g.lo + g.w ≤ 32) :
    (d.memErr f code).fld g = d.fld g := by
  obtain ⟨ha, hlo, hw⟩ := hf
  obtain ⟨hmem, hevents, herr, hword⟩ := hg
  rw [Dev.memErr, raise_fld_apart _ _ _ (apart_of_addr (by omega) ⟨by omega, hword⟩) (.inr (by omega)), fld_setFld_apart _ _ _ _ (apart_of_addr herr ⟨by decide, hword⟩)]

/-! ### Decisions of a Doorway (R420 to R422) -/

section doors
variable {d : Dev} {x : Nat} {y : Door} {q : DoorReq}

theorem doorWinner_none (hw : y.waiting = []) : d.doorWinner x y = none := by
  simp only [Dev.doorWinner, Door.eligible, hw, List.foldl_nil, List.filter_nil]

theorem eligible_one (hw : y.waiting = [q]) : y.eligible = [q].filter fun p => p.fences = 0 := by
  simp only [Door.eligible, hw, List.foldl_cons, List.foldl_nil, List.contains_nil, Bool.false_eq_true, if_false, List.nil_append]

theorem doorWinner_one (hw : y.waiting = [q]) (hf : q.fences = 0) (ht : d.throttledAt x y q.who = false) (hfree : d.tagFree q = true) : d.doorWinner x y = some q := by
  simp [Dev.doorWinner, eligible_one hw, hf, ht, hfree]

/-- A request that finds no tag does not win (R391). -/
theorem doorWinner_untagged (hw : y.waiting = [q]) (hfree : d.tagFree q = false) : d.doorWinner x y = none := by
  rw [Dev.doorWinner, eligible_one hw, List.filter_filter]
  simp [hfree]

/-- Without a winner the slot passes. -/
theorem doorway_passes (hx : x ≤ 18) (hy : d.door x = y) (hgrant : y.grant = none) (hwin : d.doorWinner x y = none) :
    d.doorway x [] false false .clean = d.setDoor x { y with slot := (y.slot + 1) % 8 } := by
  have hd : d.decide_ x = d := by simp only [Dev.decide_, hy, hgrant, hwin]
  simp only [Dev.doorway, if_neg (Nat.not_lt.mpr hx), List.foldl_nil, hd, hy, hgrant]

/-- The grant of a request that needs no tag. -/
def Dev.doorGrant (d : Dev) (x : Nat) (y : Door) (q : DoorReq) : Dev :=
  (d.granted x q).setDoor x { y with waiting := dropFirst q.who y.waiting, grant := some ({ q with untagged := false }, 0), lock := none }

theorem decide_one (hy : d.door x = y) (hgrant : y.grant = none) (hwin : d.doorWinner x y = some q) (hlock : q.lock = false) (htag : q.untagged = false) :
    d.decide_ x = d.doorGrant x y q := by
  simp only [Dev.decide_, Dev.doorGrant, hy, hgrant, hwin, hlock, Dev.takeTag, htag, Bool.false_eq_true, if_false]

/-- A small request is granted, moved and ended in one decision, and its requester drops to the lowest rank. -/
theorem doorway_one (hx : x < 16) (hy : d.door x = y) (hgrant : y.grant = none) (hw : y.waiting = [q]) (hf : q.fences = 0) (htag : q.untagged = false)
    (hdone : q.done = 0) (hlock : q.lock = false) (hpos : 1 ≤ q.bytes) (hmax : q.bytes ≤ 64) :
    (d.doorway x [] false false .clean).door x = { waiting := [], grant := none, lock := none, dropped := (y.dropped.filter fun r => r ≠ q.who) ++ [q.who], slot := (y.slot + 1) % 8 } := by
  have hthrottle : ∀ (e : Dev) (z : Door) (r : Nat), e.throttledAt x z r = false := fun e z r => by simp [Dev.throttledAt, Nat.ne_of_lt hx]
  have hwin : d.doorWinner x y = some q := doorWinner_one hw hf (hthrottle ..) (by simp [Dev.tagFree, htag])
  have hecc : ∀ (e : Dev) (a : Nat), e.eccReport .clean a = e := fun e a => by unfold Dev.eccReport; split <;> rfl
  have hdrop : dropFirst q.who [q] = [] := if_pos rfl
  simp only [Dev.doorway, if_neg (show ¬ 18 < x by omega), List.foldl_nil, decide_one hy hgrant hwin hlock htag, Dev.doorGrant, door_setDoor_same, hthrottle, hw, hdrop, hdone,
    Option.isNone_none, Bool.true_or, decide_eq_true (show 0 < q.bytes by omega), Bool.not_false, Bool.true_and, hecc, ite_self, if_true, Nat.zero_add,
    if_pos (show q.bytes ≤ min q.bytes 64 by omega), Door.ended]

/-- A locked sequence that lasts is broken (R423). -/
theorem lockTimeout_fields {k : Nat} {l : DoorLock} (hg : (d.door x).grant = some (q, k)) (hl : (d.door x).lock = some l) : let t := d.lockTimeout x
    t.door x = (d.door x).ended q.who ∧ t.fld R.MEM_LAST_ERR = 0x3001 ∧ t.flag R.MEM_EVENTS_LOCK_BROKEN = true ∧ t.fld R.MEM_LOCK_INFO_OWNER = q.who % 2 ^ 7 := by
  simp only [Dev.lockTimeout, hg, hl]
  obtain ⟨herr, hevent⟩ := memErr_fields ((((((d.advance (l.since + usCycles 2)).setFld R.MEM_LOCK_INFO_OWNER q.who).setFld R.MEM_LOCK_INFO_CHANNEL x).setFld R.MEM_LOCK_INFO_CAUSE 0).setFld
    R.MEM_LOCK_FIRST l.first).setFld R.MEM_LOCK_LAST l.last |>.setDoor x ((d.door x).ended q.who)) (f := R.MEM_EVENTS_LOCK_BROKEN) (code := 0x3001) (by decide) (by decide)
  refine ⟨(door_congr (by rw [memErr_mem]) x).trans (door_setDoor_same ..), herr, hevent, ?_⟩
  rw [memErr_fld _ _ (by decide) (by decide), setDoor_fld, fld_setFld_apart _ _ _ _ (by decide), fld_setFld_apart _ _ _ _ (by decide), fld_setFld_apart _ _ _ _ (by decide),
    fld_setFld_apart _ _ _ _ (by decide), fld_setFld_same _ _ _ (by decide)]
  rfl

end doors

/-! ### Requests that wait too long (R425) -/

/-- What the crossing of WAIT_LIMIT notes of the wait. -/
def Dev.waitNoted (d : Dev) (r w : Nat) : Dev := if d.fld (R.MEM_REQ_WAIT_MAX r) < w then d.setFld (R.MEM_REQ_WAIT_MAX r) (min w 0xFFFFFFFF) else d

/-- The cycle in which a request crosses its limit. -/
def Dev.starving (d : Dev) (x r : Nat) (q : DoorReq) : Dev := (d.advance (q.since + d.waitLimit x r)).setMem fun m => { m with starved := r :: m.starved }

theorem starve_eq {d : Dev} {x r : Nat} {q : DoorReq} (hx : x < 17) (hq : ((d.door x).waiting.find? fun q => decide (q.who = r)) = some q) (hnew : d.mem.starved.contains r = false)
    (hold : ∀ p ∈ d.raisedBy x r, q.since ≤ p.since) :
    d.starve x r = (((d.starving x r q).waitNoted r (((d.starving x r q).time - q.since) * 5 / 2)).setBit (Fld.bit (R.MEM_STARVE_MAP (r / 32)) (r % 32))).memErr R.MEM_EVENTS_STARVE 0x3002 := by
  have hdoor : seamDoor x = false := by simp [seamDoor]; omega
  have hany : (d.raisedBy x r).any (fun p => decide (p.since < q.since)) = false :=
    List.any_eq_false.mpr fun p hp => by simpa using hold p hp
  simp only [Dev.starve, hdoor, Bool.false_eq_true, if_false, Nat.add_zero, hq, hnew, hany, Bool.or_self]
  rfl

theorem starve_fields {d : Dev} {x r : Nat} {q : DoorReq} (hx : x < 17) (hq : ((d.door x).waiting.find? fun q => decide (q.who = r)) = some q)
    (hnew : d.mem.starved.contains r = false) (hold : ∀ p ∈ d.raisedBy x r, q.since ≤ p.since) : let t := d.starve x r
    t.fld R.MEM_LAST_ERR = 0x3002 ∧ t.flag R.MEM_EVENTS_STARVE = true ∧ t.fld (Fld.bit (R.MEM_STARVE_MAP (r / 32)) (r % 32)) = 1 := by
  rw [starve_eq hx hq hnew hold]
  generalize (d.starving x r q).waitNoted r _ = e
  obtain ⟨herr, hevent⟩ := memErr_fields (e.setBit (Fld.bit (R.MEM_STARVE_MAP (r / 32)) (r % 32))) (f := R.MEM_EVENTS_STARVE) (code := 0x3002) (by decide) (by decide)
  refine ⟨herr, hevent, ?_⟩
  rw [memErr_fld _ _ (by decide) (by simp only [Fld.bit, R.MEM_STARVE_MAP]; omega), setBit_fld, fld_setFld_fits _ _ _ ⟨by simp only [Fld.bit, R.MEM_STARVE_MAP]; omega, by simp [Fld.bit]⟩]

/-! ### Refresh and tracking (R413, R414) -/

/-- The lag of a bank after refreshes. -/
def Dev.bankLag (d : Dev) (k issued : Nat) : Int := max (-8) (tget 0 d.mem.lag k + 1 - issued)

def Dev.lagSet (d : Dev) (k : Nat) (lag : Int) : Dev := d.setMem fun m => { m with lag := tset 0 m.lag k lag }

section refresh
variable {d : Dev} {c bank : Nat} (issued : Nat) (hc : c < 16) (hb : bank < 16) (htr : d.flag (Fld.bit R.MEM_STATUS_TRAINED c) = true)
include hc hb htr

/-- A channel whose lag stays below 8 is not behind. -/
theorem refreshDue_kept (hlag : d.bankLag (c * 32 + bank) issued < 8) :
    ∃ n, d.refreshDue c bank issued = (d.lagSet (c * 32 + bank) (d.bankLag (c * 32 + bank) issued)).setFld (R.MEM_CH_STATUS_REF_BEHIND c) n := by
  have hbank : ¬ (if d.flag R.MEM_DRAM_CFG_RANKS then 32 else 16) ≤ bank := by split <;> omega
  rw [Dev.bankLag] at hlag ⊢
  simp only [Dev.refreshDue, htr, Bool.not_true, Bool.false_eq_true, Nat.not_le.mpr hc, hbank, or_self, if_false, Int.not_le.mpr hlag, decide_false]
  exact ⟨_, rfl⟩

/-- A lag of 8 forces a refresh (log 151). -/
theorem refreshDue_forced (hlag : 8 ≤ d.bankLag (c * 32 + bank) issued) :
    d.refreshDue c bank issued = ((d.lagSet (c * 32 + bank) 7).bump (R.MEM_CH_REF_CNT c)).setFld (R.MEM_CH_STATUS_REF_BEHIND c) 8 := by
  have hbank : ¬ (if d.flag R.MEM_DRAM_CFG_RANKS then 32 else 16) ≤ bank := by split <;> omega
  rw [Dev.bankLag] at hlag
  simp only [Dev.refreshDue, htr, Bool.not_true, Bool.false_eq_true, Nat.not_le.mpr hc, hbank, or_self, if_false, hlag, decide_true, if_true, Nat.min_self]
  rfl

end refresh

/-- The tracking steps of a channel are made. -/
def Dev.stepsMade (d : Dev) (c : Nat) : Dev := d.setMem fun m => { m with stepsWait := m.stepsWait.filter fun x => x ≠ c }

@[simp] theorem driftReport_mem (d : Dev) (c : Nat) (drift : Bool) : (d.driftReport c drift).mem = d.mem := by cases drift <;> simp [Dev.driftReport]
@[simp] theorem bump_mem (d : Dev) (f : Fld) (n : Nat) : (d.bump f n).mem = d.mem := Dev.setFld_mem ..

theorem stepsMade_wait (d : Dev) (c : Nat) : c ∉ (d.stepsMade c).mem.stepsWait := by simp [Dev.stepsMade]

theorem driftReport_fields (d : Dev) {c : Nat} (hc : c < 16) : let t := d.driftReport c true
    t.fld R.MEM_LAST_ERR = 0x3007 ∧ t.flag R.MEM_EVENTS_DRIFT_LIMIT = true ∧ t.fld (Fld.bit R.MEM_STATUS_DRIFT c) = 1 := by
  obtain ⟨herr, hevent⟩ := memErr_fields (d.setFld (Fld.bit R.MEM_STATUS_DRIFT c) 1) (f := R.MEM_EVENTS_DRIFT_LIMIT) (code := 0x3007) (by decide) (by decide)
  refine ⟨herr, hevent, ?_⟩
  rw [Dev.driftReport, if_pos rfl, memErr_fld _ _ (by decide) (by simp only [Fld.bit, R.MEM_STATUS_DRIFT]; omega), fld_setFld_fits _ _ _ ⟨by simp only [Fld.bit, R.MEM_STATUS_DRIFT]; omega, by simp [Fld.bit]⟩]

/-- Steps that wait are made in a gap. -/
theorem retrainDue_gap {d : Dev} {c : Nat} (hc : c < 16) (htr : d.flag (Fld.bit R.MEM_STATUS_TRAINED c) = true) (hwait : d.mem.stepsWait.contains c = true) (hquiet : d.doorQuiet c = true) :
    d.retrainDue c true false = (d.stepsMade c).bump (R.MEM_CH_RETRAIN_CNT_GAP c) := by
  simp only [Dev.retrainDue, htr, hwait, hquiet, Bool.not_true, Bool.false_eq_true, or_false, if_neg (Nat.not_le.mpr hc), if_true, Bool.and_self, Dev.driftReport, if_false]
  rfl

/-- Without a gap the steps wait. -/
theorem retrainDue_waits {d : Dev} {c : Nat} (drift : Bool) (hc : c < 16) (htr : d.flag (Fld.bit R.MEM_STATUS_TRAINED c) = true) (hwait : d.mem.stepsWait.contains c = false) :
    c ∈ (d.retrainDue c false drift).mem.stepsWait := by
  simp only [Dev.retrainDue, htr, hwait, Bool.not_true, Bool.false_eq_true, or_false, if_neg (Nat.not_le.mpr hc), if_false, Bool.false_and, setMem_mem, List.mem_cons, true_or]

/-- The cycle in which waiting steps are forced. -/
def Dev.stepsForced (d : Dev) (c : Nat) : Dev := d.advance (tget 0 d.mem.stepsAt c + usCycles (max (d.fld R.MEM_RETRAIN_CFG_RETRAIN_WAIT_US) 1))

theorem retrainForced_eq {d : Dev} {c : Nat} (drift : Bool) (hwait : d.mem.stepsWait.contains c = true) :
    d.retrainForced c drift = (((d.stepsForced c).stepsMade c).bump (R.MEM_CH_RETRAIN_CNT_FORCED c)).driftReport c drift := by
  simp only [Dev.retrainForced, hwait, Bool.not_true, Bool.false_eq_true, if_false]
  rfl

/-! ### Temperature polls and the load of C0 (R415, R430) -/

/-- The refresh multipliers of the channels in a list. -/
def Dev.multsShown (d : Dev) (mults cs : List Nat) : Dev := cs.foldl (fun d c => d.setFld (R.MEM_CH_STATUS_REF_MULT c) (min (mults.getD c 0) 2)) d

@[simp] theorem multsShown_faultReq (mults cs : List Nat) (d : Dev) : (d.multsShown mults cs).faultReq = d.faultReq := by
  unfold Dev.multsShown
  induction cs generalizing d with
  | nil => rfl
  | cons c cs ih => rw [List.foldl_cons, ih, Dev.setFld_faultReq]

theorem multsShown_fld (mults : List Nat) (c : Nat) (cs : List Nat) : ∀ d : Dev, (c ∈ cs ∨ d.fld (R.MEM_CH_STATUS_REF_MULT c) = min (mults.getD c 0) 2) →
    (d.multsShown mults cs).fld (R.MEM_CH_STATUS_REF_MULT c) = min (mults.getD c 0) 2 := by
  unfold Dev.multsShown
  induction cs with
  | nil => exact fun d h => h.resolve_left (by simp)
  | cons e cs ih =>
    intro d h
    refine ih _ ?_
    by_cases hce : c = e
    · subst hce
      exact .inr (fld_setFld_fits _ _ _ ⟨by simp [R.MEM_CH_STATUS_REF_MULT], by simp only [R.MEM_CH_STATUS_REF_MULT]; omega⟩)
    · rw [fld_setFld_apart _ _ _ _ (apart_of_addr (by simp only [R.MEM_CH_STATUS_REF_MULT]; omega) (by simp [R.MEM_CH_STATUS_REF_MULT]))]
      exact h.imp_left fun hm => (List.mem_cons.mp hm).resolve_left hce

theorem getD_le_two (mults : List (Fin 3)) (c : Nat) : min ((mults.map Fin.val).getD c 0) 2 = (mults.map Fin.val).getD c 0 := by
  refine Nat.min_eq_left ?_
  rw [List.getD_eq_getElem?_getD, List.getElem?_map]
  cases mults[c]? with
  | none => exact Nat.zero_le 2
  | some m => exact Nat.le_of_lt_succ m.isLt

section poll
variable {d : Dev} (mults : List Nat) (htr : d.fld R.MEM_STATUS_TRAINED ≠ 0)
include htr

theorem mr4Poll_cool : d.mr4Poll mults false = d.multsShown mults (List.range 16) := by
  simp only [Dev.mr4Poll, if_neg htr, Bool.false_eq_true, if_false]
  rfl

theorem mr4Poll_hot : d.mr4Poll mults true = { (d.multsShown mults (List.range 16)).memErr R.MEM_EVENTS_DRAM_HOT 0x3008 with
    faultReq := ((d.multsShown mults (List.range 16)).memErr R.MEM_EVENTS_DRAM_HOT 0x3008).faultReq ++ [1] } := by
  simp only [Dev.mr4Poll, if_neg htr, if_true]
  rfl

end poll

/-- The window's load shows, and the highest of them. -/
def Dev.loadShown (d : Dev) (c load : Nat) : Dev :=
  let d := (d.setMem fun m => { m with c0Slots := tset 0 m.c0Slots c 0 }).setFld (R.MEM_CH_LOAD_C0_NOW c) (min load 255)
  if d.fld (R.MEM_CH_LOAD_C0_PEAK c) < min load 255 then d.setFld (R.MEM_CH_LOAD_C0_PEAK c) (min load 255) else d

theorem loadWindow_eq {d : Dev} {c : Nat} (hc : c < 16) : let load := tget 0 d.mem.c0Slots c * 8192 / (10 * d.dramRate)
    d.loadWindow c = if (d.loadShown c load).fld R.MEM_C0_LIMIT < load then (d.loadShown c load).memErr R.MEM_EVENTS_C0_LOAD 0x3009 else d.loadShown c load := by
  simp only [Dev.loadWindow, if_neg (Nat.not_le.mpr hc)]
  rfl

theorem loadShown_fields (d : Dev) (c load : Nat) : (d.loadShown c load).fld (R.MEM_CH_LOAD_C0_NOW c) = min load 255 ∧ tget 0 (d.loadShown c load).mem.c0Slots c = 0 ∧
    min load 255 ≤ (d.loadShown c load).fld (R.MEM_CH_LOAD_C0_PEAK c) ∧ (d.loadShown c load).fld R.MEM_C0_LIMIT = d.fld R.MEM_C0_LIMIT := by
  have hfit : min load 255 < 2 ^ 8 := by omega
  have hnow : ∀ e : Dev, (e.setFld (R.MEM_CH_LOAD_C0_NOW c) (min load 255)).fld (R.MEM_CH_LOAD_C0_NOW c) = min load 255 := fun e => fld_setFld_fits _ _ _ ⟨by simp [R.MEM_CH_LOAD_C0_NOW], hfit⟩
  have hlimit : ∀ (e : Dev) (f : Fld) (v : Nat), f.addr = (R.MEM_CH_LOAD_C0_NOW c).addr → f.lo + f.w ≤ 32 → (e.setFld f v).fld R.MEM_C0_LIMIT = e.fld R.MEM_C0_LIMIT := fun e f v ha hw =>
    fld_setFld_apart _ _ _ _ (apart_of_addr (by rw [ha]; simp only [R.MEM_C0_LIMIT, R.MEM_CH_LOAD_C0_NOW]; omega) ⟨hw, by decide⟩)
  unfold Dev.loadShown
  dsimp only
  split
  · refine ⟨?_, ?_, ?_, ?_⟩
    · rw [fld_setFld_apart _ _ _ _ (by simp [Fld.apart, R.MEM_CH_LOAD_C0_PEAK, R.MEM_CH_LOAD_C0_NOW]), hnow]
    · rw [Dev.setFld_mem, Dev.setFld_mem, setMem_mem, tget_tset_same]
    · rw [fld_setFld_fits _ _ _ ⟨by simp [R.MEM_CH_LOAD_C0_PEAK], hfit⟩]
    · rw [hlimit _ (R.MEM_CH_LOAD_C0_PEAK c) _ rfl (by simp [R.MEM_CH_LOAD_C0_PEAK]), hlimit _ (R.MEM_CH_LOAD_C0_NOW c) _ rfl (by simp [R.MEM_CH_LOAD_C0_NOW]), setMem_fld]
  · next hpeak =>
    refine ⟨hnow _, ?_, Nat.not_lt.mp hpeak, ?_⟩
    · rw [Dev.setFld_mem, setMem_mem, tget_tset_same]
    · rw [hlimit _ (R.MEM_CH_LOAD_C0_NOW c) _ rfl (by simp [R.MEM_CH_LOAD_C0_NOW]), setMem_fld]

/-! ### Writes of REQ_CFG (R419, R424) -/

theorem hostWrite_reqCfg (d : Dev) (r : Fin 128) (v : Nat) (h3 : 3 ≤ d.mode.code) : d.hostWrite (0x902000 + 0x10 * r) v = d.reqCfgWrite r v := by
  have hblock : (0x902000 + 0x10 * r.val) / 0x100000 = 9 := by omega
  have hd : (findDesc (0x902000 + r.val * 0x10)).isSome = true :=
    findDesc_isSome_of_row ⟨0x0902000, 128, 0x10, 1, 0, 0, 0xFFFF0007, 0, 0, 0, 0, 0, false⟩ r
      (by rw [descBlock, show (0x902000 + r.val * 0x10) / 0x100000 = 9 by omega]; decide) r.isLt (by decide) (by decide)
  rw [Nat.mul_comm] at hd
  obtain ⟨row, hr⟩ := Option.isSome_iff_exists.mp hd
  have ht : inTap (0x902000 + 0x10 * r.val) = false := by simp only [inTap, Bool.and_eq_false_iff, decide_eq_false_iff_not]; omega
  have ho : 0x2000 ≤ (0x902000 + 0x10 * r.val) % 0x100000 ∧ (0x902000 + 0x10 * r.val) % 0x100000 < 0x2800 ∧ (0x902000 + 0x10 * r.val) % 0x100000 % 0x10 = 0 := by omega
  rw [hostWrite_eq d _ _ h3]
  simp only [Dev.regWrite, show (0x902000 + 0x10 * r.val) % 4 = 0 by omega, ht, hr, hblock, Option.isNone_some, ne_eq, not_true_eq_false, Bool.false_eq_true, if_false, Dev.memWrite, if_pos ho,
    show ((0x902000 + 0x10 * r.val) % 0x100000 - 0x2000) / 0x10 = r by omega]

theorem reqCfgWrite_fields (d : Dev) {r : Nat} (v : Nat) (hr : r < 128) (hreq : requesterAt 0 r = true) : let t := d.reqCfgWrite r v
    t.fld (R.MEM_REQ_CFG_WAIT_LIMIT r) = bits v 16 16 ∧ (21 ≤ r → r ≤ 25 → 2 ≤ bits v 0 3 → bits v 0 3 ≤ 4 → t.fld (R.MEM_REQ_CFG_CLASS r) = bits v 0 3) ∧
      (r < 21 ∨ 25 < r ∨ bits v 0 3 < 2 ∨ 4 < bits v 0 3 → t.fld (R.MEM_REQ_CFG_CLASS r) = d.fld (R.MEM_REQ_CFG_CLASS r)) := by
  have hlimit : (d.setFld (R.MEM_REQ_CFG_WAIT_LIMIT r) (bits v 16 16)).fld (R.MEM_REQ_CFG_WAIT_LIMIT r) = bits v 16 16 := fld_setFld_fits _ _ _ ⟨by simp [R.MEM_REQ_CFG_WAIT_LIMIT], bits_lt ..⟩
  have hclass : (d.setFld (R.MEM_REQ_CFG_WAIT_LIMIT r) (bits v 16 16)).fld (R.MEM_REQ_CFG_CLASS r) = d.fld (R.MEM_REQ_CFG_CLASS r) :=
    fld_setFld_apart _ _ _ _ (by simp [Fld.apart, R.MEM_REQ_CFG_WAIT_LIMIT, R.MEM_REQ_CFG_CLASS])
  simp only [Dev.reqCfgWrite, hreq, Nat.not_le.mpr hr, Bool.not_true, Bool.false_eq_true, or_self, if_false]
  split
  · next h =>
    obtain ⟨hlo, hhi, hmin, hmax⟩ := h
    refine ⟨?_, fun _ _ _ _ => fld_setFld_fits _ _ _ ⟨by simp [R.MEM_REQ_CFG_CLASS], bits_lt ..⟩, fun h => absurd h (by omega)⟩
    rw [fld_setFld_apart _ _ _ _ (by simp [Fld.apart, R.MEM_REQ_CFG_WAIT_LIMIT, R.MEM_REQ_CFG_CLASS]), hlimit]
  · next h => exact ⟨hlimit, fun h1 h2 h3 h4 => absurd ⟨h1, h2, h3, h4⟩ h, fun _ => hclass⟩

/-- Settles O51: decisions by their winner, reports by what `memErr` notes, refreshes by the bank's lag, and REQ_CFG by `reqCfgWrite_fields`. -/
theorem memoryControllers : Obligations.MemoryControllers := by
  unfold Obligations.MemoryControllers
  intro s hm
  refine ⟨fun x q => ?decision, fun q => ?untagged, fun x q k l hg hl => ?broken, fun x r q hq hnew hold => ?starved, fun c bank issued hb htr => ?refresh,
    fun c htr hwait hquiet => ?gap, fun c drift htr hwait => ?waits, fun c drift hwait => ?forced, fun mults htr => ⟨?cool, ?hot⟩, fun c => ?load, fun h3 r v hreq => ?reqCfg⟩
  case decision =>
    intro y
    refine ⟨fun hw hg => completes_run _ (exec_doorwayDecision s _ [] false false .clean) hm ?_,
      fun hw hg hl hf htag hdone hlock hpos hmax => completes_run _ (exec_doorwayDecision s _ [] false false .clean) hm ?_⟩
    · rw [Fin.val_castSucc, Fin.val_castSucc, Fin.val_castSucc, doorway_passes (d := s.start) (y := y) (by omega) rfl hg (doorWinner_none hw), door_setDoor_same]
    · rw [Fin.val_castSucc, Fin.val_castSucc, Fin.val_castSucc]
      exact doorway_one x.isLt rfl hg hw hf htag hdone hlock hpos hmax
  case untagged =>
    intro y hw hg hun hnone
    refine completes_run _ (exec_doorwayDecision s 16 [] false false .clean) hm ?_
    rw [show ((16 : Fin 19) : Nat) = 16 from rfl, doorway_passes (d := s.start) (y := y) (by decide) rfl hg (doorWinner_untagged hw (by simp [Dev.tagFree, hun, hnone])), door_setDoor_same]
  case broken => exact completes_run _ (exec_lockTimeout s x) hm (lockTimeout_fields hg hl)
  case starved => exact completes_run _ (exec_starve s _ r) hm (starve_fields x.isLt hq hnew hold)
  case refresh =>
    intro k lag
    refine ⟨fun hlag => completes_run _ (exec_refreshDue s c bank issued) hm ?_, fun hlag => completes_run _ (exec_refreshDue s c bank issued) hm ?_⟩
    · obtain ⟨n, hn⟩ := refreshDue_kept (d := s.start) issued c.isLt hb htr hlag
      rw [hn]
      refine ⟨by rw [Dev.setFld_mem]; exact tget_tset_same .., ?_⟩
      rw [fld_setFld_apart _ _ _ _ (apart_of_addr (by simp only [R.MEM_CH_REF_CNT, R.MEM_CH_STATUS_REF_BEHIND]; omega) (by simp [R.MEM_CH_REF_CNT, R.MEM_CH_STATUS_REF_BEHIND]))]
      rfl
    · rw [refreshDue_forced (d := s.start) issued c.isLt hb htr hlag]
      refine ⟨by rw [Dev.setFld_mem, bump_mem]; exact tget_tset_same .., ?_, fld_setFld_fits _ _ _ (by simp [R.MEM_CH_STATUS_REF_BEHIND])⟩
      rw [fld_setFld_apart _ _ _ _ (apart_of_addr (by simp only [R.MEM_CH_REF_CNT, R.MEM_CH_STATUS_REF_BEHIND]; omega) (by simp [R.MEM_CH_REF_CNT, R.MEM_CH_STATUS_REF_BEHIND])),
        fld_bump_same _ _ (by simp [R.MEM_CH_REF_CNT])]
      rfl
  case gap =>
    refine completes_run _ (exec_retrainDue s c true false) hm ?_
    rw [retrainDue_gap (d := s.start) c.isLt htr hwait hquiet]
    exact ⟨by rw [bump_mem]; exact stepsMade_wait _ _, fld_bump_same _ _ (by simp [R.MEM_CH_RETRAIN_CNT_GAP])⟩
  case waits => exact completes_run _ (exec_retrainDue s c false drift) hm (retrainDue_waits drift c.isLt htr hwait)
  case forced =>
    refine completes_run _ (exec_retrainForced s c drift) hm ?_
    rw [retrainForced_eq (d := s.start) drift hwait]
    refine ⟨by rw [driftReport_mem, bump_mem]; exact stepsMade_wait _ _, fun hdrift => ?_⟩
    rw [hdrift]
    exact driftReport_fields _ c.isLt
  case cool =>
    refine completes_run _ (exec_mr4Poll s mults false) hm ?_
    rw [mr4Poll_cool (d := s.start) _ htr]
    exact ⟨multsShown_faultReq .., fun c hc => (multsShown_fld _ c _ _ (.inl (List.mem_range.mpr hc))).trans (getD_le_two mults c)⟩
  case hot =>
    refine completes_run _ (exec_mr4Poll s mults true) hm ?_
    rw [mr4Poll_hot (d := s.start) _ htr]
    refine ⟨?_, (memErr_fields _ (by decide) (by decide)).1⟩
    simp [Dev.memErr]
  case load =>
    intro load
    refine completes_run _ (exec_c0LoadWindow s c) hm ?_
    obtain ⟨hnow, hslots, hpeak, hlimit⟩ := loadShown_fields s.start c.val load
    have hword : ∀ f : Fld, f.addr = (R.MEM_CH_LOAD c.val).addr ∧ f.lo + f.w ≤ 32 → 0x900000 ≤ f.addr ∧ f.addr ≠ 0x900800 ∧ f.addr ≠ 0x900808 ∧ f.lo + f.w ≤ 32 := fun f ⟨ha, hw⟩ => by
      rw [ha]; simp only [R.MEM_CH_LOAD]; omega
    have hwin : s.start.loadWindow c = if (s.start.loadShown c load).fld R.MEM_C0_LIMIT < load then (s.start.loadShown c load).memErr R.MEM_EVENTS_C0_LOAD 0x3009 else s.start.loadShown c load :=
      loadWindow_eq c.isLt
    rw [hwin, hlimit]
    by_cases hover : s.start.fld R.MEM_C0_LIMIT < load
    · rw [if_pos hover]
      obtain ⟨herr, hevent⟩ := memErr_fields (s.start.loadShown c load) (f := R.MEM_EVENTS_C0_LOAD) (code := 0x3009) (by decide) (by decide)
      refine ⟨?_, by rw [memErr_mem, hslots], ?_, fun _ => ⟨hevent, herr⟩⟩
      · rw [memErr_fld _ _ (by decide) (hword (R.MEM_CH_LOAD_C0_NOW c) ⟨rfl, by simp [R.MEM_CH_LOAD_C0_NOW]⟩), hnow]
      · rw [memErr_fld _ _ (by decide) (hword (R.MEM_CH_LOAD_C0_PEAK c) ⟨rfl, by simp [R.MEM_CH_LOAD_C0_PEAK]⟩)]
        exact hpeak
    · rw [if_neg hover]
      exact ⟨hnow, hslots, hpeak, fun h => absurd h hover⟩
  case reqCfg =>
    refine completes_run _ (exec_reqClassWrite s r v) hm ?_
    rw [hostWrite_reqCfg s.start r v.toNat h3]
    exact reqCfgWrite_fields _ _ r.isLt hreq

end Sys2Proof.Machine
end

section
/-!
SUPPORT. Seam ports (R434 to R450): lanes that lose signal or lock, slips, bring-up, sleep, and the statement O55.
-/
namespace Sys2Proof.Machine

/-! ### Errors of the link (R464) -/

theorem seamErr_fields (d : Dev) (side : Nat) {f : Fld} {code : Nat} (hf : f.addr = 0xA00008 ∧ f.lo < 32 ∧ f.w = 1) (hc : code < 65536) : let t := d.seamErr side f code
    t.fld R.KSL_LAST_ERR_CODE = code ∧ t.fld R.KSL_LAST_ERR_PORT = side % 2 ∧ t.flag f = true := by
  obtain ⟨ha, hlo, hw⟩ := hf
  have hkept : ∀ (e : Dev) (g : Fld), g.addr = 0xA00010 ∧ g.lo + g.w ≤ 32 → (e.raise f).fld g = e.fld g := fun e g ⟨hg, hword⟩ =>
    raise_fld_apart _ _ _ (apart_of_addr (by omega) ⟨by omega, hword⟩) (.inr (by omega))
  refine ⟨?_, ?_, ?_⟩
  · rw [Dev.seamErr, hkept _ _ (by decide), fld_setFld_apart _ _ _ _ (by decide), fld_setFld_fits _ _ _ ⟨by decide, hc⟩]
  · rw [Dev.seamErr, hkept _ _ (by decide), fld_setFld_same _ _ _ (by decide)]
    rfl
  · rw [Dev.flag, Dev.seamErr, raise_fld _ _ (by omega) hw (not_chanCount (by omega))]
    rfl

/-- A report leaves the other words of the link alone. -/
theorem seamErr_fld (d : Dev) (side : Nat) {f g : Fld} (code : Nat) (hf : f.addr = 0xA00008 ∧ f.lo < 32 ∧ f.w = 1)
    (hg : 0xA00000 ≤ g.addr ∧ g.addr ≠ 0xA00008 ∧ g.addr ≠ 0xA00010 ∧ g.lo + g.w ≤ 32) : (d.seamErr side f code).fld g = d.fld g := by
  obtain ⟨ha, hlo, hw⟩ := hf
  obtain ⟨hksl, hevents, herr, hword⟩ := hg
  rw [Dev.seamErr, raise_fld_apart _ _ _ (apart_of_addr (by omega) ⟨by omega, hword⟩) (.inr (by omega)), fld_setFld_apart _ _ _ _ (apart_of_addr herr ⟨by decide, hword⟩),
    fld_setFld_apart _ _ _ _ (apart_of_addr herr ⟨by decide, hword⟩)]

theorem advance_fld_ksl (d : Dev) (t : Nat) {g : Fld} (hg : 0xA00000 ≤ g.addr) : (d.advance t).fld g = d.fld g :=
  (timeStep_advance d t).fld g (not_timeWord (by omega) (.inr (by omega))) fun _ => not_timeWord (by omega) (.inr (by omega))

theorem advance_seamPort (d : Dev) (t k : Nat) : (d.advance t).seamPort k = d.seamPort k := seamPort_congr (by rw [(timeStep_advance d t).rest]) k

/-! ### Lanes (R434) -/

/-- The port that a lane's report names. -/
def laneSide (l : Nat) : Nat := match seamRxOf l with | some (s, _) => s | none => 0

/-- A word of a lane. -/
theorem laneWord_far {g : Fld} (h : 0xA04000 ≤ g.addr ∧ g.lo + g.w ≤ 32) : 0xA00000 ≤ g.addr ∧ g.addr ≠ 0xA00008 ∧ g.addr ≠ 0xA00010 ∧ g.lo + g.w ≤ 32 := by omega

/-- A lane without signal. -/
def Dev.losNoted (d : Dev) (l : Nat) : Dev :=
  ((((d.setFld (R.KSL_LANE_STATUS_SIGNAL l) 0).setFld (R.KSL_LANE_STATUS_BIT_LOCK l) 0).setFld (R.KSL_LANE_STATUS_BLOCK_LOCK l) 0).setBit (R.KSL_LANE_EVENTS_LOS l)).seamErr (laneSide l)
    R.KSL_EVENTS_LANE_LOS 0x700B

theorem laneLos_eq {d : Dev} {l : Nat} (hrx : receiveLane l = true) (hawake : d.laneAsleep l = false) : d.laneLos l = (d.losNoted l).laneLost l true := by
  simp only [Dev.laneLos, hrx, hawake, Bool.not_true, Bool.false_eq_true, or_self, if_false]
  rfl

theorem losNoted_fields (d : Dev) (l : Nat) : let t := d.losNoted l
    t.fld (R.KSL_LANE_STATUS_SIGNAL l) = 0 ∧ t.fld (R.KSL_LANE_STATUS_BIT_LOCK l) = 0 ∧ t.fld (R.KSL_LANE_STATUS_BLOCK_LOCK l) = 0 ∧ t.flag (R.KSL_LANE_EVENTS_LOS l) = true ∧
      t.fld R.KSL_LAST_ERR_CODE = 0x700B ∧ t.flag R.KSL_EVENTS_LANE_LOS = true := by
  obtain ⟨hcode, -, hevent⟩ := seamErr_fields ((((d.setFld (R.KSL_LANE_STATUS_SIGNAL l) 0).setFld (R.KSL_LANE_STATUS_BIT_LOCK l) 0).setFld (R.KSL_LANE_STATUS_BLOCK_LOCK l) 0).setBit
    (R.KSL_LANE_EVENTS_LOS l)) (laneSide l) (f := R.KSL_EVENTS_LANE_LOS) (code := 0x700B) (by decide) (by decide)
  have hlane : ∀ g : Fld, 0xA04000 ≤ g.addr ∧ g.lo + g.w ≤ 32 → (d.losNoted l).fld g = ((((d.setFld (R.KSL_LANE_STATUS_SIGNAL l) 0).setFld (R.KSL_LANE_STATUS_BIT_LOCK l) 0).setFld
      (R.KSL_LANE_STATUS_BLOCK_LOCK l) 0).setBit (R.KSL_LANE_EVENTS_LOS l)).fld g := fun g hg => seamErr_fld _ _ _ (by decide) (laneWord_far hg)
  refine ⟨?_, ?_, ?_, flag_of_fld_one ?_, hcode, hevent⟩
  all_goals rw [hlane _ (by constructor <;> simp only [R.KSL_LANE_STATUS_SIGNAL, R.KSL_LANE_STATUS_BIT_LOCK, R.KSL_LANE_STATUS_BLOCK_LOCK, R.KSL_LANE_EVENTS_LOS] <;> omega), setBit_fld]
  · simp (disch := simp [Fld.apart, R.KSL_LANE_STATUS_SIGNAL, R.KSL_LANE_STATUS_BIT_LOCK, R.KSL_LANE_STATUS_BLOCK_LOCK, R.KSL_LANE_EVENTS_LOS]) only [fld_setFld_apart, fld_setFld_fits]
  · simp (disch := simp [Fld.apart, R.KSL_LANE_STATUS_SIGNAL, R.KSL_LANE_STATUS_BIT_LOCK, R.KSL_LANE_STATUS_BLOCK_LOCK, R.KSL_LANE_EVENTS_LOS]) only [fld_setFld_apart, fld_setFld_fits]
  · simp (disch := simp [Fld.apart, R.KSL_LANE_STATUS_BLOCK_LOCK, R.KSL_LANE_EVENTS_LOS]) only [fld_setFld_apart, fld_setFld_fits]
  · exact fld_setFld_fits _ _ _ (by simp [R.KSL_LANE_EVENTS_LOS])

/-- What the loss of lock counts. -/
def Dev.lolCounted (d : Dev) (l : Nat) (bitLock : Bool) (errors : Nat) : Dev :=
  let d := (d.setFld (R.KSL_LANE_STATUS_BLOCK_LOCK l) 0).bump (R.KSL_LANE_ERR_CNT_CODE_ERR l) errors
  (if bitLock then d.setFld (R.KSL_LANE_STATUS_BIT_LOCK l) 0 else d).bump (R.KSL_LANE_ERR_CNT_LOL_CNT l)

/-- A lane without lock. -/
def Dev.lolNoted (d : Dev) (l : Nat) (bitLock : Bool) (errors : Nat) : Dev :=
  ((d.lolCounted l bitLock errors).setBit (R.KSL_LANE_EVENTS_LOL l)).seamErr (laneSide l) R.KSL_EVENTS_LANE_LOL 0x700C

theorem laneLol_eq {d : Dev} {l : Nat} (bitLock : Bool) (errors : Nat) (hrx : receiveLane l = true) (hawake : d.laneAsleep l = false) :
    d.laneLol l bitLock errors = (d.lolNoted l bitLock errors).laneLost l false := by
  simp only [Dev.laneLol, hrx, hawake, Bool.not_true, Bool.false_eq_true, or_self, if_false]
  rfl

/-- A counter counts up to its top. -/
theorem fld_bump_by (d : Dev) (f : Fld) (n : Nat) (h : f.lo + f.w ≤ 64) : (d.bump f n).fld f = min (d.fld f + n) (2 ^ f.w - 1) := by
  have hp : 0 < 2 ^ f.w := Nat.two_pow_pos _
  refine (fld_setFld_same d f _ h).trans (Nat.mod_eq_of_lt ?_)
  omega

theorem fld_bump_apart (d : Dev) (f g : Fld) (n : Nat) (h : f.apart g) : (d.bump f n).fld g = d.fld g := fld_setFld_apart d f g _ h

theorem lolCounted_fields (d : Dev) (l : Nat) (bitLock : Bool) (errors : Nat) : let t := d.lolCounted l bitLock errors
    t.fld (R.KSL_LANE_STATUS_BLOCK_LOCK l) = 0 ∧ (bitLock = true → t.fld (R.KSL_LANE_STATUS_BIT_LOCK l) = 0) ∧
      t.fld (R.KSL_LANE_ERR_CNT_CODE_ERR l) = min (d.fld (R.KSL_LANE_ERR_CNT_CODE_ERR l) + errors) 65535 ∧
      t.fld (R.KSL_LANE_ERR_CNT_LOL_CNT l) = min (d.fld (R.KSL_LANE_ERR_CNT_LOL_CNT l) + 1) 65535 := by
  have hcount : (R.KSL_LANE_ERR_CNT_CODE_ERR l).lo + (R.KSL_LANE_ERR_CNT_CODE_ERR l).w ≤ 64 := by simp [R.KSL_LANE_ERR_CNT_CODE_ERR]
  have hlol : (R.KSL_LANE_ERR_CNT_LOL_CNT l).lo + (R.KSL_LANE_ERR_CNT_LOL_CNT l).w ≤ 64 := by simp [R.KSL_LANE_ERR_CNT_LOL_CNT]
  cases bitLock
  case false =>
    dsimp only [Dev.lolCounted]
    rw [if_neg Bool.false_ne_true]
    refine ⟨?_, fun h => absurd h Bool.false_ne_true, ?_, ?_⟩
    · simp (disch := simp [Fld.apart, R.KSL_LANE_STATUS_BLOCK_LOCK, R.KSL_LANE_ERR_CNT_CODE_ERR, R.KSL_LANE_ERR_CNT_LOL_CNT]) only [fld_bump_apart, fld_setFld_fits]
    · rw [fld_bump_apart _ _ _ _ (by simp [Fld.apart, R.KSL_LANE_ERR_CNT_LOL_CNT, R.KSL_LANE_ERR_CNT_CODE_ERR]), fld_bump_by _ _ _ hcount,
        fld_setFld_apart _ _ _ _ (by simp [Fld.apart, R.KSL_LANE_ERR_CNT_CODE_ERR, R.KSL_LANE_STATUS_BLOCK_LOCK])]
      rfl
    · rw [fld_bump_by _ _ _ hlol, fld_bump_apart _ _ _ _ (by simp [Fld.apart, R.KSL_LANE_ERR_CNT_LOL_CNT, R.KSL_LANE_ERR_CNT_CODE_ERR]),
        fld_setFld_apart _ _ _ _ (by simp [Fld.apart, R.KSL_LANE_ERR_CNT_LOL_CNT, R.KSL_LANE_STATUS_BLOCK_LOCK])]
      rfl
  case true =>
    dsimp only [Dev.lolCounted]
    rw [if_pos rfl]
    refine ⟨?_, fun _ => ?_, ?_, ?_⟩
    · simp (disch := simp [Fld.apart, R.KSL_LANE_STATUS_BLOCK_LOCK, R.KSL_LANE_STATUS_BIT_LOCK, R.KSL_LANE_ERR_CNT_CODE_ERR, R.KSL_LANE_ERR_CNT_LOL_CNT]) only
        [fld_bump_apart, fld_setFld_apart, fld_setFld_fits]
    · simp (disch := simp [Fld.apart, R.KSL_LANE_STATUS_BIT_LOCK, R.KSL_LANE_ERR_CNT_LOL_CNT]) only [fld_bump_apart, fld_setFld_fits]
    · rw [fld_bump_apart _ _ _ _ (by simp [Fld.apart, R.KSL_LANE_ERR_CNT_LOL_CNT, R.KSL_LANE_ERR_CNT_CODE_ERR]),
        fld_setFld_apart _ _ _ _ (by simp [Fld.apart, R.KSL_LANE_ERR_CNT_CODE_ERR, R.KSL_LANE_STATUS_BIT_LOCK]), fld_bump_by _ _ _ hcount,
        fld_setFld_apart _ _ _ _ (by simp [Fld.apart, R.KSL_LANE_ERR_CNT_CODE_ERR, R.KSL_LANE_STATUS_BLOCK_LOCK])]
      rfl
    · rw [fld_bump_by _ _ _ hlol, fld_setFld_apart _ _ _ _ (by simp [Fld.apart, R.KSL_LANE_ERR_CNT_LOL_CNT, R.KSL_LANE_STATUS_BIT_LOCK]),
        fld_bump_apart _ _ _ _ (by simp [Fld.apart, R.KSL_LANE_ERR_CNT_LOL_CNT, R.KSL_LANE_ERR_CNT_CODE_ERR]),
        fld_setFld_apart _ _ _ _ (by simp [Fld.apart, R.KSL_LANE_ERR_CNT_LOL_CNT, R.KSL_LANE_STATUS_BLOCK_LOCK])]
      rfl

theorem lolNoted_fields (d : Dev) (l : Nat) (bitLock : Bool) (errors : Nat) : let t := d.lolNoted l bitLock errors
    t.fld (R.KSL_LANE_STATUS_BLOCK_LOCK l) = 0 ∧ (bitLock = true → t.fld (R.KSL_LANE_STATUS_BIT_LOCK l) = 0) ∧
      t.fld (R.KSL_LANE_ERR_CNT_CODE_ERR l) = min (d.fld (R.KSL_LANE_ERR_CNT_CODE_ERR l) + errors) 65535 ∧
      t.fld (R.KSL_LANE_ERR_CNT_LOL_CNT l) = min (d.fld (R.KSL_LANE_ERR_CNT_LOL_CNT l) + 1) 65535 ∧ t.flag (R.KSL_LANE_EVENTS_LOL l) = true ∧ t.fld R.KSL_LAST_ERR_CODE = 0x700C ∧
      t.flag R.KSL_EVENTS_LANE_LOL = true := by
  obtain ⟨hcode, -, hevent⟩ := seamErr_fields ((d.lolCounted l bitLock errors).setBit (R.KSL_LANE_EVENTS_LOL l)) (laneSide l) (f := R.KSL_EVENTS_LANE_LOL) (code := 0x700C) (by decide) (by decide)
  obtain ⟨hblock, hbit, herr, hlol⟩ := lolCounted_fields d l bitLock errors
  have hlane : ∀ g : Fld, 0xA04000 ≤ g.addr ∧ g.lo + g.w ≤ 32 → g.addr ≠ (R.KSL_LANE_EVENTS_LOL l).addr → (d.lolNoted l bitLock errors).fld g = (d.lolCounted l bitLock errors).fld g :=
    fun g hg ha => by rw [Dev.lolNoted, seamErr_fld _ _ _ (by decide) (laneWord_far hg), setBit_fld,
      fld_setFld_apart _ _ _ _ (apart_of_addr ha ⟨by simp only [R.KSL_LANE_EVENTS_LOL]; omega, hg.2⟩)]
  refine ⟨?_, fun h => ?_, ?_, ?_, flag_of_fld_one ?_, hcode, hevent⟩
  · rw [hlane _ (by simp only [R.KSL_LANE_STATUS_BLOCK_LOCK]; omega) (by simp only [R.KSL_LANE_STATUS_BLOCK_LOCK, R.KSL_LANE_EVENTS_LOL]; omega), hblock]
  · rw [hlane _ (by simp only [R.KSL_LANE_STATUS_BIT_LOCK]; omega) (by simp only [R.KSL_LANE_STATUS_BIT_LOCK, R.KSL_LANE_EVENTS_LOL]; omega), hbit h]
  · rw [hlane _ (by simp only [R.KSL_LANE_ERR_CNT_CODE_ERR]; omega) (by simp only [R.KSL_LANE_ERR_CNT_CODE_ERR, R.KSL_LANE_EVENTS_LOL]; omega), herr]
  · rw [hlane _ (by simp only [R.KSL_LANE_ERR_CNT_LOL_CNT]; omega) (by simp only [R.KSL_LANE_ERR_CNT_LOL_CNT, R.KSL_LANE_EVENTS_LOL]; omega), hlol]
  · rw [Dev.lolNoted, seamErr_fld _ _ _ (by decide) (laneWord_far (by simp only [R.KSL_LANE_EVENTS_LOL]; omega)), setBit_fld, fld_setFld_fits _ _ _ (by simp [R.KSL_LANE_EVENTS_LOL])]

/-- What the loss of a seam lane does to its port. -/
theorem laneLost_seam (d : Dev) {side i l : Nat} (signal : Bool) (h : seamRxOf l = some (side, i)) :
    d.laneLost l signal = if !((d.seamPort side).order.contains i) then d else if d.stage side = 5 then d.portDown side else if d.stage side = 3 ∧ !signal then d.lockFail side else d := by
  simp only [Dev.laneLost, h]

/-! ### Slips (R435) and writes of the link's words -/

/-- A write of a word of the link that is not KSL.CTRL, by the host. -/
theorem hostWrite_ksl (d : Dev) (a v : Nat) (h3 : 3 ≤ d.mode.code) (hd : (findDesc a).isSome = true) (h4 : a % 4 = 0) (ha : 0xA00000 < a ∧ a < 0xB00000) : d.hostWrite a v = d.kslWrite 0 a v := by
  obtain ⟨row, hr⟩ := Option.isSome_iff_exists.mp hd
  have ht : inTap a = false := by simp only [inTap, Bool.and_eq_false_iff, decide_eq_false_iff_not]; omega
  rw [hostWrite_eq d _ _ h3]
  simp only [Dev.regWrite, h4, ht, hr, show a / 0x100000 = 10 by omega, Option.isNone_some, ne_eq, not_true_eq_false, Bool.false_eq_true, if_false]

theorem mixedActs_ksl (d : Dev) (a v : Nat) (ha : 0xA00000 < a ∧ a < 0xB00000) : d.mixedActs a v = d := by
  simp only [Dev.mixedActs, show a / 0x100000 = 10 by omega, if_neg (show ¬ a % 0x100000 = 0 by omega)]

theorem hostWrite_bitslip (d : Dev) (l : Fin 112) (v : Nat) (h3 : 3 ≤ d.mode.code) :
    d.hostWrite (0xA04000 + 0x20 * l) (v ||| 0x100) = (d.baseWrite 0 (0xA04000 + 0x20 * l) (v ||| 0x100)).bitslip l := by
  have hd : (findDesc (0xA04000 + l.val * 0x20)).isSome = true :=
    findDesc_isSome_of_row ⟨0x0A04000, 112, 0x20, 1, 0, 0x820, 0x1EFF, 0, 0, 0x100, 0, 0, false⟩ l
      (by rw [descBlock, show (0xA04000 + l.val * 0x20) / 0x100000 = 10 by omega]; decide) l.isLt (by decide) (by decide)
  rw [Nat.mul_comm] at hd
  have ho : ¬ (0x1000 ≤ (0xA04000 + 0x20 * l.val) % 0x100000 ∧ (0xA04000 + 0x20 * l.val) % 0x100000 < 0x1200) := by omega
  have hl : 0x4000 ≤ (0xA04000 + 0x20 * l.val) % 0x100000 ∧ (0xA04000 + 0x20 * l.val) % 0x100000 < 0x4E00 ∧ (0xA04000 + 0x20 * l.val) % 0x100000 % 0x20 = 0 ∧ bitOf (v ||| 0x100) 8 = true :=
    ⟨by omega, by omega, by omega, bitOf_or_two_pow v 8⟩
  rw [hostWrite_ksl d _ _ h3 hd (by omega) (by omega)]
  simp only [Dev.kslWrite, mixedActs_ksl _ _ _ (show 0xA00000 < 0xA04000 + 0x20 * l.val ∧ 0xA04000 + 0x20 * l.val < 0xB00000 by omega), if_neg ho, if_pos hl,
    show ((0xA04000 + 0x20 * l.val) % 0x100000 - 0x4000) / 0x20 = l by omega]

theorem hostWrite_portRetry (d : Dev) (k : Fin 2) (v : Nat) (h3 : 3 ≤ d.mode.code) :
    d.hostWrite (0xA01000 + 0x100 * k) (v ||| 0x100) = (d.baseWrite 0 (0xA01000 + 0x100 * k) (v ||| 0x100)).portRetry k := by
  have hd : (findDesc (0xA01000 + k.val * 0x100)).isSome = true :=
    findDesc_isSome_of_row ⟨0x0A01000, 2, 0x100, 1, 0, 0x640043, 0xFFFF00FF, 0, 0, 0x100, 0, 0, false⟩ k
      (by rw [descBlock, show (0xA01000 + k.val * 0x100) / 0x100000 = 10 by omega]; decide) k.isLt (by decide) (by decide)
  rw [Nat.mul_comm] at hd
  have ho : 0x1000 ≤ (0xA01000 + 0x100 * k.val) % 0x100000 ∧ (0xA01000 + 0x100 * k.val) % 0x100000 < 0x1200 := by omega
  have h8 : ¬ (0xA01000 + 0x100 * k.val) % 0x100000 % 0x100 = 8 := by omega
  have h0 : (0xA01000 + 0x100 * k.val) % 0x100000 % 0x100 = 0 ∧ bitOf (v ||| 0x100) 8 = true := ⟨by omega, bitOf_or_two_pow v 8⟩
  rw [hostWrite_ksl d _ _ h3 hd (by omega) (by omega)]
  simp only [Dev.kslWrite, mixedActs_ksl _ _ _ (show 0xA00000 < 0xA01000 + 0x100 * k.val ∧ 0xA01000 + 0x100 * k.val < 0xB00000 by omega), if_pos ho, if_neg h8, if_pos h0,
    show ((0xA01000 + 0x100 * k.val) % 0x100000 - 0x1000) / 0x100 = k by omega]

section slips
variable {d : Dev} {l : Nat} (hrx : receiveLane l = true)
include hrx

/-- A lane that aligns by hand queues a slip; a 64th is dropped (log 160). -/
theorem bitslip_queued (halign : d.flag (R.KSL_LANE_CFG_ALIGN l) = true) : (d.bitslip l).fld (R.KSL_LANE_SLIP_PENDING l) = min (d.fld (R.KSL_LANE_SLIP_PENDING l) + 1) 63 := by
  have hlt : d.fld (R.KSL_LANE_SLIP_PENDING l) < 64 := fld_lt d (R.KSL_LANE_SLIP_PENDING l)
  simp only [Dev.bitslip, hrx, halign, Bool.not_true, Bool.false_eq_true, if_false, if_true]
  split
  · rw [fld_incr_same _ _ (by simp [R.KSL_LANE_SLIP_PENDING]), show (R.KSL_LANE_SLIP_PENDING l).w = 6 from rfl]
    omega
  · omega

theorem bitslip_ignored (halign : d.flag (R.KSL_LANE_CFG_ALIGN l) = false) : let t := d.bitslip l
    t.fld (R.KSL_LANE_SLIP_PENDING l) = d.fld (R.KSL_LANE_SLIP_PENDING l) ∧ t.flag (R.KSL_LANE_EVENTS_BITSLIP_IGNORED l) = true ∧ t.flag R.KSL_EVENTS_BITSLIP_IGNORED = true := by
  simp only [Dev.bitslip, hrx, halign, Bool.not_true, Bool.false_eq_true, if_false]
  have hraise : ∀ g : Fld, 0xA04000 ≤ g.addr ∧ g.lo + g.w ≤ 32 →
      ((d.setBit (R.KSL_LANE_EVENTS_BITSLIP_IGNORED l)).raise R.KSL_EVENTS_BITSLIP_IGNORED).fld g = (d.setFld (R.KSL_LANE_EVENTS_BITSLIP_IGNORED l) 1).fld g := fun g ⟨ha, hw⟩ =>
    raise_fld_apart _ _ _ (apart_of_addr (by simp only [R.KSL_EVENTS_BITSLIP_IGNORED]; omega) ⟨by decide, hw⟩) (.inr (by omega))
  refine ⟨?_, flag_of_fld_one ?_, flag_of_fld_one (raise_fld _ _ (by decide) rfl (not_chanCount (by decide)))⟩
  · rw [hraise _ (by simp only [R.KSL_LANE_SLIP_PENDING]; omega), fld_setFld_apart _ _ _ _ (by simp [Fld.apart, R.KSL_LANE_EVENTS_BITSLIP_IGNORED, R.KSL_LANE_SLIP_PENDING])]
  · rw [hraise _ (by simp only [R.KSL_LANE_EVENTS_BITSLIP_IGNORED]; omega), fld_setFld_fits _ _ _ (by simp [R.KSL_LANE_EVENTS_BITSLIP_IGNORED])]

/-- A queued slip is made. -/
theorem bitslipApply_eq (hn : 0 < d.fld (R.KSL_LANE_SLIP_PENDING l)) :
    d.bitslipApply l = (d.setFld (R.KSL_LANE_SLIP_PENDING l) (d.fld (R.KSL_LANE_SLIP_PENDING l) - 1)).incr (R.KSL_LANE_SLIP_SLIPS l) := by
  simp only [Dev.bitslipApply, hrx, Bool.not_true, Bool.false_eq_true, Nat.ne_of_gt hn, or_self, if_false]

end slips

theorem slipMade_fields (d : Dev) (l : Nat) : let t := (d.setFld (R.KSL_LANE_SLIP_PENDING l) (d.fld (R.KSL_LANE_SLIP_PENDING l) - 1)).incr (R.KSL_LANE_SLIP_SLIPS l)
    t.fld (R.KSL_LANE_SLIP_PENDING l) = d.fld (R.KSL_LANE_SLIP_PENDING l) - 1 ∧ t.fld (R.KSL_LANE_SLIP_SLIPS l) = (d.fld (R.KSL_LANE_SLIP_SLIPS l) + 1) % 65536 ∧
      d.keeps t (· = (R.KSL_LANE_SLIP l).addr) := by
  have hlt : d.fld (R.KSL_LANE_SLIP_PENDING l) < 64 := fld_lt d (R.KSL_LANE_SLIP_PENDING l)
  refine ⟨?_, ?_, keeps_trans (keeps_setFld d (R.KSL_LANE_SLIP_PENDING l) _ (by simp [R.KSL_LANE_SLIP_PENDING])) (keeps_incr _ (R.KSL_LANE_SLIP_SLIPS l) (by simp [R.KSL_LANE_SLIP_SLIPS]))⟩
  · rw [Dev.incr, fld_setFld_apart _ _ _ _ (by simp [Fld.apart, R.KSL_LANE_SLIP_SLIPS, R.KSL_LANE_SLIP_PENDING]),
      fld_setFld_fits _ _ _ ⟨by simp [R.KSL_LANE_SLIP_PENDING], by simp only [R.KSL_LANE_SLIP_PENDING] at hlt ⊢; omega⟩]
  · rw [fld_incr_same _ _ (by simp [R.KSL_LANE_SLIP_SLIPS]), fld_setFld_apart _ _ _ _ (by simp [Fld.apart, R.KSL_LANE_SLIP_SLIPS, R.KSL_LANE_SLIP_PENDING])]
    rfl

/-! ### Bring-up (R440 to R446) -/

/-- The state that a period of training sets leaves before the handshake is judged. -/
def Dev.ktsTaken (d : Dev) (k : Nat) (second : Bool) (count : Nat) (sets : List KtsIn) : Dev := (sets.foldl (fun d i => d.takeKts k second count i) d).noteWidth k

/-- KTS2 sent since the first was received. -/
def Dev.ktsSent (d : Dev) (k sent : Nat) : Dev := d.updSeam k fun x => { x with sent := x.sent + sent }

/-- Is the handshake of a phase over. -/
def Dev.ktsDone (d : Dev) (k : Nat) : Bool :=
  let x := d.seamPort k
  decide (x.order ≠ []) && x.order.all (fun i => decide (8 ≤ (x.rx i).second)) && decide (16 ≤ x.sent) && (decide (x.phase = 0) || x.order.all fun i => (x.rx i).eqDone && d.eqOwn k i)

/-- What follows a period of training sets: answers, the target rate, or LOCK. -/
def Dev.ktsJudged (d : Dev) (k : Nat) (sets : List KtsIn) : Dev :=
  let x := d.seamPort k
  if !(d.ktsDone k) then sets.foldl (fun d i => d.emit (.kts k i.lane (decide (x.order ≠ [])) (d.ktsOut k i.lane i.ask))) d
  else if x.phase = 0 ∧ 2 ≤ x.target then d.updSeam k fun x => { x with phase := 1, phaseAt := d.time }
  else d.enterLock k

theorem ktsReceive_eq {d : Dev} {k : Nat} (second : Bool) (count sent : Nat) (sets : List KtsIn) (hk : k < 2) (hst : d.stage k = 2) (hph : (d.seamPort k).phase ≠ 1) : let e := d.ktsTaken k second count sets
    d.ktsReceive k second count sent sets = (if (e.seamPort k).order ≠ [] ∧ second = true then e.ktsSent k sent else e).ktsJudged k sets := by
  have hruns : ¬ (2 ≤ k ∨ d.stage k ≠ 2 ∨ (d.seamPort k).phase = 1) := by omega
  rw [Dev.ktsReceive, if_neg hruns]
  rfl

/-- Without a width the port answers the sets. -/
theorem ktsJudged_answers {e : Dev} {k : Nat} (sets : List KtsIn) (ho : (e.seamPort k).order = []) :
    e.ktsJudged k sets = sets.foldl (fun d i => d.emit (.kts k i.lane false (d.ktsOut k i.lane i.ask))) e := by
  simp only [Dev.ktsJudged, Dev.ktsDone, ho, ne_eq, not_true_eq_false, decide_false, Bool.false_and, Bool.not_false, if_true]

/-- A handshake on all the lanes of the width ends the phase. -/
theorem ktsJudged_done {e : Dev} {k : Nat} (sets : List KtsIn) (ho : (e.seamPort k).order ≠ []) (hall : ∀ i ∈ (e.seamPort k).order, 8 ≤ ((e.seamPort k).rx i).second) (hsent : 16 ≤ (e.seamPort k).sent)
    (hzero : (e.seamPort k).phase = 0) :
    e.ktsJudged k sets = if 2 ≤ (e.seamPort k).target then e.updSeam k fun x => { x with phase := 1, phaseAt := e.time } else e.enterLock k := by
  have hrx : ((e.seamPort k).order.all fun i => decide (8 ≤ ((e.seamPort k).rx i).second)) = true := List.all_eq_true.mpr fun i hi => decide_eq_true (hall i hi)
  have hdone : e.ktsDone k = true := by simp only [Dev.ktsDone, hrx, hzero, hsent, decide_eq_true ho, decide_true, Bool.true_or, Bool.and_self]
  simp only [Dev.ktsJudged, hdone, hzero, Bool.not_true, Bool.false_eq_true, if_false, true_and]

theorem setActive_off_seam (d : Dev) (k : Nat) : (d.setActive k false).seam = d.seam := by simp [Dev.setActive, Dev.setFlag, apply_ite Dev.seam]

theorem setActive_off_time (d : Dev) (k : Nat) : (d.setActive k false).time = d.time := by simp [Dev.setActive, Dev.setFlag, apply_ite Dev.time]

/-- A port that leaves ACTIVE drops what waits, and keeps its lanes. -/
def SeamPort.left (x : SeamPort) : SeamPort := { x with unacked := [], waiting := [], replays := 0, wakeAt := none, ignoring := false, held := false }

theorem unlink_seamPort (d : Dev) (k stage : Nat) : (d.unlink k stage).seamPort k = (d.seamPort k).left ∧ (d.unlink k stage).time = d.time := by
  have hleft : (d.leaveActive k).seamPort k = (d.seamPort k).left ∧ (d.leaveActive k).time = d.time := by
    have hdrop : ∀ e : Dev, (e.updSeam k SeamPort.left).seamPort k = (e.seamPort k).left := fun e => seamPort_updSeam_same e k _
    have hport : (d.setFld (R.KSL_PORT_STATUS_DATA k) 0).seamPort k = d.seamPort k := seamPort_congr (by simp) k
    rcases ite_eq_or_eq (d.flag (R.KSL_PORT_STATUS_DATA k) = true) (((d.setFld (R.KSL_PORT_STATUS_DATA k) 0).updSeam k SeamPort.left).setActive k false)
      ((d.setFld (R.KSL_PORT_STATUS_DATA k) 0).updSeam k SeamPort.left) with h | h
    · rw [show d.leaveActive k = _ from h]
      exact ⟨(seamPort_congr (setActive_off_seam ..) k).trans ((hdrop _).trans (by rw [hport])), (setActive_off_time ..).trans (Dev.setFld_time ..)⟩
    · rw [show d.leaveActive k = _ from h]
      exact ⟨(hdrop _).trans (by rw [hport]), Dev.setFld_time ..⟩
  exact ⟨(seamPort_congr (by simp [Dev.unlink]) k).trans hleft.1, by simp [Dev.unlink, hleft.2]⟩

/-- The words of lanes are behind those of ports. -/
theorem setReg_fld_before (d : Dev) {a : Nat} (v : Word) {g : Fld} (hg : g.addr + 4 < a) : (d.setReg a v).fld g = d.fld g :=
  fld_congr (reg_setReg_other _ _ _ _ (by omega)) fun _ => reg_setReg_other _ _ _ _ (by omega)

theorem clearLanes_fld (k : Nat) (is : List Nat) {g : Fld} (hg : g.addr + 4 < 0xA04000) : ∀ d : Dev, (d.clearLanes k is).fld g = d.fld g := by
  unfold Dev.clearLanes
  induction is with
  | nil => exact fun _ => rfl
  | cons i is ih =>
    intro d
    rw [List.foldl_cons, ih, setReg_fld_before _ _ (by simp only [R.KSL_LANE_STATUS]; omega), setReg_fld_before _ _ (by simp only [R.KSL_LANE_STATUS]; omega)]

/-! ### DETECT and TRAIN (R440, R442, R446) -/

/-- DETECT before the cascade is counted anew. -/
def Dev.detectEntered (d : Dev) (k : Nat) : Dev :=
  let d := (((d.unlink k 1).setFld (R.KSL_PORT_STATUS_EXCLUDED k) 0).setFld (R.KSL_PORT_STATUS_TX_PWR k) 0).setFld (R.KSL_PORT_STATUS_RX_PWR k) 0
  let r := d.fld R.KSL_CTRL_MAX_RATE
  (d.clearLanes k (List.range 8)).updSeam k fun x => { x with maxRate := if r = 0 then 3 else r, present := [], order := [] }

theorem enterDetect_eq (d : Dev) (k : Nat) : d.enterDetect k = (d.detectEntered k).recount := rfl

theorem detectEntered_fields (d : Dev) {k : Nat} (hk : k < 2) : let e := d.detectEntered k
    e.stage k = 1 ∧ e.fld (R.KSL_PORT_STATUS_EXCLUDED k) = 0 ∧ e.fld (R.KSL_PORT_STATUS_TX_PWR k) = 0 ∧ e.fld (R.KSL_PORT_STATUS_RX_PWR k) = 0 ∧ (e.seamPort k).present = [] ∧
      (e.seamPort k).order = [] := by
  have hword : ∀ g : Fld, g.addr = (R.KSL_PORT_STATUS k).addr → (d.detectEntered k).fld g =
      ((((d.unlink k 1).setFld (R.KSL_PORT_STATUS_EXCLUDED k) 0).setFld (R.KSL_PORT_STATUS_TX_PWR k) 0).setFld (R.KSL_PORT_STATUS_RX_PWR k) 0).fld g := fun g hg => by
    rw [Dev.detectEntered, updSeam_fld, clearLanes_fld _ _ (by rw [hg]; simp only [R.KSL_PORT_STATUS]; omega)]
  refine ⟨?_, ?_, ?_, ?_, by rw [Dev.detectEntered, seamPort_updSeam_same], by rw [Dev.detectEntered, seamPort_updSeam_same]⟩
  · rw [Dev.stage, hword (R.KSL_PORT_STATUS_STAGE k) rfl, Dev.unlink]
    simp (disch := simp [Fld.apart, R.KSL_PORT_STATUS_STAGE, R.KSL_PORT_STATUS_RATE, R.KSL_PORT_STATUS_WIDTH, R.KSL_PORT_STATUS_MISMATCH, R.KSL_PORT_STATUS_REVERSED, R.KSL_PORT_STATUS_EXCLUDED,
      R.KSL_PORT_STATUS_TX_PWR, R.KSL_PORT_STATUS_RX_PWR]) only [fld_setFld_apart, fld_setFld_fits]
  · rw [hword (R.KSL_PORT_STATUS_EXCLUDED k) rfl]
    simp (disch := simp [Fld.apart, R.KSL_PORT_STATUS_EXCLUDED, R.KSL_PORT_STATUS_TX_PWR, R.KSL_PORT_STATUS_RX_PWR]) only [fld_setFld_apart, fld_setFld_fits]
  · rw [hword (R.KSL_PORT_STATUS_TX_PWR k) rfl]
    simp (disch := simp [Fld.apart, R.KSL_PORT_STATUS_TX_PWR, R.KSL_PORT_STATUS_RX_PWR]) only [fld_setFld_apart, fld_setFld_fits]
  · rw [hword (R.KSL_PORT_STATUS_RX_PWR k) rfl]
    exact fld_setFld_fits _ _ _ (by simp [R.KSL_PORT_STATUS_RX_PWR])

/-- A port that begins to train. -/
def SeamPort.training (x : SeamPort) (now : Nat) : SeamPort :=
  { x with present := if x.order = [] then x.present else x.order, order := [], phase := 0, target := 0, sent := 0, lanes := [], trainAt := now, phaseAt := now }

/-- TRAIN before the presets are set. -/
def Dev.trainEntered (d : Dev) (k : Nat) : Dev :=
  let d := (d.unlink k 2).setFld (R.KSL_PORT_STATUS_RATE k) 1
  d.updSeam k fun x => x.training d.time

/-- The presets of the lanes that train. -/
def Dev.presetsSet (d : Dev) (k : Nat) (is : List Nat) : Dev := is.foldl (fun d i => d.setPreset (txLane k i) (d.txPreset k)) d

theorem enterTrain_eq (d : Dev) (k : Nat) : d.enterTrain k = ((d.trainEntered k).presetsSet k ((d.trainEntered k).seamPort k).present).recount := rfl

theorem presetsSet_seam (k : Nat) (is : List Nat) : ∀ d : Dev, (d.presetsSet k is).seam = d.seam := by
  unfold Dev.presetsSet
  induction is with
  | nil => exact fun _ => rfl
  | cons i is ih =>
    intro d
    rw [List.foldl_cons, ih]
    simp [Dev.setPreset]

theorem trainEntered_seamPort (d : Dev) (k : Nat) : (d.trainEntered k).seamPort k = (d.seamPort k).left.training d.time := by
  obtain ⟨hport, htime⟩ := unlink_seamPort d k 2
  have hset : ((d.unlink k 2).setFld (R.KSL_PORT_STATUS_RATE k) 1).seamPort k = (d.seamPort k).left := (seamPort_congr (by simp) k).trans hport
  rw [Dev.trainEntered, seamPort_updSeam_same, hset, Dev.setFld_time, htime]

theorem enterTrain_fields (d : Dev) (k : Nat) : ∃ e : Dev, d.enterTrain k = e.recount ∧ (e.seamPort k).phase = 0 ∧ (e.seamPort k).order = [] ∧ (e.seamPort k).trainAt = d.time ∧
    (e.seamPort k).present = (if (d.seamPort k).order = [] then (d.seamPort k).present else (d.seamPort k).order) := by
  refine ⟨_, enterTrain_eq d k, ?_⟩
  rw [seamPort_congr (presetsSet_seam ..) k, trainEntered_seamPort]
  exact ⟨rfl, rfl, rfl, rfl⟩

/-! ### Ports that go down, and retries (R446, R449) -/

/-- What a port that goes down reports. -/
def Dev.downNoted (d : Dev) (k : Nat) : Dev := (d.bump (R.KSL_PORT_CNT1_DOWN_CNT k)).seamErr k R.KSL_EVENTS_PORT_DOWN 0x7007

theorem portDown_eq {d : Dev} {k : Nat} (hst : d.stage k = 5) : d.portDown k = (d.downNoted k).enterDetect k := if_neg fun h => h hst

theorem downNoted_fields (d : Dev) {k : Nat} (hk : k < 2) : let e := d.downNoted k
    e.fld (R.KSL_PORT_CNT1_DOWN_CNT k) = min (d.fld (R.KSL_PORT_CNT1_DOWN_CNT k) + 1) 65535 ∧ e.fld R.KSL_LAST_ERR_CODE = 0x7007 ∧ e.fld R.KSL_LAST_ERR_PORT = k ∧ e.flag R.KSL_EVENTS_PORT_DOWN = true := by
  obtain ⟨hcode, hport, hevent⟩ := seamErr_fields (d.bump (R.KSL_PORT_CNT1_DOWN_CNT k)) k (f := R.KSL_EVENTS_PORT_DOWN) (code := 0x7007) (by decide) (by decide)
  refine ⟨?_, hcode, hport.trans (Nat.mod_eq_of_lt hk), hevent⟩
  rw [Dev.downNoted, seamErr_fld _ _ _ (by decide) (by simp only [R.KSL_PORT_CNT1_DOWN_CNT]; omega), fld_bump_same _ _ (by simp [R.KSL_PORT_CNT1_DOWN_CNT])]
  rfl

theorem portRetry_eq (d : Dev) (k : Nat) : d.portRetry k = if d.stage k = 4 ∧ d.flag (R.KSL_PORT_STATUS_MISMATCH k) then (d.setFld (R.KSL_PORT_STATUS_EXCLUDED k) 0).enterDetect k
    else d.setFld (R.KSL_PORT_STATUS_EXCLUDED k) 0 := by
  unfold Dev.portRetry Dev.stage
  dsimp only
  rw [fld_setFld_apart _ _ _ _ (by simp [Fld.apart, R.KSL_PORT_STATUS_EXCLUDED, R.KSL_PORT_STATUS_STAGE]),
    flag_setFld_apart _ _ _ _ (by simp [Fld.apart, R.KSL_PORT_STATUS_EXCLUDED, R.KSL_PORT_STATUS_MISMATCH])]

/-! ### Rates, LOCK and sleep (R443, R447, R450) -/

/-- The target rate begins. -/
def Dev.rateBegun (d : Dev) (k : Nat) : Dev :=
  let e := d.advance ((d.seamPort k).phaseAt + usCycles 2)
  (e.setFld (R.KSL_PORT_STATUS_RATE k) (d.seamPort k).target).updSeam k fun y => { y with phase := 2, phaseAt := e.time, sent := 0, lanes := [] }

section ports
variable {d : Dev} {k : Nat}

theorem rateIdleEnd_eq (hk : k < 2) (hst : d.stage k = 2) (hph : (d.seamPort k).phase = 1) (ho : (d.seamPort k).order = []) : d.rateIdleEnd k = d.rateBegun k := by
  simp only [Dev.rateIdleEnd, Nat.not_le.mpr hk, hst, hph, ho, ne_eq, not_true_eq_false, or_self, if_false, List.foldl_nil]
  rfl

theorem rateBegun_fields (d : Dev) (k : Nat) : ((d.rateBegun k).seamPort k).phase = 2 ∧ ((d.rateBegun k).seamPort k).sent = 0 ∧ ((d.rateBegun k).seamPort k).lanes = [] ∧
    (d.rateBegun k).fld (R.KSL_PORT_STATUS_RATE k) = (d.seamPort k).target % 4 := by
  have hword : (R.KSL_PORT_STATUS_RATE k).lo + (R.KSL_PORT_STATUS_RATE k).w ≤ 64 := by simp [R.KSL_PORT_STATUS_RATE]
  rw [Dev.rateBegun, seamPort_updSeam_same, updSeam_fld, fld_setFld_same _ _ _ hword]
  exact ⟨rfl, rfl, rfl, rfl⟩

/-- EXCHANGE before the CAP goes out. -/
def Dev.exchanging (d : Dev) (k : Nat) : Dev :=
  ((d.advance ((d.seamPort k).lockAt + usCycles 100)).setFld (R.KSL_PORT_STATUS_STAGE k) 4).updSeam k fun x =>
    { x with txSeq := 0, rxSeq := 0, unacked := [], waiting := [], replays := 0, ignoring := false }

theorem lockHoldDone_eq (hk : k < 2) (hst : d.stage k = 3) : d.lockHoldDone k = (d.exchanging k).sendCap k := if_neg (by omega)

theorem exchanging_fields (d : Dev) (k : Nat) : (d.exchanging k).stage k = 4 ∧
    (d.exchanging k).seamPort k = { d.seamPort k with txSeq := 0, rxSeq := 0, unacked := [], waiting := [], replays := 0, ignoring := false } := by
  refine ⟨?_, ?_⟩
  · rw [Dev.stage, Dev.exchanging, updSeam_fld, fld_setFld_fits _ _ _ (by simp [R.KSL_PORT_STATUS_STAGE])]
  · have hport : ((d.advance ((d.seamPort k).lockAt + usCycles 100)).setFld (R.KSL_PORT_STATUS_STAGE k) 4).seamPort k = d.seamPort k :=
      (seamPort_congr (Dev.setFld_seam ..) k).trans (advance_seamPort ..)
    rw [Dev.exchanging, seamPort_updSeam_same, hport]

/-- A dozing transmitter has sent its set. -/
theorem dozeTx_fields {e : Dev} (hpwr : e.fld (R.KSL_PORT_STATUS_TX_PWR k) = 0) : (e.dozeTx k).fld (R.KSL_PORT_STATUS_TX_PWR k) = 1 ∧
    (e.dozeTx k).out = e.out ++ [.seamSet k 1 (OrderedSet.doze.symbols (e.seamRate k))] := by
  simp only [Dev.dozeTx, hpwr, if_true, Dev.setFld_out]
  exact ⟨fld_setFld_fits _ _ _ (by simp [R.KSL_PORT_STATUS_TX_PWR]), rfl⟩

end ports

/-- A receiver's power state, and since when it regains lock. -/
theorem rxPower_fields (d : Dev) (k : Nat) {v : Nat} (w : Option Nat) (hv : v < 4) : let t := (d.setFld (R.KSL_PORT_STATUS_RX_PWR k) v).updSeam k fun x => { x with wakeAt := w }
    t.fld (R.KSL_PORT_STATUS_RX_PWR k) = v ∧ t.seamPort k = { d.seamPort k with wakeAt := w } ∧ d.keeps t (· = (R.KSL_PORT_STATUS k).addr) := by
  refine ⟨?_, ?_, keeps_trans (keeps_setFld d (R.KSL_PORT_STATUS_RX_PWR k) v (by simp [R.KSL_PORT_STATUS_RX_PWR])) (keeps_of_eq _ rfl rfl rfl)⟩
  · rw [updSeam_fld, fld_setFld_fits _ _ _ ⟨by simp [R.KSL_PORT_STATUS_RX_PWR], hv⟩]
  · rw [seamPort_updSeam_same, seamPort_congr (Dev.setFld_seam ..) k]

/-- Settles O55: lanes by what they note, training by `ktsReceive_eq` and `ktsJudged`, and a port that enters DETECT or TRAIN by its state before the recount. -/
theorem seamPorts : Obligations.SeamPorts := by
  unfold Obligations.SeamPorts
  refine ⟨⟨fun s l hm hrx => ⟨fun hawake => ⟨?los, fun bitLock errors => ?lol⟩, fun v h3 => ?slips, fun hn => ?applied⟩,
    fun d side i l hseam => ⟨fun hi signal => ?other, fun hi hst signal => ?down, fun hi hst => ?fails⟩⟩, fun s side hm => ?port, fun d side => ?changes⟩
  case los => exact ⟨_, exec_run_eq (exec_laneLos s l) hm (laneLos_eq hrx hawake), losNoted_fields ..⟩
  case lol => exact ⟨_, exec_run_eq (exec_laneLol s l bitLock errors) hm (laneLol_eq bitLock errors hrx hawake), lolNoted_fields ..⟩
  case slips =>
    intro e
    refine ⟨fun halign => ?slip, fun halign => ?ignored⟩
    case slip =>
      refine completes_run _ (exec_bitslip s l v) hm ?_
      rw [hostWrite_bitslip s.start l v.toNat h3]
      exact bitslip_queued hrx halign
    case ignored =>
      refine completes_run _ (exec_bitslip s l v) hm ?_
      rw [hostWrite_bitslip s.start l v.toNat h3]
      exact bitslip_ignored hrx halign
  case applied =>
    refine completes_run _ (exec_bitslipApply s l) hm ?_
    rw [bitslipApply_eq (d := s.start) hrx hn]
    exact slipMade_fields ..
  case other => rw [laneLost_seam d signal hseam, if_pos (by simpa using hi)]
  case down => rw [laneLost_seam d signal hseam, if_neg (by simpa using hi), if_pos hst]
  case fails => rw [laneLost_seam d false hseam, if_neg (by simpa using hi), if_neg (by omega), if_pos ⟨hst, rfl⟩]
  case port =>
    intro k x
    refine ⟨fun present => ?probe, fun second count sent sets hst hph => ?kts, fun hst hph => ?timeout,
      fun hst hph ho => ?idle, fun hst hph heq => ?eq, fun hst => ?lock, fun hst => ?hold, fun v h3 => ?retry, fun hst hmis => ?resend, fun hst hen hpwr hun hwait => ?doze,
      fun hst hpwr => ?dozing, fun hpwr => ?wakes, fun t hwake hst => ?wakeless⟩
    case probe =>
      intro ps hst hps
      exact exec_run_eq (exec_detectProbe s side present) hm (if_neg fun h => h.elim (by omega) fun h => h.elim (fun h => h hst) hps)
    case kts =>
      intro e
      refine ⟨fun ho => ?answers, fun ho hsecond hall hsent hzero => ?done⟩
      case answers =>
        refine exec_run_eq (exec_ktsReceive s side second count sent sets) hm ((ktsReceive_eq second count sent sets side.isLt hst hph).trans ?_)
        rw [if_neg fun h => h.1 ho]
        exact ktsJudged_answers sets ho
      case done =>
        intro y
        have hy : (e.ktsSent k sent).seamPort k = y := seamPort_updSeam_same ..
        have hjudge : s.start.ktsReceive k second count sent sets = (e.ktsSent k sent).ktsJudged k sets :=
          (ktsReceive_eq second count sent sets side.isLt hst hph).trans (by rw [if_pos ⟨ho, hsecond⟩]; rfl)
        rw [ktsJudged_done sets (by rw [hy]; exact ho) (by rw [hy]; exact hall) (by rw [hy]; exact hsent) (by rw [hy]; exact hzero), hy] at hjudge
        refine ⟨fun htarget => ⟨_, exec_run_eq (exec_ktsReceive s side second count sent sets) hm (hjudge.trans (if_pos htarget)), ?_, rfl, rfl⟩,
          fun htarget => exec_run_eq (exec_ktsReceive s side second count sent sets) hm (hjudge.trans (if_neg (Nat.not_le.mpr htarget)))⟩
        rw [seamPort_updSeam_same, hy]
        rfl
    case timeout => exact exec_run_eq (exec_trainTimeout s side) hm (if_neg fun h => h.elim (by omega) fun h => h.elim (fun h => h hst) fun h => h hph)
    case idle =>
      refine completes_run _ (exec_rateIdleEnd s side) hm ?_
      rw [rateIdleEnd_eq (d := s.start) side.isLt hst hph ho]
      exact rateBegun_fields s.start k
    case eq => exact exec_run_eq (exec_eqTimeout s side) hm (if_neg fun h => h.elim (by omega) fun h => h.elim (fun h => h hst) fun h => h.elim (fun h => h hph) fun h => Bool.noConfusion (heq.symm.trans h))
    case lock => exact exec_run_eq (exec_lockFail s side) hm (if_neg fun h => h.elim (by omega) fun h => h hst)
    case hold => exact ⟨s.start.exchanging k, exec_run_eq (exec_lockHoldDone s side) hm (lockHoldDone_eq side.isLt hst), exchanging_fields ..⟩
    case retry => exact exec_run_eq (exec_portRetry s side v) hm (hostWrite_portRetry s.start side v.toNat h3)
    case resend => exact exec_run_eq (exec_capResend s side) hm (if_neg fun h => h.elim (by omega) fun h => h.elim (fun h => h hst) fun h => by simp [show s.start.flag (R.KSL_PORT_STATUS_MISMATCH side) = true from hmis] at h)
    case doze =>
      intro e
      have he : e.fld (R.KSL_PORT_STATUS_TX_PWR k) = 0 := (advance_fld_ksl _ _ (by simp only [R.KSL_PORT_STATUS_TX_PWR]; omega)).trans hpwr
      have hruns : s.start.dozeIdleExpiry side = e.dozeTx k := if_neg (by
        simp [show s.start.flag (R.KSL_PORT_CFG_DOZE_EN side) = true from hen, show s.start.fld (R.KSL_PORT_STATUS_TX_PWR side) = 0 from hpwr, show s.start.stage side = 5 from hst,
          show (s.start.seamPort side).unacked = [] from hun, show (s.start.seamPort side).waiting = [] from hwait]; omega)
      exact ⟨_, exec_run_eq (exec_dozeIdleExpiry s side) hm hruns, dozeTx_fields he⟩
    case dozing => exact ⟨_, exec_run_eq (exec_dozeReceive s side) hm (if_neg fun h => h.elim (by omega) fun h => h.elim (fun h => h hst) fun h => h hpwr), rxPower_fields s.start k none (by decide)⟩
    case wakes => exact ⟨_, exec_run_eq (exec_wakeDetect s side) hm (if_neg fun h => h.elim (by omega) fun h => h hpwr), rxPower_fields s.start k (some s.dev.time) (by decide)⟩
    case wakeless =>
      refine exec_run_eq (exec_wakeLockTimeout s side) hm ?_
      simp only [Dev.wakeLockTimeout, show (s.start.seamPort side).wakeAt = some t from hwake]
      exact if_neg fun h => h.elim (by omega) fun h => h hst
  case changes =>
    intro k
    refine ⟨?detect, ?train, fun hr => ?slowest, fun hr => ?slower, fun hst => ?goesDown, fun hst hmis => ?retries, fun hwhy => ?retryOnly⟩
    case detect => exact ⟨_, enterDetect_eq d k, detectEntered_fields d side.isLt⟩
    case train => exact enterTrain_fields d k
    case slowest => exact if_pos hr
    case slower => exact if_neg (by omega)
    case goesDown => exact ⟨_, portDown_eq hst, downNoted_fields d side.isLt⟩
    case retries => rw [portRetry_eq, if_pos ⟨hst, hmis⟩]
    case retryOnly =>
      rw [portRetry_eq, if_neg fun h => hwhy.elim (fun hst => hst h.1) fun hmis => Bool.noConfusion (hmis.symm.trans h.2)]

end Sys2Proof.Machine
end

section
/-!
SUPPORT. Shadow groups (R483 to R487): writes of the group registers, claims, the end of a seal, and the statement O39.
-/
namespace Sys2Proof.Machine

/-- A write of a word of GLB by the host. -/
theorem hostWrite_glb (d : Dev) (a v : Nat) (h3 : 3 ≤ d.mode.code) (h4 : a % 4 = 0) (hb : a / 0x100000 = 0) (hd : (findDesc a).isSome = true) : d.hostWrite a v = d.glbWrite 0 a v := by
  rw [hostWrite_eq d _ _ h3, regWrite_glb d 0 a _ h4 hb hd]

theorem hostWrite_shadowOpen (d : Dev) (v : Nat) (h3 : 3 ≤ d.mode.code) : d.hostWrite 0x100 v = d.shadowOpen 0 (bits v 0 5) :=
  hostWrite_glb d 0x100 v h3 (by decide) (by decide) (by decide)
theorem hostWrite_shadowSeal (d : Dev) (v : Nat) (h3 : 3 ≤ d.mode.code) : d.hostWrite 0x104 v = d.shadowSeal 0 (bits v 0 5) :=
  hostWrite_glb d 0x104 v h3 (by decide) (by decide) (by decide)
theorem hostWrite_shadowAbort (d : Dev) (v : Nat) (h3 : 3 ≤ d.mode.code) : d.hostWrite 0x108 v = d.shadowAbort 0 (bits v 0 5) :=
  hostWrite_glb d 0x108 v h3 (by decide) (by decide) (by decide)

theorem hostWrite_tap (d : Dev) (a v : Nat) (h3 : 3 ≤ d.mode.code) (h4 : a % 4 = 0) (ha : inTap a = true) : d.hostWrite a v = d.shadowWrite 0 a v := by
  rw [hostWrite_eq d _ _ h3, Dev.regWrite, if_neg fun h => h h4, if_pos ha]

/-! ### Fields of the groups -/

@[simp] theorem setCfg_fld (d : Dev) (f : CfgState → CfgState) (g : Fld) : (d.setCfg f).fld g = d.fld g := rfl
@[simp] theorem setCfg_cfg (d : Dev) (f : CfgState → CfgState) : (d.setCfg f).cfg = f d.cfg := rfl
@[simp] theorem setCfg_grpState (d : Dev) (f : CfgState → CfgState) (g : Nat) : (d.setCfg f).grpState g = d.grpState g := rfl

/-- The state of a group reads as it was stored. -/
theorem grpState_setState (d : Dev) (g : Nat) {st : Nat} (h : st < 4) : (d.setFld (R.GLB_GROUP_STATE g) st).grpState g = st :=
  fld_setFld_fits _ _ _ ⟨by simp [R.GLB_GROUP_STATE], h⟩

@[simp] theorem glbErr_cfg (d : Dev) (code : Nat) : (d.glbErr code).cfg = d.cfg := Dev.setFld_cfg ..
theorem glbErr_code (d : Dev) {code : Nat} (h : code < 65536) : (d.glbErr code).fld R.GLB_LAST_ERR = code := fld_setFld_fits _ _ _ ⟨by decide, h⟩
theorem glbErr_grpState (d : Dev) (code : Nat) {g : Nat} (hg : g < 32) : (d.glbErr code).grpState g = d.grpState g :=
  fld_setFld_apart _ _ _ _ (apart_of_addr (by simp only [R.GLB_GROUP_STATE, R.GLB_LAST_ERR]; omega) (by simp [R.GLB_GROUP_STATE, R.GLB_LAST_ERR]))

/-! ### SHADOW_OPEN (R483) -/

/-- A group given to a writer. -/
def Dev.groupOpened (d : Dev) (w g : Nat) : Dev := ((d.setFld (R.GLB_GROUP g) 0).setFld (R.GLB_GROUP_STATE g) grpOpen).setFld (R.GLB_GROUP_OWNER g) w

theorem groupOpened_fields (d : Dev) (g : Nat) : let x := d.groupOpened 0 g
    x.grpState g = grpOpen ∧ x.fld (R.GLB_GROUP_OWNER g) = 0 ∧ x.fld (R.GLB_GROUP_WORDS g) = 0 ∧ d.keeps x fun a => a = (R.GLB_GROUP g).addr := by
  have hpart : (d.setFld (R.GLB_GROUP g) 0).fld (R.GLB_GROUP_WORDS g) = 0 := by
    rw [fld_setWord_part (f := R.GLB_GROUP g) (g := R.GLB_GROUP_WORDS g) _ _ ⟨rfl, rfl⟩ rfl (by simp [R.GLB_GROUP_WORDS])]
    simp [bits]
  refine ⟨?_, fld_setFld_fits _ _ _ (by simp [R.GLB_GROUP_OWNER]), ?_, ?_⟩
  · rw [Dev.grpState, Dev.groupOpened, fld_setFld_apart _ _ _ _ (by simp [Fld.apart, R.GLB_GROUP_OWNER, R.GLB_GROUP_STATE])]
    exact grpState_setState _ g (by decide)
  · rw [Dev.groupOpened, fld_setFld_apart _ _ _ _ (by simp [Fld.apart, R.GLB_GROUP_OWNER, R.GLB_GROUP_WORDS]),
      fld_setFld_apart _ _ _ _ (by simp [Fld.apart, R.GLB_GROUP_STATE, R.GLB_GROUP_WORDS]), hpart]
  · exact keeps_trans (keeps_trans (keeps_setFld d (R.GLB_GROUP g) 0 (by simp [R.GLB_GROUP])) (keeps_setFld _ (R.GLB_GROUP_STATE g) _ (by simp [R.GLB_GROUP_STATE])))
      (keeps_setFld _ (R.GLB_GROUP_OWNER g) _ (by simp [R.GLB_GROUP_OWNER]))

/-! ### Writes of TAP words (R484) -/

theorem tapMask_lt (a : Nat) : tapMask a < 2 ^ 32 := by
  unfold tapMask
  dsimp only
  split
  · split <;> decide
  · split <;> decide

/-- A word that a group claims with a value. -/
def Dev.wordClaimed (d : Dev) (a v g : Nat) : Dev := ((d.setShadow a v).setCfg fun x => { x with claims := tset 0 x.claims a (g + 1) }).bump (R.GLB_GROUP_WORDS g)

theorem wordClaimed_fields (d : Dev) (a v g : Nat) : (d.wordClaimed a v g).taps = (d.setShadow a v).taps ∧ tget 0 (d.wordClaimed a v g).cfg.claims a = g + 1 ∧
    (d.wordClaimed a v g).tapsLive = (d.setShadow a v).tapsLive := by
  refine ⟨?_, ?_, ?_⟩
  · rw [Dev.wordClaimed, Dev.bump, Dev.setFld_taps, Dev.setCfg]
  · rw [Dev.wordClaimed, Dev.bump, Dev.setFld_cfg, setCfg_cfg, tget_tset_same]
  · rw [Dev.wordClaimed, Dev.bump, Dev.setFld_tapsLive, Dev.setCfg]

section taps
variable {d : Dev} {a v : Nat} (ha : inTap a = true)
include ha

theorem rwsMask_tap : rwsMask a = tapMask a := if_pos ha

theorem shadowWord_setShadow : (d.setShadow a v).shadowWord a = v &&& tapMask a := by
  have hlt : v &&& tapMask a < 2 ^ 32 := Nat.lt_of_le_of_lt Nat.and_le_right (tapMask_lt a)
  simp only [Dev.setShadow, Dev.shadowWord, ha, if_true, tapWord, tget_tset_same, BitVec.toNat_ofNat, Nat.mod_eq_of_lt hlt]

theorem setShadow_tap : (d.setShadow a v).cfg = d.cfg ∧ (d.setShadow a v).tapsLive = d.tapsLive := by
  rw [Dev.setShadow, if_pos ha]
  exact ⟨rfl, rfl⟩

theorem shadowWord_congr {e : Dev} (h : e.taps = d.taps) : e.shadowWord a = d.shadowWord a := by
  simp only [Dev.shadowWord, ha, if_true, h]

variable (hv : v &&& tapMask a ≠ d.shadowWord a)
include hv

theorem shadowWrite_stray (w : Nat) (hg : d.openGroup w = none) : d.shadowWrite w a v = d.glbEvent R.GLB_EVENTS_STRAY_WRITE 0x8015 := by
  simp only [Dev.shadowWrite, rwsMask_tap ha, if_neg hv, hg]

variable (w : Nat) {g : Nat} (hg : d.openGroup w = some g)
include hg

theorem shadowWrite_conflict (hfree : tget 0 d.cfg.claims a ≠ 0) (hother : tget 0 d.cfg.claims a ≠ g + 1) : d.shadowWrite w a v = d.glbEvent R.GLB_EVENTS_CLAIM_CONFLICT 0x8003 := by
  simp only [Dev.shadowWrite, rwsMask_tap ha, if_neg hv, hg, if_neg hfree, if_neg hother]

/-- A word that is free or of the group takes the value, and is the group's. -/
theorem shadowWrite_claims (hc : tget 0 d.cfg.claims a = 0 ∨ tget 0 d.cfg.claims a = g + 1) : let x := d.shadowWrite w a v
    x.shadowWord a = v &&& tapMask a ∧ tget 0 x.cfg.claims a = g + 1 ∧ x.tapsLive = d.tapsLive := by
  obtain ⟨hcfg, hlive⟩ := setShadow_tap (d := d) (v := v) ha
  have hwrite : d.shadowWrite w a v = if tget 0 d.cfg.claims a = 0 then d.wordClaimed a v g else if tget 0 d.cfg.claims a = g + 1 then d.setShadow a v
      else d.glbEvent R.GLB_EVENTS_CLAIM_CONFLICT 0x8003 := by
    simp only [Dev.shadowWrite, rwsMask_tap ha, if_neg hv, hg, Dev.wordClaimed]
  rcases hc with hc | hc
  · obtain ⟨htaps, hclaims, hkept⟩ := wordClaimed_fields d a v g
    rw [hwrite, if_pos hc]
    exact ⟨(shadowWord_congr ha htaps).trans (shadowWord_setShadow ha), hclaims, hkept.trans hlive⟩
  · rw [hwrite, if_neg (by omega), if_pos hc]
    exact ⟨shadowWord_setShadow ha, by rw [hcfg, hc], hlive⟩

end taps

/-! ### Seals and aborts (R485, R487) -/

/-- The check of a group begins. -/
def Dev.sealBegun (d : Dev) (g : Nat) : Dev :=
  (d.setFld (R.GLB_GROUP_STATE g) grpSealing).setCfg fun x => { x with sealR := { latched := x.sealR.latched }, sealGroup := g }

/-- A seal is refused at once (log 164). -/
def Dev.sealRefused (d : Dev) (g : Nat) : Dev :=
  (d.glbErr 0x8002).setCfg fun x => { x with sealR := { ready := true, fresh := true, status := 0x8002, value := 0, latched := x.sealR.latched }, sealGroup := g }

theorem shadowSeal_eq (d : Dev) (w g : Nat) : d.shadowSeal w g = if d.grpOwned w g ∧ d.grpState g = grpOpen then d.sealBegun g else d.sealRefused g := rfl

theorem sealBegun_fields (d : Dev) (g : Nat) : (d.sealBegun g).grpState g = grpSealing ∧ (d.sealBegun g).cfg.sealR.ready = false ∧ (d.sealBegun g).cfg.sealGroup = g ∧
    (d.sealBegun g).cfg.claims = d.cfg.claims :=
  ⟨grpState_setState d g (by decide), rfl, rfl, by rw [Dev.sealBegun, setCfg_cfg, Dev.setFld_cfg]⟩

theorem sealRefused_fields (d : Dev) (g : Nat) : (d.sealRefused g).fld R.GLB_LAST_ERR = 0x8002 ∧ (d.sealRefused g).cfg.sealR.ready = true ∧ (d.sealRefused g).cfg.sealR.status = 0x8002 ∧
    (d.sealRefused g).cfg.claims = d.cfg.claims :=
  ⟨glbErr_code d (by decide), rfl, rfl, by rw [Dev.sealRefused, setCfg_cfg, glbErr_cfg]⟩

/-- A dropped group is free, and claims nothing. -/
theorem dropGroup_fields (d : Dev) (g : Nat) : (d.dropGroup g).grpState g = grpFree ∧ ∀ c ∈ (d.dropGroup g).cfg.claims, c.2 ≠ g + 1 := by
  refine ⟨?_, fun c hc => ?_⟩
  · rw [Dev.grpState, Dev.dropGroup, Dev.freeGroup, fld_setWord_part (f := R.GLB_GROUP g) (g := R.GLB_GROUP_STATE g) _ _ ⟨rfl, rfl⟩ rfl (by simp [R.GLB_GROUP_STATE])]
    simp [bits, grpFree]
  · rw [Dev.dropGroup, Dev.freeGroup, Dev.setFld_cfg, setCfg_cfg] at hc
    exact of_decide_eq_true (List.mem_filter.mp hc).2

/-- The result of a seal. -/
def Dev.sealResult (d : Dev) (g st v : Nat) : Dev :=
  d.setCfg fun x => { x with sealR := { ready := true, fresh := true, status := st, value := v, latched := x.sealR.latched }, sealGroup := g }

/-- A group that passed its checks. -/
def Dev.groupSealed (d : Dev) (g : Nat) : Dev :=
  (d.setFld (R.GLB_GROUP_STATE g) grpSealed).setCfg fun x => { x with sealAt := tset 0 x.sealAt g (d.time + 1), sealFramed := if d.mode.framed then g :: x.sealFramed else x.sealFramed }

/-- A group that failed a check goes back to its opener. -/
def Dev.groupReturned (d : Dev) (g code : Nat) : Dev :=
  let e := (d.setFld (R.GLB_GROUP_STATE g) grpOpen).setBit R.GLB_EVENTS_SEAL_REFUSED
  if code / 4096 = 8 then e.glbErr code else e

theorem sealEnd_passed {d : Dev} {g : Nat} (h : (d.sealCheck g).2 = none) : ∃ v, (d.sealEnd g).1 = ((d.sealCheck g).1.groupSealed g).sealResult g 0 v := by
  simp only [Dev.sealEnd, h]
  exact ⟨_, rfl⟩

theorem sealEnd_failed {d : Dev} {g code : Nat} (h : (d.sealCheck g).2 = some code) : (d.sealEnd g).1 = ((d.sealCheck g).1.groupReturned g code).sealResult g code 0 := by
  simp only [Dev.sealEnd, h]
  rfl

theorem groupReturned_fields (d : Dev) {g : Nat} (code : Nat) (hg : g < 32) : (d.groupReturned g code).grpState g = grpOpen ∧ (d.groupReturned g code).fld R.GLB_EVENTS_SEAL_REFUSED = 1 := by
  have hstate : ((d.setFld (R.GLB_GROUP_STATE g) grpOpen).setBit R.GLB_EVENTS_SEAL_REFUSED).grpState g = grpOpen := by
    rw [Dev.grpState, setBit_fld, fld_setFld_apart _ _ _ _ (apart_of_addr (by simp only [R.GLB_GROUP_STATE, R.GLB_EVENTS_SEAL_REFUSED]; omega) (by simp [R.GLB_GROUP_STATE, R.GLB_EVENTS_SEAL_REFUSED]))]
    exact grpState_setState d g (by decide)
  have hevent : ((d.setFld (R.GLB_GROUP_STATE g) grpOpen).setBit R.GLB_EVENTS_SEAL_REFUSED).fld R.GLB_EVENTS_SEAL_REFUSED = 1 := by
    rw [setBit_fld, fld_setFld_fits _ _ _ (by decide)]
  unfold Dev.groupReturned
  dsimp only
  split
  · exact ⟨(glbErr_grpState _ code hg).trans hstate, (fld_setFld_apart _ _ _ _ (by decide)).trans hevent⟩
  · exact ⟨hstate, hevent⟩

/-- The end of a host's seal. -/
theorem sealCheckDone_eq {d : Dev} {g : Nat} (hg : g ≠ 31) (hst : d.grpState g = grpSealing) : d.sealCheckDone g = (d.sealEnd g).1 := by
  simp only [Dev.sealCheckDone, hst, ne_eq, not_true_eq_false, if_false, hg, not_false_eq_true, if_true]

/-- Settles O39: claims by `shadowWrite_claims`, and a seal by `sealEnd_passed` and `sealEnd_failed`. -/
theorem shadowGroups : Obligations.ShadowGroups := by
  unfold Obligations.ShadowGroups
  intro s v h3 g busy
  have hm := not_reset h3
  have hg : g < 32 := bits_lt ..
  refine ⟨fun h31 hfree hbusy => ?opens, fun hwhy => ?refuses, fun a h4 ha hv => ⟨fun hnone => ?stray, fun q hq hc => ?claims, fun q hq hfree hother => ?conflict⟩, fun howned hst => ?seals,
    fun hwhy => ?noSeal, fun howned hst => ?aborts, fun k h31 hst => ?ends⟩
  case opens =>
    refine ⟨_, exec_run_eq (exec_shadowOpen s v) hm ((hostWrite_shadowOpen s.start v.toNat h3).trans (if_neg ?_)), groupOpened_fields s.start g⟩
    rintro (⟨hg31, -⟩ | hst | hb)
    · exact h31 hg31
    · exact hst hfree
    · exact Bool.noConfusion (hbusy.symm.trans hb)
  case refuses =>
    refine exec_run_eq (exec_shadowOpen s v) hm ((hostWrite_shadowOpen s.start v.toNat h3).trans (if_pos ?_))
    exact hwhy.imp_left fun h => ⟨h, by decide⟩
  case stray => exact exec_run_eq (exec_shadowWrite s a v) hm ((hostWrite_tap s.start _ _ h3 h4 ha).trans (shadowWrite_stray ha hv 0 hnone))
  case claims =>
    refine completes_run _ (exec_shadowWrite s a v) hm ?_
    rw [hostWrite_tap s.start _ _ h3 h4 ha]
    exact shadowWrite_claims (d := s.start) ha hv 0 hq hc
  case conflict => exact exec_run_eq (exec_shadowWrite s a v) hm ((hostWrite_tap s.start _ _ h3 h4 ha).trans (shadowWrite_conflict ha hv 0 hq hfree hother))
  case seals =>
    exact ⟨_, exec_run_eq (exec_shadowSeal s v) hm ((hostWrite_shadowSeal s.start v.toNat h3).trans ((shadowSeal_eq ..).trans (if_pos ⟨howned, hst⟩))), sealBegun_fields s.start g⟩
  case noSeal =>
    refine ⟨_, exec_run_eq (exec_shadowSeal s v) hm ((hostWrite_shadowSeal s.start v.toNat h3).trans ((shadowSeal_eq ..).trans (if_neg ?_))), sealRefused_fields s.start g⟩
    exact fun h => hwhy.elim (fun hn => Bool.noConfusion (hn.symm.trans h.1)) fun hn => hn h.2
  case aborts => exact ⟨_, exec_run_eq (exec_shadowAbort s v) hm ((hostWrite_shadowAbort s.start v.toNat h3).trans (if_pos ⟨howned, hst⟩)), dropGroup_fields s.start g⟩
  case ends =>
    have hend := sealCheckDone_eq (d := s.start) h31 hst
    cases hcheck : (s.start.sealCheck k).2 with
    | none =>
      obtain ⟨p, hp⟩ := sealEnd_passed hcheck
      exact ⟨_, exec_run_eq (exec_sealCheckDone s k) hm (hend.trans hp), rfl, rfl, fun _ => ⟨grpState_setState _ _ (by decide), rfl⟩, fun code h => absurd h (by simp)⟩
    | some code =>
      obtain ⟨hopen, hevent⟩ := groupReturned_fields (s.start.sealCheck k).1 code k.isLt
      refine ⟨_, exec_run_eq (exec_sealCheckDone s k) hm (hend.trans (sealEnd_failed hcheck)), rfl, rfl, fun h => absurd h (by simp), fun c hc => ?_⟩
      obtain rfl := Option.some.inj hc
      exact ⟨hopen, rfl, hevent⟩

end Sys2Proof.Machine
end

section
/-!
SUPPORT. Requests for modes and commits (R466 to R468, R488), the end of DISCOVER (R469), and the statement O40.
-/
namespace Sys2Proof.Machine

theorem hostWrite_modeReq (d : Dev) (v : Nat) (h3 : 3 ≤ d.mode.code) : d.hostWrite 0x008 v = d.modeRequest (bits v 0 4) .reg :=
  hostWrite_glb d 0x008 v h3 (by decide) (by decide) (by decide)
theorem hostWrite_commitReq (d : Dev) (v : Nat) (h3 : 3 ≤ d.mode.code) : d.hostWrite 0x120 v = d.commitClash.requestCommit (bitOf v 0) (d.fld R.GLB_COMMIT_INDEX) .reg :=
  hostWrite_glb d 0x120 v h3 (by decide) (by decide) (by decide)

/-! ### Requests for modes (R468) -/

/-- A request of MODE_REQ that fails. -/
theorem modeEnd_fields (d : Dev) (t : Nat) {status : Nat} (hpos : status ≠ 0) (hlt : status < 65536) : let x := d.modeEnd t .reg status 0
    x.mode = d.mode ∧ x.fld R.GLB_LAST_ERR = status ∧ x.cfg.modeR.status = status ∧ x.cfg.modeReq = d.cfg.modeReq := by
  simp only [Dev.modeEnd, if_neg hpos]
  exact ⟨Dev.setFld_mode .., glbErr_code _ hlt, by rw [glbErr_cfg, setCfg_cfg], by rw [glbErr_cfg, setCfg_cfg]⟩

/-- A request that is taken. -/
def Dev.modeTaken (d : Dev) (t : Nat) : Dev :=
  (d.setCfg fun x => { x with modeReq := some (t, .reg), modeR := { latched := x.modeR.latched }, modeTarget := t }).setFld R.GLB_MODE_PENDING t

theorem modeTaken_fields (d : Dev) {t : Nat} (ht : t < 16) : (d.modeTaken t).cfg.modeReq = some (t, .reg) ∧ (d.modeTaken t).fld R.GLB_MODE_PENDING = t ∧ (d.modeTaken t).mode = d.mode :=
  ⟨by rw [Dev.modeTaken, Dev.setFld_cfg, setCfg_cfg], fld_setFld_fits _ _ _ ⟨by decide, ht⟩, Dev.setFld_mode ..⟩

section requests
variable {d : Dev} {t : Nat}

theorem modeRequest_refused (h : ∀ m, modeOf t = some m → d.mode.mayRequest m = false) : d.modeRequest t .reg = d.modeEnd t .reg 0x800E 0 := by
  unfold Dev.modeRequest
  dsimp only
  split
  · rfl
  · next m hm => rw [h m hm, Bool.not_false, if_pos rfl]

variable {m : Mode} (hm : modeOf t = some m) (hmay : d.mode.mayRequest m = true)
include hm hmay

/-- Without a request that waits this one is taken, and takes effect but for INSPECT and CALIBRATE. -/
theorem modeRequest_applies (hnone : d.cfg.modeReq = none) (hi : m ≠ .inspect) (hc : m ≠ .calibrate) : d.modeRequest t .reg = (d.modeTaken t).modeApply m := by
  simp only [Dev.modeRequest, hm, hmay, hnone, Bool.not_true, Bool.false_eq_true, if_false, Option.isSome_none, Bool.false_and]
  cases m
  case inspect => exact absurd rfl hi
  case calibrate => exact absurd rfl hc
  all_goals rfl

theorem modeRequest_calibrate (hnone : d.cfg.modeReq = none) (hc : m = .calibrate) : d.modeRequest t .reg = d.modeTaken t := by
  subst hc
  simp only [Dev.modeRequest, hm, hmay, hnone, Bool.not_true, Bool.false_eq_true, if_false, Option.isSome_none, Bool.false_and]
  rfl

/-- One request at a time. -/
theorem modeRequest_busy (hsome : d.cfg.modeReq.isSome = true) (harmed : d.mode ≠ .armed) : d.modeRequest t .reg = d.modeEnd t .reg 0x800F 0 := by
  obtain ⟨r, hr⟩ := Option.isSome_iff_exists.mp hsome
  simp only [Dev.modeRequest, hm, hmay, hr, decide_eq_false harmed, Bool.and_false, Bool.false_and, Bool.not_true, Bool.not_false, Bool.false_eq_true, if_false, Option.isSome_some, Bool.and_true, if_true]

end requests

/-! ### The end of DISCOVER (R469) -/

/-- DISCOVER_TIMEOUT has passed. -/
def Dev.discoverLate (d : Dev) : Dev :=
  ((d.advance (max d.time (d.cfg.discoverAt + usCycles (1000 * max (d.live R.GLB_MODE_CFG_DISCOVER_TIMEOUT) 1)))).setCfg fun x => { x with late := true }).setBit R.GLB_EVENTS_DISCOVER_LATE

theorem discoverLate_fields (d : Dev) : d.discoverLate.cfg.late = true ∧ d.discoverLate.fld R.GLB_EVENTS_DISCOVER_LATE = 1 ∧ d.discoverLate.mode = d.mode := by
  refine ⟨?_, ?_, (timeStep_advance d _).mode⟩
  · exact rfl
  · rw [Dev.discoverLate, setBit_fld, fld_setFld_fits _ _ _ (by decide)]

/-- What is missing of a part that goes on under ALLOW_PARTIAL, but for its position. -/
def Dev.partsMissing (d : Dev) : Dev :=
  let d := d.portsWaited.foldl Dev.portMissing d
  let d := if 0 < d.fld R.KSL_CASCADE_W ∧ !d.sideActive 0 then d.setFld (missingSide 0) 1 else d
  if d.fld R.KSL_CASCADE_W + 1 < d.cascadeSize ∧ !d.sideActive 1 then d.setFld (missingSide 1) 1 else d

/-- A position that is not ready is missing. -/
def Dev.positionMissing (d : Dev) : Dev := if d.posReady then d else d.setFld (Fld.bit R.GLB_MISSING_CAUSE (if d.isSlave then 1 else 0)) 1

theorem discoverTimeout_eq {d : Dev} (hm : d.mode = .discover) (hl : d.cfg.late = false) : d.discoverTimeout =
    if !d.discoverLate.placed then d.discoverLate.glbEvent R.GLB_EVENTS_POSITION_MISMATCH 0x8016
    else if !d.discoverLate.lflag R.GLB_MODE_CFG_ALLOW_PARTIAL then d.discoverLate else d.discoverLate.partsMissing.positionMissing.enterArmed := by
  simp only [Dev.discoverTimeout, hm, hl, ne_eq, not_true_eq_false, Bool.false_eq_true, or_self, if_false]
  rfl

theorem positionMissing_shown (d : Dev) (h : d.positionMissing.posReady = false) : d.positionMissing.fld (Fld.bit R.GLB_MISSING_CAUSE (if d.positionMissing.isSlave then 1 else 0)) = 1 := by
  have hready : ¬ d.posReady = true := fun hr => by rw [Dev.positionMissing, if_pos hr, hr] at h; exact Bool.noConfusion h
  have hslave : d.positionMissing.isSlave = d.isSlave := by
    rw [Dev.positionMissing, if_neg hready, Dev.isSlave, flag_setFld_apart _ _ _ _ (apart_of_addr (by simp [Fld.bit, R.GLB_MISSING_CAUSE, R.POS_STATUS_MASTER])
      ⟨by simp only [Fld.bit, R.GLB_MISSING_CAUSE]; split <;> omega, by decide⟩), Dev.isSlave]
  rw [hslave, Dev.positionMissing, if_neg hready, fld_setFld_fits _ _ _ ⟨by simp only [Fld.bit, R.GLB_MISSING_CAUSE]; split <;> omega, by simp [Fld.bit]⟩]

/-- Settles O40: requests by their outcomes in `modeRequest`, and DISCOVER_TIMEOUT by `discoverTimeout_eq`. -/
theorem modeAndCommitRequests : Obligations.ModeAndCommitRequests := by
  unfold Obligations.ModeAndCommitRequests
  intro s h3
  have hm := not_reset h3
  refine ⟨fun v => ?modes, fun v => ?commits, fun hd hcas hplaced hports hpos => ?ready, fun hd hl => ?timeout⟩
  case modes =>
    intro t
    have hreq : ∀ {x : Dev}, s.start.modeRequest t .reg = x → exec (.modeReqWrite v) s = .next (s.after x) := fun h =>
      exec_run_eq (exec_modeReqWrite s v) hm ((hostWrite_modeReq s.start v.toNat h3).trans h)
    have htaken := modeTaken_fields s.start (t := t) (bits_lt ..)
    refine ⟨fun hno => ⟨_, hreq (modeRequest_refused hno), modeEnd_fields _ _ (by decide) (by decide)⟩, fun m ht hmay hnone hi hc => ⟨_, hreq (modeRequest_applies ht hmay hnone hi hc), htaken⟩,
      fun m ht hmay hnone hc => ⟨_, hreq (modeRequest_calibrate ht hmay hnone hc), htaken⟩, fun m ht hmay hsome harmed => ?_⟩
    obtain ⟨hmode, herr, hstatus, hkept⟩ := modeEnd_fields s.start t (status := 0x800F) (by decide) (by decide)
    exact ⟨_, hreq (modeRequest_busy ht hmay hsome harmed), herr, hstatus, hkept, hmode⟩
  case commits =>
    intro d
    have hreq : ∀ {x : Dev}, d.requestCommit (bitOf v.toNat 0) (s.dev.fld R.GLB_COMMIT_INDEX) .reg = x → exec (.commitReqWrite v) s = .next (s.after x) := fun h =>
      exec_run_eq (exec_commitReqWrite s v) hm ((hostWrite_commitReq s.start v.toNat h3).trans h)
    exact ⟨fun hat => hreq (by rw [hat]; rfl), fun hat => hreq (by rw [hat]; rfl)⟩
  case ready =>
    refine exec_run_eq (exec_discoverReady s) hm ?_
    simp only [Dev.discoverReady, show s.start.mode = .discover from hd, show s.start.flag R.KSL_CASCADE_READY = true from hcas, hplaced, hports, hpos, ne_eq, not_true_eq_false, Bool.not_true,
      Bool.false_eq_true, or_self, if_false]
    rfl
  case timeout =>
    obtain ⟨hlate, hevent, hmode⟩ := discoverLate_fields s.start
    have htimeout : ∀ {x : Dev}, s.start.discoverTimeout = x → exec .discoverTimeout s = .next (s.after x) := exec_run_eq (exec_discoverTimeout s) hm
    have heq := discoverTimeout_eq (d := s.start) hd hl
    refine ⟨s.start.discoverLate, hlate, hevent, hmode.trans hd, fun hp ha => htimeout ?_, fun hp => htimeout ?_, fun hp ha => ⟨_, htimeout ?_, positionMissing_shown s.start.discoverLate.partsMissing⟩⟩
    · rw [heq, hp, ha, Bool.not_true, if_neg Bool.false_ne_true, Bool.not_false, if_pos rfl]
    · rw [heq, hp, Bool.not_false, if_pos rfl]
    · rw [heq, hp, ha, Bool.not_true, if_neg Bool.false_ne_true, if_neg Bool.false_ne_true]

end Sys2Proof.Machine
end

section
/-!
SUPPORT. Clocks and links (R549, R552, R355), the release of reset and the end of the Foyer (R466, R474, R514, R548), and the statement O52.
-/
namespace Sys2Proof.Machine

/-! ### Clocks and links -/

/-- A change of the platform's own state leaves every register. -/
theorem keeps_plat (d : Dev) (p : PlatState) (P : Nat → Prop) : d.keeps { d with plat := p } P := keeps_of_eq P rfl rfl rfl

/-- A clock is noted as lost. -/
def Dev.clockLost (d : Dev) (which : Nat) : Dev := { d with plat := { d.plat with lost := which :: d.plat.lost.filter (· ≠ which) } }

theorem clockLost_fields (d : Dev) (which : Nat) : which ∈ (d.clockLost which).plat.lost ∧ ∀ g : Fld, (d.clockLost which).fld g = d.fld g := ⟨List.mem_cons_self, fun _ => rfl⟩

theorem refclkLoss_eq {d : Dev} (hm : d.mode ≠ .reset) : d.refclkLoss 1 = (((List.range 112).foldl (fun d l => d.laneLol l true 0) d).setFld R.GLB_PLAT_STATUS_LANE_REFCLK_OK 0).clockLost 1 ∧
    d.refclkLoss 2 = (d.linkDown.setFld R.GLB_PLAT_STATUS_PCIE_REFCLK_OK 0).clockLost 2 := by
  simp only [Dev.refclkLoss, Dev.clockLost, if_neg hm, if_true, if_neg (show ¬ 2 = 1 by decide), and_self]

/-- The lane clock's loss shows. -/
theorem refclkLoss_lane {d : Dev} (hm : d.mode ≠ .reset) : (d.refclkLoss 1).fld R.GLB_PLAT_STATUS_LANE_REFCLK_OK = 0 ∧ 1 ∈ (d.refclkLoss 1).plat.lost := by
  rw [(refclkLoss_eq hm).1]
  generalize (List.range 112).foldl (fun d l => d.laneLol l true 0) d = e
  obtain ⟨hlost, hfld⟩ := clockLost_fields (e.setFld R.GLB_PLAT_STATUS_LANE_REFCLK_OK 0) 1
  exact ⟨by rw [hfld, fld_setFld_fits _ _ _ (by decide)], hlost⟩

theorem linkDown_up (d : Dev) : d.linkDown.fld R.GLB_HOST_STATUS_LINK_UP = 0 := fld_setFld_fits _ _ _ (by decide)

theorem refclkLoss_pcie {d : Dev} (hm : d.mode ≠ .reset) : (d.refclkLoss 2).fld R.GLB_PLAT_STATUS_PCIE_REFCLK_OK = 0 ∧ (d.refclkLoss 2).fld R.GLB_HOST_STATUS_LINK_UP = 0 ∧
    2 ∈ (d.refclkLoss 2).plat.lost := by
  rw [(refclkLoss_eq hm).2]
  obtain ⟨hlost, hfld⟩ := clockLost_fields (d.linkDown.setFld R.GLB_PLAT_STATUS_PCIE_REFCLK_OK 0) 2
  exact ⟨by rw [hfld, fld_setFld_fits _ _ _ (by decide)], by rw [hfld, fld_setFld_apart _ _ _ _ (by decide), linkDown_up], hlost⟩

theorem perstAssert_fields {d : Dev} (hm : d.mode ≠ .reset) : d.perstAssert.fld R.GLB_HOST_STATUS_LINK_UP = 0 ∧ d.perstAssert.plat.perst = true := by
  simp only [Dev.perstAssert, if_neg hm]
  exact ⟨linkDown_up d, trivial⟩

/-- The clock that a bit of PLAT_STATUS shows. -/
def clockOk (which : Nat) : Fld := if which = 1 then R.GLB_PLAT_STATUS_LANE_REFCLK_OK else R.GLB_PLAT_STATUS_PCIE_REFCLK_OK

/-- A clock runs again. -/
def Dev.clockBack (d : Dev) (which : Nat) : Dev := { d with plat := { d.plat with lost := d.plat.lost.filter (· ≠ which) } }

theorem refclkRestored_eq {d : Dev} {which : Nat} (hm : d.mode ≠ .reset) (hw : which = 1 ∨ which = 2) : d.refclkRestored which = (d.clockBack which).setFld (clockOk which) 1 := by
  rcases hw with rfl | rfl
  · exact (if_neg hm).trans (if_pos rfl)
  · exact (if_neg hm).trans ((if_neg (by decide)).trans (if_pos rfl))

theorem clockBack_shown (d : Dev) {which : Nat} (hw : which = 1 ∨ which = 2) : let t := (d.clockBack which).setFld (clockOk which) 1
    t.fld (clockOk which) = 1 ∧ which ∉ t.plat.lost ∧ d.keeps t (· = R.GLB_PLAT_STATUS.addr) := by
  have hfit : (clockOk which).addr = R.GLB_PLAT_STATUS.addr ∧ (clockOk which).lo + (clockOk which).w ≤ 32 ∧ 1 < 2 ^ (clockOk which).w := by rcases hw with rfl | rfl <;> decide
  obtain ⟨ha, hlo, hone⟩ := hfit
  refine ⟨fld_setFld_fits _ _ _ ⟨by omega, hone⟩, ?_, ?_⟩
  · rw [Dev.setFld_plat]
    simp [Dev.clockBack]
  · exact ha ▸ keeps_trans (keeps_plat d _ _) (keeps_setFld (d.clockBack which) (clockOk which) 1 hlo)

/-- The link comes up once its clock runs. -/
theorem pcieLinkUp_eq {d : Dev} (h : 2 ∉ d.plat.lost) : d.pcieLinkUp = ({ d with plat := { d.plat with perst := false } } : Dev).setFld R.GLB_HOST_STATUS_LINK_UP 1 :=
  if_neg (by simpa using h)

/-! ### The release of reset (R548, R474) -/

/-- A list of stripes shows EMITTING (log 33). -/
def Dev.emitShown (d : Dev) (ns : List Nat) : Dev := ns.foldl (fun d n => d.setFlag (R.STR_LBL_STATUS_EMITTING n) true) d

@[simp] theorem emitShown_mode (ns : List Nat) : ∀ d : Dev, (d.emitShown ns).mode = d.mode := foldl_unchanged Dev.mode (fun _ _ => Dev.setFld_mode ..) ns

theorem emitShown_before (ns : List Nat) {g : Fld} (hg : g.addr + 4 < 0x1002800) (d : Dev) : (d.emitShown ns).fld g = d.fld g :=
  foldl_unchanged (fun e => e.fld g) (fun _ n => fld_setFld_apart _ (R.STR_LBL_STATUS_EMITTING n) _ _
    (.inl ⟨by simp only [R.STR_LBL_STATUS_EMITTING]; omega, .inr (by simp only [R.STR_LBL_STATUS_EMITTING]; omega), .inr (by simp only [R.STR_LBL_STATUS_EMITTING]; omega)⟩)) ns d

theorem emitShown_emitting (n : Nat) (ns : List Nat) : ∀ d : Dev, n ∈ ns ∨ d.fld (R.STR_LBL_STATUS_EMITTING n) = 1 → (d.emitShown ns).fld (R.STR_LBL_STATUS_EMITTING n) = 1 := by
  unfold Dev.emitShown
  induction ns with
  | nil => exact fun d h => h.resolve_left (by simp)
  | cons e ns ih =>
    intro d h
    refine ih _ ?_
    by_cases hne : n = e
    · subst hne
      exact .inr (fld_setFld_fits _ _ _ (by simp [R.STR_LBL_STATUS_EMITTING, b2n]))
    · have hkept : (d.setFlag (R.STR_LBL_STATUS_EMITTING e) true).fld (R.STR_LBL_STATUS_EMITTING n) = d.fld (R.STR_LBL_STATUS_EMITTING n) :=
        fld_setFld_apart _ _ _ _ (apart_of_addr (by simp only [R.STR_LBL_STATUS_EMITTING]; omega) (by simp [R.STR_LBL_STATUS_EMITTING]))
      rw [hkept]
      exact h.imp_left fun hm => (List.mem_cons.mp hm).resolve_left hne

/-- The part as it enters FOYER, before the cascade is counted. -/
def Dev.released (d : Dev) : Dev :=
  let e := (((d.setMode .foyer).setFlag R.GLB_PLAT_STATUS_LANE_REFCLK_OK (!d.plat.lost.contains 1)).setFlag R.GLB_PLAT_STATUS_PCIE_REFCLK_OK (!d.plat.lost.contains 2)).emitShown (List.range 16)
  (e.setStripe 16 1).setFld (R.TST_UCODE_SEQ 16) e.cfg.ucode

theorem setStripe_fld (d : Dev) (n st : Nat) {g : Fld} (hs : (R.TST_STRIPE_STATE_STATE n).apart g) (hr : R.TST_ROT_STATUS_SPARE_READY.apart g) : (d.setStripe n st).fld g = d.fld g :=
  (fld_setFld_apart _ _ _ _ hr).trans (fld_setFld_apart _ _ _ _ hs)

theorem setStripe_state (d : Dev) {n st : Nat} (hn : n < 17) (hst : st < 8) : (d.setStripe n st).stripeState n = st := by
  simp only [Dev.stripeState, Dev.setStripe, Dev.setFlag]
  rw [fld_setFld_apart _ _ _ _ (apart_of_addr (by simp only [R.TST_STRIPE_STATE_STATE, R.TST_ROT_STATUS_SPARE_READY]; omega) (by simp [R.TST_STRIPE_STATE_STATE, R.TST_ROT_STATUS_SPARE_READY])),
    fld_setFld_fits _ _ _ ⟨by simp [R.TST_STRIPE_STATE_STATE], hst⟩]

theorem released_clocks (d : Dev) : d.released.fld R.GLB_PLAT_STATUS_LANE_REFCLK_OK = b2n (!d.plat.lost.contains 1) ∧
    d.released.fld R.GLB_PLAT_STATUS_PCIE_REFCLK_OK = b2n (!d.plat.lost.contains 2) := by
  have hbit : ∀ b : Bool, b2n b < 2 ^ 1 := fun b => by cases b <;> decide
  have hkept : ∀ (e : Dev) (v : Nat) (g : Fld), g.addr = R.GLB_PLAT_STATUS.addr ∧ g.lo + g.w ≤ 32 → (((e.emitShown (List.range 16)).setStripe 16 1).setFld (R.TST_UCODE_SEQ 16) v).fld g = e.fld g :=
    fun e v g ⟨ha, hw⟩ => by
      have ha' : g.addr = 0xB04 := ha
      rw [fld_setFld_apart _ _ _ _ (apart_of_addr (by rw [ha]; decide) ⟨by decide, hw⟩), setStripe_fld _ _ _ (apart_of_addr (by rw [ha]; decide) ⟨by decide, hw⟩)
        (apart_of_addr (by rw [ha]; decide) ⟨by decide, hw⟩), emitShown_before _ (by omega)]
  refine ⟨?_, ?_⟩
  · simp only [Dev.released, Dev.setFlag]
    rw [hkept _ _ _ (by decide), fld_setFld_apart _ _ _ _ (by decide), fld_setFld_fits _ _ _ ⟨by decide, hbit _⟩]
  · simp only [Dev.released, Dev.setFlag]
    rw [hkept _ _ _ (by decide), fld_setFld_fits _ _ _ ⟨by decide, hbit _⟩]

theorem released_stripes (d : Dev) : d.released.stripeState 16 = 1 ∧ ∀ n, n < 16 → d.released.fld (R.STR_LBL_STATUS_EMITTING n) = 1 := by
  refine ⟨?_, fun n hn => ?_⟩
  · rw [Dev.stripeState, Dev.released, fld_setFld_apart _ _ _ _ (by decide)]
    exact setStripe_state _ (by decide) (by decide)
  · have hfar : ∀ f : Fld, f.addr < 0x1002800 ∧ f.lo + f.w ≤ 32 → f.apart (R.STR_LBL_STATUS_EMITTING n) := fun f ⟨ha, hw⟩ =>
      apart_of_addr (by simp only [R.STR_LBL_STATUS_EMITTING]; omega) ⟨hw, by simp [R.STR_LBL_STATUS_EMITTING]⟩
    rw [Dev.released, fld_setFld_apart _ _ _ _ (hfar _ (by decide)), setStripe_fld _ _ _ (hfar _ (by decide)) (hfar _ (by decide))]
    exact emitShown_emitting n _ _ (.inl (List.mem_range.mpr hn))

theorem released_mode (d : Dev) : d.released.mode = (d.setMode .foyer).mode := by simp [Dev.released, Dev.setStripe, Dev.setFlag]

theorem resetRelease_eq {d : Dev} (trained : List Nat) (hm : d.mode = .reset) : d.resetRelease trained = d.released.recount.foyerSteps trained := by
  simp only [Dev.resetRelease, Dev.released, Dev.emitShown, hm, ne_eq, not_true_eq_false, if_false]

/-! ### The end of the Foyer (R474, R514) -/

section foyer
variable {d : Dev} (hm : d.mode = .foyer)
include hm

theorem foyerComplete_bad (hbad : d.cfg.foyerBad = true) : d.foyerComplete = d.setMode .recovery := (if_neg fun h => h hm).trans (if_pos hbad)

variable (hgood : d.cfg.foyerBad = false)
include hgood

/-- Without a recipe on trial. -/
theorem foyerComplete_plain (ht : d.rec_ 89 1 % 2 = 0) : d.foyerComplete = if d.bootRecipe.2 = true then
    (if d.bootRecipe.1.unhealthy.rec_ 17 1 % 2 = 1 then d.bootRecipe.1.unhealthy.enterDiscover else d.bootRecipe.1.unhealthy.setMode .standby)
    else (d.bootRecipe.1.glbErr 0x8011).setMode .recovery := by
  have htrial : ¬ d.rec_ 89 1 % 2 = 1 := by omega
  simp only [Dev.foyerComplete, hm, hgood, htrial, ne_eq, not_true_eq_false, Bool.false_eq_true, if_false, decide_false]

/-- With one. -/
theorem foyerComplete_trial (ht : d.rec_ 89 1 % 2 = 1) : let t := (d.bootRecipe.1.recordWrite (recipeConfirmed d.bootRecipe.1.svc.record) none).1.unhealthy
    d.foyerComplete = if d.bootRecipe.2 = true then (if t.rec_ 17 1 % 2 = 1 then t.enterDiscover else t.setMode .standby)
    else ((((d.bootRecipe.1.recordWrite (recipeGivenUp d.bootRecipe.1.svc.record) none).1.svcErr 0x600F).raise R.SVC_EVENTS_FALLBACK).warmReset none) := by
  simp only [Dev.foyerComplete, hm, hgood, ht, ne_eq, not_true_eq_false, Bool.false_eq_true, if_false, decide_true, if_true]

end foyer

/-- Settles O52: clocks and links by what each loss shows, the release by the state before the recount, and the Foyer's end by the boot recipe's outcome. -/
theorem platformEvents : Obligations.PlatformEvents := by
  unfold Obligations.PlatformEvents
  refine ⟨fun s hm => ⟨fun hframed => ?watchdog, ?sram⟩, fun s hm => ⟨?lane, ?pcie, ?perst, ?laneBack, ?pcieBack, fun hclock => ?linkUp⟩,
    fun s => ⟨fun trained => ⟨fun hm => ?notReset, fun hm => ?release⟩, fun hm hbad => ?failed, fun hm hgood ht => ?plain, fun hm hgood ht => ?trial⟩⟩
  case watchdog =>
    refine completes_run _ (exec_watchdogExpiry s) hm ?_
    rw [Dev.watchdogExpiry, if_pos (show s.start.mode.framed = true from hframed)]
    exact ⟨rfl, keeps_of_eq _ rfl rfl rfl⟩
  case sram => exact completes_run _ (exec_sramUe s) hm ⟨rfl, keeps_of_eq _ rfl rfl rfl⟩
  case lane => exact completes_always _ (exec_laneRefclkLoss s) (refclkLoss_lane hm)
  case pcie => exact completes_always _ (exec_pcieRefclkLoss s) (refclkLoss_pcie hm)
  case perst => exact completes_always _ (exec_perstNAssert s) (perstAssert_fields hm)
  case laneBack =>
    refine completes_always _ (exec_refclkRestored s true) ?_
    rw [if_pos rfl, refclkRestored_eq (d := s.start) hm (.inl rfl)]
    exact clockBack_shown s.start (.inl rfl)
  case pcieBack =>
    refine completes_always _ (exec_refclkRestored s false) ?_
    rw [if_neg Bool.false_ne_true, refclkRestored_eq (d := s.start) hm (.inr rfl)]
    exact clockBack_shown s.start (.inr rfl)
  case linkUp =>
    refine ⟨_, exec_run_eq (exec_pcieLinkUp s) hm (pcieLinkUp_eq hclock), fld_setFld_fits _ _ _ (by decide), by rw [Dev.setFld_plat], ?_⟩
    exact keeps_trans (keeps_plat s.start _ _) (keeps_setFld _ R.GLB_HOST_STATUS_LINK_UP 1 (by decide))
  case notReset => rw [exec_resetRelease, always_eq, Dev.resetRelease, if_pos (show s.start.mode ≠ .reset from hm)]
  case release =>
    obtain ⟨hlane, hpcie⟩ := released_clocks s.start
    obtain ⟨hspare, hemit⟩ := released_stripes s.start
    refine ⟨s.start.released, ?_, released_mode _, hlane, hpcie, hspare, hemit⟩
    rw [exec_resetRelease, always_eq, resetRelease_eq (d := s.start) _ hm]
  case failed => exact exec_run_eq (exec_foyerComplete s) (by rw [hm]; decide) (foyerComplete_bad hm hbad)
  case plain =>
    intro e
    have hend : ∀ {x : Dev}, s.start.foyerComplete = x → exec .foyerComplete s = .next (s.after x) := exec_run_eq (exec_foyerComplete s) (by rw [hm]; decide)
    have heq := foyerComplete_plain (d := s.start) hm hgood ht
    exact ⟨fun hno => hend (by rw [heq, if_neg (by rw [hno]; decide)]), fun hok hrun => hend (by rw [heq, if_pos hok, if_pos hrun]), fun hok hstay => hend (by rw [heq, if_pos hok, if_neg hstay])⟩
  case trial =>
    intro e
    have hend : ∀ {x : Dev}, s.start.foyerComplete = x → exec .foyerComplete s = .next (s.after x) := exec_run_eq (exec_foyerComplete s) (by rw [hm]; decide)
    have heq := foyerComplete_trial (d := s.start) hm hgood ht
    refine ⟨fun hno => hend (by rw [heq, if_neg (by rw [hno]; decide)]), fun hok => ?_⟩
    intro t
    exact hend (by rw [heq, if_pos hok])

end Sys2Proof.Machine
end

section
/-!
SUPPORT. Messages of the Porch (R500 to R506): what comes in, what is answered, the turn of a session, and the statement O58.
-/
namespace Sys2Proof.Machine

@[simp] theorem setSvc_regs (d : Dev) (f : SvcState → SvcState) : (d.setSvc f).regs = d.regs := rfl
@[simp] theorem setSvc_fld (d : Dev) (f : SvcState → SvcState) (g : Fld) : (d.setSvc f).fld g = d.fld g := rfl
@[simp] theorem setSvc_svc (d : Dev) (f : SvcState → SvcState) : (d.setSvc f).svc = f d.svc := rfl

/-! ### What comes in (R502, R503) -/

section incoming
variable {d : Dev} {p : Peer} {raw : List Byte} (t : Nat) (body : Ksp → Dev → Dev)

theorem porchIn_none (h : d.message p raw = none) : d.porchIn p raw t body = d := by
  unfold Dev.message at h
  unfold Dev.porchIn
  split at h
  · next hup => simp only [hup, Bool.not_true, Bool.false_eq_true, if_false, h]
  · next hup => exact if_pos (by simpa using hup)

variable {q : Ksp}

theorem porchIn_some (h : d.message p raw = some q) : d.porchIn p raw t body = if q.response then d else if d.mode = .foyer ∧ q.type ≠ 1 then d
    else if !kspListed q.type then d.answer p q 0x6005 [] else if q.type ≠ t then d else body q d := by
  unfold Dev.message at h
  split at h
  · next hup => simp only [Dev.porchIn, hup, Bool.not_true, Bool.false_eq_true, if_false, h]
  · exact absurd h (by simp)

/-- A request of one TYPE is taken. -/
theorem porchIn_requests {t : Nat} (h : d.requests p raw t q) (hl : kspListed t = true) : d.porchIn p raw t body = body q d := by
  obtain ⟨hmsg, hresp, htype, hfoyer⟩ := h
  have hin : ¬ (d.mode = .foyer ∧ q.type ≠ 1) := fun hf => hf.2 (htype.trans (hfoyer hf.1))
  rw [porchIn_some t body hmsg, hresp, if_neg Bool.false_ne_true, if_neg hin, htype, hl, Bool.not_true, if_neg Bool.false_ne_true, if_neg fun h => h rfl]

end incoming

/-! ### Requests of a session (R503, R506) -/

/-- What becomes of a request while a session is open. -/
def Dev.sessionTakes (d : Dev) (p : Peer) (q : Ksp) (se : Session) (least : Nat) (body : Ksp → Dev → Dev) : Dev :=
  if !q.tagged ∨ q.session ≠ se.id ∨ q.tag ≠ (hmac se.key q.signed).take 16 then d.answer p q 0x6004 []
  else if q.seq = se.seq ∧ se.response ≠ [] then (d.setSvc fun x => { x with session := some { se with lastAt := d.time } }).porchSend p se.response
  else if q.seq ≠ (se.seq + 1) % 2 ^ 32 then d
  else if q.payload.length < least then (d.turn q se).reply p q 0x6005 [] else body q (d.turn q se)

section session
variable {d : Dev} {p : Peer} {raw : List Byte} {t : Nat} (least : Nat) (body : Ksp → Dev → Dev) {q : Ksp} (hq : d.requests p raw t q) (hl : kspListed t = true)
include hq hl

theorem inSession_none (hs : d.svc.session = none) : d.inSession p raw t least body = d.answer p q 0x6004 [] := by
  rw [Dev.inSession, porchIn_requests _ hq hl]
  simp only [hs]

theorem inSession_some {se : Session} (hs : d.svc.session = some se) : d.inSession p raw t least body = d.sessionTakes p q se least body := by
  rw [Dev.inSession, porchIn_requests _ hq hl]
  simp only [hs]
  rfl

end session

section takes
variable {d : Dev} {p : Peer} {q : Ksp} {se : Session} {least : Nat} (body : Ksp → Dev → Dev)

theorem sessionTakes_bad (h : q.tagged = false ∨ q.session ≠ se.id ∨ q.tag ≠ (hmac se.key q.signed).take 16) : d.sessionTakes p q se least body = d.answer p q 0x6004 [] :=
  if_pos (h.imp_left fun h => by rw [h]; rfl)

variable (htag : q.tagged = true) (hid : q.session = se.id) (hproof : q.tag = (hmac se.key q.signed).take 16)
include htag hid hproof

theorem sessionTakes_good : d.sessionTakes p q se least body =
    if q.seq = se.seq ∧ se.response ≠ [] then (d.setSvc fun x => { x with session := some { se with lastAt := d.time } }).porchSend p se.response
    else if q.seq ≠ (se.seq + 1) % 2 ^ 32 then d
    else if q.payload.length < least then (d.turn q se).reply p q 0x6005 [] else body q (d.turn q se) :=
  if_neg (by simp [htag, hid, hproof])

/-- The next request of the session has its turn. -/
theorem sessionTakes_next (hseq : q.seq = (se.seq + 1) % 2 ^ 32) : d.sessionTakes p q se least body =
    if q.payload.length < least then (d.turn q se).reply p q 0x6005 [] else body q (d.turn q se) := by
  have hnew : ¬ (q.seq = se.seq ∧ se.response ≠ []) := by omega
  rw [sessionTakes_good body htag hid hproof, if_neg hnew, if_neg fun h => h hseq]

end takes

/-- A request in its turn is carried out (R506). -/
theorem inSession_turn {d : Dev} {p : Peer} {raw : List Byte} {t least : Nat} {q : Ksp} {se : Session} (body : Ksp → Dev → Dev) (h : d.inTurn p raw t least q se) (hl : kspListed t = true) :
    d.inSession p raw t least body = body q (d.turn q se) := by
  obtain ⟨hq, hs, htag, hid, hproof, hseq, hlen⟩ := h
  rw [inSession_some least body hq hl hs, sessionTakes_next body htag hid hproof hseq, if_neg (Nat.not_lt.mpr hlen)]

/-- A response is stored for a repetition. -/
theorem reply_stored {d : Dev} {p : Peer} {q : Ksp} (status : Nat) (payload : List Byte) {se : Session} (hs : d.svc.session = some se) (hseq : se.seq = q.seq) :
    d.reply p q status payload = ((d.setSvc fun x => { x with session := some { se with response := kspResponse q status payload (some se.key) } }).noteCode status).porchSend p
      (kspResponse q status payload (some se.key)) := by
  simp only [Dev.reply, hs, hseq, if_true]

/-- Settles O58: bytes by `porchIn_some`, the session's requests by `sessionTakes`. -/
theorem porchMessages : Obligations.PorchMessages := by
  unfold Obligations.PorchMessages
  intro d p raw t least body
  refine ⟨porchIn_none t body, fun q hmsg => ⟨fun hresp => ?response, fun hfoyer htype => ?foyer, fun hresp hfoyer hl => ?unlisted, fun hresp hfoyer hl htype => ?taken⟩,
    fun q hq hl => ⟨inSession_none least body hq hl, fun se hs => ⟨fun hbad => ?bad, fun htag hid hproof => ⟨fun hseq hresp => ?again, fun hold hseq => ?dropped, fun hseq hlen => ?short, fun hseq hlen => ?next⟩⟩⟩,
    fun q status payload se hs hseq => ?reply, fun bs => rfl⟩
  case response => rw [porchIn_some t body hmsg, if_pos hresp]
  case foyer => rw [porchIn_some t body hmsg, if_pos (c := d.mode = .foyer ∧ q.type ≠ 1) ⟨hfoyer, htype⟩, ite_self]
  case unlisted => rw [porchIn_some t body hmsg, hresp, if_neg Bool.false_ne_true, if_neg fun hf => hf.2 (hfoyer hf.1), hl, Bool.not_false, if_pos rfl]
  case taken => exact porchIn_requests body ⟨hmsg, hresp, htype, fun hf => htype ▸ hfoyer hf⟩ (htype ▸ hl)
  case bad => rw [inSession_some least body hq hl hs, sessionTakes_bad body hbad]
  case again =>
    refine ⟨d.setSvc fun x => { x with session := some { se with lastAt := d.time } }, ?_, rfl, rfl⟩
    rw [inSession_some least body hq hl hs, sessionTakes_good body htag hid hproof, if_pos ⟨hseq, hresp⟩]
  case dropped =>
    rw [inSession_some least body hq hl hs, sessionTakes_good body htag hid hproof, if_neg fun h => hold.elim (fun hn => hn h.1) h.2, if_pos hseq]
  case short => rw [inSession_some least body hq hl hs, sessionTakes_next body htag hid hproof hseq, if_pos hlen]
  case next => rw [inSession_some least body hq hl hs, sessionTakes_next body htag hid hproof hseq, if_neg (Nat.not_lt.mpr hlen)]
  case reply => exact ⟨_, reply_stored status payload hs hseq, rfl, rfl, rfl⟩

end Sys2Proof.Machine
end

section
/-!
SUPPORT. Sessions of the Porch (R498, R503 to R507): HELLO, OPEN, the session's requests, and the statement O59.
-/
namespace Sys2Proof.Machine

/-! ### HELLO and OPEN (R506, R507) -/

/-- The nonce of a HELLO is drawn and kept. -/
def Dev.nonceDrawn (d : Dev) : Dev :=
  ({ d with draws := d.draws + 1 } : Dev).setSvc fun x => { x with nonce := some (leBytes 32 (Config.random d.draws).toNat, d.time, d.devicePlace) }

/-- HELLO's answer carries the place, the mode, the keys and the nonce. -/
theorem hello_eq {d : Dev} {p : Peer} {raw : List Byte} {q : Ksp} (hq : d.requests p raw 1 q) : ∃ rest : List Byte, d.hello p raw = d.nonceDrawn.answer p q 0
    (leBytes 4 d.devicePlace ++ leBytes 1 d.mode.code ++ leBytes 1 (b2n Config.secureBoot + 2 * b2n Config.keySet) ++ rest ++ leBytes 32 (Config.random d.draws).toNat) := by
  refine ⟨leBytes 1 (d.nonceDrawn.fld R.GLB_BOOT_FW_SLOT) ++ [0] ++ leBytes 4 (d.nonceDrawn.rec_ 8 4) ++ d.nonceDrawn.versionText, ?_⟩
  rw [Dev.hello, porchIn_requests _ hq (by decide)]
  simp only [← List.append_assoc]
  rfl

/-- An OPEN whose proof fails. -/
def Dev.authFailed (d : Dev) : Dev := (d.setSvc fun x => { x with nonce := none }).raise R.SVC_EVENTS_AUTH_FAIL

theorem authFailed_fields (d : Dev) : d.authFailed.svc.nonce = none ∧ d.authFailed.svc.session = d.svc.session ∧ d.authFailed.flag R.SVC_EVENTS_AUTH_FAIL = true := by
  refine ⟨?_, ?_, flag_of_fld_one (raise_fld _ _ (by decide) rfl (not_chanCount (by decide)))⟩
  all_goals rw [Dev.authFailed, Dev.raise_svc, setSvc_svc]

/-- The host's proof in an OPEN (R507). -/
def openProof (q : Ksp) (nonceD : List Byte) (place : Nat) : List Byte := hmac serviceKey (label "HOST" ++ nonceD ++ slice q.payload 0 32 ++ leBytes 4 place)

/-- The session that an OPEN asks for. -/
def Dev.sessionAsked (d : Dev) (p : Peer) (q : Ksp) (nonceD : List Byte) : Session :=
  { transport := p.transport, id := 1 + leNat (leBytes 32 (Config.random d.draws).toNat) % (2 ^ 32 - 1), key := hmac serviceKey (label "KSP1" ++ nonceD ++ slice q.payload 0 32),
    service := bitOf (leAt q.payload 64 1) 0, lastAt := d.time }

/-- The session is open. -/
def Dev.sessionOpened (d : Dev) (se : Session) : Dev :=
  ((({ d with draws := d.draws + 1 } : Dev).setSvc fun x => { x with session := some se }).setFld R.SVC_STATUS_SESSION se.transport).raise R.SVC_EVENTS_SESSION_OPEN

theorem sessionOpened_fields (d : Dev) (se : Session) : (d.sessionOpened se).svc.session = some se ∧ (d.sessionOpened se).fld R.SVC_STATUS_SESSION = se.transport % 4 ∧
    (d.sessionOpened se).flag R.SVC_EVENTS_SESSION_OPEN = true := by
  refine ⟨?_, ?_, flag_of_fld_one (raise_fld _ _ (by decide) rfl (not_chanCount (by decide)))⟩
  · rw [Dev.sessionOpened, Dev.raise_svc, Dev.setFld_svc, setSvc_svc]
  · rw [Dev.sessionOpened, raise_fld_apart _ _ _ (by decide) (by decide), fld_setFld_same _ _ _ (by decide)]
    rfl

/-- What follows the checks of an OPEN: its proof. -/
def Dev.openProved (d : Dev) (p : Peer) (q : Ksp) : Dev :=
  match d.nonceNow with
  | none => d.authFailed.openRefused p q 0x6001
  | some (nonceD, place) =>
    if slice q.payload 32 32 ≠ openProof q nonceD place then d.authFailed.openRefused p q 0x6001 else
    let se := d.sessionAsked p q nonceD
    let f := (d.sessionOpened se).answer p q 0 (leBytes 4 se.id ++ hmac serviceKey (label "DEVC" ++ slice q.payload 0 32 ++ nonceD))
    if se.service then f.modeRequest 10 .reg else f

theorem openSession_eq {d : Dev} {p : Peer} {raw : List Byte} {q : Ksp} (hq : d.requests p raw 2 q) : d.openSession p raw = if q.payload.length < 68 then d.openRefused p q 0x6005
    else if d.svc.session.isSome then d.openRefused p q 0x6003 else if !Config.keySet && Config.secureBoot then d.openRefused p q 0x6002 else d.openProved p q := by
  rw [Dev.openSession, porchIn_requests _ hq (by decide)]
  rfl

theorem openProved_fails {d : Dev} (p : Peer) (q : Ksp) (h : d.nonceNow = none ∨ ∃ (nonceD : List Byte) (place : Nat), d.nonceNow = some (nonceD, place) ∧ slice q.payload 32 32 ≠ openProof q nonceD place) :
    d.openProved p q = d.authFailed.openRefused p q 0x6001 := by
  rcases h with h | ⟨nonceD, place, h, hproof⟩
  · simp only [Dev.openProved, h]
  · simp only [Dev.openProved, h, if_pos hproof]

theorem openProved_opens {d : Dev} (p : Peer) (q : Ksp) {nonceD : List Byte} {place : Nat} (h : d.nonceNow = some (nonceD, place)) (hproof : slice q.payload 32 32 = openProof q nonceD place) :
    let se := d.sessionAsked p q nonceD
    let f := (d.sessionOpened se).answer p q 0 (leBytes 4 se.id ++ hmac serviceKey (label "DEVC" ++ slice q.payload 0 32 ++ nonceD))
    d.openProved p q = if se.service then f.modeRequest 10 .reg else f := by
  simp only [Dev.openProved, h, hproof, ne_eq, not_true_eq_false, if_false]

/-! ### The session's requests (R503 to R505) -/

/-- A read of words, in order. -/
def Dev.wordsRead (d : Dev) (a n : Nat) : List Byte × Dev :=
  (List.range n).foldl (fun (x : List Byte × Dev) i => (x.1 ++ leBytes 4 (x.2.read4 true (a + 4 * i)).1, (x.2.read4 true (a + 4 * i)).2)) ([], d)

section turns
variable {d : Dev} {p : Peer} {raw : List Byte} {q : Ksp} {se : Session}

/-- The turn changes the session alone. -/
theorem turn_porchReaches (d : Dev) (q : Ksp) (se : Session) (write : Bool) (a n : Nat) : (d.turn q se).porchReaches write a n = d.porchReaches write a n := rfl
theorem turn_flashBusy (d : Dev) (q : Ksp) (se : Session) : (d.turn q se).flashBusy = d.flashBusy := rfl

theorem closeMsg_eq (h : d.inTurn p raw 3 0 q se) : d.closeMsg p raw = ((d.turn q se).reply p q 0 []).sessionClose := inSession_turn _ h (by decide)
theorem keepalive_eq (h : d.inTurn p raw 4 0 q se) : d.keepalive p raw = (d.turn q se).reply p q 0 [] := inSession_turn _ h (by decide)

theorem statusMsg_eq (h : d.inTurn p raw 0x10 0 q se) : ∃ rest : List Byte, d.statusMsg p raw = (d.turn q se).reply p q 0 (leBytes 1 d.mode.code ++ leBytes 1 (d.fld R.SVC_STATUS_UPD_STATE) ++
    leBytes 1 (d.fld R.SVC_STATUS_TARGET) ++ rest ++ (leBytes 4 (d.fld R.GLB_EPOCH) ++ leBytes 8 (d.fld R.GLB_FINGERPRINT) ++ leBytes 2 (d.fld R.SVC_LAST_ERR) ++ zeros 6)) := by
  refine ⟨leBytes 1 (match d.svc.download with | some x => x.slot | none => 0) ++ leBytes 1 (d.slotState 0) ++ leBytes 1 (d.slotState 1) ++ leBytes 1 (d.rec_ 15 1) ++ leBytes 1 (d.rec_ 16 1) ++
    leBytes 2 ((d.turn q se).readWord 0x00C00010) ++ leBytes 2 (d.rec_ 90 2), ?_⟩
  rw [Dev.statusMsg, inSession_turn _ h (by decide)]
  simp only [← List.append_assoc]
  rfl

theorem regReadMsg_eq (h : d.inTurn p raw 0x11 6 q se) : let a := leAt q.payload 0 4; let n := leAt q.payload 4 2
    d.regReadMsg p raw = if a % 4 ≠ 0 ∨ n = 0 ∨ 256 < n then (d.turn q se).reply p q 0x6005 [] else if !d.porchReaches false a n then (d.turn q se).reply p q 0x6010 []
      else ((d.turn q se).wordsRead a n).2.reply p q 0 ((d.turn q se).wordsRead a n).1 := by
  rw [Dev.regReadMsg, inSession_turn _ h (by decide)]
  rfl

theorem regWriteMsg_eq (h : d.inTurn p raw 0x12 8 q se) : let a := leAt q.payload 0 4; let n := (q.payload.length - 4) / 4
    d.regWriteMsg p raw = if a % 4 ≠ 0 ∨ q.payload.length % 4 ≠ 0 ∨ 256 < n then (d.turn q se).reply p q 0x6005 [] else if !d.porchReaches true a n then (d.turn q se).reply p q 0x6010 []
      else (List.range n).foldl (fun d i => d.regWrite 1 (a + 4 * i) (leAt q.payload (4 + 4 * i) 4)) ((d.turn q se).reply p q 0 []) := by
  rw [Dev.regWriteMsg, inSession_turn _ h (by decide)]
  rfl

theorem logRead_eq (h : d.inTurn p raw 0x13 6 q se) : let o := leAt q.payload 0 4; let n := leAt q.payload 4 2
    d.logRead p raw = if n < 4 ∨ 1024 < n ∨ n % 4 ≠ 0 ∨ 0x400000 < o + n then (d.turn q se).reply p q 0x6005 []
      else (d.turn q se).reply p q 0 ((List.range n).map fun i => Config.logByte d.log.length (o + i)) := by
  rw [Dev.logRead, inSession_turn _ h (by decide)]
  rfl

theorem kspReset_eq (h : d.inTurn p raw 0x14 4 q se) : d.kspReset p raw = if leAt q.payload 0 4 ≠ 0x52535421 then (d.turn q se).reply p q 0x6005 []
    else if d.mode.framed then (d.turn q se).reply p q 0x600E [] else if d.flashBusy then (d.turn q se).reply p q 0x6009 [] else ((d.turn q se).reply p q 0 []).warmReset (some 3) := by
  rw [Dev.kspReset, inSession_turn _ h (by decide)]
  rfl

end turns

/-- The check of a register read or write. -/
theorem ite_reached {a b c : Dev} {P : Prop} [Decidable P] {r : Bool} (hp : ¬ P) : (r = false → (if P then a else if !r then b else c) = b) ∧ (r = true → (if P then a else if !r then b else c) = c) := by
  cases r <;> simp [hp]

/-! ### The network (R498) -/

theorem arpRequest_eq {d : Dev} {ip : Nat} (hm : d.mode ≠ .reset) (hup : d.flag R.SVC_STATUS_LINK_UP = true) (hip : ip ≠ 0) :
    d.arpRequest ip = if ip = d.fld R.SVC_IP then d.emit (.arpReply ip d.macAddress) else d := by
  have hporch : d.porchUp 1 = true := by simp [Dev.porchUp, hm, hup]
  simp only [Dev.arpRequest, hporch, Bool.true_and, decide_eq_true hip, Bool.and_true, decide_eq_true_eq]

/-- Settles O59: HELLO and OPEN by their answers, a session's requests by what each does in its turn. -/
theorem porchSessions : Obligations.PorchSessions := by
  unfold Obligations.PorchSessions
  intro s p raw q hm
  refine ⟨fun hq => ?hello, fun hq => ?opens, fun se => ?turns, fun se hs => ?idle, fun ip hup hip => ?arp, fun up => ?link⟩
  case hello =>
    obtain ⟨rest, hrest⟩ := hello_eq hq
    exact ⟨_, rest, exec_run_eq (exec_hello s p raw) hm hrest, rfl, rfl⟩
  case opens =>
    have hopen : ∀ {x : Dev}, s.start.openSession p raw = x → exec (.openSession p raw) s = .next (s.after x) := exec_run_eq (exec_openSession s p raw) hm
    have heq := openSession_eq hq
    refine ⟨fun hlen => hopen ?_, fun hlen hs => hopen ?_, fun hlen hs hkey hsecure => hopen ?_, fun hlen hs hkey => ?_⟩
    · rw [heq, if_pos hlen]
    · rw [heq, if_neg (Nat.not_lt.mpr hlen), if_pos (c := s.start.svc.session.isSome = true) (Option.isSome_iff_ne_none.mpr hs)]
    · rw [heq, if_neg (Nat.not_lt.mpr hlen), show s.start.svc.session = none from hs, hkey, hsecure]
      rfl
    · have hkeys : ¬ (!Config.keySet && Config.secureBoot) = true := by rcases hkey with h | h <;> simp [h]
      have hproved : s.start.openSession p raw = s.start.openProved p q := by
        rw [heq, if_neg (Nat.not_lt.mpr hlen), show s.start.svc.session = none from hs, Option.isSome_none, if_neg Bool.false_ne_true, if_neg hkeys]
      refine ⟨fun hwhy => ?_, fun nonceD place hnonce hproof => ?_⟩
      · obtain ⟨hnonce, hsession, hevent⟩ := authFailed_fields s.start
        exact ⟨_, hopen (hproved.trans (openProved_fails p q hwhy)), hnonce, hsession.trans hs, hevent⟩
      · intro id service
        obtain ⟨hsession, hshown, hevent⟩ := sessionOpened_fields s.start (s.start.sessionAsked p q nonceD)
        exact ⟨_, hsession, hshown, hevent, hopen (hproved.trans (openProved_opens p q hnonce hproof))⟩
  case turns =>
    intro e
    refine ⟨fun h => ?close, fun h => ?keep, fun h => ?status, fun h => ?read, fun h => ?write, fun h => ?log, fun h => ?reset⟩
    case close => exact exec_run_eq (exec_closeSession s p raw) hm (closeMsg_eq h)
    case keep => exact exec_run_eq (exec_keepalive s p raw) hm (keepalive_eq h)
    case status =>
      obtain ⟨rest, hrest⟩ := statusMsg_eq h
      exact ⟨rest, exec_run_eq (exec_status s p raw) hm hrest⟩
    case read =>
      intro a n
      have hread : ∀ {x : Dev}, s.start.regReadMsg p raw = x → exec (.regRead p raw) s = .next (s.after x) := exec_run_eq (exec_regRead s p raw) hm
      refine ⟨fun hbad => hread ((regReadMsg_eq h).trans (if_pos hbad)), fun h4 hpos hmax => ?_⟩
      have hgood : ¬ (a % 4 ≠ 0 ∨ n = 0 ∨ 256 < n) := by omega
      exact ⟨fun hr => hread ((regReadMsg_eq h).trans ((ite_reached hgood).1 hr)), fun hr => hread ((regReadMsg_eq h).trans ((ite_reached hgood).2 hr))⟩
    case write =>
      intro a n
      have hwrite : ∀ {x : Dev}, s.start.regWriteMsg p raw = x → exec (.regWrite p raw) s = .next (s.after x) := exec_run_eq (exec_regWrite s p raw) hm
      refine ⟨fun hbad => hwrite ((regWriteMsg_eq h).trans (if_pos hbad)), fun h4 hlen hmax => ?_⟩
      have hgood : ¬ (a % 4 ≠ 0 ∨ q.payload.length % 4 ≠ 0 ∨ 256 < n) := by omega
      exact ⟨fun hr => hwrite ((regWriteMsg_eq h).trans ((ite_reached hgood).1 hr)), fun hr => hwrite ((regWriteMsg_eq h).trans ((ite_reached hgood).2 hr))⟩
    case log =>
      intro o n
      have hlog : ∀ {x : Dev}, s.start.logRead p raw = x → exec (.logRead p raw) s = .next (s.after x) := exec_run_eq (exec_logRead s p raw) hm
      exact ⟨fun hbad => hlog ((logRead_eq h).trans (if_pos hbad)), fun hmin hmax h4 hend => hlog ((logRead_eq h).trans (if_neg (by omega)))⟩
    case reset =>
      have hreset : ∀ {x : Dev}, s.start.kspReset p raw = x → exec (.kspReset p raw) s = .next (s.after x) := exec_run_eq (exec_kspReset s p raw) hm
      have heq := kspReset_eq h
      refine ⟨fun hkey => hreset ?_, fun hkey hf => hreset ?_, fun hkey hf hbusy => hreset ?_, fun hkey hf hbusy => hreset ?_⟩
      · rw [heq, if_pos hkey]
      · rw [heq, if_neg fun h => h hkey, if_pos (c := s.start.mode.framed = true) hf]
      · rw [heq, if_neg fun h => h hkey, show s.start.mode.framed = false from hf, if_neg Bool.false_ne_true, if_pos hbusy]
      · rw [heq, if_neg fun h => h hkey, show s.start.mode.framed = false from hf, if_neg Bool.false_ne_true, hbusy, if_neg Bool.false_ne_true]
  case idle =>
    refine exec_run_eq (exec_sessionIdleTimeout s) hm ?_
    simp only [Dev.sessionTimeout, show s.start.svc.session = some se from hs]
  case arp =>
    have harp := arpRequest_eq (d := s.start) hm hup hip
    exact ⟨fun h => exec_run_eq (exec_arpRequest s ip) hm (harp.trans (if_pos h)), fun h => exec_run_eq (exec_arpRequest s ip) hm (harp.trans (if_neg h))⟩
  case link => exact completes_run _ (exec_ethernetLinkChange s up) hm ⟨flag_setFlag_same _ _ _ (by decide) rfl, keeps_setFld s.start R.SVC_STATUS_LINK_UP _ (by decide)⟩

end Sys2Proof.Machine
end

section
/-!
SUPPORT. Updates over the Porch (R508 to R512, R514): downloads, blocks, verification, activation, trials, and the statement O60.
-/
namespace Sys2Proof.Machine

/-! ### UPD_BEGIN (R508) -/

section begins
variable (d : Dev) (p : Peer) (q : Ksp)

/-- A download of another slot is held. -/
def Dev.otherHeld (target slot : Nat) : Bool := match d.svc.download with | some x => !(decide (x.target = target) && decide (x.slot = slot)) | none => false

/-- The same download is held. -/
def Dev.sameHeld (target slot len : Nat) (digest : List Byte) : Bool :=
  match d.svc.download with | some x => !d.otherHeld target slot && decide (x.len = len) && decide (x.digest = digest) | none => false

/-- The slot of a new download becomes EMPTY in the record. -/
def Dev.slotEmptied (target slot : Nat) (held : Option (List Byte)) : Dev × Bool :=
  if target = 0 then d.recordWrite (putAt d.recordBase (13 + slot) [0]) held else (d, true)

/-- A download begins. -/
def Dev.downloadBegun (target slot len : Nat) (digest : List Byte) : Dev :=
  ((d.setSvc fun x => { x with download := some { target := target, slot := slot, len := len, digest := digest }, verifying := none }).setFld R.SVC_STATUS_TARGET target).setUpd (if len = 0 then 2 else 1)

theorem downloadBegun_fields (target slot len : Nat) (digest : List Byte) : let f := d.downloadBegun target slot len digest
    f.svc.download = some { target := target, slot := slot, len := len, digest := digest } ∧ f.svc.verifying = none ∧ f.fld R.SVC_STATUS_UPD_STATE = (if len = 0 then 2 else 1) ∧ f.flashLog = d.flashLog := by
  unfold Dev.downloadBegun Dev.setUpd
  refine ⟨by rw [Dev.setFld_svc, Dev.setFld_svc, setSvc_svc], by rw [Dev.setFld_svc, Dev.setFld_svc, setSvc_svc], fld_setFld_fits _ _ _ ⟨by decide, by split <;> decide⟩, ?_⟩
  rw [Dev.setFld_flashLog, Dev.setFld_flashLog]
  rfl

/-- A new download has no block in flash. -/
theorem downloadBegun_blocks (target slot len : Nat) (digest : List Byte) : (d.downloadBegun target slot len digest).blocksMap = leBytes 48 0 := by
  rw [Dev.blocksMap, (downloadBegun_fields d target slot len digest).1]
  rfl

/-- A download begins anew. -/
def Dev.beginAnew (target slot len : Nat) (digest : List Byte) (held : Option (List Byte)) : Dev :=
  let w := d.slotEmptied target slot held
  if !w.2 then w.1.reply p q 0x600D [] else (w.1.downloadBegun target slot len digest).reply p q 0 ([0, 0, 0, 0] ++ (w.1.downloadBegun target slot len digest).blocksMap)

/-- UPD_BEGIN for a slot that may take the image. -/
def Dev.beginAt (target slot len : Nat) (digest : List Byte) (held : Option (List Byte)) : Dev :=
  if d.otherHeld target slot then d.reply p q 0x6009 []
  else if d.sameHeld target slot len digest then d.reply p q 0 ([1, 0, 0, 0] ++ d.blocksMap)
  else d.beginAnew p q target slot len digest held

theorem otherHeld_some {x : Download} (hx : d.svc.download = some x) (target slot : Nat) : d.otherHeld target slot = !(decide (x.target = target) && decide (x.slot = slot)) := by
  simp only [Dev.otherHeld, hx]

theorem sameHeld_some {x : Download} (hx : d.svc.download = some x) (target slot len : Nat) (digest : List Byte) :
    d.sameHeld target slot len digest = (!d.otherHeld target slot && decide (x.len = len) && decide (x.digest = digest)) := by
  simp only [Dev.sameHeld, hx]

variable {d} {target slot len : Nat} {digest : List Byte} (held : Option (List Byte))

theorem beginAt_other {x : Download} (hx : d.svc.download = some x) (hother : ¬ (x.target = target ∧ x.slot = slot)) : d.beginAt p q target slot len digest held = d.reply p q 0x6009 [] := by
  rw [Dev.beginAt, if_pos]
  rw [otherHeld_some d hx, ← Bool.decide_and, decide_eq_false hother]
  rfl

/-- The same download again is resumed. -/
theorem beginAt_same {x : Download} (hx : d.svc.download = some x) (ht : x.target = target) (hs : x.slot = slot) (hl : x.len = len) (hd : x.digest = digest) :
    d.beginAt p q target slot len digest held = d.reply p q 0 ([1, 0, 0, 0] ++ leBytes 48 ((x.blocks.map fun b => 2 ^ b).sum)) := by
  have hother : d.otherHeld target slot = false := by simp [otherHeld_some d hx, ht, hs]
  have hsame : d.sameHeld target slot len digest = true := by simp [sameHeld_some d hx, hother, hl, hd]
  simp only [Dev.beginAt, hother, hsame, Bool.false_eq_true, if_false, if_true, Dev.blocksMap, hx]

/-- No download, or another image for the slot, makes a new download. -/
theorem beginAt_anew (h : ∀ x : Download, d.svc.download = some x → x.target = target ∧ x.slot = slot ∧ ¬ (x.len = len ∧ x.digest = digest)) :
    d.beginAt p q target slot len digest held = d.beginAnew p q target slot len digest held := by
  have hneither : d.otherHeld target slot = false ∧ d.sameHeld target slot len digest = false := by
    cases hx : d.svc.download with
    | none => exact ⟨by simp only [Dev.otherHeld, hx], by simp only [Dev.sameHeld, hx]⟩
    | some x =>
      obtain ⟨ht, hs, hdiffers⟩ := h x hx
      have hother : d.otherHeld target slot = false := by simp [otherHeld_some d hx, ht, hs]
      exact ⟨hother, by rw [sameHeld_some d hx, hother, Bool.not_false, Bool.true_and, ← Bool.decide_and, decide_eq_false hdiffers]⟩
  rw [Dev.beginAt, hneither.1, hneither.2]
  rfl

theorem slotEmptied_record (ht : target = 0) : d.slotEmptied target slot held = d.recordWrite (putAt d.recordBase (13 + slot) [0]) held := if_pos ht

/-- The record of a firmware slot is not written: no download begins. -/
theorem beginAnew_lost (ht : target = 0) (hw : (d.recordWrite (putAt d.recordBase (13 + slot) [0]) held).2 = false) :
    d.beginAnew p q target slot len digest held = (d.recordWrite (putAt d.recordBase (13 + slot) [0]) held).1.reply p q 0x600D [] := by
  simp only [Dev.beginAnew, slotEmptied_record held ht, hw, Bool.not_false, if_true]

/-- The download as it begins. -/
def Dev.begunAnew (d : Dev) (target slot len : Nat) (digest : List Byte) (held : Option (List Byte)) : Dev := (d.slotEmptied target slot held).1.downloadBegun target slot len digest

theorem beginAnew_begun (hok : target ≠ 0 ∨ (d.recordWrite (putAt d.recordBase (13 + slot) [0]) held).2 = true) :
    d.beginAnew p q target slot len digest held = (d.begunAnew target slot len digest held).reply p q 0 ([0, 0, 0, 0] ++ leBytes 48 0) := by
  have hw : (d.slotEmptied target slot held).2 = true := by
    unfold Dev.slotEmptied
    split
    · next ht => exact hok.resolve_left (not_not.mpr ht)
    · rfl
  simp only [Dev.beginAnew, hw, Bool.not_true, Bool.false_eq_true, if_false, downloadBegun_blocks, Dev.begunAnew]

theorem begunAnew_fields (d : Dev) (target slot len : Nat) (digest : List Byte) (held : Option (List Byte)) : let f := d.begunAnew target slot len digest held
    f.svc.download = some { target := target, slot := slot, len := len, digest := digest } ∧ f.svc.verifying = none ∧ f.fld R.SVC_STATUS_UPD_STATE = (if len = 0 then 2 else 1) ∧
      f.flashLog = if target = 0 then (d.recordWrite (putAt d.recordBase (13 + slot) [0]) held).1.flashLog else d.flashLog := by
  obtain ⟨hdownload, hverifying, hstate, hflash⟩ := downloadBegun_fields (d.slotEmptied target slot held).1 target slot len digest
  refine ⟨hdownload, hverifying, hstate, hflash.trans ?_⟩
  unfold Dev.slotEmptied
  split <;> rfl

end begins

section turns
variable {d : Dev} {p : Peer} {raw : List Byte} {q : Ksp} {se : Session}

theorem updBegin_eq (h : d.inTurn p raw 0x20 40 q se) (held : Option (List Byte)) :
    let target := leAt q.payload 0 1; let slot := leAt q.payload 1 1; let len := leAt q.payload 4 4; let e := d.turn q se
    d.updBegin p raw held = if 2 < target ∨ (if target = 1 then 3 else 1) < slot then e.reply p q 0x6005 [] else if !d.slotInactive target slot then e.reply p q 0x6006 []
      else if (target = 0 ∧ (d.slotState 0 = 2 ∨ d.slotState 1 = 2)) ∨ (target = 1 ∧ d.rec_ 89 1 % 2 = 1) then e.reply p q 0x6007 [] else if (slotPlace target slot).2 < len then e.reply p q 0x6008 []
      else e.beginAt p q target slot len (slice q.payload 8 32) held := by
  rw [Dev.updBegin, inSession_turn _ h (by decide)]
  rfl

/-- What an answer to UPD_DATA depends on. -/
def Download.whole (x : Download) (b : Nat) : Bool := x.blocks.contains b || (x.staged.contains b && x.full b)
def Download.begun (x : Download) : List Nat := x.staged.filter fun c => !x.full c

/-- A chunk is staged. -/
def Dev.chunkStaged (d : Dev) (x : Download) (c : Nat) (bs : List Byte) : Dev := d.setSvc fun s => { s with download := some { x with chunks := tset [] x.chunks c bs } }

section data
variable (h : d.inTurn p raw 0x21 9 q se)
include h

theorem updData_none (hx : d.svc.download = none) : d.updData p raw = (d.turn q se).reply p q 0x6009 [] := by
  rw [Dev.updData, inSession_turn _ h (by decide)]
  simp only [show (d.turn q se).svc.download = none from hx]

theorem updData_some {x : Download} (hx : d.svc.download = some x) : let o := leAt q.payload 0 4; let bs := q.payload.drop 8
    d.updData p raw = if o % 1024 ≠ 0 ∨ 1024 < bs.length ∨ x.len < o + bs.length then (d.turn q se).reply p q 0x6005 []
      else if x.whole (o / 65536) then (d.turn q se).reply p q 0 [] else if !x.begun.contains (o / 65536) ∧ 4 ≤ x.begun.length then (d.turn q se).reply p q 0x600A []
      else ((d.turn q se).chunkStaged x (o / 1024) bs).reply p q 0 [] := by
  rw [Dev.updData, inSession_turn _ h (by decide)]
  simp only [show (d.turn q se).svc.download = some x from hx]
  rfl

end data

/-! ### Verification and activation (R510, R512) -/

section verify
variable (h : d.inTurn p raw 0x23 0 q se)
include h

/-- The verification starts once all blocks are in flash. -/
theorem updVerify_starts {x : Download} (hx : d.svc.download = some x) (hdone : x.blocks.length = x.blockCount) (hnone : d.svc.verifying = none) :
    d.updVerify p raw = ((d.turn q se).setSvc fun z => { z with verifying := some (p, q.seq) }).setFld R.SVC_STATUS_UPD_STATE 3 := by
  have hready : x.done = true ∧ (d.turn q se).svc.verifying.isNone = true := ⟨decide_eq_true hdone, by rw [show (d.turn q se).svc.verifying = none from hnone]; rfl⟩
  rw [Dev.updVerify, inSession_turn _ h (by decide)]
  simp only [show (d.turn q se).svc.download = some x from hx, if_pos hready]
  rfl

theorem updVerify_refused (hwhy : d.svc.download = none ∨ ∃ x : Download, d.svc.download = some x ∧ x.blocks.length ≠ x.blockCount) : d.updVerify p raw = (d.turn q se).reply p q 0x6009 [] := by
  rw [Dev.updVerify, inSession_turn _ h (by decide)]
  rcases hwhy with hx | ⟨x, hx, hleft⟩
  · simp only [show (d.turn q se).svc.download = none from hx]
  · simp only [show (d.turn q se).svc.download = some x from hx, Download.done, decide_eq_false hleft, Bool.false_eq_true, false_and, if_false]

end verify

/-- The record that UPD_ACTIVATE writes. -/
def activated (base : List Byte) (x : Download) (boots : Nat) : List Byte :=
  if x.target = 0 then putAt (putAt (putAt base (13 + x.slot) [2]) 12 (leBytes 1 x.slot)) 15 (leBytes 1 boots) else putAt (putAt (putAt base 88 (slice base 16 1)) 16 (leBytes 1 x.slot)) 89 [1]

section activate
variable (h : d.inTurn p raw 0x24 1 q se) (held : Option (List Byte))
include h

theorem updActivate_none (hx : d.svc.download = none) : d.updActivate p raw held = (d.turn q se).reply p q 0x6009 [] := by
  rw [Dev.updActivate, inSession_turn _ h (by decide)]
  simp only [show (d.turn q se).svc.download = none from hx]

theorem updActivate_some {x : Download} (hx : d.svc.download = some x) : let boots := leAt q.payload 0 1; let w := (d.turn q se).recordWrite (activated d.recordBase x boots) held
    d.updActivate p raw held = if d.fld R.SVC_STATUS_UPD_STATE ≠ 4 ∨ x.target = 2 then (d.turn q se).reply p q 0x6009 []
      else if boots = 0 ∨ 7 < boots then (d.turn q se).reply p q 0x6005 [] else w.1.reply p q (if w.2 then 0 else 0x600D) [] := by
  rw [Dev.updActivate, inSession_turn _ h (by decide)]
  simp only [show (d.turn q se).svc.download = some x from hx]
  rfl

end activate

theorem updQuery_eq (h : d.inTurn p raw 0x22 0 q se) : d.updQuery p raw = (d.turn q se).reply p q 0 ([0, 0, 0, 0] ++ d.blocksMap) := inSession_turn _ h (by decide)

theorem updAbort_eq (h : d.inTurn p raw 0x25 0 q se) : d.updAbort p raw =
    ((((d.turn q se).setSvc fun z => { z with download := none, verifying := none }).setFld R.SVC_STATUS_UPD_STATE 0).setFld R.SVC_STATUS_TARGET 0).reply p q 0 [] := inSession_turn _ h (by decide)

end turns

/-! ### Blocks (R509) -/

/-- Fill a block with 0xFF to its 64 KiB. -/
def blockFilled (bs : List Byte) : List Byte := bs ++ List.replicate (65536 - bs.length) (0xFF : Byte)

/-- What a block holds that the flash did not take. -/
def blockHeld (bs : List Byte) : List Byte := bs.take 65536 ++ List.replicate (65536 - bs.length) (0xFF : Byte)

/-- A download with a block in flash. -/
def Download.written (x : Download) (b : Nat) : Download := { x with chunks := x.chunks.filter (fun c => decide (c.1 / 64 ≠ b)), blocks := b :: x.blocks.filter (· ≠ b) }

def Download.blockAddr (x : Download) (b : Nat) : Nat := (slotPlace x.target x.slot).1 + 65536 * b

/-- The block is in flash. -/
def Dev.blockTaken (d : Dev) (x : Download) (b : Nat) : Dev :=
  (d.flashFill (x.blockAddr b) 65536 (blockFilled (x.blockBytes b))).setSvc fun s => { s with download := some (x.written b) }

/-- The flash holds something else: the download is given up. -/
def Dev.blockLost (d : Dev) (x : Download) (b : Nat) (got : List Byte) : Dev :=
  ((((d.flashFill (x.blockAddr b) 65536 got).setSvc fun s => { s with download := none }).setUpd 5).svcErr 0x600D).raise R.SVC_EVENTS_FLASH_FAIL

section blocks
variable {d : Dev} {x : Download} {b : Nat} (hx : d.svc.download = some x) (hfull : (x.staged.contains b && x.full b) = true)
include hx hfull

theorem blockWritten_taken : d.blockWritten b none = if (x.written b).blocks.length = (x.written b).blockCount then (d.blockTaken x b).setUpd 2 else d.blockTaken x b := by
  simp only [Dev.blockWritten, hx, hfull, Bool.not_true, Bool.false_eq_true, if_false, ne_eq, not_true_eq_false]
  rfl

theorem blockWritten_lost {held : List Byte} (hgot : blockHeld held ≠ blockFilled (x.blockBytes b)) : d.blockWritten b (some held) = d.blockLost x b (blockHeld held) := by
  unfold blockHeld blockFilled at hgot
  simp only [Dev.blockWritten, hx, hfull, Bool.not_true, Bool.false_eq_true, if_false, if_pos hgot]
  rfl

end blocks

theorem blockTaken_fields (d : Dev) (x : Download) (b : Nat) :
    (d.blockTaken x b).svc.download = some (x.written b) ∧ (d.blockTaken x b).flashLog = (x.blockAddr b, 65536, blockFilled (x.blockBytes b)) :: d.flashLog ∧ (d.blockTaken x b).regs = d.regs := ⟨rfl, rfl, rfl⟩

theorem blockLost_fields (d : Dev) (x : Download) (b : Nat) (got : List Byte) : let t := d.blockLost x b got
    t.svc.download = none ∧ t.flashLog = (x.blockAddr b, 65536, got) :: d.flashLog ∧ t.fld R.SVC_STATUS_UPD_STATE = 5 ∧ t.fld R.SVC_LAST_ERR = 0x600D ∧ t.flag R.SVC_EVENTS_FLASH_FAIL = true := by
  unfold Dev.blockLost Dev.svcErr Dev.setUpd
  refine ⟨?_, ?_, ?_, ?_, flag_of_fld_one (raise_fld _ _ (by decide) rfl (not_chanCount (by decide)))⟩
  · rw [Dev.raise_svc, Dev.setFld_svc, Dev.setFld_svc, setSvc_svc]
  · rw [Dev.raise_flashLog, Dev.setFld_flashLog, Dev.setFld_flashLog]
    rfl
  · rw [raise_fld_apart _ _ _ (by decide) (by decide), fld_setFld_apart _ _ _ _ (by decide), fld_setFld_fits _ _ _ (by decide)]
  · rw [raise_fld_apart _ _ _ (by decide) (by decide), fld_setFld_fits _ _ _ (by decide)]

/-! ### The end of a verification (R510) -/

/-- The code of a verification's end. -/
def verifyCode (check : Nat) : Nat := if check = 0 then 0 else if check = 4 then 0x600C else 0x600B

/-- What a verification shows. -/
def Dev.verifyShown (d : Dev) (check : Nat) : Dev :=
  let d := d.setSvc fun s => { s with verifying := none }
  if check = 0 then (d.setUpd 4).raise R.SVC_EVENTS_VERIFIED else (d.setUpd 5).noteCode (verifyCode check)

/-- A recipe that passed is in the recipe store. -/
def Dev.recipeStored (d : Dev) (x : Download) (check : Nat) (bs : List Byte) : Dev :=
  if check = 0 ∧ x.target = 1 then (d.setCfg fun c => { c with recipes := tset [] c.recipes x.slot bs }).setFld (Fld.bit R.GLB_BOOT_RECIPES x.slot) 1 else d

/-- The verification's end, before its answer. -/
def Dev.verified (d : Dev) (x : Download) (bs : List Byte) : Dev := (d.verifyShown (updCheck x bs)).recipeStored x (updCheck x bs) bs

theorem verifyShown_fields (d : Dev) (check : Nat) : (d.verifyShown check).svc = { d.svc with verifying := none } ∧ (d.verifyShown check).fld R.SVC_STATUS_UPD_STATE = (if check = 0 then 4 else 5) ∧
    (check = 0 → (d.verifyShown check).flag R.SVC_EVENTS_VERIFIED = true) ∧ (check ≠ 0 → (d.verifyShown check).fld R.SVC_LAST_ERR = verifyCode check) ∧ (d.verifyShown check).cfg = d.cfg := by
  unfold Dev.verifyShown Dev.setUpd
  dsimp only
  by_cases hc : check = 0
  · rw [if_pos hc, if_pos hc]
    refine ⟨?_, ?_, fun _ => flag_of_fld_one (raise_fld _ _ (by decide) rfl (not_chanCount (by decide))), fun h => absurd hc h, ?_⟩
    · rw [Dev.raise_svc, Dev.setFld_svc, setSvc_svc]
    · rw [raise_fld_apart _ _ _ (by decide) (by decide), fld_setFld_fits _ _ _ (by decide)]
    · rw [Dev.raise_cfg, Dev.setFld_cfg]
      rfl
  · have hcode : 0x6000 ≤ verifyCode check ∧ verifyCode check < 0x7000 := by
      rw [verifyCode, if_neg hc]
      split <;> decide
    rw [if_neg hc, if_neg hc, Dev.noteCode, if_pos hcode, Dev.svcErr]
    refine ⟨?_, ?_, fun h => absurd h hc, fun _ => fld_setFld_fits _ _ _ ⟨by decide, by simp only [R.SVC_LAST_ERR]; omega⟩, ?_⟩
    · rw [Dev.setFld_svc, Dev.setFld_svc, setSvc_svc]
    · rw [fld_setFld_apart _ _ _ _ (by decide), fld_setFld_fits _ _ _ (by decide)]
    · rw [Dev.setFld_cfg, Dev.setFld_cfg]
      rfl

/-- Storing a recipe leaves the words of SVC. -/
theorem recipeStored_fields (d : Dev) (x : Download) (check : Nat) (bs : List Byte) : (d.recipeStored x check bs).svc = d.svc ∧ (∀ g : Fld, 0xC00000 ≤ g.addr → (d.recipeStored x check bs).fld g = d.fld g) ∧
    (check = 0 → x.target = 1 → (d.recipeStored x check bs).cfg.recipes = tset [] d.cfg.recipes x.slot bs) := by
  unfold Dev.recipeStored
  split
  · refine ⟨by rw [Dev.setFld_svc]; rfl, fun g hg => ?_, fun _ _ => by rw [Dev.setFld_cfg, setCfg_cfg]⟩
    have ha : (Fld.bit R.GLB_BOOT_RECIPES x.slot).addr + 4 < 0xC00000 := by simp [Fld.bit, R.GLB_BOOT_RECIPES]
    exact fld_setFld_apart _ _ _ _ (.inl ⟨by omega, .inr (by omega), .inr (by omega)⟩)
  · next hno => exact ⟨rfl, fun _ _ => rfl, fun hc ht => absurd ⟨hc, ht⟩ hno⟩

theorem verified_fields (d : Dev) (x : Download) (bs : List Byte) : let t := d.verified x bs
    t.svc = { d.svc with verifying := none } ∧ t.fld R.SVC_STATUS_UPD_STATE = (if updCheck x bs = 0 then 4 else 5) ∧ (updCheck x bs = 0 → t.flag R.SVC_EVENTS_VERIFIED = true) ∧
      (updCheck x bs ≠ 0 → t.fld R.SVC_LAST_ERR = verifyCode (updCheck x bs)) ∧ (updCheck x bs = 0 → x.target = 1 → t.cfg.recipes = tset [] d.cfg.recipes x.slot bs) := by
  obtain ⟨hsvc, hstate, hevent, herr, hcfg⟩ := verifyShown_fields d (updCheck x bs)
  obtain ⟨hsame, hfld, hrecipes⟩ := recipeStored_fields (d.verifyShown (updCheck x bs)) x (updCheck x bs) bs
  refine ⟨hsame.trans hsvc, (hfld _ (by decide)).trans hstate, fun h => (flag_congr (hfld _ (by decide))).trans (hevent h), fun h => (hfld _ (by decide)).trans (herr h), fun hc ht => ?_⟩
  rw [Dev.verified, hrecipes hc ht, hcfg]

/-- The answer to UPD_VERIFY, where a session is open. -/
def Dev.verifyAnswer (d : Dev) (p : Peer) (seq check : Nat) : Dev :=
  match d.svc.session with
  | some z => d.reply p { type := 0x23, response := false, tagged := true, session := z.id, seq := seq, payload := [], signed := [], tag := [] } (verifyCode check) (leBytes 2 check)
  | none => d

theorem verifyAnswer_none {d : Dev} (hz : d.svc.session = none) (p : Peer) (seq check : Nat) : d.verifyAnswer p seq check = d := by
  simp only [Dev.verifyAnswer, hz]

theorem verifyAnswer_some {d : Dev} {z : Session} (hz : d.svc.session = some z) (p : Peer) (seq check : Nat) : d.verifyAnswer p seq check =
    d.reply p { type := 0x23, response := false, tagged := true, session := z.id, seq := seq, payload := [], signed := [], tag := [] } (verifyCode check) (leBytes 2 check) := by
  simp only [Dev.verifyAnswer, hz]

theorem updVerifyDone_eq {d : Dev} {x : Download} {p : Peer} {seq : Nat} (hx : d.svc.download = some x) (hv : d.svc.verifying = some (p, seq)) :
    let bs := d.flashImage (slotPlace x.target x.slot).1 (slotPlace x.target x.slot).2
    d.updVerifyDone = (d.verified x bs).verifyAnswer p seq (updCheck x bs) := by
  simp only [Dev.updVerifyDone, hx, hv]
  rfl

theorem verified_session (d : Dev) (x : Download) (bs : List Byte) : (d.verified x bs).svc.session = d.svc.session := by rw [(verified_fields d x bs).1]

/-! ### Trials (R514) -/

/-- The slot that runs is GOOD. -/
def Dev.slotConfirmed (d : Dev) (held : Option (List Byte)) : Dev × Bool := d.recordWrite (putAt d.svc.record (13 + d.fld R.GLB_BOOT_FW_SLOT) [1]) held

/-- The trial is over. -/
def Dev.trialOver (d : Dev) : Dev := (d.setSvc fun x => { x with trialEnd := none }).setFld R.SVC_STATUS_TRIAL 0

theorem trialOver_fields (d : Dev) : d.trialOver.svc.trialEnd = none ∧ d.trialOver.fld R.SVC_STATUS_TRIAL = 0 ∧ d.trialOver.flashLog = d.flashLog := by
  refine ⟨?_, fld_setFld_fits _ _ _ (by decide), ?_⟩
  · rw [Dev.trialOver, Dev.setFld_svc, setSvc_svc]
  · rw [Dev.trialOver, Dev.setFld_flashLog]
    rfl

/-- When a healthy trial is confirmed. -/
def Dev.confirmDue (d : Dev) : Nat := max d.time (d.svc.healthyFrom + usCycles (1000000 * d.holdSeconds))

theorem trialConfirm_eq {d : Dev} {end_ : Nat} (held : Option (List Byte)) (ht : d.svc.trialEnd = some end_) (hr : d.mode ≠ .reset) (hf : d.mode ≠ .foyer) (hrec : d.mode ≠ .recovery) (hfault : d.mode ≠ .fault)
    (hepoch : d.fld R.GLB_EPOCH ≠ 0) : let w := (d.advance d.confirmDue).slotConfirmed held
    d.trialConfirm held = if end_ < d.confirmDue then d else if w.2 then w.1.trialOver else w.1 := by
  simp only [Dev.trialConfirm, ht, Option.isNone_some, Bool.false_eq_true, hr, hf, hrec, hfault, hepoch, or_self, if_false, Option.any_some, decide_eq_true_eq]
  rfl

/-- Settles O60: each request by what it does in its turn, blocks and verifications by what they leave, and trials by `trialConfirm_eq`. -/
theorem porchUpdates : Obligations.PorchUpdates := by
  unfold Obligations.PorchUpdates
  intro s p raw q se hm e
  refine ⟨fun h held => ?begin_, fun h => ?data, fun x b hx hfull => ?block, fun h => ?query, fun h => ⟨fun x hx hdone hnone => ?verify, fun hwhy => ?noVerify⟩, fun x seq hx hv => ?verified,
    fun h held => ?activate, fun h => ?abort, fun end_ held ht hf hrec hfault hepoch => ?confirm, fun end_ ht => ?expiry⟩
  case begin_ =>
    intro target slot len digest trial
    have hbegin : ∀ {x : Dev}, s.start.updBegin p raw held = x → exec (.updBegin p raw held) s = .next (s.after x) := exec_run_eq (exec_updBegin s p raw held) hm
    have heq := updBegin_eq h held
    refine ⟨fun hbad => hbegin (heq.trans (if_pos hbad)), fun htarget hslot => ?_⟩
    have hplace : ¬ (2 < target ∨ (if target = 1 then 3 else 1) < slot) := by omega
    have hat : s.start.updBegin p raw held = if !s.start.slotInactive target slot then e.reply p q 0x6006 [] else if trial then e.reply p q 0x6007 []
        else if (slotPlace target slot).2 < len then e.reply p q 0x6008 [] else e.beginAt p q target slot len digest held := heq.trans (if_neg hplace)
    have hslot' := fun hin : s.start.slotInactive target slot = true => hat.trans (if_neg (by rw [hin]; decide))
    refine ⟨fun hin => hbegin (hat.trans (if_pos (by rw [hin]; rfl))), fun hin htrial => hbegin ((hslot' hin).trans (if_pos htrial)), fun hin htrial hlong => hbegin ((hslot' hin).trans ((if_neg htrial).trans (if_pos hlong))),
      fun hin htrial hfits => ?_⟩
    have hgo : s.start.updBegin p raw held = e.beginAt p q target slot len digest held := (hslot' hin).trans ((if_neg htrial).trans (if_neg (Nat.not_lt.mpr hfits)))
    refine ⟨fun x hx hother => hbegin (hgo.trans (beginAt_other p q held hx hother)), fun x hx ht hs hl hd => hbegin (hgo.trans (beginAt_same p q held hx ht hs hl hd)), fun hnew => ?_⟩
    have hanew : s.start.updBegin p raw held = e.beginAnew p q target slot len digest held := hgo.trans (beginAt_anew p q held hnew)
    exact ⟨fun ht hw => hbegin (hanew.trans (beginAnew_lost p q held ht hw)), fun hok => ⟨_, hbegin (hanew.trans (beginAnew_begun p q held hok)), begunAnew_fields _ _ _ _ _ _⟩⟩
  case data =>
    intro o bs
    have hdata : ∀ {x : Dev}, s.start.updData p raw = x → exec (.updData p raw) s = .next (s.after x) := exec_run_eq (exec_updData s p raw) hm
    refine ⟨fun hx => hdata (updData_none h hx), fun x hx => ?_⟩
    have heq := updData_some h (x := x) hx
    refine ⟨fun hbad => hdata (heq.trans (if_pos hbad)), fun halign hshort hin => ?_⟩
    intro b whole begun
    have hplace : s.start.updData p raw = if x.whole b then e.reply p q 0 [] else if !x.begun.contains b ∧ 4 ≤ x.begun.length then e.reply p q 0x600A [] else (e.chunkStaged x (o / 1024) bs).reply p q 0 [] :=
      heq.trans (if_neg (c := o % 1024 ≠ 0 ∨ 1024 < bs.length ∨ x.len < o + bs.length) (by omega))
    have hpart := fun hw : whole = false => hplace.trans (if_neg (by rw [show x.whole b = false from hw]; decide))
    refine ⟨fun hw => hdata (hplace.trans (if_pos hw)), fun hw hnew hmany => hdata ((hpart hw).trans (if_pos ⟨?new, hmany⟩)), fun hw hroom => hdata ((hpart hw).trans (if_neg ?room))⟩
    case new =>
      rw [show x.begun.contains b = false from hnew]
      rfl
    case room =>
      rintro ⟨hnot, hmany⟩
      rcases hroom with hbegun | hfew
      · rw [show x.begun.contains b = true from hbegun] at hnot
        exact Bool.noConfusion hnot
      · exact absurd hmany (Nat.not_le.mpr hfew)
  case block =>
    intro want at_ y
    have hblock : ∀ (held : Option (List Byte)) {d : Dev}, s.start.blockWritten b held = d → exec (.updBlockWritten b held) s = .next (s.after d) := fun held => exec_run_eq (exec_updBlockWritten s b held) hm
    refine ⟨?_, fun held => fun hgot => ⟨_, hblock _ (blockWritten_lost (d := s.start) hx hfull hgot), blockLost_fields s.start x b _⟩⟩
    obtain ⟨hdownload, hflash, hregs⟩ := blockTaken_fields s.start x b
    refine ⟨_, hblock _ (blockWritten_taken hx hfull), ?_⟩
    by_cases hall : (x.written b).blocks.length = (x.written b).blockCount
    · rw [if_pos hall, Dev.setUpd, Dev.setFld_svc, Dev.setFld_flashLog]
      exact ⟨hdownload, hflash, fun _ => fld_setFld_fits _ _ _ (by decide), fun hno => absurd hall hno⟩
    · rw [if_neg hall]
      exact ⟨hdownload, hflash, fun h => absurd h hall, fun _ => hregs⟩
  case query => exact exec_run_eq (exec_updQuery s p raw) hm (updQuery_eq h)
  case verify => exact exec_run_eq (exec_updVerify s p raw) hm (updVerify_starts h hx hdone hnone)
  case noVerify => exact exec_run_eq (exec_updVerify s p raw) hm (updVerify_refused h hwhy)
  case verified =>
    intro bs check code
    have hdone := updVerifyDone_eq (d := s.start) hx hv
    have hsession := verified_session s.start x bs
    obtain ⟨hsvc, hstate, hevent, herr, hrecipes⟩ := verified_fields s.start x bs
    refine ⟨s.start.verified x bs, fun hz => exec_run_eq (exec_updVerifyDone s) hm (hdone.trans (verifyAnswer_none (hsession.trans hz) _ _ _)),
      fun z hz => exec_run_eq (exec_updVerifyDone s) hm (hdone.trans (verifyAnswer_some (hsession.trans hz) _ _ _)), by rw [hsvc], hstate, hevent, herr, hrecipes⟩
  case activate =>
    intro boots
    have hactivate : ∀ {x : Dev}, s.start.updActivate p raw held = x → exec (.updActivate p raw held) s = .next (s.after x) := exec_run_eq (exec_updActivate s p raw held) hm
    refine ⟨fun hx => hactivate (updActivate_none h held hx), fun x hx => ?_⟩
    have heq := updActivate_some h held (x := x) hx
    have hready := fun (hstate : s.dev.fld R.SVC_STATUS_UPD_STATE = 4) (ht : x.target ≠ 2) => heq.trans (if_neg (c := s.start.fld R.SVC_STATUS_UPD_STATE ≠ 4 ∨ x.target = 2) (not_or.mpr ⟨not_not.mpr hstate, ht⟩))
    exact ⟨fun hbad => hactivate (heq.trans (if_pos hbad)), fun hstate ht hboots => hactivate ((hready hstate ht).trans (if_pos hboots)),
      fun hstate ht hlow hhigh => hactivate ((hready hstate ht).trans (if_neg (by omega)))⟩
  case abort => exact exec_run_eq (exec_updAbort s p raw) hm (updAbort_eq h)
  case confirm =>
    intro due d w
    have heq := trialConfirm_eq (d := s.start) held ht hm hf hrec hfault hepoch
    have hconfirm : ∀ {x : Dev}, s.start.trialConfirm held = x → exec (.trialConfirm held) s = .next (s.after x) := exec_run_eq (exec_trialConfirm s held) hm
    have hheld := fun hdue : due ≤ end_ => heq.trans (if_neg (Nat.not_lt.mpr hdue))
    refine ⟨fun hlate => hconfirm (heq.trans (if_pos hlate)), fun hdue hw => hconfirm ((hheld hdue).trans (if_neg ?_)), fun hdue hw => ⟨_, hconfirm ((hheld hdue).trans (if_pos hw)), trialOver_fields _⟩⟩
    rw [show ((s.start.advance s.start.confirmDue).slotConfirmed held).2 = false from hw]
    decide
  case expiry =>
    refine exec_run_eq (exec_trialTimerExpiry s) hm ?_
    simp only [Dev.trialExpiry, show s.start.svc.trialEnd = some end_ from ht]

end Sys2Proof.Machine
end

section
/-!
SUPPORT. Debug access and tests (R531 to R537): the TAP, the debug lock and token, the test multiplexer, DRAM sweeps and eye scans, and the statement O53.
-/
namespace Sys2Proof.Machine

/-! ### Events and codes of chapter 18 -/

section refusals
variable (d : Dev)

theorem tstCode_fld {g : Fld} (hg : (R.TST_LAST_ERR).apart g) (code : Nat) : (d.tstCode code).fld g = d.fld g := by
  have hpart : (R.TST_LAST_ERR_CODE).apart g ∧ (R.TST_LAST_ERR_STRIPE).apart g := by
    simp only [Fld.apart, R.TST_LAST_ERR, R.TST_LAST_ERR_CODE, R.TST_LAST_ERR_STRIPE] at hg ⊢
    omega
  rw [Dev.tstCode, fld_setFld_apart _ _ _ _ hpart.2, fld_setFld_apart _ _ _ _ hpart.1]

theorem tstCode_shown {code : Nat} (hc : code < 65536) : (d.tstCode code).fld R.TST_LAST_ERR_CODE = code := by
  rw [Dev.tstCode, fld_setFld_apart _ _ _ _ (by decide), fld_setFld_fits _ _ _ ⟨by decide, hc⟩]

/-- An event of TST. -/
abbrev tstEvent (f : Fld) : Prop := f.addr = R.TST_EVENTS.addr ∧ f.w = 1 ∧ f.lo + f.w ≤ 32

theorem tstRefuse_fields {f : Fld} (hf : tstEvent f) {code : Nat} (hc : code < 65536) : (d.tstRefuse f code).flag f = true ∧ (d.tstRefuse f code).fld R.TST_LAST_ERR_CODE = code ∧
    ∀ g : Fld, 0xD00040 ≤ g.addr → g.lo + g.w ≤ 32 → (d.tstRefuse f code).fld g = d.fld g := by
  obtain ⟨ha, hw, hl⟩ := hf
  have haddr : f.addr = 0xD00030 := ha
  refine ⟨flag_of_fld_one ?_, tstCode_shown _ hc, fun g hg hgw => ?_⟩
  · rw [Dev.tstRefuse, tstCode_fld _ (apart_of_addr (by simp [haddr, R.TST_LAST_ERR]) ⟨by decide, hl⟩)]
    exact raise_fld _ _ hl hw (not_chanCount (.inr (by omega)))
  · rw [Dev.tstRefuse, tstCode_fld _ (apart_of_addr (by simp only [R.TST_LAST_ERR]; omega) ⟨by decide, hgw⟩)]
    exact raise_fld_apart _ _ _ (apart_of_addr (by omega) ⟨hl, hgw⟩) (.inr (by omega))

@[simp] theorem tstCode_tst (code : Nat) : (d.tstCode code).tst = d.tst := by simp [Dev.tstCode]
@[simp] theorem tstRefuse_tst (f : Fld) (code : Nat) : (d.tstRefuse f code).tst = d.tst := by simp [Dev.tstRefuse]
@[simp] theorem tstRefuse_draws (f : Fld) (code : Nat) : (d.tstRefuse f code).draws = d.draws := by simp [Dev.tstRefuse, Dev.tstCode]

end refusals

/-! ### JTAG (R537) -/

/-- The current instruction of the TAP. -/
def Dev.setJtag (d : Dev) (i : Nat) : Dev := { d with tst := { d.tst with jtag := i } }

theorem jtagInstruction_eq (d : Dev) (op : Nat) : d.jtagInstruction op = if op = 1 ∨ op = 2 then d.setJtag op
    else if 3 ≤ op ∧ op ≤ 5 then (if d.mode = .reset then d.setJtag op else (d.setJtag 0xFF).tstRefuse R.TST_EVENTS_JTAG_REFUSED 0xC010)
    else if 0x20 ≤ op ∧ op ≤ 0x2F ∧ d.dbgRight 1 then d.setJtag op else d.setJtag 0xFF := rfl

section jtag
variable {d : Dev} {op : Nat}

theorem jtagInstruction_taken (h : op = 1 ∨ op = 2 ∨ (3 ≤ op ∧ op ≤ 5 ∧ d.mode = .reset) ∨ (0x20 ≤ op ∧ op ≤ 0x2F ∧ d.dbgRight 1 = true)) : d.jtagInstruction op = d.setJtag op := by
  rw [jtagInstruction_eq]
  rcases h with rfl | rfl | ⟨hlow, hhigh, hm⟩ | ⟨hlow, hhigh, hright⟩
  · rfl
  · rfl
  · rw [if_neg (by omega), if_pos ⟨hlow, hhigh⟩, if_pos hm]
  · rw [if_neg (by omega), if_neg (by omega), if_pos ⟨hlow, hhigh, hright⟩]

theorem jtagInstruction_refused (hlow : 3 ≤ op) (hhigh : op ≤ 5) (hm : d.mode ≠ .reset) : d.jtagInstruction op = (d.setJtag 0xFF).tstRefuse R.TST_EVENTS_JTAG_REFUSED 0xC010 := by
  rw [jtagInstruction_eq, if_neg (by omega), if_pos ⟨hlow, hhigh⟩, if_neg hm]

theorem jtagInstruction_bypass (h : op = 0 ∨ (6 ≤ op ∧ op < 0x20) ∨ 0x2F < op ∨ (0x20 ≤ op ∧ op ≤ 0x2F ∧ d.dbgRight 1 = false)) : d.jtagInstruction op = d.setJtag 0xFF := by
  rw [jtagInstruction_eq, if_neg (by omega), if_neg (by omega), if_neg]
  rintro ⟨hlow, hhigh, hright⟩
  rcases h with h | h | h | ⟨-, -, hno⟩
  · omega
  · omega
  · omega
  · exact Bool.noConfusion (hno.symm.trans hright)

end jtag

/-! ### Words of TST -/

theorem hostWrite_tst (d : Dev) (a v : Nat) (h3 : 3 ≤ d.mode.code) (h4 : a % 4 = 0) (hb : a / 0x100000 = 13) (hd : (findDesc a).isSome = true) : d.hostWrite a v = d.tstWrite a v := by
  have ht : inTap a = false := by simp only [inTap, Bool.and_eq_false_iff, decide_eq_false_iff_not]; omega
  obtain ⟨r, hr⟩ := Option.isSome_iff_exists.mp hd
  rw [hostWrite_eq d _ _ h3]
  simp [Dev.regWrite, h4, ht, hr, hb]

theorem hostWrite_dbgLock (d : Dev) (v : Nat) (h3 : 3 ≤ d.mode.code) : d.hostWrite 0xD006A4 v = if bitOf v 0 then d.dbgLock else d := hostWrite_tst d _ v h3 (by decide) (by decide) (by decide)
theorem hostWrite_dbgToken (d : Dev) (v : Nat) (h3 : 3 ≤ d.mode.code) : d.hostWrite 0xD0069C v = (d.setReg 0xD0069C (BitVec.ofNat 32 v)).tokenSubmit :=
  hostWrite_tst d _ v h3 (by decide) (by decide) (by decide)
theorem hostWrite_tmuxCtrl (d : Dev) (v : Nat) (h3 : 3 ≤ d.mode.code) : d.hostWrite 0xD00400 v = d.tmuxWrite v := hostWrite_tst d _ v h3 (by decide) (by decide) (by decide)

theorem dbgLock_fields (d : Dev) : d.dbgLock.fld R.TST_DBG_STATUS_UNLOCKED = 0 ∧ d.dbgLock.fld R.TST_DBG_STATUS_RIGHTS = 0 ∧ d.keeps d.dbgLock (· = R.TST_DBG_STATUS.addr) := by
  refine ⟨?_, fld_setFld_fits _ _ _ (by decide), keeps_trans (keeps_setFld d R.TST_DBG_STATUS_UNLOCKED 0 (by decide)) (keeps_setFld _ R.TST_DBG_STATUS_RIGHTS 0 (by decide))⟩
  rw [Dev.dbgLock, fld_setFld_apart _ _ _ _ (by decide), fld_setFld_fits _ _ _ (by decide)]

/-! ### The debug token (R534) -/

/-- The bytes of DBG_TOKEN. -/
def Dev.tokenBytes (d : Dev) : List Byte := wordBytes ((List.range 40).map fun i => (d.reg (0x00D00600 + 4 * i)).toNat)

/-- A token of the right form, for this part and this nonce. -/
abbrev Dev.tokenForm (d : Dev) (t : List Byte) : Prop := leAt t 0 4 = 0x54474244 ∧ leAt t 4 2 = 1 ∧ leAt t 6 2 < 4 ∧ leAt t 8 8 = Config.uid.toNat ∧ slice t 16 16 = d.dbgNonce

/-- The key of a token is the one fused. -/
abbrev tokenKey (t : List Byte) : Prop := Config.debugKeyHash ≠ 0 ∧ beNat (sha256 (slice t 96 64)) = Config.debugKeyHash.toNat

/-- The signature of a token. -/
def tokenSigned (t : List Byte) : Bool := ecdsaOk (sha256 (slice t 0 32)) (slice t 32 64) (slice t 96 64)

/-- A token that passes unlocks its rights. -/
def Dev.unlock (d : Dev) (rights : Nat) : Dev := (d.setFld R.TST_DBG_STATUS_UNLOCKED 1).setFld R.TST_DBG_STATUS_RIGHTS rights

def Dev.tokenBad (d : Dev) (code : Nat) : Dev := d.tstRefuse R.TST_EVENTS_TOKEN_BAD code

/-- What a token does before the next nonce is drawn. -/
def Dev.tokenTaken (d : Dev) : Dev :=
  if ¬ d.tokenForm d.tokenBytes then d.tokenBad 0xC00A else if ¬ tokenKey d.tokenBytes then d.tokenBad 0xC00B else if !tokenSigned d.tokenBytes then d.tokenBad 0xC00A else d.unlock (leAt d.tokenBytes 6 2)

theorem tokenSubmit_eq (d : Dev) : d.tokenSubmit = d.tokenTaken.newNonce := by
  unfold Dev.tokenSubmit Dev.tokenTaken
  simp only [← Bool.decide_and, Bool.not_eq_true', decide_eq_false_iff_not, and_assoc]
  rfl

theorem newNonce_fields (d : Dev) : d.newNonce.tst.nonce = d.draws ∧ d.newNonce.draws = d.draws + 1 ∧ ∀ g, d.newNonce.fld g = d.fld g := ⟨rfl, rfl, fun _ => rfl⟩

theorem tokenBad_fields (d : Dev) {code : Nat} (hc : code < 65536) : (d.tokenBad code).flag R.TST_EVENTS_TOKEN_BAD = true ∧ (d.tokenBad code).fld R.TST_LAST_ERR_CODE = code ∧
    (d.tokenBad code).fld R.TST_DBG_STATUS = d.fld R.TST_DBG_STATUS ∧ (d.tokenBad code).flag R.TST_DBG_STATUS_UNLOCKED = d.flag R.TST_DBG_STATUS_UNLOCKED := by
  obtain ⟨hflag, hcode, hrest⟩ := tstRefuse_fields d (f := R.TST_EVENTS_TOKEN_BAD) (by decide) hc
  exact ⟨hflag, hcode, hrest _ (by decide) (by decide), flag_congr (hrest _ (by decide) (by decide))⟩

theorem tokenTaken_draws (d : Dev) : d.tokenTaken.draws = d.draws := by
  unfold Dev.tokenTaken
  split
  · exact tstRefuse_draws ..
  · split
    · exact tstRefuse_draws ..
    · split
      · exact tstRefuse_draws ..
      · simp [Dev.unlock]

theorem tokenTaken_malformed {d : Dev} (h : ¬ d.tokenForm d.tokenBytes) : d.tokenTaken = d.tokenBad 0xC00A := if_pos h

/-- A token unlocks only where it is of the right form and signed. -/
theorem tokenTaken_unlocked {d : Dev} (h : d.tokenTaken.flag R.TST_DBG_STATUS_UNLOCKED = true) : d.flag R.TST_DBG_STATUS_UNLOCKED = true ∨
    (d.tokenForm d.tokenBytes ∧ tokenSigned d.tokenBytes = true ∧ d.tokenTaken.fld R.TST_DBG_STATUS_RIGHTS = leAt d.tokenBytes 6 2) := by
  have hbad : ∀ code < 65536, (d.tokenBad code).flag R.TST_DBG_STATUS_UNLOCKED = true → d.flag R.TST_DBG_STATUS_UNLOCKED = true := fun code hc h => by
    obtain ⟨-, -, -, hkept⟩ := tokenBad_fields d hc
    exact hkept.symm.trans h
  unfold Dev.tokenTaken at h ⊢
  by_cases hform : d.tokenForm d.tokenBytes
  · rw [if_neg (not_not.mpr hform)] at h ⊢
    by_cases hkey : tokenKey d.tokenBytes
    · rw [if_neg (not_not.mpr hkey)] at h ⊢
      cases hsigned : tokenSigned d.tokenBytes with
      | false => exact .inl (hbad 0xC00A (by decide) (by rwa [hsigned] at h))
      | true => exact .inr ⟨hform, rfl, fld_setFld_fits _ _ _ ⟨by decide, hform.2.2.1⟩⟩
    · exact .inl (hbad 0xC00B (by decide) (by rwa [if_pos hkey] at h))
  · exact .inl (hbad 0xC00A (by decide) (by rwa [if_pos hform] at h))

/-! ### The test multiplexer (R535) -/

/-- A field whose bits are all writable takes those of the value. -/
theorem plainWrite_fld (d : Dev) {f : Fld} (v : Nat) {r : RegDesc} (hr : findDesc f.addr = some r) (hw : f.lo + f.w ≤ 32)
    (hbit : ∀ i < f.w, r.rw.testBit (f.lo + i) = true ∧ r.w1c.testBit (f.lo + i) = false ∧ r.clr.testBit (f.lo + i) = false) : (d.plainWrite f.addr v).fld f = bits v f.lo f.w := by
  obtain ⟨w, hword, hbits⟩ := plainWrite_bits d f.addr v r hr
  rw [hword, Dev.fld, show (d.setReg f.addr w).cell f = w.toNat by simp only [Dev.cell, if_pos hw, reg_setReg_same, Nat.add_zero]]
  refine Nat.eq_of_testBit_eq fun i => ?_
  simp only [bits, Nat.testBit_mod_two_pow, Nat.testBit_div_two_pow]
  by_cases hi : i < f.w
  · obtain ⟨hrw, hw1c, hclr⟩ := hbit i hi
    have h := hbits (f.lo + i) (by omega)
    rw [BitVec.getLsbD, hrw, hw1c, hclr] at h
    simpa [hi, Nat.add_comm] using h
  · simp [hi]

theorem findDesc_tmuxCtrl : findDesc 0xD00400 = some ⟨0x0D00400, 1, 0, 1, 0, 0x800, 0x1FF71, 0, 0, 0, 0, 0, false⟩ := by decide

section tmux
variable (d : Dev) (v : Nat)

theorem tmuxWrite_allowed (hright : d.dbgRight 0 = true) : (d.tmuxWrite (v ||| 1)).flag R.TST_TMUX_CTRL_ENABLE = true ∧ (d.tmuxWrite (v ||| 1)).fld R.TST_TMUX_CTRL_BYTE = bits v 4 3 := by
  obtain ⟨x, hx⟩ : ∃ x : Dev, d.tmuxWrite (v ||| 1) = x.plainWrite 0xD00400 (v ||| 1) := ⟨_, if_neg (by simp [hright])⟩
  have henable : bits (v ||| 1) 0 1 = 1 := by simp [bits]
  have hbyte : bits (v ||| 1) 4 3 = bits v 4 3 := by simp [bits, Nat.or_div_two_pow (n := 4)]
  rw [hx]
  exact ⟨flag_of_fld_one ((plainWrite_fld x (f := R.TST_TMUX_CTRL_ENABLE) _ findDesc_tmuxCtrl (by decide) (by decide)).trans henable),
    (plainWrite_fld x (f := R.TST_TMUX_CTRL_BYTE) _ findDesc_tmuxCtrl (by decide) (by decide)).trans hbyte⟩

theorem tmuxWrite_locked (hright : d.dbgRight 0 = false) : let t := d.tmuxWrite (v ||| 1)
    t.fld R.TST_TMUX_CTRL_ENABLE = d.fld R.TST_TMUX_CTRL_ENABLE ∧ t.flag R.TST_EVENTS_LOCKED = true ∧ t.fld R.TST_LAST_ERR_CODE = 0xC00C := by
  have hlocked : d.tmuxWrite (v ||| 1) = ((d.plainWrite 0xD00400 ((v ||| 1) - 1)).setFlag R.TST_TMUX_CTRL_ENABLE (d.flag R.TST_TMUX_CTRL_ENABLE)).tstRefuse R.TST_EVENTS_LOCKED 0xC00C :=
    if_pos (by rw [hright, show bitOf (v ||| 1) 0 = true from bitOf_or_two_pow v 0]; rfl)
  obtain ⟨hflag, hcode, hrest⟩ := tstRefuse_fields ((d.plainWrite 0xD00400 ((v ||| 1) - 1)).setFlag R.TST_TMUX_CTRL_ENABLE (d.flag R.TST_TMUX_CTRL_ENABLE)) (f := R.TST_EVENTS_LOCKED) (by decide)
    (show 0xC00C < 65536 by decide)
  dsimp only
  rw [hlocked]
  refine ⟨(hrest _ (by decide) (by decide)).trans ?_, hflag, hcode⟩
  have hbit : d.fld R.TST_TMUX_CTRL_ENABLE < 2 := fld_lt d R.TST_TMUX_CTRL_ENABLE
  simp only [Dev.setFlag]
  rw [fld_setFld_fits _ _ _ ⟨by decide, by unfold b2n; split <;> decide⟩, Dev.flag, b2n]
  by_cases h : d.fld R.TST_TMUX_CTRL_ENABLE = 0
  · simp [h]
  · simp only [ne_eq, h, not_false_eq_true, decide_true, if_true]
    omega

end tmux

/-- The pins carry a byte. -/
def Dev.tmuxShown (d : Dev) (b : Nat) : Dev := { d with tst := { d.tst with tmux := b } }.emit (.tmux b)

theorem tmuxShown_fields (d : Dev) (b : Nat) : (d.tmuxShown b).tst = { d.tst with tmux := b } ∧ (d.tmuxShown b).out = d.out ++ [.tmux b] ∧ (d.tmuxShown b).regs = d.regs := ⟨rfl, rfl, rfl⟩

/-- A strobe samples a byte of the selected word. -/
theorem tmuxStrobe_sampled {d : Dev} {seen : Nat} (hm : d.mode ≠ .reset) (hright : d.dbgRight 0 = true) (henable : d.flag R.TST_TMUX_CTRL_ENABLE = true) (hseen : seen < 2 ^ 64) :
    d.tmuxStrobe seen = d.tmuxShown (d.tmuxWord seen / 256 ^ d.fld R.TST_TMUX_CTRL_BYTE % 256) := by
  have hruns : ¬ (d.mode = .reset ∨ !d.dbgRight 0 ∨ !d.flag R.TST_TMUX_CTRL_ENABLE) := by simp [hm, hright, henable]
  rw [Dev.tmuxStrobe, if_neg hruns, Nat.mod_eq_of_lt hseen]
  rfl

/-! ### DRAM sweeps (R531) -/

theorem dramWrite_tst (d : Dev) (a : Nat) (bs : List Byte) : (d.dramWrite a bs).tst = d.tst := by
  unfold Dev.dramWrite Dev.outOfRange
  dsimp only
  split
  · simp only [Dev.raise_tst, Dev.setFld_tst]
    split
    · rfl
    · rw [Dev.setFld_tst]
  · rfl

/-- A write to DRAM leaves the words of TST. -/
theorem dramWrite_fld (d : Dev) (a : Nat) (bs : List Byte) {g : Fld} (hg : 0xD00000 ≤ g.addr) : (d.dramWrite a bs).fld g = d.fld g := by
  have hset : ∀ (y : Dev) (f : Fld) (v : Nat), f.addr + 4 < 0xD00000 → (y.setFld f v).fld g = y.fld g := fun y f v hf => fld_setFld_apart _ _ _ _ (.inl ⟨by omega, .inr (by omega), .inr (by omega)⟩)
  have hraise : ∀ (y : Dev), (y.raise R.MEM_EVENTS_OUT_OF_RANGE).fld g = y.fld g := fun y =>
    raise_fld_apart _ _ _ (.inl ⟨by simp only [R.MEM_EVENTS_OUT_OF_RANGE]; omega, .inl (by decide), .inr (by simp only [R.MEM_EVENTS_OUT_OF_RANGE]; omega)⟩) (.inr (by omega))
  unfold Dev.dramWrite Dev.outOfRange
  dsimp only
  split
  · rw [hraise, hset _ _ _ (by decide)]
    split
    · rfl
    · rw [hset _ _ _ (by decide)]
      rfl
  · rfl

/-- The first differences of the two reads of a block. -/
def drtBad (a sweep : Nat) (first second : Option (List Byte)) : List Nat :=
  (match first with | some g => (firstDiff (drtPattern a sweep false) g).toList | none => []) ++ (match second with | some g => (firstDiff (drtPattern a sweep true) g).toList | none => [])

/-- The first failing address is noted. -/
def Dev.drtFailAt (d : Dev) (a : Nat) (bad : List Nat) : Dev :=
  if bad ≠ [] ∧ (d.fld R.TST_DRT_ERR_CNT = 0 ∨ d.fld R.TST_DRT_FAIL_ADDR = 0) then d.setFld R.TST_DRT_FAIL_ADDR (a + bad.headD 0) else d

/-- The errors of a block are counted and reported. -/
def Dev.drtCount (d : Dev) (a : Nat) (bad : List Nat) (corrected : Nat) : Dev :=
  let d := (d.drtFailAt a bad).bump R.TST_DRT_ERR_CNT (bad.length + corrected)
  if bad = [] then d else (d.raise R.TST_EVENTS_DRAM_TEST_FAIL).tstCode 0xC007

def Dev.drtWritten (d : Dev) (a : Nat) : Dev := (d.dramWrite a (drtPattern a (d.fld R.TST_DRT_STATUS_SWEEP) false)).dramWrite a (drtPattern a (d.fld R.TST_DRT_STATUS_SWEEP) true)

theorem drtCheck_eq (d : Dev) (a : Nat) (first second : Option (List Byte)) (corrected : Nat) :
    (d.drtCheck a first second corrected).1 = (d.drtWritten a).drtCount a (drtBad a (d.fld R.TST_DRT_STATUS_SWEEP) first second) corrected := rfl

/-- The sweep goes on to the next block, or to the next sweep. -/
def Dev.drtNext (d : Dev) (n i : Nat) : Dev :=
  let d := if i + 1 < n then { d with tst := { d.tst with drt := i + 1 } } else { d with tst := { d.tst with drt := 0 } }.incr R.TST_DRT_STATUS_SWEEP
  d.setFld R.TST_DRT_STATUS_BLOCK (d.tst.drt / 1024)

theorem drtBlock_swept {d : Dev} (first second : Option (List Byte)) (corrected : Nat) (hon : d.fld R.TST_DRT_CFG ≠ 0) :
    let n := d.drtBlocks * 1024; let i := if d.tst.drt < n then d.tst.drt else 0; let a := d.fld R.TST_DRT_BASE / 65536 * 65536 + i * 64
    n ≠ 0 → d.doorQuiet (d.channelOf a) = true → d.drtBlock false first second corrected = ((d.drtWritten a).drtCount a (drtBad a (d.fld R.TST_DRT_STATUS_SWEEP) first second) corrected).drtNext n i := by
  intro n i a hn hquiet
  unfold Dev.drtBlock
  simp only [Bool.false_eq_true, if_false]
  rw [if_neg (not_or.mpr ⟨hon, hn⟩), if_neg (by rw [hquiet]; decide)]
  rfl

theorem drtWritten_tst (d : Dev) (a : Nat) : (d.drtWritten a).tst = d.tst := (dramWrite_tst ..).trans (dramWrite_tst ..)
theorem drtWritten_fld (d : Dev) (a : Nat) {g : Fld} (hg : 0xD00000 ≤ g.addr) : (d.drtWritten a).fld g = d.fld g := (dramWrite_fld _ _ _ hg).trans (dramWrite_fld _ _ _ hg)

section drt
variable (d : Dev) (a : Nat) (bad : List Nat) (corrected : Nat)

theorem drtFailAt_tst : (d.drtFailAt a bad).tst = d.tst := by
  unfold Dev.drtFailAt
  split
  · exact Dev.setFld_tst ..
  · rfl

theorem drtFailAt_fld {g : Fld} (hg : R.TST_DRT_FAIL_ADDR.apart g) : (d.drtFailAt a bad).fld g = d.fld g := by
  unfold Dev.drtFailAt
  split
  · exact fld_setFld_apart _ _ _ _ hg
  · rfl

theorem drtCount_tst : (d.drtCount a bad corrected).tst = d.tst := by
  unfold Dev.drtCount
  dsimp only
  split
  · rw [Dev.bump, Dev.setFld_tst, drtFailAt_tst]
  · rw [tstCode_tst, Dev.raise_tst, Dev.bump, Dev.setFld_tst, drtFailAt_tst]

theorem drtCount_sweep : (d.drtCount a bad corrected).fld R.TST_DRT_STATUS_SWEEP = d.fld R.TST_DRT_STATUS_SWEEP := by
  have hcounted : ((d.drtFailAt a bad).bump R.TST_DRT_ERR_CNT (bad.length + corrected)).fld R.TST_DRT_STATUS_SWEEP = d.fld R.TST_DRT_STATUS_SWEEP := by
    rw [fld_bump_apart _ _ _ _ (by decide), drtFailAt_fld _ _ _ (by decide)]
  unfold Dev.drtCount
  dsimp only
  split
  · exact hcounted
  · rw [tstCode_fld _ (by decide), raise_fld_apart _ _ _ (by decide) (by decide), hcounted]

/-- A block without a difference counts what ECC corrected. -/
theorem drtCount_clean : (d.drtCount a [] corrected).fld R.TST_DRT_ERR_CNT = min (d.fld R.TST_DRT_ERR_CNT + corrected) (2 ^ 32 - 1) ∧ (d.drtCount a [] corrected).fld R.TST_EVENTS = d.fld R.TST_EVENTS := by
  have hclean : d.drtCount a [] corrected = d.bump R.TST_DRT_ERR_CNT corrected := by
    rw [Dev.drtCount, if_pos rfl, Dev.drtFailAt, if_neg (fun h => h.1 rfl), List.length_nil, Nat.zero_add]
  rw [hclean]
  exact ⟨fld_bump_by d R.TST_DRT_ERR_CNT corrected (by decide), fld_bump_apart d R.TST_DRT_ERR_CNT R.TST_EVENTS _ (by decide)⟩

/-- A difference is reported, and the first of a count that was zero with its address. -/
theorem drtCount_failed (j : Nat) (rest : List Nat) : let t := d.drtCount a (j :: rest) corrected
    t.flag R.TST_EVENTS_DRAM_TEST_FAIL = true ∧ t.fld R.TST_LAST_ERR_CODE = 0xC007 ∧ (d.fld R.TST_DRT_ERR_CNT = 0 → t.fld R.TST_DRT_FAIL_ADDR = (a + j) % 2 ^ 64) := by
  intro t
  have hfailed : t = (((d.drtFailAt a (j :: rest)).bump R.TST_DRT_ERR_CNT ((j :: rest).length + corrected)).raise R.TST_EVENTS_DRAM_TEST_FAIL).tstCode 0xC007 := by
    show d.drtCount a (j :: rest) corrected = _
    rw [Dev.drtCount, if_neg (List.cons_ne_nil _ _)]
  rw [hfailed]
  refine ⟨flag_of_fld_one ?_, tstCode_shown _ (by decide), fun h0 => ?_⟩
  · rw [tstCode_fld _ (by decide)]
    exact raise_fld _ _ (by decide) rfl (not_chanCount (by decide))
  · rw [tstCode_fld _ (by decide), raise_fld_apart _ _ _ (by decide) (by decide), fld_bump_apart _ _ _ _ (by decide), Dev.drtFailAt, if_pos ⟨List.cons_ne_nil _ _, .inl h0⟩]
    exact fld_setFld_same _ _ _ (by decide)

theorem drtNext_fields (n i : Nat) : (d.drtNext n i).tst.drt = (if i + 1 < n then i + 1 else 0) ∧
    (d.drtNext n i).fld R.TST_DRT_STATUS_SWEEP = (if i + 1 < n then d.fld R.TST_DRT_STATUS_SWEEP else (d.fld R.TST_DRT_STATUS_SWEEP + 1) % 65536) ∧ ∀ g : Fld, R.TST_DRT_STATUS.apart g → (d.drtNext n i).fld g = d.fld g := by
  have hpart : ∀ {g : Fld}, R.TST_DRT_STATUS.apart g → R.TST_DRT_STATUS_BLOCK.apart g ∧ R.TST_DRT_STATUS_SWEEP.apart g := fun {g} hg => by
    simp only [Fld.apart, R.TST_DRT_STATUS, R.TST_DRT_STATUS_BLOCK, R.TST_DRT_STATUS_SWEEP] at hg ⊢
    omega
  unfold Dev.drtNext
  dsimp only
  by_cases h : i + 1 < n
  · simp only [if_pos h]
    exact ⟨by rw [Dev.setFld_tst], fld_setFld_apart _ _ _ _ (by decide), fun g hg => fld_setFld_apart _ _ _ _ (hpart hg).1⟩
  · simp only [if_neg h]
    refine ⟨by rw [Dev.setFld_tst, Dev.incr, Dev.setFld_tst], ?_, fun g hg => ?_⟩
    · rw [fld_setFld_apart _ _ _ _ (by decide), fld_incr_same _ _ (by decide)]
      rfl
    · rw [fld_setFld_apart _ _ _ _ (hpart hg).1, Dev.incr, fld_setFld_apart _ _ _ _ (hpart hg).2]
      rfl

end drt

/-! ### Eye scans (R532, R533) -/

/-- The eye of a lane, as its monitor measured it. -/
def Dev.eyeShown (d : Dev) (l w h : Nat) : Dev := (d.setFld (R.KSL_LANE_EYE_EYE_W l) w).setFld (R.KSL_LANE_EYE_EYE_H l) h

/-- An eye below its limits is reported. -/
def Dev.eyeLow (d : Dev) (l : Nat) : Dev := ((d.setBit (Fld.bit (R.TST_EYE_LOW_MAP (l / 32)) (l % 32))).raise R.TST_EVENTS_EYE_LOW).tstCode 0xC009

theorem eyePassDone_eq {d : Dev} {l : Nat} (hrx : d.laneReceives l = true) (w h : Nat) : d.eyePassDone l w h false =
    if w < (d.eyeShown l w h).fld R.TST_EYE_LIMIT_EYE_W_MIN ∨ h < (d.eyeShown l w h).fld R.TST_EYE_LIMIT_EYE_H_MIN then (d.eyeShown l w h).eyeLow l else d.eyeShown l w h := by
  simp only [Dev.eyePassDone, hrx, Bool.not_true, Bool.false_eq_true, if_false]
  rfl

theorem eyeShown_fields (d : Dev) {l w h : Nat} (hl : l < 112) (hw : w < 65536) (hh : h < 65536) : (d.eyeShown l w h).fld (R.KSL_LANE_EYE_EYE_W l) = w ∧ (d.eyeShown l w h).fld (R.KSL_LANE_EYE_EYE_H l) = h ∧
    ∀ g : Fld, 0xD00000 ≤ g.addr → g.lo + g.w ≤ 32 → (d.eyeShown l w h).fld g = d.fld g := by
  refine ⟨?_, fld_setFld_fits _ _ _ ⟨by simp [R.KSL_LANE_EYE_EYE_H], hh⟩, fun g hg hgw => ?_⟩
  · rw [Dev.eyeShown, fld_setFld_apart _ _ _ _ (by simp [Fld.apart, R.KSL_LANE_EYE_EYE_W, R.KSL_LANE_EYE_EYE_H]), fld_setFld_fits _ _ _ ⟨by simp [R.KSL_LANE_EYE_EYE_W], hw⟩]
  · have haw : (R.KSL_LANE_EYE_EYE_W l).addr < 0xB00000 := by simp only [R.KSL_LANE_EYE_EYE_W]; omega
    have hah : (R.KSL_LANE_EYE_EYE_H l).addr < 0xB00000 := by simp only [R.KSL_LANE_EYE_EYE_H]; omega
    rw [Dev.eyeShown, fld_setFld_apart _ _ _ _ (apart_of_addr (by omega) ⟨by simp [R.KSL_LANE_EYE_EYE_H], hgw⟩), fld_setFld_apart _ _ _ _ (apart_of_addr (by omega) ⟨by simp [R.KSL_LANE_EYE_EYE_W], hgw⟩)]

theorem eyeLow_fields (d : Dev) (l : Nat) : (d.eyeLow l).fld (Fld.bit (R.TST_EYE_LOW_MAP (l / 32)) (l % 32)) = 1 ∧ (d.eyeLow l).flag R.TST_EVENTS_EYE_LOW = true ∧
    (d.eyeLow l).fld R.TST_LAST_ERR_CODE = 0xC009 ∧ ∀ g : Fld, g.addr < 0xB00000 → g.offChan → g.lo + g.w ≤ 32 → (d.eyeLow l).fld g = d.fld g := by
  have ha : 0xD00310 ≤ (Fld.bit (R.TST_EYE_LOW_MAP (l / 32)) (l % 32)).addr := by simp [Fld.bit, R.TST_EYE_LOW_MAP]
  have hw : (Fld.bit (R.TST_EYE_LOW_MAP (l / 32)) (l % 32)).lo + (Fld.bit (R.TST_EYE_LOW_MAP (l / 32)) (l % 32)).w ≤ 32 := by simp only [Fld.bit, R.TST_EYE_LOW_MAP]; omega
  refine ⟨?_, flag_of_fld_one ?_, tstCode_shown _ (by decide), fun g hg hoff hgw => ?_⟩
  · rw [Dev.eyeLow, tstCode_fld _ (apart_of_addr (by simp only [R.TST_LAST_ERR]; omega) ⟨by decide, hw⟩),
      raise_fld_apart _ _ _ (apart_of_addr (by simp only [R.TST_EVENTS_EYE_LOW]; omega) ⟨by decide, hw⟩) (.inr (by omega))]
    exact fld_setBit_same _ _ ⟨hw, rfl⟩
  · rw [Dev.eyeLow, tstCode_fld _ (by decide)]
    exact raise_fld _ _ (by decide) rfl (not_chanCount (by decide))
  · rw [Dev.eyeLow, tstCode_fld _ (apart_of_addr (by simp only [R.TST_LAST_ERR]; omega) ⟨by decide, hgw⟩),
      raise_fld_apart _ _ _ (apart_of_addr (by simp only [R.TST_EVENTS_EYE_LOW]; omega) ⟨by decide, hgw⟩) hoff]
    exact fld_setBit_apart _ _ _ (apart_of_addr (by omega) ⟨hw, hgw⟩)

theorem exec_always_eq {s : State} {c : Instr} {f : Dev → Dev} {y : Dev} (hc : exec c s = s.always f) (h : f s.start = y) : exec c s = .next (s.after y) := by rw [hc, always_eq, h]

/-- Settles O53: JTAG by the instruction taken, the lock, the token and the multiplexer as writes of their words, and the tests by their fields. -/
theorem debugAndTests : Obligations.DebugAndTests := by
  unfold Obligations.DebugAndTests
  intro s
  refine ⟨fun op => ⟨fun h => ?taken, fun hlow hhigh hm => ?refused, fun h => ?bypass⟩, ⟨_, rfl, rfl, rfl⟩, fun h3 v => ⟨fun hv => ?lock, fun hv => ?noLock, ?token, fun hright => ?tmux, fun hright => ?tmuxLocked⟩,
    fun seen hm hright henable => ?strobe, fun first second corrected hm hon => ?sweep, fun l w h hm hrx hw hh => ?eye⟩
  case taken =>
    have hop : op.toNat = 1 ∨ op.toNat = 2 ∨ (3 ≤ op.toNat ∧ op.toNat ≤ 5 ∧ s.start.mode = .reset) ∨ (0x20 ≤ op.toNat ∧ op.toNat ≤ 0x2F ∧ s.start.dbgRight 1 = true) :=
      h.imp (congrArg BitVec.toNat) (Or.imp_left (congrArg BitVec.toNat))
    exact ⟨_, exec_always_eq (exec_jtagInstruction s op) (jtagInstruction_taken hop), rfl, rfl⟩
  case refused =>
    obtain ⟨hflag, hcode, -⟩ := tstRefuse_fields (s.start.setJtag 0xFF) (f := R.TST_EVENTS_JTAG_REFUSED) (by decide) (show 0xC010 < 65536 by decide)
    exact ⟨_, exec_always_eq (exec_jtagInstruction s op) (jtagInstruction_refused (d := s.start) hlow hhigh hm), by rw [tstRefuse_tst]; rfl, hcode, hflag⟩
  case bypass => exact ⟨_, exec_always_eq (exec_jtagInstruction s op) (jtagInstruction_bypass (d := s.start) h), rfl, rfl⟩
  case lock => exact ⟨_, exec_run_eq (exec_dbgLock s v) (not_reset h3) ((hostWrite_dbgLock s.start v.toNat h3).trans (if_pos (by simpa [bitOf] using hv))), dbgLock_fields s.start⟩
  case noLock => exact exec_run_eq (exec_dbgLock s v) (not_reset h3) ((hostWrite_dbgLock s.start v.toNat h3).trans (if_neg (by simp [bitOf, hv])))
  case token =>
    intro e bs
    have htoken : s.start.hostWrite 0xD0069C v.toNat = e.tokenTaken.newNonce := by rw [hostWrite_dbgToken s.start _ h3, tokenSubmit_eq, BitVec.ofNat_toNat, BitVec.setWidth_eq]
    obtain ⟨hnonce, hdraws, hfld⟩ := newNonce_fields e.tokenTaken
    have hdrawn : e.tokenTaken.draws = s.dev.draws := tokenTaken_draws e
    have hword : ∀ g : Fld, g.addr ≠ 0xD0069C → g.lo + g.w ≤ 32 → e.fld g = s.dev.fld g := fun g hg hw => fld_congr (reg_setReg_other s.start _ _ v hg) (fun h => by omega)
    refine ⟨_, exec_run_eq (exec_dbgTokenSubmit s v) (not_reset h3) htoken, by rw [hnonce, hdrawn], by rw [hdraws, hdrawn], fun hbad => ?_, fun hunlocked => ?_⟩
    · have hform : ¬ e.tokenForm e.tokenBytes := by
        rintro ⟨hmagic, hversion, hrights, huid, hdraw⟩
        rcases hbad with h | h | h | h | h
        · exact h hmagic
        · exact h hversion
        · exact absurd hrights (Nat.not_lt.mpr h)
        · exact h huid
        · exact h hdraw
      obtain ⟨hflag, hcode, hstatus, -⟩ := tokenBad_fields e (show 0xC00A < 65536 by decide)
      rw [← tokenTaken_malformed hform] at hflag hcode hstatus
      exact ⟨(flag_congr (hfld _)).trans hflag, (hfld _).trans hcode, (hfld _).trans (hstatus.trans (hword _ (by decide) (by decide)))⟩
    · rcases tokenTaken_unlocked ((flag_congr (hfld _)).symm.trans hunlocked) with hwas | ⟨⟨hmagic, -, -, huid, hdraw⟩, hsigned, hrights⟩
      · exact .inl ((flag_congr (hword R.TST_DBG_STATUS_UNLOCKED (by decide) (by decide))).symm.trans hwas)
      · exact .inr ⟨hmagic, huid, hdraw, hsigned, (hfld _).trans hrights⟩
  case tmux => exact ⟨_, exec_run_eq (exec_tmuxEnable s v) (not_reset h3) (hostWrite_tmuxCtrl s.start _ h3), tmuxWrite_allowed s.start v.toNat hright⟩
  case tmuxLocked => exact ⟨_, exec_run_eq (exec_tmuxEnable s v) (not_reset h3) (hostWrite_tmuxCtrl s.start _ h3), tmuxWrite_locked s.start v.toNat hright⟩
  case strobe =>
    have hsampled := tmuxStrobe_sampled (d := s.start) hm hright henable seen.isLt
    exact ⟨_, exec_run_eq (exec_tmuxStrobe s seen) hm hsampled, tmuxShown_fields s.start _⟩
  case sweep =>
    intro n i a w hn hquiet
    have hswept : s.start.drtBlock false first second corrected = ((s.start.drtWritten a).drtCount a (drtBad a w first second) corrected).drtNext n i := drtBlock_swept first second corrected hon hn hquiet
    obtain ⟨hdrt, hsweep, hrest⟩ := drtNext_fields (((s.start.drtWritten a).drtCount a (drtBad a w first second) corrected)) n i
    have hwritten : ∀ g : Fld, 0xD00000 ≤ g.addr → (s.start.drtWritten a).fld g = s.dev.fld g := fun g hg => drtWritten_fld s.start a hg
    refine ⟨_, exec_run_eq (exec_drtBlock s false first second corrected) hm hswept, hdrt, ?_, fun h1 h2 => ?_, fun g j hg hj => ?_⟩
    · rw [hsweep, drtCount_sweep, hwritten _ (by decide)]
    · subst h1 h2
      obtain ⟨hcount, hevents⟩ := drtCount_clean (s.start.drtWritten a) a corrected
      rw [hrest _ (by decide), hrest _ (by decide)]
      exact ⟨hcount.trans (by rw [hwritten _ (by decide)]), hevents.trans (hwritten _ (by decide))⟩
    · subst hg
      have hbad : ∃ rest, drtBad a w (some g) second = j :: rest := by simp only [drtBad, hj]; exact ⟨_, rfl⟩
      obtain ⟨rest, hbad⟩ := hbad
      rw [hbad] at hrest ⊢
      obtain ⟨hflag, hcode, haddr⟩ := drtCount_failed (s.start.drtWritten a) a corrected j rest
      exact ⟨(flag_congr (hrest _ (by decide))).trans hflag, (hrest _ (by decide)).trans hcode, fun h0 => (hrest _ (by decide)).trans (haddr ((hwritten _ (by decide)).trans h0))⟩
  case eye =>
    have hdone := eyePassDone_eq (d := s.start) hrx w h
    obtain ⟨hwide, hhigh, hkept⟩ := eyeShown_fields s.start l.isLt hw hh
    obtain ⟨hmap, hflag, hcode, hlane⟩ := eyeLow_fields (s.start.eyeShown l w h) l
    have hlimit : ∀ g : Fld, 0xD00000 ≤ g.addr → g.lo + g.w ≤ 32 → (s.start.eyeShown l w h).fld g = s.dev.fld g := hkept
    rw [hlimit _ (by decide) (by decide), hlimit _ (by decide) (by decide)] at hdone
    refine ⟨_, exec_run_eq (exec_eyePassDone s l w h false) hm hdone, ?_⟩
    have hl := l.isLt
    by_cases hlow : w < s.dev.fld R.TST_EYE_LIMIT_EYE_W_MIN ∨ h < s.dev.fld R.TST_EYE_LIMIT_EYE_H_MIN
    · rw [if_pos hlow]
      have hpart : ∀ g : Fld, 0xA00000 ≤ g.addr ∧ g.addr < 0xB00000 → g.lo + g.w ≤ 32 → ((s.start.eyeShown l w h).eyeLow l).fld g = (s.start.eyeShown l w h).fld g := fun g hg hgw => hlane g hg.2 (.inr (by omega)) hgw
      refine ⟨(hpart _ (by simp only [R.KSL_LANE_EYE_EYE_W]; omega) (by simp [R.KSL_LANE_EYE_EYE_W])).trans hwide, (hpart _ (by simp only [R.KSL_LANE_EYE_EYE_H]; omega) (by simp [R.KSL_LANE_EYE_EYE_H])).trans hhigh,
        fun _ => ⟨hmap, hflag, hcode⟩⟩
    · rw [if_neg hlow]
      exact ⟨hwide, hhigh, fun h => absurd h hlow⟩

end Sys2Proof.Machine
end

section
/-!
SUPPORT. Stripes (R518, R519, R523 to R527): self-tests, errors, stalls, rotations and switches, and the statement O54.
-/
namespace Sys2Proof.Machine

/-! ### Fields of the stripes -/

/-- A field of a stripe's word that is not its STATE. -/
theorem setStripe_fld_part (d : Dev) (n st : Nat) {g : Fld} (hg : 0xD00100 ≤ g.addr) (hlo : 3 ≤ g.lo) (hw : g.lo + g.w ≤ 32) : (d.setStripe n st).fld g = d.fld g := by
  refine setStripe_fld _ _ _ ?_ (apart_of_addr (by simp only [R.TST_ROT_STATUS_SPARE_READY]; omega) ⟨by decide, hw⟩)
  simp only [Fld.apart, R.TST_STRIPE_STATE_STATE]
  omega

/-- A field below the stripes' words, but for SPARE_READY. -/
theorem setStripe_fld_before (d : Dev) (n st : Nat) {g : Fld} (hg : g.addr < 0xD00100) (hw : g.lo + g.w ≤ 32) (hr : R.TST_ROT_STATUS_SPARE_READY.apart g) : (d.setStripe n st).fld g = d.fld g :=
  setStripe_fld _ _ _ (apart_of_addr (by simp only [R.TST_STRIPE_STATE_STATE]; omega) ⟨by simp [R.TST_STRIPE_STATE_STATE], hw⟩) hr

@[simp] theorem setStripe_rot (d : Dev) (n st : Nat) : (d.setStripe n st).rot = d.rot := by simp [Dev.setStripe, Dev.setFlag]
@[simp] theorem setStripe_host (d : Dev) (n st : Nat) : (d.setStripe n st).host = d.host := by simp [Dev.setStripe, Dev.setFlag]
@[simp] theorem setStripe_cfg (d : Dev) (n st : Nat) : (d.setStripe n st).cfg = d.cfg := by simp [Dev.setStripe, Dev.setFlag]

/-- Devices with the same host side have the same TEST of a stripe. -/
theorem stripeTest_congr {d e : Dev} (h : e.host = d.host) : e.stripeTest = d.stripeTest := by simp only [Dev.stripeTest, Dev.opsOf, Dev.ctxList, h]

section codes
variable (d : Dev) (n : Nat)

theorem stripeCode_fld {g : Fld} (hg : R.TST_LAST_ERR.apart g) (code : Nat) : (d.stripeCode n code).fld g = d.fld g := by
  have hpart : R.TST_LAST_ERR_CODE.apart g ∧ R.TST_LAST_ERR_STRIPE.apart g := by
    simp only [Fld.apart, R.TST_LAST_ERR, R.TST_LAST_ERR_CODE, R.TST_LAST_ERR_STRIPE] at hg ⊢
    omega
  rw [Dev.stripeCode, fld_setFld_apart _ _ _ _ hpart.2, fld_setFld_apart _ _ _ _ hpart.1]

theorem stripeCode_shown {code : Nat} (hn : n < 17) (hc : code < 65536) : (d.stripeCode n code).fld R.TST_LAST_ERR_CODE = code ∧ (d.stripeCode n code).fld R.TST_LAST_ERR_STRIPE = n := by
  refine ⟨?_, fld_setFld_fits _ _ _ ⟨by decide, by simp only [R.TST_LAST_ERR_STRIPE]; omega⟩⟩
  rw [Dev.stripeCode, fld_setFld_apart _ _ _ _ (by decide), fld_setFld_fits _ _ _ ⟨by decide, hc⟩]

/-- A stripe is FAILED, with its unit, its event and its code. -/
def Dev.stripeLost (d : Dev) (n unit : Nat) (event : Fld) (code : Nat) : Dev := (((d.setStripe n 4).setFld (R.TST_STRIPE_STATE_FAIL_UNIT n) unit).raise event).stripeCode n code

/-- What a failed stripe shows. -/
structure LostShown (t : Dev) (n unit : Nat) (event : Fld) (code : Nat) : Prop where
  state : t.stripeState n = 4
  unit : t.fld (R.TST_STRIPE_STATE_FAIL_UNIT n) = unit
  event : t.flag event = true
  code : t.fld R.TST_LAST_ERR_CODE = code
  stripe : t.fld R.TST_LAST_ERR_STRIPE = n

theorem stripeLost_shown {unit code : Nat} {event : Fld} (hn : n < 17) (hu : unit < 16) (hc : code < 65536) (he : tstEvent event) : LostShown (d.stripeLost n unit event code) n unit event code := by
  obtain ⟨ha, hw, hl⟩ := he
  have haddr : event.addr = 0xD00030 := ha
  have hkept : ∀ g : Fld, 0xD00100 ≤ g.addr → g.lo + g.w ≤ 32 → (d.stripeLost n unit event code).fld g = ((d.setStripe n 4).setFld (R.TST_STRIPE_STATE_FAIL_UNIT n) unit).fld g := fun g hg hgw => by
    rw [Dev.stripeLost, stripeCode_fld _ _ (apart_of_addr (by simp only [R.TST_LAST_ERR]; omega) ⟨by decide, hgw⟩), raise_fld_apart _ _ _ (apart_of_addr (by omega) ⟨hl, hgw⟩) (.inr (by omega))]
  refine ⟨?_, ?_, flag_of_fld_one ?_, (stripeCode_shown _ n hn hc).1, (stripeCode_shown _ n hn hc).2⟩
  · rw [Dev.stripeState, hkept _ (by simp [R.TST_STRIPE_STATE_STATE]) (by simp [R.TST_STRIPE_STATE_STATE]),
      fld_setFld_apart _ _ _ _ (by simp [Fld.apart, R.TST_STRIPE_STATE_STATE, R.TST_STRIPE_STATE_FAIL_UNIT])]
    exact setStripe_state d hn (by decide)
  · rw [hkept _ (by simp [R.TST_STRIPE_STATE_FAIL_UNIT]) (by simp [R.TST_STRIPE_STATE_FAIL_UNIT]), fld_setFld_fits _ _ _ ⟨by simp [R.TST_STRIPE_STATE_FAIL_UNIT], hu⟩]
  · rw [Dev.stripeLost, stripeCode_fld _ _ (apart_of_addr (by simp [haddr, R.TST_LAST_ERR]) ⟨by decide, hl⟩)]
    exact raise_fld _ _ hl hw (not_chanCount (.inr (by omega)))

theorem stripeLost_kept (unit code : Nat) (event : Fld) : (d.stripeLost n unit event code).rot = d.rot ∧ (d.stripeLost n unit event code).host = d.host := by simp [Dev.stripeLost, Dev.stripeCode]

/-- What is below the events of TST stays, but for SPARE_READY. -/
theorem stripeLost_fld_before (unit code : Nat) {event g : Fld} (he : tstEvent event) (hg : g.addr < 0xD00030) (hoff : g.offChan) (hw : g.lo + g.w ≤ 32) (hr : R.TST_ROT_STATUS_SPARE_READY.apart g) :
    (d.stripeLost n unit event code).fld g = d.fld g := by
  obtain ⟨ha, -, hl⟩ := he
  have haddr : event.addr = 0xD00030 := ha
  rw [Dev.stripeLost, stripeCode_fld _ _ (apart_of_addr (by simp only [R.TST_LAST_ERR]; omega) ⟨by decide, hw⟩), raise_fld_apart _ _ _ (apart_of_addr (by omega) ⟨hl, hw⟩) hoff,
    fld_setFld_apart _ _ _ _ (apart_of_addr (by simp only [R.TST_STRIPE_STATE_FAIL_UNIT]; omega) ⟨by simp [R.TST_STRIPE_STATE_FAIL_UNIT], hw⟩), setStripe_fld_before _ _ _ (by omega) hw hr]

end codes

/-- A further event leaves what a failed stripe shows. -/
theorem LostShown.of_fld {t u : Dev} {n unit code : Nat} {event : Fld} (h : LostShown t n unit event code)
    (hstripe : ∀ g : Fld, 0xD00038 ≤ g.addr → g.lo + g.w ≤ 32 → u.fld g = t.fld g) (hevent : u.fld event = t.fld event) : LostShown u n unit event code where
  state := (hstripe _ (by simp only [R.TST_STRIPE_STATE_STATE]; omega) (by simp [R.TST_STRIPE_STATE_STATE])).trans h.state
  unit := (hstripe _ (by simp only [R.TST_STRIPE_STATE_FAIL_UNIT]; omega) (by simp [R.TST_STRIPE_STATE_FAIL_UNIT])).trans h.unit
  event := (flag_congr hevent).trans h.event
  code := (hstripe _ (by decide) (by decide)).trans h.code
  stripe := (hstripe _ (by decide) (by decide)).trans h.stripe

/-- NO_SPARE is noted where a condition holds. -/
def Dev.spareNoted (d : Dev) (b : Bool) : Dev := if b then d.raise R.TST_EVENTS_NO_SPARE else d

theorem spareNoted_fld (d : Dev) (b : Bool) {g : Fld} (hg : R.TST_EVENTS_NO_SPARE.apart g) (hoff : g.offChan) : (d.spareNoted b).fld g = d.fld g := by
  cases b with
  | false => rfl
  | true => exact raise_fld_apart _ _ _ hg hoff

theorem spareNoted_kept (d : Dev) (b : Bool) : (d.spareNoted b).rot = d.rot ∧ (d.spareNoted b).host = d.host := by
  cases b with
  | false => exact ⟨rfl, rfl⟩
  | true => exact ⟨Dev.raise_rot .., Dev.raise_host ..⟩

theorem LostShown.spareNoted {t : Dev} {n unit code : Nat} {event : Fld} (h : LostShown t n unit event code) (he : R.TST_EVENTS_NO_SPARE.apart event) (hoff : event.offChan) (b : Bool) :
    LostShown (t.spareNoted b) n unit event code :=
  h.of_fld (fun _ hg hw => spareNoted_fld _ _ (apart_of_addr (by simp only [R.TST_EVENTS_NO_SPARE]; omega) ⟨by decide, hw⟩) (.inr (by omega))) (spareNoted_fld _ _ he hoff)

/-! ### Self-tests (R524) -/

/-- What the end of a self-test shows of its stripe. -/
def Dev.testShown (d : Dev) (n : Nat) (pass : Bool) (unit : Nat) : Dev :=
  if pass then (d.setStripe n 1).setFld (R.TST_UCODE_SEQ n) d.cfg.ucode
  else (d.stripeLost n unit R.TST_EVENTS_SELFTEST_FAIL 0xC005).spareNoted (d.stripeLost n unit R.TST_EVENTS_SELFTEST_FAIL 0xC005).spareReady.isNone

theorem testShown_kept (d : Dev) (n : Nat) (pass : Bool) (unit : Nat) : (d.testShown n pass unit).rot = d.rot ∧ (d.testShown n pass unit).host = d.host := by
  cases pass with
  | true => simp [Dev.testShown]
  | false =>
    obtain ⟨hrot, hhost⟩ := spareNoted_kept (d.stripeLost n unit R.TST_EVENTS_SELFTEST_FAIL 0xC005) (d.stripeLost n unit R.TST_EVENTS_SELFTEST_FAIL 0xC005).spareReady.isNone
    obtain ⟨hrot', hhost'⟩ := stripeLost_kept d n unit 0xC005 R.TST_EVENTS_SELFTEST_FAIL
    exact ⟨hrot.trans hrot', hhost.trans hhost'⟩

theorem testShown_phase (d : Dev) (n : Nat) (pass : Bool) (unit : Nat) : (d.testShown n pass unit).rotPhase = d.rotPhase := by
  have hucode : (R.TST_UCODE_SEQ n).apart R.TST_ROT_STATUS_PHASE := apart_of_addr (by simp only [R.TST_UCODE_SEQ, R.TST_ROT_STATUS_PHASE]; omega) (by simp [R.TST_UCODE_SEQ, R.TST_ROT_STATUS_PHASE])
  unfold Dev.rotPhase Dev.testShown
  split
  · rw [fld_setFld_apart _ _ _ _ hucode, setStripe_fld_before _ _ _ (by decide) (by decide) (by decide)]
  · rw [spareNoted_fld _ _ (by decide) (by decide), stripeLost_fld_before _ _ _ _ (by decide) (by decide) (by decide) (by decide) (by decide)]

/-- A TEST of the stripe ends with its self-test (R530). -/
def Dev.testEnded (d : Dev) (n : Nat) (pass : Bool) (unit : Nat) : Dev :=
  match d.stripeTest with
  | some (x, y) => if y.keep.getD 1 99 = n then (d.updCtx x fun y => { y with phase := 2, progress := 9 }).opEnd x 0 (b2n pass + (if pass then 0 else unit * 256)) 0 else d
  | none => d

/-- A rotation that waited for the self-test goes on (R519, R522). -/
def Dev.testRotated (d : Dev) (n : Nat) (pass : Bool) : Dev :=
  if d.rotPhase = 5 ∧ d.rot.source = n then
    if pass then d.rotOver 0 (d.stripeOf (d.fld R.TST_ROT_STATUS_ROLE) + n * 256) else d.rotOver 0xC005 0
  else match d.rot.again with
    | some r =>
      if n ≠ d.rot.spare then d
      else if pass then
        let d := d.setRot fun x => { x with waiting := (r, none) :: x.waiting }
        if d.rotPhase = 0 then d.rotIdle else d
      else d.setRot fun x => { x with again := none }
    | none => d

theorem selftestDone_eq (d : Dev) (n : Nat) (pass : Bool) (unit : Nat) :
    d.selftestDone n pass unit = if d.stripeState n ≠ 3 then d else ((d.testShown n pass unit).testEnded n pass unit).testRotated n pass := rfl

theorem testEnded_none {d : Dev} (h : d.stripeTest = none) (n : Nat) (pass : Bool) (unit : Nat) : d.testEnded n pass unit = d := by simp only [Dev.testEnded, h]

theorem testRotated_none {d : Dev} {n : Nat} (hphase : ¬(d.rotPhase = 5 ∧ d.rot.source = n)) (hagain : d.rot.again = none) (pass : Bool) : d.testRotated n pass = d := by
  simp only [Dev.testRotated, if_neg hphase, hagain]

/-- A self-test that no TEST, rotation or retry waits for. -/
theorem selftestDone_alone {d : Dev} {n : Nat} (pass : Bool) (unit : Nat) (h3 : d.stripeState n = 3) (htest : d.stripeTest = none) (hagain : d.rot.again = none) (hphase : ¬(d.rotPhase = 5 ∧ d.rot.source = n)) :
    d.selftestDone n pass unit = d.testShown n pass unit := by
  obtain ⟨hrot, hhost⟩ := testShown_kept d n pass unit
  rw [selftestDone_eq, if_neg (not_not.mpr h3), testEnded_none ((stripeTest_congr hhost).trans htest), testRotated_none (by rwa [testShown_phase, hrot]) (by rw [hrot, hagain])]

theorem testShown_passed (d : Dev) {n : Nat} (hn : n < 17) (unit : Nat) : (d.testShown n true unit).stripeState n = 1 ∧ (d.testShown n true unit).fld (R.TST_UCODE_SEQ n) = d.cfg.ucode % 2 ^ 32 := by
  refine ⟨?_, fld_setFld_same _ _ _ (by simp [R.TST_UCODE_SEQ])⟩
  have hapart : (R.TST_UCODE_SEQ n).apart (R.TST_STRIPE_STATE_STATE n) := apart_of_addr (by simp [R.TST_UCODE_SEQ, R.TST_STRIPE_STATE_STATE]) (by simp [R.TST_UCODE_SEQ, R.TST_STRIPE_STATE_STATE])
  rw [Dev.stripeState, Dev.testShown, if_pos rfl, fld_setFld_apart _ _ _ _ hapart]
  exact setStripe_state d hn (by decide)

theorem testShown_failed (d : Dev) {n unit : Nat} (hn : n < 17) (hu : unit < 16) : LostShown (d.testShown n false unit) n unit R.TST_EVENTS_SELFTEST_FAIL 0xC005 :=
  (stripeLost_shown d n hn hu (by decide) (by decide)).spareNoted (by decide) (by decide) _

/-! ### Stripes that fail (R525, R527) -/

/-- The role of a failed stripe is missing, and waits for a take-over. -/
def Dev.roleLost (d : Dev) (role : Option Nat) (mirrored : Bool) : Dev :=
  match role with
  | some r => (d.setFld R.GLB_MISSING (d.fld R.GLB_MISSING ||| 2 ^ r)).setRot fun x => { x with failed := x.failed ++ [(r, mirrored)], again := if x.again = some r then none else x.again }
  | none => d

/-- The spare of a mirror period failed. -/
def Dev.mirrorLost (d : Dev) (role : Option Nat) (n : Nat) : Dev := if role.isNone ∧ d.rot.spare = n then d.setRot fun x => { x with failed := x.failed.map fun f => (f.1, false) } else d

/-- A rotation ends with the failure of one of its stripes. -/
def Dev.rotationLost (d : Dev) (ph : Nat) (role : Option Nat) (mirrored : Bool) (n : Nat) : Dev :=
  if ph = 2 ∨ ph = 3 then
    if mirrored then d
    else if role.isSome then (d.setStripe d.rot.spare 1).rotOver 0xC006 0
    else d.rotOver 0xC006 0
  else if ph = 5 ∧ d.rot.source = n then d.rotOver 0xC006 0
  else d

/-- A TEST ends with the failure of its stripe. -/
def Dev.testLost (d : Dev) (n : Nat) : Dev :=
  match d.stripeTest with
  | some (x, y) => if y.keep.getD 1 99 = n then d.opEnd x 0xC006 0 0 else d
  | none => d

/-- A role without a spare is missing as a stripe. -/
def Dev.missingNoted (d : Dev) (b : Bool) : Dev := if b then d.setFlag R.GLB_MISSING_STRIPE true else d

/-- What a failure of a stripe does to its role, and to what runs on it. -/
def Dev.failOn (d : Dev) (ph : Nat) (role : Option Nat) (mirrored : Bool) (n : Nat) : Dev := (((d.roleLost role mirrored).mirrorLost role n).rotationLost ph role mirrored n).testLost n

/-- What a failure reports of the spare. -/
def Dev.spareReport (d : Dev) (role : Option Nat) (mirrored : Bool) (was : Nat) : Dev :=
  let e := d.spareNoted (role.isNone && d.spareReady.isNone)
  e.missingNoted (role.isSome && e.spareReady.isNone && !mirrored && decide (was = 0))

theorem stripeFail_eq (d : Dev) (n unit code : Nat) : let lost := d.stripeLost n unit R.TST_EVENTS_STRIPE_FAIL code; let mirrored := decide (d.rotPhase = 3) && decide (lost.rot.source = n)
    d.stripeFail n unit code = if d.stripeState n = 4 then d else (lost.failOn d.rotPhase (d.roleOf n) mirrored n).spareReport (d.roleOf n) mirrored (d.stripeState n) := rfl

section failing
variable (d : Dev)

theorem testLost_none {d : Dev} (h : d.stripeTest = none) (n : Nat) : d.testLost n = d := by simp only [Dev.testLost, h]

/-- The role's part in a failure leaves the words of TST and the host side. -/
theorem roleLost_kept (role : Option Nat) (mirrored : Bool) : (d.roleLost role mirrored).host = d.host ∧ (d.roleLost role mirrored).rot.source = d.rot.source ∧
    ∀ g : Fld, 0xD00000 ≤ g.addr → g.lo + g.w ≤ 32 → (d.roleLost role mirrored).fld g = d.fld g := by
  cases role with
  | none => exact ⟨rfl, rfl, fun _ _ _ => rfl⟩
  | some r => exact ⟨Dev.setFld_host .., by rw [Dev.roleLost, Dev.setRot, Dev.setFld_rot], fun g hg hw => fld_setFld_apart _ R.GLB_MISSING _ _ (apart_of_addr (by simp only [R.GLB_MISSING]; omega) ⟨by decide, hw⟩)⟩

theorem roleLost_some (r : Nat) (mirrored : Bool) (hr : r < 16) : (d.roleLost (some r) mirrored).fld (Fld.bit R.GLB_MISSING r) = 1 ∧ (d.roleLost (some r) mirrored).rot.failed = d.rot.failed ++ [(r, mirrored)] := by
  have hbit : bits (d.fld R.GLB_MISSING ||| 2 ^ r) r 1 = 1 := by
    have h := bitOf_or_two_pow (d.fld R.GLB_MISSING) r
    simpa [bitOf, bits] using h
  have hword : (d.setFld R.GLB_MISSING (d.fld R.GLB_MISSING ||| 2 ^ r)).fld (Fld.bit R.GLB_MISSING r) = bits (d.fld R.GLB_MISSING ||| 2 ^ r) (0 + r) 1 :=
    fld_setWord_part d _ ⟨rfl, rfl⟩ rfl (by simp only [Fld.bit, R.GLB_MISSING]; omega)
  rw [Nat.zero_add, hbit] at hword
  exact ⟨hword, by rw [Dev.roleLost, Dev.setRot, Dev.setFld_rot]⟩

theorem mirrorLost_kept (role : Option Nat) (n : Nat) : (d.mirrorLost role n).host = d.host ∧ (d.mirrorLost role n).rot.source = d.rot.source ∧ (∀ g, (d.mirrorLost role n).fld g = d.fld g) ∧
    (role.isSome = true → d.mirrorLost role n = d) := by
  unfold Dev.mirrorLost
  split
  · next h => exact ⟨rfl, rfl, fun _ => rfl, fun hs => by simp [Option.isNone_iff_eq_none.mp h.1] at hs⟩
  · exact ⟨rfl, rfl, fun _ => rfl, fun _ => rfl⟩

/-- Outside COPY, COMPARE and the self-test of the rotation's source, and without a TEST, a failure is of its role alone. -/
theorem failOn_alone {d : Dev} {ph n : Nat} (h2 : ph ≠ 2) (h3 : ph ≠ 3) (h5 : ¬(ph = 5 ∧ d.rot.source = n)) (htest : d.stripeTest = none) (role : Option Nat) (mirrored : Bool) :
    d.failOn ph role mirrored n = (d.roleLost role mirrored).mirrorLost role n := by
  obtain ⟨hhost, hsource, -⟩ := roleLost_kept d role mirrored
  obtain ⟨hhost', hsource', -⟩ := mirrorLost_kept (d.roleLost role mirrored) role n
  rw [Dev.failOn, Dev.rotationLost, if_neg (not_or.mpr ⟨h2, h3⟩), if_neg (by rwa [hsource', hsource]), testLost_none ((stripeTest_congr (hhost'.trans hhost)).trans htest)]

theorem spareReport_fld (role : Option Nat) (mirrored : Bool) (was : Nat) {g : Fld} (hs : R.TST_EVENTS_NO_SPARE.apart g) (hoff : g.offChan) (hm : R.GLB_MISSING_STRIPE.apart g) :
    (d.spareReport role mirrored was).fld g = d.fld g := by
  unfold Dev.spareReport Dev.missingNoted
  dsimp only
  split
  · exact (fld_setFld_apart _ _ _ _ hm).trans (spareNoted_fld _ _ hs hoff)
  · exact spareNoted_fld _ _ hs hoff

theorem spareReport_rot (role : Option Nat) (mirrored : Bool) (was : Nat) : (d.spareReport role mirrored was).rot = d.rot := by
  unfold Dev.spareReport Dev.missingNoted
  dsimp only
  split
  · exact (Dev.setFld_rot ..).trans (spareNoted_kept _ _).1
  · exact (spareNoted_kept _ _).1

end failing

section alone
variable {d : Dev} {n unit code : Nat} (h4 : d.stripeState n ≠ 4) (htest : d.stripeTest = none) (h2 : d.rotPhase ≠ 2) (h3 : d.rotPhase ≠ 3) (h5 : ¬(d.rotPhase = 5 ∧ d.rot.source = n))
include h4 htest h2 h3 h5

theorem stripeFail_alone : d.stripeFail n unit code =
    (((d.stripeLost n unit R.TST_EVENTS_STRIPE_FAIL code).roleLost (d.roleOf n) false).mirrorLost (d.roleOf n) n).spareReport (d.roleOf n) false (d.stripeState n) := by
  obtain ⟨hrot, hhost⟩ := stripeLost_kept d n unit code R.TST_EVENTS_STRIPE_FAIL
  rw [stripeFail_eq, if_neg h4, decide_eq_false h3, Bool.false_and, failOn_alone h2 h3 (by rwa [hrot]) ((stripeTest_congr hhost).trans htest)]

theorem stripeFail_shown (hn : n < 17) (hu : unit < 16) (hc : code < 65536) : LostShown (d.stripeFail n unit code) n unit R.TST_EVENTS_STRIPE_FAIL code := by
  have hkept : ∀ g : Fld, 0xD00030 ≤ g.addr → g.lo + g.w ≤ 32 → R.TST_EVENTS_NO_SPARE.apart g → (d.stripeFail n unit code).fld g = (d.stripeLost n unit R.TST_EVENTS_STRIPE_FAIL code).fld g := fun g hg hw hs => by
    obtain ⟨-, -, hrole⟩ := roleLost_kept (d.stripeLost n unit R.TST_EVENTS_STRIPE_FAIL code) (d.roleOf n) false
    obtain ⟨-, -, hmirror, -⟩ := mirrorLost_kept ((d.stripeLost n unit R.TST_EVENTS_STRIPE_FAIL code).roleLost (d.roleOf n) false) (d.roleOf n) n
    rw [stripeFail_alone h4 htest h2 h3 h5, spareReport_fld _ _ _ _ hs (.inr (by omega)) (apart_of_addr (by simp only [R.GLB_MISSING_STRIPE]; omega) ⟨by decide, hw⟩), hmirror, hrole _ (by omega) hw]
  exact (stripeLost_shown d n hn hu hc (by decide)).of_fld (fun g hg hw => hkept g (by omega) hw (apart_of_addr (by simp only [R.TST_EVENTS_NO_SPARE]; omega) ⟨by decide, hw⟩)) (hkept _ (by decide) (by decide) (by decide))

theorem stripeFail_role {r : Nat} (hr : d.roleOf n = some r) : (d.stripeFail n unit code).fld (Fld.bit R.GLB_MISSING r) = 1 ∧ (d.stripeFail n unit code).rot.failed = d.rot.failed ++ [(r, false)] := by
  have hr16 : r < 16 := List.mem_range.mp (List.mem_of_find?_eq_some hr)
  obtain ⟨hmissing, hfailed⟩ := roleLost_some (d.stripeLost n unit R.TST_EVENTS_STRIPE_FAIL code) r false hr16
  obtain ⟨-, -, -, hsame⟩ := mirrorLost_kept ((d.stripeLost n unit R.TST_EVENTS_STRIPE_FAIL code).roleLost (some r) false) (some r) n
  rw [stripeFail_alone h4 htest h2 h3 h5, hr, hsame rfl, spareReport_rot, hfailed, (stripeLost_kept d n unit code _).1]
  refine ⟨(spareReport_fld _ _ _ _ (apart_of_addr (by simp [Fld.bit, R.GLB_MISSING, R.TST_EVENTS_NO_SPARE]) ⟨by decide, by simp only [Fld.bit, R.GLB_MISSING]; omega⟩) (.inl (by simp [Fld.bit, R.GLB_MISSING])) ?_).trans hmissing, rfl⟩
  exact .inr ⟨rfl, by decide, by simp only [Fld.bit, R.GLB_MISSING]; omega, .inl (by simp only [Fld.bit, R.GLB_MISSING, R.GLB_MISSING_STRIPE]; omega)⟩

end alone

/-! ### Stalls, rotations and switches (R518, R519, R525) -/

/-- A role that is waited for has stalled. -/
theorem stripeStall_fails {d : Dev} {n r : Nat} (hr : d.roleOf n = some r) (ht : tget 0 d.rot.stallAt r ≠ 0) (hf : d.mode.framed = true) (hw : d.waitedAt d.blv.nextRow r = true) : let t := tget 0 d.rot.stallAt r
    d.stripeStall n = (d.advance (max d.time (t - 1 + usCycles (max (d.fld R.TST_STALL_US) 1)))).stripeFail n 0 0xC006 := by
  have hruns : ¬(tget 0 d.rot.stallAt r = 0 ∨ !d.mode.framed ∨ !(d.waitedAt d.blv.nextRow r)) := by simp [ht, hf, hw]
  simp only [Dev.stripeStall, hr, if_neg hruns]

@[simp] theorem advance_rot (d : Dev) (t : Nat) : (d.advance t).rot = d.rot := by rw [(timeStep_advance d t).rest]

theorem rotIdle_rot (d : Dev) : d.rotIdle.rot = d.rot := by
  unfold Dev.rotIdle
  split <;> simp

theorem rotAdd_waiting (d : Dev) (role : Nat) (op : Option Nat) : (d.rotAdd role op).rot.waiting = d.rot.waiting ++ [(role, op)] := by
  unfold Dev.rotAdd
  dsimp only
  split
  · rw [rotIdle_rot]
    rfl
  · rfl

theorem nextRole_congr {d e : Dev} (h : e.rot = d.rot) : e.nextRole = d.nextRole := by simp only [Dev.nextRole, h]
theorem nextRole_after {d : Dev} {r : Nat} (h : d.rot.last = some r) : d.nextRole = (r + 1) % 16 := by simp only [Dev.nextRole, h]

/-- A scheduled rotation falls due. -/
theorem rotationDue_added {d : Dev} (hen : d.flag R.TST_ROT_CTRL_ROTATE_EN = true) (hp : d.fld R.TST_ROT_CTRL_ROTATE_PERIOD ≠ 0) (hfrom : d.rot.from_ ≠ 0) (hs : d.scheduled = false) (ha : d.rot.again = none) :
    let e := d.advance (max d.time (d.rot.from_ + d.fld R.TST_ROT_CTRL_ROTATE_PERIOD * usCycles 1000000))
    d.rotationDue = e.rotAdd e.nextRole none := by
  have hdue : ¬(!(d.flag R.TST_ROT_CTRL_ROTATE_EN) ∨ d.fld R.TST_ROT_CTRL_ROTATE_PERIOD = 0 ∨ d.rot.from_ = 0 ∨ d.scheduled ∨ d.rot.again.isSome) := by simp [hen, hp, hfrom, hs, ha]
  exact if_neg hdue

/-- The old stripe becomes the spare. -/
def Dev.sourceFreed (d : Dev) : Dev := (d.setFld R.TST_ROT_STATUS_SPARE d.rot.source).setFlag (R.STR_LBL_STATUS_EMITTING d.rot.source) false

/-- Its self-test starts. -/
def Dev.sourceTested (d : Dev) : Dev := (d.sourceFreed.setFld R.TST_ROT_STATUS_PHASE 5).setStripe d.rot.source 3

theorem rotationSwitchDone_eq {d : Dev} (h4 : d.rotPhase = 4) (hdone : d.switchDone = true) :
    d.rotationSwitchDone = if d.sourceFreed.stripeState d.rot.source = 4 then (d.sourceFreed.raise R.TST_EVENTS_NO_SPARE).rotOver 0xC006 0 else d.sourceTested.rotOp 3 := by
  have hruns : ¬(d.rotPhase ≠ 4 ∨ !d.switchDone) := by simp [h4, hdone]
  rw [Dev.rotationSwitchDone, if_neg hruns]
  rfl

@[simp] theorem sourceFreed_rot (d : Dev) : d.sourceFreed.rot = d.rot := by simp [Dev.sourceFreed, Dev.setFlag]

theorem sourceFreed_state (d : Dev) : d.sourceFreed.stripeState d.rot.source = d.stripeState d.rot.source := by
  simp only [Dev.sourceFreed, Dev.stripeState, Dev.setFlag]
  rw [fld_setFld_apart _ _ _ _ (apart_of_addr (by simp only [R.STR_LBL_STATUS_EMITTING, R.TST_STRIPE_STATE_STATE]; omega) (by simp [R.STR_LBL_STATUS_EMITTING, R.TST_STRIPE_STATE_STATE])),
    fld_setFld_apart _ _ _ _ (apart_of_addr (by simp only [R.TST_ROT_STATUS_SPARE, R.TST_STRIPE_STATE_STATE]; omega) (by simp [R.TST_ROT_STATUS_SPARE, R.TST_STRIPE_STATE_STATE]))]

theorem sourceTested_fields {d : Dev} (hs : d.rot.source < 17) : d.sourceTested.rotPhase = 5 ∧ d.sourceTested.fld R.TST_ROT_STATUS_SPARE = d.rot.source ∧ d.sourceTested.stripeState d.rot.source = 3 ∧
    d.sourceTested.fld (R.STR_LBL_STATUS_EMITTING d.rot.source) = 0 := by
  have hemit : ∀ g : Fld, g.addr < 0x1002800 → g.lo + g.w ≤ 32 → g.apart (R.STR_LBL_STATUS_EMITTING d.rot.source) ∧ (R.STR_LBL_STATUS_EMITTING d.rot.source).apart g := fun g hg hw =>
    ⟨apart_of_addr (by simp only [R.STR_LBL_STATUS_EMITTING]; omega) ⟨hw, by simp [R.STR_LBL_STATUS_EMITTING]⟩, apart_of_addr (by simp only [R.STR_LBL_STATUS_EMITTING]; omega) ⟨by simp [R.STR_LBL_STATUS_EMITTING], hw⟩⟩
  refine ⟨?_, ?_, setStripe_state _ hs (by decide), ?_⟩
  · rw [Dev.rotPhase, Dev.sourceTested, setStripe_fld_before _ _ _ (by decide) (by decide) (by decide), fld_setFld_fits _ _ _ (by decide)]
  · rw [Dev.sourceTested, setStripe_fld_before _ _ _ (by decide) (by decide) (by decide), fld_setFld_apart _ _ _ _ (by decide)]
    simp only [Dev.sourceFreed, Dev.setFlag]
    rw [fld_setFld_apart _ _ _ _ (hemit _ (by decide) (by decide)).2, fld_setFld_fits _ _ _ ⟨by decide, by simp only [R.TST_ROT_STATUS_SPARE]; omega⟩]
  · rw [Dev.sourceTested, setStripe_fld _ _ _ (hemit _ (by simp only [R.TST_STRIPE_STATE_STATE]; omega) (by simp [R.TST_STRIPE_STATE_STATE])).1 (hemit _ (by decide) (by decide)).1,
      fld_setFld_apart _ _ _ _ (hemit _ (by decide) (by decide)).1]
    exact fld_setFld_fits _ _ _ (by simp [R.STR_LBL_STATUS_EMITTING, b2n])

theorem rotOp_none {d : Dev} (h : d.rot.op = none) (phase : Nat) : d.rotOp phase = d := by simp only [Dev.rotOp, h]

theorem sourceTested_rot (d : Dev) : d.sourceTested.rot = d.rot := by simp [Dev.sourceTested]

/-- Settles O54: self-tests and failures by what they show of the stripe, rotations by their queue, and the switch by `rotationSwitchDone_eq`. -/
theorem rotationRows : Obligations.RotationRows := by
  unfold Obligations.RotationRows
  intro s hm p
  refine ⟨fun n unit h3 htest hagain hphase => ⟨?passed, ?failed⟩, fun n => ⟨?corrected, exec_run_eq (exec_stripeError s n .stripeStore) hm rfl, exec_run_eq (exec_stripeError s n .microcodeStore) hm rfl,
    exec_run_eq (exec_stripeError s n .microcodeParity) hm rfl, ?stall, fun d unit code h4 htest h2 h3 h5 hu hc => ?fail⟩, fun hen hp hfrom hs ha => ?due, fun h4 hdone => ⟨fun hsource => ?spent, fun hsource hn hop => ?switched⟩⟩
  case passed => exact ⟨_, exec_run_eq (exec_selftestDone s n true unit) hm (selftestDone_alone (d := s.start) true unit.val h3 htest hagain hphase), testShown_passed s.start n.isLt unit.val⟩
  case failed =>
    obtain ⟨hstate, hunit, hevent, hcode, hstripe⟩ := testShown_failed s.start n.isLt unit.isLt
    exact ⟨_, exec_run_eq (exec_selftestDone s n false unit) hm (selftestDone_alone (d := s.start) false unit.val h3 htest hagain hphase), hstate, hunit, hevent, hcode, hstripe⟩
  case corrected =>
    refine ⟨_, exec_run_eq (exec_stripeError s n .corrected) hm rfl, fld_bump_same _ _ (by simp [R.TST_STRIPE_STATE_CE_CNT]), keeps_bump s.start (R.TST_STRIPE_STATE_CE_CNT n) (by simp [R.TST_STRIPE_STATE_CE_CNT])⟩
  case stall =>
    intro r hr t ht hf hw
    exact exec_run_eq (exec_stripeStall s n) hm (stripeStall_fails (d := s.start) hr ht hf hw)
  case fail =>
    intro t
    obtain ⟨hstate, hunit, hevent, hcode, hstripe⟩ := stripeFail_shown (unit := unit) (code := code) h4 htest h2 h3 h5 n.isLt hu hc
    exact ⟨hstate, hunit, hevent, hcode, hstripe, fun r hr => stripeFail_role h4 htest h2 h3 h5 hr⟩
  case due =>
    intro e
    have hrot : e.rot = s.dev.rot := advance_rot s.start _
    refine ⟨exec_run_eq (exec_rotationDue s) hm (rotationDue_added (d := s.start) hen hp hfrom hs ha), ?_, fun r hr => nextRole_after (d := s.start) hr⟩
    rw [rotAdd_waiting, hrot, nextRole_congr (d := s.start) hrot]
  case spent =>
    have hend := (rotationSwitchDone_eq (d := s.start) h4 hdone).trans (if_pos ((sourceFreed_state s.start).trans hsource))
    exact ⟨s.start.sourceFreed.raise R.TST_EVENTS_NO_SPARE, exec_run_eq (exec_rotationSwitchDone s) hm hend, flag_of_fld_one (raise_fld _ _ (by decide) rfl (not_chanCount (by decide))),
      (Dev.raise_rot ..).trans (sourceFreed_rot s.start)⟩
  case switched =>
    have hend := (rotationSwitchDone_eq (d := s.start) h4 hdone).trans (if_neg fun h => hsource ((sourceFreed_state s.start).symm.trans h))
    rw [rotOp_none ((congrArg RotState.op (sourceTested_rot s.start)).trans hop)] at hend
    exact ⟨_, exec_run_eq (exec_rotationSwitchDone s) hm hend, sourceTested_fields (d := s.start) hn⟩

end Sys2Proof.Machine
end
